-- ==== Sys2Proof/Word.lean ====
section
/-! DEFINITION. The word and byte types of the ledger and of the wire, and their plainest arithmetic. -/

namespace Sys2Proof

/-- A ledger register (spec/00_scope.md, "Registers: the ledger"): 32 bits, bit 0 least significant. -/
abbrev Word := BitVec 32

/-- A byte of a frame, of the flash or of the Basin. -/
abbrev Byte := BitVec 8

end Sys2Proof
end

