-- ==== Sys2Proof/Syntax.lean ====
section
/-! DEFINITION. The commands of the block: one constructor per row of the table of operations and events, with the wire
formats and outside inputs they carry. Every command's first operand is the instant it happens: nanoseconds of the local
oscillator since power was first applied. -/

namespace Sys2Proof.Machine

/-- An Ethernet frame received on a ring port: its bytes from the destination address to the last byte before the FCS, the FCS, and what the
receive PCS found (R111, R116, R117). -/
structure Frame where
  data    : List Byte
  fcs     : Nat
  /-- codewords corrected and codewords uncorrectable in this frame -/
  corr    : Nat
  unc     : Nat
  /-- the codeword that holds frame byte 63 is uncorrectable -/
  headBad : Bool
  deriving DecidableEq, Repr

/-- The strap pins (R71). -/
structure Straps where
  /-- PAIR_ROLE sampled high with the pull-up applied, and with the pull-down (R390) -/
  pairUp   : Bool
  pairDown : Bool
  bootBank : Bool
  addr0    : Bool
  addr1    : Bool
  testEn   : Bool
  deriving DecidableEq, Repr

/-- What the factory programmed into OTP (R100, R115, R132, and TOP_UID). -/
structure Otp where
  /-- four key-hash slots, each empty or 48 bytes -/
  slots   : List (List Byte)
  /-- revoke bits -/
  revoked : Nat
  /-- number of epoch bits set, 0 to 64 -/
  epoch   : Nat
  uid     : Nat
  mac     : Nat
  /-- device private key and its public key, X then Y; empty when none -/
  devKey  : List Byte
  devPub  : List Byte
  deriving DecidableEq, Repr

/-- The output pulses that end by themselves (R148, R370, R371). -/
inductive PulsePin where
  | pps | evt (n : Nat) | fsync (m : Nat) | strobe
  deriving DecidableEq, Repr

/-- A message as a towpath lane carries it (R396): the lane, the START block, the data blocks' bytes, the END block, and whether every sync
header was valid. -/
structure TowMsg where
  lane  : Nat
  start : Nat
  data  : List Byte
  stop  : Nat
  sync  : Bool
  deriving DecidableEq, Repr

/-- What the link training of a ring lane does (R325): the partner's requests to the device's transmitter (tap in the order of REQ of R326, up or
down), and the device's tries on the partner's (up or down, with the figure of merit that followed). -/
structure LinkTrain where
  reqs  : List (Nat × Bool)
  first : Nat
  tries : List (Bool × Nat)
  deriving DecidableEq, Repr

/-- Where a lane passes the training pattern (R264), each range from its first to its last passing step, none where the first is the greater: read
delays, read reference codes at their centre, read delays once more, and the same for the write path. -/
structure LaneEyes where
  rd1   : Nat × Nat
  rdRef : Nat × Nat
  rd2   : Nat × Nat
  wr1   : Nat × Nat
  wrRef : Nat × Nat
  wr2   : Nat × Nat
  deriving DecidableEq, Repr

/-- A lane that passes at every step. -/
def LaneEyes.clear : LaneEyes := { rd1 := (0, 127), rdRef := (0, 255), rd2 := (0, 127), wr1 := (0, 127), wrRef := (0, 255), wr2 := (0, 127) }

/-- What training finds in a stack (R264): its 160 lanes in order, and the spare lanes by the lane they would take the place of. A lane that
is not given passes at every step. -/
structure TrainRes where
  lanes  : List LaneEyes
  spares : List (Nat × LaneEyes)
  deriving DecidableEq, Repr

/-- One eye measured by the auxiliary slicer (R321): at each step of its threshold up and down from the eye's main threshold, in how many
of 2^20 symbols the two slicers differ. -/
structure EyeMeas where
  up   : List Nat
  down : List Nat
  deriving DecidableEq, Repr

/-- The three eyes of a PAM4 receiver (R321). -/
structure Eyes where
  upper  : EyeMeas
  middle : EyeMeas
  lower  : EyeMeas
  deriving DecidableEq, Repr

/-- A ring port whose link comes up (R125), with the link training of its lanes (R325). -/
structure LinkEnd where
  port  : Nat
  train : List LinkTrain
  deriving DecidableEq, Repr

/-- A read of the Basin (R258, R259): its byte address, the bytes of the codeword that are found wrong, by position and difference, whether the
parity of its command failed so that the command was sent again, and whether the stack's on-die ECC reports. -/
structure BasinRead where
  addr  : Nat
  errs  : List (Nat × Nat)
  retry : Bool
  onDie : Bool
  deriving DecidableEq, Repr

/-- Sync headers that a receiver sees (R319): its lane, and of each whether it is valid. -/
structure LaneHeads where
  lane  : Nat
  heads : List Bool
  deriving DecidableEq, Repr

/-- What the LMS of a receiver ends with (R322): the DFE tap and the taps of the FFE. -/
structure RxTaps where
  dfe : Int
  ffe : List Int
  deriving DecidableEq, Repr

end Sys2Proof.Machine

namespace Sys2Proof

open Sys2Proof.Machine

/-- The commands and events of the block, in the order of the table. -/
inductive Instr where
  /-- REGISTER_WRITE (R7) -/
  | registerWrite (t : Nat) (sid addr : Nat) (value : Word)
  /-- LOCK_CLOSE (R34) -/
  | lockClose (t : Nat)
  /-- LEVEL_STAGE (R36) -/
  | levelStage (t : Nat) (block inst : Nat)
  /-- LEVEL_REPORT_RECEIVED (R36) -/
  | levelReportReceived (t : Nat) (block crcFlip : Nat)
  /-- LEVEL_WINDOW_EXPIRY (R34) -/
  | levelWindowExpiry (t : Nat)
  /-- COMMIT_TOKEN (R39) -/
  | commitToken (t : Nat) (block inst : Nat)
  /-- LOCK_CYCLE_END (R40) -/
  | lockCycleEnd (t : Nat)
  /-- FORCED_UNIT_RESET (R45) -/
  | forcedUnitReset (t : Nat) (block : Nat)
  /-- UNIT_RELOAD (R44) -/
  | unitReload (t : Nat) (block inst : Nat)
  /-- BARGE_TAKE (R43) -/
  | bargeTake (t : Nat) (block inst : Nat)
  /-- SHADOW_DISCARD (R31) -/
  | shadowDiscard (t : Nat) (value : Word)
  /-- TOP_MODE_WRITE (R54) -/
  | topModeWrite (t : Nat) (value : Word)
  /-- GPIO_SAMPLE (R56) -/
  | gpioSample (t : Nat) (levels : Nat)
  /-- GPIO_ACCEPT (R56) -/
  | gpioAccept (t : Nat)
  /-- POR_ASSERT (R79) -/
  | porAssert (t : Nat)
  /-- POR_DEASSERT (R70) -/
  | porDeassert (t : Nat) (below : Nat)
  /-- SEQ_CHECK_RETRY (R70) -/
  | seqCheckRetry (t : Nat) (below : Nat)
  /-- RESET_EXIT (R102) -/
  | resetExit (t : Nat) (straps : Straps) (otp : Option Otp) (flashSize : Nat) (flash : List (Nat × List Byte))
  /-- WARN_TRIP (R82) -/
  | warnTrip (t : Nat) (mon : Nat)
  /-- BRACE_EVENT_WINDOW (R83) -/
  | braceEventWindow (t : Nat)
  /-- BRACE_END (R82) -/
  | braceEnd (t : Nat)
  /-- RESET_TRIP (R79) -/
  | resetTrip (t : Nat) (mon : Nat)
  /-- OVERVOLT_TRIP (R84) -/
  | overvoltTrip (t : Nat) (mon : Nat)
  /-- PWR_RESET_WARM (R79) -/
  | pwrResetWarm (t : Nat) (value : Word)
  /-- TRST_ASSERT (R79) -/
  | trstAssert (t : Nat)
  /-- FLIGHT_SLOT (R74) -/
  | flightSlot (t : Nat)
  /-- DOMAIN_POWER_GOOD (R74) -/
  | domainPowerGood (t : Nat)
  /-- POWER_GOOD_TIMEOUT (R77) -/
  | powerGoodTimeout (t : Nat)
  /-- DOMAIN_DRAINED (R52) -/
  | domainDrained (t : Nat) (dom : Nat)
  /-- DOM_FAIL_CLEAR (R77) -/
  | domFailClear (t : Nat) (k : Nat) (value : Word)
  /-- IMAGE_HEADER_READ (R94) -/
  | imageHeaderRead (t : Nat) (dqsFails : Nat)
  /-- IMAGE_FIRST_PASS_DONE (R99) -/
  | imageFirstPassDone (t : Nat)
  /-- IMAGE_SECOND_PASS_DONE (R103) -/
  | imageSecondPassDone (t : Nat) (sameDigest : Bool)
  /-- BOOT_FREE_RUN_TIMEOUT (R102) -/
  | bootFreeRunTimeout (t : Nat)
  /-- BOOT_FIRST_CLOSE_SET (R150) -/
  | bootFirstCloseSet (t : Nat)
  /-- UPD_START (R104) -/
  | updStart (t : Nat)
  /-- UPD_VERIFY (R104) -/
  | updVerify (t : Nat)
  /-- UPD_COMMIT (R106) -/
  | updCommit (t : Nat)
  /-- UPD_ABORT (R104) -/
  | updAbort (t : Nat)
  /-- UPD_DATA (R104) -/
  | updData (t : Nat) (value : Word)
  /-- UPD_LEN_WRITE (R104) -/
  | updLenWrite (t : Nat) (value : Word)
  /-- UPD_VERIFY_DONE (R104) -/
  | updVerifyDone (t : Nat) (readErr : Bool)
  /-- CAL_SAVE (R109) -/
  | calSave (t : Nat) (value : Word)
  /-- NVM_OP_DONE (R107) -/
  | nvmOpDone (t : Nat) (same : Bool)
  /-- NVM_OP_TIMEOUT (R107) -/
  | nvmOpTimeout (t : Nat)
  /-- ERASE_SUSPENDED (R108) -/
  | eraseSuspended (t : Nat)
  /-- RING_FRAME_RX (R116) -/
  | ringFrameRx (t : Nat) (port : Nat) (f : Frame)
  /-- TX_FRAME_BOUNDARY (R122) -/
  | txFrameBoundary (t : Nat) (port : Nat)
  /-- LOOPBACK_PASS (R124) -/
  | loopbackPass (t : Nat)
  /-- LOOPBACK_TIMEOUT (R124) -/
  | loopbackTimeout (t : Nat)
  /-- WEIR_RETRY (R124) -/
  | weirRetry (t : Nat)
  /-- LINK_UP (R125) -/
  | linkUp (t : Nat) (link : LinkEnd)
  /-- LINK_DOWN (R125) -/
  | linkDown (t : Nat) (port cause : Nat)
  /-- PLIASH_PACKET (R128) -/
  | pliashPacket (t : Nat)
  /-- PARITY_WAIT_EXPIRY (R131) -/
  | parityWaitExpiry (t : Nat) (grp chan k : Nat)
  /-- IGMP_QUERY (R127) -/
  | igmpQuery (t : Nat)
  /-- KEY_MESSAGE (R134) -/
  | keyMessage (t : Nat)
  /-- PTP_ANNOUNCE (R140) -/
  | ptpAnnounce (t : Nat)
  /-- PTP_SYNC (R143) -/
  | ptpSync (t : Nat)
  /-- PTP_DELAY_RESP (R141) -/
  | ptpDelayResp (t : Nat)
  /-- DELAY_REQ_TIMER (R141) -/
  | delayReqTimer (t : Nat)
  /-- TIME_PORT_TIMEOUT (R140) -/
  | timePortTimeout (t : Nat) (missed : Nat)
  /-- ANNOUNCE_TIMEOUT (R146) -/
  | announceTimeout (t : Nat)
  /-- TIME_LOCK_CHANGE (R144) -/
  | timeLockChange (t : Nat)
  /-- PPS_SECOND (R148) -/
  | ppsSecond (t : Nat)
  /-- TIME_EVT_PERIODIC (R148) -/
  | timeEvtPeriodic (t : Nat) (n : Nat)
  /-- PULSE_WIDTH_EXPIRY (R148) -/
  | pulseWidthExpiry (t : Nat) (pin : PulsePin)
  /-- TIME_CAPTURE (R148) -/
  | timeCapture (t : Nat) (input : Nat) (rising : Bool)
  /-- REPLICA_REALIGN (R151) -/
  | replicaRealign (t : Nat)
  /-- LAUNCH_ARM (R151) -/
  | launchArm (t : Nat)
  /-- LAUNCH_SLOT (R301) -/
  | launchSlot (t : Nat)
  /-- TIMED_EGRESS_DUE (R154) -/
  | timedEgressDue (t : Nat) (port : Nat)
  /-- TIMED_EGRESS_DROP (R155) -/
  | timedEgressDrop (t : Nat) (port : Nat)
  /-- SCENE_UNIT (R161) -/
  | sceneUnit (t : Nat)
  /-- CMDLIST_UNIT (R168) -/
  | cmdlistUnit (t : Nat)
  /-- MAP_UNIT (R166) -/
  | mapUnit (t : Nat)
  /-- CHUNK_UNIT (R181) -/
  | chunkUnit (t : Nat)
  /-- CHUNK_DISPATCH (R188) -/
  | chunkDispatch (t : Nat)
  /-- CHUNK_DONE (R187) -/
  | chunkDone (t : Nat) (core : Nat)
  /-- CHUNK_ABANDON (R190) -/
  | chunkAbandon (t : Nat) (core : Nat)
  /-- LOAD_ESTIMATE_DONE (R243) -/
  | loadEstimateDone (t : Nat)
  /-- BLOCK_ISSUE (R219) -/
  | blockIssue (t : Nat)
  /-- BLOCK_DONE (R224) -/
  | blockDone (t : Nat) (cluster : Nat) (mismatch : Bool)
  /-- BASIN_TRAIN_DONE (R264) -/
  | basinTrainDone (t : Nat) (rs : List TrainRes)
  /-- BASIN_TRAIN_RETRY (R266) -/
  | basinTrainRetry (t : Nat)
  /-- BASIN_EYE_TRACK (R267) -/
  | basinEyeTrack (t : Nat) (moves : List (Nat × Nat × Int))
  /-- BASIN_REFRESH (R268) -/
  | basinRefresh (t : Nat) (stack : Nat)
  /-- SELF_REFRESH_ENTER (R269) -/
  | selfRefreshEnter (t : Nat)
  /-- SELF_REFRESH_EXIT_DONE (R269) -/
  | selfRefreshExitDone (t : Nat) (rs : List TrainRes)
  /-- SCRUB_GRANULE (R270) -/
  | scrubGranule (t : Nat) (errs : List (Nat × Nat))
  /-- BASIN_CORRECTED_READ (R260) -/
  | basinCorrectedRead (t : Nat) (r : BasinRead)
  /-- BASIN_UNCORRECTABLE_READ (R272) -/
  | basinUncorrectableRead (t : Nat) (r : BasinRead) (reader item px : Nat)
  /-- BASIN_FLUSH_DONE (R281) -/
  | basinFlushDone (t : Nat) (source : Nat)
  /-- QUAR_CLEAR (R271) -/
  | quarClear (t : Nat) (value : Word)
  /-- TUG_UPDATE_START (R291) -/
  | tugUpdateStart (t : Nat)
  /-- TUG_UPDATE_DONE (R294) -/
  | tugUpdateDone (t : Nat) (n : Nat) (abort : Option Nat)
  /-- SCAN_UNDERRUN (R305) -/
  | scanUnderrun (t : Nat) (lane : Nat)
  /-- FRAME_END_CODE (R298) -/
  | frameEndCode (t : Nat)
  /-- SCAN_CHECK_DONE (R308) -/
  | scanCheckDone (t : Nat) (n : Nat)
  /-- OWN_SAMPLE (R311) -/
  | ownSample (t : Nat) (level : Bool) (sides : List (List Byte))
  /-- OWN_IN_ASSERTED (R311) -/
  | ownInAsserted (t : Nat)
  /-- BLOCK_LOCK_ACQUIRED (R319) -/
  | blockLockAcquired (t : Nat) (h : LaneHeads)
  /-- BLOCK_LOCK_LOST (R319) -/
  | blockLockLost (t : Nat) (n : Nat) (hdrs : List Bool)
  /-- RX_ADAPT_DONE (R322) -/
  | rxAdaptDone (t : Nat) (n : Nat) (cands : List Eyes) (eyes : Eyes) (taps : RxTaps)
  /-- FOM_MONITOR (R323) -/
  | fomMonitor (t : Nat) (n : Nat) (eyes : Eyes)
  /-- SIDEBAND_POLL (R351) -/
  | sidebandPoll (t : Nat) (reads : List (List Byte)) (accepts : List Byte)
  /-- BC_REQUEST_APPLY (R328) -/
  | bcRequestApply (t : Nat)
  /-- BC_TRAIN_TIMEOUT (R327) -/
  | bcTrainTimeout (t : Nat)
  /-- MON_CFG_WRITE (R329) -/
  | monCfgWrite (t : Nat) (value : Word)
  /-- MON_EYE_SCAN (R330) -/
  | monEyeScan (t : Nat)
  /-- MON_SCAN_DONE (R330) -/
  | monScanDone (t : Nat) (eyes : List Eyes)
  /-- PRBS_SYNC_CHANGE (R334) -/
  | prbsSyncChange (t : Nat) (n : Nat) (blocks : List Nat) (bits : List Bool) (symbols : List Nat)
  /-- ERROR_INJECT (R335) -/
  | errorInject (t : Nat) (n : Nat) (value : Word)
  /-- PANEL_SEQ_STEP (R337) -/
  | panelSeqStep (t : Nat)
  /-- PGOOD_ASSERT (R337) -/
  | pgoodAssert (t : Nat) (ident status : List Byte)
  /-- PGOOD_TIMEOUT (R339) -/
  | pgoodTimeout (t : Nat)
  /-- PGOOD_LOST (R339) -/
  | pgoodLost (t : Nat)
  /-- DISCHARGE_END (R338) -/
  | dischargeEnd (t : Nat)
  /-- PANEL_RETRY_WAIT (R340) -/
  | panelRetryWait (t : Nat)
  /-- VREF_POINT (R343) -/
  | vrefPoint (t : Nat) (k : Nat)
  /-- VIN_TRIP (R346) -/
  | vinTrip (t : Nat)
  /-- CRACK_LATCH (R348) -/
  | crackLatch (t : Nat)
  /-- CRACK_CLEAR (R348) -/
  | crackClear (t : Nat) (value : Word)
  /-- CSI_FRAME_START (R361) -/
  | csiFrameStart (t : Nat) (port : Nat) (hdr : List Byte) (lost : Option Nat)
  /-- CSI_LINE (R362) -/
  | csiLine (t : Nat) (port : Nat) (hdr : List Byte) (lost : Option Nat) (data : List Byte) (crc0 crc1 : Byte)
  /-- CSI_FRAME_END (R366) -/
  | csiFrameEnd (t : Nat) (port : Nat) (hdr : List Byte) (lost : Option Nat)
  /-- PIPE_LINE_TAKE (R362) -/
  | pipeLineTake (t : Nat) (port : Nat)
  /-- CAM_SENSOR_START (R360) -/
  | camSensorStart (t : Nat) (n : Nat)
  /-- CCI_WRITE_DONE (R358) -/
  | cciWriteDone (t : Nat) (port : Nat) (ack : Bool)
  /-- CCI_DELAY_EXPIRY (R360) -/
  | cciDelayExpiry (t : Nat) (n : Nat)
  /-- FSYNC_PULSE (R370) -/
  | fsyncPulse (t : Nat) (m p : Nat)
  /-- STROBE_PULSE (R371) -/
  | strobePulse (t : Nat)
  /-- GLINT_PAIR (R372) -/
  | glintPair (t : Nat) (p : Nat)
  /-- ENC_PICTURE_START (R383) -/
  | encPictureStart (t : Nat)
  /-- ENC_ROW_DONE (R384) -/
  | encRowDone (t : Nat)
  /-- ENC_IDR (R378) -/
  | encIdr (t : Nat) (stream : Nat) (value : Word)
  /-- HB_TICK (R397) -/
  | hbTick (t : Nat)
  /-- HB_LOST (R406) -/
  | hbLost (t : Nat)
  /-- TOW_HB (R397) -/
  | towHb (t : Nat) (m : TowMsg)
  /-- TOW_SEAL (R405) -/
  | towSeal (t : Nat) (m : TowMsg)
  /-- DELTA_EYES (R399) -/
  | deltaEyes (t : Nat) (m : TowMsg)
  /-- DELTA_RUNG (R399) -/
  | deltaRung (t : Nat) (m : TowMsg)
  /-- DELTA_SNAPSHOT (R414) -/
  | deltaSnapshot (t : Nat) (m : TowMsg)
  /-- DELTA_SURFACE (R414) -/
  | deltaSurface (t : Nat) (m : TowMsg)
  /-- REPAIR_WANT (R402) -/
  | repairWant (t : Nat) (m : TowMsg)
  /-- REPAIR_HAVE (R402) -/
  | repairHave (t : Nat) (m : TowMsg)
  /-- REPAIR_NONE (R400) -/
  | repairNone (t : Nat) (m : TowMsg)
  /-- REPAIR_WAIT_EXPIRY (R402) -/
  | repairWaitExpiry (t : Nat) (grp chan k : Nat)
  /-- TOW_MSG_LOST (R396) -/
  | towMsgLost (t : Nat) (mseq : Nat)
  /-- TOW_TAKE (R409) -/
  | towTake (t : Nat) (m : TowMsg)
  /-- TOW_YIELD (R410) -/
  | towYield (t : Nat) (m : TowMsg)
  /-- PARTNER_FAULT (R406) -/
  | partnerFault (t : Nat)
  /-- TOW_CMD_TAKE (R411) -/
  | towCmdTake (t : Nat) (value : Word)
  /-- TOW_CMD_YIELD (R410) -/
  | towCmdYield (t : Nat) (value : Word)
  /-- JOIN_WAIT_TIMEOUT (R412) -/
  | joinWaitTimeout (t : Nat)
  /-- LZ_JOB_START (R423) -/
  | lzJobStart (t : Nat)
  /-- LZ_BLOCK_DONE (R423) -/
  | lzBlockDone (t : Nat) (fault : Nat)
  /-- HK_SLOT (R429) -/
  | hkSlot (t : Nat) (slot : Nat) (v : Int)
  /-- HK_EVALUATION (R438) -/
  | hkEvaluation (t : Nat) (status : List Byte)
  /-- SENSOR_FAIL (R434) -/
  | sensorFail (t : Nat) (sensor : Nat)
  /-- SENSOR_RESTORE (R435) -/
  | sensorRestore (t : Nat) (sensor : Nat)
  /-- NORAISE_END (R441) -/
  | noraiseEnd (t : Nat)
  /-- THERMAL_RESET_EXIT (R442) -/
  | thermalResetExit (t : Nat)
  /-- MGMT_SESSION (R449) -/
  | mgmtSession (t : Nat)
  /-- MGMT_READ (R451) -/
  | mgmtRead (t : Nat)
  /-- MGMT_WRITE (R451) -/
  | mgmtWrite (t : Nat)
  /-- MGMT_SUBSCRIBE (R453) -/
  | mgmtSubscribe (t : Nat)
  /-- MGMT_LOG (R454) -/
  | mgmtLog (t : Nat)
  /-- EVENTS_SEND (R453) -/
  | eventsSend (t : Nat) (slot : Nat)
  /-- SESSION_IDLE_EXPIRY (R449) -/
  | sessionIdleExpiry (t : Nat) (slot : Nat)
  /-- EVENT_ACCEPT (R445) -/
  | eventAccept (t : Nat)
  /-- ALERT_RESPONSE (R455) -/
  | alertResponse (t : Nat)
  /-- I2C_POINTER_WRITE (R456) -/
  | i2cPointerWrite (t : Nat) (data : List Byte)
  /-- I2C_READ (R456) -/
  | i2cRead (t : Nat) (count : Nat)
  /-- LOG_FLUSH (R459) -/
  | logFlush (t : Nat)
  /-- JTAG_BYPASS (R472) -/
  | jtagBypass (t : Nat)
  /-- JTAG_IDCODE (R472) -/
  | jtagIdcode (t : Nat)
  /-- JTAG_SAMPLE_PRELOAD (R472) -/
  | jtagSamplePreload (t : Nat) (pins preload : List Bool)
  /-- JTAG_EXTEST (R472) -/
  | jtagExtest (t : Nat) (pins : List Bool)
  /-- JTAG_EXTEST_PULSE (R472) -/
  | jtagExtestPulse (t : Nat) (pins : List Bool)
  /-- JTAG_EXTEST_TRAIN (R472) -/
  | jtagExtestTrain (t : Nat) (pins : List Bool)
  /-- JTAG_CLAMP (R472) -/
  | jtagClamp (t : Nat)
  /-- JTAG_HIGHZ (R472) -/
  | jtagHighz (t : Nat)
  /-- MONITOR_RECOVERY (R79) -/
  | monitorRecovery (t : Nat)
  /-- TRST_DEASSERT (R79) -/
  | trstDeassert (t : Nat)
  /-- PAIR_HB_IN_EDGE (R397) -/
  | pairHbInEdge (t : Nat)
  /-- FRAME_ROWS_END (R153) -/
  | frameRowsEnd (t : Nat)
  /-- UNFRAMED_OUTPUT_IDLE (R333) -/
  | unframedOutputIdle (t : Nat)
  deriving DecidableEq, Repr

end Sys2Proof
end

