-- ==== Sys2Proof/Decode.lean ====
section
/-! DEFINITION. The commands that words of the table spell. No row of spec/opcode_table.json gives any bits: the commands of
this block have no binary encoding, so no word spells one. -/

namespace Sys2Proof

/-- The command that the word `w` of `nbits` bits spells by the table's bits: none, for every word. [DESIGN CHOICE: log 5] -/
def decodeTableWord (_nbits _w : Nat) : Option Instr := none

end Sys2Proof
end

