-- ==== Sys2Proof/Config.lean ====
section
/-! DEFINITION. What this part takes from outside and what its spec leaves open: constants with no body, so that nothing can
be proved of their values. Each is named in the assumption log. -/

namespace Sys2Proof.Machine

/-- A decoded picture of one plane in the device's internal format (R193): chroma_format_idc, bit depth, the VUI's
matrix_coefficients (none: no VUI) and range, picture order count, whether any CTU or reference of it was concealed, its
samples by component, row-major, and the motion that its CTUs leave for the prediction of later pictures (none where concealed). -/
structure HevcPic where
  chroma : Nat
  depth  : Nat
  matrix : Option Nat
  full   : Bool
  poc    : Int
  conc   : Bool
  comps  : List (List Nat)
  motion : List (Option (List Nat))
  deriving DecidableEq, Repr, Inhabited

/-- A CTU as decoded, before the filters: its samples by component, row-major, what the filters of H.265 need to know of it, and its motion. -/
structure HevcCtu where
  comps  : List (List Nat)
  side   : List Nat
  motion : List Nat
  deriving DecidableEq, Repr, Inhabited

/-- What the slice data process of H.265 works on (R182 to R198): the plane's profile (0 Main, 1 Main 10, 2 Main 4:4:4 10, 3 Monochrome 12), the
active SPS and PPS, the picture order count, the reference picture (a substitute where it is missing) and the slice segments from the first
one on. -/
structure HevcIn where
  profile : Nat
  sps     : List Byte
  pps     : List Byte
  poc     : Int
  ref     : Option HevcPic
  segs    : List (List Byte)
  deriving DecidableEq, Repr, Inhabited

/-- The residual of a coding unit of the encoder (R377): coefficients of Y, Cb and Cr in coding order, none where cbf is 0, or four parts. -/
inductive EncTu where
  | leaf (y cb cr : List Int)
  | split (a b c d : EncTu)
  deriving DecidableEq, Repr, Inhabited

/-- A prediction unit (R377): a merge index, or a motion vector in quarter samples with its predictor. -/
inductive EncPu where
  | merge (idx : Nat)
  | amvp (mvx mvy : Int) (mvp : Nat)
  deriving DecidableEq, Repr, Inhabited

/-- A coding unit (R377): skipped, inter with its partition (0 whole, 1 halves one above the other, 2 side by side), or intra with its modes. -/
inductive EncCu where
  | skip (merge : Nat)
  | inter (part : Nat) (pus : List EncPu) (res : EncTu)
  | intra (nxn : Bool) (modes : List Nat) (chroma : Nat) (res : EncTu)
  deriving DecidableEq, Repr, Inhabited

/-- A coding quadtree; a part outside the picture is `out`. -/
inductive EncTree where
  | out
  | cu (c : EncCu)
  | split (a b c d : EncTree)
  deriving DecidableEq, Repr, Inhabited

/-- SAO of a CTU: merged from the left (1) or from above (2), or type, band or class, and four offsets of each component. -/
structure EncSao where
  merge : Nat
  comps : List (Nat × Nat × List Int)
  deriving DecidableEq, Repr, Inhabited

/-- A CTU as the encoder codes it (R377, R384, R385): the first CTU of its slice, QP, SAO, tree. -/
structure EncCtu where
  slice : Nat
  qp    : Nat
  sao   : EncSao
  tree  : EncTree
  deriving DecidableEq, Repr, Inhabited

/-- What the HEVC encoder works on (R377, R384, R385): output width and height, whether the picture is IDR, its PIC, the picture order count
of the picture before, the reference picture and the picture as samples (Y, then Cb, then Cr, row-major), the QP of each CTU row coded so far, and
the first coast row. -/
structure EncIn where
  width  : Nat
  height : Nat
  idr    : Bool
  pic    : Nat
  last   : Int
  ref    : List Nat
  pixels : List Nat
  qps    : List Nat
  coast  : Option Nat
  deriving DecidableEq, Repr, Inhabited

end Sys2Proof.Machine

namespace Sys2Proof

open Sys2Proof.Machine

/-- What the CTU data of the last slice segment gives in the decoding process of ITU-T H.265: the CTUs decoded, and 0 or the rule of R196 that it
breaks (1 to 3). A free function: the process is an outside standard. [DESIGN CHOICE: log 149] -/
opaque Config.hevcSlice : HevcIn → Nat × Nat

/-- The CTU at a raster address of a picture, from the segments decoded, before the filters of H.265. [DESIGN CHOICE: log 149] -/
opaque Config.hevcCtu : HevcIn → Nat → HevcCtu

/-- The samples of a CTU after the deblocking and SAO of H.265: the parameter sets, the CTU, and the eight CTUs around it in raster order, none
for one across whose edge no filter works. [DESIGN CHOICE: log 149] -/
opaque Config.hevcFilter : List Byte → List Byte → HevcCtu → List (Option HevcCtu) → List (List Nat)

/-- The set of the texel cache that holds a line (R220: 512 sets, modulo 512). [DESIGN CHOICE: log 71] -/
opaque Config.lineSet : Nat → Nat

/-- The engine's choice of tokens for a block after a history (R418: not specified). The model uses it only where it decodes to
the block. [DESIGN CHOICE: log 105] -/
opaque Config.lzTokens : List Byte → List Byte → List Byte

/-- How the encoder codes a CTU of a picture: its SAO and its tree. Free: R377 fixes the tools and not the encoder's choices, and the model keeps the
choice within the tools. [DESIGN CHOICE: log 112] -/
opaque Config.encCtu : EncIn → Nat → EncSao × EncTree

/-- The slice data of H.265 of the CTUs of a slice, by whether the picture is IDR, its width and height. A free function: the binarisation and the
arithmetic coder are an outside standard's. [DESIGN CHOICE: log 112] -/
opaque Config.encBins : Bool → Nat → Nat → List EncCtu → List Bool

/-- A reference picture set for a slice whose one reference has its own picture order count, which H.265 cannot name (R377, R378). [DESIGN CHOICE: log 112] -/
opaque Config.encRps : List Bool

/-- Values of syntax elements that R377 leaves open, by number. [DESIGN CHOICE: log 112] -/
opaque Config.encSyntax : Nat → Nat

/-- What the decoding process of H.265 makes of the CTUs of a picture, by width, height and the reference: the reconstruction that the next picture
refers to (R377). A free function: the process is an outside standard's. [DESIGN CHOICE: log 112] -/
opaque Config.encRecon : Nat → Nat → List Nat → List EncCtu → List Nat

/-- The UDP source port of Pliash packets the device sends (R127 gives none). [DESIGN CHOICE: log 58] -/
opaque Config.srcPort : BitVec 16

/-- Header fields of the packets the device sends that R127 leaves open: IPv4 TOS, identification and DF, IPv6 traffic class and flow label,
whether the UDP checksum over IPv4 is computed. [DESIGN CHOICE: log 58] -/
opaque Config.ipTos : BitVec 8
opaque Config.ipId : BitVec 16
opaque Config.ipDf : Bool
opaque Config.ip6Flow : BitVec 28
opaque Config.udp4Sum : Bool

/-- The quotient of a division by 0 in R374: a sensor table may give a focal length of 0, and the spec states no result. [DESIGN CHOICE: log 82] -/
opaque Config.eyeQuot : Int → Int

/-- An open choice between two outcomes that the spec allows, by its number (a fresh number for each choice). [DESIGN CHOICE: log 82] -/
opaque Config.freeBit : Nat → Bool

/-- An open value of the spec, by its number; a rule that bounds it takes it modulo its bound. [DESIGN CHOICE: log 82] -/
opaque Config.freeNat : Nat → Nat

end Sys2Proof
end

