-- ==== Sys2Proof/Machine/Bits.lean ====
section
/-! DEFINITION. Bit fields, signed readings and byte orders (R6), clamps and the integer roundings the rules use. -/

namespace Sys2Proof.Machine

/-- Bits `hi:lo` of `x`. -/
def bitsOf (x hi lo : Nat) : Nat := (x >>> lo) % 2 ^ (hi + 1 - lo)

/-- Bit `i` of `x`. -/
def bitAt (x i : Nat) : Bool := (x >>> i) % 2 == 1

/-- `x` with bits `hi:lo` replaced by the low bits of `v`. -/
def putBits (x hi lo v : Nat) : Nat :=
  x - (bitsOf x hi lo <<< lo) + ((v % 2 ^ (hi + 1 - lo)) <<< lo)

/-- `x` with bit `i` set. -/
def orBit (x i : Nat) : Nat := x ||| (1 <<< i)

/-- `x` with bit `i` clear. -/
def clearBit (x i : Nat) : Nat := if bitAt x i then x - (1 <<< i) else x

/-- 1 for true, 0 for false. -/
def b2n (b : Bool) : Nat := if b then 1 else 0

/-- The `w`-bit two's complement number that the low `w` bits of `x` stand for. -/
def signed (w x : Nat) : Int :=
  let y := x % 2 ^ w
  if y < 2 ^ (w - 1) then (y : Int) else (y : Int) - (2 ^ w : Nat)

/-- The low `w` bits of the two's complement form of `i`. -/
def unsigned (w : Nat) (i : Int) : Nat := (i % ((2 ^ w : Nat) : Int)).toNat

/-- The number that bytes in network order spell (R6: ring, transport, stream and towpath formats). -/
def be (l : List Byte) : Nat := l.foldl (fun a b => a * 256 + b.toNat) 0

/-- The number that little-endian bytes spell (R6: the image, the NVM log and the ledger). -/
def le : List Byte → Nat
  | [] => 0
  | b :: r => b.toNat + 256 * le r

/-- `n` little-endian bytes of `v`. -/
def leBytes : Nat → Nat → List Byte
  | 0, _ => []
  | n + 1, v => BitVec.ofNat 8 v :: leBytes n (v / 256)

/-- `n` big-endian bytes of `v`. -/
def beBytes (n v : Nat) : List Byte := (leBytes n v).reverse

/-- Bytes `off` to `off + n - 1`. -/
def slice (l : List Byte) (off n : Nat) : List Byte := (l.drop off).take n

/-- The big-endian field of `n` bytes at `off`. -/
def beAt (l : List Byte) (off n : Nat) : Nat := be (slice l off n)

/-- The little-endian field of `n` bytes at `off`. -/
def leAt (l : List Byte) (off n : Nat) : Nat := le (slice l off n)

/-- `x` held to `lo … hi`. -/
def clampI (lo hi x : Int) : Int := if x < lo then lo else if hi < x then hi else x

/-- `x` held to at most `m`. -/
def satN (m x : Nat) : Nat := if m < x then m else x

/-- `i` as a natural number, 0 below 0. -/
def natOf (i : Int) : Nat := i.toNat

/-- Quotient rounded up. -/
def ceilDiv (a b : Nat) : Nat := (a + b - 1) / b

/-- An arithmetic right shift: floor of `i / 2^k` (spec/00_scope.md: shifts are arithmetic on signed types). -/
def sar (i : Int) (k : Nat) : Int := i / ((2 ^ k : Nat) : Int)

/-- The integer square root by the schoolbook digit method: `fuel` binary digits from the top. -/
def isqrtAux : Nat → Nat → Nat → Nat
  | 0, _, r => r
  | k + 1, x, r =>
    let c := r + 2 ^ k
    isqrtAux k x (if c * c ≤ x then c else r)

/-- The largest `r < 2^48` with `r * r ≤ x`. -/
def isqrt (x : Nat) : Nat := isqrtAux 48 x 0

/-- Pound `a` is later than pound `b` (R3). -/
def laterPound (a b : Nat) : Bool :=
  let d := (a + 2 ^ 32 - b % 2 ^ 32) % 2 ^ 32
  1 ≤ d && d ≤ 2 ^ 31 - 1

/-- Pound `p + n` (R3). -/
def poundAdd (p n : Nat) : Nat := (p + n) % 2 ^ 32

/-- Pound `p - n` (R3). -/
def poundSub (p n : Nat) : Nat := (p + 2 ^ 32 - n % 2 ^ 32) % 2 ^ 32

/-- `a` is later than `b` in numbers of `w` bits, by the order of R3 with `2^w` in place of `2^32`. -/
def laterMod (w a b : Nat) : Bool :=
  let d := (a + 2 ^ w - b % 2 ^ w) % 2 ^ w
  1 ≤ d && d ≤ 2 ^ (w - 1) - 1

/-- `l` with element `i` replaced by `f` of it. -/
def modAt {α : Type} (l : List α) (i : Nat) (f : α → α) : List α :=
  match l, i with
  | [], _ => []
  | a :: r, 0 => f a :: r
  | a :: r, i + 1 => a :: modAt r i f

/-- The last `n` elements. -/
def lastN {α : Type} (n : Nat) (l : List α) : List α := l.drop (l.length - n)

/-- The numbers below `n` whose bit is set in `mask`, rising. -/
def maskBits (n mask : Nat) : List Nat := (List.range n).filter (bitAt mask)

/-- The mask of a list of bit numbers. -/
def maskOf (l : List Nat) : Nat := l.foldl orBit 0

/-- Insertion into a list kept in the order `lt`, after the elements it does not come before. -/
def insertBy {α : Type} (lt : α → α → Bool) : List α → α → List α
  | [], x => [x]
  | y :: r, x => if lt x y then x :: y :: r else y :: insertBy lt r x

/-- `l` in the order `lt`; equal elements keep their order. -/
def sortBy {α : Type} (lt : α → α → Bool) (l : List α) : List α := l.foldl (insertBy lt) []

/-- Lexicographic order of lists of integers. -/
def lexLtI : List Int → List Int → Bool
  | [], [] => false
  | [], _ :: _ => true
  | _ :: _, [] => false
  | a :: r, b :: q => decide (a < b) || (a == b && lexLtI r q)

/-- How many bits below `n` are set. -/
def popCount (n mask : Nat) : Nat := (maskBits n mask).length

end Sys2Proof.Machine
end

