-- ==== Sys2Proof/Machine/Hevc.lean ====
section
/-! DEFINITION. The parts of ITU-T H.265 that the damage rules work on: NAL units, parameter sets, slice segment headers, reference picture
sets and picture order counts, and the course of an access unit with its damage and concealment (R182 to R184, R196 to R198). The decoding of
the slice data, which only the standard gives, is a constant of Config. -/

namespace Sys2Proof.Machine

/-! ### Parameter sets -/

/-- A short-term reference picture set: entries before and after the picture, each a POC difference and whether the picture uses it. -/
structure StRps where
  before : List (Int × Bool)
  after  : List (Int × Bool)
  deriving DecidableEq, Repr

/-- A sequence parameter set as received: identifiers, the rule of R196 that it breaks (0 none), its RBSP, and the fields that slice headers,
reference sets, concealment and the texel writer need. -/
structure Sps where
  id      : Nat
  vps     : Nat
  bad     : Nat
  rbsp    : List Byte
  chroma  : Nat
  planes3 : Bool
  depthY  : Nat
  depthC  : Nat
  ctbLog  : Nat
  minCb   : Nat
  maxTb   : Nat
  hiPrec  : Bool
  pocBits : Nat
  dpb     : Nat
  sao     : Bool
  st      : List StRps
  lt      : Option (List (Nat × Bool))
  tmvp    : Bool
  matrix  : Option Nat
  full    : Bool
  deriving DecidableEq, Repr

/-- A picture parameter set as received: its identifiers, the rule of R196 that it breaks (0 none), its RBSP, and the fields that slice
headers and the tile scan need. -/
structure Pps where
  id       : Nat
  sps      : Nat
  bad      : Nat
  rbsp     : List Byte
  depSegs  : Bool
  outFlag  : Bool
  extra    : Nat
  cabac    : Bool
  l0       : Nat
  l1       : Nat
  chromaQp : Bool
  wpP      : Bool
  wpB      : Bool
  tiles    : Bool
  wave     : Bool
  cols     : List Nat
  rows     : List Nat
  uniform  : Bool
  loopSlices : Bool
  dbOver   : Bool
  dbOff    : Bool
  ext      : Bool
  qpList   : Bool
  /-- init_qp_minus26, the offsets of Cb and Cr, diff_cu_qp_delta_depth, log2_parallel_merge_level_minus2 -/
  initQp   : Int
  cbQp     : Int
  crQp     : Int
  qpDepth  : Nat
  merge    : Nat
  /-- the range extension: whether any of its tools is on, log2_max_transform_skip_block_size_minus2, cross-component prediction,
  diff_cu_chroma_qp_offset_depth, the offset scales of SAO -/
  tools    : Bool
  skipLog  : Nat
  cross    : Bool
  listDepth : Nat
  saoY     : Nat
  saoC     : Nat
  deriving DecidableEq, Repr

/-- A VPS as received: its identifier and the rule of R196 that it breaks (0 none). -/
structure Vps where
  id  : Nat
  bad : Nat
  deriving DecidableEq, Repr

/-- The parameter sets a plane holds (R185): the VPS, SPS and PPS by identifier. -/
structure Params where
  vps : Option Vps
  sps : List Sps
  pps : List Pps
  deriving DecidableEq, Repr

def Params.none : Params := { vps := .none, sps := [], pps := [] }

/-! ### Reading RBSPs -/

/-- A reader of bits that ends with the rule of R196 it finds broken. -/
abbrev Rd := StateT (List Bool) (Except Nat)

/-- A syntax element is out of range (R196 rule 1). -/
def Rd.need (b : Bool) : Rd Unit := if b then pure () else throw 1

/-- `u(n)`. -/
def rdU (n : Nat) : Rd Nat := fun l =>
  let t := l.take n
  if t.length < n then .error 1 else .ok (t.foldl (fun a b => 2 * a + b2n b) 0, l.drop n)

/-- A flag. -/
def rdFlag : Rd Bool := fun l => match l with | [] => .error 1 | b :: r => .ok (b, r)

/-- `ue(v)`; a code longer than 32 bits has 16 or more leading zeros (R196 rule 2). [PRESUMED: log 62] -/
def rdUe : Rd Nat := fun l =>
  let z := ((l.take 17).takeWhile (fun b => !b)).length
  if 16 ≤ z then .error 2
  else match rdU (2 * z + 1) l with
    | .ok (v, r) => .ok (v - 1, r)
    | .error e => .error e

/-- `se(v)`. -/
def rdSe : Rd Int := do
  let k ← rdUe
  pure (if k % 2 = 1 then ((k + 1) / 2 : Nat) else -((k / 2 : Nat) : Int))

/-- `ue(v)` from `lo` to `hi`. -/
def rdUeIn (lo hi : Nat) : Rd Nat := do
  let k ← rdUe
  Rd.need (decide (lo ≤ k ∧ k ≤ hi))
  pure k

/-- `se(v)` from `lo` to `hi`. -/
def rdSeIn (lo hi : Int) : Rd Int := do
  let k ← rdSe
  Rd.need (decide (lo ≤ k ∧ k ≤ hi))
  pure k

/-- `n` elements. -/
def rdMany {α : Type} (r : Rd α) : Nat → Rd (List α)
  | 0 => pure []
  | n + 1 => do
    let a ← r
    let l ← rdMany r n
    pure (a :: l)

/-- Elements for each member of a list. -/
def rdEach {α β : Type} (r : α → Rd β) : List α → Rd (List β)
  | [] => pure []
  | a :: l => do
    let b ← r a
    let t ← rdEach r l
    pure (b :: t)

/-- An element where its flag is set. -/
def rdIf {α : Type} (b : Bool) (dflt : α) (r : Rd α) : Rd α := if b then r else pure dflt

/-- The bits of bytes, the most significant first. -/
def bitsOfBytes (b : List Byte) : List Bool := b.flatMap (fun x => (List.range 8).map (fun i => bitAt x.toNat (7 - i)))

/-- The NAL units of a byte stream (Annex B, R182): what lies between start codes, trailing zero bytes removed. -/
def nalUnits (b : List Byte) : List (List Byte) :=
  let close (cur : Option (List Byte)) : List (List Byte) :=
    match cur with
    | none => []
    | some l => match l.dropWhile (· == 0#8) with | [] => [] | l => [l.reverse]
  let r := b.foldl (fun (st : List (List Byte) × Option (List Byte) × Nat) x =>
    let (out, cur, zeros) := st
    if x = 1#8 ∧ 2 ≤ zeros then (out ++ close cur, some [], 0)
    else (out, cur.map (x :: ·), if x = 0#8 then zeros + 1 else 0)) ([], none, 0)
  r.1 ++ close r.2.1

/-- nal_unit_type and nuh_layer_id of a NAL unit. -/
def nalType (n : List Byte) : Nat := bitsOf (beAt n 0 2) 14 9
def nalLayer (n : List Byte) : Nat := bitsOf (beAt n 0 2) 8 3

/-- The NAL units that are used (R183): of layer 0, with a whole header. -/
def usedNals (au : List Byte) : List (List Byte) := (nalUnits au).filter (fun n => nalLayer n == 0 && decide (2 ≤ n.length))

/-- The type of the first VCL NAL unit of layer 0 (R183, R184). -/
def firstVcl (au : List Byte) : Option Nat := (((usedNals au).filter (fun n => decide (nalType n < 32))).map nalType).head?

/-- IDR, CRA or BLA (R184). -/
def isIrap (t : Option Nat) : Bool := match t with | some n => decide (16 ≤ n ∧ n ≤ 21) | none => false

/-- A RASL picture. -/
def isRasl (t : Option Nat) : Bool := match t with | some n => n == 8 || n == 9 | none => false

/-- Bytes with the emulation prevention bytes removed; `z` zero bytes came before. -/
def noEmul : Nat → List Byte → List Byte
  | _, [] => []
  | z, b :: r =>
    if 2 ≤ z ∧ b = 3#8 then noEmul 0 r
    else b :: noEmul (if b = 0#8 then z + 1 else 0) r

/-- The RBSP of a NAL unit. -/
def nalRbsp (n : List Byte) : List Byte := noEmul 0 (n.drop 2)

/-- profile_tier_level with `sub` sub-layers above the first: general_profile_idc and general_level_idc. -/
def rdPtl (sub : Nat) : Rd (Nat × Nat) := do
  let _ ← rdU 3
  let prof ← rdU 5
  let _ ← rdU 80
  let level ← rdU 8
  let present ← rdMany (do let a ← rdFlag; let b ← rdFlag; pure (a, b)) sub
  let _ ← rdIf (decide (0 < sub)) 0 (rdU (2 * (8 - sub)))
  let _ ← rdEach (fun (p : Bool × Bool) => rdU ((if p.1 then 88 else 0) + if p.2 then 8 else 0)) present
  pure (prof, level)

/-- The coefficients of one scaling list. -/
def rdScaling (k : Nat × Nat) : Rd Unit := do
  let mode ← rdFlag
  if mode then
    let _ ← rdIf (decide (1 < k.1)) 0 (rdSeIn (-7) 247)
    let _ ← rdMany (rdSeIn (-128) 127) (Nat.min 64 (2 ^ (4 + 2 * k.1)))
    pure ()
  else
    let _ ← rdUeIn 0 (if k.1 = 3 then k.2 / 3 else k.2)
    pure ()

/-- scaling_list_data. -/
def rdScalingData : Rd Unit := do
  let _ ← rdEach rdScaling ((List.range 4).flatMap (fun s => ((List.range 6).filter (fun m => s != 3 || m % 3 == 0)).map (fun m => (s, m))))
  pure ()

/-- The entries of one direction from their first differences. -/
def sumPocs (sign : Int) : Int → List (Nat × Bool) → List (Int × Bool)
  | _, [] => []
  | at_, (d, u) :: r => let x := at_ + sign * (d + 1); (x, u) :: sumPocs sign x r

/-- st_ref_pic_set `idx` of `num`, the sets before it, and the largest number of entries. -/
def rdStRps (idx num : Nat) (prev : List StRps) (dpb : Nat) : Rd StRps := do
  let inter ← rdIf (decide (idx ≠ 0)) false rdFlag
  if inter then
    let back ← rdIf (decide (idx = num)) 0 (rdUeIn 0 (idx - 1))
    let sign ← rdFlag
    let mag ← rdUeIn 0 32767
    let delta : Int := if sign then -((mag : Int) + 1) else (mag : Int) + 1
    let ref := prev.getD (idx - (back + 1)) { before := [], after := [] }
    let rows := ref.before ++ ref.after ++ [(0, true)]
    let flags ← rdEach (fun (p : Int × Bool) => do
      let used ← rdFlag
      let use ← rdIf (!used) true rdFlag
      pure (p.1 + delta, used, use)) rows
    let b := flags.take ref.before.length
    let a := (flags.drop ref.before.length).take ref.after.length
    let me := flags.drop (ref.before.length + ref.after.length)
    let pick (neg : Bool) (l : List (Int × Bool × Bool)) : List (Int × Bool) :=
      (l.filter (fun x => x.2.2 && decide (if neg then x.1 < 0 else 0 < x.1))).map (fun x => (x.1, x.2.1))
    let r : StRps := { before := pick true (a.reverse ++ me ++ b), after := pick false (b.reverse ++ me ++ a) }
    Rd.need (decide (r.before.length + r.after.length ≤ dpb))
    pure r
  else
    let neg ← rdUeIn 0 dpb
    let pos ← rdUeIn 0 (dpb - neg)
    let ent : Rd (Nat × Bool) := do let d ← rdUeIn 0 32767; let u ← rdFlag; pure (d, u)
    let b ← rdMany ent neg
    let a ← rdMany ent pos
    pure { before := sumPocs (-1) 0 b, after := sumPocs 1 0 a }

/-- The sets of an SPS in order, `k` still to come. -/
def rdStSets (num dpb : Nat) : Nat → List StRps → Rd (List StRps)
  | 0, l => pure l
  | k + 1, l => do
    let r ← rdStRps l.length num l dpb
    rdStSets num dpb k (l ++ [r])

/-- hrd_parameters of `subs` sub-layers above the first: with the common part, or with that of the set before. It answers NAL, VCL and sub-picture
parameters present. -/
def rdHrd (common : Option (Bool × Bool × Bool)) (subs : Nat) : Rd (Bool × Bool × Bool) := do
  let (nal, vcl, sub) ← (match common with
    | some c => pure c
    | none => do
      let nal ← rdFlag
      let vcl ← rdFlag
      let sub ← rdIf (nal || vcl) false (do
        let sub ← rdFlag
        let _ ← rdIf sub 0 (rdU 19)
        let _ ← rdU 8
        let _ ← rdIf sub 0 (rdU 4)
        let _ ← rdU 15
        pure sub)
      pure (nal, vcl, sub))
  let one : Rd Unit := do
    let _ ← rdMany rdUe (if sub then 4 else 2)
    let _ ← rdFlag
    pure ()
  let _ ← rdMany (do
    let general ← rdFlag
    let within ← rdIf (!general) true rdFlag
    let low ← (if within then do let _ ← rdUeIn 0 2047; pure false else rdFlag)
    let cpb ← rdIf (!low) 0 (rdUeIn 0 31)
    rdMany one ((cpb + 1) * (b2n nal + b2n vcl))) (subs + 1)
  pure (nal, vcl, sub)

/-- The VUI: matrix_coefficients (2, unspecified, where it has none) and the full range flag. -/
def rdVui : Rd (Nat × Bool) := do
  let aspect ← rdFlag
  let _ ← rdIf aspect () (do let idc ← rdU 8; let _ ← rdIf (idc == 255) 0 (rdU 32); pure ())
  let ovr ← rdFlag
  let _ ← rdIf ovr false rdFlag
  let signal ← rdFlag
  let (full, matrix) ← rdIf signal (false, 2) (do
    let _ ← rdU 3
    let full ← rdFlag
    let colour ← rdFlag
    let m ← rdIf colour 2 (do let _ ← rdU 16; rdU 8)
    pure (full, m))
  let loc ← rdFlag
  let _ ← rdIf loc [] (rdMany (rdUeIn 0 5) 2)
  let _ ← rdU 3
  let win ← rdFlag
  let _ ← rdIf win [] (rdMany rdUe 4)
  let timing ← rdFlag
  let _ ← rdIf timing () (do
    let _ ← rdU 64
    let prop ← rdFlag
    let _ ← rdIf prop 0 rdUe
    let hrd ← rdFlag
    rdIf hrd () (do let _ ← rdHrd none 0; pure ()))
  let restr ← rdFlag
  let _ ← rdIf restr () (do
    let _ ← rdU 3
    let _ ← rdUeIn 0 4095
    let _ ← rdMany (rdUeIn 0 16) 2
    let _ ← rdMany (rdUeIn 0 15) 2
    pure ())
  pure (matrix, full)

/-- An SPS that has been read no further than its identifier. -/
def Sps.blank (id : Nat) (rbsp : List Byte) : Sps :=
  { id := id, vps := 0, bad := 1, rbsp := rbsp, chroma := 0, planes3 := false, depthY := 8, depthC := 8, ctbLog := 6, minCb := 3, maxTb := 5, hiPrec := false, pocBits := 4, dpb := 0, sao := false,
    st := [], lt := none, tmvp := false, matrix := none, full := false }

/-- general_profile_idc, chroma_format_idc and the bit depths of a plane's profile (R182): 0 Main, 1 Main 10, 2 Main 4:4:4 10,
3 Monochrome 12. -/
def profileIdc (p : Nat) : Nat := if p = 0 then 1 else if p = 1 then 2 else 4
def profileChroma (p : Nat) : Nat := if p = 2 then 3 else if p = 3 then 0 else 1
def profileDepths (p : Nat) : List Nat := if p = 0 then [8] else if p = 3 then [12] else [8, 10]

/-- The head of an SPS up to its identifier: its VPS, sub-layers above the first, profile, level, identifier. -/
def rdSpsHead : Rd (Nat × Nat × Nat × Nat × Nat) := do
  let vps ← rdU 4
  let sub ← rdU 3
  Rd.need (decide (sub ≤ 6))
  let _ ← rdFlag
  let (prof, level) ← rdPtl sub
  let id ← rdUeIn 0 15
  pure (vps, sub, prof, level, id)

/-- The HRD parameter sets of a VPS, `k` still to come. -/
def rdHrds (subs : Nat) : Nat → Option (Bool × Bool × Bool) → Rd Unit
  | 0, _ => pure ()
  | k + 1, prev => do
    let _ ← rdUeIn 0 1023
    let own ← rdIf prev.isSome true rdFlag
    let c ← rdHrd (if own then none else prev) subs
    rdHrds subs k (some c)

/-- The content of a VPS: its profile and level, with the ranges of what it holds (R182, R196). [PRESUMED: log 62] -/
def rdVps : Rd (Nat × Nat) := do
  let _ ← rdU 12
  let sub ← rdU 3
  Rd.need (decide (sub ≤ 6))
  let _ ← rdFlag
  let ones ← rdU 16
  Rd.need (ones == 0xFFFF)
  let (prof, level) ← rdPtl sub
  let info ← rdFlag
  let _ ← rdMany (do let d ← rdUeIn 0 15; let _ ← rdUeIn 0 d; rdUe) (if info then sub + 1 else 1)
  let top ← rdU 6
  let sets ← rdUeIn 0 1023
  let _ ← rdMany (rdU (top + 1)) sets
  let timing ← rdFlag
  let _ ← rdIf timing () (do
    let _ ← rdU 64
    let prop ← rdFlag
    let _ ← rdIf prop 0 rdUe
    let n ← rdUeIn 0 (sets + 1)
    rdHrds sub n none)
  let _ ← rdFlag
  pure (prof, level)

/-- sps_range_extension and the flags of the other extensions: whether any tool of the range extension is on, whether one that neither profile 4 of
R182 has, high_precision_offsets, and whether another extension is there. -/
def rdSpsExt : Rd (Bool × Bool × Bool × Bool) := do
  let range ← rdFlag
  let others ← rdMany rdFlag 3
  let _ ← rdU 4
  let f ← rdIf range [] (rdMany rdFlag 9)
  pure (f.contains true, f.getD 4 false || f.getD 8 false, f.getD 6 false, others.contains true)

/-- The rest of an SPS for a plane of profile `p`, with the rule it breaks (R182, R183): 7 another profile, 6 anything else. [PRESUMED: log 62] -/
def rdSps (p : Nat) (rbsp : List Byte) : Rd Sps := do
  let (vps, sub, prof, level, id) ← rdSpsHead
  let chroma ← rdUeIn 0 3
  let planes3 ← rdIf (chroma == 3) false rdFlag
  let w ← rdUe
  let h ← rdUe
  let conf ← rdFlag
  let win ← rdIf conf [] (rdMany rdUe 4)
  let dy ← rdUeIn 0 8
  let dc ← rdUeIn 0 8
  let lsb ← rdUeIn 0 12
  let info ← rdFlag
  let order ← rdMany (rdMany rdUe 3) (if info then sub + 1 else 1)
  let last := order.getLastD []
  let minCb ← rdUeIn 0 3
  let diffCb ← rdUeIn 0 3
  let ctb := 3 + minCb + diffCb
  Rd.need (decide (4 ≤ ctb ∧ ctb ≤ 6))
  let minTb ← rdUeIn 0 3
  let diffTb ← rdUeIn 0 3
  Rd.need (decide (minTb + 2 < minCb + 3 ∧ minTb + 2 + diffTb ≤ Nat.min ctb 5))
  let _ ← rdMany (rdUeIn 0 (ctb - (minTb + 2))) 2
  let lists ← rdFlag
  let _ ← rdIf lists () (do let d ← rdFlag; rdIf d () rdScalingData)
  let _ ← rdFlag
  let sao ← rdFlag
  let pcm ← rdFlag
  let _ ← rdIf pcm () (do
    let py ← rdU 4
    let pc ← rdU 4
    Rd.need (decide (py ≤ dy + 7 ∧ pc ≤ dc + 7))
    let a ← rdUeIn 0 2
    let b ← rdUeIn 0 2
    Rd.need (decide (Nat.min (minCb + 3) 5 ≤ a + 3 ∧ a + 3 + b ≤ Nat.min ctb 5))
    let _ ← rdFlag
    pure ())
  let dpb := last.getD 0 0
  let num ← rdUeIn 0 64
  let st ← rdStSets num dpb num []
  let longs ← rdFlag
  let lt ← rdIf longs none (do
    let n ← rdUeIn 0 32
    let l ← rdMany (do let v ← rdU (lsb + 4); let u ← rdFlag; pure (v, u)) n
    pure (some l))
  let tmvp ← rdFlag
  let _ ← rdFlag
  let vui ← rdFlag
  let v ← rdIf vui none (do let x ← rdVui; pure (some x))
  let more ← rdFlag
  let (tools, wide, hi, others) ← rdIf more (false, false, false, false) rdSpsExt
  let ok := decide (level ≤ 153) && chroma == profileChroma p && dy == dc && (profileDepths p).contains (8 + dy) && w == 512 && h == 512
    && win.all (· == 0) && sub == 0 && decide (dpb ≤ 1) && last.getD 1 0 == 0
    && !others && !wide && (decide (2 ≤ p) || !tools)
  pure { id := id, vps := vps, bad := if prof ≠ profileIdc p then 7 else if ok then 0 else 6, rbsp := rbsp, chroma := chroma, planes3 := planes3,
         depthY := 8 + dy, depthC := 8 + dc, ctbLog := ctb, minCb := minCb + 3, maxTb := minTb + 2 + diffTb, hiPrec := hi, pocBits := lsb + 4, dpb := dpb, sao := sao, st := st, lt := lt, tmvp := tmvp,
         matrix := v.map Prod.fst, full := match v with | some x => x.2 | none => false }

/-- The lengths of `n` uniform tile columns or rows over `size` CTBs. -/
def uniformTiles (n size : Nat) : List Nat := (List.range n).map (fun i => (i + 1) * size / n - i * size / n)

/-- A PPS that has been read no further than its identifiers. -/
def Pps.blank (id sps : Nat) (rbsp : List Byte) : Pps :=
  { id := id, sps := sps, bad := 1, rbsp := rbsp, depSegs := false, outFlag := false, extra := 0, cabac := false, l0 := 1, l1 := 1,
    chromaQp := false, wpP := false, wpB := false, tiles := false, wave := false, cols := [1], rows := [1], uniform := true, loopSlices := false,
    dbOver := false, dbOff := false, ext := false, qpList := false, initQp := 0, cbQp := 0, crQp := 0, qpDepth := 0, merge := 0, tools := false,
    skipLog := 0, cross := false, listDepth := 0, saoY := 0, saoC := 0 }

/-- The identifiers of a PPS: its own and its SPS's. -/
def rdPpsHead : Rd (Nat × Nat) := do
  let id ← rdUeIn 0 63
  let sps ← rdUeIn 0 15
  pure (id, sps)

/-- A PPS; identifiers above 3 break R183. Non-uniform tiles give all but the last length. [PRESUMED: log 62] -/
def rdPps (rbsp : List Byte) : Rd Pps := do
  let (id, sps) ← rdPpsHead
  let dep ← rdFlag
  let out ← rdFlag
  let extra ← rdU 3
  let _ ← rdFlag
  let cabac ← rdFlag
  let l0 ← rdUeIn 0 14
  let l1 ← rdUeIn 0 14
  let initQp ← rdSeIn (-74) 25
  let _ ← rdFlag
  let skip ← rdFlag
  let qpd ← rdFlag
  let qpDepth ← rdIf qpd 0 (rdUeIn 0 3)
  let cbQp ← rdSeIn (-12) 12
  let crQp ← rdSeIn (-12) 12
  let chromaQp ← rdFlag
  let wpP ← rdFlag
  let wpB ← rdFlag
  let _ ← rdFlag
  let tiles ← rdFlag
  let wave ← rdFlag
  let (cols, rows, uniform) ← rdIf tiles ([1], [1], true) (do
    let c ← rdUeIn 0 31
    let r ← rdUeIn 0 31
    Rd.need (decide (0 < c + r))
    let uni ← rdFlag
    let (cs, rs) ← rdIf (!uni) (List.replicate (c + 1) 1, List.replicate (r + 1) 1) (do
      let cs ← rdMany (rdUeIn 0 31) c
      let rs ← rdMany (rdUeIn 0 31) r
      pure (cs.map (· + 1), rs.map (· + 1)))
    let _ ← rdFlag
    pure (cs, rs, uni))
  let loop ← rdFlag
  let ctrl ← rdFlag
  let (ovr, off) ← rdIf ctrl (false, false) (do
    let ovr ← rdFlag
    let off ← rdFlag
    let _ ← rdIf (!off) [] (rdMany (rdSeIn (-6) 6) 2)
    pure (ovr, off))
  let lists ← rdFlag
  let _ ← rdIf lists () rdScalingData
  let _ ← rdFlag
  let merge ← rdUeIn 0 4
  let ext ← rdFlag
  let more ← rdFlag
  let (range, others) ← rdIf more (false, false) (do let r ← rdFlag; let o ← rdU 3; let _ ← rdU 4; pure (r, o != 0))
  let (skipLog, cross, qpList, listDepth, saoY, saoC) ← rdIf range (0, false, false, 0, 0, 0) (do
    let k ← rdIf skip 0 (rdUeIn 0 3)
    let cross ← rdFlag
    let q ← rdFlag
    let d ← rdIf q 0 (do
      let d ← rdUeIn 0 3
      let n ← rdUeIn 0 5
      let _ ← rdMany (rdSeIn (-12) 12) (2 * (n + 1))
      pure d)
    let y ← rdUeIn 0 4
    let c ← rdUeIn 0 4
    pure (k, cross, q, d, y, c))
  pure { id := id, sps := sps, bad := if 3 < id ∨ others then 6 else 0, rbsp := rbsp, depSegs := dep, outFlag := out, extra := extra, cabac := cabac, l0 := l0 + 1,
         l1 := l1 + 1, chromaQp := chromaQp, wpP := wpP, wpB := wpB, tiles := tiles, wave := wave, cols := cols, rows := rows, uniform := uniform,
         loopSlices := loop, dbOver := ovr, dbOff := off, ext := ext, qpList := qpList, initQp := initQp, cbQp := cbQp, crQp := crQp, qpDepth := qpDepth,
         merge := merge, tools := skipLog != 0 || cross || qpList || saoY != 0 || saoC != 0, skipLog := skipLog, cross := cross, listDepth := listDepth,
         saoY := saoY, saoC := saoC }

/-- The result of a reader on an RBSP. -/
def runRd {α : Type} (r : Rd α) (b : List Byte) : Except Nat α := (r.run (bitsOfBytes b)).map Prod.fst

/-- A VPS is received for a plane of profile `p` (R183): the plane uses the one whose identifier came first. -/
def Params.putVps (q : Params) (p : Nat) (n : List Byte) : Params :=
  let b := nalRbsp n
  match runRd (rdU 4) b with
  | .ok id =>
    let bad := match runRd rdVps b with | .ok (prof, level) => if prof ≠ profileIdc p then 7 else if 153 < level then 6 else 0 | .error e => e
    if q.vps.all (fun v => v.id == id) then { q with vps := some { id := id, bad := bad } } else q
  | .error _ => q

/-- An SPS is received for a plane of profile `p`: it replaces the one of its identifier. Another identifier than the one held breaks
R183; a set whose identifier cannot be read is not held. -/
def Params.putSps (q : Params) (p : Nat) (n : List Byte) : Params :=
  let b := nalRbsp n
  let other (id : Nat) : Bool := q.sps.any (fun s => s.id != id && s.bad == 0)
  let put (s : Sps) : Params := { q with sps := s :: q.sps.filter (fun x => x.id ≠ s.id) }
  match runRd rdSpsHead b with
  | .error _ => q
  | .ok (_, _, _, _, id) =>
    match runRd (rdSps p b) b with
    | .ok s => put (if s.bad = 0 ∧ other id then { s with bad := 6 } else s)
    | .error e => put { Sps.blank id b with bad := e }

/-- A PPS is received. -/
def Params.putPps (q : Params) (n : List Byte) : Params :=
  let b := nalRbsp n
  let put (s : Pps) : Params := { q with pps := s :: q.pps.filter (fun x => x.id ≠ s.id) }
  match runRd rdPpsHead b with
  | .error _ => q
  | .ok (id, sps) =>
    match runRd (rdPps b) b with
    | .ok s => put s
    | .error e => put { Pps.blank id sps b with bad := e }

/-! ### Slice segment headers -/

/-- A slice segment header: whether it is the first of its picture, dependent, its address (raster scan), slice type (0 B, 1 P, 2 I), POC bits, its
short-term set, its long-term entries (POC bits, used, cycles of the bits above). -/
structure SliceHdr where
  first : Bool
  dep   : Bool
  addr  : Nat
  ty    : Nat
  lsb   : Nat
  st    : StRps
  lt    : List (Nat × Bool × Option Nat)
  deriving DecidableEq, Repr

/-- The number of bits that name one of `n`. -/
def bitsFor (n : Nat) : Nat := ((List.range 16).find? (fun k => decide (n ≤ 2 ^ k))).getD 16

/-- CTBs across the picture, and in it (R183). -/
def Sps.ctbs (s : Sps) : Nat := 512 / 2 ^ s.ctbLog
def Sps.size (s : Sps) : Nat := s.ctbs * s.ctbs

/-- pred_weight_table for `l0` and `l1` entries; offsets lie within `half` and, of the chroma, four times that. -/
def rdWeights (chroma : Bool) (half : Int) (l0 l1 : Nat) : Rd Unit := do
  let wd ← rdUeIn 0 7
  let _ ← rdIf chroma 0 (rdSeIn (-(wd : Int)) (7 - wd))
  let one (n : Nat) : Rd Unit := do
    let ys ← rdMany rdFlag n
    let cs ← rdIf chroma (List.replicate n false) (rdMany rdFlag n)
    let _ ← rdEach (fun (p : Bool × Bool) => do
      let _ ← rdIf p.1 () (do let _ ← rdSeIn (-128) 127; let _ ← rdSeIn (-half) (half - 1); pure ())
      let _ ← rdIf p.2 [] (rdMany (do let _ ← rdSeIn (-128) 127; rdSeIn (-4 * half) (4 * half - 1)) 2)
      pure ()) (ys.zip cs)
    pure ()
  one l0
  rdIf (decide (0 < l1)) () (one l1)

/-- The long-term entries of a slice. -/
def rdLongs (s : Sps) (cand : List (Nat × Bool)) : Rd (List (Nat × Bool × Option Nat)) := do
  let nSps ← rdIf (decide (cand ≠ [])) 0 (rdUeIn 0 cand.length)
  let nPics ← rdUeIn 0 s.dpb
  let one (i : Nat) : Rd (Nat × Bool × Option Nat) := do
    let e ← (if i < nSps then do
        let k ← rdIf (decide (1 < cand.length)) 0 (rdU (bitsFor cand.length))
        pure (cand.getD k (0, false))
      else do let v ← rdU s.pocBits; let u ← rdFlag; pure (v, u))
    let m ← rdFlag
    let c ← rdIf m none (do let c ← rdUe; pure (some c))
    pure (e.1, e.2, c)
  let l ← rdEach one (List.range (nSps + nPics))
  -- each cycle counts on from the entry before it, but for the first of either kind
  pure (((List.range l.length).map (fun i =>
    let e := l.getD i (0, false, none)
    let from_ := if nSps ≤ i then nSps else 0
    let sum := (((l.take (i + 1)).drop from_).map (fun x => x.2.2.getD 0)).sum
    (e.1, e.2.1, e.2.2.map (fun _ => sum)))))

/-- The PPS that a slice segment names. -/
def rdPpsId (t : Nat) : Rd (Bool × Nat) := do
  let first ← rdFlag
  let _ ← rdIf (decide (16 ≤ t ∧ t ≤ 23)) false rdFlag
  let id ← rdUeIn 0 63
  pure (first, id)

/-- A slice segment header of a NAL unit of type `t`. A reference set holds at most what the SPS allows, so a list has at most one
entry to order and carries no modification. -/
def rdSlice (s : Sps) (q : Pps) (t : Nat) : Rd SliceHdr := do
  let (first, _) ← rdPpsId t
  let dep ← rdIf (!first && q.depSegs) false rdFlag
  let addr ← rdIf (!first) 0 (rdU (bitsFor s.size))
  Rd.need (decide (addr < s.size))
  let nil : StRps := { before := [], after := [] }
  if dep then
    pure { first := first, dep := true, addr := addr, ty := 2, lsb := 0, st := nil, lt := [] }
  else
    let _ ← rdU q.extra
    let ty ← rdUeIn 0 2
    Rd.need (decide (ty = 2) || !isIrap (some t))
    let _ ← rdIf q.outFlag false rdFlag
    let _ ← rdIf s.planes3 0 (rdU 2)
    let chroma := !(s.chroma == 0 || s.planes3)
    let idr := t == 19 || t == 20
    let (lsb, st, lt, tmvp) ← rdIf (!idr) (0, nil, [], false) (do
      let lsb ← rdU s.pocBits
      let inSps ← rdFlag
      let st ← (if inSps then do
          let k ← rdIf (decide (1 < s.st.length)) 0 (rdU (bitsFor s.st.length))
          Rd.need (decide (k < s.st.length))
          pure (s.st.getD k nil)
        else rdStRps s.st.length s.st.length s.st s.dpb)
      let lt ← (match s.lt with | some cand => rdLongs s cand | none => pure [])
      Rd.need (decide (st.before.length + st.after.length + lt.length ≤ s.dpb))
      let tmvp ← rdIf s.tmvp false rdFlag
      pure (lsb, st, lt, tmvp))
    let saoY ← rdIf s.sao false rdFlag
    let saoC ← rdIf (s.sao && chroma) false rdFlag
    let used := ((st.before ++ st.after).filter Prod.snd).length + (lt.filter (fun x => x.2.1)).length
    let _ ← rdIf (decide (ty ≠ 2)) () (do
      Rd.need (decide (0 < used))
      let ovr ← rdFlag
      let l0 ← rdIf ovr q.l0 (do let k ← rdUeIn 0 14; pure (k + 1))
      let l1 ← rdIf (decide (ty = 0)) 0 (rdIf ovr q.l1 (do let k ← rdUeIn 0 14; pure (k + 1)))
      let _ ← rdIf (decide (ty = 0)) false rdFlag
      let _ ← rdIf q.cabac false rdFlag
      let _ ← rdIf tmvp () (do
        let from0 ← rdIf (decide (ty = 0)) true rdFlag
        let n := if from0 then l0 else l1
        let _ ← rdIf (decide (1 < n)) 0 (rdUeIn 0 (n - 1))
        pure ())
      let _ ← rdIf ((q.wpP && ty == 1) || (q.wpB && ty == 0)) () (rdWeights chroma (if s.hiPrec then 2 ^ (s.depthY - 1) else 128) l0 l1)
      let _ ← rdUeIn 0 4
      pure ())
    let dqp ← rdSe
    Rd.need (decide (-(6 * ((s.depthY : Int) - 8)) ≤ 26 + q.initQp + dqp ∧ 26 + q.initQp + dqp ≤ 51))
    let _ ← rdIf q.chromaQp () (do
      let _ ← rdSeIn (-12 - q.cbQp) (12 - q.cbQp)
      let _ ← rdSeIn (-12 - q.crQp) (12 - q.crQp)
      pure ())
    let _ ← rdIf q.qpList false rdFlag
    let ovr ← rdIf q.dbOver false rdFlag
    let off ← rdIf ovr q.dbOff (do
      let off ← rdFlag
      let _ ← rdIf (!off) [] (rdMany (rdSeIn (-6) 6) 2)
      pure off)
    let _ ← rdIf (q.loopSlices && (saoY || saoC || !off)) false rdFlag
    let _ ← rdIf (q.tiles || q.wave) () (do
      let n ← rdUeIn 0 ((if q.tiles then q.cols.length * (if q.wave then s.ctbs else q.rows.length) else s.ctbs) - 1)
      let _ ← rdIf (decide (0 < n)) [] (do let k ← rdUeIn 0 31; rdMany (rdU (k + 1)) n)
      pure ())
    let _ ← rdIf q.ext () (do let n ← rdUeIn 0 256; let _ ← rdU (8 * n); pure ())
    pure { first := first, dep := false, addr := addr, ty := ty, lsb := lsb, st := st, lt := lt }

/-! ### The tile scan -/

/-- The column or row lengths of a PPS over `size` CTBs. -/
def tileLens (l : List Nat) (tiles uniform : Bool) (size : Nat) : List Nat :=
  if ¬ tiles then [size] else if uniform then uniformTiles l.length size else l ++ [size - l.sum]

/-- The first CTB of each length. -/
def tileStarts : Nat → List Nat → List Nat
  | _, [] => []
  | a, n :: r => a :: tileStarts (a + n) r

/-- The raster addresses of the picture's CTUs in tile scan. -/
def tileScan (s : Sps) (q : Pps) : List Nat :=
  let w := s.ctbs
  let cl := tileLens q.cols q.tiles q.uniform w
  let rl := tileLens q.rows q.tiles q.uniform w
  ((tileStarts 0 rl).zip rl).flatMap (fun r => ((tileStarts 0 cl).zip cl).flatMap (fun c =>
    (List.range r.2).flatMap (fun y => (List.range c.2).map (fun x => (r.1 + y) * w + c.1 + x))))

/-! ### The course of an access unit -/

/-- What a plane's decoding works on and leaves (R185): parameter sets, the POC that the next picture's counts from, the reference picture, the
newest picture, and whether the last access unit ended its sequence. -/
structure HevcCtx where
  params : Params
  poc    : Int
  ref    : Option HevcPic
  newest : Option HevcPic
  eos    : Bool
  deriving DecidableEq, Repr

/-- A picture in decoding: slice segments read, the address in tile scan that follows them, where concealment begins with the failing address, the
ranges concealed so far (tile scan: from, to), what its start fixed (parameter sets, POC, RPS used and kept, reference), damage and missing
references. -/
structure PicRun where
  seg    : List (List Byte)
  next   : Nat
  fail   : Option (Nat × Nat)
  holes  : List (Nat × Nat)
  start  : Option (Sps × Pps × Int × List Int × List Int × Option HevcPic)
  damage : List (Nat × Nat)
  missing : List Int

/-- A PPS goes with its SPS, for a plane of profile `p` (R182, R196): 0, or 1 where a field of it is out of the range that the SPS gives, 6 where it
uses a tool that the profile has not. [PRESUMED: log 62] -/
def Pps.clash (q : Pps) (s : Sps) (p : Nat) : Nat :=
  let tilesOk : Bool := decide (q.cols.length ≤ s.ctbs ∧ q.rows.length ≤ s.ctbs)
    && (q.uniform || (decide (q.cols.sum < s.ctbs + (if q.cols.length = 1 then 1 else 0)) && decide (q.rows.sum < s.ctbs + (if q.rows.length = 1 then 1 else 0))))
  let sao := s.depthY - 10
  if decide (-(26 + 6 * ((s.depthY : Int) - 8)) ≤ q.initQp) && decide (q.qpDepth ≤ s.ctbLog - s.minCb) && decide (q.merge + 2 ≤ s.ctbLog)
      && (!q.tiles || tilesOk) && decide (q.skipLog + 2 ≤ s.maxTb) && decide (q.listDepth ≤ s.ctbLog - s.minCb)
      && decide (q.saoY ≤ sao ∧ q.saoC ≤ sao) then
    if q.tools && decide (p < 2) || q.cross && s.chroma != 3 then 6 else 0
  else 1

/-- Every sample mid-grey (R198). -/
def greyPic (chroma depth : Nat) (poc : Int) : HevcPic :=
  { chroma := chroma, depth := depth, matrix := none, full := false, poc := poc, conc := true, motion := [],
    comps := (List.range (if chroma = 0 then 1 else 3)).map (fun k => List.replicate (if k ≠ 0 ∧ chroma = 1 then 65536 else 262144) (2 ^ (depth - 1))) }

/-- The picture order count of a picture with the POC bits `lsb` (H.265 8.3.1): `msb0` where the count starts anew. -/
def pocOf (bits lsb : Nat) (msb0 : Bool) (prev : Int) : Int :=
  let m : Int := ((2 ^ bits : Nat) : Int)
  let pl := prev % m
  let pm := prev - pl
  let l : Int := (lsb : Int)
  if msb0 then l
  else if l < pl ∧ m / 2 ≤ pl - l then pm + m + l
  else if pl < l ∧ m / 2 < l - pl then pm - m + l
  else pm + l

/-- The entries of the reference picture set (H.265 8.3.2): used by the picture, and kept for later ones. A long-term entry without the bits above
is named by its low bits. -/
def rpsOf (bits : Nat) (poc : Int) (h : SliceHdr) (have_ : Option Int) : List Int × List Int :=
  let m : Int := ((2 ^ bits : Nat) : Int)
  let st := (h.st.before ++ h.st.after).map (fun x => (poc + x.1, x.2))
  let lt := h.lt.map (fun x =>
    match x.2.2 with
    | some c => (poc - (c : Int) * m - (poc % m - (x.1 : Int)), x.2.1)
    | none => (match have_ with | some r => if r % m = (x.1 : Int) then r else (x.1 : Int) | none => (x.1 : Int), x.2.1))
  let l := st ++ lt
  ((l.filter Prod.snd).map Prod.fst, (l.filter (fun x => !x.2)).map Prod.fst)

/-- The parameter sets that slice segment `n` names, or the rule of R196 that it breaks: 5 where one is absent, the VPS of the SPS among them, else
the rule of the set. -/
def activeSets (q : Params) (profile : Nat) (n : List Byte) : Except Nat (Sps × Pps) :=
  match runRd (rdPpsId (nalType n)) (nalRbsp n) with
  | .error e => .error e
  | .ok (_, id) =>
    match q.pps.find? (fun x => x.id == id) with
    | none => .error 5
    | some p =>
      if p.bad ≠ 0 then .error p.bad
      else
        match q.sps.find? (fun x => x.id == p.sps) with
        | none => .error 5
        | some s =>
          if s.bad ≠ 0 then .error s.bad
          else match q.vps with
            | none => .error 5
            | some v =>
              let e := if v.id ≠ s.vps then 6 else if v.bad ≠ 0 then v.bad else p.clash s profile
              if e = 0 then .ok (s, p) else .error e

/-- The CTUs from `a` to before `b` in tile scan are to be concealed. -/
def PicRun.hole (r : PicRun) (a b : Nat) : PicRun := if a < b then { r with holes := r.holes ++ [(a, b)] } else r

/-- A slice segment is damaged (R196): its address and rule are noted, and CTUs are concealed from `from_` on. -/
def PicRun.broken (r : PicRun) (addr rule from_ at_ : Nat) : PicRun :=
  { r with damage := r.damage ++ [(addr, rule)], fail := some ((r.fail.getD (from_, 0)).1, at_) }

/-- A slice segment that follows a failing one in the same picture is passed over until the next independent one beyond it (R197). -/
def PicRun.passes (r : PicRun) (dep : Bool) (ts : Nat) : Bool :=
  match r.fail with
  | some f => dep || decide (ts ≤ f.2)
  | none => false

/-- The picture starts with a segment's header: POC, reference picture set, missing references replaced by the substitute (R198). `fresh` is set for a
random-access picture that starts its sequence. -/
def PicRun.begin_ (r : PicRun) (c : HevcCtx) (fresh : Bool) (s : Sps) (p : Pps) (h : SliceHdr) : PicRun :=
  match r.start with
  | some _ => r
  | none =>
    let poc := pocOf s.pocBits h.lsb fresh c.poc
    let ref := if fresh then none else c.ref
    let (used, foll) := if fresh then ([], []) else rpsOf s.pocBits poc h (ref.map HevcPic.poc)
    let here (x : Int) : Bool := match ref with | some q => q.poc == x | none => false
    let missing := used.filter (fun x => !here x)
    let subst (x : Int) : HevcPic := match c.newest with | some q => { q with poc := x } | none => greyPic s.chroma s.depthY x
    let pic : Option HevcPic := match used, missing with
      | [], _ => none
      | _, x :: _ => some (subst x)
      | _, [] => ref
    { r with start := some (s, p, poc, used, foll, pic), missing := missing }

/-- What the slice data process is given for the segments `segs` of a picture. -/
def hevcIn (profile : Nat) (s : Sps) (p : Pps) (poc : Int) (ref : Option HevcPic) (segs : List (List Byte)) : HevcIn :=
  { profile := profile, sps := s.rbsp, pps := p.rbsp, poc := poc, ref := ref, segs := segs }

/-- A slice segment whose header cannot be read, or whose parameter sets are absent or broken (R196): its address is taken as 0 in event 0x601. -/
def PicRun.unread (r : PicRun) (rule : Nat) : PicRun :=
  match r.fail with
  | some _ => { r with damage := r.damage ++ [(0, rule)] }
  | none => r.broken 0 rule r.next r.next

/-- One slice segment (R196, R197). `count` is the number of segments of the picture up to it (R183: at most 64). -/
def PicRun.segment (r : PicRun) (c : HevcCtx) (profile t : Nat) (fresh : Bool) (count : Nat) (n : List Byte) : PicRun :=
  match activeSets c.params profile n with
  | .error e => r.unread e
  | .ok (s, p) =>
    let same : Bool := match r.start with | some (s', p', _) => s' == s && p'.sps == p.sps | none => true
    match runRd (rdSlice s p t) (nalRbsp n) with
    | .error e => r.unread e
    | .ok h =>
      let scan := tileScan s p
      let ts := scan.findIdx (· == h.addr)
      if r.passes h.dep ts then r
      else
        -- the segment from which decoding resumes closes the concealed range
        let resumed := r.fail.isSome
        let r := match r.fail with | some f => { r.hole f.1 ts with fail := none, next := ts } | none => r
        if ¬ same then r.broken h.addr 1 ts ts
        else if 64 < count then r.broken h.addr 6 ts ts
        else if (h.dep ∧ r.seg = []) ∨ (ts ≠ r.next ∧ ¬ resumed) then r.broken h.addr 4 (Nat.min ts r.next) ts
        else
          let r := r.begin_ c fresh s p h
          match r.start with
          | none => r
          | some (s, p, poc, _, _, ref) =>
            let segs := r.seg ++ [n]
            let (ctus, err) := Config.hevcSlice (hevcIn profile s p poc ref segs)
            if err = 1 ∨ err = 2 ∨ err = 3 then r.broken h.addr err ts ts
            else if ctus = 0 ∨ s.size < ts + ctus then r.broken h.addr 3 ts ts
            else { r with seg := segs, next := ts + ctus }

/-- The NAL units of an access unit in order: parameter sets, slice segments, the end of the sequence; everything else is passed over (R183). -/
def hevcNals (c : HevcCtx) (profile : Nat) (fresh : Bool) : List (List Byte) → Nat → PicRun → HevcCtx × PicRun
  | [], _, r => (c, r)
  | n :: l, k, r =>
    let t := nalType n
    if t = 32 then hevcNals { c with params := c.params.putVps profile n } profile fresh l k r
    else if t = 33 then hevcNals { c with params := c.params.putSps profile n } profile fresh l k r
    else if t = 34 then hevcNals { c with params := c.params.putPps n } profile fresh l k r
    else if t = 36 ∨ t = 37 then hevcNals { c with eos := true } profile fresh l k r
    else if t ≤ 9 ∨ (16 ≤ t ∧ t ≤ 21) then hevcNals c profile fresh l (k + 1) (r.segment c profile t fresh (k + 1) n)
    else hevcNals c profile fresh l k r

/-- The raster addresses of the CTUs of concealed ranges. -/
def holeCtus (s : Sps) (p : Pps) (holes : List (Nat × Nat)) : List Nat :=
  let scan := tileScan s p
  holes.flatMap (fun h => (scan.drop h.1).take (h.2 - h.1))

/-- The squares of CTUs. -/
def ctuSquares (s : Sps) (l : List Nat) : List (Nat × Nat × Nat) :=
  let z := 2 ^ s.ctbLog
  l.map (fun a => (a % s.ctbs * z, a / s.ctbs * z, z))

/-- The eight CTUs around the one at `a`, in raster order, none outside the picture. -/
def ctusAround (w a : Nat) : List (Option Nat) :=
  [(0, 0), (1, 0), (2, 0), (0, 1), (2, 1), (0, 2), (1, 2), (2, 2)].map (fun (d : Nat × Nat) =>
    let x := a % w + d.1
    let y := a / w + d.2
    if x = 0 ∨ y = 0 ∨ w < x ∨ w < y then none else some ((y - 1) * w + (x - 1)))

/-- The samples of a picture's CTUs by raster address, after the filters (R197): no filter works across the edge to a concealed CTU, and a
concealed CTU is not filtered (its samples come from the substitute). -/
def ctuSamples (s : Sps) (p : Pps) (ctu : Nat → HevcCtu) (lost : List Nat) : List (List (List Nat)) :=
  (List.range s.size).map (fun a =>
    if lost.contains a then []
    else Config.hevcFilter s.rbsp p.rbsp (ctu a) ((ctusAround s.ctbs a).map (fun n => n.bind (fun k => if lost.contains k then none else some (ctu k)))))

/-- Component `c` of a picture, row-major, from its CTUs. -/
def ctuPlane (s : Sps) (l : List (List (List Nat))) (c : Nat) : List Nat :=
  let half := if c ≠ 0 ∧ s.chroma = 1 then 2 else 1
  let w := 512 / half
  let z := 2 ^ s.ctbLog / half
  (List.range (w * w)).map (fun k =>
    let x := k % w
    let y := k / w
    ((l.getD (y / z * s.ctbs + x / z) []).getD c []).getD (y % z * z + x % z) 0)

/-- What an access unit leaves: the plane's state, the picture before concealment, whether later pictures may refer to it, whether its reference was
concealed, damaged segments, squares to be concealed, missing references. -/
structure HevcOut where
  ctx     : HevcCtx
  pic     : HevcPic
  isRef   : Bool
  refConc : Bool
  damage  : List (Nat × Nat)
  conceal : List (Nat × Nat × Nat)
  missing : List Int
  deriving DecidableEq, Repr

/-- The parameter sets of an access unit that is not decoded itself are received. -/
def Params.take (q : Params) (profile : Nat) (au : List Byte) : Params :=
  (usedNals au).foldl (fun q n =>
    if nalType n = 32 then q.putVps profile n else if nalType n = 33 then q.putSps profile n else if nalType n = 34 then q.putPps n else q) q

/-- An empty plane (R186). -/
def HevcCtx.empty : HevcCtx := { params := Params.none, poc := 0, ref := none, newest := none, eos := false }

/-- A plane's access unit is decoded (R183, R184, R196 to R198). `wait` is set for the first picture since the context was initialised. -/
def hevc (c : HevcCtx) (profile : Nat) (wait : Bool) (au : List Byte) : HevcOut :=
  let nals := usedNals au
  let t := (firstVcl au).getD 0
  let fresh := decide (16 ≤ t ∧ t ≤ 20) || (t == 21 && (wait || c.eos))
  let c0 := if (firstVcl au).isSome then { c with eos := false } else c
  let r0 : PicRun := { seg := [], next := 0, fail := none, holes := [], start := none, damage := [], missing := [] }
  let (c1, r) := hevcNals c0 profile fresh nals 0 r0
  let dflt := greyPic (profileChroma profile) ((profileDepths profile).getLastD 8) c.poc
  match r.start with
  | none =>
    -- the picture cannot be started: every CTU is concealed
    { ctx := c1, pic := { c.newest.getD dflt with poc := c.poc }, isRef := false, refConc := false, damage := r.damage, conceal := [(0, 0, 512)],
      missing := [] }
  | some (s, p, poc, used, foll, ref) =>
    let r := match r.fail with | some f => r.hole f.1 s.size | none => r.hole r.next s.size
    let ctu := Config.hevcCtu (hevcIn profile s p poc ref r.seg)
    let lost := holeCtus s p r.holes
    let l := ctuSamples s p ctu lost
    let slnr := decide (t < 16) && t % 2 == 0
    let lead := decide (6 ≤ t ∧ t ≤ 9)
    let kept := if fresh then none else c1.ref.bind (fun q => if (used ++ foll).contains q.poc then some q else none)
    let pic : HevcPic :=
      { chroma := s.chroma, depth := s.depthY, matrix := s.matrix, full := s.full, poc := poc, conc := false,
        comps := (List.range (if s.chroma = 0 then 1 else 3)).map (ctuPlane s l),
        motion := (List.range s.size).map (fun a => if lost.contains a then none else some (ctu a).motion) }
    { ctx := { c1 with poc := if slnr || lead then c1.poc else poc, ref := kept }, pic := pic, isRef := !slnr,
      refConc := (match c1.ref with | some q => used.contains q.poc && q.conc | none => false), damage := r.damage,
      conceal := ctuSquares s lost, missing := r.missing }

end Sys2Proof.Machine
end

