-- ==== Sys2Proof/Machine/Regs.lean ====
section
/-! DEFINITION. The ledger (R7, R11, R12, R443): the address of every register, every named field of it, and one row per
register or register array with its reset word and the bits of each access code. Taken line by line from the register
tables at the ends of the chapters; a row covers `c1 × c2` registers at `base + s1 × i + s2 × j`. -/

namespace Sys2Proof.Machine

/-- A named field of a ledger register: its byte address and its bits `hi:lo`. -/
structure Fld where
  addr : Nat
  hi   : Nat
  lo   : Nat
  deriving DecidableEq, Repr

/-- One row of the ledger map: an array of `c1 × c2` registers of one shape. The masks give the bits of each access code of R7. -/
structure Row where
  base  : Nat
  c1    : Nat
  s1    : Nat
  c2    : Nat
  s2    : Nat
  reset : Nat
  rw    : Nat
  rws   : Nat
  w1c   : Nat
  rc    : Nat
  wo    : Nat
  kept  : Bool
  deriving DecidableEq, Repr

namespace R
def TOP_ID : Nat := 0x0
def TOP_MODE : Nat := 0x8
def TOP_MODE_ACT : Nat := 0xC
def TOP_POUND : Nat := 0x10
def TOP_LOCK_TIME : Nat := 0x14
def TOP_LOCK_RETRY : Nat := 0x18
def TOP_LOCK_STAT : Nat := 0x1C
def TOP_LEVEL_MISS : Nat := 0x20
def TOP_LEVEL_VETO : Nat := 0x24
def TOP_LEVEL_TIME : Nat := 0x28
def TOP_LEVEL_PEAK : Nat := 0x2C
def TOP_COMMIT_CNT : Nat := 0x30
def TOP_REJECT_CNT : Nat := 0x34
def TOP_STATUS : Nat := 0x40
def TOP_STALE_CNT : Nat := 0x44
def TOP_SHADOW_CTRL : Nat := 0x48
def TOP_MODE_SRC : Nat := 0x50
def TOP_MODE_GPIO0 : Nat := 0x54
def TOP_MODE_GPIO1 : Nat := 0x58
def TOP_MODE_GPIO2 : Nat := 0x5C
def TOP_MODE_GPIO3 : Nat := 0x60
def TOP_MODE_OPT : Nat := 0x64
def TOP_BG_COLOR : Nat := 0x68
def TOP_MODE_ORIGIN : Nat := 0x6C
def TOP_MODE_GPIO_IN : Nat := 0x70
def TOP_HOLD_STAT : Nat := 0x74
def TOP_PAT_OVL : Nat := 0x78
def TOP_PAT_DISP : Nat := 0x7C
def PWR_STATUS : Nat := 0x10000
def PWR_RST_CAUSE : Nat := 0x10004
def PWR_RESET : Nat := 0x10008
def PWR_FLIGHT : Nat := 0x1000C
def PWR_MON_THR : Nat := 0x10010
def PWR_MON_LIVE : Nat := 0x10014
def PWR_MON_SEEN : Nat := 0x10018
def PWR_MON_OV : Nat := 0x1001C
def PWR_BRACE_CNT : Nat := 0x10020
def PWR_BRACE_LAST : Nat := 0x10024
def PWR_DOM_ON (k : Nat) : Nat := 0x10040 + 0x4 * k
def PWR_DOM_FAIL (k : Nat) : Nat := 0x10060 + 0x4 * k
def PWR_FLIGHT_STAT : Nat := 0x10080
def IMG_STATUS : Nat := 0x30000
def IMG_VERSION : Nat := 0x30004
def IMG_COMMIT_SEQ : Nat := 0x30008
def IMG_FAIL : Nat := 0x3000C
def IMG_OTP : Nat := 0x30010
def IMG_BOOT_TIME : Nat := 0x30014
def IMG_UPD_CTRL : Nat := 0x30020
def IMG_UPD_LEN : Nat := 0x30024
def IMG_UPD_OFF : Nat := 0x30028
def IMG_UPD_STAT : Nat := 0x3002C
def IMG_NVM_STAT : Nat := 0x30030
def IMG_NVM_ADDR : Nat := 0x30034
def IMG_CAL_CTRL : Nat := 0x30038
def IMG_UPD_DATA (k : Nat) : Nat := 0x31000 + 0x4 * k
def RING_STATUS : Nat := 0x40000
def RING_PORT_CFG : Nat := 0x40004
def RING_WEIR : Nat := 0x40008
def RING_TAG : Nat := 0x4000C
def RING_FAIR : Nat := 0x40010
def RING_MAC_LO : Nat := 0x40014
def RING_MAC_HI : Nat := 0x40018
def RING_IP4 : Nat := 0x4001C
def RING_IP_CFG : Nat := 0x40020
def RING_PAR : Nat := 0x40024
def RING_FEC_CORR_E : Nat := 0x40040
def RING_FEC_UNC_E : Nat := 0x40044
def RING_FEC_CORR_W : Nat := 0x40048
def RING_FEC_UNC_W : Nat := 0x4004C
def RING_STOMP_CNT : Nat := 0x40050
def RING_STRIP_ORG : Nat := 0x40054
def RING_STRIP_HOP : Nat := 0x40058
def RING_ADOPT_CNT : Nat := 0x4005C
def RING_DROP_CNT : Nat := 0x40060
def RING_DUP_CNT : Nat := 0x40064
def RING_RX_DISC : Nat := 0x40068
def RING_PAR_CNT : Nat := 0x4006C
def RING_INS_PEAK : Nat := 0x40070
def RING_GRPn_A (n : Nat) (k : Nat) : Nat := 0x40100 + 0x20 * n + 0x4 * k
def RING_GRPn_CTL (n : Nat) : Nat := 0x40110 + 0x20 * n
def SEC_STATUS : Nat := 0x130000
def SEC_CTRL : Nat := 0x130004
def SEC_SRC_HASH (k : Nat) : Nat := 0x130010 + 0x4 * k
def SEC_DEVPUB (k : Nat) : Nat := 0x130040 + 0x4 * k
def SEC_KEY_STAT : Nat := 0x1300A0
def SEC_KSEQ : Nat := 0x1300A4
def SEC_KEY_CNT : Nat := 0x1300A8
def TIME_STATUS : Nat := 0x50000
def TIME_PTP_CFG : Nat := 0x50004
def TIME_SERVO : Nat := 0x50008
def TIME_LOCK : Nat := 0x5000C
def TIME_ASYM : Nat := 0x50010
def TIME_PERIOD_NS : Nat := 0x50014
def TIME_PERIOD_FRAC : Nat := 0x50018
def TIME_LAUNCH : Nat := 0x5001C
def TIME_PPS : Nat := 0x50020
def TIME_EVT0_CFG : Nat := 0x50024
def TIME_EVT1_CFG : Nat := 0x50028
def TIME_EGRESS : Nat := 0x5002C
def TIME_NOW (k : Nat) : Nat := 0x50040 + 0x4 * k
def TIME_OFFSET : Nat := 0x50050
def TIME_PATH : Nat := 0x50054
def TIME_FREQ : Nat := 0x50058
def TIME_FF_CORR : Nat := 0x5005C
def TIME_FF_TEMP : Nat := 0x50060
def TIME_GM0 : Nat := 0x50064
def TIME_GM1 : Nat := 0x50068
def TIME_LAUNCH_CNT : Nat := 0x50070
def TIME_EGRESS_CNT : Nat := 0x50074
def TIME_TC_CNT : Nat := 0x50078
def TIME_TC_SKIP : Nat := 0x5007C
def TIME_CAPn (n : Nat) (k : Nat) : Nat := 0x50080 + 0x10 * n + 0x4 * k
def RING_STREAM_CFG : Nat := 0x40400
def RING_SCENE0 : Nat := 0x40404
def RING_SCENE1 : Nat := 0x40408
def RING_SCENE_VER : Nat := 0x4040C
def RING_SCENE_PEND : Nat := 0x40410
def RING_CMD_LAST : Nat := 0x40414
def RING_UNIT_DISC : Nat := 0x40418
def RING_CMD_MISS : Nat := 0x4041C
def RING_CHUNK_LATE : Nat := 0x40420
def RING_CHAN_OPEN : Nat := 0x40424
def DEC_STATUS : Nat := 0x60000
def DEC_CTRL : Nat := 0x60004
def DEC_LOAD : Nat := 0x60008
def DEC_LOAD_PEAK : Nat := 0x6000C
def DEC_CHUNK_CNT : Nat := 0x60010
def DEC_ERR_CNT : Nat := 0x60014
def DEC_CONCEAL_CNT : Nat := 0x60018
def DEC_WAIT_CNT : Nat := 0x6001C
def DEC_CACHE_CNT : Nat := 0x60020
def DEC_CONCEALED : Nat := 0x60024
def DEC_COREn_STAT (n : Nat) : Nat := 0x60100 + 0x4 * n
def CTX_STATn (n : Nat) : Nat := 0x70000 + 0x4 * n
def COMP_PANEL_HOG : Nat := 0x80000
def COMP_PANEL_VIEW : Nat := 0x80004
def COMP_PANEL_HOG_ACT : Nat := 0x80008
def COMP_PANEL_VIEW_ACT : Nat := 0x8000C
def COMP_PANEL_RAYS : Nat := 0x80010
def COMP_BLOCKS : Nat := 0x80014
def COMP_TCACHE_HIT : Nat := 0x80020
def COMP_TCACHE_MISS : Nat := 0x80024
def COMP_GEOM_ERR : Nat := 0x80028
def COMP_SLUICE_CTRL : Nat := 0x80040
def COMP_SLUICE_SKIP : Nat := 0x80044
def COMP_SLUICE_OCC : Nat := 0x80048
def COMP_ETERM : Nat := 0x8004C
def COMP_CONC_RAYS : Nat := 0x80050
def COMP_SLUICE_CHK : Nat := 0x80054
def COMP_LAYER_CAP : Nat := 0x80080
def COMP_LADDER : Nat := 0x80084
def COMP_LADDER_CAP : Nat := 0x80088
def COMP_RUN_CTRL : Nat := 0x8008C
def COMP_POLICY : Nat := 0x80090
def COMP_TRACK : Nat := 0x80094
def COMP_TAP : Nat := 0x80098
def COMP_RUN_STAT : Nat := 0x800A0
def COMP_LOAD : Nat := 0x800A4
def COMP_LOAD_PEAK : Nat := 0x800A8
def COMP_LATE_CNT : Nat := 0x800AC
def COMP_NOTREADY_CNT : Nat := 0x800B0
def COMP_GUARD_CNT : Nat := 0x80100
def COMP_CAPPED : Nat := 0x800B4
def COMP_GUARD_RES : Nat := 0x800B8
def COMP_GUARD_CRCn (n : Nat) : Nat := 0x800C0 + 0x4 * n
def COMP_TRACK_STAT : Nat := 0x80104
def BASIN_STATUS : Nat := 0xA0000
def BASIN_ORDER : Nat := 0xA0004
def BASIN_SHARE0 : Nat := 0xA0008
def BASIN_SHARE1 : Nat := 0xA000C
def BASIN_RSV : Nat := 0xA0010
def BASIN_SCRUB : Nat := 0xA0014
def BASIN_FREE : Nat := 0xA0020
def BASIN_FREE_LOW : Nat := 0xA0024
def BASIN_CLASS_CNTn (n : Nat) : Nat := 0xA0100 + 0x4 * n
def BASIN_ECC_CE : Nat := 0xA0060
def BASIN_ECC_UE : Nat := 0xA0064
def BASIN_UE_ADDR0 : Nat := 0xA0068
def BASIN_UE_ADDR1 : Nat := 0xA006C
def BASIN_UE_SRC : Nat := 0xA0070
def BASIN_QUAR : Nat := 0xA0074
def BASIN_QUAR_CLR : Nat := 0xA0078
def BASIN_ALLOC_FAIL : Nat := 0xA007C
def BASIN_TRAINs (s : Nat) : Nat := 0xA0090 + 0x4 * s
def BASIN_BWn (n : Nat) : Nat := 0xA00A0 + 0x4 * n
def TUG_STATUS : Nat := 0xB0000
def TUG_CLIP_MODE : Nat := 0xB0004
def TUG_CLIPn_A (n : Nat) : Nat := 0xB0040 + 0x8 * n
def TUG_CLIPn_B (n : Nat) : Nat := 0xB0044 + 0x8 * n
def TUG_DONE_CNT : Nat := 0xB0008
def TUG_SKIP_CNT : Nat := 0xB000C
def TUG_ERR_CNT : Nat := 0xB0010
def TUG_PX_CNT : Nat := 0xB0014
def TUG_LAST : Nat := 0xB0018
def SCAN_STRIP : Nat := 0xC0000
def SCAN_HPORCH : Nat := 0xC0004
def SCAN_VPORCH : Nat := 0xC0008
def SCAN_FMT : Nat := 0xC000C
def SCAN_ROWS : Nat := 0xC0010
def SCAN_STATUS : Nat := 0xC0014
def SCAN_FCNT0 : Nat := 0xC0020
def SCAN_FCNT1 : Nat := 0xC0024
def SCAN_FLIP (k : Nat) : Nat := 0xC0028 + 0x4 * k
def SCAN_FLIP_POUND : Nat := 0xC0038
def SCAN_CNT : Nat := 0xC003C
def SCAN_CHK_RES : Nat := 0xC0040
def SCAN_CHK_CNT : Nat := 0xC0044
def SCAN_CHKn_X0 (n : Nat) : Nat := 0xC0100 + 0x20 * n
def SCAN_CHKn_X1 (n : Nat) : Nat := 0xC0104 + 0x20 * n
def SCAN_CHKn_Y (n : Nat) : Nat := 0xC0108 + 0x20 * n
def SCAN_CHKn_CFG (n : Nat) : Nat := 0xC010C + 0x20 * n
def SCAN_CHKn_EXP (n : Nat) : Nat := 0xC0110 + 0x20 * n
def SCAN_CHKn_CRC (n : Nat) : Nat := 0xC0114 + 0x20 * n
def LANE_ADAPT : Nat := 0xD0000
def LANE_BC : Nat := 0xD0004
def LANE_BC_DONE0 : Nat := 0xD0008
def LANE_BC_DONE1 : Nat := 0xD000C
def LANE_LOCK_CNT : Nat := 0xD0010
def LANE_MON_CFG : Nat := 0xD0020
def LANE_MON_STAT : Nat := 0xD0024
def LANE_MON_EYEk (k : Nat) : Nat := 0xD0200 + 0x4 * k
def LANE_n_TXFFE (n : Nat) : Nat := 0xD1000 + 0x20 * n
def LANE_n_TXCFG (n : Nat) : Nat := 0xD1004 + 0x20 * n
def LANE_n_TXACT (n : Nat) : Nat := 0xD1008 + 0x20 * n
def LANE_n_STAT (n : Nat) : Nat := 0xD100C + 0x20 * n
def LANE_n_TEST (n : Nat) : Nat := 0xD1010 + 0x20 * n
def LANE_n_ERR0 (n : Nat) : Nat := 0xD1014 + 0x20 * n
def LANE_n_ERR1 (n : Nat) : Nat := 0xD1018 + 0x20 * n
def LANE_n_INJ (n : Nat) : Nat := 0xD101C + 0x20 * n
def PNL_STATUS : Nat := 0xE0000
def PNL_CTRL : Nat := 0xE0004
def PNL_SEQ : Nat := 0xE0008
def PNL_VREF_CFG : Nat := 0xE000C
def PNL_VREF_STAT : Nat := 0xE0010
def PNL_VIN : Nat := 0xE0014
def PNL_DIS : Nat := 0xE0018
def PNL_CRACK : Nat := 0xE001C
def PNL_CRACK_CLR : Nat := 0xE0020
def PNL_HOLD_BLINK : Nat := 0xE0024
def PNL_SB_CNT : Nat := 0xE0028
def PNL_VHOLD : Nat := 0xE002C
def CAM_STATUS : Nat := 0xF0000
def CAM_FSYNC0_CFG : Nat := 0xF0004
def CAM_FSYNC1_CFG : Nat := 0xF0008
def CAM_FSYNC0_PER : Nat := 0xF000C
def CAM_FSYNC1_PER : Nat := 0xF0010
def CAM_STROBE : Nat := 0xF0014
def CAM_PORT : Nat := 0xF0018
def CAM_DROP_CNT : Nat := 0xF0020
def CAM_PKT_ERR : Nat := 0xF0024
def CAM_Sn_CTRL (n : Nat) : Nat := 0xF0100 + 0x40 * n
def CAM_Sn_EXP (n : Nat) : Nat := 0xF0104 + 0x40 * n
def CAM_Sn_WB (n : Nat) : Nat := 0xF0108 + 0x40 * n
def CAM_Sn_STAT0 (n : Nat) : Nat := 0xF0110 + 0x40 * n
def CAM_Sn_STAT1 (n : Nat) : Nat := 0xF0114 + 0x40 * n
def CAM_Sn_CCI (n : Nat) : Nat := 0xF0118 + 0x40 * n
def CAM_Sn_CNT (n : Nat) : Nat := 0xF011C + 0x40 * n
def CAM_Sn_OUTo_CROP0 (n : Nat) (o : Nat) : Nat := 0xF0400 + 0x40 * n + 0x10 * o
def CAM_Sn_OUTo_CROP1 (n : Nat) (o : Nat) : Nat := 0xF0404 + 0x40 * n + 0x10 * o
def CAM_Sn_OUTo_SIZE (n : Nat) (o : Nat) : Nat := 0xF0408 + 0x40 * n + 0x10 * o
def CAM_Sn_OUTo_CFG (n : Nat) (o : Nat) : Nat := 0xF040C + 0x40 * n + 0x10 * o
def TRK_CTRL : Nat := 0x90000
def TRK_STATUS : Nat := 0x90004
def TRK_CNT : Nat := 0x90008
def TRK_PAIRp_CFG (p : Nat) : Nat := 0x90010 + 0x4 * p
def TRK_MERGE : Nat := 0x90020
def TRK_REP_TIME (k : Nat) : Nat := 0x90030 + 0x4 * k
def TRK_EYEe_X (e : Nat) : Nat := 0x90100 + 0x10 * e
def TRK_EYEe_Y (e : Nat) : Nat := 0x90104 + 0x10 * e
def TRK_EYEe_Z (e : Nat) : Nat := 0x90108 + 0x10 * e
def ENC_STATUS : Nat := 0x100000
def ENC_CNT : Nat := 0x100004
def ENC_Sn_CTRL (n : Nat) : Nat := 0x100100 + 0x80 * n
def ENC_Sn_CROP0 (n : Nat) : Nat := 0x100104 + 0x80 * n
def ENC_Sn_CROP1 (n : Nat) : Nat := 0x100108 + 0x80 * n
def ENC_Sn_SIZE (n : Nat) : Nat := 0x10010C + 0x80 * n
def ENC_Sn_RC (n : Nat) : Nat := 0x100110 + 0x80 * n
def ENC_Sn_RATE (n : Nat) : Nat := 0x100114 + 0x80 * n
def ENC_Sn_RATE2 (n : Nat) : Nat := 0x100118 + 0x80 * n
def ENC_Sn_GOP (n : Nat) : Nat := 0x10011C + 0x80 * n
def ENC_Sn_TX (n : Nat) : Nat := 0x100120 + 0x80 * n
def ENC_Sn_PKT (n : Nat) : Nat := 0x100124 + 0x80 * n
def ENC_Sn_TIME (n : Nat) : Nat := 0x100128 + 0x80 * n
def ENC_Sn_CMD (n : Nat) : Nat := 0x10012C + 0x80 * n
def ENC_Sn_STAT (n : Nat) : Nat := 0x100130 + 0x80 * n
def ENC_Sn_BITS (n : Nat) : Nat := 0x100134 + 0x80 * n
def ENC_Sn_DEBT (n : Nat) : Nat := 0x100138 + 0x80 * n
def ENC_Sn_CNT0 (n : Nat) : Nat := 0x10013C + 0x80 * n
def ENC_Sn_CNT1 (n : Nat) : Nat := 0x100140 + 0x80 * n
def TOW_STATUS : Nat := 0x110000
def TOW_CFG : Nat := 0x110004
def TOW_SEAL : Nat := 0x110008
def TOW_REPAIR : Nat := 0x11000C
def TOW_CMD : Nat := 0x110010
def TOW_OWN_POUND : Nat := 0x110014
def TOW_TAKE_STAT : Nat := 0x110018
def TOW_SEAL_LAST : Nat := 0x11001C
def TOW_SEAL_CNT : Nat := 0x110020
def TOW_REPAIR_CNT : Nat := 0x110024
def TOW_MSG_CNT : Nat := 0x110028
def TOW_HB_MISS : Nat := 0x11002C
def LZ_STATUS : Nat := 0x120000
def LZ_QDEPTH : Nat := 0x120004
def LZ_CTRL : Nat := 0x120008
def LZ_LAST : Nat := 0x12000C
def LZ_ENC_IN : Nat := 0x120010
def LZ_ENC_OUT : Nat := 0x120014
def LZ_BLK_CNT : Nat := 0x120018
def LZ_ERR_CNT : Nat := 0x12001C
def LZ_STOP_CNT : Nat := 0x120020
def HK_STATUS : Nat := 0x20000
def HK_THR_A : Nat := 0x20004
def HK_THR_B : Nat := 0x20008
def HK_CAP : Nat := 0x2000C
def HK_SENS : Nat := 0x20010
def HK_SENS_STAT : Nat := 0x20014
def HK_HOT : Nat := 0x20018
def HK_THROT_CNT : Nat := 0x2001C
def HK_SHUT_CNT : Nat := 0x20020
def HK_TEMPn (n : Nat) : Nat := 0x20040 + 0x4 * n
def HK_ESTn (n : Nat) : Nat := 0x20060 + 0x4 * n
def HK_CHANc (c : Nat) : Nat := 0x20080 + 0x4 * c
def TOP_UID0 : Nat := 0x80
def TOP_UID1 : Nat := 0x84
def TOP_STRAPS : Nat := 0x88
def TOP_UPTIME : Nat := 0x8C
def TOP_MGMT_CFG : Nat := 0x90
def TOP_MGMT_HASH (k : Nat) : Nat := 0x94 + 0x4 * k
def TOP_MGMT_STAT : Nat := 0xC4
def TOP_MGMT_SSEQ : Nat := 0xC8
def TOP_MGMT_CNT : Nat := 0xCC
def TOP_EVT_STAT : Nat := 0xD4
def TOP_EVT_DROP : Nat := 0xD8
def TOP_LOG_CFG : Nat := 0xDC
def TOP_LOG_STAT : Nat := 0xE0
def TOP_LOG_CNT : Nat := 0xE4
def TOP_ALERT : Nat := 0xE8
def TOP_ALERT_MASK : Nat := 0xEC
def TOP_I2C : Nat := 0xF0
end R

namespace F
def TOP_ID_PART : Fld := ⟨R.TOP_ID, 31, 16⟩
def TOP_ID_FAMILY : Fld := ⟨R.TOP_ID, 15, 8⟩
def TOP_ID_REV : Fld := ⟨R.TOP_ID, 7, 0⟩
def TOP_MODE_MODE : Fld := ⟨R.TOP_MODE, 7, 0⟩
def TOP_MODE_ACT_MODE : Fld := ⟨R.TOP_MODE_ACT, 7, 0⟩
def TOP_POUND_POUND : Fld := ⟨R.TOP_POUND, 31, 0⟩
def TOP_LOCK_TIME_WINDOW : Fld := ⟨R.TOP_LOCK_TIME, 27, 16⟩
def TOP_LOCK_TIME_LEAD : Fld := ⟨R.TOP_LOCK_TIME, 11, 0⟩
def TOP_LOCK_RETRY_RETRIES : Fld := ⟨R.TOP_LOCK_RETRY, 3, 0⟩
def TOP_LOCK_STAT_HOLDQ : Fld := ⟨R.TOP_LOCK_STAT, 23, 16⟩
def TOP_LOCK_STAT_PENDING : Fld := ⟨R.TOP_LOCK_STAT, 12, 12⟩
def TOP_LOCK_STAT_PHASE : Fld := ⟨R.TOP_LOCK_STAT, 9, 8⟩
def TOP_LOCK_STAT_RETRY_CNT : Fld := ⟨R.TOP_LOCK_STAT, 7, 4⟩
def TOP_LOCK_STAT_OUTCOME : Fld := ⟨R.TOP_LOCK_STAT, 1, 0⟩
def TOP_LEVEL_MISS_MISS : Fld := ⟨R.TOP_LEVEL_MISS, 19, 0⟩
def TOP_LEVEL_VETO_VETO : Fld := ⟨R.TOP_LEVEL_VETO, 19, 0⟩
def TOP_LEVEL_TIME_LAST_NS : Fld := ⟨R.TOP_LEVEL_TIME, 23, 0⟩
def TOP_LEVEL_PEAK_PEAK_NS : Fld := ⟨R.TOP_LEVEL_PEAK, 23, 0⟩
def TOP_COMMIT_CNT_COUNT : Fld := ⟨R.TOP_COMMIT_CNT, 31, 0⟩
def TOP_REJECT_CNT_VETOED : Fld := ⟨R.TOP_REJECT_CNT, 31, 16⟩
def TOP_REJECT_CNT_EXHAUSTED : Fld := ⟨R.TOP_REJECT_CNT, 15, 0⟩
def TOP_STATUS_FORCED : Fld := ⟨R.TOP_STATUS, 1, 1⟩
def TOP_STATUS_GUAR_VOID : Fld := ⟨R.TOP_STATUS, 0, 0⟩
def TOP_STALE_CNT_COUNT : Fld := ⟨R.TOP_STALE_CNT, 31, 0⟩
def TOP_SHADOW_CTRL_DISCARD : Fld := ⟨R.TOP_SHADOW_CTRL, 0, 0⟩
def TOP_MODE_SRC_MGMT : Fld := ⟨R.TOP_MODE_SRC, 23, 16⟩
def TOP_MODE_SRC_STREAM : Fld := ⟨R.TOP_MODE_SRC, 15, 8⟩
def TOP_MODE_SRC_SCHED : Fld := ⟨R.TOP_MODE_SRC, 7, 0⟩
def TOP_MODE_GPIO0_DIRECT : Fld := ⟨R.TOP_MODE_GPIO0, 31, 16⟩
def TOP_MODE_GPIO0_FIELD : Fld := ⟨R.TOP_MODE_GPIO0, 15, 0⟩
def TOP_MODE_GPIO1_TRACK : Fld := ⟨R.TOP_MODE_GPIO1, 31, 16⟩
def TOP_MODE_GPIO1_FLAT : Fld := ⟨R.TOP_MODE_GPIO1, 15, 0⟩
def TOP_MODE_GPIO2_TALK : Fld := ⟨R.TOP_MODE_GPIO2, 15, 0⟩
def TOP_MODE_GPIO3_HOLD : Fld := ⟨R.TOP_MODE_GPIO3, 31, 16⟩
def TOP_MODE_GPIO3_PATTERN : Fld := ⟨R.TOP_MODE_GPIO3, 15, 0⟩
def TOP_MODE_OPT_PAT_SUB : Fld := ⟨R.TOP_MODE_OPT, 9, 8⟩
def TOP_MODE_OPT_HOLDX_WAIT : Fld := ⟨R.TOP_MODE_OPT, 5, 0⟩
def TOP_BG_COLOR_RED : Fld := ⟨R.TOP_BG_COLOR, 29, 20⟩
def TOP_BG_COLOR_GREEN : Fld := ⟨R.TOP_BG_COLOR, 19, 10⟩
def TOP_BG_COLOR_BLUE : Fld := ⟨R.TOP_BG_COLOR, 9, 0⟩
def TOP_MODE_ORIGIN_ORIGIN : Fld := ⟨R.TOP_MODE_ORIGIN, 23, 0⟩
def TOP_MODE_GPIO_IN_FORCE : Fld := ⟨R.TOP_MODE_GPIO_IN, 23, 16⟩
def TOP_MODE_GPIO_IN_LEVEL : Fld := ⟨R.TOP_MODE_GPIO_IN, 15, 0⟩
def TOP_HOLD_STAT_WAITED : Fld := ⟨R.TOP_HOLD_STAT, 13, 8⟩
def TOP_HOLD_STAT_SELFREF : Fld := ⟨R.TOP_HOLD_STAT, 1, 1⟩
def TOP_HOLD_STAT_WAITING : Fld := ⟨R.TOP_HOLD_STAT, 0, 0⟩
def TOP_PAT_OVL_PATTERN_ID : Fld := ⟨R.TOP_PAT_OVL, 23, 16⟩
def TOP_PAT_OVL_ARG : Fld := ⟨R.TOP_PAT_OVL, 15, 0⟩
def TOP_PAT_DISP_DISP : Fld := ⟨R.TOP_PAT_DISP, 15, 0⟩
def PWR_STATUS_UP_PENDING : Fld := ⟨R.PWR_STATUS, 15, 8⟩
def PWR_STATUS_NVM_BLOCK : Fld := ⟨R.PWR_STATUS, 2, 2⟩
def PWR_STATUS_FLIGHT_BUSY : Fld := ⟨R.PWR_STATUS, 1, 1⟩
def PWR_STATUS_BRACE : Fld := ⟨R.PWR_STATUS, 0, 0⟩
def PWR_RST_CAUSE_SEQ : Fld := ⟨R.PWR_RST_CAUSE, 6, 6⟩
def PWR_RST_CAUSE_MGMT : Fld := ⟨R.PWR_RST_CAUSE, 5, 5⟩
def PWR_RST_CAUSE_THERM : Fld := ⟨R.PWR_RST_CAUSE, 4, 4⟩
def PWR_RST_CAUSE_BOR_WARM : Fld := ⟨R.PWR_RST_CAUSE, 3, 3⟩
def PWR_RST_CAUSE_BOR_COLD : Fld := ⟨R.PWR_RST_CAUSE, 2, 2⟩
def PWR_RST_CAUSE_POR : Fld := ⟨R.PWR_RST_CAUSE, 0, 0⟩
def PWR_RESET_KEY : Fld := ⟨R.PWR_RESET, 31, 16⟩
def PWR_RESET_WARM : Fld := ⟨R.PWR_RESET, 0, 0⟩
def PWR_FLIGHT_STAGGER : Fld := ⟨R.PWR_FLIGHT, 7, 0⟩
def PWR_MON_THR_RST : Fld := ⟨R.PWR_MON_THR, 15, 8⟩
def PWR_MON_THR_WARN : Fld := ⟨R.PWR_MON_THR, 7, 0⟩
def PWR_MON_LIVE_WARN : Fld := ⟨R.PWR_MON_LIVE, 17, 0⟩
def PWR_MON_SEEN_WARN : Fld := ⟨R.PWR_MON_SEEN, 17, 0⟩
def PWR_MON_OV_OV : Fld := ⟨R.PWR_MON_OV, 17, 0⟩
def PWR_BRACE_CNT_COUNT : Fld := ⟨R.PWR_BRACE_CNT, 31, 0⟩
def PWR_BRACE_LAST_DUR_US : Fld := ⟨R.PWR_BRACE_LAST, 31, 0⟩
def PWR_DOM_ON_ON (k : Nat) : Fld := ⟨R.PWR_DOM_ON k, 31, 0⟩
def PWR_DOM_FAIL_FAIL (k : Nat) : Fld := ⟨R.PWR_DOM_FAIL k, 31, 0⟩
def PWR_FLIGHT_STAT_DOWN_PENDING : Fld := ⟨R.PWR_FLIGHT_STAT, 15, 8⟩
def PWR_FLIGHT_STAT_CURRENT : Fld := ⟨R.PWR_FLIGHT_STAT, 7, 0⟩
def IMG_STATUS_STAGE : Fld := ⟨R.IMG_STATUS, 19, 16⟩
def IMG_STATUS_PENDING : Fld := ⟨R.IMG_STATUS, 15, 15⟩
def IMG_STATUS_CAL_USED : Fld := ⟨R.IMG_STATUS, 11, 11⟩
def IMG_STATUS_STRAP : Fld := ⟨R.IMG_STATUS, 10, 10⟩
def IMG_STATUS_FALLBACK : Fld := ⟨R.IMG_STATUS, 9, 9⟩
def IMG_STATUS_BANK : Fld := ⟨R.IMG_STATUS, 8, 8⟩
def IMG_VERSION_VERSION : Fld := ⟨R.IMG_VERSION, 31, 0⟩
def IMG_COMMIT_SEQ_SEQ : Fld := ⟨R.IMG_COMMIT_SEQ, 31, 0⟩
def IMG_FAIL_CAUSE_B : Fld := ⟨R.IMG_FAIL, 7, 4⟩
def IMG_FAIL_CAUSE_A : Fld := ⟨R.IMG_FAIL, 3, 0⟩
def IMG_OTP_REVOKED : Fld := ⟨R.IMG_OTP, 15, 12⟩
def IMG_OTP_PRESENT : Fld := ⟨R.IMG_OTP, 11, 8⟩
def IMG_OTP_EPOCH : Fld := ⟨R.IMG_OTP, 6, 0⟩
def IMG_BOOT_TIME_MS : Fld := ⟨R.IMG_BOOT_TIME, 31, 0⟩
def IMG_UPD_CTRL_CMD : Fld := ⟨R.IMG_UPD_CTRL, 2, 0⟩
def IMG_UPD_LEN_LENGTH : Fld := ⟨R.IMG_UPD_LEN, 24, 0⟩
def IMG_UPD_OFF_OFF : Fld := ⟨R.IMG_UPD_OFF, 24, 0⟩
def IMG_UPD_STAT_ERASED : Fld := ⟨R.IMG_UPD_STAT, 24, 16⟩
def IMG_UPD_STAT_CAUSE : Fld := ⟨R.IMG_UPD_STAT, 11, 8⟩
def IMG_UPD_STAT_STATE : Fld := ⟨R.IMG_UPD_STAT, 2, 0⟩
def IMG_NVM_STAT_ERASE_PEND : Fld := ⟨R.IMG_NVM_STAT, 5, 5⟩
def IMG_NVM_STAT_SUSPENDED : Fld := ⟨R.IMG_NVM_STAT, 4, 4⟩
def IMG_NVM_STAT_BUSY : Fld := ⟨R.IMG_NVM_STAT, 3, 3⟩
def IMG_NVM_STAT_OP : Fld := ⟨R.IMG_NVM_STAT, 2, 0⟩
def IMG_NVM_ADDR_ADDR : Fld := ⟨R.IMG_NVM_ADDR, 31, 0⟩
def IMG_CAL_CTRL_SAVE : Fld := ⟨R.IMG_CAL_CTRL, 0, 0⟩
def IMG_UPD_DATA_DATA (k : Nat) : Fld := ⟨R.IMG_UPD_DATA k, 31, 0⟩
def RING_STATUS_LOOP_OK : Fld := ⟨R.RING_STATUS, 3, 3⟩
def RING_STATUS_WEIR_OPEN : Fld := ⟨R.RING_STATUS, 2, 2⟩
def RING_STATUS_W_LINK : Fld := ⟨R.RING_STATUS, 1, 1⟩
def RING_STATUS_E_LINK : Fld := ⟨R.RING_STATUS, 0, 0⟩
def RING_PORT_CFG_W_TXPOL : Fld := ⟨R.RING_PORT_CFG, 23, 20⟩
def RING_PORT_CFG_E_TXPOL : Fld := ⟨R.RING_PORT_CFG, 19, 16⟩
def RING_PORT_CFG_W_RXPOL : Fld := ⟨R.RING_PORT_CFG, 15, 12⟩
def RING_PORT_CFG_E_RXPOL : Fld := ⟨R.RING_PORT_CFG, 11, 8⟩
def RING_PORT_CFG_W_MEDIA : Fld := ⟨R.RING_PORT_CFG, 5, 4⟩
def RING_PORT_CFG_E_MEDIA : Fld := ⟨R.RING_PORT_CFG, 1, 0⟩
def RING_WEIR_FORCE_BYPASS : Fld := ⟨R.RING_WEIR, 0, 0⟩
def RING_TAG_DUAL : Fld := ⟨R.RING_TAG, 8, 8⟩
def RING_TAG_HOP_LIMIT : Fld := ⟨R.RING_TAG, 5, 0⟩
def RING_FAIR_MAX_WAIT : Fld := ⟨R.RING_FAIR, 9, 0⟩
def RING_MAC_LO_MAC : Fld := ⟨R.RING_MAC_LO, 31, 0⟩
def RING_MAC_HI_MAC : Fld := ⟨R.RING_MAC_HI, 15, 0⟩
def RING_IP4_ADDR : Fld := ⟨R.RING_IP4, 31, 0⟩
def RING_IP_CFG_REPORT : Fld := ⟨R.RING_IP_CFG, 8, 8⟩
def RING_IP_CFG_TTL : Fld := ⟨R.RING_IP_CFG, 7, 0⟩
def RING_PAR_WAIT : Fld := ⟨R.RING_PAR, 9, 0⟩
def RING_FEC_CORR_E_COUNT : Fld := ⟨R.RING_FEC_CORR_E, 31, 0⟩
def RING_FEC_UNC_E_COUNT : Fld := ⟨R.RING_FEC_UNC_E, 31, 0⟩
def RING_FEC_CORR_W_COUNT : Fld := ⟨R.RING_FEC_CORR_W, 31, 0⟩
def RING_FEC_UNC_W_COUNT : Fld := ⟨R.RING_FEC_UNC_W, 31, 0⟩
def RING_STOMP_CNT_SENT : Fld := ⟨R.RING_STOMP_CNT, 31, 16⟩
def RING_STOMP_CNT_SEEN : Fld := ⟨R.RING_STOMP_CNT, 15, 0⟩
def RING_STRIP_ORG_COUNT : Fld := ⟨R.RING_STRIP_ORG, 31, 0⟩
def RING_STRIP_HOP_COUNT : Fld := ⟨R.RING_STRIP_HOP, 31, 0⟩
def RING_ADOPT_CNT_COUNT : Fld := ⟨R.RING_ADOPT_CNT, 31, 0⟩
def RING_DROP_CNT_COUNT : Fld := ⟨R.RING_DROP_CNT, 31, 0⟩
def RING_DUP_CNT_COUNT : Fld := ⟨R.RING_DUP_CNT, 31, 0⟩
def RING_RX_DISC_FORMAT : Fld := ⟨R.RING_RX_DISC, 31, 16⟩
def RING_RX_DISC_LATE : Fld := ⟨R.RING_RX_DISC, 15, 0⟩
def RING_PAR_CNT_RECOVERED : Fld := ⟨R.RING_PAR_CNT, 31, 16⟩
def RING_PAR_CNT_LOST : Fld := ⟨R.RING_PAR_CNT, 15, 0⟩
def RING_INS_PEAK_W_PEAK : Fld := ⟨R.RING_INS_PEAK, 28, 16⟩
def RING_INS_PEAK_E_PEAK : Fld := ⟨R.RING_INS_PEAK, 12, 0⟩
def RING_GRPn_A_ADDR (n : Nat) (k : Nat) : Fld := ⟨R.RING_GRPn_A n k, 31, 0⟩
def RING_GRPn_CTL_TX (n : Nat) : Fld := ⟨R.RING_GRPn_CTL n, 17, 17⟩
def RING_GRPn_CTL_RX (n : Nat) : Fld := ⟨R.RING_GRPn_CTL n, 16, 16⟩
def RING_GRPn_CTL_PORT (n : Nat) : Fld := ⟨R.RING_GRPn_CTL n, 15, 0⟩
def SEC_STATUS_QUEUE : Fld := ⟨R.SEC_STATUS, 11, 8⟩
def SEC_STATUS_SRC_SET : Fld := ⟨R.SEC_STATUS, 1, 1⟩
def SEC_STATUS_DEVKEY_OK : Fld := ⟨R.SEC_STATUS, 0, 0⟩
def SEC_CTRL_REQUIRE_ENC : Fld := ⟨R.SEC_CTRL, 0, 0⟩
def SEC_SRC_HASH_HASH (k : Nat) : Fld := ⟨R.SEC_SRC_HASH k, 31, 0⟩
def SEC_DEVPUB_PUB (k : Nat) : Fld := ⟨R.SEC_DEVPUB k, 31, 0⟩
def SEC_KEY_STAT_LOADED : Fld := ⟨R.SEC_KEY_STAT, 31, 0⟩
def SEC_KSEQ_KSEQ : Fld := ⟨R.SEC_KSEQ, 31, 0⟩
def SEC_KEY_CNT_ACCEPTED : Fld := ⟨R.SEC_KEY_CNT, 31, 16⟩
def SEC_KEY_CNT_REFUSED : Fld := ⟨R.SEC_KEY_CNT, 15, 0⟩
def TIME_STATUS_STATE : Fld := ⟨R.TIME_STATUS, 6, 4⟩
def TIME_STATUS_TIME_SET : Fld := ⟨R.TIME_STATUS, 3, 3⟩
def TIME_STATUS_PORT : Fld := ⟨R.TIME_STATUS, 2, 2⟩
def TIME_STATUS_FREE_RUN : Fld := ⟨R.TIME_STATUS, 1, 1⟩
def TIME_STATUS_LOCKED : Fld := ⟨R.TIME_STATUS, 0, 0⟩
def TIME_PTP_CFG_ANN_TIMEOUT : Fld := ⟨R.TIME_PTP_CFG, 19, 16⟩
def TIME_PTP_CFG_DREQ_UNICAST : Fld := ⟨R.TIME_PTP_CFG, 12, 12⟩
def TIME_PTP_CFG_TRANSPORT : Fld := ⟨R.TIME_PTP_CFG, 11, 10⟩
def TIME_PTP_CFG_PROFILE : Fld := ⟨R.TIME_PTP_CFG, 9, 8⟩
def TIME_PTP_CFG_DOMAIN : Fld := ⟨R.TIME_PTP_CFG, 7, 0⟩
def TIME_SERVO_KI : Fld := ⟨R.TIME_SERVO, 31, 16⟩
def TIME_SERVO_KP : Fld := ⟨R.TIME_SERVO, 15, 0⟩
def TIME_LOCK_STEP_US : Fld := ⟨R.TIME_LOCK, 31, 16⟩
def TIME_LOCK_LOCK_NS : Fld := ⟨R.TIME_LOCK, 15, 0⟩
def TIME_ASYM_ASYM : Fld := ⟨R.TIME_ASYM, 31, 0⟩
def TIME_PERIOD_NS_NS : Fld := ⟨R.TIME_PERIOD_NS, 31, 0⟩
def TIME_PERIOD_FRAC_FRAC : Fld := ⟨R.TIME_PERIOD_FRAC, 15, 0⟩
def TIME_LAUNCH_ARM_US : Fld := ⟨R.TIME_LAUNCH, 23, 16⟩
def TIME_LAUNCH_ADJ : Fld := ⟨R.TIME_LAUNCH, 15, 0⟩
def TIME_PPS_EN : Fld := ⟨R.TIME_PPS, 8, 8⟩
def TIME_PPS_WIDTH_MS : Fld := ⟨R.TIME_PPS, 7, 0⟩
def TIME_EVT0_CFG_PERIOD_MS : Fld := ⟨R.TIME_EVT0_CFG, 31, 16⟩
def TIME_EVT0_CFG_WIDTH_US : Fld := ⟨R.TIME_EVT0_CFG, 15, 8⟩
def TIME_EVT0_CFG_EDGE : Fld := ⟨R.TIME_EVT0_CFG, 2, 2⟩
def TIME_EVT0_CFG_MODE : Fld := ⟨R.TIME_EVT0_CFG, 1, 0⟩
def TIME_EVT1_CFG_PERIOD_MS : Fld := ⟨R.TIME_EVT1_CFG, 31, 16⟩
def TIME_EVT1_CFG_WIDTH_US : Fld := ⟨R.TIME_EVT1_CFG, 15, 8⟩
def TIME_EVT1_CFG_EDGE : Fld := ⟨R.TIME_EVT1_CFG, 2, 2⟩
def TIME_EVT1_CFG_MODE : Fld := ⟨R.TIME_EVT1_CFG, 1, 0⟩
def TIME_EGRESS_MAX_LATE_US : Fld := ⟨R.TIME_EGRESS, 15, 0⟩
def TIME_NOW_NOW (k : Nat) : Fld := ⟨R.TIME_NOW k, 31, 0⟩
def TIME_OFFSET_VALUE : Fld := ⟨R.TIME_OFFSET, 31, 0⟩
def TIME_PATH_VALUE : Fld := ⟨R.TIME_PATH, 31, 0⟩
def TIME_FREQ_VALUE : Fld := ⟨R.TIME_FREQ, 31, 0⟩
def TIME_FF_CORR_VALUE : Fld := ⟨R.TIME_FF_CORR, 31, 0⟩
def TIME_FF_TEMP_TEMP : Fld := ⟨R.TIME_FF_TEMP, 15, 0⟩
def TIME_GM0_ID : Fld := ⟨R.TIME_GM0, 31, 0⟩
def TIME_GM1_ID : Fld := ⟨R.TIME_GM1, 31, 0⟩
def TIME_LAUNCH_CNT_MISSED : Fld := ⟨R.TIME_LAUNCH_CNT, 31, 16⟩
def TIME_LAUNCH_CNT_REPLACED : Fld := ⟨R.TIME_LAUNCH_CNT, 15, 0⟩
def TIME_EGRESS_CNT_LATE : Fld := ⟨R.TIME_EGRESS_CNT, 31, 16⟩
def TIME_EGRESS_CNT_DROPPED : Fld := ⟨R.TIME_EGRESS_CNT, 15, 0⟩
def TIME_TC_CNT_COUNT : Fld := ⟨R.TIME_TC_CNT, 31, 0⟩
def TIME_TC_SKIP_COUNT : Fld := ⟨R.TIME_TC_SKIP, 31, 0⟩
def TIME_CAPn_CAP (n : Nat) (k : Nat) : Fld := ⟨R.TIME_CAPn n k, 31, 0⟩
def RING_STREAM_CFG_AHEAD : Fld := ⟨R.RING_STREAM_CFG, 6, 0⟩
def RING_SCENE0_SCENE_ID : Fld := ⟨R.RING_SCENE0, 31, 0⟩
def RING_SCENE1_SCENE_ID : Fld := ⟨R.RING_SCENE1, 31, 0⟩
def RING_SCENE_VER_VER1 : Fld := ⟨R.RING_SCENE_VER, 31, 16⟩
def RING_SCENE_VER_VER0 : Fld := ⟨R.RING_SCENE_VER, 15, 0⟩
def RING_SCENE_PEND_PEND1 : Fld := ⟨R.RING_SCENE_PEND, 1, 1⟩
def RING_SCENE_PEND_PEND0 : Fld := ⟨R.RING_SCENE_PEND, 0, 0⟩
def RING_CMD_LAST_POUND : Fld := ⟨R.RING_CMD_LAST, 31, 0⟩
def RING_UNIT_DISC_FORMAT : Fld := ⟨R.RING_UNIT_DISC, 31, 16⟩
def RING_UNIT_DISC_RULE : Fld := ⟨R.RING_UNIT_DISC, 15, 0⟩
def RING_CMD_MISS_ABSENT : Fld := ⟨R.RING_CMD_MISS, 31, 16⟩
def RING_CMD_MISS_REFUSED : Fld := ⟨R.RING_CMD_MISS, 15, 0⟩
def RING_CHUNK_LATE_COUNT : Fld := ⟨R.RING_CHUNK_LATE, 31, 0⟩
def RING_CHAN_OPEN_COUNT : Fld := ⟨R.RING_CHAN_OPEN, 7, 0⟩
def DEC_STATUS_UP : Fld := ⟨R.DEC_STATUS, 31, 16⟩
def DEC_STATUS_BUSY : Fld := ⟨R.DEC_STATUS, 15, 0⟩
def DEC_CTRL_CSC_DEF : Fld := ⟨R.DEC_CTRL, 17, 16⟩
def DEC_CTRL_ABANDON_US : Fld := ⟨R.DEC_CTRL, 9, 0⟩
def DEC_LOAD_CORE_NS : Fld := ⟨R.DEC_LOAD, 31, 0⟩
def DEC_LOAD_PEAK_CORE_NS : Fld := ⟨R.DEC_LOAD_PEAK, 31, 0⟩
def DEC_CHUNK_CNT_COUNT : Fld := ⟨R.DEC_CHUNK_CNT, 31, 0⟩
def DEC_ERR_CNT_SYNTAX : Fld := ⟨R.DEC_ERR_CNT, 31, 16⟩
def DEC_ERR_CNT_REFMISS : Fld := ⟨R.DEC_ERR_CNT, 15, 0⟩
def DEC_CONCEAL_CNT_PICTURES : Fld := ⟨R.DEC_CONCEAL_CNT, 31, 16⟩
def DEC_CONCEAL_CNT_ABANDONED : Fld := ⟨R.DEC_CONCEAL_CNT, 15, 0⟩
def DEC_WAIT_CNT_SKIPPED : Fld := ⟨R.DEC_WAIT_CNT, 31, 16⟩
def DEC_WAIT_CNT_NOMOOR : Fld := ⟨R.DEC_WAIT_CNT, 15, 0⟩
def DEC_CACHE_CNT_MISS : Fld := ⟨R.DEC_CACHE_CNT, 31, 16⟩
def DEC_CACHE_CNT_HIT : Fld := ⟨R.DEC_CACHE_CNT, 15, 0⟩
def DEC_CONCEALED_COUNT : Fld := ⟨R.DEC_CONCEALED, 14, 0⟩
def DEC_COREn_STAT_CTX (n : Nat) : Fld := ⟨R.DEC_COREn_STAT n, 29, 16⟩
def DEC_COREn_STAT_PLANE (n : Nat) : Fld := ⟨R.DEC_COREn_STAT n, 5, 4⟩
def DEC_COREn_STAT_STATE (n : Nat) : Fld := ⟨R.DEC_COREn_STAT n, 2, 0⟩
def CTX_STATn_POUND (n : Nat) : Fld := ⟨R.CTX_STATn n, 31, 8⟩
def CTX_STATn_WAIT_RAP (n : Nat) : Fld := ⟨R.CTX_STATn n, 5, 5⟩
def CTX_STATn_CONCEALED_R (n : Nat) : Fld := ⟨R.CTX_STATn n, 4, 4⟩
def CTX_STATn_CONCEALED_A (n : Nat) : Fld := ⟨R.CTX_STATn n, 3, 3⟩
def CTX_STATn_CONCEALED_C (n : Nat) : Fld := ⟨R.CTX_STATn n, 2, 2⟩
def CTX_STATn_PICTURE (n : Nat) : Fld := ⟨R.CTX_STATn n, 1, 1⟩
def CTX_STATn_OPEN (n : Nat) : Fld := ⟨R.CTX_STATn n, 0, 0⟩
def COMP_PANEL_HOG_ROWS : Fld := ⟨R.COMP_PANEL_HOG, 31, 16⟩
def COMP_PANEL_HOG_COLS : Fld := ⟨R.COMP_PANEL_HOG, 15, 0⟩
def COMP_PANEL_VIEW_MIRROR_Y : Fld := ⟨R.COMP_PANEL_VIEW, 17, 17⟩
def COMP_PANEL_VIEW_MIRROR_X : Fld := ⟨R.COMP_PANEL_VIEW, 16, 16⟩
def COMP_PANEL_VIEW_VROWS : Fld := ⟨R.COMP_PANEL_VIEW, 12, 8⟩
def COMP_PANEL_VIEW_VCOLS : Fld := ⟨R.COMP_PANEL_VIEW, 4, 0⟩
def COMP_PANEL_HOG_ACT_VALUE : Fld := ⟨R.COMP_PANEL_HOG_ACT, 31, 0⟩
def COMP_PANEL_VIEW_ACT_VALUE : Fld := ⟨R.COMP_PANEL_VIEW_ACT, 31, 0⟩
def COMP_PANEL_RAYS_RAYS : Fld := ⟨R.COMP_PANEL_RAYS, 31, 0⟩
def COMP_BLOCKS_BY : Fld := ⟨R.COMP_BLOCKS, 26, 16⟩
def COMP_BLOCKS_BX : Fld := ⟨R.COMP_BLOCKS, 10, 0⟩
def COMP_TCACHE_HIT_COUNT : Fld := ⟨R.COMP_TCACHE_HIT, 31, 0⟩
def COMP_TCACHE_MISS_COUNT : Fld := ⟨R.COMP_TCACHE_MISS, 31, 0⟩
def COMP_GEOM_ERR_STEP0 : Fld := ⟨R.COMP_GEOM_ERR, 31, 16⟩
def COMP_GEOM_ERR_PATTERN : Fld := ⟨R.COMP_GEOM_ERR, 15, 0⟩
def COMP_SLUICE_CTRL_CHECK : Fld := ⟨R.COMP_SLUICE_CTRL, 2, 2⟩
def COMP_SLUICE_CTRL_OCCLUDE : Fld := ⟨R.COMP_SLUICE_CTRL, 1, 1⟩
def COMP_SLUICE_CTRL_SKIP_EMPTY : Fld := ⟨R.COMP_SLUICE_CTRL, 0, 0⟩
def COMP_SLUICE_SKIP_COUNT : Fld := ⟨R.COMP_SLUICE_SKIP, 31, 0⟩
def COMP_SLUICE_OCC_COUNT : Fld := ⟨R.COMP_SLUICE_OCC, 31, 0⟩
def COMP_ETERM_COUNT : Fld := ⟨R.COMP_ETERM, 31, 0⟩
def COMP_CONC_RAYS_COUNT : Fld := ⟨R.COMP_CONC_RAYS, 31, 0⟩
def COMP_SLUICE_CHK_MISMATCH : Fld := ⟨R.COMP_SLUICE_CHK, 31, 16⟩
def COMP_SLUICE_CHK_CHECKED : Fld := ⟨R.COMP_SLUICE_CHK, 15, 0⟩
def COMP_LAYER_CAP_CAP : Fld := ⟨R.COMP_LAYER_CAP, 6, 0⟩
def COMP_LADDER_UP_POUNDS : Fld := ⟨R.COMP_LADDER, 31, 24⟩
def COMP_LADDER_DOWN_POUNDS : Fld := ⟨R.COMP_LADDER, 23, 16⟩
def COMP_LADDER_HIGH_PCT : Fld := ⟨R.COMP_LADDER, 15, 8⟩
def COMP_LADDER_LOW_PCT : Fld := ⟨R.COMP_LADDER, 7, 0⟩
def COMP_LADDER_CAP_CAP4 : Fld := ⟨R.COMP_LADDER_CAP, 31, 24⟩
def COMP_LADDER_CAP_CAP3 : Fld := ⟨R.COMP_LADDER_CAP, 23, 16⟩
def COMP_LADDER_CAP_CAP2 : Fld := ⟨R.COMP_LADDER_CAP, 15, 8⟩
def COMP_LADDER_CAP_CAP1 : Fld := ⟨R.COMP_LADDER_CAP, 7, 0⟩
def COMP_RUN_CTRL_TARGET_PCT : Fld := ⟨R.COMP_RUN_CTRL, 31, 24⟩
def COMP_RUN_CTRL_MIN_CLUSTERS : Fld := ⟨R.COMP_RUN_CTRL, 21, 16⟩
def COMP_RUN_CTRL_GATE_EN : Fld := ⟨R.COMP_RUN_CTRL, 15, 15⟩
def COMP_RUN_CTRL_LINE_COST : Fld := ⟨R.COMP_RUN_CTRL, 14, 8⟩
def COMP_RUN_CTRL_MAX_RUNG : Fld := ⟨R.COMP_RUN_CTRL, 2, 0⟩
def COMP_POLICY_GUARD_REPEAT : Fld := ⟨R.COMP_POLICY, 11, 8⟩
def COMP_POLICY_HOLD_LIMIT : Fld := ⟨R.COMP_POLICY, 3, 0⟩
def COMP_TRACK_VSTEP : Fld := ⟨R.COMP_TRACK, 31, 16⟩
def COMP_TRACK_STALE_MS : Fld := ⟨R.COMP_TRACK, 15, 8⟩
def COMP_TRACK_CONE : Fld := ⟨R.COMP_TRACK, 7, 4⟩
def COMP_TRACK_DIM : Fld := ⟨R.COMP_TRACK, 0, 0⟩
def COMP_TAP_EN : Fld := ⟨R.COMP_TAP, 16, 16⟩
def COMP_TAP_VR : Fld := ⟨R.COMP_TAP, 12, 8⟩
def COMP_TAP_VC : Fld := ⟨R.COMP_TAP, 4, 0⟩
def COMP_RUN_STAT_CLUSTERS : Fld := ⟨R.COMP_RUN_STAT, 29, 24⟩
def COMP_RUN_STAT_BELOW : Fld := ⟨R.COMP_RUN_STAT, 23, 16⟩
def COMP_RUN_STAT_ABOVE : Fld := ⟨R.COMP_RUN_STAT, 15, 8⟩
def COMP_RUN_STAT_RUNG_REQ : Fld := ⟨R.COMP_RUN_STAT, 6, 4⟩
def COMP_RUN_STAT_RUNG : Fld := ⟨R.COMP_RUN_STAT, 2, 0⟩
def COMP_LOAD_LATE : Fld := ⟨R.COMP_LOAD, 31, 31⟩
def COMP_LOAD_EST : Fld := ⟨R.COMP_LOAD, 26, 16⟩
def COMP_LOAD_LOAD : Fld := ⟨R.COMP_LOAD, 10, 0⟩
def COMP_LOAD_PEAK_LOAD : Fld := ⟨R.COMP_LOAD_PEAK, 10, 0⟩
def COMP_LATE_CNT_LATE : Fld := ⟨R.COMP_LATE_CNT, 31, 16⟩
def COMP_LATE_CNT_HELD : Fld := ⟨R.COMP_LATE_CNT, 15, 0⟩
def COMP_NOTREADY_CNT_REPEATED : Fld := ⟨R.COMP_NOTREADY_CNT, 31, 16⟩
def COMP_NOTREADY_CNT_TRANSPARENT : Fld := ⟨R.COMP_NOTREADY_CNT, 15, 0⟩
def COMP_GUARD_CNT_MISMATCH : Fld := ⟨R.COMP_GUARD_CNT, 31, 16⟩
def COMP_GUARD_CNT_MATCH : Fld := ⟨R.COMP_GUARD_CNT, 15, 0⟩
def COMP_CAPPED_COUNT : Fld := ⟨R.COMP_CAPPED, 6, 0⟩
def COMP_GUARD_RES_RES : Fld := ⟨R.COMP_GUARD_RES, 31, 0⟩
def COMP_GUARD_CRCn_CRC (n : Nat) : Fld := ⟨R.COMP_GUARD_CRCn n, 31, 0⟩
def COMP_TRACK_STAT_LIT_PM : Fld := ⟨R.COMP_TRACK_STAT, 25, 16⟩
def COMP_TRACK_STAT_ALL_LIT : Fld := ⟨R.COMP_TRACK_STAT, 8, 8⟩
def COMP_TRACK_STAT_EYES : Fld := ⟨R.COMP_TRACK_STAT, 5, 0⟩
def BASIN_STATUS_RATE : Fld := ⟨R.BASIN_STATUS, 15, 8⟩
def BASIN_STATUS_FAIL : Fld := ⟨R.BASIN_STATUS, 7, 4⟩
def BASIN_STATUS_SELFREF : Fld := ⟨R.BASIN_STATUS, 1, 1⟩
def BASIN_STATUS_READY : Fld := ⟨R.BASIN_STATUS, 0, 0⟩
def BASIN_ORDER_SCRATCH : Fld := ⟨R.BASIN_ORDER, 19, 18⟩
def BASIN_ORDER_TOW : Fld := ⟨R.BASIN_ORDER, 17, 16⟩
def BASIN_ORDER_ENCODE : Fld := ⟨R.BASIN_ORDER, 15, 14⟩
def BASIN_ORDER_CAMERA : Fld := ⟨R.BASIN_ORDER, 13, 12⟩
def BASIN_ORDER_TAP : Fld := ⟨R.BASIN_ORDER, 11, 10⟩
def BASIN_ORDER_CARD : Fld := ⟨R.BASIN_ORDER, 9, 8⟩
def BASIN_ORDER_PACKET : Fld := ⟨R.BASIN_ORDER, 7, 6⟩
def BASIN_ORDER_REF : Fld := ⟨R.BASIN_ORDER, 5, 4⟩
def BASIN_ORDER_TEXEL : Fld := ⟨R.BASIN_ORDER, 3, 2⟩
def BASIN_ORDER_FRAME : Fld := ⟨R.BASIN_ORDER, 1, 0⟩
def BASIN_SHARE0_DEC : Fld := ⟨R.BASIN_SHARE0, 31, 24⟩
def BASIN_SHARE0_TEXEL : Fld := ⟨R.BASIN_SHARE0, 23, 16⟩
def BASIN_SHARE0_COMPW : Fld := ⟨R.BASIN_SHARE0, 15, 8⟩
def BASIN_SHARE0_SCAN : Fld := ⟨R.BASIN_SHARE0, 7, 0⟩
def BASIN_SHARE1_SCRUB : Fld := ⟨R.BASIN_SHARE1, 23, 16⟩
def BASIN_SHARE1_OTHER : Fld := ⟨R.BASIN_SHARE1, 15, 8⟩
def BASIN_SHARE1_RING : Fld := ⟨R.BASIN_SHARE1, 7, 0⟩
def BASIN_RSV_PKT : Fld := ⟨R.BASIN_RSV, 15, 0⟩
def BASIN_SCRUB_EN : Fld := ⟨R.BASIN_SCRUB, 8, 8⟩
def BASIN_SCRUB_PERIOD_H : Fld := ⟨R.BASIN_SCRUB, 7, 0⟩
def BASIN_FREE_FREE : Fld := ⟨R.BASIN_FREE, 15, 0⟩
def BASIN_FREE_LOW_LOW : Fld := ⟨R.BASIN_FREE_LOW, 15, 0⟩
def BASIN_CLASS_CNTn_COUNT (n : Nat) : Fld := ⟨R.BASIN_CLASS_CNTn n, 15, 0⟩
def BASIN_ECC_CE_COUNT : Fld := ⟨R.BASIN_ECC_CE, 31, 0⟩
def BASIN_ECC_UE_COUNT : Fld := ⟨R.BASIN_ECC_UE, 31, 0⟩
def BASIN_UE_ADDR0_ADDR : Fld := ⟨R.BASIN_UE_ADDR0, 31, 0⟩
def BASIN_UE_ADDR1_ADDR : Fld := ⟨R.BASIN_UE_ADDR1, 31, 0⟩
def BASIN_UE_SRC_READER : Fld := ⟨R.BASIN_UE_SRC, 11, 8⟩
def BASIN_UE_SRC_CLASS : Fld := ⟨R.BASIN_UE_SRC, 3, 0⟩
def BASIN_QUAR_FULL : Fld := ⟨R.BASIN_QUAR, 7, 7⟩
def BASIN_QUAR_COUNT : Fld := ⟨R.BASIN_QUAR, 6, 0⟩
def BASIN_QUAR_CLR_CLEAR : Fld := ⟨R.BASIN_QUAR_CLR, 0, 0⟩
def BASIN_ALLOC_FAIL_COUNT : Fld := ⟨R.BASIN_ALLOC_FAIL, 31, 0⟩
def BASIN_TRAINs_MIN_EYE (s : Nat) : Fld := ⟨R.BASIN_TRAINs s, 31, 24⟩
def BASIN_TRAINs_REPAIRED (s : Nat) : Fld := ⟨R.BASIN_TRAINs s, 23, 16⟩
def BASIN_TRAINs_FULL (s : Nat) : Fld := ⟨R.BASIN_TRAINs s, 15, 8⟩
def BASIN_TRAINs_STATE (s : Nat) : Fld := ⟨R.BASIN_TRAINs s, 1, 0⟩
def BASIN_BWn_GBS (n : Nat) : Fld := ⟨R.BASIN_BWn n, 15, 0⟩
def TUG_STATUS_QUEUED : Fld := ⟨R.TUG_STATUS, 31, 16⟩
def TUG_STATUS_RUNNING : Fld := ⟨R.TUG_STATUS, 2, 0⟩
def TUG_CLIP_MODE_OUTSIDE : Fld := ⟨R.TUG_CLIP_MODE, 15, 0⟩
def TUG_CLIPn_A_Y0 (n : Nat) : Fld := ⟨R.TUG_CLIPn_A n, 31, 16⟩
def TUG_CLIPn_A_X0 (n : Nat) : Fld := ⟨R.TUG_CLIPn_A n, 15, 0⟩
def TUG_CLIPn_B_Y1 (n : Nat) : Fld := ⟨R.TUG_CLIPn_B n, 31, 16⟩
def TUG_CLIPn_B_X1 (n : Nat) : Fld := ⟨R.TUG_CLIPn_B n, 15, 0⟩
def TUG_DONE_CNT_COUNT : Fld := ⟨R.TUG_DONE_CNT, 31, 0⟩
def TUG_SKIP_CNT_SUPERSEDED : Fld := ⟨R.TUG_SKIP_CNT, 31, 16⟩
def TUG_SKIP_CNT_DISCARDED : Fld := ⟨R.TUG_SKIP_CNT, 15, 0⟩
def TUG_ERR_CNT_LATE : Fld := ⟨R.TUG_ERR_CNT, 31, 24⟩
def TUG_ERR_CNT_ABORTED : Fld := ⟨R.TUG_ERR_CNT, 23, 16⟩
def TUG_ERR_CNT_OVERLAP : Fld := ⟨R.TUG_ERR_CNT, 15, 0⟩
def TUG_PX_CNT_COUNT : Fld := ⟨R.TUG_PX_CNT, 31, 0⟩
def TUG_LAST_POUND : Fld := ⟨R.TUG_LAST, 23, 16⟩
def TUG_LAST_SLOT : Fld := ⟨R.TUG_LAST, 9, 9⟩
def TUG_LAST_LAYER : Fld := ⟨R.TUG_LAST, 8, 4⟩
def TUG_LAST_STATUS : Fld := ⟨R.TUG_LAST, 2, 0⟩
def SCAN_STRIP_LANES : Fld := ⟨R.SCAN_STRIP, 25, 20⟩
def SCAN_STRIP_STRIP_ACT : Fld := ⟨R.SCAN_STRIP, 12, 0⟩
def SCAN_HPORCH_HFP : Fld := ⟨R.SCAN_HPORCH, 15, 8⟩
def SCAN_HPORCH_HBP : Fld := ⟨R.SCAN_HPORCH, 7, 0⟩
def SCAN_VPORCH_VBP : Fld := ⟨R.SCAN_VPORCH, 31, 16⟩
def SCAN_VPORCH_VSYNC : Fld := ⟨R.SCAN_VPORCH, 15, 8⟩
def SCAN_VPORCH_VFP : Fld := ⟨R.SCAN_VPORCH, 7, 0⟩
def SCAN_FMT_BPP24 : Fld := ⟨R.SCAN_FMT, 0, 0⟩
def SCAN_ROWS_MAX : Fld := ⟨R.SCAN_ROWS, 31, 16⟩
def SCAN_ROWS_TOTAL : Fld := ⟨R.SCAN_ROWS, 15, 0⟩
def SCAN_STATUS_ABORTED : Fld := ⟨R.SCAN_STATUS, 8, 8⟩
def SCAN_STATUS_KIND : Fld := ⟨R.SCAN_STATUS, 6, 4⟩
def SCAN_STATUS_OWN_IN : Fld := ⟨R.SCAN_STATUS, 1, 1⟩
def SCAN_STATUS_OWN_OUT : Fld := ⟨R.SCAN_STATUS, 0, 0⟩
def SCAN_FCNT0_FCNT : Fld := ⟨R.SCAN_FCNT0, 31, 0⟩
def SCAN_FCNT1_FCNT : Fld := ⟨R.SCAN_FCNT1, 31, 0⟩
def SCAN_FLIP_FLIP (k : Nat) : Fld := ⟨R.SCAN_FLIP k, 31, 0⟩
def SCAN_FLIP_POUND_POUND : Fld := ⟨R.SCAN_FLIP_POUND, 31, 0⟩
def SCAN_CNT_REPEATS : Fld := ⟨R.SCAN_CNT, 31, 16⟩
def SCAN_CNT_ABORTS : Fld := ⟨R.SCAN_CNT, 15, 0⟩
def SCAN_CHK_RES_RES : Fld := ⟨R.SCAN_CHK_RES, 15, 0⟩
def SCAN_CHK_CNT_FAIL : Fld := ⟨R.SCAN_CHK_CNT, 31, 16⟩
def SCAN_CHK_CNT_PASS : Fld := ⟨R.SCAN_CHK_CNT, 15, 0⟩
def SCAN_CHKn_X0_X (n : Nat) : Fld := ⟨R.SCAN_CHKn_X0 n, 16, 0⟩
def SCAN_CHKn_X1_X (n : Nat) : Fld := ⟨R.SCAN_CHKn_X1 n, 16, 0⟩
def SCAN_CHKn_Y_Y1 (n : Nat) : Fld := ⟨R.SCAN_CHKn_Y n, 31, 16⟩
def SCAN_CHKn_Y_Y0 (n : Nat) : Fld := ⟨R.SCAN_CHKn_Y n, 15, 0⟩
def SCAN_CHKn_CFG_ALERT (n : Nat) : Fld := ⟨R.SCAN_CHKn_CFG n, 4, 4⟩
def SCAN_CHKn_CFG_MODE (n : Nat) : Fld := ⟨R.SCAN_CHKn_CFG n, 2, 0⟩
def SCAN_CHKn_EXP_EXP (n : Nat) : Fld := ⟨R.SCAN_CHKn_EXP n, 31, 0⟩
def SCAN_CHKn_CRC_CRC (n : Nat) : Fld := ⟨R.SCAN_CHKn_CRC n, 31, 0⟩
def LANE_ADAPT_RETRIES : Fld := ⟨R.LANE_ADAPT, 19, 16⟩
def LANE_ADAPT_FOM_WARN : Fld := ⟨R.LANE_ADAPT, 15, 8⟩
def LANE_ADAPT_FOM_MIN : Fld := ⟨R.LANE_ADAPT, 7, 0⟩
def LANE_BC_POLL_MS : Fld := ⟨R.LANE_BC, 23, 16⟩
def LANE_BC_TIMEOUT_MS : Fld := ⟨R.LANE_BC, 15, 0⟩
def LANE_BC_DONE0_DONE : Fld := ⟨R.LANE_BC_DONE0, 31, 0⟩
def LANE_BC_DONE1_DONE : Fld := ⟨R.LANE_BC_DONE1, 31, 0⟩
def LANE_LOCK_CNT_COUNT : Fld := ⟨R.LANE_LOCK_CNT, 31, 0⟩
def LANE_MON_CFG_SCAN : Fld := ⟨R.LANE_MON_CFG, 9, 9⟩
def LANE_MON_CFG_EN : Fld := ⟨R.LANE_MON_CFG, 8, 8⟩
def LANE_MON_CFG_LANE : Fld := ⟨R.LANE_MON_CFG, 5, 0⟩
def LANE_MON_STAT_LANE : Fld := ⟨R.LANE_MON_STAT, 29, 24⟩
def LANE_MON_STAT_WIDTH : Fld := ⟨R.LANE_MON_STAT, 21, 16⟩
def LANE_MON_STAT_FOM : Fld := ⟨R.LANE_MON_STAT, 15, 8⟩
def LANE_MON_STAT_LOCK : Fld := ⟨R.LANE_MON_STAT, 1, 1⟩
def LANE_MON_STAT_ADAPTED : Fld := ⟨R.LANE_MON_STAT, 0, 0⟩
def LANE_MON_EYEk_UPPER (k : Nat) : Fld := ⟨R.LANE_MON_EYEk k, 23, 16⟩
def LANE_MON_EYEk_MIDDLE (k : Nat) : Fld := ⟨R.LANE_MON_EYEk k, 15, 8⟩
def LANE_MON_EYEk_LOWER (k : Nat) : Fld := ⟨R.LANE_MON_EYEk k, 7, 0⟩
def LANE_n_TXFFE_CP1 (n : Nat) : Fld := ⟨R.LANE_n_TXFFE n, 31, 24⟩
def LANE_n_TXFFE_CM1 (n : Nat) : Fld := ⟨R.LANE_n_TXFFE n, 23, 16⟩
def LANE_n_TXFFE_CM2 (n : Nat) : Fld := ⟨R.LANE_n_TXFFE n, 15, 8⟩
def LANE_n_TXFFE_CM3 (n : Nat) : Fld := ⟨R.LANE_n_TXFFE n, 7, 0⟩
def LANE_n_TXCFG_SWING (n : Nat) : Fld := ⟨R.LANE_n_TXCFG n, 5, 4⟩
def LANE_n_TXCFG_POL_INV (n : Nat) : Fld := ⟨R.LANE_n_TXCFG n, 1, 1⟩
def LANE_n_TXCFG_PRECODE (n : Nat) : Fld := ⟨R.LANE_n_TXCFG n, 0, 0⟩
def LANE_n_TXACT_TAPS (n : Nat) : Fld := ⟨R.LANE_n_TXACT n, 31, 0⟩
def LANE_n_STAT_FOM (n : Nat) : Fld := ⟨R.LANE_n_STAT n, 31, 24⟩
def LANE_n_STAT_CTLE (n : Nat) : Fld := ⟨R.LANE_n_STAT n, 23, 20⟩
def LANE_n_STAT_DFE (n : Nat) : Fld := ⟨R.LANE_n_STAT n, 15, 8⟩
def LANE_n_STAT_INVERTED (n : Nat) : Fld := ⟨R.LANE_n_STAT n, 6, 6⟩
def LANE_n_STAT_CHK_SYNC (n : Nat) : Fld := ⟨R.LANE_n_STAT n, 5, 5⟩
def LANE_n_STAT_LOCK (n : Nat) : Fld := ⟨R.LANE_n_STAT n, 4, 4⟩
def LANE_n_STAT_STATE (n : Nat) : Fld := ⟨R.LANE_n_STAT n, 2, 0⟩
def LANE_n_TEST_INJ_KIND (n : Nat) : Fld := ⟨R.LANE_n_TEST n, 25, 24⟩
def LANE_n_TEST_RATE (n : Nat) : Fld := ⟨R.LANE_n_TEST n, 21, 16⟩
def LANE_n_TEST_CHK_FRAMED (n : Nat) : Fld := ⟨R.LANE_n_TEST n, 12, 12⟩
def LANE_n_TEST_CHK_PAT (n : Nat) : Fld := ⟨R.LANE_n_TEST n, 11, 8⟩
def LANE_n_TEST_GEN_FRAMED (n : Nat) : Fld := ⟨R.LANE_n_TEST n, 4, 4⟩
def LANE_n_TEST_GEN_PAT (n : Nat) : Fld := ⟨R.LANE_n_TEST n, 3, 0⟩
def LANE_n_ERR0_ERR (n : Nat) : Fld := ⟨R.LANE_n_ERR0 n, 31, 0⟩
def LANE_n_ERR1_ERR (n : Nat) : Fld := ⟨R.LANE_n_ERR1 n, 31, 0⟩
def LANE_n_INJ_KIND (n : Nat) : Fld := ⟨R.LANE_n_INJ n, 31, 30⟩
def LANE_n_INJ_COUNT (n : Nat) : Fld := ⟨R.LANE_n_INJ n, 7, 0⟩
def PNL_STATUS_PEND : Fld := ⟨R.PNL_STATUS, 14, 12⟩
def PNL_STATUS_BAND : Fld := ⟨R.PNL_STATUS, 10, 8⟩
def PNL_STATUS_VREF_DRV : Fld := ⟨R.PNL_STATUS, 7, 7⟩
def PNL_STATUS_VHOLD_LOW : Fld := ⟨R.PNL_STATUS, 6, 6⟩
def PNL_STATUS_CRACK : Fld := ⟨R.PNL_STATUS, 5, 5⟩
def PNL_STATUS_VIN_OK : Fld := ⟨R.PNL_STATUS, 4, 4⟩
def PNL_STATUS_PGOOD : Fld := ⟨R.PNL_STATUS, 3, 3⟩
def PNL_STATUS_STATE : Fld := ⟨R.PNL_STATUS, 2, 0⟩
def PNL_CTRL_OFF : Fld := ⟨R.PNL_CTRL, 1, 1⟩
def PNL_CTRL_AUTO : Fld := ⟨R.PNL_CTRL, 0, 0⟩
def PNL_SEQ_TIMEOUT_MS : Fld := ⟨R.PNL_SEQ, 31, 16⟩
def PNL_SEQ_T_DN : Fld := ⟨R.PNL_SEQ, 15, 8⟩
def PNL_SEQ_T_UP : Fld := ⟨R.PNL_SEQ, 7, 0⟩
def PNL_VREF_CFG_ALERT : Fld := ⟨R.PNL_VREF_CFG, 8, 8⟩
def PNL_VREF_CFG_TOL : Fld := ⟨R.PNL_VREF_CFG, 7, 0⟩
def PNL_VREF_STAT_TEMP : Fld := ⟨R.PNL_VREF_STAT, 31, 16⟩
def PNL_VREF_STAT_POINT : Fld := ⟨R.PNL_VREF_STAT, 13, 8⟩
def PNL_VIN_HYST_MV : Fld := ⟨R.PNL_VIN, 27, 16⟩
def PNL_VIN_THR_MV : Fld := ⟨R.PNL_VIN, 11, 0⟩
def PNL_DIS_MIN_MV : Fld := ⟨R.PNL_DIS, 31, 16⟩
def PNL_DIS_HOLD_MS : Fld := ⟨R.PNL_DIS, 7, 0⟩
def PNL_CRACK_COUNT : Fld := ⟨R.PNL_CRACK, 11, 8⟩
def PNL_CRACK_ACTION : Fld := ⟨R.PNL_CRACK, 5, 4⟩
def PNL_CRACK_EN : Fld := ⟨R.PNL_CRACK, 0, 0⟩
def PNL_CRACK_CLR_CLEAR : Fld := ⟨R.PNL_CRACK_CLR, 0, 0⟩
def PNL_HOLD_BLINK_OFF : Fld := ⟨R.PNL_HOLD_BLINK, 15, 8⟩
def PNL_HOLD_BLINK_ON : Fld := ⟨R.PNL_HOLD_BLINK, 7, 0⟩
def PNL_SB_CNT_FAIL : Fld := ⟨R.PNL_SB_CNT, 31, 16⟩
def PNL_SB_CNT_OK : Fld := ⟨R.PNL_SB_CNT, 15, 0⟩
def PNL_VHOLD_MV : Fld := ⟨R.PNL_VHOLD, 15, 0⟩
def CAM_STATUS_CCI_FAIL : Fld := ⟨R.CAM_STATUS, 23, 16⟩
def CAM_STATUS_STREAMING : Fld := ⟨R.CAM_STATUS, 15, 8⟩
def CAM_STATUS_PORT_UP : Fld := ⟨R.CAM_STATUS, 1, 0⟩
def CAM_FSYNC0_CFG_OFFSET_US : Fld := ⟨R.CAM_FSYNC0_CFG, 31, 16⟩
def CAM_FSYNC0_CFG_WIDTH_US : Fld := ⟨R.CAM_FSYNC0_CFG, 15, 8⟩
def CAM_FSYNC0_CFG_DIV : Fld := ⟨R.CAM_FSYNC0_CFG, 7, 4⟩
def CAM_FSYNC0_CFG_MODE : Fld := ⟨R.CAM_FSYNC0_CFG, 1, 0⟩
def CAM_FSYNC1_CFG_OFFSET_US : Fld := ⟨R.CAM_FSYNC1_CFG, 31, 16⟩
def CAM_FSYNC1_CFG_WIDTH_US : Fld := ⟨R.CAM_FSYNC1_CFG, 15, 8⟩
def CAM_FSYNC1_CFG_DIV : Fld := ⟨R.CAM_FSYNC1_CFG, 7, 4⟩
def CAM_FSYNC1_CFG_MODE : Fld := ⟨R.CAM_FSYNC1_CFG, 1, 0⟩
def CAM_FSYNC0_PER_PERIOD_US : Fld := ⟨R.CAM_FSYNC0_PER, 19, 0⟩
def CAM_FSYNC1_PER_PERIOD_US : Fld := ⟨R.CAM_FSYNC1_PER, 19, 0⟩
def CAM_STROBE_WIDTH_US : Fld := ⟨R.CAM_STROBE, 23, 16⟩
def CAM_STROBE_DELAY_US : Fld := ⟨R.CAM_STROBE, 15, 8⟩
def CAM_STROBE_DIV : Fld := ⟨R.CAM_STROBE, 2, 1⟩
def CAM_STROBE_SRC : Fld := ⟨R.CAM_STROBE, 0, 0⟩
def CAM_PORT_FMP1 : Fld := ⟨R.CAM_PORT, 9, 9⟩
def CAM_PORT_FMP0 : Fld := ⟨R.CAM_PORT, 8, 8⟩
def CAM_PORT_LANES1 : Fld := ⟨R.CAM_PORT, 5, 4⟩
def CAM_PORT_LANES0 : Fld := ⟨R.CAM_PORT, 1, 0⟩
def CAM_DROP_CNT_OVERFLOW : Fld := ⟨R.CAM_DROP_CNT, 31, 16⟩
def CAM_DROP_CNT_ERROR : Fld := ⟨R.CAM_DROP_CNT, 15, 0⟩
def CAM_PKT_ERR_ECC_CORR : Fld := ⟨R.CAM_PKT_ERR, 31, 16⟩
def CAM_PKT_ERR_DISCARD : Fld := ⟨R.CAM_PKT_ERR, 15, 0⟩
def CAM_Sn_CTRL_EN (n : Nat) : Fld := ⟨R.CAM_Sn_CTRL n, 0, 0⟩
def CAM_Sn_EXP_GAIN (n : Nat) : Fld := ⟨R.CAM_Sn_EXP n, 31, 20⟩
def CAM_Sn_EXP_LINES (n : Nat) : Fld := ⟨R.CAM_Sn_EXP n, 19, 0⟩
def CAM_Sn_WB_B (n : Nat) : Fld := ⟨R.CAM_Sn_WB n, 29, 20⟩
def CAM_Sn_WB_G (n : Nat) : Fld := ⟨R.CAM_Sn_WB n, 19, 10⟩
def CAM_Sn_WB_R (n : Nat) : Fld := ⟨R.CAM_Sn_WB n, 9, 0⟩
def CAM_Sn_STAT0_SET_ID (n : Nat) : Fld := ⟨R.CAM_Sn_STAT0 n, 31, 24⟩
def CAM_Sn_STAT0_FRAME (n : Nat) : Fld := ⟨R.CAM_Sn_STAT0 n, 15, 0⟩
def CAM_Sn_STAT1_CLIP_PM (n : Nat) : Fld := ⟨R.CAM_Sn_STAT1 n, 25, 16⟩
def CAM_Sn_STAT1_MEAN (n : Nat) : Fld := ⟨R.CAM_Sn_STAT1 n, 11, 0⟩
def CAM_Sn_CCI_SET_ID (n : Nat) : Fld := ⟨R.CAM_Sn_CCI n, 31, 24⟩
def CAM_Sn_CCI_FAIL (n : Nat) : Fld := ⟨R.CAM_Sn_CCI n, 16, 16⟩
def CAM_Sn_CCI_FRAME (n : Nat) : Fld := ⟨R.CAM_Sn_CCI n, 15, 0⟩
def CAM_Sn_CNT_FRAMES (n : Nat) : Fld := ⟨R.CAM_Sn_CNT n, 31, 16⟩
def CAM_Sn_CNT_DROPPED (n : Nat) : Fld := ⟨R.CAM_Sn_CNT n, 15, 0⟩
def CAM_Sn_OUTo_CROP0_Y0 (n : Nat) (o : Nat) : Fld := ⟨R.CAM_Sn_OUTo_CROP0 n o, 31, 16⟩
def CAM_Sn_OUTo_CROP0_X0 (n : Nat) (o : Nat) : Fld := ⟨R.CAM_Sn_OUTo_CROP0 n o, 15, 0⟩
def CAM_Sn_OUTo_CROP1_H (n : Nat) (o : Nat) : Fld := ⟨R.CAM_Sn_OUTo_CROP1 n o, 31, 16⟩
def CAM_Sn_OUTo_CROP1_W (n : Nat) (o : Nat) : Fld := ⟨R.CAM_Sn_OUTo_CROP1 n o, 15, 0⟩
def CAM_Sn_OUTo_SIZE_OH (n : Nat) (o : Nat) : Fld := ⟨R.CAM_Sn_OUTo_SIZE n o, 31, 16⟩
def CAM_Sn_OUTo_SIZE_OW (n : Nat) (o : Nat) : Fld := ⟨R.CAM_Sn_OUTo_SIZE n o, 15, 0⟩
def CAM_Sn_OUTo_CFG_USE (n : Nat) (o : Nat) : Fld := ⟨R.CAM_Sn_OUTo_CFG n o, 9, 8⟩
def CAM_Sn_OUTo_CFG_BUFS (n : Nat) (o : Nat) : Fld := ⟨R.CAM_Sn_OUTo_CFG n o, 5, 4⟩
def CAM_Sn_OUTo_CFG_FMT (n : Nat) (o : Nat) : Fld := ⟨R.CAM_Sn_OUTo_CFG n o, 2, 1⟩
def CAM_Sn_OUTo_CFG_EN (n : Nat) (o : Nat) : Fld := ⟨R.CAM_Sn_OUTo_CFG n o, 0, 0⟩
def TRK_CTRL_DIFF : Fld := ⟨R.TRK_CTRL, 24, 24⟩
def TRK_CTRL_MAX_AREA : Fld := ⟨R.TRK_CTRL, 23, 16⟩
def TRK_CTRL_MIN_AREA : Fld := ⟨R.TRK_CTRL, 11, 8⟩
def TRK_CTRL_THR : Fld := ⟨R.TRK_CTRL, 7, 0⟩
def TRK_STATUS_AGE_MS : Fld := ⟨R.TRK_STATUS, 31, 16⟩
def TRK_STATUS_PAIRS : Fld := ⟨R.TRK_STATUS, 11, 8⟩
def TRK_STATUS_EYES : Fld := ⟨R.TRK_STATUS, 5, 0⟩
def TRK_CNT_UNPAIRED : Fld := ⟨R.TRK_CNT, 31, 16⟩
def TRK_CNT_UNMATCHED : Fld := ⟨R.TRK_CNT, 15, 0⟩
def TRK_PAIRp_CFG_DMAX (p : Nat) : Fld := ⟨R.TRK_PAIRp_CFG p, 31, 24⟩
def TRK_PAIRp_CFG_ROW_TOL (p : Nat) : Fld := ⟨R.TRK_PAIRp_CFG p, 23, 16⟩
def TRK_PAIRp_CFG_OUT_R (p : Nat) : Fld := ⟨R.TRK_PAIRp_CFG p, 15, 14⟩
def TRK_PAIRp_CFG_OUT_L (p : Nat) : Fld := ⟨R.TRK_PAIRp_CFG p, 13, 12⟩
def TRK_PAIRp_CFG_RIGHT (p : Nat) : Fld := ⟨R.TRK_PAIRp_CFG p, 10, 8⟩
def TRK_PAIRp_CFG_LEFT (p : Nat) : Fld := ⟨R.TRK_PAIRp_CFG p, 6, 4⟩
def TRK_PAIRp_CFG_EN (p : Nat) : Fld := ⟨R.TRK_PAIRp_CFG p, 0, 0⟩
def TRK_MERGE_DIST : Fld := ⟨R.TRK_MERGE, 15, 0⟩
def TRK_REP_TIME_TIME (k : Nat) : Fld := ⟨R.TRK_REP_TIME k, 31, 0⟩
def TRK_EYEe_X_VALUE (e : Nat) : Fld := ⟨R.TRK_EYEe_X e, 31, 0⟩
def TRK_EYEe_Y_VALUE (e : Nat) : Fld := ⟨R.TRK_EYEe_Y e, 31, 0⟩
def TRK_EYEe_Z_VALUE (e : Nat) : Fld := ⟨R.TRK_EYEe_Z e, 31, 0⟩
def ENC_STATUS_CODING : Fld := ⟨R.ENC_STATUS, 9, 8⟩
def ENC_STATUS_BUSY : Fld := ⟨R.ENC_STATUS, 4, 4⟩
def ENC_STATUS_ACTIVE : Fld := ⟨R.ENC_STATUS, 3, 0⟩
def ENC_CNT_TAP_MISSED : Fld := ⟨R.ENC_CNT, 31, 0⟩
def ENC_Sn_CTRL_DIV (n : Nat) : Fld := ⟨R.ENC_Sn_CTRL n, 23, 20⟩
def ENC_Sn_CTRL_ROT (n : Nat) : Fld := ⟨R.ENC_Sn_CTRL n, 17, 16⟩
def ENC_Sn_CTRL_MIRROR (n : Nat) : Fld := ⟨R.ENC_Sn_CTRL n, 15, 15⟩
def ENC_Sn_CTRL_OUT (n : Nat) : Fld := ⟨R.ENC_Sn_CTRL n, 11, 10⟩
def ENC_Sn_CTRL_SENSOR (n : Nat) : Fld := ⟨R.ENC_Sn_CTRL n, 8, 6⟩
def ENC_Sn_CTRL_SRC (n : Nat) : Fld := ⟨R.ENC_Sn_CTRL n, 1, 1⟩
def ENC_Sn_CTRL_EN (n : Nat) : Fld := ⟨R.ENC_Sn_CTRL n, 0, 0⟩
def ENC_Sn_CROP0_Y0 (n : Nat) : Fld := ⟨R.ENC_Sn_CROP0 n, 31, 16⟩
def ENC_Sn_CROP0_X0 (n : Nat) : Fld := ⟨R.ENC_Sn_CROP0 n, 15, 0⟩
def ENC_Sn_CROP1_H (n : Nat) : Fld := ⟨R.ENC_Sn_CROP1 n, 31, 16⟩
def ENC_Sn_CROP1_W (n : Nat) : Fld := ⟨R.ENC_Sn_CROP1 n, 15, 0⟩
def ENC_Sn_SIZE_OH (n : Nat) : Fld := ⟨R.ENC_Sn_SIZE n, 31, 16⟩
def ENC_Sn_SIZE_OW (n : Nat) : Fld := ⟨R.ENC_Sn_SIZE n, 15, 0⟩
def ENC_Sn_RC_MODE (n : Nat) : Fld := ⟨R.ENC_Sn_RC n, 31, 30⟩
def ENC_Sn_RC_QP_MAX (n : Nat) : Fld := ⟨R.ENC_Sn_RC n, 29, 24⟩
def ENC_Sn_RC_QP_MIN (n : Nat) : Fld := ⟨R.ENC_Sn_RC n, 21, 16⟩
def ENC_Sn_RC_QP_P (n : Nat) : Fld := ⟨R.ENC_Sn_RC n, 13, 8⟩
def ENC_Sn_RC_QP_I (n : Nat) : Fld := ⟨R.ENC_Sn_RC n, 5, 0⟩
def ENC_Sn_RATE_BITRATE_KBPS (n : Nat) : Fld := ⟨R.ENC_Sn_RATE n, 18, 0⟩
def ENC_Sn_RATE2_IFAC (n : Nat) : Fld := ⟨R.ENC_Sn_RATE2 n, 29, 24⟩
def ENC_Sn_RATE2_RATE_MHZ (n : Nat) : Fld := ⟨R.ENC_Sn_RATE2 n, 16, 0⟩
def ENC_Sn_GOP_SLICE_ROWS (n : Nat) : Fld := ⟨R.ENC_Sn_GOP n, 19, 16⟩
def ENC_Sn_GOP_IDR_PERIOD (n : Nat) : Fld := ⟨R.ENC_Sn_GOP n, 15, 0⟩
def ENC_Sn_TX_GRP (n : Nat) : Fld := ⟨R.ENC_Sn_TX n, 19, 16⟩
def ENC_Sn_TX_CHAN (n : Nat) : Fld := ⟨R.ENC_Sn_TX n, 15, 0⟩
def ENC_Sn_PKT_PAR_N (n : Nat) : Fld := ⟨R.ENC_Sn_PKT n, 19, 16⟩
def ENC_Sn_PKT_MAX_LEN (n : Nat) : Fld := ⟨R.ENC_Sn_PKT n, 13, 0⟩
def ENC_Sn_TIME_PACE_NS (n : Nat) : Fld := ⟨R.ENC_Sn_TIME n, 31, 16⟩
def ENC_Sn_TIME_DELAY_US (n : Nat) : Fld := ⟨R.ENC_Sn_TIME n, 15, 0⟩
def ENC_Sn_CMD_IDR (n : Nat) : Fld := ⟨R.ENC_Sn_CMD n, 0, 0⟩
def ENC_Sn_STAT_PIC (n : Nat) : Fld := ⟨R.ENC_Sn_STAT n, 31, 16⟩
def ENC_Sn_STAT_QP (n : Nat) : Fld := ⟨R.ENC_Sn_STAT n, 13, 8⟩
def ENC_Sn_STAT_COAST (n : Nat) : Fld := ⟨R.ENC_Sn_STAT n, 1, 1⟩
def ENC_Sn_STAT_WAITING (n : Nat) : Fld := ⟨R.ENC_Sn_STAT n, 0, 0⟩
def ENC_Sn_BITS_VALUE (n : Nat) : Fld := ⟨R.ENC_Sn_BITS n, 31, 0⟩
def ENC_Sn_DEBT_VALUE (n : Nat) : Fld := ⟨R.ENC_Sn_DEBT n, 31, 0⟩
def ENC_Sn_CNT0_PICTURES (n : Nat) : Fld := ⟨R.ENC_Sn_CNT0 n, 31, 16⟩
def ENC_Sn_CNT0_SKIPPED (n : Nat) : Fld := ⟨R.ENC_Sn_CNT0 n, 15, 0⟩
def ENC_Sn_CNT1_COASTED (n : Nat) : Fld := ⟨R.ENC_Sn_CNT1 n, 31, 16⟩
def ENC_Sn_CNT1_ABANDONED (n : Nat) : Fld := ⟨R.ENC_Sn_CNT1 n, 15, 0⟩
def TOW_STATUS_RX_LOCK : Fld := ⟨R.TOW_STATUS, 23, 20⟩
def TOW_STATUS_TX_USE : Fld := ⟨R.TOW_STATUS, 19, 16⟩
def TOW_STATUS_JOINING : Fld := ⟨R.TOW_STATUS, 9, 9⟩
def TOW_STATUS_HEALTHY : Fld := ⟨R.TOW_STATUS, 8, 8⟩
def TOW_STATUS_PARTNER : Fld := ⟨R.TOW_STATUS, 7, 7⟩
def TOW_STATUS_HOT : Fld := ⟨R.TOW_STATUS, 6, 6⟩
def TOW_STATUS_FIT : Fld := ⟨R.TOW_STATUS, 5, 5⟩
def TOW_STATUS_UP : Fld := ⟨R.TOW_STATUS, 4, 4⟩
def TOW_STATUS_OWNER : Fld := ⟨R.TOW_STATUS, 3, 3⟩
def TOW_STATUS_SIDE : Fld := ⟨R.TOW_STATUS, 1, 0⟩
def TOW_CFG_HOT : Fld := ⟨R.TOW_CFG, 16, 16⟩
def TOW_CFG_MIN_LANES : Fld := ⟨R.TOW_CFG, 10, 8⟩
def TOW_CFG_FAULT_EN : Fld := ⟨R.TOW_CFG, 4, 4⟩
def TOW_CFG_FAULT_GPIO : Fld := ⟨R.TOW_CFG, 3, 0⟩
def TOW_SEAL_POLICY : Fld := ⟨R.TOW_SEAL, 25, 24⟩
def TOW_SEAL_MATCH_RUN : Fld := ⟨R.TOW_SEAL, 15, 8⟩
def TOW_SEAL_MISMATCHES : Fld := ⟨R.TOW_SEAL, 7, 0⟩
def TOW_REPAIR_WAIT_US : Fld := ⟨R.TOW_REPAIR, 9, 0⟩
def TOW_CMD_KEY : Fld := ⟨R.TOW_CMD, 31, 16⟩
def TOW_CMD_YIELD : Fld := ⟨R.TOW_CMD, 1, 1⟩
def TOW_CMD_TAKE : Fld := ⟨R.TOW_CMD, 0, 0⟩
def TOW_OWN_POUND_POUND : Fld := ⟨R.TOW_OWN_POUND, 31, 0⟩
def TOW_TAKE_STAT_CAUSE : Fld := ⟨R.TOW_TAKE_STAT, 7, 4⟩
def TOW_TAKE_STAT_KIND : Fld := ⟨R.TOW_TAKE_STAT, 1, 0⟩
def TOW_SEAL_LAST_POUND : Fld := ⟨R.TOW_SEAL_LAST, 31, 0⟩
def TOW_SEAL_CNT_MISMATCH : Fld := ⟨R.TOW_SEAL_CNT, 31, 16⟩
def TOW_SEAL_CNT_MATCH : Fld := ⟨R.TOW_SEAL_CNT, 15, 0⟩
def TOW_REPAIR_CNT_UNANSWERED : Fld := ⟨R.TOW_REPAIR_CNT, 31, 16⟩
def TOW_REPAIR_CNT_REPAIRED : Fld := ⟨R.TOW_REPAIR_CNT, 15, 0⟩
def TOW_MSG_CNT_LOST : Fld := ⟨R.TOW_MSG_CNT, 31, 16⟩
def TOW_MSG_CNT_BAD : Fld := ⟨R.TOW_MSG_CNT, 15, 0⟩
def TOW_HB_MISS_COUNT : Fld := ⟨R.TOW_HB_MISS, 31, 0⟩
def LZ_STATUS_CTX2 : Fld := ⟨R.LZ_STATUS, 21, 20⟩
def LZ_STATUS_CTX1 : Fld := ⟨R.LZ_STATUS, 19, 18⟩
def LZ_STATUS_CTX0 : Fld := ⟨R.LZ_STATUS, 17, 16⟩
def LZ_STATUS_SAVED : Fld := ⟨R.LZ_STATUS, 15, 15⟩
def LZ_STATUS_RUN : Fld := ⟨R.LZ_STATUS, 2, 0⟩
def LZ_QDEPTH_Q2 : Fld := ⟨R.LZ_QDEPTH, 14, 10⟩
def LZ_QDEPTH_Q1 : Fld := ⟨R.LZ_QDEPTH, 9, 5⟩
def LZ_QDEPTH_Q0 : Fld := ⟨R.LZ_QDEPTH, 4, 0⟩
def LZ_CTRL_VERIFY : Fld := ⟨R.LZ_CTRL, 8, 8⟩
def LZ_CTRL_LOG_KIB : Fld := ⟨R.LZ_CTRL, 6, 0⟩
def LZ_LAST_BLOCKS : Fld := ⟨R.LZ_LAST, 31, 16⟩
def LZ_LAST_QUEUE : Fld := ⟨R.LZ_LAST, 5, 4⟩
def LZ_LAST_STATUS : Fld := ⟨R.LZ_LAST, 2, 0⟩
def LZ_ENC_IN_COUNT : Fld := ⟨R.LZ_ENC_IN, 31, 0⟩
def LZ_ENC_OUT_COUNT : Fld := ⟨R.LZ_ENC_OUT, 31, 0⟩
def LZ_BLK_CNT_RAW : Fld := ⟨R.LZ_BLK_CNT, 31, 16⟩
def LZ_BLK_CNT_PACKED : Fld := ⟨R.LZ_BLK_CNT, 15, 0⟩
def LZ_ERR_CNT_ABANDONED : Fld := ⟨R.LZ_ERR_CNT, 31, 24⟩
def LZ_ERR_CNT_BADJOB : Fld := ⟨R.LZ_ERR_CNT, 23, 16⟩
def LZ_ERR_CNT_ERROR : Fld := ⟨R.LZ_ERR_CNT, 15, 0⟩
def LZ_STOP_CNT_STOPS : Fld := ⟨R.LZ_STOP_CNT, 31, 16⟩
def LZ_STOP_CNT_SUSPENDS : Fld := ⟨R.LZ_STOP_CNT, 15, 0⟩
def HK_STATUS_CLUSTERS : Fld := ⟨R.HK_STATUS, 29, 24⟩
def HK_STATUS_DECODERS : Fld := ⟨R.HK_STATUS, 20, 16⟩
def HK_STATUS_SAT : Fld := ⟨R.HK_STATUS, 6, 6⟩
def HK_STATUS_NORAISE : Fld := ⟨R.HK_STATUS, 5, 5⟩
def HK_STATUS_EXHAUSTED : Fld := ⟨R.HK_STATUS, 4, 4⟩
def HK_STATUS_WARN : Fld := ⟨R.HK_STATUS, 3, 3⟩
def HK_STATUS_STATE : Fld := ⟨R.HK_STATUS, 1, 0⟩
def HK_THR_A_THROT_HYST : Fld := ⟨R.HK_THR_A, 27, 24⟩
def HK_THR_A_THROT : Fld := ⟨R.HK_THR_A, 23, 16⟩
def HK_THR_A_WARN_HYST : Fld := ⟨R.HK_THR_A, 11, 8⟩
def HK_THR_A_WARN : Fld := ⟨R.HK_THR_A, 7, 0⟩
def HK_THR_B_SHUT_HYST : Fld := ⟨R.HK_THR_B, 11, 8⟩
def HK_THR_B_SHUT : Fld := ⟨R.HK_THR_B, 7, 0⟩
def HK_CAP_CAP : Fld := ⟨R.HK_CAP, 22, 16⟩
def HK_CAP_MAX : Fld := ⟨R.HK_CAP, 6, 0⟩
def HK_SENS_XCHK : Fld := ⟨R.HK_SENS, 16, 16⟩
def HK_SENS_MAX_FAIL : Fld := ⟨R.HK_SENS, 10, 8⟩
def HK_SENS_DEV : Fld := ⟨R.HK_SENS, 7, 0⟩
def HK_SENS_STAT_HOTTEST : Fld := ⟨R.HK_SENS_STAT, 10, 8⟩
def HK_SENS_STAT_FAILED : Fld := ⟨R.HK_SENS_STAT, 6, 0⟩
def HK_HOT_HOT : Fld := ⟨R.HK_HOT, 15, 0⟩
def HK_THROT_CNT_UP : Fld := ⟨R.HK_THROT_CNT, 31, 16⟩
def HK_THROT_CNT_DOWN : Fld := ⟨R.HK_THROT_CNT, 15, 0⟩
def HK_SHUT_CNT_COUNT : Fld := ⟨R.HK_SHUT_CNT, 31, 0⟩
def HK_TEMPn_USED (n : Nat) : Fld := ⟨R.HK_TEMPn n, 31, 16⟩
def HK_TEMPn_READ (n : Nat) : Fld := ⟨R.HK_TEMPn n, 15, 0⟩
def HK_ESTn_MISSES (n : Nat) : Fld := ⟨R.HK_ESTn n, 19, 16⟩
def HK_ESTn_EST (n : Nat) : Fld := ⟨R.HK_ESTn n, 15, 0⟩
def HK_CHANc_VALUE (c : Nat) : Fld := ⟨R.HK_CHANc c, 15, 0⟩
def TOP_UID0_UID : Fld := ⟨R.TOP_UID0, 31, 0⟩
def TOP_UID1_UID : Fld := ⟨R.TOP_UID1, 31, 0⟩
def TOP_STRAPS_PAIR : Fld := ⟨R.TOP_STRAPS, 5, 4⟩
def TOP_STRAPS_TEST_EN : Fld := ⟨R.TOP_STRAPS, 3, 3⟩
def TOP_STRAPS_MGMT_ADDR : Fld := ⟨R.TOP_STRAPS, 2, 1⟩
def TOP_STRAPS_BOOT_BANK : Fld := ⟨R.TOP_STRAPS, 0, 0⟩
def TOP_UPTIME_SEC : Fld := ⟨R.TOP_UPTIME, 31, 0⟩
def TOP_MGMT_CFG_IDLE_S : Fld := ⟨R.TOP_MGMT_CFG, 23, 16⟩
def TOP_MGMT_CFG_PORT : Fld := ⟨R.TOP_MGMT_CFG, 15, 0⟩
def TOP_MGMT_HASH_HASH (k : Nat) : Fld := ⟨R.TOP_MGMT_HASH k, 31, 0⟩
def TOP_MGMT_STAT_SUBS : Fld := ⟨R.TOP_MGMT_STAT, 7, 4⟩
def TOP_MGMT_STAT_SESSIONS : Fld := ⟨R.TOP_MGMT_STAT, 2, 0⟩
def TOP_MGMT_SSEQ_MSEQ : Fld := ⟨R.TOP_MGMT_SSEQ, 31, 0⟩
def TOP_MGMT_CNT_ACCEPTED : Fld := ⟨R.TOP_MGMT_CNT, 31, 16⟩
def TOP_MGMT_CNT_REFUSED : Fld := ⟨R.TOP_MGMT_CNT, 15, 0⟩
def TOP_EVT_STAT_FILL : Fld := ⟨R.TOP_EVT_STAT, 26, 16⟩
def TOP_EVT_STAT_RSEQ : Fld := ⟨R.TOP_EVT_STAT, 15, 0⟩
def TOP_EVT_DROP_COUNT : Fld := ⟨R.TOP_EVT_DROP, 31, 0⟩
def TOP_LOG_CFG_FLUSH_S : Fld := ⟨R.TOP_LOG_CFG, 31, 24⟩
def TOP_LOG_CFG_EN : Fld := ⟨R.TOP_LOG_CFG, 20, 20⟩
def TOP_LOG_CFG_MASK : Fld := ⟨R.TOP_LOG_CFG, 19, 0⟩
def TOP_LOG_STAT_SECTOR : Fld := ⟨R.TOP_LOG_STAT, 31, 16⟩
def TOP_LOG_STAT_LAST : Fld := ⟨R.TOP_LOG_STAT, 15, 0⟩
def TOP_LOG_CNT_BLOCKS : Fld := ⟨R.TOP_LOG_CNT, 31, 16⟩
def TOP_LOG_CNT_LOST : Fld := ⟨R.TOP_LOG_CNT, 15, 0⟩
def TOP_ALERT_SIDE : Fld := ⟨R.TOP_ALERT, 4, 4⟩
def TOP_ALERT_CRACK : Fld := ⟨R.TOP_ALERT, 3, 3⟩
def TOP_ALERT_VREF : Fld := ⟨R.TOP_ALERT, 2, 2⟩
def TOP_ALERT_CHECK : Fld := ⟨R.TOP_ALERT, 1, 1⟩
def TOP_ALERT_GUARD : Fld := ⟨R.TOP_ALERT, 0, 0⟩
def TOP_ALERT_MASK_MASK : Fld := ⟨R.TOP_ALERT_MASK, 4, 0⟩
def TOP_I2C_BLOCKS : Fld := ⟨R.TOP_I2C, 19, 0⟩
end F

def rowsTOPA : List Row :=
  [⟨0x0, 1, 0x0, 1, 0x0, 0x960001B0, 0x0, 0x0, 0x0, 0x0, 0x0, false⟩ /- TOP_ID -/,
   ⟨0x8, 1, 0x0, 1, 0x0, 0x0, 0x0, 0xFF, 0x0, 0x0, 0x0, false⟩ /- TOP_MODE -/,
   ⟨0xC, 1, 0x0, 1, 0x0, 0x0, 0x0, 0x0, 0x0, 0x0, 0x0, false⟩ /- TOP_MODE_ACT -/,
   ⟨0x10, 1, 0x0, 1, 0x0, 0x0, 0x0, 0x0, 0x0, 0x0, 0x0, false⟩ /- TOP_POUND -/,
   ⟨0x14, 1, 0x0, 1, 0x0, 0xFA01F4, 0x0, 0xFFF0FFF, 0x0, 0x0, 0x0, false⟩ /- TOP_LOCK_TIME -/,
   ⟨0x18, 1, 0x0, 1, 0x0, 0x8, 0x0, 0xF, 0x0, 0x0, 0x0, false⟩ /- TOP_LOCK_RETRY -/,
   ⟨0x1C, 1, 0x0, 1, 0x0, 0x0, 0x0, 0x0, 0x0, 0x0, 0x0, false⟩ /- TOP_LOCK_STAT -/,
   ⟨0x20, 1, 0x0, 1, 0x0, 0x0, 0x0, 0x0, 0x0, 0x0, 0x0, false⟩ /- TOP_LEVEL_MISS -/,
   ⟨0x24, 1, 0x0, 1, 0x0, 0x0, 0x0, 0x0, 0x0, 0x0, 0x0, false⟩ /- TOP_LEVEL_VETO -/,
   ⟨0x28, 1, 0x0, 1, 0x0, 0x0, 0x0, 0x0, 0x0, 0x0, 0x0, false⟩ /- TOP_LEVEL_TIME -/,
   ⟨0x2C, 1, 0x0, 1, 0x0, 0x0, 0x0, 0x0, 0x0, 0xFFFFFF, 0x0, false⟩ /- TOP_LEVEL_PEAK -/,
   ⟨0x30, 1, 0x0, 1, 0x0, 0x0, 0x0, 0x0, 0x0, 0x0, 0x0, false⟩ /- TOP_COMMIT_CNT -/,
   ⟨0x34, 1, 0x0, 1, 0x0, 0x0, 0x0, 0x0, 0x0, 0xFFFFFFFF, 0x0, false⟩ /- TOP_REJECT_CNT -/,
   ⟨0x40, 1, 0x0, 1, 0x0, 0x0, 0x0, 0x0, 0x3, 0x0, 0x0, false⟩ /- TOP_STATUS -/,
   ⟨0x44, 1, 0x0, 1, 0x0, 0x0, 0x0, 0x0, 0x0, 0xFFFFFFFF, 0x0, false⟩ /- TOP_STALE_CNT -/,
   ⟨0x48, 1, 0x0, 1, 0x0, 0x0, 0x0, 0x0, 0x0, 0x0, 0x1, false⟩ /- TOP_SHADOW_CTRL -/,
   ⟨0x50, 1, 0x0, 1, 0x0, 0xFFDFFF, 0x0, 0xFFFFFF, 0x0, 0x0, 0x0, false⟩ /- TOP_MODE_SRC -/,
   ⟨0x54, 1, 0x0, 1, 0x0, 0x0, 0x0, 0xFFFFFFFF, 0x0, 0x0, 0x0, false⟩ /- TOP_MODE_GPIO0 -/,
   ⟨0x58, 1, 0x0, 1, 0x0, 0x0, 0x0, 0xFFFFFFFF, 0x0, 0x0, 0x0, false⟩ /- TOP_MODE_GPIO1 -/,
   ⟨0x5C, 1, 0x0, 1, 0x0, 0x0, 0x0, 0xFFFF, 0x0, 0x0, 0x0, false⟩ /- TOP_MODE_GPIO2 -/,
   ⟨0x60, 1, 0x0, 1, 0x0, 0x0, 0x0, 0xFFFFFFFF, 0x0, 0x0, 0x0, false⟩ /- TOP_MODE_GPIO3 -/,
   ⟨0x64, 1, 0x0, 1, 0x0, 0x1E, 0x0, 0x33F, 0x0, 0x0, 0x0, false⟩ /- TOP_MODE_OPT -/,
   ⟨0x68, 1, 0x0, 1, 0x0, 0x0, 0x0, 0x3FFFFFFF, 0x0, 0x0, 0x0, false⟩ /- TOP_BG_COLOR -/,
   ⟨0x6C, 1, 0x0, 1, 0x0, 0x0, 0x0, 0x0, 0x0, 0x0, 0x0, false⟩ /- TOP_MODE_ORIGIN -/]

def rowsTOPB : List Row :=
  [⟨0x70, 1, 0x0, 1, 0x0, 0x0, 0x0, 0x0, 0x0, 0x0, 0x0, false⟩ /- TOP_MODE_GPIO_IN -/,
   ⟨0x74, 1, 0x0, 1, 0x0, 0x0, 0x0, 0x0, 0x0, 0x0, 0x0, false⟩ /- TOP_HOLD_STAT -/,
   ⟨0x78, 1, 0x0, 1, 0x0, 0x10FFF, 0x0, 0xFFFFFF, 0x0, 0x0, 0x0, false⟩ /- TOP_PAT_OVL -/,
   ⟨0x7C, 1, 0x0, 1, 0x0, 0x0, 0x0, 0xFFFF, 0x0, 0x0, 0x0, false⟩ /- TOP_PAT_DISP -/,
   ⟨0x80, 1, 0x0, 1, 0x0, 0x0, 0x0, 0x0, 0x0, 0x0, 0x0, false⟩ /- TOP_UID0 -/,
   ⟨0x84, 1, 0x0, 1, 0x0, 0x0, 0x0, 0x0, 0x0, 0x0, 0x0, false⟩ /- TOP_UID1 -/,
   ⟨0x88, 1, 0x0, 1, 0x0, 0x0, 0x0, 0x0, 0x0, 0x0, 0x0, false⟩ /- TOP_STRAPS -/,
   ⟨0x8C, 1, 0x0, 1, 0x0, 0x0, 0x0, 0x0, 0x0, 0x0, 0x0, false⟩ /- TOP_UPTIME -/,
   ⟨0x90, 1, 0x0, 1, 0x0, 0x3C5F50, 0x0, 0xFFFFFF, 0x0, 0x0, 0x0, false⟩ /- TOP_MGMT_CFG -/,
   ⟨0x94, 12, 0x4, 1, 0x0, 0x0, 0x0, 0xFFFFFFFF, 0x0, 0x0, 0x0, false⟩ /- TOP_MGMT_HASH -/,
   ⟨0xC4, 1, 0x0, 1, 0x0, 0x0, 0x0, 0x0, 0x0, 0x0, 0x0, false⟩ /- TOP_MGMT_STAT -/,
   ⟨0xC8, 1, 0x0, 1, 0x0, 0x0, 0x0, 0x0, 0x0, 0x0, 0x0, false⟩ /- TOP_MGMT_SSEQ -/,
   ⟨0xCC, 1, 0x0, 1, 0x0, 0x0, 0x0, 0x0, 0x0, 0xFFFFFFFF, 0x0, false⟩ /- TOP_MGMT_CNT -/,
   ⟨0xD4, 1, 0x0, 1, 0x0, 0x0, 0x0, 0x0, 0x0, 0x0, 0x0, true⟩ /- TOP_EVT_STAT -/,
   ⟨0xD8, 1, 0x0, 1, 0x0, 0x0, 0x0, 0x0, 0x0, 0xFFFFFFFF, 0x0, false⟩ /- TOP_EVT_DROP -/,
   ⟨0xDC, 1, 0x0, 1, 0x0, 0xA1FFFFF, 0x0, 0xFF1FFFFF, 0x0, 0x0, 0x0, false⟩ /- TOP_LOG_CFG -/,
   ⟨0xE0, 1, 0x0, 1, 0x0, 0x0, 0x0, 0x0, 0x0, 0x0, 0x0, false⟩ /- TOP_LOG_STAT -/,
   ⟨0xE4, 1, 0x0, 1, 0x0, 0x0, 0x0, 0x0, 0x0, 0xFFFFFFFF, 0x0, false⟩ /- TOP_LOG_CNT -/,
   ⟨0xE8, 1, 0x0, 1, 0x0, 0x0, 0x0, 0x0, 0x1F, 0x0, 0x0, false⟩ /- TOP_ALERT -/,
   ⟨0xEC, 1, 0x0, 1, 0x0, 0x1F, 0x0, 0x1F, 0x0, 0x0, 0x0, false⟩ /- TOP_ALERT_MASK -/,
   ⟨0xF0, 1, 0x0, 1, 0x0, 0x400F, 0x0, 0xFFFFF, 0x0, 0x0, 0x0, false⟩ /- TOP_I2C -/]

def rowsTOP : List Row := rowsTOPA ++ rowsTOPB

def rowsPWR : List Row :=
  [⟨0x10000, 1, 0x0, 1, 0x0, 0x0, 0x0, 0x0, 0x0, 0x0, 0x0, false⟩ /- PWR_STATUS -/,
   ⟨0x10004, 1, 0x0, 1, 0x0, 0x1, 0x0, 0x0, 0x7D, 0x0, 0x0, true⟩ /- PWR_RST_CAUSE -/,
   ⟨0x10008, 1, 0x0, 1, 0x0, 0x0, 0x0, 0x0, 0x0, 0x0, 0xFFFF0001, false⟩ /- PWR_RESET -/,
   ⟨0x1000C, 1, 0x0, 1, 0x0, 0x14, 0x0, 0xFF, 0x0, 0x0, 0x0, false⟩ /- PWR_FLIGHT -/,
   ⟨0x10010, 1, 0x0, 1, 0x0, 0x1008, 0x0, 0xFFFF, 0x0, 0x0, 0x0, false⟩ /- PWR_MON_THR -/,
   ⟨0x10014, 1, 0x0, 1, 0x0, 0x0, 0x0, 0x0, 0x0, 0x0, 0x0, false⟩ /- PWR_MON_LIVE -/,
   ⟨0x10018, 1, 0x0, 1, 0x0, 0x0, 0x0, 0x0, 0x3FFFF, 0x0, 0x0, false⟩ /- PWR_MON_SEEN -/,
   ⟨0x1001C, 1, 0x0, 1, 0x0, 0x0, 0x0, 0x0, 0x3FFFF, 0x0, 0x0, false⟩ /- PWR_MON_OV -/,
   ⟨0x10020, 1, 0x0, 1, 0x0, 0x0, 0x0, 0x0, 0x0, 0xFFFFFFFF, 0x0, true⟩ /- PWR_BRACE_CNT -/,
   ⟨0x10024, 1, 0x0, 1, 0x0, 0x0, 0x0, 0x0, 0x0, 0x0, 0x0, false⟩ /- PWR_BRACE_LAST -/,
   ⟨0x10040, 5, 0x4, 1, 0x0, 0x0, 0x0, 0x0, 0x0, 0x0, 0x0, false⟩ /- PWR_DOM_ON -/,
   ⟨0x10060, 5, 0x4, 1, 0x0, 0x0, 0x0, 0x0, 0xFFFFFFFF, 0x0, 0x0, false⟩ /- PWR_DOM_FAIL -/,
   ⟨0x10080, 1, 0x0, 1, 0x0, 0xFF, 0x0, 0x0, 0x0, 0x0, 0x0, false⟩ /- PWR_FLIGHT_STAT -/]

def rowsHK : List Row :=
  [⟨0x20000, 1, 0x0, 1, 0x0, 0x0, 0x0, 0x0, 0x0, 0x0, 0x0, true⟩ /- HK_STATUS -/,
   ⟨0x20004, 1, 0x0, 1, 0x0, 0x464055F, 0x0, 0xFFF0FFF, 0x0, 0x0, 0x0, false⟩ /- HK_THR_A -/,
   ⟨0x20008, 1, 0x0, 1, 0x0, 0xA73, 0x0, 0xFFF, 0x0, 0x0, 0x0, false⟩ /- HK_THR_B -/,
   ⟨0x2000C, 1, 0x0, 1, 0x0, 0x780078, 0x0, 0x7F, 0x0, 0x0, 0x0, true⟩ /- HK_CAP -/,
   ⟨0x20010, 1, 0x0, 1, 0x0, 0x20C, 0x0, 0x107FF, 0x0, 0x0, 0x0, false⟩ /- HK_SENS -/,
   ⟨0x20014, 1, 0x0, 1, 0x0, 0x0, 0x0, 0x0, 0x0, 0x0, 0x0, true⟩ /- HK_SENS_STAT -/,
   ⟨0x20018, 1, 0x0, 1, 0x0, 0x0, 0x0, 0x0, 0x0, 0x0, 0x0, false⟩ /- HK_HOT -/,
   ⟨0x2001C, 1, 0x0, 1, 0x0, 0x0, 0x0, 0x0, 0x0, 0xFFFFFFFF, 0x0, false⟩ /- HK_THROT_CNT -/,
   ⟨0x20020, 1, 0x0, 1, 0x0, 0x0, 0x0, 0x0, 0x0, 0xFFFFFFFF, 0x0, true⟩ /- HK_SHUT_CNT -/,
   ⟨0x20040, 7, 0x4, 1, 0x0, 0x0, 0x0, 0x0, 0x0, 0x0, 0x0, false⟩ /- HK_TEMPn -/,
   ⟨0x20060, 7, 0x4, 1, 0x0, 0x0, 0x0, 0x0, 0x0, 0x0, 0x0, false⟩ /- HK_ESTn -/,
   ⟨0x2009C, 24, 0x4, 1, 0x0, 0x0, 0x0, 0x0, 0x0, 0x0, 0x0, false⟩ /- HK_CHANc, c = 7 to 30 -/]

def rowsIMG : List Row :=
  [⟨0x30000, 1, 0x0, 1, 0x0, 0x0, 0x0, 0x0, 0x0, 0x0, 0x0, false⟩ /- IMG_STATUS -/,
   ⟨0x30004, 1, 0x0, 1, 0x0, 0x0, 0x0, 0x0, 0x0, 0x0, 0x0, false⟩ /- IMG_VERSION -/,
   ⟨0x30008, 1, 0x0, 1, 0x0, 0x0, 0x0, 0x0, 0x0, 0x0, 0x0, false⟩ /- IMG_COMMIT_SEQ -/,
   ⟨0x3000C, 1, 0x0, 1, 0x0, 0x0, 0x0, 0x0, 0x0, 0x0, 0x0, false⟩ /- IMG_FAIL -/,
   ⟨0x30010, 1, 0x0, 1, 0x0, 0x0, 0x0, 0x0, 0x0, 0x0, 0x0, false⟩ /- IMG_OTP -/,
   ⟨0x30014, 1, 0x0, 1, 0x0, 0x0, 0x0, 0x0, 0x0, 0x0, 0x0, false⟩ /- IMG_BOOT_TIME -/,
   ⟨0x30020, 1, 0x0, 1, 0x0, 0x0, 0x0, 0x0, 0x0, 0x0, 0x7, false⟩ /- IMG_UPD_CTRL -/,
   ⟨0x30024, 1, 0x0, 1, 0x0, 0x0, 0x1FFFFFF, 0x0, 0x0, 0x0, 0x0, false⟩ /- IMG_UPD_LEN -/,
   ⟨0x30028, 1, 0x0, 1, 0x0, 0x0, 0x0, 0x0, 0x0, 0x0, 0x0, false⟩ /- IMG_UPD_OFF -/,
   ⟨0x3002C, 1, 0x0, 1, 0x0, 0x0, 0x0, 0x0, 0x0, 0x0, 0x0, false⟩ /- IMG_UPD_STAT -/,
   ⟨0x30030, 1, 0x0, 1, 0x0, 0x0, 0x0, 0x0, 0x0, 0x0, 0x0, true⟩ /- IMG_NVM_STAT -/,
   ⟨0x30034, 1, 0x0, 1, 0x0, 0x0, 0x0, 0x0, 0x0, 0x0, 0x0, true⟩ /- IMG_NVM_ADDR -/,
   ⟨0x30038, 1, 0x0, 1, 0x0, 0x0, 0x0, 0x0, 0x0, 0x0, 0x1, false⟩ /- IMG_CAL_CTRL -/,
   ⟨0x31000, 1024, 0x4, 1, 0x0, 0x0, 0x0, 0x0, 0x0, 0x0, 0xFFFFFFFF, false⟩ /- IMG_UPD_DATA -/]

def rowsRINGA : List Row :=
  [⟨0x40000, 1, 0x0, 1, 0x0, 0x0, 0x0, 0x0, 0x0, 0x0, 0x0, false⟩ /- RING_STATUS -/,
   ⟨0x40004, 1, 0x0, 1, 0x0, 0x0, 0x0, 0xFFFF33, 0x0, 0x0, 0x0, false⟩ /- RING_PORT_CFG -/,
   ⟨0x40008, 1, 0x0, 1, 0x0, 0x0, 0x0, 0x1, 0x0, 0x0, 0x0, false⟩ /- RING_WEIR -/,
   ⟨0x4000C, 1, 0x0, 1, 0x0, 0x120, 0x0, 0x13F, 0x0, 0x0, 0x0, false⟩ /- RING_TAG -/,
   ⟨0x40010, 1, 0x0, 1, 0x0, 0x32, 0x0, 0x3FF, 0x0, 0x0, 0x0, false⟩ /- RING_FAIR -/,
   ⟨0x40014, 1, 0x0, 1, 0x0, 0x0, 0x0, 0x0, 0x0, 0x0, 0x0, false⟩ /- RING_MAC_LO -/,
   ⟨0x40018, 1, 0x0, 1, 0x0, 0x0, 0x0, 0x0, 0x0, 0x0, 0x0, false⟩ /- RING_MAC_HI -/,
   ⟨0x4001C, 1, 0x0, 1, 0x0, 0x0, 0x0, 0xFFFFFFFF, 0x0, 0x0, 0x0, false⟩ /- RING_IP4 -/,
   ⟨0x40020, 1, 0x0, 1, 0x0, 0x110, 0x0, 0x1FF, 0x0, 0x0, 0x0, false⟩ /- RING_IP_CFG -/,
   ⟨0x40024, 1, 0x0, 1, 0x0, 0xC8, 0x0, 0x3FF, 0x0, 0x0, 0x0, false⟩ /- RING_PAR -/,
   ⟨0x40040, 1, 0x0, 1, 0x0, 0x0, 0x0, 0x0, 0x0, 0xFFFFFFFF, 0x0, false⟩ /- RING_FEC_CORR_E -/,
   ⟨0x40044, 1, 0x0, 1, 0x0, 0x0, 0x0, 0x0, 0x0, 0xFFFFFFFF, 0x0, false⟩ /- RING_FEC_UNC_E -/,
   ⟨0x40048, 1, 0x0, 1, 0x0, 0x0, 0x0, 0x0, 0x0, 0xFFFFFFFF, 0x0, false⟩ /- RING_FEC_CORR_W -/,
   ⟨0x4004C, 1, 0x0, 1, 0x0, 0x0, 0x0, 0x0, 0x0, 0xFFFFFFFF, 0x0, false⟩ /- RING_FEC_UNC_W -/,
   ⟨0x40050, 1, 0x0, 1, 0x0, 0x0, 0x0, 0x0, 0x0, 0xFFFFFFFF, 0x0, false⟩ /- RING_STOMP_CNT -/,
   ⟨0x40054, 1, 0x0, 1, 0x0, 0x0, 0x0, 0x0, 0x0, 0xFFFFFFFF, 0x0, false⟩ /- RING_STRIP_ORG -/,
   ⟨0x40058, 1, 0x0, 1, 0x0, 0x0, 0x0, 0x0, 0x0, 0xFFFFFFFF, 0x0, false⟩ /- RING_STRIP_HOP -/,
   ⟨0x4005C, 1, 0x0, 1, 0x0, 0x0, 0x0, 0x0, 0x0, 0xFFFFFFFF, 0x0, false⟩ /- RING_ADOPT_CNT -/,
   ⟨0x40060, 1, 0x0, 1, 0x0, 0x0, 0x0, 0x0, 0x0, 0xFFFFFFFF, 0x0, false⟩ /- RING_DROP_CNT -/,
   ⟨0x40064, 1, 0x0, 1, 0x0, 0x0, 0x0, 0x0, 0x0, 0xFFFFFFFF, 0x0, false⟩ /- RING_DUP_CNT -/,
   ⟨0x40068, 1, 0x0, 1, 0x0, 0x0, 0x0, 0x0, 0x0, 0xFFFFFFFF, 0x0, false⟩ /- RING_RX_DISC -/,
   ⟨0x4006C, 1, 0x0, 1, 0x0, 0x0, 0x0, 0x0, 0x0, 0xFFFFFFFF, 0x0, false⟩ /- RING_PAR_CNT -/,
   ⟨0x40070, 1, 0x0, 1, 0x0, 0x0, 0x0, 0x0, 0x0, 0x1FFF1FFF, 0x0, false⟩ /- RING_INS_PEAK -/,
   ⟨0x40100, 16, 0x20, 4, 0x4, 0x0, 0x0, 0xFFFFFFFF, 0x0, 0x0, 0x0, false⟩ /- RING_GRPn_A -/]

def rowsRINGB : List Row :=
  [⟨0x40110, 16, 0x20, 1, 0x0, 0x0, 0x0, 0x3FFFF, 0x0, 0x0, 0x0, false⟩ /- RING_GRPn_CTL -/,
   ⟨0x40400, 1, 0x0, 1, 0x0, 0x40, 0x0, 0x7F, 0x0, 0x0, 0x0, false⟩ /- RING_STREAM_CFG -/,
   ⟨0x40404, 1, 0x0, 1, 0x0, 0x0, 0x0, 0x0, 0x0, 0x0, 0x0, false⟩ /- RING_SCENE0 -/,
   ⟨0x40408, 1, 0x0, 1, 0x0, 0x0, 0x0, 0x0, 0x0, 0x0, 0x0, false⟩ /- RING_SCENE1 -/,
   ⟨0x4040C, 1, 0x0, 1, 0x0, 0x0, 0x0, 0x0, 0x0, 0x0, 0x0, false⟩ /- RING_SCENE_VER -/,
   ⟨0x40410, 1, 0x0, 1, 0x0, 0x0, 0x0, 0x0, 0x0, 0x0, 0x0, false⟩ /- RING_SCENE_PEND -/,
   ⟨0x40414, 1, 0x0, 1, 0x0, 0x0, 0x0, 0x0, 0x0, 0x0, 0x0, false⟩ /- RING_CMD_LAST -/,
   ⟨0x40418, 1, 0x0, 1, 0x0, 0x0, 0x0, 0x0, 0x0, 0xFFFFFFFF, 0x0, false⟩ /- RING_UNIT_DISC -/,
   ⟨0x4041C, 1, 0x0, 1, 0x0, 0x0, 0x0, 0x0, 0x0, 0xFFFFFFFF, 0x0, false⟩ /- RING_CMD_MISS -/,
   ⟨0x40420, 1, 0x0, 1, 0x0, 0x0, 0x0, 0x0, 0x0, 0xFFFFFFFF, 0x0, false⟩ /- RING_CHUNK_LATE -/,
   ⟨0x40424, 1, 0x0, 1, 0x0, 0x0, 0x0, 0x0, 0x0, 0x0, 0x0, false⟩ /- RING_CHAN_OPEN -/]

def rowsRING : List Row := rowsRINGA ++ rowsRINGB

def rowsTIMEA : List Row :=
  [⟨0x50000, 1, 0x0, 1, 0x0, 0x2, 0x0, 0x0, 0x0, 0x0, 0x0, false⟩ /- TIME_STATUS -/,
   ⟨0x50004, 1, 0x0, 1, 0x0, 0x30000, 0x0, 0xF1FFF, 0x0, 0x0, 0x0, false⟩ /- TIME_PTP_CFG -/,
   ⟨0x50008, 1, 0x0, 1, 0x0, 0x21014F, 0x0, 0xFFFFFFFF, 0x0, 0x0, 0x0, false⟩ /- TIME_SERVO -/,
   ⟨0x5000C, 1, 0x0, 1, 0x0, 0xA0014, 0x0, 0xFFFFFFFF, 0x0, 0x0, 0x0, false⟩ /- TIME_LOCK -/,
   ⟨0x50010, 1, 0x0, 1, 0x0, 0x0, 0x0, 0xFFFFFFFF, 0x0, 0x0, 0x0, false⟩ /- TIME_ASYM -/,
   ⟨0x50014, 1, 0x0, 1, 0x0, 0xFE502A, 0x0, 0xFFFFFFFF, 0x0, 0x0, 0x0, false⟩ /- TIME_PERIOD_NS -/,
   ⟨0x50018, 1, 0x0, 1, 0x0, 0xAAAB, 0x0, 0xFFFF, 0x0, 0x0, 0x0, false⟩ /- TIME_PERIOD_FRAC -/,
   ⟨0x5001C, 1, 0x0, 1, 0x0, 0x140000, 0x0, 0xFFFFFF, 0x0, 0x0, 0x0, false⟩ /- TIME_LAUNCH -/,
   ⟨0x50020, 1, 0x0, 1, 0x0, 0x10A, 0x0, 0x1FF, 0x0, 0x0, 0x0, false⟩ /- TIME_PPS -/,
   ⟨0x50024, 1, 0x0, 1, 0x0, 0x0, 0x0, 0xFFFFFF07, 0x0, 0x0, 0x0, false⟩ /- TIME_EVT0_CFG -/,
   ⟨0x50028, 1, 0x0, 1, 0x0, 0x0, 0x0, 0xFFFFFF07, 0x0, 0x0, 0x0, false⟩ /- TIME_EVT1_CFG -/,
   ⟨0x5002C, 1, 0x0, 1, 0x0, 0x3E8, 0x0, 0xFFFF, 0x0, 0x0, 0x0, false⟩ /- TIME_EGRESS -/,
   ⟨0x50040, 4, 0x4, 1, 0x0, 0x0, 0x0, 0x0, 0x0, 0x0, 0x0, false⟩ /- TIME_NOW -/,
   ⟨0x50050, 1, 0x0, 1, 0x0, 0x0, 0x0, 0x0, 0x0, 0x0, 0x0, false⟩ /- TIME_OFFSET -/,
   ⟨0x50054, 1, 0x0, 1, 0x0, 0x0, 0x0, 0x0, 0x0, 0x0, 0x0, false⟩ /- TIME_PATH -/,
   ⟨0x50058, 1, 0x0, 1, 0x0, 0x0, 0x0, 0x0, 0x0, 0x0, 0x0, false⟩ /- TIME_FREQ -/,
   ⟨0x5005C, 1, 0x0, 1, 0x0, 0x0, 0x0, 0x0, 0x0, 0x0, 0x0, false⟩ /- TIME_FF_CORR -/,
   ⟨0x50060, 1, 0x0, 1, 0x0, 0x0, 0x0, 0x0, 0x0, 0x0, 0x0, false⟩ /- TIME_FF_TEMP -/,
   ⟨0x50064, 1, 0x0, 1, 0x0, 0x0, 0x0, 0x0, 0x0, 0x0, 0x0, false⟩ /- TIME_GM0 -/,
   ⟨0x50068, 1, 0x0, 1, 0x0, 0x0, 0x0, 0x0, 0x0, 0x0, 0x0, false⟩ /- TIME_GM1 -/,
   ⟨0x50070, 1, 0x0, 1, 0x0, 0x0, 0x0, 0x0, 0x0, 0xFFFFFFFF, 0x0, false⟩ /- TIME_LAUNCH_CNT -/,
   ⟨0x50074, 1, 0x0, 1, 0x0, 0x0, 0x0, 0x0, 0x0, 0xFFFFFFFF, 0x0, false⟩ /- TIME_EGRESS_CNT -/,
   ⟨0x50078, 1, 0x0, 1, 0x0, 0x0, 0x0, 0x0, 0x0, 0xFFFFFFFF, 0x0, false⟩ /- TIME_TC_CNT -/,
   ⟨0x5007C, 1, 0x0, 1, 0x0, 0x0, 0x0, 0x0, 0x0, 0xFFFFFFFF, 0x0, false⟩ /- TIME_TC_SKIP -/]

def rowsTIMEB : List Row :=
  [⟨0x50080, 3, 0x10, 3, 0x4, 0x0, 0x0, 0x0, 0x0, 0x0, 0x0, false⟩ /- TIME_CAPn -/]

def rowsTIME : List Row := rowsTIMEA ++ rowsTIMEB

def rowsDEC : List Row :=
  [⟨0x60000, 1, 0x0, 1, 0x0, 0x0, 0x0, 0x0, 0x0, 0x0, 0x0, false⟩ /- DEC_STATUS -/,
   ⟨0x60004, 1, 0x0, 1, 0x0, 0x0, 0x0, 0x303FF, 0x0, 0x0, 0x0, false⟩ /- DEC_CTRL -/,
   ⟨0x60008, 1, 0x0, 1, 0x0, 0x0, 0x0, 0x0, 0x0, 0x0, 0x0, false⟩ /- DEC_LOAD -/,
   ⟨0x6000C, 1, 0x0, 1, 0x0, 0x0, 0x0, 0x0, 0x0, 0xFFFFFFFF, 0x0, false⟩ /- DEC_LOAD_PEAK -/,
   ⟨0x60010, 1, 0x0, 1, 0x0, 0x0, 0x0, 0x0, 0x0, 0xFFFFFFFF, 0x0, false⟩ /- DEC_CHUNK_CNT -/,
   ⟨0x60014, 1, 0x0, 1, 0x0, 0x0, 0x0, 0x0, 0x0, 0xFFFFFFFF, 0x0, false⟩ /- DEC_ERR_CNT -/,
   ⟨0x60018, 1, 0x0, 1, 0x0, 0x0, 0x0, 0x0, 0x0, 0xFFFFFFFF, 0x0, false⟩ /- DEC_CONCEAL_CNT -/,
   ⟨0x6001C, 1, 0x0, 1, 0x0, 0x0, 0x0, 0x0, 0x0, 0xFFFFFFFF, 0x0, false⟩ /- DEC_WAIT_CNT -/,
   ⟨0x60020, 1, 0x0, 1, 0x0, 0x0, 0x0, 0x0, 0x0, 0xFFFFFFFF, 0x0, false⟩ /- DEC_CACHE_CNT -/,
   ⟨0x60024, 1, 0x0, 1, 0x0, 0x0, 0x0, 0x0, 0x0, 0x0, 0x0, false⟩ /- DEC_CONCEALED -/,
   ⟨0x60100, 16, 0x4, 1, 0x0, 0x7, 0x0, 0x0, 0x0, 0x0, 0x0, false⟩ /- DEC_COREn_STAT -/]

def rowsCTX : List Row :=
  [⟨0x70000, 16384, 0x4, 1, 0x0, 0x0, 0x0, 0x0, 0x0, 0x0, 0x0, false⟩ /- CTX_STATn -/]

def rowsCOMPA : List Row :=
  [⟨0x80000, 1, 0x0, 1, 0x0, 0xB401440, 0x0, 0xFFFFFFFF, 0x0, 0x0, 0x0, false⟩ /- COMP_PANEL_HOG -/,
   ⟨0x80004, 1, 0x0, 1, 0x0, 0xC10, 0x0, 0x31F1F, 0x0, 0x0, 0x0, false⟩ /- COMP_PANEL_VIEW -/,
   ⟨0x80008, 1, 0x0, 1, 0x0, 0xB401440, 0x0, 0x0, 0x0, 0x0, 0x0, false⟩ /- COMP_PANEL_HOG_ACT -/,
   ⟨0x8000C, 1, 0x0, 1, 0x0, 0xC10, 0x0, 0x0, 0x0, 0x0, 0x0, false⟩ /- COMP_PANEL_VIEW_ACT -/,
   ⟨0x80010, 1, 0x0, 1, 0x0, 0xAADC0000, 0x0, 0x0, 0x0, 0x0, 0x0, false⟩ /- COMP_PANEL_RAYS -/,
   ⟨0x80014, 1, 0x0, 1, 0x0, 0x1680288, 0x0, 0x0, 0x0, 0x0, 0x0, false⟩ /- COMP_BLOCKS -/,
   ⟨0x80020, 1, 0x0, 1, 0x0, 0x0, 0x0, 0x0, 0x0, 0xFFFFFFFF, 0x0, false⟩ /- COMP_TCACHE_HIT -/,
   ⟨0x80024, 1, 0x0, 1, 0x0, 0x0, 0x0, 0x0, 0x0, 0xFFFFFFFF, 0x0, false⟩ /- COMP_TCACHE_MISS -/,
   ⟨0x80028, 1, 0x0, 1, 0x0, 0x0, 0x0, 0x0, 0x0, 0xFFFFFFFF, 0x0, false⟩ /- COMP_GEOM_ERR -/,
   ⟨0x80040, 1, 0x0, 1, 0x0, 0x3, 0x0, 0x7, 0x0, 0x0, 0x0, false⟩ /- COMP_SLUICE_CTRL -/,
   ⟨0x80044, 1, 0x0, 1, 0x0, 0x0, 0x0, 0x0, 0x0, 0x0, 0x0, false⟩ /- COMP_SLUICE_SKIP -/,
   ⟨0x80048, 1, 0x0, 1, 0x0, 0x0, 0x0, 0x0, 0x0, 0x0, 0x0, false⟩ /- COMP_SLUICE_OCC -/,
   ⟨0x8004C, 1, 0x0, 1, 0x0, 0x0, 0x0, 0x0, 0x0, 0x0, 0x0, false⟩ /- COMP_ETERM -/,
   ⟨0x80050, 1, 0x0, 1, 0x0, 0x0, 0x0, 0x0, 0x0, 0x0, 0x0, false⟩ /- COMP_CONC_RAYS -/,
   ⟨0x80054, 1, 0x0, 1, 0x0, 0x0, 0x0, 0x0, 0x0, 0xFFFFFFFF, 0x0, false⟩ /- COMP_SLUICE_CHK -/,
   ⟨0x80080, 1, 0x0, 1, 0x0, 0x40, 0x0, 0x7F, 0x0, 0x0, 0x0, false⟩ /- COMP_LAYER_CAP -/,
   ⟨0x80084, 1, 0x0, 1, 0x0, 0x4205F50, 0x0, 0xFFFFFFFF, 0x0, 0x0, 0x0, false⟩ /- COMP_LADDER -/,
   ⟨0x80088, 1, 0x0, 1, 0x0, 0x80C1040, 0x0, 0xFFFFFFFF, 0x0, 0x0, 0x0, false⟩ /- COMP_LADDER_CAP -/,
   ⟨0x8008C, 1, 0x0, 1, 0x0, 0x5508A004, 0x0, 0xFF3FFF07, 0x0, 0x0, 0x0, false⟩ /- COMP_RUN_CTRL -/,
   ⟨0x80090, 1, 0x0, 1, 0x0, 0x404, 0x0, 0xF0F, 0x0, 0x0, 0x0, false⟩ /- COMP_POLICY -/,
   ⟨0x80094, 1, 0x0, 1, 0x0, 0x23D6420, 0x0, 0xFFFFFFF1, 0x0, 0x0, 0x0, false⟩ /- COMP_TRACK -/,
   ⟨0x80098, 1, 0x0, 1, 0x0, 0x0, 0x0, 0x11F1F, 0x0, 0x0, 0x0, false⟩ /- COMP_TAP -/,
   ⟨0x800A0, 1, 0x0, 1, 0x0, 0x0, 0x0, 0x0, 0x0, 0x0, 0x0, false⟩ /- COMP_RUN_STAT -/,
   ⟨0x800A4, 1, 0x0, 1, 0x0, 0x0, 0x0, 0x0, 0x0, 0x0, 0x0, false⟩ /- COMP_LOAD -/]

def rowsCOMPB : List Row :=
  [⟨0x800A8, 1, 0x0, 1, 0x0, 0x0, 0x0, 0x0, 0x0, 0x7FF, 0x0, false⟩ /- COMP_LOAD_PEAK -/,
   ⟨0x800AC, 1, 0x0, 1, 0x0, 0x0, 0x0, 0x0, 0x0, 0xFFFFFFFF, 0x0, false⟩ /- COMP_LATE_CNT -/,
   ⟨0x800B0, 1, 0x0, 1, 0x0, 0x0, 0x0, 0x0, 0x0, 0xFFFFFFFF, 0x0, false⟩ /- COMP_NOTREADY_CNT -/,
   ⟨0x80100, 1, 0x0, 1, 0x0, 0x0, 0x0, 0x0, 0x0, 0xFFFFFFFF, 0x0, false⟩ /- COMP_GUARD_CNT -/,
   ⟨0x800B4, 1, 0x0, 1, 0x0, 0x0, 0x0, 0x0, 0x0, 0x0, 0x0, false⟩ /- COMP_CAPPED -/,
   ⟨0x800B8, 1, 0x0, 1, 0x0, 0x0, 0x0, 0x0, 0x0, 0x0, 0x0, false⟩ /- COMP_GUARD_RES -/,
   ⟨0x800C0, 16, 0x4, 1, 0x0, 0x0, 0x0, 0x0, 0x0, 0x0, 0x0, false⟩ /- COMP_GUARD_CRCn -/,
   ⟨0x80104, 1, 0x0, 1, 0x0, 0x100, 0x0, 0x0, 0x0, 0x0, 0x0, false⟩ /- COMP_TRACK_STAT -/]

def rowsCOMP : List Row := rowsCOMPA ++ rowsCOMPB

def rowsTRK : List Row :=
  [⟨0x90000, 1, 0x0, 1, 0x0, 0x4002C8, 0x0, 0x1FF0FFF, 0x0, 0x0, 0x0, false⟩ /- TRK_CTRL -/,
   ⟨0x90004, 1, 0x0, 1, 0x0, 0x0, 0x0, 0x0, 0x0, 0x0, 0x0, false⟩ /- TRK_STATUS -/,
   ⟨0x90008, 1, 0x0, 1, 0x0, 0x0, 0x0, 0x0, 0x0, 0xFFFFFFFF, 0x0, false⟩ /- TRK_CNT -/,
   ⟨0x90010, 4, 0x4, 1, 0x0, 0x40200000, 0x0, 0xFFFFF771, 0x0, 0x0, 0x0, false⟩ /- TRK_PAIRp_CFG -/,
   ⟨0x90020, 1, 0x0, 1, 0x0, 0xA00, 0x0, 0xFFFF, 0x0, 0x0, 0x0, false⟩ /- TRK_MERGE -/,
   ⟨0x90030, 3, 0x4, 1, 0x0, 0x0, 0x0, 0x0, 0x0, 0x0, 0x0, false⟩ /- TRK_REP_TIME -/,
   ⟨0x90100, 32, 0x10, 1, 0x0, 0x0, 0x0, 0x0, 0x0, 0x0, 0x0, false⟩ /- TRK_EYEe_X -/,
   ⟨0x90104, 32, 0x10, 1, 0x0, 0x0, 0x0, 0x0, 0x0, 0x0, 0x0, false⟩ /- TRK_EYEe_Y -/,
   ⟨0x90108, 32, 0x10, 1, 0x0, 0x0, 0x0, 0x0, 0x0, 0x0, 0x0, false⟩ /- TRK_EYEe_Z -/]

def rowsBASIN : List Row :=
  [⟨0xA0000, 1, 0x0, 1, 0x0, 0x0, 0x0, 0x0, 0x0, 0x0, 0x0, false⟩ /- BASIN_STATUS -/,
   ⟨0xA0004, 1, 0x0, 1, 0x0, 0x2F4A1, 0x0, 0xFFFFF, 0x0, 0x0, 0x0, false⟩ /- BASIN_ORDER -/,
   ⟨0xA0008, 1, 0x0, 1, 0x0, 0x28404040, 0x0, 0xFFFFFFFF, 0x0, 0x0, 0x0, false⟩ /- BASIN_SHARE0 -/,
   ⟨0xA000C, 1, 0x0, 1, 0x0, 0x40C08, 0x0, 0xFFFFFF, 0x0, 0x0, 0x0, false⟩ /- BASIN_SHARE1 -/,
   ⟨0xA0010, 1, 0x0, 1, 0x0, 0x200, 0x0, 0xFFFF, 0x0, 0x0, 0x0, false⟩ /- BASIN_RSV -/,
   ⟨0xA0014, 1, 0x0, 1, 0x0, 0x118, 0x0, 0x1FF, 0x0, 0x0, 0x0, false⟩ /- BASIN_SCRUB -/,
   ⟨0xA0020, 1, 0x0, 1, 0x0, 0x0, 0x0, 0x0, 0x0, 0x0, 0x0, false⟩ /- BASIN_FREE -/,
   ⟨0xA0024, 1, 0x0, 1, 0x0, 0x0, 0x0, 0x0, 0x0, 0xFFFF, 0x0, false⟩ /- BASIN_FREE_LOW -/,
   ⟨0xA0100, 12, 0x4, 1, 0x0, 0x0, 0x0, 0x0, 0x0, 0x0, 0x0, false⟩ /- BASIN_CLASS_CNTn -/,
   ⟨0xA0060, 1, 0x0, 1, 0x0, 0x0, 0x0, 0x0, 0x0, 0xFFFFFFFF, 0x0, false⟩ /- BASIN_ECC_CE -/,
   ⟨0xA0064, 1, 0x0, 1, 0x0, 0x0, 0x0, 0x0, 0x0, 0xFFFFFFFF, 0x0, false⟩ /- BASIN_ECC_UE -/,
   ⟨0xA0068, 1, 0x0, 1, 0x0, 0x0, 0x0, 0x0, 0x0, 0xFFFFFFFF, 0x0, false⟩ /- BASIN_UE_ADDR0 -/,
   ⟨0xA006C, 1, 0x0, 1, 0x0, 0x0, 0x0, 0x0, 0x0, 0xFFFFFFFF, 0x0, false⟩ /- BASIN_UE_ADDR1 -/,
   ⟨0xA0070, 1, 0x0, 1, 0x0, 0x0, 0x0, 0x0, 0x0, 0xF0F, 0x0, false⟩ /- BASIN_UE_SRC -/,
   ⟨0xA0074, 1, 0x0, 1, 0x0, 0x0, 0x0, 0x0, 0x0, 0x0, 0x0, false⟩ /- BASIN_QUAR -/,
   ⟨0xA0078, 1, 0x0, 1, 0x0, 0x0, 0x0, 0x0, 0x0, 0x0, 0x1, false⟩ /- BASIN_QUAR_CLR -/,
   ⟨0xA007C, 1, 0x0, 1, 0x0, 0x0, 0x0, 0x0, 0x0, 0xFFFFFFFF, 0x0, false⟩ /- BASIN_ALLOC_FAIL -/,
   ⟨0xA0090, 4, 0x4, 1, 0x0, 0x0, 0x0, 0x0, 0x0, 0x0, 0x0, false⟩ /- BASIN_TRAINs -/,
   ⟨0xA00A0, 7, 0x4, 1, 0x0, 0x0, 0x0, 0x0, 0x0, 0x0, 0x0, false⟩ /- BASIN_BWn -/]

def rowsTUG : List Row :=
  [⟨0xB0000, 1, 0x0, 1, 0x0, 0x0, 0x0, 0x0, 0x0, 0x0, 0x0, false⟩ /- TUG_STATUS -/,
   ⟨0xB0004, 1, 0x0, 1, 0x0, 0x0, 0x0, 0xFFFF, 0x0, 0x0, 0x0, false⟩ /- TUG_CLIP_MODE -/,
   ⟨0xB0040, 16, 0x8, 1, 0x0, 0x0, 0x0, 0xFFFFFFFF, 0x0, 0x0, 0x0, false⟩ /- TUG_CLIPn_A -/,
   ⟨0xB0044, 16, 0x8, 1, 0x0, 0x0, 0x0, 0xFFFFFFFF, 0x0, 0x0, 0x0, false⟩ /- TUG_CLIPn_B -/,
   ⟨0xB0008, 1, 0x0, 1, 0x0, 0x0, 0x0, 0x0, 0x0, 0xFFFFFFFF, 0x0, false⟩ /- TUG_DONE_CNT -/,
   ⟨0xB000C, 1, 0x0, 1, 0x0, 0x0, 0x0, 0x0, 0x0, 0xFFFFFFFF, 0x0, false⟩ /- TUG_SKIP_CNT -/,
   ⟨0xB0010, 1, 0x0, 1, 0x0, 0x0, 0x0, 0x0, 0x0, 0xFFFFFFFF, 0x0, false⟩ /- TUG_ERR_CNT -/,
   ⟨0xB0014, 1, 0x0, 1, 0x0, 0x0, 0x0, 0x0, 0x0, 0xFFFFFFFF, 0x0, false⟩ /- TUG_PX_CNT -/,
   ⟨0xB0018, 1, 0x0, 1, 0x0, 0x0, 0x0, 0x0, 0x0, 0x0, 0x0, false⟩ /- TUG_LAST -/]

def rowsSCAN : List Row :=
  [⟨0xC0000, 1, 0x0, 1, 0x0, 0x30006C0, 0x0, 0x3F01FFF, 0x0, 0x0, 0x0, false⟩ /- SCAN_STRIP -/,
   ⟨0xC0004, 1, 0x0, 1, 0x0, 0x0, 0x0, 0xFFFF, 0x0, 0x0, 0x0, false⟩ /- SCAN_HPORCH -/,
   ⟨0xC0008, 1, 0x0, 1, 0x0, 0x56D0804, 0x0, 0xFFFFFFFF, 0x0, 0x0, 0x0, false⟩ /- SCAN_VPORCH -/,
   ⟨0xC000C, 1, 0x0, 1, 0x0, 0x0, 0x0, 0x1, 0x0, 0x0, 0x0, false⟩ /- SCAN_FMT -/,
   ⟨0xC0010, 1, 0x0, 1, 0x0, 0x8C798C79, 0x0, 0x0, 0x0, 0x0, 0x0, false⟩ /- SCAN_ROWS -/,
   ⟨0xC0014, 1, 0x0, 1, 0x0, 0x0, 0x0, 0x0, 0x0, 0x0, 0x0, false⟩ /- SCAN_STATUS -/,
   ⟨0xC0020, 1, 0x0, 1, 0x0, 0x0, 0x0, 0x0, 0x0, 0x0, 0x0, false⟩ /- SCAN_FCNT0 -/,
   ⟨0xC0024, 1, 0x0, 1, 0x0, 0x0, 0x0, 0x0, 0x0, 0x0, 0x0, false⟩ /- SCAN_FCNT1 -/,
   ⟨0xC0028, 4, 0x4, 1, 0x0, 0x0, 0x0, 0x0, 0x0, 0x0, 0x0, false⟩ /- SCAN_FLIP -/,
   ⟨0xC0038, 1, 0x0, 1, 0x0, 0x0, 0x0, 0x0, 0x0, 0x0, 0x0, false⟩ /- SCAN_FLIP_POUND -/,
   ⟨0xC003C, 1, 0x0, 1, 0x0, 0x0, 0x0, 0x0, 0x0, 0xFFFFFFFF, 0x0, false⟩ /- SCAN_CNT -/,
   ⟨0xC0040, 1, 0x0, 1, 0x0, 0x0, 0x0, 0x0, 0x0, 0x0, 0x0, false⟩ /- SCAN_CHK_RES -/,
   ⟨0xC0044, 1, 0x0, 1, 0x0, 0x0, 0x0, 0x0, 0x0, 0xFFFFFFFF, 0x0, false⟩ /- SCAN_CHK_CNT -/,
   ⟨0xC0100, 8, 0x20, 1, 0x0, 0x0, 0x0, 0x1FFFF, 0x0, 0x0, 0x0, false⟩ /- SCAN_CHKn_X0 -/,
   ⟨0xC0104, 8, 0x20, 1, 0x0, 0x0, 0x0, 0x1FFFF, 0x0, 0x0, 0x0, false⟩ /- SCAN_CHKn_X1 -/,
   ⟨0xC0108, 8, 0x20, 1, 0x0, 0x0, 0x0, 0xFFFFFFFF, 0x0, 0x0, 0x0, false⟩ /- SCAN_CHKn_Y -/,
   ⟨0xC010C, 8, 0x20, 1, 0x0, 0x0, 0x0, 0x17, 0x0, 0x0, 0x0, false⟩ /- SCAN_CHKn_CFG -/,
   ⟨0xC0110, 8, 0x20, 1, 0x0, 0x0, 0x0, 0xFFFFFFFF, 0x0, 0x0, 0x0, false⟩ /- SCAN_CHKn_EXP -/,
   ⟨0xC0114, 8, 0x20, 1, 0x0, 0x0, 0x0, 0x0, 0x0, 0x0, 0x0, false⟩ /- SCAN_CHKn_CRC -/]

def rowsLANE : List Row :=
  [⟨0xD0000, 1, 0x0, 1, 0x0, 0x32018, 0x0, 0xFFFFF, 0x0, 0x0, 0x0, false⟩ /- LANE_ADAPT -/,
   ⟨0xD0004, 1, 0x0, 1, 0x0, 0xA01F4, 0x0, 0xFFFFFF, 0x0, 0x0, 0x0, false⟩ /- LANE_BC -/,
   ⟨0xD0008, 1, 0x0, 1, 0x0, 0x0, 0x0, 0x0, 0x0, 0x0, 0x0, false⟩ /- LANE_BC_DONE0 -/,
   ⟨0xD000C, 1, 0x0, 1, 0x0, 0x0, 0x0, 0x0, 0x0, 0x0, 0x0, false⟩ /- LANE_BC_DONE1 -/,
   ⟨0xD0010, 1, 0x0, 1, 0x0, 0x0, 0x0, 0x0, 0x0, 0xFFFFFFFF, 0x0, false⟩ /- LANE_LOCK_CNT -/,
   ⟨0xD0020, 1, 0x0, 1, 0x0, 0x0, 0x33F, 0x0, 0x0, 0x0, 0x0, false⟩ /- LANE_MON_CFG -/,
   ⟨0xD0024, 1, 0x0, 1, 0x0, 0x0, 0x0, 0x0, 0x0, 0x0, 0x0, false⟩ /- LANE_MON_STAT -/,
   ⟨0xD0200, 64, 0x4, 1, 0x0, 0x0, 0x0, 0x0, 0x0, 0x0, 0x0, false⟩ /- LANE_MON_EYEk -/,
   ⟨0xD1000, 60, 0x20, 1, 0x0, 0xFCF80000, 0x0, 0xFFFFFFFF, 0x0, 0x0, 0x0, false⟩ /- LANE_n_TXFFE -/,
   ⟨0xD1004, 60, 0x20, 1, 0x0, 0x20, 0x0, 0x33, 0x0, 0x0, 0x0, false⟩ /- LANE_n_TXCFG -/,
   ⟨0xD1008, 60, 0x20, 1, 0x0, 0xFCF80000, 0x0, 0x0, 0x0, 0x0, 0x0, false⟩ /- LANE_n_TXACT -/,
   ⟨0xD100C, 60, 0x20, 1, 0x0, 0x0, 0x0, 0x0, 0x0, 0x0, 0x0, false⟩ /- LANE_n_STAT -/,
   ⟨0xD1010, 60, 0x20, 1, 0x0, 0x0, 0x0, 0x33F1F1F, 0x0, 0x0, 0x0, false⟩ /- LANE_n_TEST -/,
   ⟨0xD1014, 60, 0x20, 1, 0x0, 0x0, 0x0, 0x0, 0x0, 0xFFFFFFFF, 0x0, false⟩ /- LANE_n_ERR0 -/,
   ⟨0xD1018, 60, 0x20, 1, 0x0, 0x0, 0x0, 0x0, 0x0, 0xFFFFFFFF, 0x0, false⟩ /- LANE_n_ERR1 -/,
   ⟨0xD101C, 60, 0x20, 1, 0x0, 0x0, 0x0, 0x0, 0x0, 0x0, 0xC00000FF, false⟩ /- LANE_n_INJ -/]

def rowsPNL : List Row :=
  [⟨0xE0000, 1, 0x0, 1, 0x0, 0x0, 0x0, 0x0, 0x0, 0x0, 0x0, false⟩ /- PNL_STATUS -/,
   ⟨0xE0004, 1, 0x0, 1, 0x0, 0x1, 0x0, 0x3, 0x0, 0x0, 0x0, false⟩ /- PNL_CTRL -/,
   ⟨0xE0008, 1, 0x0, 1, 0x0, 0x3E80A64, 0x0, 0xFFFFFFFF, 0x0, 0x0, 0x0, false⟩ /- PNL_SEQ -/,
   ⟨0xE000C, 1, 0x0, 1, 0x0, 0x28, 0x0, 0x1FF, 0x0, 0x0, 0x0, false⟩ /- PNL_VREF_CFG -/,
   ⟨0xE0010, 1, 0x0, 1, 0x0, 0x0, 0x0, 0x0, 0x0, 0x0, 0x0, false⟩ /- PNL_VREF_STAT -/,
   ⟨0xE0014, 1, 0x0, 1, 0x0, 0x320258, 0x0, 0xFFF0FFF, 0x0, 0x0, 0x0, false⟩ /- PNL_VIN -/,
   ⟨0xE0018, 1, 0x0, 1, 0x0, 0x1F400032, 0x0, 0xFFFF00FF, 0x0, 0x0, 0x0, false⟩ /- PNL_DIS -/,
   ⟨0xE001C, 1, 0x0, 1, 0x0, 0x321, 0x0, 0xF31, 0x0, 0x0, 0x0, false⟩ /- PNL_CRACK -/,
   ⟨0xE0020, 1, 0x0, 1, 0x0, 0x0, 0x0, 0x0, 0x0, 0x0, 0x1, false⟩ /- PNL_CRACK_CLR -/,
   ⟨0xE0024, 1, 0x0, 1, 0x0, 0x1E1E, 0x0, 0xFFFF, 0x0, 0x0, 0x0, false⟩ /- PNL_HOLD_BLINK -/,
   ⟨0xE0028, 1, 0x0, 1, 0x0, 0x0, 0x0, 0x0, 0x0, 0xFFFFFFFF, 0x0, false⟩ /- PNL_SB_CNT -/,
   ⟨0xE002C, 1, 0x0, 1, 0x0, 0x0, 0x0, 0x0, 0x0, 0x0, 0x0, false⟩ /- PNL_VHOLD -/]

def rowsCAM : List Row :=
  [⟨0xF0000, 1, 0x0, 1, 0x0, 0x0, 0x0, 0x0, 0x0, 0x0, 0x0, false⟩ /- CAM_STATUS -/,
   ⟨0xF0004, 1, 0x0, 1, 0x0, 0x0, 0x0, 0xFFFFFFF3, 0x0, 0x0, 0x0, false⟩ /- CAM_FSYNC0_CFG -/,
   ⟨0xF0008, 1, 0x0, 1, 0x0, 0x0, 0x0, 0xFFFFFFF3, 0x0, 0x0, 0x0, false⟩ /- CAM_FSYNC1_CFG -/,
   ⟨0xF000C, 1, 0x0, 1, 0x0, 0x0, 0x0, 0xFFFFF, 0x0, 0x0, 0x0, false⟩ /- CAM_FSYNC0_PER -/,
   ⟨0xF0010, 1, 0x0, 1, 0x0, 0x0, 0x0, 0xFFFFF, 0x0, 0x0, 0x0, false⟩ /- CAM_FSYNC1_PER -/,
   ⟨0xF0014, 1, 0x0, 1, 0x0, 0x2, 0x0, 0xFFFF07, 0x0, 0x0, 0x0, false⟩ /- CAM_STROBE -/,
   ⟨0xF0018, 1, 0x0, 1, 0x0, 0x22, 0x0, 0x333, 0x0, 0x0, 0x0, false⟩ /- CAM_PORT -/,
   ⟨0xF0020, 1, 0x0, 1, 0x0, 0x0, 0x0, 0x0, 0x0, 0xFFFFFFFF, 0x0, false⟩ /- CAM_DROP_CNT -/,
   ⟨0xF0024, 1, 0x0, 1, 0x0, 0x0, 0x0, 0x0, 0x0, 0xFFFFFFFF, 0x0, false⟩ /- CAM_PKT_ERR -/,
   ⟨0xF0100, 8, 0x40, 1, 0x0, 0x0, 0x0, 0x1, 0x0, 0x0, 0x0, false⟩ /- CAM_Sn_CTRL -/,
   ⟨0xF0104, 8, 0x40, 1, 0x0, 0x0, 0x0, 0xFFFFFFFF, 0x0, 0x0, 0x0, false⟩ /- CAM_Sn_EXP -/,
   ⟨0xF0108, 8, 0x40, 1, 0x0, 0x10040100, 0x0, 0x3FFFFFFF, 0x0, 0x0, 0x0, false⟩ /- CAM_Sn_WB -/,
   ⟨0xF0110, 8, 0x40, 1, 0x0, 0x0, 0x0, 0x0, 0x0, 0x0, 0x0, false⟩ /- CAM_Sn_STAT0 -/,
   ⟨0xF0114, 8, 0x40, 1, 0x0, 0x0, 0x0, 0x0, 0x0, 0x0, 0x0, false⟩ /- CAM_Sn_STAT1 -/,
   ⟨0xF0118, 8, 0x40, 1, 0x0, 0x0, 0x0, 0x0, 0x0, 0x0, 0x0, false⟩ /- CAM_Sn_CCI -/,
   ⟨0xF011C, 8, 0x40, 1, 0x0, 0x0, 0x0, 0x0, 0x0, 0xFFFFFFFF, 0x0, false⟩ /- CAM_Sn_CNT -/,
   ⟨0xF0400, 8, 0x40, 3, 0x10, 0x0, 0x0, 0xFFFFFFFF, 0x0, 0x0, 0x0, false⟩ /- CAM_Sn_OUTo_CROP0 -/,
   ⟨0xF0404, 8, 0x40, 3, 0x10, 0x0, 0x0, 0xFFFFFFFF, 0x0, 0x0, 0x0, false⟩ /- CAM_Sn_OUTo_CROP1 -/,
   ⟨0xF0408, 8, 0x40, 3, 0x10, 0x0, 0x0, 0xFFFFFFFF, 0x0, 0x0, 0x0, false⟩ /- CAM_Sn_OUTo_SIZE -/,
   ⟨0xF040C, 8, 0x40, 3, 0x10, 0x20, 0x0, 0x337, 0x0, 0x0, 0x0, false⟩ /- CAM_Sn_OUTo_CFG -/]

def rowsENC : List Row :=
  [⟨0x100000, 1, 0x0, 1, 0x0, 0x0, 0x0, 0x0, 0x0, 0x0, 0x0, false⟩ /- ENC_STATUS -/,
   ⟨0x100004, 1, 0x0, 1, 0x0, 0x0, 0x0, 0x0, 0x0, 0xFFFFFFFF, 0x0, false⟩ /- ENC_CNT -/,
   ⟨0x100100, 4, 0x80, 1, 0x0, 0x100000, 0x0, 0xF38DC3, 0x0, 0x0, 0x0, false⟩ /- ENC_Sn_CTRL -/,
   ⟨0x100104, 4, 0x80, 1, 0x0, 0x0, 0x0, 0xFFFFFFFF, 0x0, 0x0, 0x0, false⟩ /- ENC_Sn_CROP0 -/,
   ⟨0x100108, 4, 0x80, 1, 0x0, 0x0, 0x0, 0xFFFFFFFF, 0x0, 0x0, 0x0, false⟩ /- ENC_Sn_CROP1 -/,
   ⟨0x10010C, 4, 0x80, 1, 0x0, 0x0, 0x0, 0xFFFFFFFF, 0x0, 0x0, 0x0, false⟩ /- ENC_Sn_SIZE -/,
   ⟨0x100110, 4, 0x80, 1, 0x0, 0x330A1E1C, 0x0, 0xFF3F3F3F, 0x0, 0x0, 0x0, false⟩ /- ENC_Sn_RC -/,
   ⟨0x100114, 4, 0x80, 1, 0x0, 0x4E20, 0x0, 0x7FFFF, 0x0, 0x0, 0x0, false⟩ /- ENC_Sn_RATE -/,
   ⟨0x100118, 4, 0x80, 1, 0x0, 0xC00EA60, 0x0, 0x3F01FFFF, 0x0, 0x0, 0x0, false⟩ /- ENC_Sn_RATE2 -/,
   ⟨0x10011C, 4, 0x80, 1, 0x0, 0x40078, 0x0, 0xFFFFF, 0x0, 0x0, 0x0, false⟩ /- ENC_Sn_GOP -/,
   ⟨0x100120, 4, 0x80, 1, 0x0, 0x0, 0x0, 0xFFFFF, 0x0, 0x0, 0x0, false⟩ /- ENC_Sn_TX -/,
   ⟨0x100124, 4, 0x80, 1, 0x0, 0x82300, 0x0, 0xF3FFF, 0x0, 0x0, 0x0, false⟩ /- ENC_Sn_PKT -/,
   ⟨0x100128, 4, 0x80, 1, 0x0, 0x0, 0x0, 0xFFFFFFFF, 0x0, 0x0, 0x0, false⟩ /- ENC_Sn_TIME -/,
   ⟨0x10012C, 4, 0x80, 1, 0x0, 0x0, 0x0, 0x0, 0x0, 0x0, 0x1, false⟩ /- ENC_Sn_CMD -/,
   ⟨0x100130, 4, 0x80, 1, 0x0, 0x0, 0x0, 0x0, 0x0, 0x0, 0x0, false⟩ /- ENC_Sn_STAT -/,
   ⟨0x100134, 4, 0x80, 1, 0x0, 0x0, 0x0, 0x0, 0x0, 0x0, 0x0, false⟩ /- ENC_Sn_BITS -/,
   ⟨0x100138, 4, 0x80, 1, 0x0, 0x0, 0x0, 0x0, 0x0, 0x0, 0x0, false⟩ /- ENC_Sn_DEBT -/,
   ⟨0x10013C, 4, 0x80, 1, 0x0, 0x0, 0x0, 0x0, 0x0, 0xFFFFFFFF, 0x0, false⟩ /- ENC_Sn_CNT0 -/,
   ⟨0x100140, 4, 0x80, 1, 0x0, 0x0, 0x0, 0x0, 0x0, 0xFFFFFFFF, 0x0, false⟩ /- ENC_Sn_CNT1 -/]

def rowsTOW : List Row :=
  [⟨0x110000, 1, 0x0, 1, 0x0, 0x0, 0x0, 0x0, 0x0, 0x0, 0x0, false⟩ /- TOW_STATUS -/,
   ⟨0x110004, 1, 0x0, 1, 0x0, 0x10200, 0x0, 0x1071F, 0x0, 0x0, 0x0, false⟩ /- TOW_CFG -/,
   ⟨0x110008, 1, 0x0, 1, 0x0, 0x1001004, 0x0, 0x300FFFF, 0x0, 0x0, 0x0, false⟩ /- TOW_SEAL -/,
   ⟨0x11000C, 1, 0x0, 1, 0x0, 0x96, 0x0, 0x3FF, 0x0, 0x0, 0x0, false⟩ /- TOW_REPAIR -/,
   ⟨0x110010, 1, 0x0, 1, 0x0, 0x0, 0x0, 0x0, 0x0, 0x0, 0xFFFF0003, false⟩ /- TOW_CMD -/,
   ⟨0x110014, 1, 0x0, 1, 0x0, 0x0, 0x0, 0x0, 0x0, 0x0, 0x0, false⟩ /- TOW_OWN_POUND -/,
   ⟨0x110018, 1, 0x0, 1, 0x0, 0x0, 0x0, 0x0, 0x0, 0x0, 0x0, false⟩ /- TOW_TAKE_STAT -/,
   ⟨0x11001C, 1, 0x0, 1, 0x0, 0x0, 0x0, 0x0, 0x0, 0x0, 0x0, false⟩ /- TOW_SEAL_LAST -/,
   ⟨0x110020, 1, 0x0, 1, 0x0, 0x0, 0x0, 0x0, 0x0, 0xFFFFFFFF, 0x0, false⟩ /- TOW_SEAL_CNT -/,
   ⟨0x110024, 1, 0x0, 1, 0x0, 0x0, 0x0, 0x0, 0x0, 0xFFFFFFFF, 0x0, false⟩ /- TOW_REPAIR_CNT -/,
   ⟨0x110028, 1, 0x0, 1, 0x0, 0x0, 0x0, 0x0, 0x0, 0xFFFFFFFF, 0x0, false⟩ /- TOW_MSG_CNT -/,
   ⟨0x11002C, 1, 0x0, 1, 0x0, 0x0, 0x0, 0x0, 0x0, 0xFFFFFFFF, 0x0, false⟩ /- TOW_HB_MISS -/]

def rowsLZ : List Row :=
  [⟨0x120000, 1, 0x0, 1, 0x0, 0x7, 0x0, 0x0, 0x0, 0x0, 0x0, false⟩ /- LZ_STATUS -/,
   ⟨0x120004, 1, 0x0, 1, 0x0, 0x0, 0x0, 0x0, 0x0, 0x0, 0x0, false⟩ /- LZ_QDEPTH -/,
   ⟨0x120008, 1, 0x0, 1, 0x0, 0x10, 0x0, 0x17F, 0x0, 0x0, 0x0, false⟩ /- LZ_CTRL -/,
   ⟨0x12000C, 1, 0x0, 1, 0x0, 0x0, 0x0, 0x0, 0x0, 0x0, 0x0, false⟩ /- LZ_LAST -/,
   ⟨0x120010, 1, 0x0, 1, 0x0, 0x0, 0x0, 0x0, 0x0, 0xFFFFFFFF, 0x0, false⟩ /- LZ_ENC_IN -/,
   ⟨0x120014, 1, 0x0, 1, 0x0, 0x0, 0x0, 0x0, 0x0, 0xFFFFFFFF, 0x0, false⟩ /- LZ_ENC_OUT -/,
   ⟨0x120018, 1, 0x0, 1, 0x0, 0x0, 0x0, 0x0, 0x0, 0xFFFFFFFF, 0x0, false⟩ /- LZ_BLK_CNT -/,
   ⟨0x12001C, 1, 0x0, 1, 0x0, 0x0, 0x0, 0x0, 0x0, 0xFFFFFFFF, 0x0, false⟩ /- LZ_ERR_CNT -/,
   ⟨0x120020, 1, 0x0, 1, 0x0, 0x0, 0x0, 0x0, 0x0, 0xFFFFFFFF, 0x0, false⟩ /- LZ_STOP_CNT -/]

def rowsSEC : List Row :=
  [⟨0x130000, 1, 0x0, 1, 0x0, 0x0, 0x0, 0x0, 0x0, 0x0, 0x0, false⟩ /- SEC_STATUS -/,
   ⟨0x130004, 1, 0x0, 1, 0x0, 0x0, 0x0, 0x1, 0x0, 0x0, 0x0, false⟩ /- SEC_CTRL -/,
   ⟨0x130010, 12, 0x4, 1, 0x0, 0x0, 0x0, 0xFFFFFFFF, 0x0, 0x0, 0x0, false⟩ /- SEC_SRC_HASH -/,
   ⟨0x130040, 24, 0x4, 1, 0x0, 0x0, 0x0, 0x0, 0x0, 0x0, 0x0, false⟩ /- SEC_DEVPUB -/,
   ⟨0x1300A0, 1, 0x0, 1, 0x0, 0x0, 0x0, 0x0, 0x0, 0x0, 0x0, false⟩ /- SEC_KEY_STAT -/,
   ⟨0x1300A4, 1, 0x0, 1, 0x0, 0x0, 0x0, 0x0, 0x0, 0x0, 0x0, false⟩ /- SEC_KSEQ -/,
   ⟨0x1300A8, 1, 0x0, 1, 0x0, 0x0, 0x0, 0x0, 0x0, 0xFFFFFFFF, 0x0, false⟩ /- SEC_KEY_CNT -/]

/-- The rows of block number `b` (R443). -/
def blockRows (b : Nat) : List Row :=
  match b with
  | 0 => rowsTOP
  | 1 => rowsPWR
  | 2 => rowsHK
  | 3 => rowsIMG
  | 4 => rowsRING
  | 5 => rowsTIME
  | 6 => rowsDEC
  | 7 => rowsCTX
  | 8 => rowsCOMP
  | 9 => rowsTRK
  | 10 => rowsBASIN
  | 11 => rowsTUG
  | 12 => rowsSCAN
  | 13 => rowsLANE
  | 14 => rowsPNL
  | 15 => rowsCAM
  | 16 => rowsENC
  | 17 => rowsTOW
  | 18 => rowsLZ
  | 19 => rowsSEC
  | _ => []

end Sys2Proof.Machine
end

