-- ==== Sys2Proof/Machine/Sparse.lean ====
section
/-! DEFINITION. Sparse contents by number, as plain data in one canonical form: keys strictly rising, and no entry equal to
what an unlisted key reads as. Register files, the Basin, the flash and every other addressed store use it. -/

namespace Sys2Proof.Machine

/-- Key and value pairs, keys strictly rising. -/
abbrev Sparse (α : Type) := List (Nat × α)

/-- The entry listed for `k`. -/
def Sparse.find {α : Type} : Sparse α → Nat → Option α
  | [], _ => none
  | (a, v) :: r, k => if k = a then some v else Sparse.find r k

/-- What key `k` reads as, `d` giving the unlisted keys. -/
def Sparse.get {α : Type} (d : Nat → α) (m : Sparse α) (k : Nat) : α := (Sparse.find m k).getD (d k)

/-- `m` with no entry for `k`. -/
def Sparse.erase {α : Type} : Sparse α → Nat → Sparse α
  | [], _ => []
  | (a, v) :: r, k => if k = a then Sparse.erase r k else (a, v) :: Sparse.erase r k

/-- `m` with `(k, v)` at its place in the order. -/
def Sparse.insert {α : Type} : Sparse α → Nat → α → Sparse α
  | [], k, v => [(k, v)]
  | (a, w) :: r, k, v =>
    if k < a then (k, v) :: (a, w) :: r
    else if k = a then (k, v) :: r
    else (a, w) :: Sparse.insert r k v

/-- A write that keeps the canonical form: a value equal to the unlisted one removes the entry. -/
def Sparse.set {α : Type} [DecidableEq α] (d : Nat → α) (m : Sparse α) (k : Nat) (v : α) : Sparse α :=
  if v = d k then Sparse.erase m k else Sparse.insert m k v

/-- Keys strictly rising, every key above `lo`. -/
def Sparse.above {α : Type} (lo : Nat) : Sparse α → Bool
  | [] => true
  | (a, _) :: r => decide (lo < a) && Sparse.above a r

/-- Keys strictly rising. -/
def Sparse.sorted {α : Type} : Sparse α → Bool
  | [] => true
  | (a, _) :: r => Sparse.above a r

/-- The canonical form. -/
def Sparse.wf {α : Type} [DecidableEq α] (d : Nat → α) (m : Sparse α) : Bool :=
  Sparse.sorted m && m.all (fun e => decide (e.2 ≠ d e.1))

/-- A write of consecutive keys from `k`. -/
def Sparse.setAll {α : Type} [DecidableEq α] (d : Nat → α) (m : Sparse α) (k : Nat) : List α → Sparse α
  | [] => m
  | v :: r => Sparse.setAll d (Sparse.set d m k v) (k + 1) r

/-- The values of `n` consecutive keys from `k`. -/
def Sparse.getAll {α : Type} (d : Nat → α) (m : Sparse α) (k : Nat) : Nat → List α
  | 0 => []
  | n + 1 => Sparse.get d m k :: Sparse.getAll d m (k + 1) n

/-- A byte store: the Basin (R28) and the flash, cells as the host names them. -/
abbrev ByteMem := Sparse Byte

/-- The canonical form of a byte store whose unlisted bytes read as `d` says. -/
abbrev Memory.wf (d : Nat → Byte) (m : ByteMem) : Bool := Sparse.wf d m

/-- `m` with keys `a` to `a + n - 1` unlisted. -/
def Sparse.clear {α : Type} (m : Sparse α) (a n : Nat) : Sparse α := m.filter (fun e => decide (e.1 < a) || decide (a + n ≤ e.1))

end Sys2Proof.Machine
end

