-- ==== Sys2Proof/Machine/Ledger.lean ====
section
/-! DEFINITION. Reading and writing the ledger's words by the access codes of R7 and the layout of R11 and R12. -/

namespace Sys2Proof.Machine

/-- A store of ledger words; an unlisted register holds its reset word. -/
abbrev RegFile := Sparse Word

/-- The row covers address `a`. -/
def Row.covers (r : Row) (a : Nat) : Bool :=
  if a < r.base then false
  else
    let d := a - r.base
    if r.s1 = 0 then d == 0
    else
      let i := d / r.s1
      let q := d % r.s1
      if i < r.c1 then (if r.s2 = 0 then q == 0 else q % r.s2 == 0 && q / r.s2 < r.c2) else false

/-- The row that holds address `a`; none where the offset holds no register (R11). -/
def rowOf (a : Nat) : Option Row := (blockRows (a / 0x10000)).find? (fun r => r.covers a)

/-- The address holds a register. -/
def hasReg (a : Nat) : Bool := (rowOf a).isSome

/-- The word a register holds at reset; 0 where there is none (R11). -/
def resetWord (a : Nat) : Word := match rowOf a with | some r => BitVec.ofNat 32 r.reset | none => 0#32

/-- The word of a register file. -/
def RegFile.word (m : RegFile) (a : Nat) : Word := Sparse.get resetWord m a

/-- `m` with the word at `a` replaced. -/
def RegFile.setWord (m : RegFile) (a : Nat) (w : Word) : RegFile := Sparse.set resetWord m a w

/-- A field's value. -/
def RegFile.fld (m : RegFile) (f : Fld) : Nat := bitsOf (m.word f.addr).toNat f.hi f.lo

/-- `m` with a field replaced. -/
def RegFile.setFld (m : RegFile) (f : Fld) (v : Nat) : RegFile :=
  m.setWord f.addr (BitVec.ofNat 32 (putBits (m.word f.addr).toNat f.hi f.lo v))

/-- The canonical form of a register file. -/
abbrev RegFile.wf (m : RegFile) : Bool := Sparse.wf resetWord m

/-- Replace the bits of `old` that `mask` names by those of `v`. -/
def maskedWord (old v : Word) (mask : Nat) : Word :=
  let k := BitVec.ofNat 32 mask
  (old &&& ~~~k) ||| (v &&& k)

/-- The largest value of a field. -/
def Fld.max (f : Fld) : Nat := 2 ^ (f.hi + 1 - f.lo) - 1

/-- The mask of a field in its word. -/
def Fld.mask (f : Fld) : Nat := f.max <<< f.lo

/-- The addresses a row covers, rising in each dimension. -/
def Row.addrs (r : Row) : List Nat :=
  (List.range r.c1).flatMap (fun i => (List.range r.c2).map (fun j => r.base + r.s1 * i + r.s2 * j))

/-- Insertion of an address in rising order. -/
def insertAddr : List Nat → Nat → List Nat
  | [], a => [a]
  | b :: r, a => if a < b then a :: b :: r else if a = b then b :: r else b :: insertAddr r a

/-- The addresses of block `b` that hold RWS bits, rising: the block's part of the shadow set (R31). -/
def rwsAddrs (b : Nat) : List Nat :=
  (((blockRows b).filter (fun r => r.rws ≠ 0)).flatMap Row.addrs).foldl insertAddr []

/-- The RWS bits of the register at `a`. -/
def rwsMask (a : Nat) : Nat := match rowOf a with | some r => r.rws | none => 0

/-- Block `b` holds RWS fields. -/
def blockHasRws (b : Nat) : Bool := (blockRows b).any (fun r => r.rws ≠ 0)

/-- Block numbers (R443). -/
def bTOP : Nat := 0
def bPWR : Nat := 1
def bHK : Nat := 2
def bIMG : Nat := 3
def bRING : Nat := 4
def bTIME : Nat := 5
def bDEC : Nat := 6
def bCTX : Nat := 7
def bCOMP : Nat := 8
def bTRK : Nat := 9
def bBASIN : Nat := 10
def bTUG : Nat := 11
def bSCAN : Nat := 12
def bLANE : Nat := 13
def bPNL : Nat := 14
def bCAM : Nat := 15
def bENC : Nat := 16
def bTOW : Nat := 17
def bLZ : Nat := 18
def bSEC : Nat := 19

/-- The values wider than 32 bits (R12): the address of the lowest word and the number of words. -/
def wideGroups : List (Nat × Nat) :=
  [(R.PWR_DOM_ON 0, 5), (R.SEC_SRC_HASH 0, 12), (R.SEC_DEVPUB 0, 24), (R.TIME_NOW 0, 4), (R.TIME_GM0, 2),
   (R.BASIN_UE_ADDR0, 2), (R.SCAN_FCNT0, 2), (R.SCAN_FLIP 0, 4), (R.TRK_REP_TIME 0, 3), (R.TOP_UID0, 2),
   (R.TOP_MGMT_HASH 0, 12), (R.RING_MAC_LO, 2)]
  ++ (List.range 3).map (fun n => (R.TIME_CAPn n 0, 3))
  ++ (List.range 60).map (fun n => (R.LANE_n_ERR0 n, 2))
  ++ (List.range 16).map (fun n => (R.RING_GRPn_A n 0, 4))

/-- The wide value that address `a` is a word of: its lowest word, how many words, and which word `a` is. -/
def wideOf (a : Nat) : Option (Nat × Nat × Nat) :=
  (wideGroups.find? (fun g => decide (g.1 ≤ a) && decide (a < g.1 + 4 * g.2))).map (fun g => (g.1, g.2, (a - g.1) / 4))

end Sys2Proof.Machine
end

