-- ==== Sys2Proof/Machine/State.lean ====
section
/-! DEFINITION. The machine state as plain data: every register, queue, buffer, counter, mode and pin the spec gives the
block, the queue of waiting commands, and the state after reset. Registers that the ledger shows live in the register files;
a part below holds only what no register shows, or what a register shows as a view. -/

namespace Sys2Proof.Machine

/-- The local oscillator and the device time it drives (R143, R146): `now` in ns since power; device time is
`devFine / 10^9` in units of 2^-16 ns; `rate` is the servo's u in 2^-16 ppb; `exitAt` is the last reset exit; `comp` counts eighths of the
composer's clock, 1.25 GHz and half of it during a brace (R16, R82). -/
structure Clk where
  now     : Nat
  devFine : Nat
  rate    : Int
  exitAt  : Nat
  comp    : Nat
  deriving DecidableEq, Repr

/-- A committed set (R31): the values in force of all RWS fields, and what is frozen with them: the effective mode (R58) and
the budget rung (R248) and the ownership of the panel (R311, R392). -/
structure CSet where
  regs : RegFile
  mode : BitVec 8
  rung : Nat
  own  : Bool
  deriving DecidableEq, Repr

/-- The ledger: RO, RW, W1C and RC words in `live`; RWS words last written in `shadow`; the two banks of the commit store and
its index (R32); the R12 snapshots of the ring and of the I2C target; the two banks and the index as a warm reset found them, which the
store keeps until the image's records rebuild it and which nothing uses (R80). -/
structure LedSt where
  live     : RegFile
  shadow   : RegFile
  bank0    : CSet
  bank1    : CSet
  index    : Bool
  kept     : Option (CSet × CSet × Bool)
  snapRing : Sparse Word
  snapI2c  : Sparse Word
  deriving DecidableEq, Repr

/-- An event record (R444), less its CRC, which its bytes determine. -/
structure EvRec where
  pound : Nat
  sec   : Nat
  ns    : Nat
  code  : Nat
  block : Nat
  inst  : Nat
  rseq  : Nat
  arg0  : Nat
  arg1  : Nat
  gap   : Bool
  deriving DecidableEq, Repr

/-- The event path (R445, R446): records pending in the eight slots, the ninth slot of event 0x023, the ring of the newest
1,024, the next RSEQ, whether the next record carries GAP, the drops of the running pound and in all (TOP_EVT_DROP), and the
"at most once per pound" events already raised, by code and key. -/
structure EvtSt where
  pending   : List EvRec
  ninth     : Option EvRec
  ring      : List EvRec
  rseq      : Nat
  gapNext   : Bool
  dropPound : Nat
  dropTotal : Nat
  limited   : List (Nat × Nat)
  deriving DecidableEq, Repr

/-- The phase of a lock cycle (TOP_LOCK_STAT.PHASE). -/
inductive Phase where
  | idle | level | opened
  deriving DecidableEq, Repr

/-- The outcome of a lock cycle (R38). -/
inductive LockOutcome where
  | applied | nochange | retry | rejected
  deriving DecidableEq, Repr

/-- A level report in flight to the lock-keeper (R36): its block, the blocks it vetoes for (R37), the ledger address of the
first vetoed field, and the CRC-16 of the staged values. -/
structure LevelReport where
  block : Nat
  veto  : Nat
  first : Nat
  crc   : Nat
  deriving DecidableEq, Repr

/-- A write waiting in the write-hold queue (R40): address, value and mask. -/
structure HeldWrite where
  addr  : Nat
  value : Word
  mask  : Nat
  deriving DecidableEq, Repr

/-- A mode request of the stream (R55): pound, set mask, clear mask. -/
structure ModeReq where
  pound : Nat
  set   : BitVec 8
  clr   : BitVec 8
  deriving DecidableEq, Repr

/-- A recovery window (R47, R48): the code of its fault, the opens left to its end, and whether its path still has its last action before it,
so that no open counts yet. -/
structure Recovery where
  code : Nat
  left : Nat
  busy : Bool
  deriving DecidableEq, Repr

/-- The lock-keeper (R34 to R48) and the mode requests it merges (R54 to R59). -/
structure LockSt where
  /-- the boot timeline has reached step 14 -/
  running     : Bool
  phase       : Phase
  /-- open pound, and whether any pound has opened since reset -/
  pound       : Nat
  everOpened  : Bool
  /-- the pound that the next close opens -/
  nextPound   : Nat
  /-- step 1 of the running cycle; LEAD and WINDOW that govern it, in µs -/
  closeAt     : Nat
  lead        : Nat
  window      : Nat
  frozen      : CSet
  changed     : Bool
  want        : Nat
  got         : Nat
  veto        : Nat
  vetoFirst   : Nat
  sent        : List LevelReport
  /-- instances that have staged in this cycle -/
  stagedBy    : List (Nat × Nat)
  /-- ns from the close to the last valid report of the running cycle -/
  lastNs      : Nat
  retry       : Nat
  outcome     : LockOutcome
  apply       : Bool
  /-- units that have not yet acknowledged the token -/
  await       : List (Nat × Nat)
  holdQ       : List HeldWrite
  discardReq  : Bool
  /-- a veto has decided the cycle before WINDOW, whose end still counts the blocks that missed (R45) -/
  missDue     : Bool
  /-- consecutive misses of each block (R45), and blocks whose forced reset is due with the instances that missed -/
  misses      : List Nat
  forceDue    : List (Nat × List Nat)
  touched     : BitVec 8
  iset        : BitVec 8
  iclr        : BitVec 8
  streamReqs  : List ModeReq
  /-- consecutive equal samples and pending level of each GPIO, the accepted levels, and when each was accepted (R56) -/
  gpioCount   : List Nat
  gpioSeen    : Nat
  gpioAcc     : Nat
  gpioPrev    : Nat
  gpioAccAt   : List Nat
  forceMask   : BitVec 8
  /-- sources of the flags that management writes have changed since the last close, and TOP_MODE_ORIGIN as the running cycle
  commits it -/
  originTent  : Nat
  originNew   : Nat
  /-- the recovery windows that run (R47, R48), oldest fault first -/
  recover     : List Recovery
  /-- committed sets in force for recent pounds, newest first: the contents of every unit's banks (R33) -/
  sets        : List (Nat × CSet)
  deriving DecidableEq, Repr

/-- A barge at a crossing: its pound tag and the number of the work it carries (R17, R41). -/
structure Barge where
  tag  : Nat
  work : Nat
  deriving DecidableEq, Repr

/-- A unit instance behind the token (R43, R44): the newest pound whose token it acted on, whether it is reloading its banks,
and its input crossing. -/
structure UnitSt where
  block  : Nat
  inst   : Nat
  acted  : Option Nat
  reload : Bool
  inq    : List Barge
  deriving DecidableEq, Repr

/-- Where the device stands between a reset and its exit (R70, R79). -/
inductive ResetPhase where
  /-- POR_L asserted -/
  | porHeld
  /-- rails are checked every 1 ms -/
  | seqCheck
  /-- waits for the monitors that tripped to recover -/
  | awaitRails
  /-- thermal shutdown: waits for the temperature (R442) -/
  | awaitCool
  /-- the 1 ms before reset exit runs -/
  | exitDue
  /-- out of reset -/
  | run
  deriving DecidableEq, Repr

/-- A brace in progress (R82, R83): its start, the monitors of the first 200 ns window until event 0x101 is raised, every monitor that
has tripped its warning comparator in it, and the pounds open during it. -/
structure Brace where
  since  : Nat
  mask   : Nat
  trips  : Nat
  raised : Bool
  pounds : List Nat
  deriving DecidableEq, Repr

/-- The flight slot in progress (R74, R77): the domain, whether it goes up, whether it reported power-good, whether its
power-good timed out. -/
structure Slot where
  dom  : Nat
  up   : Bool
  good : Bool
  failed : Bool
  deriving DecidableEq, Repr

/-- Supplies, domains and resets (R67 to R85). -/
structure PwrSt where
  phase     : ResetPhase
  porLow    : Bool
  /-- monitors whose trips caused the reset; whether the exit from reset waits for the rails besides what its phase waits for (R79) -/
  tripped   : Nat
  rails     : Bool
  cold      : Bool
  brace     : Option Brace
  /-- domains that are up, and domains fully isolated for reset -/
  up        : Nat
  upQ       : List Nat
  downQ     : List Nat
  slot      : Option Slot
  /-- domains whose first attempt failed -/
  retried   : List Nat
  /-- pounds marked by a brace (R82), newest first -/
  marked    : List Nat
  /-- RESET_OUT_L and FAULT_L, true when asserted; THERM_L -/
  resetOut  : Bool
  fault     : Bool
  /-- FAULT_L is asserted for a fault after boot (R45, R77), which no close ends -/
  faultHeld : Bool
  therm     : Bool
  straps    : Straps
  deriving DecidableEq, Repr

/-- One flash operation (R107): read is 1, program 2, 4 KiB erase 3, 64 KiB erase 4, OTP 5, as IMG_NVM_STAT.OP numbers them. -/
structure NvmOp where
  kind : Nat
  addr : Nat
  data : List Byte
  deriving DecidableEq, Repr

/-- Who the flash work is for, in the order of service of R107. -/
inductive NvmWho where
  | commit (seq bank : Nat)
  /-- a calibration save whose copy and SEQ are taken when its work starts -/
  | save
  | cal (copy seq : Nat)
  | log (first count : Nat)
  /-- of the update of this number -/
  | update (gen : Nat)
  /-- the bits that RAISE and REVOKE program (R100) -/
  | otp
  /-- an erase recorded at a reset and started again at boot -/
  | redo
  /-- a program that a reset let run to completion -/
  | orphan
  deriving DecidableEq, Repr

/-- A work of the NVM sequencer: its operations left, whether the operation in progress is its second try, and the bytes a
commit, calibration or log work writes. -/
structure NvmJob where
  who   : NvmWho
  ops   : List NvmOp
  retry : Bool
  data  : List Byte
  deriving DecidableEq, Repr

/-- The header fields of the image in use (R93). -/
structure ImgHeader where
  keySlot : Nat
  length  : Nat
  version : Nat
  epoch   : Nat
  raise   : Bool
  revoke  : Bool
  calUse  : Bool
  recOff  : Nat
  recLen  : Nat
  tblOff  : Nat
  tblCnt  : Nat
  manOff  : Nat
  manCnt  : Nat
  sigOff  : Nat
  mhz     : Nat
  dummy   : Nat
  tppUs   : Nat
  tseMs   : Nat
  tbeMs   : Nat
  tsusUs  : Nat
  deriving DecidableEq, Repr

/-- The xSPI bus (R87): 8D-8D-8D or 1S-1S-1S, its clock in MHz and the dummy cycles of a read, and the instant until which XSPI_RESET_L
is driven low. -/
structure XspiBus where
  octal   : Bool
  mhz     : Nat
  dummy   : Nat
  lowTill : Nat
  deriving DecidableEq, Repr

/-- Where the loader stands (R102): nothing, header to be read, first pass, second pass, done, or image-fail (R92). -/
inductive LoadPhase where
  | off | header | pass1 | pass2 | loaded | imageFail
  deriving DecidableEq, Repr

/-- The configuration image, its memory and the boot timeline. -/
structure ImgSt where
  /-- flash contents and size in bytes; an unlisted byte reads erased -/
  flash     : ByteMem
  size      : Nat
  otp       : Otp
  load      : LoadPhase
  /-- bank being tried or running; whether it is the second; bank marks of R103, kept through warm reset -/
  bank      : Nat
  second    : Bool
  marks     : Nat
  hdr       : ImgHeader
  manifest  : List (Nat × Nat)
  tables    : List ((Nat × Nat) × List Byte)
  /-- records still to be applied, with the instant until which the loader waits: for the POLL at their head (true), or in a DELAY before them
  (R95) -/
  recs      : Option (List Byte × Nat × Bool)
  /-- the banks whose update a reset has lost, which fail the loader's checks (R105): bit n, bank n; it lies in the flash, so every reset keeps it -/
  torn      : Nat
  bus       : XspiBus
  /-- step 8 reached: the Basin may train; steps passed out of order wait here -/
  trained   : Bool
  weirStep  : Bool
  timeStep  : Bool
  panelStep : Bool
  /-- Basin ready instant of step 10 -/
  readyAt   : Option Nat
  otpDue    : Bool
  /-- staging buffer of the update (R104): bytes not yet programmed; how many updates have started -/
  updBuf    : List Byte
  updDone   : Nat
  updGen    : Nat
  job       : Option NvmJob
  jobs      : List NvmJob
  suspend   : Bool
  deriving DecidableEq, Repr

/-- A frame in transit (R118): its bytes before the FCS, whether it is stomped (R117), and its ingress in device time, 2^-16 ns. -/
structure Transit where
  data  : List Byte
  stomp : Bool
  inAt  : Nat
  deriving DecidableEq, Repr

/-- A queued local frame (R122): class 0 timed egress, 1 PTP, 2 management, 3 other; when it was queued; its launch time in
device time for class 0; whether TIMED_EGRESS_DUE has come for it; its bytes before the FCS; of a copy under DUAL (R116) whether it is
stomped and its ingress in device time; of a Delay_Req its sequenceId; the encode stream that sent it (R388). -/
structure LFrame where
  cls   : Nat
  at_   : Nat
  e     : Nat
  due   : Bool
  data  : List Byte
  stomp : Bool
  inAt  : Option Nat
  req   : Option Nat
  talk  : Option Nat
  deriving DecidableEq, Repr

/-- A frame on the wire: whether it is a local one, its bytes before the FCS, and the FCS sent (R117). -/
structure TxFrame where
  own  : Bool
  data : List Byte
  fcs  : Nat
  deriving DecidableEq, Repr

/-- A ring port's transmitter (R118, R122, R123): the transit frame arriving for it, its insertion buffer, its local queue, the
frame on the wire and when it ends. -/
structure RingPort where
  arriving : List Transit
  ins      : List Transit
  loc      : List LFrame
  wire     : Option TxFrame
  busy     : Nat
  /-- 0 down, 1 training, 2 up -/
  link     : Nat
  deriving DecidableEq, Repr

/-- A delivered UDP datagram (R127): the group entry it matched (16 for unicast to the device), its source's MAC and IP address and port,
and its payload. -/
structure Datagram where
  grp   : Nat
  mac   : Nat
  src   : Nat
  sport : Nat
  data  : List Byte
  deriving DecidableEq, Repr

/-- A delivered PTP message (R140): the port, the HOP of its ring tag, its ingress in device time, its sender by its transport and by MAC,
its bytes. -/
structure PtpMsg where
  port : Nat
  hop  : Nat
  at_  : Nat
  src  : Nat
  mac  : Nat
  msg  : List Byte
  deriving DecidableEq, Repr

/-- The two ring ports, the weir and the receive queues. -/
structure RingSt where
  ports     : List RingPort
  weirOpen  : Bool
  /-- loopback training in progress since; failed at, until it is tried again; failed with the weir not opened since (R124) -/
  training  : Option Nat
  retryFrom : Option Nat
  loopBad   : Bool
  rx        : List Datagram
  ptp       : List PtpMsg
  /-- membership queries to be answered: of MLD, and the group asked for (R127) -/
  queries   : List (Bool × Nat)
  mgmt      : List Datagram
  /-- frames with a wrong tag version and uncorrectable codewords in the pound, by port -/
  tagBad    : List Nat
  fecBad    : List Nat
  dropEgr   : List Nat
  skipTc    : List Nat
  deriving DecidableEq, Repr

/-- The Syncs of a master (R140): sequenceId of the latest one, HOP + 1 of its copy by port (0: none), the instant of the last Sync by port (0: none)
and their logSyncInterval. -/
structure SyncSeen where
  seq  : Nat
  hops : List Nat
  ats  : List Nat
  int  : Int
  deriving DecidableEq, Repr

/-- A master's Announce data (R140): its port identity, grandmaster, the data set compared by the best master clock algorithm,
its interval, when it was last heard, its sender's address by its transport and by MAC, and whether its Syncs keep the interval of
R137. -/
structure Master where
  portId : Nat
  gmId   : Nat
  rank   : List Nat
  logInt : Int
  /-- sequenceId and instant of the last Announce, and the instant of the one before it -/
  lastSeq : Nat
  lastAt : Nat
  prevAt : Option Nat
  addr   : Nat
  mac    : Nat
  syncOk : Bool
  sync   : Option SyncSeen
  deriving DecidableEq, Repr

/-- A two-step Sync waiting for its Follow_Up. -/
structure SyncWait where
  seq  : Nat
  t2   : Int
  corr : Int
  deriving DecidableEq, Repr

/-- The outstanding Delay_Req (R141): its sequenceId and the egress time of its copy on each port. -/
structure DelayReq where
  seq : Nat
  t3e : Option Int
  t3w : Option Int
  deriving DecidableEq, Repr

/-- Network time and timed launch (R137 to R155). -/
structure TimeSt where
  masters  : List Master
  master   : Option Master
  /-- last Sync of the master by port: instant, HOP + 1 (0: none) and logSyncInterval; the time port is decided, by the copies of the Sync
  `portSeq` -/
  syncAt   : List Nat
  syncHop  : List Nat
  syncInt  : Int
  portSet  : Bool
  portSeq  : Option Nat
  pend     : Option SyncWait
  req      : Option DelayReq
  reqSeq   : Nat
  reqInt   : Int
  sm       : Option Int
  path     : Option Int
  integ    : Int
  ff       : Int
  offset   : Int
  /-- consecutive computations inside and outside LOCK_NS -/
  inRun    : Nat
  outRun   : Nat
  step     : Option Int
  /-- launch times L(P) in 2^-16 ns of device time, newest first -/
  launches : List (Nat × Nat)
  /-- the pound whose launch comes next; armed; held by unfinished rows; held since -/
  nextL    : Nat
  armed    : Bool
  armedAt  : Nat
  heldBack : Bool
  replica  : Int
  /-- pulse outputs that are high, and when each falls, in ns -/
  pulses   : List (PulsePin × Nat)
  deriving DecidableEq, Repr

/-- An accepted packet (R129): where it lies in the Basin (byte address and length, R263), and whether the stream parser is done with it. -/
structure Pkt where
  seq   : Nat
  flags : Nat
  key   : Nat
  data  : List Byte
  moor  : Nat × Nat
  eaten : Bool
  deriving DecidableEq, Repr

/-- A parity group (R130, R131): when its first packet came, its parity packet (N and payload), its state (0 open, 1 its missing
packets wanted from the partner, 2 resolved), when it was resolved, and its packets. -/
structure PGroup where
  k       : Nat
  firstAt : Nat
  parity  : Option (Nat × List Byte)
  st      : Nat
  pkts    : List Pkt
  /-- SEQ values asked of the partner and not answered (R402) -/
  wanted  : List Nat
  deriving DecidableEq, Repr

/-- A channel context (R128, R129): group entry and channel, the window end and the received bits of the 256 values that end at
it (bit i: SEQ end − i), its parity groups, the POUND of the last CHUNK accepted (R159), and whether a unit being discarded has
been counted. -/
structure Chan where
  grp     : Nat
  chan    : Nat
  winEnd  : Option Nat
  got     : Nat
  groups  : List PGroup
  lastP   : Option Nat
  counted : Bool
  deriving DecidableEq, Repr

/-- A complete stream unit (R157) waiting for its check: where it came from, its bytes, ENC and KEY (none where its packets
differ, R158), and where its packets lie. -/
structure StreamUnit where
  grp   : Nat
  chan  : Nat
  bytes : List Byte
  enc   : Option (Bool × Nat)
  moors : List (Nat × Nat)
  deriving DecidableEq, Repr

/-- A layer descriptor (R163). -/
structure Desc where
  layer   : Nat
  ty      : Nat
  planes  : Nat
  profile : Nat
  policy  : Nat
  chan    : Nat
  tilesX  : Nat
  tilesY  : Nat
  width   : Nat
  height  : Nat
  orgX    : Int
  orgY    : Int
  stepX   : Nat
  stepY   : Nat
  disp    : Int
  relief  : Int
  zkey    : Int
  patId   : Nat
  patArg  : Nat
  deriving DecidableEq, Repr

/-- A scene header (R160): identity, version, START, group, panel geometry, channels, descriptors. -/
structure Scene where
  id    : Nat
  ver   : Nat
  start : Nat
  grp   : Nat
  cols  : Nat
  rows  : Nat
  vcols : Nat
  vrows : Nat
  chans : List Nat
  descs : List Desc
  deriving DecidableEq, Repr

/-- A draw-list entry (R172); `known` is false where the list of the pound was absent (R173). -/
structure DrawEnt where
  layer  : Nat
  static : Bool
  chunks : Nat
  czkey  : Int
  known  : Bool
  deriving DecidableEq, Repr

/-- A region update (R174). -/
structure Region where
  layer : Nat
  rop   : Nat
  src   : Nat
  srcL  : Nat
  dx    : Nat
  dy    : Nat
  w     : Nat
  h     : Nat
  sx    : Nat
  sy    : Nat
  clip  : Nat
  pat   : Nat
  data  : List Nat
  deriving DecidableEq, Repr

/-- A guarded region (R177, R253); `since` is the pound whose list set it. -/
structure Guard where
  since  : Nat
  gid    : Nat
  action : Nat
  view   : Nat
  x0     : Nat
  y0     : Nat
  x1     : Nat
  y1     : Nat
  crc    : Nat
  deriving DecidableEq, Repr

/-- A command of a command list (R169). -/
inductive Cmd where
  /-- placement form: mask, ORG_X, ORG_Y, STEP_X, STEP_Y -/
  | place (layer mask : Nat) (ox oy : Int) (sx sy : Nat)
  /-- depth form: mask, DISP, RELIEF_SCALE, ZKEY -/
  | depth (layer mask : Nat) (disp relief zkey : Int)
  | draw (ents : List DrawEnt)
  | region (r : Region)
  | release (layer : Nat)
  | signature (g : Guard)
  /-- launch time in 2^-16 ns, and its NS -/
  | launch (l ns : Nat)
  | mode (set clr : Nat)
  deriving DecidableEq, Repr

/-- A command list held for its pound (R167, R168). -/
structure CmdList where
  pound : Nat
  crc   : Nat
  cmds  : List Cmd
  deriving DecidableEq, Repr

/-- A MAP in force from its pound (R166): 8 words of cells per tile. -/
structure LayerMap where
  layer : Nat
  pound : Nat
  cells : List Nat
  deriving DecidableEq, Repr

/-- A scene slot (R161 to R173): header in force and pending, geometry of the layers as overlaid so far (R171), lists held,
draw list of the last close with its pound, maps, channels that a replaced pending header opened, refused lists (pound, UCRC). -/
structure SceneSlot where
  cur     : Option Scene
  pend    : Option Scene
  geom    : List Desc
  lists   : List CmdList
  draw    : List DrawEnt
  drawAt  : Nat
  maps    : List LayerMap
  extra   : List (Nat × Nat)
  refused : List (Nat × Nat)
  deriving DecidableEq, Repr

/-- A tile chunk accepted (R179, R181): a barge tagged with its pound; `ctx` is its stream context (R165). -/
structure Chunk where
  slot  : Nat
  layer : Nat
  pound : Nat
  tx    : Nat
  ty    : Nat
  planes : Nat
  rap   : Bool
  lenC  : Nat
  lenA  : Nat
  lenR  : Nat
  subs  : List (Nat × Nat)
  body  : List Byte
  enc   : Bool
  key   : Nat
  chan  : Nat
  ctx   : Nat
  profile : Nat
  ucrc  : Nat
  moors : List (Nat × Nat)
  deriving DecidableEq, Repr

/-- A change of contexts that waits for the open (R165, R186): contexts to be emptied under their old numbers, contexts moved (old, new),
then contexts to be emptied under their new numbers. -/
structure CtxPlan where
  gone   : List Nat
  moves  : List (Nat × Nat)
  clears : List Nat
  deriving DecidableEq, Repr

/-- The transport and the scene stream. -/
structure StrmSt where
  chans  : List Chan
  ready  : List StreamUnit
  slots  : List SceneSlot
  /-- changes of contexts in the order in which the open performs them -/
  plan   : List CtxPlan
  /-- the changes of contexts that an open has made due and that wait for chunks in the cores (R186) -/
  late   : List CtxPlan
  /-- releases by (slot, layer, pound): the layer has no instance from that pound on until chunks of a later one begin it -/
  released : List (Nat × Nat × Nat)
  /-- chunks accepted by (slot, layer, tx, ty, pound) (R181) -/
  seen   : List (Nat × Nat × Nat × Nat × Nat)
  deriving DecidableEq, Repr

/-- A key half (R134, R135): key, constant IV, crypt and skip blocks. -/
structure KeyHalf where
  slot  : Nat
  gen   : Nat
  key   : List Byte
  iv    : List Byte
  crypt : Nat
  skip  : Nat
  deriving DecidableEq, Repr

/-- Content keys (R132 to R135): the halves that hold a key, and the KEY messages that wait. -/
structure SecSt where
  halves : List KeyHalf
  queue  : List (List Byte)
  deriving DecidableEq, Repr


/-- Panel geometry (R203): hogel columns and rows, view columns and rows. -/
structure Geom where
  cols  : Nat
  rows  : Nat
  vcols : Nat
  vrows : Nat
  deriving DecidableEq, Repr

/-- One plane of a stream context (R185): what H.265 decodes with (parameter sets, picture order count of the last picture that later ones count
from, reference, newest picture), the pound of the newest picture's chunk, whether RASL pictures are skipped (R184), whether concealed and since
which pound (R200). -/
structure CtxPlane where
  hevc    : HevcCtx
  pound   : Option Nat
  noRasl  : Bool
  conc    : Bool
  since   : Nat
  deriving DecidableEq, Repr

/-- A stream context (R185, R186): WAIT_RAP, its planes (colour, alpha, relief), the mooring of its references, and whether event 0x605
has been raised for it. -/
structure DecCtx where
  waitRap : Bool
  planes  : List CtxPlane
  refMoor : Option Nat
  cscTold : Bool
  deriving DecidableEq, Repr

/-- A tile picture stored for the composer (R193): its tile, the pound of its chunk, its TEXEL mooring, its concealed bit, and
the last pound of its instance once a release has fixed it (R277). -/
structure TilePic where
  slot  : Nat
  layer : Nat
  tx    : Nat
  ty    : Nat
  pound : Nat
  moor  : Nat
  conc  : Bool
  last  : Option Nat
  deriving DecidableEq, Repr

/-- A chunk in a decoder core: its body in the clear (R192), when it was dispatched, whether it is random-access (R184), its
TEXEL and REF moorings, and the last pound of the instance that its picture is for, once a release or HOLD has fixed it (R277). -/
structure CoreJob where
  chunk : Chunk
  body  : List Byte
  since : Nat
  rap   : Bool
  tex   : Nat
  ref   : Nat
  last  : Option Nat
  deriving DecidableEq, Repr

/-- The decoders (R182 to R202): chunks complete and waiting, in order of completion; stream contexts; context numbers in the
cache, most recently used first; the cores; tile pictures; chunks finished by (slot, layer, pound); core time by pound in ns. -/
structure DecSt where
  queue : List Chunk
  ctxs  : Sparse DecCtx
  cache : List Nat
  cores : List (Option CoreJob)
  pics  : List TilePic
  done  : List ((Nat × Nat × Nat) × Nat)
  /-- chunks that ended in decoding or were skipped, and the sum of UCRC of the former, by pound (R398) -/
  ended : List (Nat × Nat × Nat)
  time  : List (Nat × Nat)
  deriving DecidableEq, Repr

/-- A layer drawn in a pound (R171, R172): its descriptor with the geometry of the pound, its entry, and whether it was ready at
the deadline. -/
structure PlanEnt where
  slot   : Nat
  desc   : Desc
  static : Bool
  chunks : Nat
  known  : Bool
  ready  : Bool
  deriving DecidableEq, Repr

/-- What a pound draws: its entries in draw-list order, and its guarded regions. -/
structure Plan where
  pound  : Nat
  ents   : List PlanEnt
  guards : List Guard
  deriving DecidableEq, Repr

/-- How a layer fared (R239 to R241): the latest pound it was ready, its consecutive held count, and of a CARD layer whether the composition of
that pound read the second surface. -/
structure LayerHist where
  slot   : Nat
  layer  : Nat
  ready  : Option Nat
  held   : Nat
  second : Bool
  deriving DecidableEq, Repr

/-- A layer of the stack (R221): the pound of its instance, its resolution (0 ready, 1 REPEAT, 2 TRANSPARENT), whether it is the
overlay of R62, whether it is sampled nearest (R247), and the moorings of its CARD surface. -/
structure StackLayer where
  slot    : Nat
  desc    : Desc
  inst    : Nat
  res     : Nat
  overlay : Bool
  nearest : Bool
  surf    : List Nat
  marked  : Bool
  deriving DecidableEq, Repr

/-- An eye (R250, R375): position in 1/256 hogel pitch, distance in 1/16. -/
structure Eye where
  ex : Int
  ey : Int
  ez : Nat
  deriving DecidableEq, Repr

/-- The eye set of a pound (R250): why every view is lit (0: cones in use), and the eyes. -/
structure EyeSet where
  cause : Nat
  eyes  : List Eye
  deriving DecidableEq, Repr

/-- The composition in progress (R218 to R256): its pound, its stack, eyes, frame and tap buffers, the next block to issue,
blocks issued (cluster, block) in order, those among them composed twice (R236), blocks written, whether it met an uncorrectable read, clusters, busy time in eighths of
a composer clock, when each busy cluster got its first block, and the counts of the frame. -/
structure Compose where
  pound   : Nat
  stack   : List StackLayer
  capped  : Nat
  eyes    : EyeSet
  buf     : Nat
  tap     : Option Nat
  next    : Nat
  issued  : List (Nat × Nat)
  checks  : List Nat
  written : Nat
  bad     : Bool
  allowed : Nat
  clusters : Nat
  busy    : Nat
  since   : List (Nat × Nat)
  skip    : Nat
  occ     : Nat
  eterm   : Nat
  conc    : Nat
  lit     : Nat
  deriving DecidableEq, Repr

/-- The role of a frame or tap buffer (R23, R257). -/
inductive BufRole where
  | free | composing | queued | scanning
  deriving DecidableEq, Repr

/-- A frame or tap buffer: its reservation, its moorings, its role, its pound, its geometry, and whether its frame ended with
ABORT. -/
structure Buf where
  gen     : Nat
  moors   : List Nat
  role    : BufRole
  pound   : Nat
  geom    : Geom
  aborted : Bool
  deriving DecidableEq, Repr

/-- The outcome of a composition, for the ladder, the HOLD exit and the seal (R66, R248, R293): pound; composed; late; load; launchable;
whether it reads a marked surface; whether a layer resolved as HOLD held it (R241). -/
structure FrameRes where
  pound  : Nat
  ran    : Bool
  late   : Bool
  load   : Nat
  launch : Bool
  lap    : Bool
  held   : Bool
  deriving DecidableEq, Repr

/-- The composer (R203 to R257). -/
structure CompSt where
  plans    : List Plan
  hist     : List LayerHist
  cur      : Option Compose
  bufs     : List Buf
  taps     : List Buf
  gen      : Nat
  results  : List FrameRes
  above    : Nat
  below    : Nat
  rungReq  : Nat
  gov      : Nat
  /-- a step has been requested and not yet applied -/
  rungDue  : Bool
  /-- cluster counts asked by the estimates, by pound (R244) -/
  counts   : List (Nat × Nat)
  guards   : List Guard
  /-- frames repeated since its last MATCH (R256) by the region of a GID that the list of a pound set -/
  repeats  : Sparse Nat
  /-- blocks issued, modulo 4,096 (R236) -/
  turn     : Nat
  /-- texel caches (R220): the lines of a set, the most recently used first, by cluster × 512 + set -/
  tcache   : List (Nat × List Nat)
  /-- the glint locator's report held (R375) with its report time in 2^-16 ns of device time, and why every view was last lit -/
  report   : Option (List Eye × Nat)
  litCause : Nat
  /-- a report has arrived since TRACK was set -/
  reported : Bool
  /-- eye sets of the panel owner, by pound (R250) -/
  ownerEyes : List (Nat × List Eye)
  /-- HOLD exits in progress (R66): their pounds Q, newest first -/
  holdExit : List Nat
  deriving DecidableEq, Repr

/-- A CARD instance (R175, R290): its two surfaces, which one the composition reads, whether its surfaces are allocated,
whether their fills have been queued, the OVERLAP marks of its surfaces (R293), and whether its work of the pound had ended at the
deadline. -/
structure CardInst where
  slot   : Nat
  layer  : Nat
  width  : Nat
  height : Nat
  surf0  : List Nat
  surf1  : List Nat
  front  : Bool
  held   : Bool
  filled : Bool
  mark0  : Bool
  mark1  : Bool
  ready  : Bool
  deriving DecidableEq, Repr

/-- A tug update (R291): the pound whose settings it uses, whether it belongs to the repeat pass, the surface it acts on, the surface of
its source layer that it reads, a fill of R290 or a region update, and whether it runs. -/
structure TugJob where
  tag     : Nat
  again   : Bool
  slot    : Nat
  layer   : Nat
  second  : Bool
  source  : Bool
  region  : Option Region
  started : Bool
  deriving DecidableEq, Repr

/-- The tug (R285 to R295): CARD instances, the queue, region updates by pound in list order, updates that were unfinished or
aborted by (slot, layer, pound). -/
structure TugSt where
  cards   : List CardInst
  queue   : List TugJob
  updates : List (Nat × Nat × Region)
  aborted : List (Nat × Nat × Nat)
  /-- pixels written and not yet a unit of 256; layers whose repeat pass is skipped in this pound (R414) -/
  px      : Nat
  skip    : List (Nat × Nat)
  deriving DecidableEq, Repr

/-- What a launch slot sends (R301), numbered as SCAN_STATUS.KIND. -/
inductive Kind where
  | idle | frame | repeated | background | card | lane
  deriving DecidableEq, Repr

/-- Scan-out (R296 to R311). -/
structure ScanSt where
  /-- kind, launch pound, and pound of the content of the last slot; the bank that governs what is sent -/
  kind    : Kind
  /-- of a follower, which sends IDLE: the kind by which its frame buffers move (R394) -/
  shadow  : Kind
  slot    : Nat
  shown   : Nat
  bank    : CSet
  /-- the block slot of its first block, and the block slot from which the active rows carry zero (R305) -/
  start   : Nat
  zeroAt  : Option Nat
  /-- the control words that the 48 panel lanes sent last at a slot, a front porch or the end of the rows (0: none); an abort in the
  read-ahead of the slot to come: cause and lane -/
  heads   : List Nat
  preAbort : Option (Nat × Nat)
  /-- rows of the frame are being sent; why it ends with ABORT (R305); the end code sent (true COMMIT) -/
  active  : Bool
  abort   : Option Nat
  endCode : Option Bool
  /-- the bank of the scanning frame's pound (R302) -/
  keep    : Option (Nat × CSet)
  fcnt    : Nat
  /-- slots before pound 0 still to come (R150) -/
  pre     : Nat
  /-- previous values of the checks (R308), and checks of this slot already judged -/
  prev    : List (Option Nat)
  judged  : List Nat
  ownIn   : Bool
  ownOut  : Bool
  /-- the device drove the last slot it owned; slots it must not drive -/
  owned   : Bool
  blocked : Bool
  /-- a framed launch waits for the rows of the frame before it -/
  waiting : Option Nat
  /-- pictures panel committed last (for the outside): pound and kind -/
  panel   : Option (Nat × Kind)
  deriving DecidableEq, Repr

/-- State of a mooring that is not FREE (R273); `leaving`: freed at an open and not yet allocatable (R278). -/
inductive MoorState where
  | held | reserved | quarantined | leaving
  deriving DecidableEq, Repr

/-- The allocator's entry of a mooring (R273): class, order, state, holder count, last pound U once fixed (R276), and whether a
read of it was uncorrectable (R271). -/
structure Mooring where
  cls   : Nat
  order : Nat
  st    : MoorState
  count : Nat
  last  : Option Nat
  bad   : Bool
  deriving DecidableEq, Repr

/-- Training of a stack (R264, R266): whether a lane failed after repair; trained results as the bytes of a seed table (R265); lanes moved to
their spares. -/
structure StackSt where
  failed  : Bool
  seed    : List Byte
  /-- read delay offsets of the lanes from their trained centres, by lane, in 1/64 UI -/
  track   : List (Nat × Int)
  repaired : List Nat
  /-- commands sent again because their parity failed, and reports of the on-die ECC (R258) -/
  retries : Nat
  onDie   : Nat
  deriving DecidableEq, Repr

/-- The Basin (R258 to R284). -/
structure BasinSt where
  /-- bytes by Basin byte address m × 2^21 + o; an unlisted byte is zero (R264) -/
  mem      : ByteMem
  /-- entries of the moorings that are not FREE -/
  moors    : Sparse Mooring
  /-- the PACKET mooring being filled and its next free byte -/
  fill     : Option (Nat × Nat)
  /-- training runs: at boot, in the retries of R266, or at a HOLD exit -/
  stk   : List StackSt
  /-- seeds of the training in progress, by stack; empty: full sweeps (R264 to R266) -/
  seeds : List (List Byte)
  retryFrom : Option Nat
  /-- boot waits for a successful retry before step 13 -/
  bootHeld : Bool
  selfref  : Bool
  exitFrom : Option Nat
  scrubAt  : Nat
  passes   : Nat
  passFix  : Nat
  /-- an address and a source recorded in BASIN_UE_ADDR and BASIN_UE_SRC that have not been read (R271) -/
  ueAddr   : Bool
  ueSrc    : Bool
  /-- corrections of the pound by pseudo-channel (R260) -/
  ceCount  : Option (Nat × Nat)
  /-- moorings free at the last close (R274) -/
  closeFree : Nat
  quarFull : Bool
  /-- refreshes served, by stack -/
  refresh  : List Nat
  /-- flushes completed (R281), by the block number of the source -/
  flushes  : List Nat
  deriving DecidableEq, Repr


/-- A receiver's search for block boundaries (R319): the candidate boundary, the run of valid headers at it, and the headers and invalid
headers of the window of LOCK. -/
structure RxLock where
  cand : Nat
  run  : Nat
  seen : Nat
  bad  : Nat
  deriving DecidableEq, Repr

/-- A receiver's equaliser (R320): CTLE code, DFE tap, the 12 FFE taps, pre-cursors first. -/
structure RxEq where
  ctle : Nat
  dfe  : Int
  ffe  : List Int
  deriving DecidableEq, Repr

/-- A run of a generator (R331 to R335): its pattern, framed or not, the block slot of the lane at which it began, RATE and INJ_KIND, the bits that
it sent before, and one-shot errors: their kind, how many, and the block slot at which they begin. -/
structure GenRun where
  pat    : Nat
  framed : Bool
  start  : Nat
  rate   : Nat
  kind   : Nat
  sent   : Nat
  inj    : Option (Nat × Nat × Nat)
  deriving DecidableEq, Repr

/-- What a checker holds for the pattern or for its inverse (R334): its register of the last bits, how many it has taken, and the error-free
bits or symbols in a row. -/
structure PrbsReg where
  reg  : Nat
  have_ : Nat
  run  : Nat
  deriving DecidableEq, Repr

/-- A checker (R334): the pattern and its inverse, and bits or symbols compared and errors in the running 2^16. -/
structure PrbsChk where
  plain : PrbsReg
  inv   : PrbsReg
  seen  : Nat
  errs  : Nat
  deriving DecidableEq, Repr

/-- A serial lane (R312 to R335), beside its registers: SEQ of the last back-channel request and its status record, the request
waiting for a back-porch boundary (R328), failed adaptations and the best FOM of the run (R322), and one-shot errors outstanding
(R335). -/
structure LaneSt where
  lastSeq : Option Nat
  status  : List Byte
  wait    : Option (List Byte)
  tries   : Nat
  best    : Nat
  inject  : Option (Nat × Nat × Nat)
  /-- the committed transmit taps last taken (R325); none: those of reset -/
  seed    : Option Nat
  /-- the receiver: whether an adaptation runs, the CTLE code of its seed while the search keeps to it, its equaliser, its search for
  blocks -/
  training : Bool
  seedCtle : Option Nat
  eq      : RxEq
  rx      : RxLock
  /-- the taps that the receiver of a ring lane has asked of its partner (R325) -/
  asked   : List Int
  /-- the receiver: 0 off, 1 training, 2 adapted, 3 failed; its checker -/
  rxSt    : Nat
  chk     : PrbsChk
  /-- the run of a ring or towpath lane's generator; of a ring lane, the instant at which it began and the open choice of what preceded it -/
  gen     : Option GenRun
  base    : Nat
  seedNo  : Nat
  deriving DecidableEq, Repr

/-- The lanes: those that differ from their reset state, by number; when the panel lanes were enabled, in 2^-16 ns of device time (none:
they are off); whether the monitor's receiver scans; the status write the device last made, by chip select. -/
structure LanesSt where
  lanes     : Sparse LaneSt
  enabledAt : Option Nat
  scan      : Bool
  written   : List (List Byte)
  /-- the header of the last sideband read, by chip select (R349) -/
  asked     : List (List Byte)
  /-- the block slot at which training began (R327), and the one from which unframed output is IDLE again (R333) -/
  trainSlot : Nat
  idleFrom  : Option Nat
  /-- bits that each panel lane's generator has sent in LANE slots on end (R335); the open choice of the panel lanes' scramblers at lane enable -/
  genSent   : List Nat
  txSeed    : Nat
  /-- the LANE slot before this one, whose framed output runs to the first ALIGN slot (R333): its bank, its first block slot, and bits sent before;
  the block slot from which the panel lanes send what the state gives now -/
  carry     : Option (CSet × Nat × List Nat)
  since     : Nat
  /-- the frame, by its first block slot, in which requests were last applied (R328) -/
  bcFrame   : Option Nat
  deriving DecidableEq, Repr

/-- Panel care (R336 to R355). -/
structure PanelSt where
  /-- PNL_EN0 to PNL_EN3 as a mask; PNL_DISCHARGE; the reference code put out -/
  enables   : Nat
  discharge : Bool
  code      : Nat
  /-- step of the sequence in progress; when it began; when TRAIN began; its cause (event 0xE01); whether it ends in FAULT -/
  step      : Nat
  since     : Nat
  trainAt   : Nat
  cause     : Nat
  faulty    : Bool
  /-- the fast path runs, with its trigger -/
  fast      : Option Nat
  /-- no attempt before this instant (R340); VIN_PANEL_SENSE has been good for this many rounds -/
  retryAt   : Option Nat
  vinRounds : Nat
  /-- power-up wanted since step 13 -/
  wanted    : Bool
  ident     : List Byte
  /-- PNL_VREF table: band bounds and codes by band; frame start and T in 2^-16 ns; rounds of STATUS failures and deviations -/
  bounds    : List Int
  codes     : List (List Nat)
  startAt   : Nat
  period    : Nat
  tempFails : Nat
  deviate   : Nat
  frozen    : Bool
  /-- the reference waveform has started since step 6 of R337 (R343) -/
  waves     : Bool
  /-- crack loop: checking runs, level driven, misses, matches seen since the last miss as (high, low) -/
  crackOn   : Bool
  crackOut  : Bool
  misses    : Nat
  matched   : Bool × Bool
  /-- HOLD_CARD table, and CARD slots since the count restarted with the ON and OFF it counts by -/
  card      : List Byte
  blink     : Nat
  blinkCfg  : Nat × Nat
  inHold    : Bool
  deriving DecidableEq, Repr

/-- What decides what the panel lanes send (R301, R327, R333): the slot, the frame buffers and the Basin they lie in, panel care, the block slot
at which TRAIN began where it runs, the committed set, one-shot errors, unframed output's end and the LANE slot before. -/
structure TxSrc where
  scan     : ScanSt
  bufs     : List Buf
  basin    : BasinSt
  panel    : PanelSt
  train    : Option Nat
  cset     : CSet
  lanes    : LanesSt
  deriving DecidableEq, Repr

/-- What a towpath lane sends from a block slot on (R313 to R317, R333, R396): the messages queued with the blocks each still has, a generator's run,
PRECODE and POL_INV. -/
structure TowSrc where
  at_     : Nat
  queue   : List (TowMsg × Nat)
  gen     : Option GenRun
  precode : Bool
  inv     : Bool
  deriving DecidableEq, Repr

/-- The housekeeping round (R429 to R442). -/
structure HkSt where
  /-- correction in force (zero code, reference code) and the codes of this round -/
  zero      : Nat
  refc      : Nat
  zeroNew   : Nat
  refNew    : Nat
  /-- consecutive misses, good rounds since failure, rounds failed, by sensor -/
  misses    : List Nat
  goods     : List Nat
  downs     : List Nat
  /-- r of R439; rounds of noraise left; rounds since the last sensor failure -/
  r         : Nat
  noraise   : Nat
  sinceFail : Nat
  /-- consecutive rounds below SHUT − SHUT_HYST during a shutdown -/
  cool      : Nat
  told      : Bool
  deriving DecidableEq, Repr

/-- A sensor frame (R361) between its frame start and its publication: its number, FS time (2^-16 ns of device time), pound tag,
the committed set latched at its FS, whether it is lit (R371), the output buffers it is written to as (output, buffer), lines
received, lines whose CRC checked and that wait in the line buffer, oldest first, lines taken by the pipe as raw samples, and
whether its FE has come. A frame dropped whole (R363, R364) stays until its FE so that its lines are discarded. -/
structure CamFrame where
  num     : Nat
  fsAt    : Nat
  pound   : Nat
  set     : CSet
  lit     : Bool
  outs    : List (Nat × Nat)
  got     : Nat
  waiting : List (List Byte)
  taken   : List (List Nat)
  ended   : Bool
  dropped : Bool
  deriving DecidableEq, Repr

/-- Why a register write goes out on a CCI (R360, R369): a start or stop entry with its delay in ms, or a part of an exposure set
(its SET_ID, whether it is the last part). -/
inductive CciKind where
  | seq (delay : Nat)
  | expo (id : Nat) (last : Bool)
  deriving DecidableEq, Repr

/-- A register write (R358): register and value bytes in wire order. -/
structure CciOp where
  reg   : Nat
  bytes : List Byte
  kind  : CciKind
  deriving DecidableEq, Repr

/-- An exposure set being written: SET_ID, LINES, GAIN, frame N, and whether this is the retry (R369). -/
structure ExpoWrite where
  id    : Nat
  lines : Nat
  gain  : Nat
  frame : Nat
  retry : Bool
  deriving DecidableEq, Repr

/-- What a sensor is doing (R360). -/
inductive SensorPhase where
  | off | starting | streaming | stopping
  deriving DecidableEq, Repr

/-- An output buffer (R368) and the picture last published in it; one that is not `live` belongs to settings of the past and goes once nothing
writes or holds it (R361, R379). -/
structure CamBuf where
  moors   : List Nat
  live    : Bool
  writing : Bool
  num     : Nat
  fsAt    : Nat
  pound   : Nat
  lit     : Bool
  width   : Nat
  height  : Nat
  x0      : Nat
  y0      : Nat
  deriving DecidableEq, Repr

/-- A sensor (R360 to R369): its phase, whether its stop waits for the end of a frame, next frame number, frames not yet
published, CCI writes queued, whether a delay runs, newest SET_ID, the set committed and not yet begun, the set being written and the
one to be retried, sets in effect as (SET_ID, first frame), newest first, the buffers of its outputs, outputs that are off for want of moorings, and its deficit in the
arbitration. -/
structure SensorSt where
  phase   : SensorPhase
  stopDue : Bool
  next    : Nat
  frames  : List CamFrame
  cci     : List CciOp
  delay   : Bool
  setId   : Nat
  newSet  : Option (Nat × Nat × Nat)
  write   : Option ExpoWrite
  again   : Option ExpoWrite
  applied : List (Nat × Nat)
  bufs    : List (List CamBuf)
  outOff  : List Bool
  deficit : Nat
  deriving DecidableEq, Repr

/-- A published Y8 picture held by a stereo pair (R372): the sensor, output and buffer that hold it, and the picture before it in
another buffer for the difference. -/
structure PairPic where
  sensor : Nat
  out    : Nat
  buf    : Nat
  num    : Nat
  fsAt   : Nat
  prev   : Option Nat
  deriving DecidableEq, Repr

/-- A stereo pair (R372 to R375): the left and right pictures that wait, unlit pictures held for the difference, and its newest
result: left FS time and eyes. -/
structure PairGlint where
  left   : Option PairPic
  right  : Option PairPic
  unlitL : Option PairPic
  unlitR : Option PairPic
  result : Option (Nat × List Eye)
  deriving DecidableEq, Repr

/-- Camera input and the glint locator (R356 to R376): sensors; by port the sensor whose turn it is in the arbitration and the sensor
whose register write is on the CCI, with the bytes of that transaction (R358); strobe pulse counter, whether a strobe is due, whether the last pulse carried one; pairs. -/
structure CamSt where
  sensors : List SensorSt
  turn    : List (Option Nat)
  bus     : List (Option (Nat × List Byte))
  pulseJ  : Nat
  strobe  : Bool
  lit     : Bool
  pairs   : List PairGlint
  deriving DecidableEq, Repr

/-- A source picture of an encode stream (R379): a camera buffer (sensor, output, buffer) or the tap picture of its pound; its
geometry, pound tag, T_ref in 2^-16 ns of device time, the committed set latched at the take, and whether ENC_Sn_CMD.IDR was written
since the take before. -/
structure EncPic where
  tap    : Bool
  sensor : Nat
  out    : Nat
  buf    : Nat
  width  : Nat
  height : Nat
  pound  : Nat
  tref   : Nat
  set    : CSet
  idr    : Bool
  deriving DecidableEq, Repr

/-- An encode stream (R377 to R389): its moorings (none: not allocated), source pictures counted, waiting picture, pending IDR
command, IDR due, pictures coded since the last IDR, next PIC, shape of the picture before, debt, QP of its last row outside coast, the
reference picture and the picture order count of the picture before; whether it is off for want of moorings, and whether its moorings go once its last unit has been
sent (R389). -/
structure EncStream where
  moors  : Option (List Nat)
  count  : Nat
  wait   : Option EncPic
  cmdIdr : Bool
  dueIdr : Bool
  since  : Nat
  pic    : Nat
  shape  : Option (List Nat)
  debt   : Nat
  qp     : Option Nat
  ref    : List Nat
  poc    : Int
  off    : Bool
  closing : Bool
  deriving DecidableEq, Repr

/-- The picture being coded (R383 to R385): its stream and source, IDR, converted samples, the QP of the rows coded, the QP of the
next row, the first coast row, bits used, the budget, bits per picture, the CTUs coded, bits of the slices that have ended, first CTU and first row of the
open slice, whether a CONC word was read, packets sent, and why it is to be abandoned at the next row boundary (event 0xF32). -/
structure EncRun where
  stream : Nat
  src    : EncPic
  idr    : Bool
  pixels : List Nat
  qps    : List Nat
  qp     : Nat
  coast  : Option Nat
  used   : Nat
  budget : Nat
  bp     : Nat
  ctus   : List EncCtu
  done   : Nat
  ctu    : Nat
  row0   : Nat
  conc   : Bool
  packets : Nat
  stop   : Option Nat
  deriving DecidableEq, Repr

/-- What the device sends on a channel of a group (R386): next SEQ and the data packets (FLAGS, payload) of the open parity group. -/
structure EncChan where
  grp   : Nat
  chan  : Nat
  seq   : Nat
  group : List (Nat × List Byte)
  deriving DecidableEq, Repr

/-- The capture encoder: streams, takes in order, the picture being coded, and its channels. -/
structure EncSt where
  streams : List EncStream
  order   : List Nat
  run     : Option EncRun
  chans   : List EncChan
  deriving DecidableEq, Repr


/-- A partner's heartbeat (R397) and when it came. -/
structure PartnerHb where
  pound   : Nat
  flags   : Nat
  lock    : Nat
  fcnt    : Nat
  closeS  : Nat
  closeNs : Nat
  at_     : Nat
  deriving DecidableEq, Repr

/-- A seal (R398). -/
structure Seal where
  pound : Nat
  flags : Nat
  lost  : Nat
  cset  : Nat
  dec   : Nat
  frame : Nat
  deriving DecidableEq, Repr

/-- A takeover that is not confirmed yet (R406, R407): cause, kind, T; committed at the close that opens T. -/
structure Takeover where
  cause     : Nat
  kind      : Nat
  t         : Nat
  committed : Bool
  deriving DecidableEq, Repr

/-- A run of SEQ values asked of the partner (R402): when the group was resolved, and whether any answer came. -/
structure Want where
  grp      : Nat
  chan     : Nat
  k        : Nat
  seq      : Nat
  count    : Nat
  answered : Bool
  deriving DecidableEq, Repr

/-- A fragment of a DELTA (R399): the MSEQ of its message, kind, pound, FRAG, whether it is the last one, and its body. -/
structure DeltaFrag where
  mseq  : Nat
  kind  : Nat
  pound : Nat
  frag  : Nat
  last  : Bool
  body  : List Byte
  deriving DecidableEq, Repr

/-- The redundant pair and the towpath (R390 to R414). -/
structure PairSt where
  /-- ownership that the next committed set takes; the pound T of the last change of ownership (R407) -/
  own      : Bool
  ownT     : Option Nat
  /-- level of PAIR_HB_OUT; a heartbeat has come in the running tick interval; consecutive misses; ticks since a valid HB -/
  hbOut    : Bool
  heard    : Bool
  missRun  : Nat
  sinceHb  : Nat
  hb       : Option PartnerHb
  /-- since when the partner reports each of its receivers in lock, and since when each own receiver is -/
  lockAt   : List (Option Nat)
  rxAt     : List (Option Nat)
  /-- next MSEQ to send; newest MSEQ received; MSEQ values not yet received -/
  txSeq    : Nat
  rxSeq    : Option Nat
  gaps     : List Nat
  /-- messages on each lane with the blocks each still has, the first in progress, as they stood at a block slot of the lane; what the lane sent up to
  then, newest first; when the towpath lanes were enabled; messages put on lanes since the last tick -/
  queue    : List (List (TowMsg × Nat))
  drained  : List Nat
  past     : List (List TowSrc)
  enabled  : Nat
  out      : List TowMsg
  /-- something of R404 went wrong in the running pound -/
  sick     : Bool
  seals    : List Seal
  theirs   : List Seal
  matchRun : Nat
  missSeal : Nat
  lostOwn  : Nat
  lostThem : Nat
  /-- contexts that have decoded a random-access chunk since the follower last became unfit -/
  rapped   : List Nat
  schedBad : Bool
  take     : Option Takeover
  /-- T of a YIELD sent (owner), and whether it has been answered; T at which ownership is dropped -/
  yieldT   : Option Nat
  yieldAns : Bool
  dropT    : Option Nat
  /-- HOLD of a RESYNC is cleared at the close that opens this pound -/
  resync   : Option Nat
  /-- consecutive samplings of PANEL_OWN_IN that read asserted during a takeover; the takeover is confirmed -/
  ownMiss  : Nat
  joinWait : Bool
  /-- the pound J of the snapshot held, its content, and the surfaces held for J -/
  snap     : Option (Nat × List Byte)
  surfs    : List (Nat × List Byte)
  /-- the pound whose snapshot has been merged at its close, with the effective mode of the snapshot -/
  joined   : Option (Nat × Nat)
  /-- fragments of DELTAs that are not complete -/
  frags    : List DeltaFrag
  /-- owner: the pound J for which state was sent, whether its surfaces are due; those that wait for the engine, by slot and layer -/
  sentJ    : Option (Nat × Bool)
  surfQ    : List (Nat × Nat)
  wants    : List Want
  fcntFix  : Option Nat
  /-- packets that wait for the towpath only (R403): the pound of their unit and their moorings -/
  kept     : List (Nat × List (Nat × Nat))
  deriving DecidableEq, Repr

/-- Whom a job of the compression engine serves (R420): a DELTA by kind and pound, or a log block by RSEQ of its first record and
its count. -/
inductive LzTag where
  | delta (kind pound : Nat)
  | log (first count : Nat)
  deriving DecidableEq, Repr

/-- A job (R420): decode or encode, FIRST and LAST, block size in bytes; its source range in the Basin, as moorings and bytes, and its
destination range; what it has used and made, and its whole blocks. -/
structure LzJob where
  queue  : Nat
  decode : Bool
  first  : Bool
  last   : Bool
  block  : Nat
  srcM   : List Nat
  len    : Nat
  dstM   : List Nat
  space  : Nat
  used   : Nat
  made   : Nat
  blocks : Nat
  tag    : LzTag
  deriving DecidableEq, Repr

/-- The completion record of a job (R422): its STATUS, and what its destination range holds for its user. -/
structure LzRec where
  job    : LzJob
  status : Nat
  out    : List Byte
  deriving DecidableEq, Repr

/-- A sequence context (R421): 0 EMPTY, 1 OPEN, 2 SUSPENDED, 3 BROKEN, and its history, oldest byte first (R415); where it is saved in the SCRATCH
mooring (R423), the length of the history that lies there. -/
structure LzCtx where
  st    : Nat
  hist  : List Byte
  saved : Option Nat
  deriving DecidableEq, Repr

/-- The dictionary compression engine (R415 to R428): three queues, the running job, the contexts, the SCRATCH mooring, and
whether the running job's context is held on the die for self-refresh (R427). -/
structure LzSt where
  queues  : List (List LzJob)
  run     : Option LzJob
  ctxs    : List LzCtx
  scratch : Option Nat
  onDie   : Bool
  /-- bytes encoded and written that do not yet make a unit of 256 -/
  inRem   : Nat
  outRem  : Nat
  deriving DecidableEq, Repr
/-- A management session (R449, R450, R453): its SID and key, its MSEQ window, when it was last used, where its requests come
from, its subscription mask (0: none), and the records waiting for the next EVENTS message with the instant of the first. -/
structure Session where
  sid     : Nat
  mac     : Nat
  sk      : List Byte
  winEnd  : Nat
  winMask : Nat
  lastUse : Nat
  addr    : Nat
  port    : Nat
  mask    : Nat
  buf     : List EvRec
  bufAt   : Nat
  deriving DecidableEq, Repr

/-- Management access, alerts, the I2C target and the log (R447 to R459). -/
structure MgmtSt where
  /-- session slots 0 to 3 -/
  sessions  : List (Option Session)
  lastSid   : Nat
  /-- the alert has been answered since the last bit was newly set (R455) -/
  answered  : Bool
  i2cPtr    : Nat
  /-- the last I2C write was NACKed; bytes the last read returned -/
  i2cNack   : Bool
  i2cOut    : List Byte
  /-- accepted records selected for the log and not yet logged, oldest first, each with the instant of its acceptance -/
  unlogged  : List (EvRec × Nat)
  /-- records of the log job in the compression engine -/
  logJob    : List (EvRec × Nat)
  lostPound : Nat
  /-- log sector in use and the next free byte in it; none before the first block -/
  logSector : Option Nat
  logOff    : Nat
  deriving DecidableEq, Repr

/-- A JTAG instruction (R472). -/
inductive JtagIr where
  | bypass | idcode | sample | extest | extestPulse | extestTrain | clamp | highz
  deriving DecidableEq, Repr

/-- The JTAG TAP (R79, R472): TRST_L asserted; the instruction in effect; the data register it selects, as bits from the least
significant; the boundary cells as last sampled and as preloaded. The pins it drives are those of the instruction in effect. -/
structure JtagSt where
  trst    : Bool
  ir      : JtagIr
  dr      : List Bool
  sampled : List Bool
  preload : List Bool
  deriving DecidableEq, Repr

/-- Why a step can stop with a fault. -/
inductive Fault where
  /-- Raised by the Basin commands whose operand is an address outside the 96 GB of R28: no such granule exists. Safe: the
  machine stops where the spec gives no access. -/
  | noSuchAddress (addr : Nat)
  deriving DecidableEq, Repr

/-- Why a step can refuse a command. -/
inductive Refusal where
  /-- Raised by the arms of `exec` that have no meaning yet. Safe: nothing is claimed of such a command. -/
  | notModelled (mnemonic : String)
  deriving DecidableEq, Repr

/-- The committed set of the reset values. -/
def CSet.reset : CSet := { regs := [], mode := 0#8, rung := 0, own := true }

def Clk.reset : Clk := { now := 0, devFine := 0, rate := 0, exitAt := 0, comp := 0 }

def LedSt.reset : LedSt :=
  { live := [], shadow := [], bank0 := CSet.reset, bank1 := CSet.reset, index := false, kept := none, snapRing := [], snapI2c := [] }

def EvtSt.reset : EvtSt :=
  { pending := [], ninth := none, ring := [], rseq := 0, gapNext := false, dropPound := 0, dropTotal := 0, limited := [] }

def LockSt.reset : LockSt :=
  { running := false, phase := .idle, pound := 0, everOpened := false, nextPound := 0, closeAt := 0, lead := 500,
    window := 250, frozen := CSet.reset, changed := false, want := 0, got := 0, veto := 0, vetoFirst := 0, sent := [],
    stagedBy := [], lastNs := 0, retry := 0, outcome := .applied, apply := false, await := [], holdQ := [], discardReq := false,
    missDue := false, misses := List.replicate 20 0, forceDue := [], touched := 0#8, iset := 0#8, iclr := 0#8, streamReqs := [],
    gpioCount := List.replicate 16 0, gpioSeen := 0, gpioAcc := 0, gpioPrev := 0, gpioAccAt := List.replicate 16 0,
    forceMask := 0#8, originTent := 0, originNew := 0, recover := [], sets := [] }

def Straps.reset : Straps := { pairUp := false, pairDown := false, bootBank := false, addr0 := false, addr1 := false, testEn := false }

def PwrSt.reset : PwrSt :=
  { phase := .porHeld, porLow := true, tripped := 0, rails := false, cold := true, brace := none, up := 0, upQ := [], downQ := [],
    slot := none, retried := [], marked := [], resetOut := true, fault := true, faultHeld := false, therm := false, straps := Straps.reset }

def ImgHeader.reset : ImgHeader :=
  { keySlot := 0, length := 0, version := 0, epoch := 0, raise := false, revoke := false, calUse := false, recOff := 0,
    recLen := 0, tblOff := 0, tblCnt := 0, manOff := 0, manCnt := 0, sigOff := 0, mhz := 0, dummy := 0, tppUs := 0,
    tseMs := 0, tbeMs := 0, tsusUs := 0 }

/-- OTP as this model has it before the factory's programming is given (log entry 10: the spec gives no contents). -/
def Otp.blank : Otp := { slots := [[], [], [], []], revoked := 0, epoch := 0, uid := 0, mac := 0, devKey := [], devPub := [] }

/-- The bus as a reset exit leaves it (R87): 1S-1S-1S at 25 MHz. -/
def XspiBus.reset : XspiBus := { octal := false, mhz := 25, dummy := 0, lowTill := 0 }

def ImgSt.reset : ImgSt :=
  { bus := XspiBus.reset, flash := [], size := 0x4000000, otp := Otp.blank, load := .off, bank := 0, second := false, marks := 0,
    hdr := ImgHeader.reset, manifest := [], tables := [], recs := none, torn := 0, trained := false, weirStep := false, timeStep := false,
    panelStep := false, readyAt := none, otpDue := false, updBuf := [], updDone := 0, updGen := 0, job := none, jobs := [],
    suspend := false }

def RingPort.reset : RingPort := { arriving := [], ins := [], loc := [], wire := none, busy := 0, link := 0 }

def RingSt.reset : RingSt :=
  { ports := [RingPort.reset, RingPort.reset], weirOpen := false, training := none, retryFrom := none, loopBad := false, rx := [], ptp := [],
    queries := [], mgmt := [], tagBad := [0, 0], fecBad := [0, 0], dropEgr := [0, 0], skipTc := [0, 0] }

def TimeSt.reset : TimeSt :=
  { masters := [], master := none, syncAt := [0, 0], syncHop := [0, 0], syncInt := 0, portSet := false, portSeq := none, pend := none,
    req := none, reqSeq := 0, reqInt := 0, sm := none, path := none, integ := 0, ff := 0, offset := 0, inRun := 0, outRun := 0,
    step := none, launches := [], nextL := 0, armed := false, armedAt := 0, heldBack := false, replica := 0, pulses := [] }

def SceneSlot.reset : SceneSlot :=
  { cur := none, pend := none, geom := [], lists := [], draw := [], drawAt := 0, maps := [], extra := [],
    refused := [] }

def StrmSt.reset : StrmSt :=
  { chans := [], ready := [], slots := [SceneSlot.reset, SceneSlot.reset], plan := [],
    late := [], released := [], seen := [] }

def SecSt.reset : SecSt := { halves := [], queue := [] }

def DecSt.reset : DecSt :=
  { queue := [], ctxs := [], cache := [], cores := List.replicate 16 none, pics := [], done := [], ended := [], time := [] }

def CompSt.reset : CompSt :=
  { plans := [], hist := [], cur := none, bufs := [], taps := [], gen := 0, results := [], above := 0, below := 0, rungReq := 0,
    gov := 0, rungDue := false, counts := [], guards := [], repeats := [], turn := 0, tcache := [], report := none, litCause := 5, reported := false,
    ownerEyes := [], holdExit := [] }

def TugSt.reset : TugSt := { cards := [], queue := [], updates := [], aborted := [], px := 0, skip := [] }

def ScanSt.reset : ScanSt :=
  { kind := .idle, shadow := .idle, slot := 0, shown := 0, bank := CSet.reset, start := 0, zeroAt := none, heads := List.replicate 48 0, preAbort := none, active := false, abort := none, endCode := none, keep := none,
    fcnt := 0, pre := 0, prev := List.replicate 8 none, judged := [], ownIn := false, ownOut := false, owned := false, blocked := false,
    waiting := none, panel := none }

def StackSt.reset : StackSt := { failed := false, seed := [], track := [], repaired := [], retries := 0, onDie := 0 }

def BasinSt.reset : BasinSt :=
  { mem := [], moors := [], fill := none, stk := List.replicate 4 StackSt.reset, seeds := [], retryFrom := none, bootHeld := false,
    selfref := false, exitFrom := none, scrubAt := 0, passes := 0, passFix := 0, ueAddr := false, ueSrc := false, ceCount := none, closeFree := 0, quarFull := false,
    refresh := [0, 0, 0, 0], flushes := List.replicate 20 0 }

def RxLock.reset : RxLock := { cand := 0, run := 0, seen := 0, bad := 0 }

/-- Main tap only and CTLE 8 (R322). The scale of the taps is not stated. [DESIGN CHOICE: log 135] -/
def RxEq.plain : RxEq := { ctle := 8, dfe := 0, ffe := [0, 0, 0, 64, 0, 0, 0, 0, 0, 0, 0, 0] }

def PrbsReg.reset : PrbsReg := { reg := 0, have_ := 0, run := 0 }

def PrbsChk.reset : PrbsChk := { plain := PrbsReg.reset, inv := PrbsReg.reset, seen := 0, errs := 0 }

def LaneSt.reset : LaneSt :=
  { lastSeq := none, status := [], wait := none, tries := 0, best := 0, inject := none, seed := none, training := false,
    seedCtle := none, eq := RxEq.plain, rx := RxLock.reset, asked := [0, 0, 0, 0], rxSt := 0, chk := PrbsChk.reset, gen := none,
    base := 0, seedNo := 0 }

def LanesSt.reset : LanesSt :=
  { lanes := [], enabledAt := none, scan := false, written := [[], [], [], []], asked := [[], [], [], []], trainSlot := 0, idleFrom := none,
    genSent := List.replicate 48 0, txSeed := 0, carry := none, since := 0, bcFrame := none }

def PanelSt.reset : PanelSt :=
  { enables := 0, discharge := false, code := 0, step := 0, since := 0, trainAt := 0, cause := 0, faulty := false, fast := none,
    retryAt := none, vinRounds := 0, wanted := false, ident := [], bounds := [], codes := [], startAt := 0, period := 0,
    tempFails := 0, deviate := 0, frozen := false, waves := false, crackOn := false, crackOut := false, misses := 0, matched := (false, false),
    card := [], blink := 0, blinkCfg := (0, 0), inHold := false }

def HkSt.reset : HkSt :=
  { zero := 0, refc := 2731, zeroNew := 0, refNew := 2731, misses := List.replicate 7 0, goods := List.replicate 7 0,
    downs := List.replicate 7 0, r := 255, noraise := 0, sinceFail := 1000, cool := 0, told := false }

def SensorSt.reset : SensorSt :=
  { phase := .off, stopDue := false, next := 0, frames := [], cci := [], delay := false, setId := 0, newSet := none, write := none,
    again := none, applied := [], bufs := [[], [], []], outOff := [false, false, false], deficit := 0 }

def CamSt.reset : CamSt :=
  { sensors := List.replicate 8 SensorSt.reset, turn := [none, none], bus := [none, none], pulseJ := 0, strobe := false, lit := false,
    pairs := List.replicate 4 { left := none, right := none, unlitL := none, unlitR := none, result := none } }

def EncStream.reset : EncStream :=
  { moors := none, count := 0, wait := none, cmdIdr := false, dueIdr := true, since := 0, pic := 0, shape := none, debt := 0,
    qp := none, ref := [], poc := 0, off := false, closing := false }

def EncSt.reset : EncSt := { streams := List.replicate 4 EncStream.reset, order := [], run := none, chans := [] }

def PairSt.reset : PairSt :=
  { own := true, ownT := none, hbOut := false, heard := false, missRun := 0, sinceHb := 3, hb := none,
    lockAt := [none, none, none, none], rxAt := [none, none, none, none], txSeq := 0, rxSeq := none, gaps := [],
    queue := [[], [], [], []], drained := [0, 0, 0, 0], past := [[], [], [], []], enabled := 0, out := [], sick := false, seals := [], theirs := [], matchRun := 0, missSeal := 0, lostOwn := 0,
    lostThem := 0, rapped := [], schedBad := false, take := none, yieldT := none, yieldAns := false, dropT := none, resync := none, ownMiss := 0,
    joinWait := false, snap := none, surfs := [], joined := none, frags := [], sentJ := none, surfQ := [], wants := [], fcntFix := none, kept := [] }

def LzSt.reset : LzSt :=
  { queues := [[], [], []], run := none, ctxs := List.replicate 3 { st := 0, hist := [], saved := none }, scratch := none, onDie := false, inRem := 0,
    outRem := 0 }

def MgmtSt.reset : MgmtSt :=
  { sessions := [none, none, none, none], lastSid := 0, answered := false, i2cPtr := 0, i2cNack := false, i2cOut := [],
    unlogged := [], logJob := [], lostPound := 0, logSector := none, logOff := 0 }

def JtagSt.reset : JtagSt := { trst := true, ir := .idcode, dr := [], sampled := [], preload := [] }


/-- The machine state. -/
structure State where
  clk     : Clk
  led     : LedSt
  evt     : EvtSt
  lock    : LockSt
  units   : List UnitSt
  pwr     : PwrSt
  img     : ImgSt
  ring    : RingSt
  time    : TimeSt
  strm    : StrmSt
  sec     : SecSt
  dec     : DecSt
  comp    : CompSt
  tug     : TugSt
  scan    : ScanSt
  basin   : BasinSt
  lanes   : LanesSt
  panel   : PanelSt
  hk      : HkSt
  cam     : CamSt
  enc     : EncSt
  pair    : PairSt
  lz      : LzSt
  mgmt    : MgmtSt
  jtag    : JtagSt
  /-- what the panel lanes have sent since lane enable, newest first, each with the block slot from which it was sent: the scramblers and precoders run
  on through it (R313, R314, R317) -/
  tx      : List (Nat × TxSrc)
  /-- how many open choices have been taken (the model's own field) -/
  choices : Nat
  /-- commands waiting, first in, first out -/
  pending : List Instr
  deriving DecidableEq, Repr

/-- The machine right after a cold reset, POR_L still asserted. [DESIGN CHOICE: log 7] -/
def State.reset : State :=
  { clk := Clk.reset, led := LedSt.reset, evt := EvtSt.reset, lock := LockSt.reset, units := [], pwr := PwrSt.reset,
    img := ImgSt.reset, ring := RingSt.reset, time := TimeSt.reset,
    strm := StrmSt.reset, sec := SecSt.reset,
    dec := DecSt.reset, comp := CompSt.reset, tug := TugSt.reset, scan := ScanSt.reset,
    basin := BasinSt.reset,
    lanes := LanesSt.reset, panel := PanelSt.reset, hk := HkSt.reset,
    cam := CamSt.reset,
    enc := EncSt.reset,
    pair := PairSt.reset,
    lz := LzSt.reset,
    mgmt := MgmtSt.reset,
    jtag := JtagSt.reset,
    tx := [],
    choices := 0, pending := [] }

end Sys2Proof.Machine
end

