-- ==== Sys2Proof/Machine/Ops.lean ====
section
/-! DEFINITION. The operations that every command is written with: the clock, reading and writing register fields, counters,
events, open choices, and reading committed settings. -/

namespace Sys2Proof.Machine

/-- The machine reaches instant `t`: device time advances by 1 − u × 2^-16 × 10^-9 per ns (R143). Time never runs back. [DESIGN CHOICE: log 2] -/
def Clk.tick (c : Clk) (slow : Bool) (t : Nat) : Clk :=
  if t ≤ c.now then c
  else
    { c with now := t, devFine := c.devFine + natOf (((t - c.now : Nat) : Int) * (65536 * 1000000000 - c.rate)),
             comp := c.comp + (t - c.now) * (if slow then 5 else 10) }

/-- `s` at instant `t`. [DESIGN CHOICE: log 2] -/
def State.tick (s : State) (t : Nat) : State := { s with clk := s.clk.tick s.pwr.brace.isSome t }

/-- Device time in 2^-16 ns. [DESIGN CHOICE: log 2] -/
def State.dev (s : State) : Nat := s.clk.devFine / 1000000000

/-- Device time in whole seconds (R4). -/
def State.devSec (s : State) : Nat := s.dev / (65536 * 1000000000)

/-- Nanoseconds of the second (R4). -/
def State.devNs (s : State) : Nat := s.dev / 65536 % 1000000000

/-- The open pound (TOP_POUND). -/
def State.pound (s : State) : Nat := s.lock.pound

/-- A live register field. -/
def State.rd (s : State) (f : Fld) : Nat := s.led.live.fld f

/-- A live word. -/
def State.rdW (s : State) (a : Nat) : Word := s.led.live.word a

/-- `s` with a live register file. -/
def State.setLive (s : State) (m : RegFile) : State := { s with led := { s.led with live := m } }

/-- `s` with a live field set. -/
def State.wr (s : State) (f : Fld) (v : Nat) : State := s.setLive (s.led.live.setFld f v)

/-- `s` with a live word set. -/
def State.wrW (s : State) (a : Nat) (w : Word) : State := s.setLive (s.led.live.setWord a w)

/-- Add to a counter that saturates at its field's largest value. -/
def State.add (s : State) (f : Fld) (n : Nat) : State := s.wr f (satN f.max (s.rd f + n))

/-- Count one in a saturating counter. -/
def State.inc (s : State) (f : Fld) : State := s.add f 1

/-- Count one in a counter that wraps. -/
def State.incWrap (s : State) (f : Fld) : State := s.wr f (s.rd f + 1)

/-- Raise a peak field to at least `v`, held to the field. -/
def State.peak (s : State) (f : Fld) (v : Nat) : State := s.wr f (max (s.rd f) (satN f.max v))

/-- The committed set in force: the bank the index names (R32). -/
def LedSt.committed (l : LedSt) : CSet := if l.index then l.bank1 else l.bank0

/-- The committed set in force. -/
def State.cset (s : State) : CSet := s.led.committed

/-- A committed field. -/
def State.cm (s : State) (f : Fld) : Nat := s.cset.regs.fld f

/-- A committed field read as a signed number. -/
def State.cmS (s : State) (f : Fld) : Int := signed (f.hi + 1 - f.lo) (s.cm f)

/-- The committed mode (TOP_MODE_ACT). -/
def State.mode (s : State) : BitVec 8 := s.cset.mode

/-- The committed set in force for pound `p` (R33): the one of the lock cycle that opened `p`, held in the units' banks; the
set now in force where none is held. -/
def State.setOf (s : State) (p : Nat) : CSet := (Sparse.find s.lock.sets p).getD s.cset

/-- A field of the bank of pound `p`. -/
def CSet.fld (c : CSet) (f : Fld) : Nat := c.regs.fld f

/-- The flags of a mode (R50). -/
def mFIELD : Nat := 0
def mDIRECT : Nat := 1
def mFLAT : Nat := 2
def mTRACK : Nat := 3
def mTALK : Nat := 4
def mSTANDBY : Nat := 5
def mPATTERN : Nat := 6
def mHOLD : Nat := 7

/-- Flag `f` of a mode. -/
def has (m : BitVec 8) (f : Nat) : Bool := m.getLsbD f

/-- A record raised (R445): it takes a free slot and the next RSEQ, or is dropped and counted. [DEDUCED: log 24] -/
def EvtSt.raise (e : EvtSt) (pound sec ns code block inst arg0 arg1 : Nat) : EvtSt :=
  if e.pending.length < 8 then
    let r : EvRec :=
      { pound := pound, sec := sec, ns := ns, code := code, block := block, inst := inst, rseq := e.rseq,
        arg0 := arg0 % 2 ^ 32, arg1 := arg1 % 2 ^ 32, gap := e.gapNext }
    { e with pending := e.pending ++ [r], rseq := (e.rseq + 1) % 65536, gapNext := false }
  else
    { e with gapNext := true, dropPound := e.dropPound + 1, dropTotal := satN 0xFFFFFFFF (e.dropTotal + 1) }

/-- Raise event `code` of a block's instance (0xFF: the block has one). [DEDUCED: log 153] -/
def State.raiseI (s : State) (code block inst arg0 arg1 : Nat) : State :=
  { s with evt := s.evt.raise s.lock.pound s.devSec s.devNs code block inst arg0 arg1 }

/-- Raise event `code` of a block with one instance. [DEDUCED: log 153] -/
def State.raise (s : State) (code block arg0 arg1 : Nat) : State := s.raiseI code block 0xFF arg0 arg1

/-- The event of `code` and key has been raised in this pound. -/
def EvtSt.wasRaised (e : EvtSt) (code key : Nat) : Bool := e.limited.any (fun p => p.1 == code && p.2 == key)

/-- Raise an event that the tables limit to once per pound for each key. -/
def State.raiseOnceI (s : State) (code block inst key arg0 arg1 : Nat) : State :=
  if s.evt.wasRaised code key then s
  else
    let s := s.raiseI code block inst arg0 arg1
    { s with evt := { s.evt with limited := (code, key) :: s.evt.limited } }

/-- Raise an event that the tables limit to once per pound for each key, of a block with one instance. -/
def State.raiseOnce (s : State) (code block key arg0 arg1 : Nat) : State := s.raiseOnceI code block 0xFF key arg0 arg1

/-- How often an event was raised in this pound, by any key. [DEDUCED: log 34] -/
def State.raisedCount (s : State) (code : Nat) : Nat := (s.evt.limited.filter (fun p => p.1 == code)).length

/-- The next open choice (a value nothing in the model fixes), and the state that has taken it. [DESIGN CHOICE: log 82] -/
def State.choose (s : State) : Bool × State := (Config.freeBit s.choices, { s with choices := s.choices + 1 })

/-- The next open number. [DESIGN CHOICE: log 82] -/
def State.chooseNat (s : State) : Nat × State := (Config.freeNat s.choices, { s with choices := s.choices + 1 })

/-- Do `f` where `c` holds. -/
def State.when (s : State) (c : Bool) (f : State → State) : State := if c then f s else s

/-- Do `f` for each element in order. -/
def State.each {α : Type} (s : State) (l : List α) (f : State → α → State) : State := l.foldl f s

/-- Opens until the window of an action ends (R47): the second lock cycle after it opens; a cycle that has closed and not yet opened
is none after it. -/
def LockSt.windowOpens (l : LockSt) : Nat := if l.phase = .level then 3 else 2

/-- A recovery window begins (R47): it runs to the open of the second lock cycle after the last action of its path. [DEDUCED: log 29] -/
def State.openWindow (s : State) (code : Nat) (busy : Bool) : State :=
  { s with lock := { s.lock with recover := s.lock.recover ++ [{ code := code, left := s.lock.windowOpens, busy := busy }] } }

/-- A fault detected (R48): within the recovery window of an earlier one the guarantee is void, and event 0x008 names the oldest fault whose
window runs and the new one. `busy`: the last action of its recovery path is still to come. [DEDUCED: log 29] -/
def State.noteFaultIn (s : State) (code : Nat) (busy : Bool) : State :=
  match s.lock.recover with
  | [] => s.openWindow code busy
  | r :: _ => ((s.openWindow code busy).wr F.TOP_STATUS_GUAR_VOID 1).raise 0x008 bTOP r.code code

/-- A fault whose recovery path acts at its detection. [DEDUCED: log 29] -/
def State.noteFault (s : State) (code : Nat) : State := s.noteFaultIn code false

/-- An action of the recovery path of fault `code`, where that fault's window runs: the window is counted from here. [DEDUCED: log 29] -/
def State.recoveryOf (s : State) (code : Nat) : State :=
  { s with lock := { s.lock with recover := s.lock.recover.map (fun r =>
      if r.code = code then { r with left := s.lock.windowOpens, busy := false } else r) } }

/-- A bit of TOP_ALERT set by the device (R455): a newly set bit raises event 0x025 and asserts the line again. -/
def State.alert (s : State) (f : Fld) : State :=
  if s.rd f = 1 then s
  else
    let s := (s.wr f 1).raise 0x025 bTOP (1 <<< f.lo) s.pound
    { s with mgmt := { s.mgmt with answered := false } }

/-- A unit instance; one that has no entry has acted on no token. -/
def unitOf (l : List UnitSt) (block inst : Nat) : UnitSt :=
  (l.find? (fun u => u.block == block && u.inst == inst)).getD
    { block := block, inst := inst, acted := none, reload := false, inq := [] }

/-- `l` with a unit instance replaced, added at the end where it had no entry. -/
def setUnit : List UnitSt → UnitSt → List UnitSt
  | [], u => [u]
  | v :: r, u => if v.block = u.block ∧ v.inst = u.inst then u :: r else v :: setUnit r u

/-- `s` with a unit instance changed. [DEDUCED: log 18] -/
def State.modUnit (s : State) (block inst : Nat) (f : UnitSt → UnitSt) : State :=
  { s with units := setUnit s.units (f (unitOf s.units block inst)) }

/-- Instances of each block that take the token and stage values: the rows of R50 and R73 that have several. -/
def instCount (block : Nat) : Nat :=
  if block = bDEC then 16
  else if block = bCOMP then 32
  else if block = bBASIN then 4
  else if block = bSCAN then 4
  else if block = bLANE then 60
  else if block = bCAM then 2
  else 1

/-- The power domains of a unit instance (R73); none for what is never switched. -/
def domainsOf (block inst : Nat) : List Nat :=
  if block = bBASIN then [inst]
  else if block = bRING then [44, 45]
  else if block = bDEC then [104 + inst]
  else if block = bCOMP then [120 + inst]
  else if block = bTUG then [51]
  else if block = bSCAN then [52 + inst]
  else if block = bLANE then
    [if inst < 48 then 56 + inst else if inst < 56 then 36 + (inst - 48) else 46 + (inst - 56)]
  else if block = bCAM then [154 + inst]
  else if block = bTRK then [156]
  else if block = bENC then [157, 158]
  else if block = bTOW then [46, 47, 48, 49]
  else if block = bLZ then [50]
  else []

/-- A domain is up. -/
def State.domUp (s : State) (d : Nat) : Bool := bitAt s.pwr.up d

/-- A unit instance is powered: every domain of it is up (a ring transport or towpath runs on any of its domains). -/
def State.unitUp (s : State) (block inst : Nat) : Bool :=
  let l := domainsOf block inst
  if block = bRING ∨ block = bTOW then l.any s.domUp else l.all s.domUp

/-- A block has a powered instance. -/
def State.blockUp (s : State) (block : Nat) : Bool := (List.range (instCount block)).any (fun i => s.unitUp block i)

/-- The powered instances of a block. -/
def State.upInsts (s : State) (block : Nat) : List Nat :=
  (List.range (instCount block)).filter (fun i => s.unitUp block i)

/-- A barge written into a unit's input crossing (R17, R41). -/
def State.pushBarge (s : State) (block inst tag work : Nat) : State :=
  s.modUnit block inst (fun u => { u with inq := u.inq ++ [{ tag := tag, work := work }] })

/-- A domain waits for its power-down or is in its power-down slot: its unit drains and takes no new work (R52, R74). -/
def PwrSt.leaving (p : PwrSt) (d : Nat) : Bool :=
  p.downQ.contains d || (match p.slot with | some sl => sl.dom == d && !sl.up | none => false)

/-- A unit instance takes new work: it is powered, has its banks, and no domain of it is being powered down (R44, R74). -/
def State.unitTakes (s : State) (block inst : Nat) : Bool :=
  s.unitUp block inst && !(unitOf s.units block inst).reload && !(domainsOf block inst).any s.pwr.leaving

/-- A unit instance that takes work has acted on the token of pound `p` (R43). -/
def State.unitAt (s : State) (block inst p : Nat) : Bool :=
  s.unitTakes block inst && (match (unitOf s.units block inst).acted with | some a => !laterPound p a | none => false)

/-- PAIR_ROLE as its two samples resolve it (R390): two low ones give 0 UNPAIRED, two high ones 1 side A, samples that follow the pull 2 side
B. [DESIGN CHOICE: log 157] -/
def Straps.pair (p : Straps) : Nat := if p.pairUp = p.pairDown then b2n p.pairUp else 2

/-- The device is paired (R57). -/
def State.paired (s : State) : Bool := s.pwr.straps.pair ≠ 0

/-- The device is out of reset. -/
def State.running (s : State) : Bool := s.pwr.phase == ResetPhase.run

/-- The limits of a power cap (R440): clusters and decoder cores. -/
def capLimits (cap : Nat) : Nat × Nat :=
  if 120 ≤ cap then (32, 16)
  else if 112 ≤ cap then (27, 14)
  else if 104 ≤ cap then (22, 13)
  else if 96 ≤ cap then (18, 11)
  else if 88 ≤ cap then (13, 10)
  else if 80 ≤ cap then (9, 8)
  else if 72 ≤ cap then (5, 6)
  else (1, 3)

/-- The pair runs hot (R393). -/
def State.hot (s : State) : Bool := s.paired && s.rd F.TOW_STATUS_HOT == 1

/-- The device owns the panel by a committed set (R310, R392): always, where it is unpaired. -/
def State.ownsBy (s : State) (c : CSet) : Bool := !s.paired || c.own

/-- FAULT_L is asserted and held; PAIR_HB_OUT is low meanwhile (R397). [DEDUCED: log 128] -/
def State.faultLow (s : State) : State :=
  { s with pwr := { s.pwr with fault := true, faultHeld := true }, pair := { s.pair with hbOut := false } }

/-- MAC address (R115). -/
def State.mac (s : State) : Nat := s.img.otp.mac

end Sys2Proof.Machine
end

