-- ==== Sys2Proof/Machine/Nvm.lean ====
section
/-! DEFINITION. The xSPI NOR and its program and erase sequencer (R88 to R91, R106 to R110). -/

namespace Sys2Proof.Machine

/-- What an unlisted flash byte reads as: erased. [DESIGN CHOICE: log 11] -/
def flashDefault (_ : Nat) : Byte := 0xFF#8

/-- Flash bytes `a` to `a + n - 1`. -/
def flashBytes (m : ByteMem) (a n : Nat) : List Byte := Sparse.getAll flashDefault m a n

/-- A little-endian flash word. -/
def flashLe (m : ByteMem) (a n : Nat) : Nat := le (flashBytes m a n)

/-- A programmed byte string (R107): every program of the sequencer follows the erase of its sector. -/
def flashProgram (m : ByteMem) (a : Nat) (d : List Byte) : ByteMem := Sparse.setAll flashDefault m a d

/-- An erased span. -/
def flashErase (m : ByteMem) (a n : Nat) : ByteMem := Sparse.clear m a n

/-- Start of a bank (R88): 0 A, 1 B. -/
def bankBase (b : Nat) : Nat := if b = 0 then 0x10000 else 0x1010000

/-- Start of a calibration copy (R88). -/
def calBase (c : Nat) : Nat := 0x2010000 + 0x80000 * c

/-- Start of the log (R88). -/
def logBase : Nat := 0x2110000

/-- A valid commit page of sector `k` (R90): SEQ, BANK, VERSION. -/
def commitPage (m : ByteMem) (k : Nat) : Option (Nat × Nat × Nat) :=
  let b := flashBytes m (0x1000 * k) 20
  if leAt b 0 4 = 0x54434D52 ∧ leAt b 8 1 ≤ 1 ∧ (crc32c (b.take 16)).toNat = leAt b 16 4 then
    some (leAt b 4 4, leAt b 8 1, leAt b 12 4)
  else none

/-- The latest valid commit page (R90): sector, SEQ, BANK. Each later valid page in sector order replaces the candidate unless
the candidate's SEQ is later than its SEQ. -/
def latestCommit (m : ByteMem) : Option (Nat × Nat × Nat) :=
  (List.range 16).foldl (fun c k =>
    match commitPage m k with
    | none => c
    | some (sq, b, _) =>
      match c with
      | none => some (k, sq, b)
      | some (k0, s0, b0) => if laterPound s0 sq then some (k0, s0, b0) else some (k, sq, b)) none

/-- The committed bank (R90, R91): bank A where no page is valid. -/
def committedBank (m : ByteMem) : Nat := match latestCommit m with | some (_, _, b) => b | none => 0

/-- The bytes of a commit page (R89). -/
def commitPageBytes (sq bank version : Nat) : List Byte :=
  let h := leBytes 4 0x54434D52 ++ leBytes 4 sq ++ leBytes 1 bank ++ leBytes 3 0 ++ leBytes 4 version
  h ++ leBytes 4 (crc32c h).toNat

/-- A valid calibration copy (R109): SEQ and contents. -/
def calCopy (m : ByteMem) (c : Nat) : Option (Nat × List Byte) :=
  let h := flashBytes m (calBase c) 16
  let n := leAt h 8 4
  if leAt h 0 4 = 0x4C414352 ∧ n ≤ 0x80000 - 16 then
    let d := flashBytes m (calBase c + 16) n
    if (crc32c d).toNat = leAt h 12 4 then some (leAt h 4 4, d) else none
  else none

/-- The copy that holds the latest valid SEQ (R109); copy 1 where neither SEQ is later than the other. [DESIGN CHOICE: log 130] -/
def latestCal (m : ByteMem) : Option (Nat × Nat × List Byte) :=
  match calCopy m 0, calCopy m 1 with
  | none, none => none
  | some (sq, d), none => some (0, sq, d)
  | none, some (sq, d) => some (1, sq, d)
  | some (s0, d0), some (s1, d1) => if laterPound s0 s1 then some (0, s0, d0) else some (1, s1, d1)

/-- The SEQ of a log sector with a valid header (R110). -/
def logSectorSeq (m : ByteMem) (i : Nat) : Option Nat :=
  let h := flashBytes m (logBase + 0x10000 * i) 16
  if leAt h 0 4 = 0x474F4C52 ∧ (crc32c (h.take 12)).toNat = leAt h 12 4 then some (leAt h 4 4) else none

/-- How many log sectors a flash of `size` bytes holds (R88). -/
def logSectors (size : Nat) : Nat := (size - logBase) / 0x10000

/-- The latest and the earliest valid log sectors, in the order of R3: index and SEQ; of SEQ values that R3 does not order the first in flash
order stands. [DESIGN CHOICE: log 130] -/
def logSpan (m : ByteMem) (n : Nat) : Option ((Nat × Nat) × (Nat × Nat)) :=
  (List.range n).foldl (fun c i =>
    match logSectorSeq m i with
    | none => c
    | some q =>
      match c with
      | none => some ((i, q), (i, q))
      | some (hi, lo) => some (if laterPound q hi.2 then (i, q) else hi, if laterPound lo.2 q then (i, q) else lo)) none

/-- The sectors with a valid header but `skip`, and the one of them with the earliest SEQ (R110). -/
def earliestLog (m : ByteMem) (n skip : Nat) : Option Nat :=
  ((List.range n).foldl (fun (c : Option (Nat × Nat)) i =>
    match logSectorSeq m i with
    | none => c
    | some q => if i = skip then c else match c with | none => some (i, q) | some lo => some (if laterPound lo.2 q then (i, q) else lo)) none).map Prod.fst

/-- The sector a new log sector takes and its SEQ (R110); `skip` is one whose write has failed twice (R107). [DEDUCED: log 52] -/
def nextLogSector (m : ByteMem) (n : Nat) (skip : Option Nat) : Nat × Nat :=
  let no := skip.getD n
  let sq := match logSpan m n with | none => 0 | some (hi, _) => poundAdd hi.2 1
  let free := (List.range n).find? (fun i => (logSectorSeq m i).isNone && i != no)
  match free with
  | some i => (i, sq)
  | none => ((earliestLog m n no).getD 0, sq)

/-- The header of a log sector (R110). -/
def logSectorHeader (sq : Nat) : List Byte :=
  let h := leBytes 4 0x474F4C52 ++ leBytes 4 sq ++ leBytes 4 0
  h ++ leBytes 4 (crc32c h).toNat

/-- Programs of a byte string, page by page of 256 bytes from `a`. -/
def pageOps (a : Nat) : List Byte → Nat → List NvmOp
  | [], _ => []
  | _ :: _, 0 => []
  | d :: r, fuel + 1 =>
    let n := 256 - a % 256
    { kind := 2, addr := a, data := (d :: r).take n } :: pageOps (a + n) ((d :: r).drop n) fuel

/-- The 64 KiB erases of a span. -/
def eraseOps (a n : Nat) : List NvmOp :=
  (List.range (ceilDiv n 0x10000)).map (fun i => { kind := 4, addr := a + 0x10000 * i, data := [] })

/-- Bytes an operation covers. -/
def NvmOp.span (o : NvmOp) : Nat := if o.kind = 3 then 0x1000 else if o.kind = 4 then 0x10000 else o.data.length

/-- The flash after an operation. -/
def NvmOp.apply (o : NvmOp) (m : ByteMem) : ByteMem :=
  if o.kind = 2 then flashProgram m o.addr o.data
  else if o.kind = 3 ∨ o.kind = 4 then flashErase m o.addr o.span
  else m

/-- Place in the order of service (R107); a recorded erase goes before any other write (R108), and the OTP before the flash. [DESIGN CHOICE: log 131] -/
def NvmWho.rank : NvmWho → Nat
  | .redo => 0
  | .orphan => 0
  | .otp => 1
  | .commit _ _ => 2
  | .save => 3
  | .cal _ _ => 3
  | .log _ _ => 4
  | .update _ => 5

/-- The first job of the smallest rank, and the rest. -/
def pickJob : List NvmJob → Option (NvmJob × List NvmJob)
  | [] => none
  | j :: r =>
    match pickJob r with
    | none => some (j, [])
    | some (k, q) => if k.who.rank < j.who.rank then some (k, j :: q) else some (j, r)

/-- Sectors of an update of `len` bytes (R104). -/
def updSectors (len : Nat) : Nat := ceilDiv len 0x10000

/-- The bank the update writes (R91): the one that is not running. -/
def State.inactiveBank (s : State) : Nat := 1 - s.img.bank

/-- The next flash operation of an update (R104): a page of the staging buffer whose sector is erased, else the next erase. -/
def State.updateOp (s : State) : Option NvmOp :=
  let st := s.rd F.IMG_UPD_STAT_STATE
  let len := s.rd F.IMG_UPD_LEN_LENGTH
  let off := s.rd F.IMG_UPD_OFF_OFF
  let erased := s.rd F.IMG_UPD_STAT_ERASED
  let base := bankBase s.inactiveBank
  if st = 1 then
    if s.img.updBuf ≠ [] ∧ (256 ≤ s.img.updBuf.length ∨ off = len) ∧ s.img.updDone / 0x10000 < erased then
      some { kind := 2, addr := base + s.img.updDone, data := s.img.updBuf.take 256 }
    else if erased < updSectors len then some { kind := 4, addr := base + 0x10000 * erased, data := [] }
    else none
  else none

/-- The registers that show the operation in progress; an OTP bit has no flash address. Where no write runs, the read-back of an update is
the operation (R104), from the start of the inactive bank. [DESIGN CHOICE: log 133] -/
def State.showNvm (s : State) : State :=
  match s.img.job with
  | some { who := _, ops := o :: _, retry := _, data := _ } =>
    let s := (s.wr F.IMG_NVM_STAT_OP o.kind).wr F.IMG_NVM_STAT_BUSY 1
    if o.kind = 5 then s else s.wr F.IMG_NVM_ADDR_ADDR o.addr
  | _ =>
    if s.rd F.IMG_UPD_STAT_STATE = 2 then
      ((s.wr F.IMG_NVM_STAT_OP 1).wr F.IMG_NVM_STAT_BUSY 1).wr F.IMG_NVM_ADDR_ADDR (bankBase s.inactiveBank)
    else (s.wr F.IMG_NVM_STAT_OP 0).wr F.IMG_NVM_STAT_BUSY 0

/-- The table directory and tables of a calibration copy (R109): offsets from the start of the contents. [DESIGN CHOICE: log 49] -/
def calContents (tables : List ((Nat × Nat) × List Byte)) : List Byte :=
  let ts := tables.filter (fun t => t.1.1 = 6 ∨ t.1.1 = 7 ∨ t.1.1 = 8)
  let pad (l : List Byte) : List Byte := l ++ List.replicate ((16 - l.length % 16) % 16) 0#8
  let r := ts.foldl (fun (acc : List Byte × List Byte × Nat) t =>
    let (dir, body, off) := acc
    let d := t.2
    let e := leBytes 2 t.1.1 ++ leBytes 2 t.1.2 ++ leBytes 4 off ++ leBytes 4 d.length ++ leBytes 4 (crc32c d).toNat
    (dir ++ e, body ++ pad d, off + (pad d).length)) ([], [], 16 * ts.length)
  r.1 ++ r.2.1

/-- The work that writes the contents `d` into calibration copy `c` with `sq` (R109). -/
def calJobOf (c sq : Nat) (d : List Byte) : NvmJob :=
  let data := leBytes 4 0x4C414352 ++ leBytes 4 sq ++ leBytes 4 d.length ++ leBytes 4 (crc32c d).toNat ++ d
  { who := .cal c sq, ops := eraseOps (calBase c) data.length ++ pageOps (calBase c) data 4096, retry := false, data := d }

/-- A calibration save of the contents `d` that starts now (R109): the copy that does not hold the latest valid SEQ is written, copy 0 with SEQ 0
where neither is valid. -/
def calSaveJob (m : ByteMem) (d : List Byte) : NvmJob :=
  match latestCal m with
  | none => calJobOf 0 0 d
  | some (c, sq, _) => calJobOf (1 - c) (poundAdd sq 1) d

/-- A work as it starts: a calibration save takes its copy and SEQ then. -/
def NvmJob.start (j : NvmJob) (m : ByteMem) : NvmJob := if j.who = .save then calSaveJob m j.data else j

/-- Start the next pending work (R107), unless an operation is in progress, a brace blocks it (R108) or the device is in reset. -/
def State.nvmStart (s : State) : State :=
  if s.img.job.isSome ∨ s.pwr.brace.isSome ∨ s.pwr.phase ≠ .run ∨ s.img.load = .imageFail then s
  else
    match pickJob s.img.jobs with
    | some (j, r) => State.showNvm { s with img := { s.img with job := some (j.start s.img.flash), jobs := r } }
    | none =>
      match s.updateOp with
      | some o =>
        State.showNvm { s with img := { s.img with job := some { who := .update s.img.updGen, ops := [o], retry := false, data := [] } } }
      | none => s

/-- Queue a work and start it when the sequencer is free. -/
def State.nvmQueue (s : State) (j : NvmJob) : State :=
  State.nvmStart { s with img := { s.img with jobs := s.img.jobs ++ [j] } }

/-- Work is queued or under way for which `p` holds. -/
def State.nvmHas (s : State) (p : NvmWho → Bool) : Bool :=
  s.img.jobs.any (fun j => p j.who) || (match s.img.job with | some j => p j.who | none => false)

/-- The state of the update moves, with event 0x304 (R104). -/
def State.updState (s : State) (st arg1 : Nat) : State := (s.wr F.IMG_UPD_STAT_STATE st).showNvm.raise 0x304 bIMG st arg1

/-- The update fails with a cause. -/
def State.updFail (s : State) (cause : Nat) : State :=
  let s := { s with img := { s.img with updBuf := [] } }
  (s.wr F.IMG_UPD_STAT_CAUSE cause).updState 6 cause

/-- The job of a commit that names `bank` (R106). -/
def commitJob (m : ByteMem) (bank : Nat) : NvmJob :=
  let (k, sq) := match latestCommit m with
    | none => (0, 0)
    | some (k, sq, _) => ((k + 1) % 16, poundAdd sq 1)
  let v := flashLe m (bankBase bank + 0x10) 4
  { who := .commit sq bank,
    ops := [{ kind := 3, addr := 0x1000 * k, data := [] },
            { kind := 2, addr := 0x1000 * k, data := commitPageBytes sq bank v }], retry := false, data := commitPageBytes sq bank v }

/-- The job of a log block of `data` (R110, R458): in the sector in use, or in a new one when it does not fit. A block that is longer than the
rest of a whole sector is programmed on into the next one, which is not erased for it. [DEDUCED: log 52; DESIGN CHOICE: log 154] -/
def State.logJobOf (s : State) (first count : Nat) (data : List Byte) (skip : Option Nat) : NvmJob × Nat × Nat :=
  let n := logSectors s.img.size
  let fits := match s.mgmt.logSector with
    | some i => if s.mgmt.logOff + data.length ≤ 0x10000 then some i else none
    | none => none
  match fits with
  | some i =>
    ({ who := .log first count, ops := pageOps (logBase + 0x10000 * i + s.mgmt.logOff) data 1024, retry := false, data := data },
      i, s.mgmt.logOff + data.length)
  | none =>
    let (i, q) := nextLogSector s.img.flash n skip
    let a := logBase + 0x10000 * i
    ({ who := .log first count,
       ops := { kind := 4, addr := a, data := [] } :: { kind := 2, addr := a, data := logSectorHeader q } ::
         pageOps (a + 16) data 1024, retry := false, data := data }, i, 16 + data.length)

/-- What a finished work does. -/
def State.nvmFinish (s : State) (who : NvmWho) : State :=
  match who with
  | .commit sq bank =>
    let s := (s.raise 0x305 bIMG sq bank).wr F.IMG_COMMIT_SEQ_SEQ sq
    let s := s.wr F.IMG_STATUS_PENDING (b2n (bank ≠ s.img.bank))
    let s := { s with img := { s.img with torn := clearBit s.img.torn bank } }
    s.updState 5 (s.rd F.IMG_UPD_OFF_OFF)
  | .save => s
  | .cal c sq => s.raise 0x308 bIMG c sq
  | .log first count =>
    let s := s.inc F.TOP_LOG_CNT_BLOCKS
    let s := s.wr F.TOP_LOG_STAT_LAST ((first + count + 65535) % 65536)
    { s with mgmt := { s.mgmt with logJob := [] } }
  | .redo => s.wr F.IMG_NVM_STAT_ERASE_PEND 0
  | .orphan => s
  | .update _ => s
  | .otp => s.raise 0x309 bIMG s.img.otp.epoch s.img.otp.revoked

/-- A log job goes to sector `i`, which is then filled up to `off`. [DEDUCED: log 52] -/
def State.relog (s : State) (j : NvmJob) (i off : Nat) : State :=
  { s with mgmt := { s.mgmt with logSector := some i, logOff := off }, img := { s.img with jobs := s.img.jobs ++ [j] } }

/-- What the second failure of an operation does (R107). That a commit's takes STATE to FAILED with cause 13, that a recorded erase is then
given up, and what an OTP bit's does are not in the rules. [DESIGN CHOICE: log 132] -/
def State.nvmGiveUp (s : State) (j : NvmJob) : State :=
  match j.who with
  | .commit _ _ => s.updFail 13
  | .update g => if g = s.img.updGen ∧ s.rd F.IMG_UPD_STAT_STATE = 1 then s.updFail 13 else s
  | .save => s
  | .cal c sq => { s with img := { s.img with jobs := calJobOf (1 - c) sq j.data :: s.img.jobs } }
  | .log first count =>
    let bad := s.mgmt.logSector
    let s := { s with mgmt := { s.mgmt with logSector := none } }
    let r := s.logJobOf first count j.data bad
    s.relog r.1 r.2.1 r.2.2
  | .redo => s.wr F.IMG_NVM_STAT_ERASE_PEND 0
  | .orphan => s
  | .otp => s

/-- An operation of an update moves it on (R104). -/
def State.nvmProgress (s : State) (who : NvmWho) (o : NvmOp) : State :=
  match who with
  | .update g =>
    if g ≠ s.img.updGen ∨ s.rd F.IMG_UPD_STAT_STATE ≠ 1 then s
    else if o.kind = 4 then s.wr F.IMG_UPD_STAT_ERASED (s.rd F.IMG_UPD_STAT_ERASED + 1)
    else { s with img := { s.img with updBuf := s.img.updBuf.drop 256, updDone := s.img.updDone + o.data.length } }
  | _ => s

/-- OTP after an operation: the bit at its address is programmed (R100), of the epoch the next of the thermometer, of the revoke bits that of
its slot. -/
def Otp.program (x : Otp) (o : NvmOp) : Otp :=
  if o.kind ≠ 5 then x
  else if o.addr < 64 then { x with epoch := min 64 (x.epoch + 1) }
  else { x with revoked := (x.revoked ||| 2 ^ (o.addr - 64)) % 16 }

/-- The operation of a work has ended: flash and OTP hold its effect. -/
def ImgSt.applied (i : ImgSt) (o : NvmOp) : ImgSt := { i with flash := o.apply i.flash, otp := i.otp.program o, suspend := false }

/-- The operation in progress has failed (R107): event 0x306; tried once more, during a brace once the brace has ended (R108), then given up. -/
def State.nvmFailed (s : State) (j : NvmJob) (o : NvmOp) : State :=
  let s := s.raise 0x306 bIMG o.kind o.addr
  let s := { s with img := { s.img with suspend := false } }
  let s := s.wr F.IMG_NVM_STAT_SUSPENDED 0
  if j.retry then
    let s := State.showNvm { s with img := { s.img with job := none } }
    (s.nvmGiveUp j).nvmStart
  else if s.pwr.brace.isSome ∨ s.pwr.phase ≠ .run then
    State.showNvm { s with img := { s.img with job := none, jobs := { j with retry := true } :: s.img.jobs } }
  else { s with img := { s.img with job := some { j with retry := true } } }

/-- An operation completes and is read back (R107): equal, or not. -/
def State.nvmDone (s : State) (same : Bool) : State :=
  match s.img.job with
  | none => s
  | some j =>
    match j.ops with
    | [] => State.nvmStart { s with img := { s.img with job := none } }
    | o :: rest =>
      if same then
        let s := { s with img := s.img.applied o }
        let s := (s.wr F.IMG_NVM_STAT_SUSPENDED 0).nvmProgress j.who o
        match rest with
        | [] =>
          let s := State.showNvm { s with img := { s.img with job := none } }
          (s.nvmFinish j.who).nvmStart
        | _ :: _ =>
          let s := { s with img := { s.img with job := none, jobs := { j with ops := rest, retry := false } :: s.img.jobs } }
          s.showNvm.nvmStart
      else s.nvmFailed j o

/-- A program or erase exceeds its time (R107). -/
def State.nvmTimeout (s : State) : State :=
  match s.img.job with
  | some { who := _, ops := o :: _, retry := _, data := _ } => if o.kind = 1 then s else s.nvmDone false
  | _ => s

/-- A brace begins (R108): an erase in progress is told to suspend. -/
def State.nvmBrace (s : State) : State :=
  match s.img.job with
  | some { who := _, ops := o :: _, retry := _, data := _ } =>
    if o.kind = 3 ∨ o.kind = 4 then { s with img := { s.img with suspend := true } } else s
  | _ => s

/-- A suspended erase is resumed (R108). -/
def State.nvmResume (s : State) : State :=
  if s.img.suspend ∧ s.rd F.IMG_NVM_STAT_SUSPENDED = 1 then
    let s := (s.wr F.IMG_NVM_STAT_SUSPENDED 0).raise 0x307 bIMG (s.rd F.IMG_NVM_ADDR_ADDR) 1
    { s with img := { s.img with suspend := false } }
  else s

/-- The erase reports its suspension (R108); where the brace has ended meanwhile it is resumed. -/
def State.nvmSuspended (s : State) : State :=
  if s.img.suspend then
    let s := s.wr F.IMG_NVM_STAT_SUSPENDED 1
    if s.pwr.brace.isSome then s else s.nvmResume
  else s

/-- What a reset does to the sequencer (R81, R105, R108): a program runs on, and is torn where the always-on domain itself fails (`lost`), so
that it reads as not made; an erase is suspended and recorded, and the sector it cut reads as erased, no format valid; an OTP bit being
programmed is not; pending work is lost. [DEDUCED: log 51; DESIGN CHOICE: log 133] -/
def ImgSt.nvmReset (i : ImgSt) (lost : Bool) : ImgSt :=
  match i.job with
  | some { who := _, ops := o :: _, retry := _, data := _ } =>
    if o.kind = 2 ∧ ¬ lost then { i with job := some { who := .orphan, ops := [o], retry := true, data := [] }, jobs := [], suspend := false }
    else if o.kind = 3 ∨ o.kind = 4 then { i with flash := flashErase i.flash o.addr o.span, job := none, jobs := [], suspend := false }
    else { i with job := none, jobs := [], suspend := false }
  | _ => { i with job := none, jobs := [], suspend := false }

/-- The banks whose update a reset loses (R105): RECEIVING, VERIFYING and VERIFIED mark the inactive bank. -/
def State.tornBy (s : State) : Nat :=
  let st := s.rd F.IMG_UPD_STAT_STATE
  if 1 ≤ st ∧ st ≤ 3 then orBit s.img.torn s.inactiveBank else s.img.torn

/-- The erase a reset records (R108): kind and sector address. [DEDUCED: log 51] -/
def ImgSt.erasing (i : ImgSt) : Option NvmOp :=
  match i.job with
  | some { who := _, ops := o :: _, retry := _, data := _ } => if o.kind = 3 ∨ o.kind = 4 then some o else none
  | _ => none

end Sys2Proof.Machine
end

