-- ==== Sys2Proof/Machine/Power.lean ====
section
/-! DEFINITION. Supply monitors, the brace and the flight of the power domains (R67 to R85), as far as no other block takes
part. -/

namespace Sys2Proof.Machine

/-- Number of switched domains (R73). -/
def domCount : Nat := 159

/-- Domains powered in every mode (R51): Basin slices, ring lanes and transport, towpath lanes, compression engine, scan-out
quarters, panel lanes. -/
def alwaysDomain (d : Nat) : Bool := d < 4 || (36 ≤ d && d ≤ 50) || (52 ≤ d && d ≤ 103)

/-- Domains powered in every mode without HOLD (R51): HBM PHY pairs and the tug. -/
def noHoldDomain (d : Nat) : Bool := (4 ≤ d && d ≤ 35) || d == 51

/-- A domain's bit of PWR_DOM_FAIL. -/
def State.domFailed (s : State) (d : Nat) : Bool := bitAt (s.rdW (R.PWR_DOM_FAIL (d / 32))).toNat (d % 32)

/-- The smallest element. -/
def minOf : List Nat → Option Nat
  | [] => none
  | a :: r => match minOf r with | none => some a | some b => some (min a b)

/-- The largest element. -/
def maxOf : List Nat → Option Nat
  | [] => none
  | a :: r => match maxOf r with | none => some a | some b => some (max a b)

/-- A power-up request (R76, R77): it removes a pending power-down; a domain that is up, going up or held off takes none. A slot whose
attempt has failed powers nothing up. -/
def PwrSt.reqUp (p : PwrSt) (failed : Bool) (d : Nat) : PwrSt :=
  let p := { p with downQ := p.downQ.filter (· ≠ d) }
  let goingUp : Bool := match p.slot with | some sl => sl.dom == d && sl.up && !sl.failed | none => false
  let goingDown : Bool := match p.slot with | some sl => sl.dom == d && !sl.up | none => false
  if failed ∨ goingUp ∨ (bitAt p.up d ∧ ¬ goingDown) ∨ p.upQ.contains d then p
  else { p with upQ := d :: p.upQ }

/-- A power-down request (R76): it removes a pending power-up, with the retry that it may be, so that the attempt of the next request is a
fresh one (R77). A slot whose attempt has failed has nothing to power down. -/
def PwrSt.reqDown (p : PwrSt) (d : Nat) : PwrSt :=
  let p := if p.upQ.contains d then { p with upQ := p.upQ.filter (· ≠ d), retried := p.retried.filter (· ≠ d) } else p
  let goingUp : Bool := match p.slot with | some sl => sl.dom == d && sl.up && !sl.failed | none => false
  let goingDown : Bool := match p.slot with | some sl => sl.dom == d && !sl.up | none => false
  if goingDown ∨ p.downQ.contains d ∨ ¬ (bitAt p.up d ∨ goingUp) then p
  else { p with downQ := d :: p.downQ }

/-- The sequencer takes its next request (R74): the pending power-up of the lowest number, else the pending power-down of the
highest; nothing while a slot runs or a brace stops it. -/
def PwrSt.take (p : PwrSt) : PwrSt :=
  if p.slot.isSome ∨ p.brace.isSome then p
  else
    match minOf p.upQ with
    | some d => { p with upQ := p.upQ.filter (· ≠ d), slot := some { dom := d, up := true, good := false, failed := false } }
    | none =>
      match maxOf p.downQ with
      | some d =>
        { p with downQ := p.downQ.filter (· ≠ d), slot := some { dom := d, up := false, good := false, failed := false } }
      | none => p

/-- Ask for a domain's power-up. -/
def State.reqUp (s : State) (d : Nat) : State := { s with pwr := s.pwr.reqUp (s.domFailed d) d }

/-- Ask for a domain's power-down. -/
def State.reqDown (s : State) (d : Nat) : State :=
  State.when { s with pwr := s.pwr.reqDown d } (s.pwr.upQ.contains d && s.pwr.retried.contains d) (fun s => s.recoveryOf 0x103)

/-- Let an idle sequencer start. -/
def State.flightKick (s : State) : State := { s with pwr := s.pwr.take }

/-- The unit instances whose domain `d` is. -/
def unitsOfDomain (d : Nat) : List (Nat × Nat) :=
  if d < 4 then [(bBASIN, d)]
  else if d < 36 then []
  else if d < 44 then [(bLANE, 48 + (d - 36))]
  else if d < 46 then [(bRING, 0)]
  else if d < 50 then [(bLANE, 56 + (d - 46)), (bTOW, 0)]
  else if d = 50 then [(bLZ, 0)]
  else if d = 51 then [(bTUG, 0)]
  else if d < 56 then [(bSCAN, d - 52)]
  else if d < 104 then [(bLANE, d - 56)]
  else if d < 120 then [(bDEC, d - 104)]
  else if d < 152 then [(bCOMP, d - 120)]
  else if d < 154 then []
  else if d < 156 then [(bCAM, d - 154)]
  else if d = 156 then [(bTRK, 0)]
  else if d < 159 then [(bENC, 0)]
  else []

/-- A unit instance loses its banks and must reload them from the commit store (R44): until then it takes no barge. -/
def State.startReload (s : State) (block inst : Nat) : State :=
  s.modUnit block inst (fun u => { u with reload := true })

/-- The reload ends (R44): the banks hold the sets of the pounds up to the newest token. -/
def State.endReload (s : State) (block inst : Nat) : State :=
  if (unitOf s.units block inst).reload then
    let s := s.modUnit block inst (fun u => { u with reload := false, acted := if s.lock.everOpened then some s.pound else u.acted })
    s.raiseI 0x004 bTOP inst block s.pound
  else s

/-- A domain in its power-up slot reports power-good (R74): its clocks are ungated and its banks load. -/
def State.powerGood (s : State) : State :=
  match s.pwr.slot with
  | some sl =>
    if sl.up ∧ ¬ sl.failed then
      let s := { s with pwr := { s.pwr with slot := some { sl with good := true } } }
      s.each (unitsOfDomain sl.dom) (fun s u => s.startReload u.1 u.2)
    else s
  | none => s

/-- A domain does not report power-good within 15 µs (R77): off, and retried once in the next free slot; then held off. The retry is a
pending power-up like any other; the domains named in R51 are those of its first two sentences. [DEDUCED: log 128] -/
def State.powerTimeout (s : State) : State :=
  match s.pwr.slot with
  | some sl =>
    if sl.up ∧ ¬ sl.good ∧ ¬ sl.failed then
      let s := { s with pwr := { s.pwr with slot := some { sl with failed := true } } }
      if s.pwr.retried.contains sl.dom then
        let s := (s.raise 0x103 bPWR sl.dom 2).recoveryOf 0x103
        let s := { s with pwr := { s.pwr with retried := s.pwr.retried.filter (· ≠ sl.dom) } }
        let a := R.PWR_DOM_FAIL (sl.dom / 32)
        let s := s.wrW a (BitVec.ofNat 32 (orBit (s.rdW a).toNat (sl.dom % 32)))
        if alwaysDomain sl.dom ∨ noHoldDomain sl.dom then s.faultLow else s
      else
        let s := (s.raise 0x103 bPWR sl.dom 1).noteFaultIn 0x103 true
        { s with pwr := { s.pwr with retried := sl.dom :: s.pwr.retried, upQ := sl.dom :: s.pwr.upQ } }
    else s
  | none => s

/-- The running slot ends (R74): the domain counts as up, or is off; the next slot starts unless a brace stops it. -/
def State.slotEnd (s : State) : State :=
  match s.pwr.slot with
  | none => s
  | some sl0 =>
    let s := if sl0.up ∧ ¬ sl0.good ∧ ¬ sl0.failed then s.powerTimeout else s
    match s.pwr.slot with
    | none => s
    | some sl =>
      let s :=
        if sl.up then
          if sl.good then
            let s := s.when (s.pwr.retried.contains sl.dom) (fun s => s.recoveryOf 0x103)
            let s := { s with pwr := { s.pwr with up := orBit s.pwr.up sl.dom, retried := s.pwr.retried.filter (· ≠ sl.dom), slot := none } }
            s.each (unitsOfDomain sl.dom) (fun s u => if s.unitUp u.1 u.2 then s.endReload u.1 u.2 else s)
          else { s with pwr := { s.pwr with slot := none } }
        else { s with pwr := { s.pwr with up := clearBit s.pwr.up sl.dom, slot := none } }
      s.flightKick

/-- A warning comparator trips (R82, R83): a brace begins, or is extended; the pound open at it, if one is, is marked. -/
def State.warnTrip (s : State) (mon : Nat) : State :=
  if 18 ≤ mon then s
  else
    let s := s.wr F.PWR_MON_LIVE_WARN (orBit (s.rd F.PWR_MON_LIVE_WARN) mon)
    let s := s.wr F.PWR_MON_SEEN_WARN (orBit (s.rd F.PWR_MON_SEEN_WARN) mon)
    if s.pwr.phase ≠ .run then s
    else
      match s.pwr.brace with
      | none =>
        let open_ := if s.lock.everOpened then [s.pound] else []
        let b : Brace := { since := s.clk.now, mask := orBit 0 mon, trips := orBit 0 mon, raised := false, pounds := open_ }
        let s := { s with pwr := { s.pwr with brace := some b, marked := (open_ ++ s.pwr.marked).take 16 } }
        ((s.inc F.PWR_BRACE_CNT_COUNT).nvmBrace).noteFaultIn 0x101 true
      | some b =>
        let m := if b.raised ∨ b.since + 200 < s.clk.now then b.mask else orBit b.mask mon
        { s with pwr := { s.pwr with brace := some { b with mask := m, trips := orBit b.trips mon } } }

/-- The 200 ns window after the first trip closes (R83). -/
def State.braceEvent (s : State) : State :=
  match s.pwr.brace with
  | some b =>
    if b.raised then s
    else ({ s with pwr := { s.pwr with brace := some { b with raised := true } } } : State).raise 0x101 bPWR b.mask s.pound
  | none => s

/-- The brace ends (R82): event 0x102, clocks at full rate, suspended erase resumed, sequencers started. -/
def State.braceEnd (s : State) : State :=
  match s.pwr.brace with
  | none => s
  | some b =>
    let us := (s.clk.now - b.since) / 1000
    let s := { s with pwr := { s.pwr with brace := none } }
    let s := (s.wr F.PWR_MON_LIVE_WARN 0).raise 0x102 bPWR us b.pounds.length
    let s := (s.wr F.PWR_BRACE_LAST_DUR_US (satN 0xFFFFFFFF us)).recoveryOf 0x101
    s.nvmResume.nvmStart.flightKick

/-- A rail stays above nominal × 1.05 for 1 µs (R84). -/
def State.overvolt (s : State) (mon : Nat) : State :=
  if 18 ≤ mon then s
  else (s.wr F.PWR_MON_OV_OV (orBit (s.rd F.PWR_MON_OV_OV) mon)).raise 0x104 bPWR (orBit 0 mon) s.pound

/-- A pound opens during a brace: it is marked (R82). -/
def PwrSt.markPound (p : PwrSt) (pound : Nat) : PwrSt :=
  match p.brace with
  | none => p
  | some b => { p with brace := some { b with pounds := b.pounds ++ [pound] }, marked := (pound :: p.marked).take 16 }

end Sys2Proof.Machine
end

