-- ==== Sys2Proof/Machine/Receive.lean ====
section
/-! DEFINITION. The receivers of the serial lanes: block lock (R319), the figure of merit (R321), the equaliser and its adaptation
(R320, R322). -/

namespace Sys2Proof.Machine

/-- A table of the image (R97). -/
def State.table (s : State) (ty inst : Nat) : Option (List Byte) := (s.img.tables.find? (fun t => t.1 == (ty, inst))).map Prod.snd

/-- A lane's state; one not listed is as at reset. -/
def LanesSt.lane (l : LanesSt) (n : Nat) : LaneSt := Sparse.get (fun _ => LaneSt.reset) l.lanes n

/-- Change a lane. -/
def State.modLane (s : State) (n : Nat) (f : LaneSt → LaneSt) : State :=
  { s with lanes := { s.lanes with lanes := Sparse.set (fun _ => LaneSt.reset) s.lanes.lanes n (f (s.lanes.lane n)) } }

/-- The monitor receiver's number among the receivers here; its events name it 0xFF. [DESIGN CHOICE: log 98] -/
def monLane : Nat := 60

/-- The lane number in events. [DEDUCED: log 153] -/
def evLane (n : Nat) : Nat := if n = monLane then 0xFF else n

/-- The height of an eye (R321): the steps that pass up and down from its main threshold, each direction to the first step at which the
two slicers differ in more than 2 of 2^20 symbols. -/
def EyeMeas.height (e : EyeMeas) : Nat := (e.up.takeWhile (fun d => d ≤ 2)).length + (e.down.takeWhile (fun d => d ≤ 2)).length

/-- The figure of merit (R321): the smallest of the three eye heights. -/
def Eyes.fom (e : Eyes) : Nat := satN 255 (min e.upper.height (min e.middle.height e.lower.height))

/-- The receiver holds block lock, as its register shows. -/
def State.locked (s : State) (n : Nat) : Bool :=
  (if n = monLane then s.rd F.LANE_MON_STAT_LOCK else s.rd (F.LANE_n_STAT_LOCK n)) == 1

/-- Set a receiver's block lock; towpath receivers show in TOW_STATUS too. -/
def State.setLock (s : State) (n v : Nat) : State :=
  let s := if n = monLane then s.wr F.LANE_MON_STAT_LOCK v else s.wr (F.LANE_n_STAT_LOCK n) v
  if 56 ≤ n ∧ n < 60 then
    s.wr F.TOW_STATUS_RX_LOCK (if v = 1 then orBit (s.rd F.TOW_STATUS_RX_LOCK) (n - 56) else clearBit (s.rd F.TOW_STATUS_RX_LOCK) (n - 56))
  else s

/-- The receiver finds blocks by R319: a towpath receiver, the monitor while it is on, a ring receiver in loopback (R124). -/
def State.huntsBlocks (s : State) (n : Nat) : Bool :=
  if n = monLane then s.rd F.LANE_MON_CFG_EN == 1
  else if n < 48 ∨ 60 ≤ n then false
  else if n < 56 then s.ring.training.isSome || s.cm F.RING_WEIR_FORCE_BYPASS == 1
  else true

/-- An event of a lane (R444): its instance is the lane, 0xFF for the monitor, and so is argument 0. -/
def State.raiseLane (s : State) (code n arg : Nat) : State := s.raiseI code bLANE (evLane n) (evLane n) arg

/-- A loss of lock (R319): counted, event 0xD00 with the invalid headers of the window. -/
def State.lockLost (s : State) (n invalid : Nat) : State :=
  ((s.setLock n 0).inc F.LANE_LOCK_CNT_COUNT).raiseLane 0xD00 n invalid

/-- The receiver's next candidate boundary after an invalid header in HUNT. -/
def RxLock.slip (r : RxLock) : RxLock := { cand := (r.cand + 1) % 66, run := 0, seen := 0, bad := 0 }

/-- The lane whose register shows what a receiver checks (R334): its own, or the one the monitor watches. -/
def State.checked (s : State) (n : Nat) : Nat := if n = monLane then s.rd F.LANE_MON_CFG_LANE else n

/-- The 48-bit error count of a lane grows, saturating (R334). -/
def State.addErrors (s : State) (n k : Nat) : State :=
  let v := satN 0xFFFFFFFFFFFF (s.rd (F.LANE_n_ERR0_ERR n) + s.rd (F.LANE_n_ERR1_ERR n) * 2 ^ 32 + k)
  (s.wr (F.LANE_n_ERR0_ERR n) v).wr (F.LANE_n_ERR1_ERR n) (v / 2 ^ 32)

/-- A framed checker that is synchronised counts an errored block's header once (R334). -/
def State.headerError (s : State) (n : Nat) : State :=
  let k := s.checked n
  if s.rd (F.LANE_n_STAT_CHK_SYNC k) = 1 ∧ s.cm (F.LANE_n_TEST_CHK_FRAMED k) = 1 then s.addErrors k 1 else s

/-- A receiver tests one sync header (R319): in HUNT an invalid one moves the candidate boundary and 64 valid ones in a row give LOCK;
in LOCK each window of 64 headers with 16 or more invalid ones gives HUNT at its end. -/
def State.rxHeader (s : State) (n : Nat) (ok : Bool) : State :=
  let r := (s.lanes.lane n).rx
  let put (s : State) (r : RxLock) : State := s.modLane n (fun l => { l with rx := r })
  if s.locked n then
    let s := if ok then s else s.headerError n
    let bad := r.bad + b2n (!ok)
    if r.seen + 1 < 64 then put s { r with seen := r.seen + 1, bad := bad }
    else if bad < 16 then put s { r with seen := 0, bad := 0 }
    else (put s { cand := r.cand, run := 0, seen := 0, bad := 0 }).lockLost n bad
  else if ¬ ok then put s r.slip
  else if r.run + 1 < 64 then put s { r with run := r.run + 1 }
  else (put s { cand := r.cand, run := 0, seen := 0, bad := 0 }).setLock n 1

/-- A receiver tests sync headers in order (R319). In live operation a ring lane's lock follows the alignment markers of its PCS, which
say `live`. -/
def State.rxHeaders (s : State) (n : Nat) (live : Bool) (hdrs : List Bool) : State :=
  if s.huntsBlocks n then s.each hdrs (fun s ok => s.rxHeader n ok)
  else if 48 ≤ n ∧ n < 56 then s.setLock n (b2n live)
  else s

/-- The family of a lane in the LANE_SEED tables: its instance, its first lane and its count. -/
def seedFamily (n : Nat) : Nat × Nat × Nat := if n < 48 then (0, 0, 48) else if n < 56 then (1, 48, 8) else (2, 56, 4)

/-- The entry of a lane in a valid LANE_SEED table (spec/16_lanes.md): VERSION 1 and COUNT that of the family. -/
def State.seedEntry (s : State) (n : Nat) : Option RxEq :=
  let (inst, first, count) := seedFamily n
  match s.table 8 inst with
  | none => none
  | some t =>
    if leAt t 0 2 = 1 ∧ leAt t 2 2 = count ∧ t.length = 8 + 24 * count then
      let e := t.drop (8 + 24 * (n - first))
      some { ctle := leAt e 4 1 % 16, dfe := signed 8 (leAt e 5 1), ffe := (List.range 12).map (fun k => signed 8 (leAt e (8 + k) 1)) }
    else none

/-- LANE_n_STAT.STATE of a ring or towpath lane: 4 while its generator runs, else what its receiver has come to. -/
def State.showLane (s : State) (n : Nat) : State :=
  s.wr (F.LANE_n_STAT_STATE n) (if (s.lanes.lane n).gen.isSome then 4 else (s.lanes.lane n).rxSt)

/-- Show a receiver's state, figure of merit and equaliser in its registers. -/
def State.showRx (s : State) (n st fom : Nat) (e : RxEq) : State :=
  let s := s.modLane n (fun l => { l with rxSt := st })
  if n = monLane then (s.wr F.LANE_MON_STAT_ADAPTED (b2n (st == 2))).wr F.LANE_MON_STAT_FOM fom
  else (((s.showLane n).wr (F.LANE_n_STAT_FOM n) fom).wr (F.LANE_n_STAT_CTLE n) e.ctle).wr (F.LANE_n_STAT_DFE n) (unsigned 8 e.dfe)

/-- Step 1 of an adaptation (R322), at each start of a link, a loopback or a test run: the equaliser is loaded from a valid LANE_SEED
entry, or plain; the monitor takes no seed (R329). The receiver hunts anew. -/
def State.rxStart (s : State) (n : Nat) : State :=
  let seed := if n = monLane then none else s.seedEntry n
  let e := seed.getD RxEq.plain
  let s := (s.showRx n 1 0 e).setLock n 0
  s.modLane n (fun l =>
    { l with training := true, tries := 0, best := 0, seedCtle := seed.map RxEq.ctle, eq := e,
             rx := RxLock.reset })

/-- The CTLE codes that a search tries (R322): the seed's ± 2, else all 16. -/
def searchCodes (seed : Option Nat) : List Nat :=
  (List.range 16).filter (fun c => match seed with | some k => decide (k ≤ c + 2 ∧ c ≤ k + 2) | none => true)

/-- The code with the highest figure of merit, the lower one on a tie (R322 step 2). -/
def bestCode (foms : Nat → Nat) (codes : List Nat) : Nat :=
  codes.foldl (fun b c => if foms b < foms c then c else b) (codes.headD 0)

/-- Steps 2 to 5 of an adaptation run (R322): `cands` are the eyes measured at the CTLE codes, `eyes`, `dfe` and `ffe` what the long LMS
run ended with. At or above FOM_MIN the receiver is adapted; else it searches all codes again; after RETRIES further failures it has
failed (event 0xD01). -/
def State.adaptRun (s : State) (n : Nat) (cands : List Eyes) (eyes : Eyes) (dfe : Int) (ffe : List Int) : State :=
  let l := s.lanes.lane n
  let code := bestCode (fun c => (cands[c]?).elim 0 Eyes.fom) (searchCodes l.seedCtle)
  let e : RxEq := { ctle := code, dfe := dfe, ffe := ffe }
  let fom := eyes.fom
  let put (s : State) (f : LaneSt → LaneSt) : State := s.modLane n (fun l => f { l with eq := e })
  if s.cm F.LANE_ADAPT_FOM_MIN ≤ fom then put (s.showRx n 2 fom e) (fun l => { l with training := false, tries := 0, best := 0 })
  else
    let best := max l.best fom
    if s.cm F.LANE_ADAPT_RETRIES < l.tries + 1 then
      (put (s.showRx n 3 fom e) (fun l => { l with training := false, tries := 0, best := 0 })).raiseLane 0xD01 n best
    else put (s.showRx n 1 fom e) (fun l => { l with tries := l.tries + 1, best := best, seedCtle := none })

/-- The LMS of an adapted receiver goes on (R323): its CTLE stays, its FFE and DFE taps are what the signal makes of them, which the spec does not
say. [DESIGN CHOICE: log 135] -/
def State.lmsRuns (s : State) (n : Nat) : State :=
  let tap (k : Nat) : Int := signed 8 (Config.freeNat (s.choices + k) % 256)
  let s := { s with choices := s.choices + 13 }
  let s := s.modLane n (fun l => { l with eq := { l.eq with dfe := tap 0, ffe := (List.range 12).map (fun k => tap (k + 1)) } })
  if n = monLane then s else s.wr (F.LANE_n_STAT_DFE n) (unsigned 8 (s.lanes.lane n).eq.dfe)

/-- The figure of merit of an adapted receiver is measured (R323): event 0xD02 below FOM_WARN. -/
def State.fomMonitor (s : State) (n : Nat) (eyes : Eyes) : State :=
  if n < 48 ∨ monLane < n ∨ (s.lanes.lane n).rxSt ≠ 2 then s
  else
    let fom := eyes.fom
    let s := s.lmsRuns n
    let s := if n = monLane then s.wr F.LANE_MON_STAT_FOM fom else s.wr (F.LANE_n_STAT_FOM n) fom
    if fom < s.cm F.LANE_ADAPT_FOM_WARN then s.raiseOnceI 0xD02 bLANE (evLane n) n (evLane n) fom else s

/-- Transmit taps in the order of REQ: c(−3), c(−2), c(−1), c(+1). -/
abbrev Taps := List Int

/-- The taps of a word laid out as LANE_n_TXFFE. -/
def tapsOf (w : Nat) : Taps := [signed 8 (bitsOf w 7 0), signed 8 (bitsOf w 15 8), signed 8 (bitsOf w 23 16), signed 8 (bitsOf w 31 24)]

/-- The word of taps. -/
def tapsWord (t : Taps) : Nat :=
  unsigned 8 (t.getD 0 0) + unsigned 8 (t.getD 1 0) * 2 ^ 8 + unsigned 8 (t.getD 2 0) * 2 ^ 16 + unsigned 8 (t.getD 3 0) * 2 ^ 24

/-- Limits of the outer taps (R324). -/
def tapLo : List Int := [-6, -12, -24, -16]
def tapHi : List Int := [6, 12, 0, 0]

/-- Taps keep the limits of R324, c(0) included. -/
def tapsOk (t : Taps) : Bool :=
  (List.range 4).all (fun i => decide (tapLo.getD i 0 ≤ t.getD i 0 ∧ t.getD i 0 ≤ tapHi.getD i 0)) &&
    decide (32 ≤ 64 - ((t.map Int.natAbs).sum : Int))

/-- One step of tap `i`: 0 hold, 1 increment, 2 decrement. The status of the tap (R326): 0 updated, 1 at limit, 3 held. -/
def tapStep (t : Taps) (i r : Nat) : Taps × Nat :=
  if r = 0 then (t, 3)
  else
    let t' := modAt t i (fun v => if r = 1 then v + 1 else v - 1)
    if tapsOk t' then (t', 0) else (t, 1)

/-- A lane whose link training is not told. -/
def LinkTrain.none : LinkTrain := { reqs := [], first := 0, tries := [] }

/-- The order in which a receiver tries its partner's taps (R325): c(−1), c(+1), c(−2), c(−3), as places of `Taps`. -/
def tryOrder : List Nat := [2, 3, 1, 0]

/-- A receiver's search over its partner's taps (R325): each try moves the tap whose turn it is, up or down, and is kept where the figure of
merit rises by at least 1; a full round that keeps none ends the search. `i` counts the tries of the round, `kept` those it has kept. [PRESUMED: log 146] -/
def linkSearch (t : Taps) (fom i : Nat) (kept : Bool) : List (Bool × Nat) → Taps
  | [] => t
  | (up, f) :: r =>
    let k := tryOrder.getD i 0
    let take := decide (fom + 1 ≤ f)
    let t := if take then modAt t k (fun v => if up then v + 1 else v - 1) else t
    let fom := if take then f else fom
    if i < 3 then linkSearch t fom (i + 1) (kept || take) r
    else if kept || take then linkSearch t fom 0 false r
    else t

/-- The link training of a ring lane in KR4 or CR4 (R325): the partner's requests move the live taps, each within R324; the receiver's search
leaves what it asked of the partner. Both begin with no equalisation. [PRESUMED: log 146] -/
def State.laneTrain (s : State) (n : Nat) (l : LinkTrain) : State :=
  let t := l.reqs.foldl (fun t q => (tapStep t q.1 (if q.2 then 1 else 2)).1) [0, 0, 0, 0]
  (s.wr (F.LANE_n_TXACT_TAPS n) (tapsWord t)).modLane n (fun x => { x with asked := linkSearch [0, 0, 0, 0] l.first 0 false l.tries })

end Sys2Proof.Machine
end

