-- ==== Sys2Proof/Machine/Frames.lean ====
section
/-! DEFINITION. Ethernet frames at the ring ports: the ring tag and the FCS (R115, R117), where PTP messages and datagrams lie in a frame
(R127, R137), the residence-time correction (R138, R139), and the headers of what the device sends (R120, R127, R141). -/

namespace Sys2Proof.Machine

/-- One bit step of the reflected CRC-32 of IEEE 802.3. -/
def crc32Step (c : BitVec 32) : BitVec 32 := if c.getLsbD 0 then (c >>> 1) ^^^ 0xEDB88320#32 else c >>> 1

/-- One byte of that CRC-32. -/
def crc32Byte (c : BitVec 32) (b : Byte) : BitVec 32 :=
  let x := c ^^^ (b.setWidth 32)
  crc32Step (crc32Step (crc32Step (crc32Step (crc32Step (crc32Step (crc32Step (crc32Step x)))))))

/-- The frame check sequence of a frame's bytes (R117): CRC-32. -/
def frameCrc (l : List Byte) : Nat := ((l.foldl crc32Byte 0xFFFFFFFF#32) ^^^ 0xFFFFFFFF#32).toNat

/-- A stomp (R117): the bitwise inverse of the value. -/
def stompOf (c : Nat) : Nat := 0xFFFFFFFF - c

/-- What the check of a received frame finds (R117): good, the inverse of the CRC, or neither. -/
inductive Fcs where
  | good | stomped | bad
  deriving DecidableEq, Repr

/-- The check of a frame's FCS (R117). -/
def Frame.check (f : Frame) : Fcs :=
  let c := frameCrc f.data
  if f.fcs = c then .good else if f.fcs = stompOf c then .stomped else .bad

/-- Length of a frame in bytes, FCS included (R119). -/
def Frame.len (f : Frame) : Nat := f.data.length + 4

/-- Destination and source address, and the type at byte 12. -/
def Frame.dst (f : Frame) : Nat := beAt f.data 0 6
def Frame.src (f : Frame) : Nat := beAt f.data 6 6
def Frame.type12 (f : Frame) : Nat := beAt f.data 12 2

/-- The ring tag's EtherType (R115). -/
def tagType : Nat := 0x88B5

/-- The frame carries a ring tag (R115). -/
def Frame.tagged (f : Frame) : Bool := f.type12 == tagType

/-- Fields of the ring tag (R115). -/
def Frame.tagVer (f : Frame) : Nat := beAt f.data 14 1 / 16
def Frame.hop (f : Frame) : Nat := beAt f.data 15 1
def Frame.origin (f : Frame) : Nat := beAt f.data 16 6

/-- A ring tag of 12 bytes (R115): version 1, RING 0 through East. -/
def tagBytes (ring : Nat) (adopted : Bool) (hop origin : Nat) : List Byte :=
  beBytes 2 tagType ++ beBytes 1 (16 + 2 * ring + b2n adopted) ++ beBytes 1 hop ++ beBytes 6 origin ++ [0#8, 0#8]

/-- A frame's bytes with a ring tag put in after the source address (R115, R116). -/
def withTag (d tag : List Byte) : List Byte := d.take 12 ++ tag ++ d.drop 12

/-- Replace bytes at an offset. -/
def patch (l : List Byte) (off : Nat) (d : List Byte) : List Byte := l.take off ++ d ++ l.drop (off + d.length)

/-- A tagged frame's bytes with another HOP. -/
def withHop (d : List Byte) (hop : Nat) : List Byte := patch d 15 (beBytes 1 hop)

/-- Where the type behind the ring tag stands. -/
def Frame.typeAt (f : Frame) : Nat := if f.tagged then 24 else 12

/-- A VLAN tag's type. -/
def vlanType (t : Nat) : Bool := t == 0x8100 || t == 0x88A8

/-- The frame carries a VLAN tag (R121). -/
def Frame.vlan (f : Frame) : Bool := vlanType (beAt f.data f.typeAt 2)

/-- The EtherType at offset `o` and where its payload starts, behind up to `n` VLAN tags. -/
def etherAt (d : List Byte) : Nat → Nat → Nat × Nat
  | 0, o => (beAt d o 2, o + 2)
  | n + 1, o => if vlanType (beAt d o 2) then etherAt d n (o + 4) else (beAt d o 2, o + 2)

/-- The EtherType of what a frame carries, and where that starts. -/
def Frame.inner (f : Frame) : Nat × Nat := etherAt f.data (f.data.length / 4) f.typeAt

/-- Ones' complement sum of a byte string as 16-bit words. -/
def onesSum : List Byte → Nat
  | [] => 0
  | [a] => a.toNat * 256
  | a :: b :: r => a.toNat * 256 + b.toNat + onesSum r

/-- Fold a sum into 16 bits with end-around carry. -/
def fold16 (x : Nat) : Nat :=
  let y := x % 65536 + x / 65536
  let z := y % 65536 + y / 65536
  z % 65536 + z / 65536

/-- The Internet checksum of a byte string. -/
def inetSum (l : List Byte) : Nat := 65535 - fold16 (onesSum l)

/-- The upper protocol of an IPv6 packet and where it starts, behind up to `n` extension headers: hop-by-hop, routing and destination options, a
fragment that is the whole, authentication. [PRESUMED: log 141] -/
def ip6Upper (d : List Byte) : Nat → Nat → Nat → Nat × Nat
  | 0, p, o => (p, o)
  | n + 1, p, o =>
    if p = 0 ∨ p = 43 ∨ p = 60 then ip6Upper d n (beAt d o 1) (o + 8 * (beAt d (o + 1) 1 + 1))
    else if p = 44 ∧ beAt d (o + 2) 2 / 8 = 0 ∧ beAt d (o + 2) 2 % 2 = 0 then ip6Upper d n (beAt d o 1) (o + 8)
    else if p = 51 then ip6Upper d n (beAt d o 1) (o + 4 * (beAt d (o + 1) 1 + 2))
    else (p, o)

/-- Where a frame carries a PTP message (R137): its offset, that of the UDP header, and 0 for IEEE 802.3, 1 for UDP/IPv4, 2 for UDP/IPv6. -/
def Frame.ptp (f : Frame) : Option (Nat × Nat × Nat) :=
  let (et, o) := f.inner
  let port (u : Nat) : Bool := beAt f.data (u + 2) 2 == 319 || beAt f.data (u + 2) 2 == 320
  if et = 0x88F7 then some (o, o, 0)
  else if et = 0x0800 then
    let u := o + 4 * (beAt f.data o 1 % 16)
    if beAt f.data o 1 / 16 = 4 ∧ beAt f.data (o + 9) 1 = 17 ∧ beAt f.data (o + 6) 2 % 0x2000 = 0 ∧ port u then some (u + 8, u, 1) else none
  else if et = 0x86DD then
    let (p, u) := ip6Upper f.data f.data.length (beAt f.data (o + 6) 1) (o + 40)
    if p = 17 ∧ port u then some (u + 8, u, 2) else none
  else none

/-- The residence-time correction of a Sync or Delay_Req (R138, R139): `res` in 2^-16 ns is added to correctionField; over
IPv4 the UDP checksum becomes 0; over IPv6 the two bytes after the message keep it valid. The answer says whether the frame
was an event message, and whether it was corrected. -/
def Frame.correct (f : Frame) (res : Int) : List Byte × Bool × Bool :=
  match f.ptp with
  | none => (f.data, false, false)
  | some (o, u, tr) =>
    let d := f.data
    let ty := beAt d o 1 % 16
    if (ty = 0 ∨ ty = 1) ∧ beAt d (o + 1) 1 % 16 = 2 then
      let old := slice d (o + 8) 8
      let new := beBytes 8 (unsigned 64 (signed 64 (be old) + res))
      let b := patch d (o + 8) new
      if tr = 0 then (b, true, true)
      else if tr = 1 then (patch b (u + 6) [0#8, 0#8], true, true)
      else
        let mlen := beAt d (o + 2) 2
        if beAt d (u + 4) 2 < 8 + mlen + 2 then (d, true, false)
        else
          let pad := beAt d (o + mlen) 2
          let pad' := fold16 (pad + fold16 (onesSum old) + (65535 - fold16 (onesSum new)))
          (patch b (o + mlen) (beBytes 2 pad'), true, true)
    else (f.data, false, false)

/-- The multicast MAC of a group address (R121): IPv4 groups as ::ffff:a.b.c.d. -/
def groupMac (a : Nat) : Nat :=
  if a / 2 ^ 32 = 0xFFFF then 0x01005E000000 + a % 2 ^ 23 else 0x333300000000 + a % 2 ^ 32

/-- An address that maps an IPv4 address (R127). -/
def isMapped4 (a : Nat) : Bool := a / 2 ^ 32 == 0xFFFF

/-- An IPv4 address as a 128-bit address. -/
def mapped4 (a : Nat) : Nat := 0xFFFF * 2 ^ 32 + a

/-- The EUI-64 of a MAC. -/
def eui64 (mac : Nat) : Nat := (mac / 2 ^ 24) * 2 ^ 40 + 0xFFFE * 2 ^ 24 + mac % 2 ^ 24

/-- The EUI-64 link-local address of a MAC (R127). -/
def linkLocal (mac : Nat) : Nat := 0xFE80 * 2 ^ 112 + (eui64 mac ^^^ (2 * 2 ^ 56))

/-- The clock identity of a MAC (R141): EUI-64. -/
def clockIdentity (mac : Nat) : Nat := eui64 mac

/-- A UDP datagram of a delivered frame (R127): destination, source address, destination and source port, payload; none where a
check fails. -/
def udpOf (f : Frame) : Option (Nat × Nat × Nat × Nat × List Byte) :=
  let (et, o) := f.inner
  let b := f.data.drop o
  if et = 0x0800 then
    let tot := beAt b 2 2
    let frag := beAt b 6 2 % 0x4000
    if beAt b 0 1 = 0x45 ∧ frag = 0 ∧ beAt b 9 1 = 17 ∧ 28 ≤ tot ∧ tot ≤ b.length ∧ 8 ≤ beAt b 24 2 ∧ 20 + beAt b 24 2 ≤ tot then
      let ul := beAt b 24 2
      let ck := beAt b 26 2
      let sum := fold16 (onesSum (slice b 12 8) + 17 + ul + onesSum (slice b 20 ul))
      if ck = 0 ∨ sum = 65535 then
        some (mapped4 (beAt b 16 4), mapped4 (beAt b 12 4), beAt b 22 2, beAt b 20 2, slice b 28 (ul - 8))
      else none
    else none
  else if et = 0x86DD then
    let pl := beAt b 4 2
    if beAt b 0 1 / 16 = 6 ∧ beAt b 6 1 = 17 ∧ 40 + pl ≤ b.length ∧ 8 ≤ beAt b 44 2 ∧ beAt b 44 2 ≤ pl then
      let ul := beAt b 44 2
      let sum := fold16 (onesSum (slice b 8 32) + 17 + ul + onesSum (slice b 40 ul))
      if beAt b 46 2 ≠ 0 ∧ sum = 65535 then
        some (beAt b 24 16, beAt b 8 16, beAt b 42 2, beAt b 40 2, slice b 48 (ul - 8))
      else none
    else none
  else none

/-- A membership query (R127): IGMP or MLD; whether it is MLD's, and the group it asks for, 0 for all. [DEDUCED: log 53; PRESUMED: log 141] -/
def queryOf (f : Frame) : Option (Bool × Nat) :=
  let (et, o) := f.inner
  let b := f.data.drop o
  let i := 4 * (beAt b 0 1 % 16)
  if et = 0x0800 ∧ beAt b 9 1 = 2 ∧ beAt b i 1 = 0x11 then some (false, if beAt b (i + 4) 4 = 0 then 0 else mapped4 (beAt b (i + 4) 4))
  else if et = 0x86DD ∧ beAt b 6 1 = 0 ∧ beAt b 40 1 = 58 ∧ beAt b 48 1 = 130 then some (true, beAt b 56 16)
  else none

/-- The sender of a PTP message by its transport (R140). -/
def ptpSender (f : Frame) (tr : Nat) : Nat :=
  let o := f.inner.2
  if tr = 0 then f.src else if tr = 1 then mapped4 (beAt f.data (o + 12) 4) else beAt f.data (o + 8) 16

/-- HOP of a frame's ring tag; 64 without one (R140). -/
def Frame.hopOf (f : Frame) : Nat := if f.tagged then f.hop else 64

/-- An IPv4 packet: header with checksum, options, payload. TOS, identification and DF are open. [DESIGN CHOICE: log 58] -/
def ip4Packet (src dst proto ttl : Nat) (opt pay : List Byte) : List Byte :=
  let h (sum : Nat) : List Byte :=
    beBytes 1 (0x45 + opt.length / 4) ++ beBytes 1 Config.ipTos.toNat ++ beBytes 2 (20 + opt.length + pay.length) ++ beBytes 2 Config.ipId.toNat
      ++ beBytes 2 (if Config.ipDf then 0x4000 else 0) ++ beBytes 1 ttl ++ beBytes 1 proto ++ beBytes 2 sum ++ beBytes 4 src ++ beBytes 4 dst ++ opt
  h (inetSum (h 0)) ++ pay

/-- An IPv6 packet. Traffic class and flow label are open. [DESIGN CHOICE: log 58] -/
def ip6Packet (src dst next ttl : Nat) (pay : List Byte) : List Byte :=
  beBytes 4 (6 * 2 ^ 28 + Config.ip6Flow.toNat) ++ beBytes 2 pay.length ++ beBytes 1 next ++ beBytes 1 ttl ++ beBytes 16 src ++ beBytes 16 dst ++ pay

/-- A UDP checksum over the pseudo-header's addresses `addrs` and the datagram; 0 is sent as all ones. -/
def udpSum (addrs dgram : List Byte) : Nat :=
  let c := 65535 - fold16 (onesSum addrs + 17 + dgram.length + onesSum dgram)
  if c = 0 then 65535 else c

/-- A datagram to a group or an address (R127): EtherType and packet. Over IPv4 its UDP checksum is computed or 0, which is open. [DESIGN CHOICE: log 58] -/
def udpPacket (src4 src6 dst sport dport ttl : Nat) (d : List Byte) : Nat × List Byte :=
  let u (sum : Nat) : List Byte := beBytes 2 sport ++ beBytes 2 dport ++ beBytes 2 (8 + d.length) ++ beBytes 2 sum ++ d
  if isMapped4 dst then
    let a := dst % 2 ^ 32
    let sum := if Config.udp4Sum then udpSum (beBytes 4 src4 ++ beBytes 4 a) (u 0) else 0
    (0x0800, ip4Packet src4 a 17 ttl [] (u sum))
  else (0x86DD, ip6Packet src6 dst 17 ttl (u (udpSum (beBytes 16 src6 ++ beBytes 16 dst) (u 0))))

/-- A frame's bytes before the FCS: addresses, ring tag, type and payload, filled up to 60 bytes. -/
def etherFrame (dst src : Nat) (tag : List Byte) (etype : Nat) (body : List Byte) : List Byte :=
  let d := beBytes 6 dst ++ beBytes 6 src ++ tag ++ beBytes 2 etype ++ body
  d ++ List.replicate (60 - d.length) 0#8

/-- The record of a group in an IGMPv3 report: type, no sources, the group. [PRESUMED: log 141] -/
def igmpRecord (ty g : Nat) : List Byte := beBytes 1 ty ++ [0#8, 0#8, 0#8] ++ beBytes 4 (g % 2 ^ 32)

/-- An IGMPv3 report of groups, with the router alert option, to 224.0.0.22 (R127, RFC 3376). [PRESUMED: log 141] -/
def igmpReport (src4 ty : Nat) (groups : List Nat) : List Byte :=
  let m (sum : Nat) : List Byte := [0x22#8, 0#8] ++ beBytes 2 sum ++ [0#8, 0#8] ++ beBytes 2 groups.length ++ groups.flatMap (igmpRecord ty)
  ip4Packet src4 0xE0000016 2 1 [0x94#8, 4#8, 0#8, 0#8] (m (inetSum (m 0)))

/-- The record of a group in an MLDv2 report. [PRESUMED: log 141] -/
def mldRecord (ty g : Nat) : List Byte := beBytes 1 ty ++ [0#8, 0#8, 0#8] ++ beBytes 16 g

/-- An MLDv2 report of groups, with the router alert option, to ff02::16 (R127, RFC 3810). [PRESUMED: log 141] -/
def mldReport (src6 ty : Nat) (groups : List Nat) : List Byte :=
  let dst := 0xFF02 * 2 ^ 112 + 0x16
  let m (sum : Nat) : List Byte := [143#8, 0#8] ++ beBytes 2 sum ++ [0#8, 0#8] ++ beBytes 2 groups.length ++ groups.flatMap (mldRecord ty)
  let sum := 65535 - fold16 (onesSum (beBytes 16 src6 ++ beBytes 16 dst) + 58 + (m 0).length + onesSum (m 0))
  ip6Packet src6 dst 0 1 ([58#8, 0#8, 5#8, 2#8, 0#8, 0#8, 1#8, 0#8] ++ m sum)

/-- A Delay_Req of this clock (R141): domain, unicast flag, port number of the copy, sequenceId. [PRESUMED: log 141] -/
def delayReqMsg (mac domain port seq : Nat) (unicast : Bool) : List Byte :=
  [1#8, 0x12#8] ++ beBytes 2 44 ++ beBytes 1 domain ++ [0#8] ++ beBytes 2 (if unicast then 0x0400 else 0) ++ List.replicate 12 0#8
    ++ beBytes 8 (clockIdentity mac) ++ beBytes 2 port ++ beBytes 2 seq ++ [1#8, 0x7F#8] ++ List.replicate 10 0#8

end Sys2Proof.Machine
end

