-- ==== Sys2Proof/Machine/Ring.lean ====
section
/-! DEFINITION. Ring ports, forwarding, delivery, insertion and the weir (R111 to R127, R138, R139, R154, R155). -/

namespace Sys2Proof.Machine

/-- Length of a frame held by a port, FCS included. -/
def Transit.len (x : Transit) : Nat := x.data.length + 4
def LFrame.len (l : LFrame) : Nat := l.data.length + 4

/-- Wire time of `n` bytes with preamble and minimum gap at 400 Gbit/s, in ns, rounded up. -/
def wireNs (n : Nat) : Nat := ceilDiv (n + 20) 50

/-- The largest tagged frame with preamble and gap (R122). -/
def frameM : Nat := 9248

/-- Size of an insertion buffer. -/
def insSize : Nat := 262144

/-- Bytes waiting in an insertion buffer. -/
def RingPort.fill (p : RingPort) : Nat := (p.ins.map Transit.len).sum

/-- Free space of the insertion buffer: F of R122. -/
def RingPort.free (p : RingPort) : Nat := insSize - p.fill

/-- A ring port. -/
def RingSt.port (r : RingSt) (x : Nat) : RingPort := (r.ports[x]?).getD RingPort.reset

/-- Change a ring port. -/
def State.modPort (s : State) (x : Nat) (f : RingPort → RingPort) : State :=
  { s with ring := { s.ring with ports := modAt s.ring.ports x f } }

/-- The largest fill of port `y`'s insertion buffer is noted, in 64-byte units (RING_INS_PEAK). -/
def State.notePeak (s : State) (y : Nat) : State :=
  s.peak (if y = 0 then F.RING_INS_PEAK_E_PEAK else F.RING_INS_PEAK_W_PEAK) (ceilDiv (s.ring.port y).fill 64)

/-- The address of group entry `n` in a committed set. -/
def CSet.grpAddr (c : CSet) (n : Nat) : Nat :=
  let w (k : Nat) : Nat := (c.regs.word (R.RING_GRPn_A n k)).toNat
  w 0 + w 1 * 2 ^ 32 + w 2 * 2 ^ 64 + w 3 * 2 ^ 96

/-- Group entries of a committed set enabled for receive. -/
def CSet.rxGroups (c : CSet) : List Nat := (List.range 16).filter (fun n => c.fld (F.RING_GRPn_CTL_RX n) = 1)

/-- The addresses of the receive groups of a committed set. -/
def CSet.rxAddrs (c : CSet) : List Nat := c.rxGroups.map c.grpAddr

/-- The address of group entry `n`. -/
def State.grpAddr (s : State) (n : Nat) : Nat := s.cset.grpAddr n

/-- Group entries enabled for receive. -/
def State.rxGroups (s : State) : List Nat := s.cset.rxGroups

/-- Group entries enabled for transmit. -/
def State.txGroups (s : State) : List Nat := (List.range 16).filter (fun n => s.cm (F.RING_GRPn_CTL_TX n) = 1)

/-- The PTP multicast MAC addresses of the transports of R137; R140 has their frames reach the slave. [DEDUCED: log 53] -/
def ptpMacs : List Nat := [0x011B19000000, 0x0180C200000E, 0x01005E000181, 0x333300000181]

/-- The MAC addresses to which general membership queries go; R127 has the device answer them. [DEDUCED: log 53] -/
def queryMacs : List Nat := [0x01005E000001, 0x333300000001]

/-- The frame is for this device (R121); PTP messages and membership queries also at their own addresses. [DEDUCED: log 53] -/
def State.destMatches (s : State) (f : Frame) : Bool :=
  let d := f.dst
  d == s.mac || d == 0xFFFFFFFFFFFF || (s.rxGroups.any (fun n => groupMac (s.grpAddr n) == d)) || (ptpMacs.contains d && f.ptp.isSome)
    || (queryMacs.contains d && (queryOf f).isSome)

/-- A datagram goes to the Pliash queue when its group or the management port matches (R127, R447). -/
def State.deliverUdp (s : State) (mac dst src dport sport : Nat) (d : List Byte) : State :=
  let put (grp : Nat) : State := { s with ring := { s.ring with rx := s.ring.rx ++ [{ grp := grp, mac := mac, src := src, sport := sport, data := d }] } }
  match s.rxGroups.find? (fun n => s.grpAddr n == dst && s.cm (F.RING_GRPn_CTL_PORT n) == dport) with
  | some n => put n
  | none =>
    let ip4 := s.cm F.RING_IP4_ADDR
    if dport = s.cm F.TOP_MGMT_CFG_PORT ∧ ((ip4 ≠ 0 ∧ dst = mapped4 ip4) ∨ dst = linkLocal s.mac) then put 16
    else s.inc F.RING_RX_DISC_FORMAT

/-- A delivered IP packet: a query, or a datagram (R127). -/
def State.deliverIp (s : State) (f : Frame) : State :=
  match queryOf f with
  | some q => { s with ring := { s.ring with queries := s.ring.queries ++ [q] } }
  | none =>
    match udpOf f with
    | none => s.inc F.RING_RX_DISC_FORMAT
    | some (dst, src, dport, sport, d) => s.deliverUdp f.src dst src dport sport d

/-- Delivery (R121): the frame goes to the receive queue of what it carries. `inAt` is its ingress in device time. [DEDUCED: log 53] -/
def State.deliver (s : State) (port : Nat) (f : Frame) (inAt : Nat) : State :=
  if f.check ≠ .good ∨ f.unc ≠ 0 ∨ f.vlan ∨ 9228 < f.len ∨ ¬ s.destMatches f then s
  else
    match f.ptp with
    | some (o, _, tr) =>
      let m := f.data.drop o
      let ty := beAt m 0 1 % 16
      if s.cm F.TIME_PTP_CFG_TRANSPORT = tr ∧ (ty = 0 ∨ ty = 8 ∨ ty = 9 ∨ ty = 11) then
        { s with ring := { s.ring with ptp := s.ring.ptp ++ [{ port := port, hop := f.hopOf, at_ := inAt, src := ptpSender f tr, mac := f.src, msg := m }] } }
      else s
    | none => if f.inner.1 = 0x0800 ∨ f.inner.1 = 0x86DD then s.deliverIp f else s

/-- The frame is sent stomped (R117): its FCS did not check good, or a codeword of it was uncorrectable. -/
def Frame.spoilt (f : Frame) : Bool := f.check != .good || f.unc != 0

/-- A frame's bytes cut at 9,228 bytes, FCS included (R119). -/
def cutLong (d : List Byte) : List Byte := d.take 9224

/-- A transit frame is written to port `y`'s insertion buffer, behind what waits there already (R118, R122). -/
def State.insert (s : State) (y : Nat) (x : Transit) : State :=
  (s.modPort y (fun p => { p with ins := p.ins ++ p.arriving ++ [x], arriving := [] })).notePeak y

/-- The bytes `d` of frame `f` sent on out of port `y` (R117 to R119, R123): stomped where its FCS was not good, cut at 9,228 bytes, into the
insertion buffer where the egress is busy; a frame that finds no room is cut to what is free and stomped. A stomp of this node is
counted. -/
def State.forward (s : State) (y : Nat) (f : Frame) (d : List Byte) (inAt : Nat) : State :=
  let p := s.ring.port y
  let long := decide (9224 < d.length)
  let d := cutLong d
  let idle := p.ins.isEmpty && p.arriving.isEmpty && decide (p.busy ≤ s.clk.now)
  let held := (p.arriving.map Transit.len).sum
  let noRoom := !idle && decide (p.free < held + d.length + 4)
  let d := if noRoom then d.take (p.free - held - 4) else d
  let s := if long || noRoom || (f.spoilt && f.check != .stomped) then s.inc F.RING_STOMP_CNT_SENT else s
  let x : Transit := { data := d, stomp := f.spoilt || long || noRoom, inAt := inAt }
  if idle then s.modPort y (fun p => { p with arriving := [x] })
  else if noRoom ∧ d = [] then s
  else s.insert y x

/-- A local frame of class `cls` with its bytes. -/
def LFrame.of (now cls e : Nat) (d : List Byte) : LFrame :=
  { cls := cls, at_ := now, e := e, due := false, data := d, stomp := false, inAt := none, req := none, talk := none }

/-- Queue a local frame on port `x`. -/
def State.queueOn (s : State) (x : Nat) (l : LFrame) : State := s.modPort x (fun p => { p with loc := p.loc ++ [l] })

/-- The tag this device inserts (R115, R116, R120): RING 0 out of East. -/
def State.ownTag (s : State) (out : Nat) (adopted : Bool) : List Byte := tagBytes out adopted (s.cm F.RING_TAG_HOP_LIMIT) s.mac

/-- A frame that the device originates, as it leaves port `x` (R115, R120). -/
def State.ownFrame (s : State) (x dst etype : Nat) (body : List Byte) : List Byte := etherFrame dst s.mac (s.ownTag x false) etype body

/-- A frame the device originates is queued on both ports (R120): `l` gives all but the bytes. -/
def State.queueBoth (s : State) (l : LFrame) (dst etype : Nat) (body : List Byte) : State :=
  (s.queueOn 0 { l with data := s.ownFrame 0 dst etype body }).queueOn 1 { l with data := s.ownFrame 1 dst etype body }

/-- A datagram is queued on both ports (R127): nothing over IPv4 while RING_IP4 is 0. `mac` is that of the one it goes to. -/
def State.sendUdp (s : State) (l : LFrame) (mac addr dport : Nat) (d : List Byte) : State :=
  if isMapped4 addr ∧ s.cm F.RING_IP4_ADDR = 0 then s
  else
    let (et, b) := udpPacket (s.cm F.RING_IP4_ADDR) (linkLocal s.mac) addr Config.srcPort.toNat dport (s.cm F.RING_IP_CFG_TTL) d
    s.queueBoth l mac et b

/-- The copy of an adopted frame out of the port it came in by (R116, R117, R119). -/
def State.dualCopy (s : State) (x : Nat) (f : Frame) (inAt : Nat) : State :=
  let d := withTag f.data (s.ownTag x true)
  let long := decide (9224 < d.length)
  let s := if long || (f.spoilt && f.check != .stomped) then s.inc F.RING_STOMP_CNT_SENT else s
  s.queueOn x { LFrame.of s.clk.now 3 0 (cutLong d) with stomp := f.spoilt || long, inAt := some inAt }

/-- An untagged frame (R116): to the device, or adopted. -/
def State.untaggedRx (s : State) (x : Nat) (f : Frame) : State :=
  let inAt := s.dev
  if f.dst = s.mac then s.deliver x f inAt
  else
    let y := 1 - x
    let s := (s.inc F.RING_ADOPT_CNT_COUNT).forward y f (withTag f.data (s.ownTag y true)) inAt
    let s := if s.cm F.RING_TAG_DUAL = 1 then s.dualCopy x f inAt else s
    s.deliver x f inAt

/-- A tagged frame (R116). HOP − 1 is taken in the byte that HOP is. [DEDUCED: log 53] -/
def State.taggedRx (s : State) (x : Nat) (f : Frame) : State :=
  let inAt := s.dev
  let y := 1 - x
  let hop := (f.hop + 255) % 256
  if f.origin = s.mac then s.inc F.RING_STRIP_ORG_COUNT
  else if f.tagVer ≠ 1 then
    let s := s.forward y f f.data inAt
    { s with ring := { s.ring with tagBad := modAt s.ring.tagBad x (· + 1) } }
  else if f.dst = s.mac then s.deliver x f inAt
  else if hop = 0 then (s.inc F.RING_STRIP_HOP_COUNT).deliver x f inAt
  else (s.forward y f (withHop f.data hop) inAt).deliver x f inAt

/-- A received frame (R116): the first matching row decides. `x` is 0 for East, 1 for West. [DESIGN CHOICE: log 125] -/
def State.frameRx (s : State) (x : Nat) (f : Frame) : State :=
  if ¬ s.ring.weirOpen ∨ (s.ring.port x).link ≠ 2 ∨ 2 ≤ x then s
  else
    let s := s.add (if x = 0 then F.RING_FEC_CORR_E_COUNT else F.RING_FEC_CORR_W_COUNT) f.corr
    let s := s.add (if x = 0 then F.RING_FEC_UNC_E_COUNT else F.RING_FEC_UNC_W_COUNT) f.unc
    let s := { s with ring := { s.ring with fecBad := modAt s.ring.fecBad x (· + f.unc) } }
    let s := if f.check = .stomped then s.inc F.RING_STOMP_CNT_SEEN else s
    if f.headBad ∨ f.type12 = 0x8808 then s
    else if f.tagged then s.taggedRx x f
    else s.untaggedRx x f

/-- The first local frame in the order of the classes 1 to 3 (R122), with its place in the queue. -/
def firstLocal (l : List LFrame) : Option (Nat × LFrame) :=
  let best (c : Nat) := (l.zipIdx.find? (fun p => p.1.cls == c)).map (fun p => (p.2, p.1))
  (best 1).orElse (fun _ => (best 2).orElse (fun _ => best 3))

/-- The timed frame whose launch time has come and was told (R154): the earliest of them, with its place. -/
def dueTimed (l : List LFrame) (dev : Nat) : Option (Nat × LFrame) :=
  l.zipIdx.foldl (fun b p =>
    if p.1.cls = 0 ∧ p.1.due ∧ p.1.e ≤ dev then
      match b with | some (_, c) => (if p.1.e < c.e then some (p.2, p.1) else b) | none => some (p.2, p.1)
    else b) none

/-- The guard of R154: a local frame of `n` bytes ends before the launch time of every timed frame that waits for its own. -/
def guardOk (l : List LFrame) (dev n : Nat) : Bool :=
  l.all (fun t => t.cls != 0 || decide (t.e ≤ dev) || decide (dev + wireNs n * 65536 ≤ t.e))

/-- What a transmitter sends next. -/
inductive TxPick where
  | none | own (i : Nat) (l : LFrame) | buffer (x : Transit) | transit (x : Transit)
  deriving DecidableEq, Repr

/-- The transit frame that a port sends next: rules 2 and 3 of R122. -/
def RingPort.transitPick (p : RingPort) : TxPick :=
  match p.ins, p.arriving with
  | x :: _, _ => .buffer x
  | [], x :: _ => .transit x
  | [], [] => .none

/-- The choice at a frame boundary (R122, R154). `dev` is device time in 2^-16 ns, `now` the instant in ns. -/
def RingPort.pick (p : RingPort) (now dev maxWait : Nat) : TxPick :=
  let room : Bool := decide (frameM ≤ p.free)
  let timed := if room then dueTimed p.loc dev else none
  let next := match firstLocal p.loc with
    | some (i, l) => if room ∧ guardOk p.loc dev l.len then some (i, l) else none
    | none => none
  let waited := maxWait != 0 && p.loc.any (fun l => l.cls != 0 && decide (l.at_ + maxWait * 1000 ≤ now))
  match timed, next with
  | some (i, l), _ => .own i l
  | none, some (i, l) => if waited then .own i l else match p.transitPick with | .none => .own i l | x => x
  | none, none => p.transitPick

/-- Counts what the residence-time correction of a frame sent out of port `y` did (R138, R139). -/
def State.noteTc (s : State) (y : Nat) (event done : Bool) : State :=
  if event ∧ done then s.inc F.TIME_TC_CNT_COUNT
  else if event then
    let s := s.inc F.TIME_TC_SKIP_COUNT
    { s with ring := { s.ring with skipTc := modAt s.ring.skipTc y (· + 1) } }
  else s

/-- The bytes of a frame as it leaves, corrected by its residence time, and what the correction did (R138). Its ingress and egress times are
taken as exact. [DESIGN CHOICE: log 147] -/
def leaving (data : List Byte) (inAt : Option Nat) (dev : Nat) : List Byte × Bool × Bool :=
  match inAt with
  | some i => ({ data := data, fcs := 0, corr := 0, unc := 0, headBad := false } : Frame).correct ((dev : Int) - i)
  | none => (data, false, false)

/-- The FCS sent with a frame's bytes (R117). -/
def fcsOf (d : List Byte) (stomp : Bool) : Nat := if stomp then stompOf (frameCrc d) else frameCrc d

/-- A transit frame leaves port `y`: PTP event messages are corrected by their residence time (R138, R139), also in a tagged frame of another
VER, which R116 forwards unchanged. [DESIGN CHOICE: log 150] -/
def State.sendTransit (s : State) (y : Nat) (x : Transit) : State :=
  let (d, event, done) := leaving x.data (some x.inAt) s.dev
  (s.noteTc y event done).modPort y (fun p => { p with wire := some { own := false, data := d, fcs := fcsOf d x.stomp }, busy := s.clk.now + wireNs (d.length + 4) })

/-- The egress time of a Delay_Req (R141). -/
def State.noteReq (s : State) (y : Nat) (l : LFrame) : State :=
  match l.req, s.time.req with
  | some q, some r =>
    if r.seq = q then
      let t3 : Int := s.dev
      { s with time := { s.time with req := some (if y = 0 then { r with t3e := some t3 } else { r with t3w := some t3 }) } }
    else s
  | _, _ => s

/-- A local frame leaves port `y`: the egress time of a Delay_Req is taken (R141); a timed frame after E + 200 ns is late
(R155). Transit that arrives meanwhile goes to the insertion buffer (R122). -/
def State.sendOwn (s : State) (y i : Nat) (l : LFrame) : State :=
  let s := s.noteReq y l
  let s := if l.cls = 0 ∧ l.e + 200 * 65536 < s.dev then s.inc F.TIME_EGRESS_CNT_LATE else s
  let (d, event, done) := leaving l.data l.inAt s.dev
  let s := s.noteTc y event done
  (s.modPort y (fun p =>
    { p with loc := p.loc.eraseIdx i, wire := some { own := true, data := d, fcs := fcsOf d l.stomp }, busy := s.clk.now + wireNs l.len,
             ins := p.ins ++ p.arriving, arriving := [] })).notePeak y

/-- A frame boundary of port `y` (R122). -/
def State.txBoundary (s : State) (y : Nat) : State :=
  let p := s.ring.port y
  if 2 ≤ y ∨ ¬ s.ring.weirOpen ∨ p.link ≠ 2 ∨ s.clk.now < p.busy then s
  else
    match p.pick s.clk.now s.dev (s.cm F.RING_FAIR_MAX_WAIT) with
    | .none => s.modPort y (fun p => { p with wire := none })
    | .own i l => s.sendOwn y i l
    | .buffer x => (s.modPort y (fun p => { p with ins := p.ins.drop 1 })).sendTransit y x
    | .transit x => (s.modPort y (fun p => { p with arriving := p.arriving.drop 1 })).sendTransit y x

/-- A timed frame's launch time comes (R154): it is taken ahead of every other rule from the next frame boundary. -/
def State.egressDue (s : State) (y : Nat) : State :=
  s.modPort y (fun p => { p with loc := p.loc.map (fun l => if l.cls = 0 ∧ l.e ≤ s.dev then { l with due := true } else l) })

/-- Timed frames still queued at E + MAX_LATE_US are discarded (R155). -/
def State.egressDrop (s : State) (y : Nat) : State :=
  let lim := s.cm F.TIME_EGRESS_MAX_LATE_US * 65536000
  let late (l : LFrame) : Bool := l.cls == 0 && decide (l.e + lim ≤ s.dev)
  let n := ((s.ring.port y).loc.filter late).length
  if n = 0 ∨ 2 ≤ y then s
  else
    let s := s.modPort y (fun p => { p with loc := p.loc.filter (fun l => !late l) })
    let s := s.add F.TIME_EGRESS_CNT_DROPPED n
    { s with ring := { s.ring with dropEgr := modAt s.ring.dropEgr y (· + n) } }

/-- The link bit of a port. -/
def linkFld (x : Nat) : Fld := if x = 0 then F.RING_STATUS_E_LINK else F.RING_STATUS_W_LINK

/-- A port's link comes up (R125), event 0x400 with its media. -/
def State.linkUp (s : State) (x : Nat) (train : List LinkTrain) : State :=
  if 2 ≤ x ∨ ¬ s.ring.weirOpen ∨ (s.ring.port x).link ≠ 1 then s
  else
    let media := s.cm (if x = 0 then F.RING_PORT_CFG_E_MEDIA else F.RING_PORT_CFG_W_MEDIA)
    let s := s.when (media < 2) (fun s => s.each (List.range 4) (fun s k => s.laneTrain (48 + 4 * x + k) ((train[k]?).getD LinkTrain.none)))
    let s := s.modPort x (fun p => { p with link := 2 })
    (s.wr (linkFld x) 1).raiseI 0x400 bRING x x media

/-- The receivers of a port adapt (R322). -/
def State.portRx (s : State) (x : Nat) : State := s.each [48 + 4 * x, 49 + 4 * x, 50 + 4 * x, 51 + 4 * x] State.rxStart

/-- A port's link goes down (R125) with a cause: 1 block lock lost, 2 training failed, 3 weir change. It trains again. What waits in its
queues stays there. [DESIGN CHOICE: log 142] -/
def State.linkDown (s : State) (x cause : Nat) : State :=
  if 2 ≤ x ∨ (s.ring.port x).link = 0 then s
  else
    let was := (s.ring.port x).link
    let s := s.modPort x (fun p => { p with link := if s.ring.weirOpen then 1 else 0, arriving := [], wire := none, busy := 0 })
    let s := if s.ring.weirOpen then s.portRx x else s
    if was = 2 ∨ cause = 2 then (s.wr (linkFld x) 0).raiseI 0x401 bRING x x cause else s.wr (linkFld x) 0

/-- The weir opens or closes (R124); a port whose weir changes loses its link and trains again (R125). -/
def State.weirTo (s : State) (isOpen : Bool) (cause : Nat) : State :=
  if s.ring.weirOpen = isOpen then s
  else
    let s := { s with ring := { s.ring with weirOpen := isOpen, loopBad := s.ring.loopBad && !isOpen } }
    let s := (s.wr F.RING_STATUS_WEIR_OPEN (b2n isOpen)).raise 0x402 bRING (b2n isOpen) cause
    -- the slave clock starts with the first opening (R102 step 11, R140)
    let s := if isOpen ∧ s.rd F.TIME_STATUS_STATE = 0 then s.wr F.TIME_STATUS_STATE 1 else s
    let s := (s.linkDown 0 3).linkDown 1 3
    let s := (s.modPort 0 (fun p => { p with link := if isOpen then 1 else 0 })).modPort 1 (fun p => { p with link := if isOpen then 1 else 0 })
    if isOpen then (s.portRx 0).portRx 1 else s

/-- Both ports begin loopback training with the weir in bypass (R124). -/
def State.loopStart (s : State) : State :=
  let s := (s.portRx 0).portRx 1
  { (s.wr F.RING_STATUS_LOOP_OK 0) with ring := { s.ring with training := some s.clk.now, retryFrom := none } }

/-- The towpath's receivers adapt from step 9 of R102 (R395), and its lanes are enabled, from when their blocks are counted (R317). [DESIGN CHOICE: log 137] -/
def State.towRx (s : State) : State :=
  let s := s.each [56, 57, 58, 59] State.rxStart
  let s := { s with pair := { s.pair with enabled := s.clk.now } }
  s.each (List.range 4) (fun s n => { (s.modLane (56 + n) (fun l => { l with seedNo := s.choices })) with choices := s.choices + 1 })

/-- Loopback training passes (R124): the weir opens, but under a committed FORCE_BYPASS. [DEDUCED: log 140] -/
def State.loopPass (s : State) : State :=
  if s.ring.training.isNone then s
  else
    let s := { s with ring := { s.ring with training := none, retryFrom := none } }
    let s := s.wr F.RING_STATUS_LOOP_OK 1
    if s.cm F.RING_WEIR_FORCE_BYPASS = 1 then s else s.weirTo true 1

/-- Loopback training does not pass within 5 s (R124): bypass, event 0x402 with cause 3, retried every 10 s. -/
def State.loopFail (s : State) : State :=
  if s.ring.training.isNone then s
  else
    let s := { s with ring := { s.ring with training := none, retryFrom := some s.clk.now, loopBad := true } }
    (s.raise 0x402 bRING 0 3).noteFault 0x402

/-- The 10 s after a failure pass (R124). -/
def State.loopRetry (s : State) : State := if s.ring.retryFrom.isSome then s.loopStart else s

/-- Reports for group addresses are sent (R127): IGMPv3 for IPv4, none while RING_IP4 is 0; MLDv2 for IPv6. `ty` is the type of their
records. [PRESUMED: log 141] -/
def State.sendReports (s : State) (ty : Nat) (groups : List Nat) : State :=
  let g4 := groups.filter isMapped4
  let g6 := groups.filter (fun g => !isMapped4 g)
  let l := LFrame.of s.clk.now 3 0 []
  let s := if g4 = [] ∨ s.cm F.RING_IP4_ADDR = 0 then s else s.queueBoth l 0x01005E000016 0x0800 (igmpReport (s.cm F.RING_IP4_ADDR) ty g4)
  if g6 = [] then s else s.queueBoth l 0x333300000016 0x86DD (mldReport (linkLocal s.mac) ty g6)

/-- A query is answered with the current state of the receive groups it asks for (R127): records of type MODE_IS_EXCLUDE. [PRESUMED: log 141] -/
def State.igmpQuery (s : State) : State :=
  match s.ring.queries with
  | [] => s
  | (v6, g) :: r =>
    let s := { s with ring := { s.ring with queries := r } }
    if s.cm F.RING_IP_CFG_REPORT = 1 then
      s.sendReports 2 (s.cset.rxAddrs.filter (fun a => (isMapped4 a != v6) && (g == 0 || a == g)))
    else s

/-- At an open, groups that are received from now on are reported (R127): records of type CHANGE_TO_EXCLUDE. [PRESUMED: log 141] -/
def State.groupReports (s : State) (old : List Nat) : State :=
  if s.cm F.RING_IP_CFG_REPORT = 1 then s.sendReports 4 (s.cset.rxAddrs.filter (fun a => !old.contains a)) else s

/-- An event that gives a number for the pound and comes at most once in it: the first port that has one. [DESIGN CHOICE: log 142] -/
def State.onePerPound (s : State) (code block : Nat) (l : List Nat) : State :=
  match (List.range 2).find? (fun x => decide (0 < l.getD x 0)) with
  | some x => s.raiseI code block x x (l.getD x 0)
  | none => s

/-- The events of the closing pound that give a number for the pound: 0x403 for each port, 0x406, 0x507, 0x509 (their tables). -/
def State.ringPoundReports (s : State) : State :=
  let s := s.each (List.range 2) (fun s x =>
    s.when (0 < s.ring.fecBad.getD x 0) (fun s => s.raiseI 0x403 bRING x x (s.ring.fecBad.getD x 0)))
  let s := ((s.onePerPound 0x406 bRING s.ring.tagBad).onePerPound 0x507 bTIME s.ring.dropEgr).onePerPound 0x509 bTIME s.ring.skipTc
  { s with ring := { s.ring with fecBad := [0, 0], tagBad := [0, 0], dropEgr := [0, 0], skipTc := [0, 0] } }

end Sys2Proof.Machine
end

