-- ==== Sys2Proof/Machine/Time.lean ====
section
/-! DEFINITION. Network time: the slave clock, the servo, free-run, pulses and captures, and launch times (R137 to R155). -/

namespace Sys2Proof.Machine

/-- A PTP timestamp of 10 bytes in 2^-16 ns. -/
def ptpStamp (m : List Byte) (off : Nat) : Int := ((beAt m off 6 * 1000000000 + beAt m (off + 6) 4) * 65536 : Nat)

/-- A message's correctionField in 2^-16 ns. -/
def ptpCorr (m : List Byte) : Int := signed 64 (beAt m 8 8)

/-- A message's sourcePortIdentity. -/
def ptpPort (m : List Byte) : Nat := beAt m 20 10

/-- A message's logMessageInterval. -/
def ptpLog (m : List Byte) : Int := signed 8 (beAt m 33 1)

/-- Version, minor version and domain are the slave's (R137). -/
def State.ptpOurs (s : State) (m : List Byte) : Bool :=
  beAt m 1 1 % 16 == 2 && decide (beAt m 1 1 / 16 ≤ 1) && beAt m 4 1 == s.cm F.TIME_PTP_CFG_DOMAIN

/-- Take the first queued PTP message for which `p` holds. -/
def takePtp (p : PtpMsg → Bool) : List PtpMsg → Option (PtpMsg × List PtpMsg)
  | [] => none
  | m :: r => if p m then some (m, r) else (takePtp p r).map (fun q => (q.1, m :: q.2))

/-- An interval of 2^log s in ns. -/
def logNs (l : Int) : Nat := if 0 ≤ l then 1000000000 * 2 ^ l.toNat else 1000000000 / 2 ^ (-l).toNat

/-- Lists of numbers in dictionary order: the comparison of the best master clock algorithm. -/
def lexLt : List Nat → List Nat → Bool
  | [], _ => false
  | _ :: _, [] => false
  | a :: r, b :: q => if a < b then true else if b < a then false else lexLt r q

/-- The data set an Announce gives, in the order the algorithm compares it: priority1, clockClass, clockAccuracy,
offsetScaledLogVariance, priority2, grandmasterIdentity, stepsRemoved, sourcePortIdentity. -/
def announceRank (m : List Byte) : List Nat :=
  [beAt m 47 1, beAt m 48 1, beAt m 49 1, beAt m 50 2, beAt m 52 1, beAt m 53 8, beAt m 61 2, ptpPort m]

/-- The data set `a` is better than `b` (R140): of two grandmasters the first difference decides, of one grandmaster the shorter path and then
the sender's port identity. [PRESUMED: log 54] -/
def rankBetter (a b : List Nat) : Bool := if a.getD 5 0 = b.getD 5 0 then lexLt (a.drop 6) (b.drop 6) else lexLt a b

/-- A master is qualified at instant `now` (R137, R140): its Syncs keep their interval, its stepsRemoved is below 255, and two of its Announces
came within the last four announce intervals; the one selected needs none until its timeout. [PRESUMED: log 54] -/
def Master.ok (m : Master) (now : Nat) (current : Option Nat) : Bool :=
  m.syncOk && decide (m.rank.getD 6 0 < 255) && (current == some m.portId || match m.prevAt with | some p => decide (now ≤ p + 4 * logNs m.logInt) | none => false)

/-- The best of the qualified masters (R140). [PRESUMED: log 54] -/
def bestMaster (l : List Master) (now : Nat) (current : Option Nat) : Option Master :=
  l.foldl (fun b m =>
    if ¬ m.ok now current then b
    else match b with
      | none => some m
      | some c => if rankBetter m.rank c.rank then some m else some c) none

/-- A saturated signed 32-bit reading of a number. -/
def sat32 (i : Int) : Nat := unsigned 32 (clampI (-(2 ^ 31)) (2 ^ 31 - 1) i)

/-- The grandmaster registers. -/
def State.showGm (s : State) (id : Nat) : State :=
  (s.wr F.TIME_GM0_ID (id % 2 ^ 32)).wr F.TIME_GM1_ID (id / 2 ^ 32)

/-- The servo's limit: 500 ppm in 2^-16 ppb (R143). -/
def servoLim : Int := 32768000000

/-- Set the rate u (R143, R146). -/
def State.setRate (s : State) (u : Int) : State :=
  let s := { s with clk := { s.clk with rate := u } }
  s.wr F.TIME_FREQ_VALUE (sat32 (sar u 8))

/-- LOCKED falls with a cause (R144), event 0x501. -/
def State.unlock (s : State) (cause : Nat) : State :=
  if s.rd F.TIME_STATUS_LOCKED = 0 then s
  else (s.wr F.TIME_STATUS_LOCKED 0).raise 0x501 bTIME cause (sat32 (sar s.time.offset 8))

/-- Free-run is entered (R146): integ frozen, u = integ + ff, event 0x503. -/
def State.enterFreeRun (s : State) : State :=
  let s := s.unlock 2
  let s := { s with time := { s.time with master := none, portSet := false, pend := none, req := none, sm := none, path := none, inRun := 0, outRun := 0 } }
  let s := (s.wr F.TIME_STATUS_FREE_RUN 1).wr F.TIME_STATUS_STATE 1
  let s := s.setRate (s.time.integ + s.time.ff)
  s.raise 0x503 bTIME (s.rd F.TIME_FREQ_VALUE) (s.rd F.TIME_FF_TEMP_TEMP)

/-- The port on which a Sync arrived with the larger HOP (R140): 0 East, 1 West; a tie selects East. -/
def hopPort (hops : List Nat) : Nat := if hops.getD 0 0 < hops.getD 1 0 then 1 else 0

/-- The time port at the selection of a master (R140): by the copies of its latest Sync; where none was heard, its next Sync decides. [DEDUCED: log 143] -/
def State.firstPort (s : State) (y : SyncSeen) : State :=
  let s := { s with time := { s.time with syncAt := y.ats, syncHop := y.hops, syncInt := y.int, portSeq := some y.seq, portSet := y.hops.all (· != 0) } }
  s.wr F.TIME_STATUS_PORT (hopPort y.hops)

/-- A master is selected (R140, R146): event 0x502; the servo resumes with integ unchanged. -/
def State.selectMaster (s : State) (m : Master) : State :=
  let s := s.unlock 3
  let s := { s with time := { s.time with master := some m, syncAt := [0, 0], syncHop := [0, 0], portSet := false, portSeq := none, pend := none, req := none, sm := none, path := none, inRun := 0, outRun := 0 } }
  let s := match m.sync with | some y => s.firstPort y | none => s
  let s := ((s.wr F.TIME_STATUS_FREE_RUN 0).wr F.TIME_STATUS_TIME_SET 1).wr F.TIME_STATUS_STATE 2
  (s.showGm m.gmId).raise 0x502 bTIME (m.gmId % 2 ^ 32) (m.gmId / 2 ^ 32)

/-- Master selection over the masters heard (R140): where none is qualified the master is lost (R146). [PRESUMED: log 54] -/
def State.runBmca (s : State) : State :=
  match bestMaster s.time.masters s.clk.now (s.time.master.map Master.portId) with
  | none => if s.time.master.isSome then s.enterFreeRun else s
  | some m =>
    match s.time.master with
    | some c =>
      if c.portId = m.portId then
        let s := { s with time := { s.time with master := some m } }
        if c.gmId = m.gmId then s else s.showGm m.gmId
      else s.selectMaster m
    | none => s.selectMaster m

/-- The masters heard, without the one of a port identity. -/
def State.dropMaster (s : State) (id : Nat) : State :=
  { s with time := { s.time with masters := s.time.masters.filter (fun y => y.portId ≠ id) } }

/-- An Announce (R140): the second copy of one from the other ring adds nothing. -/
def State.announce (s : State) : State :=
  match takePtp (fun m => beAt m.msg 0 1 % 16 == 11) s.ring.ptp with
  | none => s
  | some (p, r) =>
    let s := { s with ring := { s.ring with ptp := r } }
    let m := p.msg
    let li := ptpLog m
    if ¬ s.ptpOurs m ∨ m.length < 64 ∨ ¬ s.ring.weirOpen then s
    else if li < -3 ∨ 3 < li then (s.dropMaster (ptpPort m)).runBmca
    else
      let id := ptpPort m
      let old := s.time.masters.find? (fun x => x.portId == id)
      let sq := beAt m 30 2
      if (match old with | some o => o.lastSeq == sq | none => false) then s
      else
        let x : Master :=
          { portId := id, gmId := beAt m 53 8, rank := announceRank m, logInt := li, lastSeq := sq, lastAt := s.clk.now,
            prevAt := old.map Master.lastAt, addr := p.src, mac := p.mac, syncOk := (old.map Master.syncOk).getD true, sync := old.bind Master.sync }
        let s := s.dropMaster id
        State.runBmca { s with time := { s.time with masters := x :: s.time.masters } }

/-- The last Announce of master `m` lies announceReceiptTimeout intervals back (R146). -/
def State.silent (s : State) (m : Master) : Bool := decide (m.lastAt + s.cm F.TIME_PTP_CFG_ANN_TIMEOUT * logNs m.logInt ≤ s.clk.now)

/-- No Announce for announceReceiptTimeout intervals (R146): free-run is entered; another qualified master is then selected. -/
def State.announceTimeout (s : State) : State :=
  match s.time.master with
  | none => s
  | some m => if s.silent m then ((s.dropMaster m.portId).enterFreeRun).runBmca else s

/-- Device time steps by `d`, in 2^-16 ns (R145); the block slots of the panel lanes go on without a break. -/
def State.stepClock (s : State) (d : Int) : State :=
  { s with clk := { s.clk with devFine := natOf ((s.clk.devFine : Int) + d * 1000000000) },
           lanes := { s.lanes with enabledAt := s.lanes.enabledAt.map (fun e => natOf ((e : Int) + d)) } }

/-- The servo computation (R143, R145) from the offset of a Sync from the path. [DEDUCED: log 55] -/
def State.servo (s : State) (ms : Int) : State :=
  match s.time.sm with
  | none => s
  | some sm =>
    let pd := sar (ms + sm) 1
    let path := match s.time.path with | none => pd | some p => p + sar (pd - p) 4
    let asym := s.cmS F.TIME_ASYM_ASYM * 256
    let o := ms - path - asym
    let ki : Int := s.cm F.TIME_SERVO_KI
    let kp : Int := s.cm F.TIME_SERVO_KP
    let stepping := (s.cm F.TIME_LOCK_STEP_US : Int) * 65536000 < o.natAbs
    let integ := if stepping then s.time.integ else clampI (-servoLim) servoLim (s.time.integ + sar (o * ki) 8)
    let u := clampI (-servoLim) servoLim ((if stepping then 0 else sar (o * kp) 8) + integ + s.time.ff)
    let inside := o.natAbs ≤ s.cm F.TIME_LOCK_LOCK_NS * 65536
    let s := { s with time := { s.time with path := some path, integ := integ, offset := o, inRun := if inside then s.time.inRun + 1 else 0, outRun := if inside then 0 else s.time.outRun + 1 } }
    let s := (s.wr F.TIME_OFFSET_VALUE (sat32 (sar o 8))).wr F.TIME_PATH_VALUE (sat32 (sar path 8))
    let s := s.setRate u
    if ¬ stepping then s
    else if s.lock.everOpened then { s with time := { s.time with step := some (-o) } }
    else s.stepClock (-o)

/-- The clock step that waits for a lock cycle acts at its open (R145), event 0x504. [DEDUCED: log 55] -/
def State.clockStep (s : State) (p : Nat) : State :=
  match s.time.step with
  | none => s
  | some d =>
    let s := State.stepClock { s with time := { s.time with step := none } } d
    s.raise 0x504 bTIME (sat32 (Int.tdiv d 65536)) p

/-- The time port (R140): 0 East, 1 West. -/
def State.timePort (s : State) : Nat := s.rd F.TIME_STATUS_PORT

/-- The time port moves to port `x` (R140): the path delay is measured anew. -/
def State.movePort (s : State) (x : Nat) : State :=
  State.wr { s with time := { s.time with portSet := true, sm := none, path := none, req := none, pend := none } } F.TIME_STATUS_PORT x

/-- A Sync of the selected master notes its port's HOP. The first Sync after a selection before which none was heard decides the time port by
its copies: the larger HOP, a tie selecting East (R140). [DEDUCED: log 143] -/
def State.noteSync (s : State) (p : PtpMsg) : State :=
  let t := s.time
  let q := beAt p.msg 30 2
  let hop := modAt t.syncHop p.port (fun _ => p.hop + 1)
  let s := { s with time := { t with syncHop := hop, syncAt := modAt t.syncAt p.port (fun _ => s.clk.now), syncInt := ptpLog p.msg } }
  if t.portSet then s
  else if t.portSeq.isNone then State.wr { s with time := { s.time with portSeq := some q } } F.TIME_STATUS_PORT p.port
  else if t.portSeq = some q ∧ p.port ≠ s.timePort ∧ hopPort hop = p.port then s.movePort p.port
  else { s with time := { s.time with portSet := decide (t.portSeq ≠ some q) || p.port != s.timePort } }

/-- What a Sync adds to those heard of its master: a new sequenceId takes the place of the one before it. -/
def SyncSeen.hear (y : Option SyncSeen) (p : PtpMsg) (now : Nat) : SyncSeen :=
  let q := beAt p.msg 30 2
  let hops := match y with | some y => if y.seq = q then y.hops else [0, 0] | none => [0, 0]
  { seq := q, hops := modAt hops p.port (fun _ => p.hop + 1), ats := modAt ((y.map SyncSeen.ats).getD [0, 0]) p.port (fun _ => now), int := ptpLog p.msg }

/-- A Sync is noted with the master that sent it (R137, R140), whether its interval is within the limits: where it leaves or enters them, the
selection runs again. -/
def State.hearSync (s : State) (p : PtpMsg) (ok : Bool) : State :=
  let id := ptpPort p.msg
  let turned := s.time.masters.any (fun x => x.portId == id && x.syncOk != ok)
  let hear (x : Master) : Master := if x.portId = id then { x with syncOk := ok, sync := some (SyncSeen.hear x.sync p s.clk.now) } else x
  let s := { s with time := { s.time with masters := s.time.masters.map hear } }
  if turned then s.runBmca else s

/-- A Sync's logMessageInterval is one of R137. -/
def syncIntOk (li : Int) : Bool := decide (-7 ≤ li ∧ li ≤ 1)

/-- A Sync or Follow_Up (R143): from the master, on the time port. -/
def State.ptpSync (s : State) : State :=
  match takePtp (fun m => beAt m.msg 0 1 % 16 == 0 || beAt m.msg 0 1 % 16 == 8) s.ring.ptp with
  | none => s
  | some (p, r) =>
    let m := p.msg
    let isSync := beAt m 0 1 % 16 == 0
    let s := { s with ring := { s.ring with ptp := r } }
    let s := if isSync ∧ s.ptpOurs m then s.hearSync p (syncIntOk (ptpLog m)) else s
    match s.time.master with
    | none => s
    | some ma =>
      if ¬ s.ptpOurs m ∨ m.length < 44 ∨ ptpPort m ≠ ma.portId then s
      else if isSync then
        if ¬ syncIntOk (ptpLog m) then s
        else
          let s := s.noteSync p
          if p.port ≠ s.timePort then s
          else if bitAt (beAt m 6 1) 1 then
            { s with time := { s.time with pend := some { seq := beAt m 30 2, t2 := p.at_, corr := ptpCorr m } } }
          else s.servo ((p.at_ : Int) - ptpStamp m 34 - ptpCorr m)
      else
        match s.time.pend with
        | none => s
        | some w =>
          if w.seq ≠ beAt m 30 2 ∨ p.port ≠ s.timePort then s
          else
            let s := { s with time := { s.time with pend := none } }
            s.servo (w.t2 - ptpStamp m 34 - w.corr - ptpCorr m)

/-- A Delay_Resp (R141): matched by sequenceId and requestingPortIdentity to the copy sent out of the time port, it gives a
path sample. -/
def State.delayResp (s : State) : State :=
  match takePtp (fun m => beAt m.msg 0 1 % 16 == 9) s.ring.ptp with
  | none => s
  | some (p, r) =>
    let s := { s with ring := { s.ring with ptp := r } }
    let m := p.msg
    match s.time.master, s.time.req with
    | some ma, some q =>
      let port := s.timePort
      let t3 := if port = 0 then q.t3e else q.t3w
      let me := clockIdentity s.mac * 65536 + (port + 1)
      match t3 with
      | none => s
      | some t3 =>
        if ¬ s.ptpOurs m ∨ m.length < 54 ∨ ptpPort m ≠ ma.portId ∨ beAt m 30 2 ≠ q.seq ∨ beAt m 44 10 ≠ me ∨ p.port ≠ port then s
        else
          let sm := ptpStamp m 34 - t3 - ptpCorr m
          { s with time := { s.time with sm := some sm, req := none, reqInt := ptpLog m } }
    | _, _ => s

/-- A Delay_Req as it leaves port `x` (R137, R141): over the transport of TIME_PTP_CFG, to the PTP group or to the master; over IPv6 two
bytes follow the message (R139). [PRESUMED: log 141] -/
def State.delayReqFrame (s : State) (x q : Nat) (ma : Master) : List Byte :=
  let uni := s.cm F.TIME_PTP_CFG_DREQ_UNICAST == 1
  let tr := s.cm F.TIME_PTP_CFG_TRANSPORT
  let m := delayReqMsg s.mac (s.cm F.TIME_PTP_CFG_DOMAIN) (x + 1) q uni
  if tr = 0 then s.ownFrame x (if uni then ma.mac else 0x011B19000000) 0x88F7 m
  else
    let grp := if tr = 1 then mapped4 0xE0000181 else 0xFF0E * 2 ^ 112 + 0x181
    let addr := if uni then ma.addr else grp
    let r := udpPacket (s.cm F.RING_IP4_ADDR) (linkLocal s.mac) addr 319 319 (s.cm F.RING_IP_CFG_TTL) (if tr = 1 then m else m ++ [0#8, 0#8])
    s.ownFrame x (if uni then ma.mac else groupMac grp) r.1 r.2

/-- The Delay_Req interval passes (R141): one on both ports in the PTP class; none over IPv4 while RING_IP4 is 0. -/
def State.delayReqTimer (s : State) : State :=
  match s.time.master with
  | none => s
  | some ma =>
    if s.cm F.TIME_PTP_CFG_TRANSPORT = 1 ∧ s.cm F.RING_IP4_ADDR = 0 then s
    else
      let q := (s.time.reqSeq + 1) % 65536
      let s := { s with time := { s.time with reqSeq := q, req := some { seq := q, t3e := none, t3w := none } } }
      let l (x : Nat) : LFrame := { LFrame.of s.clk.now 1 0 (s.delayReqFrame x q ma) with req := some q }
      (s.queueOn 0 (l 0)).queueOn 1 (l 1)

/-- Sync intervals since the master's last Sync on port `p`. -/
def State.syncGap (s : State) (p : Nat) : Nat := (s.clk.now - s.time.syncAt.getD p 0) / max 1 (logNs s.time.syncInt)

/-- No Sync on the time port for 3 sync intervals while Syncs arrive on the other (R140): the time port changes, event 0x508. Syncs arrive
on a port where the last came within 3 intervals. [DEDUCED: log 143] -/
def State.timePortTimeout (s : State) (missed : Nat) : State :=
  let p := s.timePort
  if s.time.master.isNone ∨ s.time.syncHop.getD (1 - p) 0 = 0 ∨ s.syncGap p < 3 ∨ 3 ≤ s.syncGap (1 - p) then s
  else
    (s.movePort (1 - p)).raise 0x508 bTIME (1 - p) missed

/-- LOCKED moves (R144): set after 16 computations inside LOCK_NS, cleared after 4 outside. The port state is SLAVE while LOCKED is 1, and
UNCALIBRATED again after it. [DESIGN CHOICE: log 151] -/
def State.lockChange (s : State) : State :=
  if s.rd F.TIME_STATUS_LOCKED = 0 then
    if 16 ≤ s.time.inRun ∧ s.rd F.TIME_STATUS_FREE_RUN = 0 then
      let s := (s.wr F.TIME_STATUS_LOCKED 1).wr F.TIME_STATUS_STATE 3
      s.raise 0x500 bTIME (sat32 (sar s.time.offset 8)) (s.rd F.TIME_GM0_ID)
    else s
  else if 4 ≤ s.time.outRun then (s.unlock 1).wr F.TIME_STATUS_STATE 2
  else s

/-- Entries of the TIME_FF table (R97): temperature and correction. -/
def ffEntries (d : List Byte) : List (Int × Int) :=
  (List.range (d.length / 8)).map (fun i => (signed 16 (leAt d (8 * i) 2), signed 32 (leAt d (8 * i + 4) 4)))

/-- The feed-forward correction at temperature `t` (R147). -/
def ffAt (e : List (Int × Int)) (t : Int) : Int :=
  match e with
  | [] => 0
  | (t0, c0) :: r =>
    if t ≤ t0 then c0
    else
      match r with
      | [] => c0
      | (t1, c1) :: q =>
        if t < t1 then c0 + Int.tdiv ((c1 - c0) * (t - t0)) (t1 - t0) else ffAt ((t1, c1) :: q) t

/-- The feed-forward term is taken anew from the temperature of a housekeeping round (R146, R147). -/
def State.updateFf (s : State) (table : List Byte) (temp : Int) : State :=
  let ff := ffAt (ffEntries table) temp
  let s := { s with time := { s.time with ff := ff } }
  let s := (s.wr F.TIME_FF_CORR_VALUE (sat32 (sar ff 8))).wr F.TIME_FF_TEMP_TEMP (unsigned 16 temp)
  if s.rd F.TIME_STATUS_FREE_RUN = 1 then s.setRate (s.time.integ + ff) else s

/-- A pulse output rises for `width` ns. -/
def State.pulse (s : State) (p : PulsePin) (width : Nat) : State :=
  { s with time := { s.time with pulses := s.time.pulses.filter (fun q => q.1 ≠ p) ++ [(p, s.clk.now + width)] } }

/-- A pulse output falls when its width has elapsed (R148, R370, R371). -/
def State.pulseEnd (s : State) (p : PulsePin) : State :=
  { s with time := { s.time with pulses := s.time.pulses.filter (fun q => !(q.1 == p && decide (q.2 ≤ s.clk.now))) } }

/-- Device time lies within ±5 ns of a whole multiple of `per` ns (R148). -/
def State.nearMultiple (s : State) (per : Nat) : Bool :=
  let r := s.dev % (max 1 per * 65536)
  decide (r ≤ 5 * 65536 ∨ max 1 per * 65536 ≤ r + 5 * 65536)

/-- Configuration fields of TIME_EVTn. -/
def evtMode (n : Nat) : Fld := if n = 0 then F.TIME_EVT0_CFG_MODE else F.TIME_EVT1_CFG_MODE
def evtEdge (n : Nat) : Fld := if n = 0 then F.TIME_EVT0_CFG_EDGE else F.TIME_EVT1_CFG_EDGE

/-- An edge is captured in device time (R148): 0 to 1.6 ns after it at the ball, which of them is left open. [DESIGN CHOICE: log 57] -/
def State.capture (s : State) (input : Nat) (rising : Bool) : State :=
  let on : Bool :=
    if input = 0 then rising
    else if input < 3 then s.cm (evtMode (input - 1)) == 1 && (s.cm (evtEdge (input - 1)) == (if rising then 0 else 1))
    else false
  if ¬ on then s
  else
    let (c, s) := s.chooseNat
    let d := s.dev + c % 104858
    let ns := d / 65536 % 1000000000
    let sec := d / (65536 * 1000000000)
    let s := s.wrW (R.TIME_CAPn input 0) (BitVec.ofNat 32 ns)
    let s := s.wrW (R.TIME_CAPn input 1) (BitVec.ofNat 32 sec)
    let s := s.wrW (R.TIME_CAPn input 2) (BitVec.ofNat 32 (sec / 2 ^ 32 % 65536))
    s.raise 0x50A bTIME input ns

/-- The most rows a frame can carry (R27): period in 2^-16 ns, strip in px, bits per pixel. -/
def maxRows (period strip bpp : Nat) : Nat :=
  let periodNs := (period + 32768) / 65536
  let blocks := 1750 * periodNs / 1000
  let dataBlocks := blocks * 16383 / 16384
  let rowBlocks := (strip * bpp + 63) / 64 + 1
  dataBlocks / rowBlocks

/-- The period TIME_PERIOD_NS and TIME_PERIOD_FRAC of a committed set, in 2^-16 ns. [DEDUCED: log 27] -/
def CSet.period (c : CSet) : Nat := c.fld F.TIME_PERIOD_NS_NS * 65536 + c.fld F.TIME_PERIOD_FRAC_FRAC

/-- The launch time of pound `p`. -/
def State.launchOf (s : State) (p : Nat) : Option Nat := (s.time.launches.find? (fun e => e.1 == p)).map Prod.snd

/-- Note L(p), keeping the newest eight. [DEDUCED: log 27] -/
def State.setLaunch (s : State) (p l : Nat) : State :=
  { s with time := { s.time with launches := ((p, l) :: s.time.launches.filter (fun e => e.1 ≠ p)).take 8 } }

/-- The first close tc (R150) from device time at step 14: L(0) is the next whole multiple of T where the time is set. -/
def firstClose (t14 t lead : Nat) (timeSet : Bool) : Nat :=
  let e := t14 + 2 * t + lead
  let l0 := if timeSet then (e + t - 1) / t * t else e
  l0 - 2 * t - lead

end Sys2Proof.Machine
end

