-- ==== Sys2Proof/Machine/Basin.lean ====
section
/-! DEFINITION. The Basin: moorings, address orders, error correction, refresh, scrub and quarantine (R258 to R284). -/

namespace Sys2Proof.Machine

/-- Moorings of the Basin (R28). -/
def moorCount : Nat := 49152

/-- Bytes of a mooring. -/
def moorSize : Nat := 2097152

/-- Bytes of the Basin: 4 × 24 GiB (R28). -/
def basinSize : Nat := moorCount * moorSize

/-- What an unlisted Basin byte reads as: zero, as ECC initialisation leaves it (R264). [DEDUCED: log 12] -/
def basinDefault (_ : Nat) : Byte := 0#8

/-- The canonical form of the Basin's contents. -/
abbrev BasinSt.memWf (b : BasinSt) : Bool := Sparse.wf basinDefault b.mem

/-- Read one Basin byte. [DEDUCED: log 12] -/
def BasinSt.byte (b : BasinSt) (a : Nat) : Byte := Sparse.get basinDefault b.mem a

/-- Read `n` Basin bytes. -/
def BasinSt.read (b : BasinSt) (a n : Nat) : List Byte := Sparse.getAll basinDefault b.mem a n

/-- Write Basin bytes. -/
def BasinSt.write (b : BasinSt) (a : Nat) (d : List Byte) : BasinSt := { b with mem := Sparse.setAll basinDefault b.mem a d }

/-- A little-endian number of `n` Basin bytes. -/
def BasinSt.readLe (b : BasinSt) (a n : Nat) : Nat := le (b.read a n)

/-- Classes of moorings (R263). -/
def cFRAME : Nat := 0
def cTEXEL : Nat := 1
def cREF : Nat := 2
def cPACKET : Nat := 3
def cCARD : Nat := 4
def cTAP : Nat := 5
def cCAMERA : Nat := 6
def cENCODE : Nat := 7
def cTOW : Nat := 8
def cSCRATCH : Nat := 9
def cCTX : Nat := 10
def cSYS : Nat := 11

/-- The order of a class as committed (R262): 0 SPREAD, 1 STREAM, 2 BANKROT, 3 STACK; CTX and SYS are BANKROT (R263). -/
def State.classOrder (s : State) (c : Nat) : Nat :=
  if c < 10 then bitsOf (s.cset.regs.word R.BASIN_ORDER).toNat (2 * c + 1) (2 * c) else 2

/-- Where offset `o` of mooring `m` lies (R261): pseudo-channel and local address. -/
def placeOf (order m o : Nat) : Nat × Nat :=
  if order = 0 then
    let c := o / 256
    (bitsOf c 6 0 ^^^ ((bitsOf c 12 7 <<< 1) % 128) ^^^ bitsOf m 6 0, m * 16384 + bitsOf c 12 7 * 256 + o % 256)
  else if order = 1 then
    let c := o / 2048
    (bitsOf c 6 0 ^^^ bitsOf m 6 0, m * 16384 + bitsOf c 9 7 * 2048 + o % 2048)
  else if order = 2 then
    let c := o / 1024
    (bitsOf c 6 0 ^^^ bitsOf m 6 0, m * 16384 + (bitsOf c 10 7 + bitsOf m 10 7) % 16 * 1024 + o % 1024)
  else
    let c := o / 256
    (32 * bitsOf m 1 0 + (bitsOf c 4 0 ^^^ bitsOf m 6 2), (m - bitsOf m 1 0) * 16384 + bitsOf c 12 5 * 256 + o % 256)

/-- A byte's place in the stacks (R258): stack, channel, pseudo-channel of the channel, row with stack ID, bank, column byte of the 1 KiB page. -/
structure HbmPlace where
  stack  : Nat
  chan   : Nat
  pc     : Nat
  row    : Nat
  bank   : Nat
  column : Nat
  deriving DecidableEq, Repr

/-- Pseudo-channel `p` and a local address, split (R258). -/
def hbmPlace (p l : Nat) : HbmPlace :=
  { stack := p / 32, chan := bitsOf p 4 1, pc := p % 2, row := l / 2 ^ 14, bank := bitsOf l 13 10, column := bitsOf l 9 0 }

/-- Pseudo-channel and local address of Basin byte address `a`, by the order of its mooring (R261). -/
def BasinSt.local_ (b : BasinSt) (a : Nat) : Nat × Nat :=
  let m := a / moorSize
  placeOf (match Sparse.find b.moors m with | some e => e.order | none => 0) m (a % moorSize)

/-- Where Basin byte address `a` lies in the stacks. -/
def BasinSt.place (b : BasinSt) (a : Nat) : HbmPlace := hbmPlace (b.local_ a).1 (b.local_ a).2

/-- Pseudo-channel that holds Basin byte address `a`, numbered over the stacks (R258). -/
def BasinSt.pseudo (b : BasinSt) (a : Nat) : Nat := 32 * (b.place a).stack + 2 * (b.place a).chan + (b.place a).pc

/-- A mooring's entry; none where it is FREE. -/
def BasinSt.entry (b : BasinSt) (m : Nat) : Option Mooring := Sparse.find b.moors m

/-- The mooring can be allocated with `order` (R262, R278): it is FREE, and its quad holds no mooring of the other kind. -/
def BasinSt.canTake (b : BasinSt) (order m : Nat) : Bool :=
  (b.entry m).isNone &&
    (List.range 4).all (fun i =>
      match b.entry (m / 4 * 4 + i) with
      | none => true
      | some e => (e.order == 3) == (order == 3))

/-- FREE moorings (BASIN_FREE): all without an entry, and those freed that are not yet allocatable. -/
def BasinSt.free (b : BasinSt) : Nat := moorCount - (b.moors.filter (fun e => e.2.st ≠ .leaving)).length

/-- The lowest-numbered mooring that can be taken, by search from `m`. -/
def BasinSt.findFree (b : BasinSt) (order : Nat) : Nat → Nat → Option Nat
  | 0, _ => none
  | fuel + 1, m => if b.canTake order m then some m else BasinSt.findFree b order fuel (m + 1)

/-- Allocate a mooring of a class (R262, R273): TEXEL, REF, CARD, CAMERA, ENCODE, TOW and SCRATCH never take the last `rsv`. -/
def BasinSt.alloc (b : BasinSt) (cls order rsv : Nat) (st : MoorState) : Option (Nat × BasinSt) :=
  let keep := if cls = cTEXEL ∨ cls = cREF ∨ cls = cCARD ∨ (cCAMERA ≤ cls ∧ cls ≤ cSCRATCH) then rsv else 0
  if b.free ≤ keep then none
  else
    match b.findFree order moorCount 0 with
    | none => none
    | some m =>
      some (m, { b with moors := Sparse.insert b.moors m { cls := cls, order := order, st := st, count := 0, last := none, bad := false } })

/-- The smallest FREE since the last read (BASIN_FREE_LOW). -/
def State.noteFree (s : State) : State := s.wr F.BASIN_FREE_LOW_LOW (min (s.rd F.BASIN_FREE_LOW_LOW) s.basin.free)

/-- The free pool cannot serve an allocation (R279). -/
def State.allocFail (s : State) (cls : Nat) : State :=
  (s.inc F.BASIN_ALLOC_FAIL_COUNT).raiseOnce 0xA04 bBASIN cls cls s.pound

/-- Allocate one mooring of a class; where the pool cannot serve it, count it. -/
def State.alloc (s : State) (cls : Nat) : Option Nat × State :=
  match s.basin.alloc cls (s.classOrder cls) (s.cm F.BASIN_RSV_PKT) .held with
  | some (m, b) => (some m, State.noteFree { s with basin := b })
  | none => (none, s.allocFail cls)

/-- Allocate `n` moorings, all or none. -/
def BasinSt.allocMany (b : BasinSt) (cls order rsv : Nat) (st : MoorState) : Nat → Option (List Nat × BasinSt)
  | 0 => some ([], b)
  | n + 1 =>
    match b.alloc cls order rsv st with
    | none => none
    | some (m, b1) =>
      match BasinSt.allocMany b1 cls order rsv st n with
      | none => none
      | some (l, b2) => some (m :: l, b2)

/-- Quarantined moorings. -/
def BasinSt.quarCount (b : BasinSt) : Nat := (b.moors.filter (fun e => e.2.st = .quarantined)).length

/-- Free a mooring (R271, R278): quarantined where a read of it was uncorrectable and fewer than 64 are; otherwise FREE, at once
or after the open's token has been acted on. -/
def BasinSt.release (b : BasinSt) (wait : Bool) (m : Nat) : BasinSt :=
  match b.entry m with
  | none => b
  | some e =>
    if e.bad then
      if b.quarCount < 64 then { b with moors := Sparse.insert b.moors m { e with st := .quarantined, count := 0, last := none } }
      else if wait then { b with quarFull := true, moors := Sparse.insert b.moors m { e with st := .leaving, count := 0, last := none, bad := false } }
      else { b with quarFull := true, moors := Sparse.erase b.moors m }
    else if wait then { b with moors := Sparse.insert b.moors m { e with st := .leaving, count := 0, last := none } }
    else { b with moors := Sparse.erase b.moors m }

/-- Moorings freed at the open become allocatable once the token and the old reads have retired (R278); one found uncorrectable meanwhile
is quarantined (R271). [DEDUCED: log 86] -/
def BasinSt.settle (b : BasinSt) : BasinSt := (b.moors.filter (fun e => e.2.st = .leaving)).foldl (fun b e => b.release false e.1) b

/-- `n` bytes from byte `f` of a list of moorings (R263). -/
def BasinSt.readList (b : BasinSt) (moors : List Nat) (f n : Nat) : List Byte :=
  (List.range n).flatMap (fun i => b.read (moors.getD ((f + i) / moorSize) 0 * moorSize + (f + i) % moorSize) 1)

/-- Bytes are written from byte `f` of a list of moorings on (R263). -/
def BasinSt.writeList (b : BasinSt) (moors : List Nat) : List Byte → Nat → BasinSt
  | [], _ => b
  | d :: r, f => BasinSt.writeList (b.write (moors.getD (f / moorSize) 0 * moorSize + f % moorSize) [d]) moors r (f + 1)

/-- Free a mooring of `s`. -/
def State.freeMoor (s : State) (wait : Bool) (m : Nat) : State := { s with basin := s.basin.release wait m }

/-- A packet is written at `a`. -/
def State.putPacket (s : State) (a : Nat) (d : List Byte) : State := { s with basin := s.basin.write a d }

/-- A packet takes its space in the PACKET mooring being filled (R263, R275), or in the next one: where it lies, with its length. -/
def State.moorPacket (s : State) (d : List Byte) : Option (Nat × Nat) × State :=
  let n := d.length
  let need := ceilDiv n 64 * 64
  let count (b : BasinSt) (m : Nat) : BasinSt :=
    match b.entry m with
    | some e => { b with moors := Sparse.insert b.moors m { e with count := e.count + 1 } }
    | none => b
  match s.basin.fill with
  | some (m, o) =>
    if o + need ≤ moorSize then
      (some (m * moorSize + o, n), State.putPacket { s with basin := { count s.basin m with fill := some (m, o + need) } } (m * moorSize + o) d)
    else
      -- the full mooring is no longer being filled; it is freed when its last packet is done
      let b := { s.basin with fill := none }
      let b := match b.entry m with | some e => if e.count = 0 then b.release false m else b | none => b
      match State.alloc { s with basin := b } cPACKET with
      | (some m', s) => (some (m' * moorSize, n), State.putPacket { s with basin := { count s.basin m' with fill := some (m', need) } } (m' * moorSize) d)
      | (none, s) => (none, s)
  | none =>
    match s.alloc cPACKET with
    | (some m', s) => (some (m' * moorSize, n), State.putPacket { s with basin := { count s.basin m' with fill := some (m', need) } } (m' * moorSize) d)
    | (none, s) => (none, s)

/-- A packet is done (R275): its mooring is freed when its count reaches 0 and it is no longer being filled; at an open it waits (R278). -/
def State.packetGone (s : State) (wait : Bool) (m : Nat) : State :=
  match s.basin.entry m with
  | none => s
  | some e =>
    if e.cls ≠ cPACKET then s
    else
      let filling : Bool := match s.basin.fill with | some (f, _) => f == m | none => false
      let b := { s.basin with moors := Sparse.insert s.basin.moors m { e with count := e.count - 1 } }
      if e.count ≤ 1 ∧ ¬ filling then { s with basin := b.release wait m } else { s with basin := b }

/-- The packet that lies at `a` is done. -/
def State.packetDone (s : State) (a : Nat × Nat) : State := s.packetGone false (a.1 / moorSize)

/-- Packets of a unit or chunk are done. -/
def State.packetsDone (s : State) (l : List (Nat × Nat)) : State := s.each l State.packetDone

/-- Packets held for the partner until the open of the second pound after theirs (R403) are kept while the towpath is up. -/
def State.towHolds (s : State) : Bool := s.paired && s.rd F.TOW_STATUS_UP == 1

/-- The packets of a unit of pound `p` are done but for the towpath (R275, R403). -/
def State.unitDone (s : State) (p : Nat) (l : List (Nat × Nat)) : State :=
  if s.towHolds ∧ laterPound (poundAdd p 2) s.pound then { s with pair := { s.pair with kept := (p, l) :: s.pair.kept } } else s.packetsDone l

/-- At the open of `p` the towpath lets go of the packets of the pounds up to `p - 2`, of all where it is down (R403). -/
def State.towRelease (s : State) (p : Nat) : State :=
  let due (e : Nat × List (Nat × Nat)) : Bool := !s.towHolds || !laterPound (poundAdd e.1 2) p
  let go := s.pair.kept.filter due
  let s := { s with pair := { s.pair with kept := s.pair.kept.filter (fun e => !due e) } }
  s.each go (fun s e => s.each e.2 (fun s a => s.packetGone true (a.1 / moorSize)))

/-- The permanent moorings of step 8 (R273): 32 CTX and one SYS, both BANKROT; all others FREE. -/
def BasinSt.start (b : BasinSt) : BasinSt :=
  let e (c : Nat) : Mooring := { cls := c, order := 2, st := .held, count := 0, last := none, bad := false }
  { b with moors := (List.range 33).map (fun i => (i, e (if i < 32 then cCTX else cSYS))), mem := [], fill := none, quarFull := false }

/-- U of a mooring is fixed (R276, R277). -/
def BasinSt.fixLast (b : BasinSt) (m u : Nat) : BasinSt :=
  match b.entry m with
  | some e => if e.last.isSome then b else { b with moors := Sparse.insert b.moors m { e with last := some u } }
  | none => b

/-- At the open of `p` the moorings with U + 4 come are freed (R276). [DEDUCED: log 86] -/
def BasinSt.openFree (b : BasinSt) (p : Nat) : BasinSt :=
  let due := b.moors.filter (fun e => match e.2.last with
    | some u => e.2.st == .held && !laterPound (poundAdd u 4) p
    | none => false)
  due.foldl (fun b e => b.release true e.1) b

/-- Moorings of a FRAME reservation buffer (R274): rays is COLS × VCOLS × ROWS × VROWS. -/
def frameMoors (rays : Nat) : Nat := ceilDiv (4 * rays) moorSize

/-- The refresh rate a stack temperature asks for (R268), in 1/16 °C: 0 1×, 1 2×, 2 4×; it falls with 3 °C hysteresis. -/
def refreshRate (cur : Nat) (t : Int) : Nat :=
  let up := if t < 85 * 16 then 0 else if t < 95 * 16 then 1 else 2
  let down := if t < 82 * 16 then 0 else if t < 92 * 16 then 1 else 2
  if cur < up then up else if down < cur then down else cur

/-- The refresh rate of stack `k` follows its temperature (R268), event 0xA05. -/
def State.updateRefresh (s : State) (k : Nat) (t : Int) : State :=
  let st := s.rd F.BASIN_STATUS_RATE
  let cur := bitsOf st (2 * k + 1) (2 * k)
  let new := refreshRate cur t
  if new = cur then s
  else (s.wr F.BASIN_STATUS_RATE (putBits st (2 * k + 1) (2 * k) new)).raiseI 0xA05 bBASIN k k new

/-- The Basin accepts traffic. -/
def State.basinReady (s : State) : Bool := s.rd F.BASIN_STATUS_READY == 1 && !s.basin.selfref

/-- A product of GF(2^8) with the field polynomial 0x11D (R259), by `fuel` bits of `b`. -/
def gfMulAux : Nat → Nat → Nat → Nat → Nat
  | 0, _, _, r => r
  | k + 1, a, b, r =>
    let a2 := if 128 ≤ a then (a * 2) ^^^ 0x11D else a * 2
    gfMulAux k a2 (b / 2) (if b % 2 = 1 then r ^^^ a else r)

/-- Product in GF(2^8). -/
def gfMul (a b : Nat) : Nat := gfMulAux 8 a b 0

/-- α^n. -/
def gfPow : Nat → Nat
  | 0 => 1
  | n + 1 => gfMul 2 (gfPow n)

/-- One step of the division by the generator with roots α^0 to α^3: `g` is its low coefficients, high first. -/
def rsStep (g : List Nat) (r : List Nat) (d : Nat) : List Nat :=
  let f := d ^^^ r.headD 0
  List.zipWith (fun x c => x ^^^ gfMul f c) (r.drop 1 ++ [0]) g

/-- The generator's coefficients below the leading one, high first. -/
def rsGen : List Nat :=
  let mulRoot (p : List Nat) (i : Nat) : List Nat :=
    List.zipWith (· ^^^ ·) (p ++ [0]) (0 :: p.map (gfMul (gfPow i)))
  ((List.range 4).foldl mulRoot [1]).drop 1

/-- The four check bytes of a granule (R259): over its 64 bytes and its number, big-endian. -/
def checkBytes (granule : Nat) (data : List Byte) : List Nat :=
  ((data.map BitVec.toNat) ++ ((beBytes 4 granule).map BitVec.toNat)).foldl (rsStep rsGen) [0, 0, 0, 0]

/-- The syndromes of a codeword of 72 positions (R259): values at α^0 to α^3. -/
def syndromes (word : List Nat) : List Nat :=
  (List.range 4).map (fun i => word.foldl (fun a d => gfMul a (gfPow i) ^^^ d) 0)

/-- What the controller makes of errors (position, wrong-by value) in a stored codeword (R259): none 0, corrected 1 with the
position, uncorrectable 2. Positions 0 to 63 are data, 64 to 67 the granule number, 68 to 71 the check bytes. -/
def eccOutcome (errs : List (Nat × Nat)) : Nat × Nat :=
  let w := (List.range 72).map (fun i => errs.foldl (fun a e => if e.1 = i then a ^^^ (e.2 % 256) else a) 0)
  let sy := syndromes w
  if sy.all (· == 0) then (0, 0)
  else
    -- a single error of value v at position i gives syndromes v × α^(k × (71 − i))
    let v := sy.getD 0 0
    match (List.range 72).find? (fun i =>
        v ≠ 0 && (List.range 4).all (fun k => gfMul v (gfPow (k * (71 - i))) == sy.getD k 0)) with
    | some i => if 64 ≤ i ∧ i < 68 then (2, 0) else (1, i)
    | none => (2, 0)

/-- The 64 data bytes, the granule number and the check bytes of the granule that holds `a` (R259). -/
def BasinSt.codeword (b : BasinSt) (a : Nat) : List Nat :=
  let d := b.read (a / 64 * 64) 64
  d.map BitVec.toNat ++ (beBytes 4 (a / 64)).map BitVec.toNat ++ checkBytes (a / 64) d

/-- What the controller leaves wrong in the data bytes of a granule whose errors it takes for a wrong byte at `i`: nothing where that is the one
wrong byte there is. -/
def miscorrection (errs : List (Nat × Nat)) (i : Nat) : List Nat :=
  let w := (List.range 72).map (fun k => errs.foldl (fun a e => if e.1 = k then a ^^^ (e.2 % 256) else a) 0)
  let v := w.foldl (· ^^^ ·) 0
  (List.range 64).map (fun k => w.getD k 0 ^^^ (if k = i then v else 0))

/-- The corrected granule is written back (R260): what the controller takes for its data. -/
def BasinSt.writeBack (b : BasinSt) (a i : Nat) (errs : List (Nat × Nat)) : BasinSt :=
  let x := miscorrection errs i
  if x.all (· == 0) then b
  else b.write (a / 64 * 64) (List.zipWith (fun d e => d ^^^ BitVec.ofNat 8 e) (b.read (a / 64 * 64) 64) x)

/-- A corrected read (R260): counted, for the pseudo-channel where the pound's first correction was. -/
def State.correctedRead (s : State) (a : Nat) : State :=
  let (p, n) := s.basin.ceCount.getD (s.basin.pseudo a, 0)
  State.inc { s with basin := { s.basin with ceCount := some (p, n + 1) } } F.BASIN_ECC_CE_COUNT

/-- At an open event 0xA02 tells the corrections of the pound that ends, once, with the pseudo-channel of the first (R260). [DEDUCED: log 34] -/
def State.correctionReport (s : State) : State :=
  match s.basin.ceCount with
  | some (p, n) => State.raiseI { s with basin := { s.basin with ceCount := none } } 0xA02 bBASIN (p / 32) p n
  | none => s

/-- What a stack counts of a read's command (R258): one retry where its parity failed, and a report of its on-die ECC. [DESIGN CHOICE: log 145] -/
def State.countRead (s : State) (a : Nat) (retry onDie : Bool) : State :=
  { s with basin := { s.basin with stk := modAt s.basin.stk (s.basin.pseudo a / 32) (fun x =>
      { x with retries := x.retries + b2n retry, onDie := x.onDie + b2n onDie }) } }

/-- The record of an uncorrectable read (R271): event 0xA03, count, first address and source, the mooring marked. A free
mooring that the scrubber finds so is quarantined at once. [DEDUCED: log 83] -/
def State.noteUncorrectable (s : State) (a reader : Nat) : State :=
  let m := a / moorSize
  let cls := match s.basin.entry m with | some e => e.cls | none => 0
  let s := s.raiseI 0xA03 bBASIN (s.basin.pseudo a / 32) (a / 64) (cls + reader * 256)
  let s := s.inc F.BASIN_ECC_UE_COUNT
  let s := if s.basin.ueAddr then s
    else (s.wrW R.BASIN_UE_ADDR0 (BitVec.ofNat 32 (a / 64 * 64))).wrW R.BASIN_UE_ADDR1 (BitVec.ofNat 32 (a / 2 ^ 32))
  let s := if s.basin.ueSrc then s else s.wrW R.BASIN_UE_SRC (BitVec.ofNat 32 (cls + reader * 256))
  let s := { s with basin := { s.basin with ueAddr := true, ueSrc := true } }
  match s.basin.entry m with
  | some e => { s with basin := { s.basin with moors := Sparse.insert s.basin.moors m { e with bad := true } } }
  | none =>
    if s.basin.quarCount < 64 then
      let e : Mooring := { cls := 0, order := 0, st := .quarantined, count := 0, last := none, bad := true }
      { s with basin := { s.basin with moors := Sparse.insert s.basin.moors m e } }
    else { s with basin := { s.basin with quarFull := true } }

/-- Every quarantined mooring returns to the free pool and FULL clears (R271, BASIN_QUAR_CLR). -/
def BasinSt.quarClear (b : BasinSt) : BasinSt :=
  { b with moors := b.moors.filter (fun e => e.2.st ≠ .quarantined), quarFull := false }

end Sys2Proof.Machine
end

