-- ==== Sys2Proof/Machine/Crypto.lean ====
section
/-! DEFINITION. The standard algorithms that the rules name: SHA-384 and HMAC-SHA-384 (FIPS 180-4, RFC 2104), AES-128 decryption, its CBC mode
and key unwrap (FIPS 197, RFC 3394), and ECDSA and ECDH on the curve P-384 (FIPS 186-4, SEC 1) (R99, R132 to R136, R449, R450). -/

namespace Sys2Proof.Machine

/-! ### SHA-384 -/

/-- The round constants of SHA-512 and SHA-384. -/
def shaK : List Nat :=
  [0x428A2F98D728AE22, 0x7137449123EF65CD, 0xB5C0FBCFEC4D3B2F, 0xE9B5DBA58189DBBC]
    ++ [0x3956C25BF348B538, 0x59F111F1B605D019, 0x923F82A4AF194F9B, 0xAB1C5ED5DA6D8118]
    ++ [0xD807AA98A3030242, 0x12835B0145706FBE, 0x243185BE4EE4B28C, 0x550C7DC3D5FFB4E2]
    ++ [0x72BE5D74F27B896F, 0x80DEB1FE3B1696B1, 0x9BDC06A725C71235, 0xC19BF174CF692694]
    ++ [0xE49B69C19EF14AD2, 0xEFBE4786384F25E3, 0x0FC19DC68B8CD5B5, 0x240CA1CC77AC9C65]
    ++ [0x2DE92C6F592B0275, 0x4A7484AA6EA6E483, 0x5CB0A9DCBD41FBD4, 0x76F988DA831153B5]
    ++ [0x983E5152EE66DFAB, 0xA831C66D2DB43210, 0xB00327C898FB213F, 0xBF597FC7BEEF0EE4]
    ++ [0xC6E00BF33DA88FC2, 0xD5A79147930AA725, 0x06CA6351E003826F, 0x142929670A0E6E70]
    ++ [0x27B70A8546D22FFC, 0x2E1B21385C26C926, 0x4D2C6DFC5AC42AED, 0x53380D139D95B3DF]
    ++ [0x650A73548BAF63DE, 0x766A0ABB3C77B2A8, 0x81C2C92E47EDAEE6, 0x92722C851482353B]
    ++ [0xA2BFE8A14CF10364, 0xA81A664BBC423001, 0xC24B8B70D0F89791, 0xC76C51A30654BE30]
    ++ [0xD192E819D6EF5218, 0xD69906245565A910, 0xF40E35855771202A, 0x106AA07032BBD1B8]
    ++ [0x19A4C116B8D2D0C8, 0x1E376C085141AB53, 0x2748774CDF8EEB99, 0x34B0BCB5E19B48A8]
    ++ [0x391C0CB3C5C95A63, 0x4ED8AA4AE3418ACB, 0x5B9CCA4F7763E373, 0x682E6FF3D6B2B8A3]
    ++ [0x748F82EE5DEFB2FC, 0x78A5636F43172F60, 0x84C87814A1F0AB72, 0x8CC702081A6439EC]
    ++ [0x90BEFFFA23631E28, 0xA4506CEBDE82BDE9, 0xBEF9A3F7B2C67915, 0xC67178F2E372532B]
    ++ [0xCA273ECEEA26619C, 0xD186B8C721C0C207, 0xEADA7DD6CDE0EB1E, 0xF57D4F7FEE6ED178]
    ++ [0x06F067AA72176FBA, 0x0A637DC5A2C898A6, 0x113F9804BEF90DAE, 0x1B710B35131C471B]
    ++ [0x28DB77F523047D84, 0x32CAAB7B40C72493, 0x3C9EBE0A15C9BEBC, 0x431D67C49C100D4C]
    ++ [0x4CC5D4BECB3E42B6, 0x597F299CFC657E2A, 0x5FCB6FAB3AD6FAEC, 0x6C44198C4A475817]

/-- The initial hash value of SHA-384. -/
def shaH : List Nat :=
  [0xCBBB9D5DC1059ED8, 0x629A292A367CD507, 0x9159015A3070DD17, 0x152FECD8F70E5939]
    ++ [0x67332667FFC00B31, 0x8EB44A8768581511, 0xDB0C2E0D64F98FA7, 0x47B5481DBEFA4FA4]

/-- A 64-bit word rotated right. -/
def rotr64 (x n : Nat) : Nat := (x >>> n ||| x <<< (64 - n)) % 2 ^ 64

/-- The functions of a round. -/
def shaBig0 (x : Nat) : Nat := rotr64 x 28 ^^^ rotr64 x 34 ^^^ rotr64 x 39
def shaBig1 (x : Nat) : Nat := rotr64 x 14 ^^^ rotr64 x 18 ^^^ rotr64 x 41
def shaSmall0 (x : Nat) : Nat := rotr64 x 1 ^^^ rotr64 x 8 ^^^ x >>> 7
def shaSmall1 (x : Nat) : Nat := rotr64 x 19 ^^^ rotr64 x 61 ^^^ x >>> 6
def shaCh (x y z : Nat) : Nat := (x &&& y) ^^^ ((2 ^ 64 - 1 - x) &&& z)
def shaMaj (x y z : Nat) : Nat := (x &&& y) ^^^ (x &&& z) ^^^ (y &&& z)

/-- The rounds with the constants left, on the sixteen schedule words from the present one on and the eight working variables. -/
def shaRounds : List Nat → List Nat → List Nat → List Nat
  | [], _, v => v
  | k :: ks, w, v =>
    match v with
    | [a, b, c, d, e, f, g, h] =>
      let w0 := w.headD 0
      let t1 := h + shaBig1 e + shaCh e f g + k + w0
      let t2 := shaBig0 a + shaMaj a b c
      let next := (shaSmall1 (w.getD 14 0) + w.getD 9 0 + shaSmall0 (w.getD 1 0) + w0) % 2 ^ 64
      shaRounds ks (w.drop 1 ++ [next]) [(t1 + t2) % 2 ^ 64, a, b, c, (d + t1) % 2 ^ 64, e, f, g]
    | _ => v

/-- One block of 128 bytes. -/
def shaBlock (h : List Nat) (b : List Byte) : List Nat :=
  let w := (List.range 16).map (fun i => beAt b (8 * i) 8)
  (h.zip (shaRounds shaK w h)).map (fun p => (p.1 + p.2) % 2 ^ 64)

/-- A message with its padding. -/
def shaPad (m : List Byte) : List Byte := m ++ [0x80#8] ++ List.replicate ((239 - m.length % 128) % 128) 0#8 ++ beBytes 16 (8 * m.length)

/-- `n` blocks of a padded message. -/
def shaBlocks : Nat → List Nat → List Byte → List Nat
  | 0, h, _ => h
  | n + 1, h, m => shaBlocks n (shaBlock h (m.take 128)) (m.drop 128)

/-- SHA-384 of a message (R99, R132, R134, R449): 48 bytes. [PRESUMED: log 63] -/
def sha384 (m : List Byte) : List Byte :=
  let p := shaPad m
  ((shaBlocks (p.length / 128) shaH p).take 6).flatMap (beBytes 8)

/-- HMAC-SHA-384 of RFC 2104 (R450): key, message. [PRESUMED: log 63] -/
def hmac384 (key m : List Byte) : List Byte :=
  let k := if 128 < key.length then sha384 key else key
  let k := k ++ List.replicate (128 - k.length) 0#8
  sha384 (k.map (· ^^^ 0x5C#8) ++ sha384 (k.map (· ^^^ 0x36#8) ++ m))

/-! ### AES-128 decryption -/

/-- The S-box of AES, a row of 16 bytes a number. -/
def aesSbox : List Nat :=
  [0x637C777BF26B6FC53001672BFED7AB76, 0xCA82C97DFA5947F0ADD4A2AF9CA472C0, 0xB7FD9326363FF7CC34A5E5F171D83115, 0x04C723C31896059A071280E2EB27B275]
    ++ [0x09832C1A1B6E5AA0523BD6B329E32F84, 0x53D100ED20FCB15B6ACBBE394A4C58CF, 0xD0EFAAFB434D338545F9027F503C9FA8, 0x51A3408F929D38F5BCB6DA2110FFF3D2]
    ++ [0xCD0C13EC5F974417C4A77E3D645D1973, 0x60814FDC222A908846EEB814DE5E0BDB, 0xE0323A0A4906245CC2D3AC629195E479, 0xE7C8376D8DD54EA96C56F4EA657AAE08]
    ++ [0xBA78252E1CA6B4C6E8DD741F4BBD8B8A, 0x703EB5664803F60E613557B986C11D9E, 0xE1F8981169D98E949B1E87E9CE5528DF, 0x8CA1890DBFE6426841992D0FB054BB16]

/-- The inverse S-box of AES, in the same form. -/
def aesInvSbox : List Nat :=
  [0x52096AD53036A538BF40A39E81F3D7FB, 0x7CE339829B2FFF87348E4344C4DEE9CB, 0x547B9432A6C2233DEE4C950B42FAC34E, 0x082EA16628D924B2765BA2496D8BD125]
    ++ [0x72F8F66486689816D4A45CCC5D65B692, 0x6C704850FDEDB9DA5E154657A78D9D84, 0x90D8AB008CBCD30AF7E45805B8B34506, 0xD02C1E8FCA3F0F02C1AFBD0301138A6B]
    ++ [0x3A9111414F67DCEA97F2CFCEF0B4E673, 0x96AC7422E7AD3585E2F937E81C75DF6E, 0x47F11A711D29C5896FB7620EAA18BE1B, 0xFC563E4BC6D279209ADBC0FE78CD5AF4]
    ++ [0x1FDDA8338807C731B11210592780EC5F, 0x60517FA919B54A0D2DE57A9F93C99CEF, 0xA0E03B4DAE2AF5B0C8EBBB3C83539961, 0x172B047EBA77D626E169146355210C7D]

/-- The byte at `b` of such a table. -/
def boxAt (t : List Nat) (b : Nat) : Nat := (t.getD (b / 16) 0 >>> (8 * (15 - b % 16))) % 256

/-- The S-box and its inverse on a byte. -/
def aesSub (b : Nat) : Nat := boxAt aesSbox b
def aesInvSub (b : Nat) : Nat := boxAt aesInvSbox b

/-- Multiplication by x in the field of AES. -/
def aesX (b : Nat) : Nat := if b < 128 then 2 * b else (2 * b) % 256 ^^^ 0x1B

/-- Multiplication in the field of AES by a constant below 16. -/
def aesMul (k b : Nat) : Nat :=
  let b2 := aesX b
  let b4 := aesX b2
  let b8 := aesX b4
  (if bitAt k 0 then b else 0) ^^^ (if bitAt k 1 then b2 else 0) ^^^ (if bitAt k 2 then b4 else 0) ^^^ (if bitAt k 3 then b8 else 0)

/-- The exclusive or of byte lists. -/
def xorNats (a b : List Nat) : List Nat := (a.zip b).map (fun p => p.1 ^^^ p.2)

/-- The round keys after `k`, with the round constants left; newest first before `k`. -/
def aesKeys : List Nat → List Nat → List (List Nat) → List (List Nat)
  | [], k, ks => k :: ks
  | rc :: r, k, ks =>
    let t := [aesSub (k.getD 13 0) ^^^ rc, aesSub (k.getD 14 0), aesSub (k.getD 15 0), aesSub (k.getD 12 0)]
    let w0 := xorNats (k.take 4) t
    let w1 := xorNats ((k.drop 4).take 4) w0
    let w2 := xorNats ((k.drop 8).take 4) w1
    let w3 := xorNats (k.drop 12) w2
    aesKeys r (w0 ++ w1 ++ w2 ++ w3) (k :: ks)

/-- The round keys of a key of 16 bytes, the last first. -/
def aesSchedule (key : List Byte) : List (List Nat) :=
  aesKeys [0x01, 0x02, 0x04, 0x08, 0x10, 0x20, 0x40, 0x80, 0x1B, 0x36] (key.map BitVec.toNat) []

/-- Inverse ShiftRows and inverse SubBytes. -/
def aesInvShiftSub (s : List Nat) : List Nat :=
  (List.range 16).map (fun i => aesInvSub (s.getD ((i + 16 - 4 * (i % 4)) % 16) 0))

/-- Inverse MixColumns. -/
def aesInvMix (s : List Nat) : List Nat :=
  (List.range 16).map (fun i =>
    let c (k : Nat) : Nat := s.getD (4 * (i / 4) + (i + k) % 4) 0
    aesMul 14 (c 0) ^^^ aesMul 11 (c 1) ^^^ aesMul 13 (c 2) ^^^ aesMul 9 (c 3))

/-- The rounds of a decryption with the round keys left. -/
def aesRounds : List (List Nat) → List Nat → List Nat
  | [], s => s
  | [k], s => xorNats (aesInvShiftSub s) k
  | k :: r, s => aesRounds r (aesInvMix (xorNats (aesInvShiftSub s) k))

/-- AES-128 decryption of a block of 16 bytes (FIPS 197). -/
def aesDecrypt (key blk : List Byte) : List Byte :=
  match aesSchedule key with
  | [] => []
  | k :: r => (aesRounds r (xorNats (blk.map BitVec.toNat) k)).map (BitVec.ofNat 8)

/-- The exclusive or of byte strings. -/
def xorBytes (a b : List Byte) : List Byte := (a.zip b).map (fun p => p.1 ^^^ p.2)

/-- AES-128-CBC decryption of `n` blocks after a chaining value (R136). -/
def cbcBlocks (key : List Byte) : Nat → List Byte → List Byte → List Byte
  | 0, _, _ => []
  | n + 1, iv, c => xorBytes (aesDecrypt key (c.take 16)) iv ++ cbcBlocks key n (c.take 16) (c.drop 16)

/-- AES-128-CBC decryption of whole blocks (R136): key, chaining value, blocks. [PRESUMED: log 63] -/
def aesCbcDecrypt (key iv c : List Byte) : List Byte := cbcBlocks key (c.length / 16) iv c

/-- The steps of an AES key unwrap from step `t` down to 1 (RFC 3394): A and the registers of 8 bytes. -/
def unwrapSteps (kek : List Byte) (n : Nat) : Nat → List Byte → List (List Byte) → List Byte × List (List Byte)
  | 0, a, r => (a, r)
  | t + 1, a, r =>
    let i := t % n
    let b := aesDecrypt kek (xorBytes a (beBytes 8 (t + 1)) ++ r.getD i [])
    unwrapSteps kek n t (b.take 8) (r.set i (b.drop 8))

/-- AES key unwrap of RFC 3394 with the default initial value (R134 step 8): none where the integrity check fails. [PRESUMED: log 63] -/
def aesUnwrap (kek w : List Byte) : Option (List Byte) :=
  let n := w.length / 8 - 1
  let (a, r) := unwrapSteps kek n (6 * n) (w.take 8) ((List.range n).map (fun i => slice w (8 * (i + 1)) 8))
  if a = List.replicate 8 0xA6#8 then some (r.flatMap id) else none

/-! ### The curve P-384 -/

/-- The field's prime, the group's order, the coefficient b and the base point of P-384. -/
def p384P : Nat := 2 ^ 384 - 2 ^ 128 - 2 ^ 96 + 2 ^ 32 - 1
def p384N : Nat := 0xFFFFFFFFFFFFFFFFFFFFFFFFFFFFFFFFFFFFFFFFFFFFFFFFC7634D81F4372DDF581A0DB248B0A77AECEC196ACCC52973
def p384B : Nat := 0xB3312FA7E23EE7E4988E056BE3F82D19181D9C6EFE8141120314088F5013875AC656398D8A2ED19D2A85C8EDD3EC2AEF
def p384Gx : Nat := 0xAA87CA22BE8B05378EB1C71EF320AD746E1D3B628BA79B9859F741E082542A385502F25DBF55296C3A545E3872760AB7
def p384Gy : Nat := 0x3617DE4A96262C6F5D9E98BF9292DC29F8F41DBD289A147CE9DA3113B5F0B8C00A60B1CE1D7E819D7A431D7C90EA0E5F

/-- A power modulo `m`, the exponent as bits, the most significant first. -/
def powMod (b m : Nat) : List Bool → Nat → Nat
  | [], a => a
  | e :: r, a => let a := a * a % m; powMod b m r (if e then a * b % m else a)

/-- The bits of a number below 2^384, the most significant first. -/
def bits384 (k : Nat) : List Bool := (List.range 384).map (fun i => bitAt k (383 - i))

/-- The inverse modulo a prime. -/
def invMod (a m : Nat) : Nat := powMod (a % m) m (bits384 (m - 2)) 1

/-- A difference modulo the field's prime. -/
def subP (a b : Nat) : Nat := (a + p384P - b) % p384P

/-- A point in Jacobian coordinates; Z is 0 at infinity. -/
abbrev Point := Nat × Nat × Nat

/-- A point doubled. -/
def dblPoint (p : Point) : Point :=
  let (x, y, z) := p
  let zz := z * z % p384P
  let m := 3 * (subP x zz) * ((x + zz) % p384P) % p384P
  let yy := y * y % p384P
  let s := 4 * x * yy % p384P
  let x3 := subP (m * m % p384P) (2 * s % p384P)
  (x3, subP (m * subP s x3 % p384P) (8 * (yy * yy) % p384P), 2 * y * z % p384P)

/-- The sum of two points. -/
def addPoint (p q : Point) : Point :=
  let (x1, y1, z1) := p
  let (x2, y2, z2) := q
  if z1 = 0 then q
  else if z2 = 0 then p
  else
    let a := z1 * z1 % p384P
    let b := z2 * z2 % p384P
    let u1 := x1 * b % p384P
    let u2 := x2 * a % p384P
    let s1 := y1 * b % p384P * z2 % p384P
    let s2 := y2 * a % p384P * z1 % p384P
    if u1 = u2 then (if s1 = s2 then dblPoint p else (1, 1, 0))
    else
      let h := subP u2 u1
      let r := subP s2 s1
      let hh := h * h % p384P
      let hhh := hh * h % p384P
      let v := u1 * hh % p384P
      let x3 := subP (subP (r * r % p384P) hhh) (2 * v % p384P)
      (x3, subP (r * subP v x3 % p384P) (s1 * hhh % p384P), z1 * z2 % p384P * h % p384P)

/-- A multiple of a point, the multiplier as bits, the most significant first, on top of `a`. -/
def mulPoint (p : Point) : List Bool → Point → Point
  | [], a => a
  | e :: r, a => let a := dblPoint a; mulPoint p r (if e then addPoint a p else a)

/-- The X coordinate of a point that is not at infinity. -/
def pointX (p : Point) : Option Nat :=
  let (x, _, z) := p
  if z = 0 then none else let i := invMod z p384P; some (x * (i * i % p384P) % p384P)

/-- The point of a public key, X then Y. -/
def pubPoint (k : List Byte) : Point := (beAt k 0 48, beAt k 48 48, 1)

/-- A P-384 point, X then Y, lies on the curve (R134 step 5, R449 step 4). [PRESUMED: log 63] -/
def onCurve (k : List Byte) : Bool :=
  let x := beAt k 0 48
  let y := beAt k 48 48
  decide (x < p384P ∧ y < p384P) && y * y % p384P == (x * x % p384P * x + (p384P - 3) * x + p384B) % p384P

/-- ECDSA P-384 with SHA-384 (R99, R133, R449): public key X then Y, message, signature r then s. [PRESUMED: log 63] -/
def ecdsaOk (k m sig : List Byte) : Bool :=
  let r := beAt sig 0 48
  let s := beAt sig 48 48
  if ¬ onCurve k ∨ r = 0 ∨ p384N ≤ r ∨ s = 0 ∨ p384N ≤ s then false
  else
    let e := be (sha384 m)
    let w := invMod s p384N
    let a := mulPoint (p384Gx, p384Gy, 1) (bits384 (e * w % p384N)) (1, 1, 0)
    let b := mulPoint (pubPoint k) (bits384 (r * w % p384N)) (1, 1, 0)
    match pointX (addPoint a b) with
    | some x => x % p384N == r
    | none => false

/-- The X coordinate of the shared point of a private key and a public key (R134 step 6): 48 bytes; 0 at infinity. [PRESUMED: log 63] -/
def ecdhX (d k : List Byte) : List Byte := beBytes 48 ((pointX (mulPoint (pubPoint k) (bits384 (be d)) (1, 1, 0))).getD 0)

end Sys2Proof.Machine
end

