-- ==== Sys2Proof/Machine/Transport.lean ====
section
/-! DEFINITION. The Pliash transport: packets, the SEQ window, parity groups, and the assembly of stream units (R127 to R131,
R156, R157), and content keys (R132 to R136). -/

namespace Sys2Proof.Machine

/-- The channel context of (group entry, channel). -/
def chanOf (l : List Chan) (grp chan : Nat) : Option Chan := l.find? (fun c => c.grp == grp && c.chan == chan)

/-- Replace a channel context. -/
def setChan (l : List Chan) (c : Chan) : List Chan := l.map (fun d => if d.grp = c.grp ∧ d.chan = c.chan then c else d)

/-- A channel context just opened. -/
def Chan.fresh (grp chan : Nat) : Chan :=
  { grp := grp, chan := chan, winEnd := none, got := 0, groups := [], lastP := none, counted := false }

/-- Change a channel of `s`. -/
def State.putChan (s : State) (c : Chan) : State := { s with strm := { s.strm with chans := setChan s.strm.chans c } }

/-- A channel is open (R128): channel 0 of every receive group always is. -/
def State.chanOpen (s : State) (grp chan : Nat) : Bool :=
  (chanOf s.strm.chans grp chan).isSome || (chan == 0 && s.rxGroups.contains grp)

/-- The context of an open channel, opened on first use where it is channel 0. -/
def State.withChan (s : State) (grp chan : Nat) : State :=
  if (chanOf s.strm.chans grp chan).isSome then s
  else { s with strm := { s.strm with chans := s.strm.chans ++ [Chan.fresh grp chan] } }

/-- Group `k` of a channel. -/
def Chan.group (c : Chan) (k : Nat) : Option PGroup := c.groups.find? (fun g => g.k == k)

/-- Put a group back, or add it. -/
def Chan.putGroup (c : Chan) (g : PGroup) : Chan :=
  if (c.group g.k).isSome then { c with groups := c.groups.map (fun h => if h.k = g.k then g else h) }
  else { c with groups := c.groups ++ [g] }

/-- Groups are numbered by SEQ / 8, mod 2^29; `a` comes after `b`. -/
def laterGroup (a b : Nat) : Bool := laterMod 29 a b

/-- A group of number `k` can no longer change: it is resolved, or a group two or more later has come (R131). -/
def Chan.dead (c : Chan) (k : Nat) : Bool :=
  match c.group k with
  | some g => g.st == 2
  | none => c.groups.any (fun h => laterGroup h.k ((k + 1) % 2 ^ 29))

/-- N of a group as its parity packet gives it. -/
def PGroup.n (g : PGroup) : Option Nat := g.parity.map Prod.fst

/-- A packet of a group. -/
def PGroup.pkt (g : PGroup) (seq : Nat) : Option Pkt := g.pkts.find? (fun p => p.seq == seq)

/-- What the parser knows of a SEQ value (R156). -/
inductive SeqFate where
  | held (p : Pkt) | eaten (p : Pkt) | lost | unknown
  deriving DecidableEq, Repr

/-- The fate of a SEQ value of a channel. -/
def Chan.fate (c : Chan) (seq : Nat) : SeqFate :=
  let k := seq / 8
  match c.group k with
  | some g =>
    match g.pkt seq with
    | some p => if p.eaten then .eaten p else .held p
    | none => if g.st = 2 then .lost else .unknown
  | none => if c.dead k then .lost else .unknown

/-- The next SEQ value in use after `seq` (R130, R156): past an early close that the parity packet makes known. -/
def Chan.nextSeq (c : Chan) (seq : Nat) : Nat :=
  let nx := (seq + 1) % 2 ^ 32
  match c.group (seq / 8) with
  | some g => match g.n with
    | some n => if n ≤ seq % 8 + 1 then ((seq / 8 + 1) * 8) % 2 ^ 32 else nx
    | none => nx
  | none => nx

/-- The SEQ value in use before `seq`. -/
def Chan.prevSeq (c : Chan) (seq : Nat) : Nat :=
  let pv := (seq + 2 ^ 32 - 1) % 2 ^ 32
  if seq % 8 = 0 then
    match c.group (pv / 8) with
    | some g => match g.n with
      | some n => (pv / 8 * 8 + (n - 1)) % 2 ^ 32
      | none => pv
    | none => pv
  else pv

/-- Follow a unit from a FIRST packet (R157): its packets when LAST is reached; `none` while a value is unknown; the packets so
far where one is lost or another unit starts. -/
inductive Walk where
  | whole (l : List Pkt) | broken (l : List Pkt) | waits
  deriving DecidableEq, Repr

/-- The walk from packet `p`, `acc` holding the packets before it in reverse. -/
def Chan.walk (c : Chan) : Nat → List Pkt → Pkt → Walk
  | 0, _, _ => .waits
  | fuel + 1, acc, p =>
    if bitAt p.flags 2 then .whole (p :: acc).reverse
    else
      match c.fate (c.nextSeq p.seq) with
      | .held q => if bitAt q.flags 1 then .broken (p :: acc).reverse else Chan.walk c fuel (p :: acc) q
      | .eaten _ => .broken (p :: acc).reverse
      | .lost => .broken (p :: acc).reverse
      | .unknown => .waits

/-- Mark packets as done with. -/
def Chan.eat (c : Chan) (l : List Nat) : Chan :=
  { c with groups := c.groups.map (fun g => { g with pkts := g.pkts.map (fun p => if l.contains p.seq then { p with eaten := true } else p) }) }

/-- Packets held and not yet used, in order of arrival of their groups. -/
def Chan.open_ (c : Chan) : List Pkt := c.groups.flatMap (fun g => g.pkts.filter (fun p => !p.eaten))

/-- A unit is complete when its lengths add up to ULEN and UCRC checks (R157). -/
def unitOk (b : List Byte) : Bool :=
  decide (16 ≤ b.length) && beAt b 8 4 == b.length && (crc32c (patch b 12 [0#8, 0#8, 0#8, 0#8])).toNat == beAt b 12 4

/-- A unit that is not complete is discarded and counted once (R157). -/
def State.unitIncomplete (s : State) (c : Chan) (l : List Pkt) : State :=
  let s := s.putChan { c.eat (l.map Pkt.seq) with counted := true }
  (s.inc F.RING_UNIT_DISC_FORMAT).packetsDone (l.map Pkt.moor)

/-- A discarded unit (R157 to R159, R166, R179, R181): counted, event 0x414 once per pound per cause, its packets done. -/
def State.unitDiscard (s : State) (u : StreamUnit) (cause : Nat) : State :=
  ((s.inc F.RING_UNIT_DISC_RULE).raiseOnce 0x414 bRING cause cause (u.chan + u.grp * 65536)).packetsDone u.moors

/-- The rules on a complete unit's header (R157, R158): the cause of its discard, if any. A UTYPE
that R156 does not give is of the wrong type for every channel. -/
def unitCause (u : StreamUnit) : Option Nat :=
  let ty := beAt u.bytes 0 1
  let slot := beAt u.bytes 1 1
  let layer := beAt u.bytes 2 1
  if beAt u.bytes 3 1 ≠ 0 ∨ 1 < slot ∨ 31 < layer ∨ ((ty = 1 ∨ ty = 2) ∧ layer ≠ 0) then some 6
  else if ty = 0 ∨ 4 < ty ∨ (u.chan = 0 ∧ ty = 3) ∨ (u.chan ≠ 0 ∧ ty ≠ 3) then some 1
  else if u.enc.isNone then some 2
  else none

/-- A unit whose packets are all there (R157): ready for the command of its type, or discarded where it is not sound or its UTYPE is
none of R156. [DEDUCED: log 59] -/
def State.unitWhole (s : State) (c : Chan) (p : Pkt) (l : List Pkt) : State :=
  let b := l.flatMap Pkt.data
  if unitOk b then
    let e (q : Pkt) : Bool × Nat := (bitAt q.flags 0, q.key)
    let same := l.all (fun q => decide (e q = e p))
    let s := s.putChan { c.eat (l.map Pkt.seq) with counted := false }
    let u : StreamUnit :=
      { grp := c.grp, chan := c.chan, bytes := b, enc := if same then some (e p) else none, moors := l.map Pkt.moor }
    let ty := beAt b 0 1
    if ty = 0 ∨ 4 < ty then s.unitDiscard u ((unitCause u).getD 1)
    else { s with strm := { s.strm with ready := s.strm.ready ++ [u] } }
  else s.unitIncomplete c l

/-- The parser at packet `p`; none where it waits. -/
def State.parseAt (s : State) (c : Chan) (p : Pkt) : Option State :=
  if bitAt p.flags 1 then
    match c.walk (c.open_.length + 1) [] p with
    | .waits => none
    | .broken l => some (s.unitIncomplete c l)
    | .whole l => some (s.unitWhole c p l)
  else
    -- the rest of a unit whose start is lost or discarded
    match c.fate (c.prevSeq p.seq) with
    | .held _ => none
    | .unknown => none
    | .eaten _ => some ((s.putChan { c.eat [p.seq] with counted := c.counted && !bitAt p.flags 2 }).packetDone p.moor)
    | .lost =>
      let s := if c.counted then s else s.inc F.RING_UNIT_DISC_FORMAT
      some ((s.putChan { c.eat [p.seq] with counted := !bitAt p.flags 2 }).packetDone p.moor)

/-- One step of the parser on a channel: the first packet that can be used or discarded; none where all wait. -/
def State.parseOne (s : State) (grp chan : Nat) : Option State :=
  match chanOf s.strm.chans grp chan with
  | none => none
  | some c => c.open_.findSome? (s.parseAt c)

/-- The stream parser works on a channel until it has to wait. [DEDUCED: log 59] -/
def State.parse (s : State) (grp chan : Nat) : Nat → State
  | 0 => s
  | fuel + 1 => match s.parseOne grp chan with
    | none => s
    | some s' => State.parse s' grp chan fuel

/-- Run the parser as often as the channel has packets. -/
def State.runParser (s : State) (grp chan : Nat) : State :=
  match chanOf s.strm.chans grp chan with
  | some c => s.parse grp chan (c.open_.length + 1)
  | none => s

/-- Where the packets lie that the towpath still needs (R275, R402, R403): of units that wait, of chunks that wait or are decoded, and kept ones. -/
def State.towNeeds (s : State) : List (Nat × Nat) :=
  if ¬ s.towHolds then []
  else
    s.strm.ready.flatMap StreamUnit.moors ++ s.dec.queue.flatMap Chunk.moors ++ s.dec.cores.flatMap (fun j => j.toList.flatMap (fun j => j.chunk.moors))
      ++ s.pair.kept.flatMap Prod.snd

/-- Forget groups that nothing needs: all but those within 40 of the window end, with packets not yet used, or with packets in `held`. [DEDUCED: log 59] -/
def Chan.prune (c : Chan) (held : List (Nat × Nat)) : Chan :=
  match c.winEnd with
  | none => c
  | some w =>
    { c with groups := c.groups.filter (fun g =>
        g.st ≠ 2 || g.pkts.any (fun p => !p.eaten || held.contains p.moor) || !laterGroup ((w / 8 + 2 ^ 29 - 40) % 2 ^ 29) g.k) }

/-- The parity XOR (R130): FLAGS, KEY and LEN as 4 bytes, then the payloads padded with zeros. -/
def xorInto : List Byte → List Byte → List Byte
  | [], _ => []
  | a :: r, [] => a :: r
  | a :: r, b :: q => (a ^^^ b) :: xorInto r q

/-- The block that a packet adds to the parity. -/
def Pkt.block (p : Pkt) : List Byte := leBytes 1 p.flags ++ leBytes 1 p.key ++ beBytes 2 p.data.length ++ p.data

/-- The missing packet of a group that holds N − 1 packets and its parity (R131). -/
def rebuild (parity : List Byte) (l : List Pkt) (seq : Nat) : Pkt :=
  let x := l.foldl (fun a p => xorInto a p.block) parity
  let n := beAt x 2 2
  { seq := seq, flags := beAt x 0 1, key := beAt x 1 1, data := (x.drop 4).take n, moor := (0, 0), eaten := false }

/-- The SEQ values of a group that count as missing when it is resolved (R131). -/
def PGroup.missing (g : PGroup) : List Nat :=
  let held (i : Nat) : Bool := (g.pkt (8 * g.k + i)).isSome
  match g.n with
  | some n => ((List.range n).filter (fun i => !held i)).map (8 * g.k + ·)
  | none =>
    let top := (List.range 8).filter held
    match maxOf top with
    | some t => ((List.range t).filter (fun i => !held i)).map (8 * g.k + ·)
    | none => []

/-- Missing packets are lost (R131): counted; event 0x404 once per pound and channel, 16 times per pound in all. -/
def State.countLost (s : State) (c : Chan) (l : List Nat) : State :=
  match l with
  | [] => s
  | q :: _ =>
    let s := s.add F.RING_PAR_CNT_LOST l.length
    if s.raisedCount 0x404 < 16 then s.raiseOnce 0x404 bRING (c.grp * 65536 + c.chan) (c.chan + c.grp * 65536) q else s

/-- Set the received bit of a SEQ value in the window. -/
def Chan.mark (c : Chan) (seq : Nat) : Chan :=
  match c.winEnd with
  | some w =>
    let d := (w + 2 ^ 32 - seq) % 2 ^ 32
    if d < 256 then { c with got := orBit c.got d } else c
  | none => c

/-- The device asks its partner for missing packets instead of counting them lost (R402): TOW repair is on and usable. -/
def State.repairs (s : State) : Bool := s.paired && s.rd F.TOW_STATUS_UP == 1

/-- Resolve group `k` of a channel with what is held (R131). In a pair whose towpath is usable the missing packets are first
wanted from the partner (R402). -/
def State.resolveGroup (s : State) (grp chan k : Nat) (final : Bool) : State :=
  match chanOf s.strm.chans grp chan with
  | none => s
  | some c =>
    match c.group k with
    | none => s
    | some g =>
      if g.st = 2 ∨ (g.st = 1 ∧ ¬ final) then s
      else
        let miss := g.missing
        if miss ≠ [] ∧ s.repairs ∧ ¬ final then s.putChan (c.putGroup { g with st := 1, wanted := miss, firstAt := s.clk.now })
        else
          let s := s.countLost c miss
          let c := (c.putGroup { g with st := 2, parity := g.parity.map (fun p => (p.1, [])), wanted := [] }).prune s.towNeeds
          (s.putChan c).runParser grp chan

/-- A DATA packet with its transport header (R128). -/
def Pkt.bytes (p : Pkt) (chan : Nat) : List Byte :=
  let h := [1#8, 1#8] ++ beBytes 1 p.flags ++ beBytes 1 p.key ++ beBytes 2 chan ++ beBytes 2 p.data.length ++ beBytes 4 p.seq
  h ++ beBytes 4 (crc32c h).toNat ++ p.data

/-- Hold a packet in its group; the answer is false where no mooring could be had (R279). -/
def State.holdPacket (s : State) (grp chan : Nat) (p : Pkt) : Bool × State :=
  match s.moorPacket (p.bytes chan) with
  | (none, s) => (false, s)
  | (some m, s) =>
    match chanOf s.strm.chans grp chan with
    | none => (false, s)
    | some c =>
      let k := p.seq / 8
      let g := (c.group k).getD { k := k, firstAt := s.clk.now, parity := none, st := 0, pkts := [], wanted := [] }
      let g := { g with pkts := g.pkts ++ [{ p with moor := m }], wanted := g.wanted.filter (· ≠ p.seq) }
      (true, s.putChan (c.putGroup g))

/-- A rebuilt packet joins its group (R131). In the window its SEQ counts as received; one that is later than the window end does not move the
window. [DESIGN CHOICE: log 150] -/
def State.recover (s : State) (grp chan : Nat) (q : Pkt) : State :=
  let r := s.holdPacket grp chan q
  if r.1 then
    let s := match chanOf r.2.strm.chans grp chan with | some c => r.2.putChan (c.mark q.seq) | none => r.2
    s.inc F.RING_PAR_CNT_RECOVERED
  else r.2

/-- The parity of a group whose data packets are all held is discarded; one missing packet is rebuilt (R131). -/
def State.checkGroup (s : State) (grp chan k : Nat) : State :=
  match chanOf s.strm.chans grp chan with
  | none => s
  | some c =>
    match c.group k with
    | none => s
    | some g =>
      if g.st = 2 then s
      else
        let n := g.n.getD 8
        let have_ := (g.pkts.filter (fun p => p.seq % 8 < n)).length
        if have_ = n then s.resolveGroup grp chan k true
        else
          match g.parity with
          | some (n, pay) =>
            if have_ + 1 = n then
              match (List.range n).find? (fun i => (g.pkt (8 * k + i)).isNone) with
              | some i =>
                (s.recover grp chan (rebuild pay (g.pkts.filter (fun p => p.seq % 8 < n)) (8 * k + i))).resolveGroup grp chan k true
              | none => s
            else s
          | none => s

/-- Groups two or more before `k` are resolved when a packet of group `k` comes (R131). -/
def State.resolveOlder (s : State) (grp chan k : Nat) : State :=
  match chanOf s.strm.chans grp chan with
  | none => s
  | some c => s.each ((c.groups.filter (fun g => g.st ≠ 2 && laterGroup k ((g.k + 1) % 2 ^ 29))).map PGroup.k) (fun s k => s.resolveGroup grp chan k false)

/-- An accepted packet is held, and its groups and the parser go on (R129, R131, R157). -/
def State.acceptPacket (s : State) (c : Chan) (p : Pkt) : State :=
  let s := ((s.putChan c).holdPacket c.grp c.chan p).2
  ((s.resolveOlder c.grp c.chan (p.seq / 8)).checkGroup c.grp c.chan (p.seq / 8)).runParser c.grp c.chan

/-- A DATA packet on an open channel (R129). -/
def State.dataPacket (s : State) (grp chan seq flags key : Nat) (data : List Byte) : State :=
  match chanOf s.strm.chans grp chan with
  | none => s
  | some c =>
    let p : Pkt := { seq := seq, flags := flags, key := key, data := data, moor := (0, 0), eaten := false }
    match c.winEnd with
    | none => s.acceptPacket { c with winEnd := some seq, got := 1 } p
    | some w =>
      if laterPound seq w then
        let d := (seq + 2 ^ 32 - w) % 2 ^ 32
        s.acceptPacket { c with winEnd := some seq, got := if 256 ≤ d then 1 else (c.got <<< d) % 2 ^ 256 + 1 } p
      else
        let d := (w + 2 ^ 32 - seq) % 2 ^ 32
        if 256 ≤ d then s.inc F.RING_RX_DISC_LATE
        else if bitAt c.got d then s.inc F.RING_DUP_CNT_COUNT
        else if c.dead (seq / 8) then (s.putChan { c with got := orBit c.got d }).inc F.RING_RX_DISC_LATE
        else s.acceptPacket { c with got := orBit c.got d } p

/-- A PARITY packet on an open channel (R130); one with fewer than the 4 bytes of its block is discarded and counted in FORMAT. [DESIGN CHOICE: log 150] -/
def State.parityPacket (s : State) (grp chan seq n : Nat) (pay : List Byte) : State :=
  if seq % 8 ≠ 0 ∨ n = 0 ∨ 8 < n ∨ pay.length < 4 then s.inc F.RING_RX_DISC_FORMAT
  else
    match chanOf s.strm.chans grp chan with
    | none => s
    | some c =>
      let k := seq / 8
      let second : Bool := match c.group k with | some g => g.parity.isSome | none => false
      if c.dead k ∨ second then s
      else
        let g := (c.group k).getD { k := k, firstAt := s.clk.now, parity := none, st := 0, pkts := [], wanted := [] }
        let s := s.putChan (c.putGroup { g with parity := some (n, pay) })
        ((s.resolveOlder grp chan k).checkGroup grp chan k).runParser grp chan

/-- DATA and PARITY packets are dropped in HOLD and while the Basin is not ready (R65, R121, R266). [DEDUCED: log 60] -/
def State.dropsScene (s : State) : Bool := has s.mode mHOLD || !s.basinReady

/-- A delivered Pliash datagram (R127, R128, R134, R135, R447). A MANAGEMENT packet whose FLAGS are not FIRST and LAST is counted in FORMAT; a KEY
payload of another length than 344 is queued, and refused with cause 1, whatever its TARGET. [DEDUCED: log 60; DESIGN CHOICE: log 150] -/
def State.pliash (s : State) : State :=
  match s.ring.rx with
  | [] => s
  | d :: rest =>
    let s := { s with ring := { s.ring with rx := rest } }
    let b := d.data
    let ty := beAt b 1 1
    let flags := beAt b 2 1
    let key := beAt b 3 1
    let chan := beAt b 4 2
    let len := beAt b 6 2
    let seq := beAt b 8 4
    let enc := bitAt flags 0
    let keyOk : Bool := if ty = 1 then (if enc then decide (key < 32) else key == 0) else if ty = 2 then decide (1 ≤ key ∧ key ≤ 8) else key == 0
    let ok : Bool := decide (16 ≤ b.length) && (crc32c (b.take 12)).toNat == beAt b 12 4 && beAt b 0 1 == 1 && decide (1 ≤ ty ∧ ty ≤ 4)
      && decide (16 + len ≤ b.length) && decide (flags < 8) && keyOk && (decide (d.grp < 16) || ty == 4)
      && (ty != 4 || flags == 6)
    if ¬ ok then s.inc F.RING_RX_DISC_FORMAT
    else
      let pay := slice b 16 len
      if ty = 4 then { s with ring := { s.ring with mgmt := s.ring.mgmt ++ [{ d with data := b.take (16 + len) }] } }
      else if ty = 3 then
        if pay.length = 344 ∧ beAt pay 4 6 ≠ s.mac then s
        else if s.sec.queue.length < 8 then { s with sec := { s.sec with queue := s.sec.queue ++ [pay] } }
        else ((s.inc F.SEC_KEY_CNT_REFUSED).raise 0xF01 bSEC 7 (beAt pay 12 4))
      else if s.dropsScene then s.inc F.RING_DROP_CNT_COUNT
      else if ¬ s.chanOpen d.grp chan then s.raiseOnce 0x405 bRING (d.grp * 65536 + chan) chan d.grp
      else
        let s := s.withChan d.grp chan
        if ty = 1 then
          if s.cm F.SEC_CTRL_REQUIRE_ENC = 1 ∧ ¬ enc then s.inc F.RING_RX_DISC_FORMAT
          else s.dataPacket d.grp chan seq flags key pay
        else s.parityPacket d.grp chan seq key pay

/-- RING_PAR.WAIT passes for a group (R131). -/
def State.parityWait (s : State) (grp chan k : Nat) : State := s.resolveGroup grp chan k false

/-- Bytes of the 384-bit hash registers from `f 11` down, most significant first (SEC_SRC_HASH, TOP_MGMT_HASH). -/
def State.hashBytes (s : State) (f : Nat → Nat) : List Byte :=
  (List.range 12).flatMap (fun i => beBytes 4 (s.cset.regs.word (f (11 - i))).toNat)

/-- The hash registers are not all zero. -/
def State.hashSet (s : State) (f : Nat → Nat) : Bool := (s.hashBytes f).any (fun b => b ≠ 0#8)

/-- The first failing step of R134 for a KEY message, or the half it loads. -/
def State.keyCheck (s : State) (m : List Byte) : Nat ⊕ KeyHalf :=
  let slot := beAt m 0 1
  let ctl := beAt m 1 1
  let crypt := beAt m 2 1 / 16
  let skip := beAt m 2 1 % 16
  let kseq := beAt m 12 4
  let epk := slice m 16 96
  let pub := slice m 0x98 96
  if m.length ≠ 344 ∨ 15 < slot ∨ ctl / 16 ≠ 1 ∨ ctl % 16 > 1 ∨ crypt = 0 ∨ beAt m 3 1 ≠ 0 ∨ beAt m 10 2 ≠ 0 then .inl 1
  else if ¬ s.hashSet R.SEC_SRC_HASH ∨ sha384 (4#8 :: pub) ≠ s.hashBytes R.SEC_SRC_HASH then .inl 2
  else if ¬ ecdsaOk pub (m.take 0xF8) (m.drop 0xF8) then .inl 3
  else if ¬ laterPound kseq (s.rd F.SEC_KSEQ_KSEQ) then .inl 4
  else if ¬ onCurve epk then .inl 5
  else
    let z := ecdhX s.img.otp.devKey epk
    let kek := (sha384 (beBytes 4 1 ++ z ++ slice m 4 6 ++ m.take 2 ++ slice m 12 4)).take 16
    match aesUnwrap kek (slice m 0x70 40) with
    | none => .inl 6
    | some w => .inr { slot := slot, gen := ctl % 2, key := w.take 16, iv := slice w 16 16, crypt := crypt, skip := skip }

/-- A KEY message is taken off the queue (R134). -/
def State.keyMessage (s : State) : State :=
  match s.sec.queue with
  | [] => s
  | m :: rest =>
    let s := { s with sec := { s.sec with queue := rest } }
    let kseq := beAt m 12 4
    match s.keyCheck m with
    | .inl c => (s.inc F.SEC_KEY_CNT_REFUSED).raise 0xF01 bSEC c kseq
    | .inr h =>
      let s := { s with sec := { s.sec with halves := h :: s.sec.halves.filter (fun x => ¬ (x.slot = h.slot ∧ x.gen = h.gen)) } }
      let s := (s.wr F.SEC_KSEQ_KSEQ kseq).inc F.SEC_KEY_CNT_ACCEPTED
      let s := s.wr F.SEC_KEY_STAT_LOADED (orBit (s.rd F.SEC_KEY_STAT_LOADED) (2 * h.slot + h.gen))
      s.raise 0xF00 bSEC (h.slot + 16 * h.gen) kseq

/-- The key half a packet's KEY field names. -/
def SecSt.half (c : SecSt) (key : Nat) : Option KeyHalf := c.halves.find? (fun h => h.slot == key % 16 && h.gen == key / 16 % 2)

/-- Decrypt a protected range (R136): crypt blocks and skip blocks by the pattern, the CBC chain over the crypt blocks. -/
def cbcsRange (h : KeyHalf) : Nat → List Byte → List Byte → List Byte
  | 0, _, d => d
  | fuel + 1, chain, d =>
    if d.length < 16 then d
    else
      let n := if h.skip = 0 then d.length / 16 else min h.crypt (d.length / 16)
      let ct := d.take (16 * n)
      let pt := aesCbcDecrypt h.key chain ct
      let rest := d.drop (16 * n)
      let sk := min (16 * h.skip) rest.length
      pt ++ rest.take sk ++ cbcsRange h fuel (ct.drop (16 * (n - 1))) (rest.drop sk)

/-- Decrypt a sample by its subsamples (R136, R180): CLEAR bytes pass, PROT bytes are decrypted from the constant IV. -/
def cbcs (h : KeyHalf) : List (Nat × Nat) → List Byte → List Byte
  | [], d => d
  | (c, p) :: r, d =>
    let prot := (d.drop c).take p
    d.take c ++ cbcsRange h (p / 16 + 1) h.iv prot ++ cbcs h r (d.drop (c + p))

end Sys2Proof.Machine
end

