-- ==== Sys2Proof/Machine/Scene.lean ====
section
/-! DEFINITION. The scene stream: headers, maps, command lists and chunks as their units complete (R156 to R181). -/

namespace Sys2Proof.Machine

/-- The latest pound whose close has begun (R161, R167): being opened between step 1 and the open; none before the first. -/
def State.closedPound (s : State) : Option Nat :=
  if s.lock.phase = .level then some s.lock.nextPound else if s.lock.everOpened then some s.lock.pound else none

/-- The close of the lock cycle that opens `p` has come. -/
def State.isClosed (s : State) (p : Nat) : Bool :=
  match s.closedPound with
  | some c => !laterPound p c
  | none => false

/-- The current pound of R161; before the first close the pound before the one it opens. -/
def State.currentPound (s : State) : Nat := s.closedPound.getD (poundSub s.lock.nextPound 1)

/-- The geometry a committed set gives. -/
def CSet.geom (c : CSet) : Geom :=
  { cols := c.fld F.COMP_PANEL_HOG_COLS, rows := c.fld F.COMP_PANEL_HOG_ROWS, vcols := c.fld F.COMP_PANEL_VIEW_VCOLS,
    vrows := c.fld F.COMP_PANEL_VIEW_VROWS }

/-- Layer types (R163). -/
def tPLANAR : Nat := 1
def tRELIEF : Nat := 2
def tFLAT : Nat := 3
def tDIRECT : Nat := 4
def tCARD : Nat := 5
def tPATTERN : Nat := 6

/-- The layer's type has tiles. -/
def Desc.tiled (d : Desc) : Bool := decide (1 ≤ d.ty ∧ d.ty ≤ 4)

/-- Take the first complete unit of a type. -/
def takeUnit (ty : Nat) : List StreamUnit → Option (StreamUnit × List StreamUnit)
  | [] => none
  | u :: r => if beAt u.bytes 0 1 = ty then some (u, r) else (takeUnit ty r).map (fun q => (q.1, u :: q.2))

/-- A layer descriptor at `off` (R163). -/
def parseDesc (b : List Byte) (off : Nat) : Desc :=
  let g (o n : Nat) := beAt b (off + o) n
  { layer := g 0 1, ty := g 1 1, planes := g 2 1, profile := g 3 1 % 4, policy := b2n (bitAt (g 3 1) 4), chan := g 4 2, tilesX := g 6 1, tilesY := g 7 1,
    width := g 8 2, height := g 10 2, orgX := signed 32 (g 12 4), orgY := signed 32 (g 16 4), stepX := g 20 4,
    stepY := g 24 4, disp := signed 16 (g 28 2), relief := signed 16 (g 30 2), zkey := signed 32 (g 32 4), patId := g 36 1,
    patArg := g 38 2 }

/-- A width and its tiles agree: over 512 × (TILES − 1), at most 512 × TILES. -/
def tilesFit (n w : Nat) : Bool := decide (1 ≤ n ∧ 512 * (n - 1) < w ∧ w ≤ 512 * n)

/-- The fields of a descriptor lie within R163 and R164. -/
def Desc.ok (d : Desc) (opt : Nat) : Bool :=
  let colour := bitAt d.planes 0
  let rel := bitAt d.planes 2
  decide (d.layer < 32) && decide (d.planes < 8) && opt &&& 0xEC == 0 && decide (d.profile ≤ 2) &&
    (if d.ty = tPLANAR ∨ d.ty = tRELIEF then
       colour && (rel == (d.ty == tRELIEF)) && decide (d.tilesX ≤ 20 ∧ d.tilesY ≤ 12) && tilesFit d.tilesX d.width
         && tilesFit d.tilesY d.height && decide (d.width ≤ 10240 ∧ d.height ≤ 5760) && (d.ty == tRELIEF || d.relief == 0)
     else if d.ty = tFLAT then
       colour && !rel && tilesFit d.tilesX d.width && tilesFit d.tilesY d.height && d.disp == 0 && d.zkey == 0
     else if d.ty = tDIRECT then
       d.planes == 1 && tilesFit d.tilesX d.width && tilesFit d.tilesY d.height && d.disp == 0
     else if d.ty = tCARD then
       d.planes == 0 && d.tilesX == 0 && d.tilesY == 0 && decide (1 ≤ d.width ∧ d.width ≤ 8192 ∧ 1 ≤ d.height ∧ d.height ≤ 8192)
         && d.chan == 0 && d.profile == 0
     else if d.ty = tPATTERN then
       d.planes == 0 && d.tilesX == 0 && d.tilesY == 0 && decide (1 ≤ d.width ∧ d.width ≤ 10240 ∧ 1 ≤ d.height ∧ d.height ≤ 5760)
         && d.chan == 0 && d.profile == 0
     else false)

/-- The channels of a SCENE unit. -/
def sceneChans (b : List Byte) : List Nat := (List.range (beAt b 0x17 1)).map (fun i => beAt b (0x20 + 4 * i) 2)

/-- Where the descriptors of a SCENE unit begin. -/
def sceneDescOff (b : List Byte) : Nat := 0x20 + 4 * beAt b 0x17 1

/-- A SCENE unit as a header (R160). -/
def parseScene (u : StreamUnit) : Scene :=
  let b := u.bytes
  { id := beAt b 0x10 4, ver := beAt b 0x14 2, start := beAt b 4 4, grp := u.grp, cols := beAt b 0x18 2, rows := beAt b 0x1A 2,
    vcols := beAt b 0x1C 1, vrows := beAt b 0x1D 1, chans := sceneChans b,
    descs := (List.range (beAt b 0x16 1)).map (fun i => parseDesc b (sceneDescOff b + 64 * i)) }

/-- A scene slot. -/
def StrmSt.slot (m : StrmSt) (k : Nat) : SceneSlot := (m.slots[k]?).getD SceneSlot.reset

/-- Change a scene slot. -/
def State.modSlot (s : State) (k : Nat) (f : SceneSlot → SceneSlot) : State :=
  { s with strm := { s.strm with slots := modAt s.strm.slots k f } }

/-- Channels open for a slot: of its headers in force and pending, and of replaced pending headers (R162). -/
def SceneSlot.open_ (k : SceneSlot) : List (Nat × Nat) :=
  (match k.cur with | some c => c.chans.map (fun x => (c.grp, x)) | none => []) ++
    (match k.pend with | some c => c.chans.map (fun x => (c.grp, x)) | none => []) ++ k.extra

/-- Tiles of the FLAT and DIRECT layers of a header (R165). -/
def Scene.flatTiles (c : Scene) : Nat :=
  ((c.descs.filter (fun d => d.ty = tFLAT ∨ d.ty = tDIRECT)).map (fun d => d.tilesX * d.tilesY)).sum

/-- A list has no element twice. -/
def noDup : List Nat → Bool
  | [] => true
  | a :: r => !r.contains a && noDup r

/-- The reserved fields of a SCENE unit are 0 (R160, R163). -/
def sceneReserved (b : List Byte) : Bool :=
  let off := sceneDescOff b
  beAt b 0x1E 2 == 0 &&
    (List.range (beAt b 0x17 1)).all (fun i => beAt b (0x22 + 4 * i) 2 == 0) &&
    (List.range (beAt b 0x16 1)).all (fun i =>
      beAt b (off + 64 * i + 0x25) 1 == 0 && (slice b (off + 64 * i + 0x28) 24).all (· == 0#8))

/-- The cause that refuses a header (R161): one that is too short, then the lowest that holds. More than 32 descriptors name a layer twice
or break R163. [DEDUCED: log 144] -/
def State.sceneCause (s : State) (u : StreamUnit) (k : Nat) (c : Scene) : Option Nat :=
  let b := u.bytes
  let g := s.cset.geom
  let nl := beAt b 0x16 1
  let nc := beAt b 0x17 1
  let other := (s.strm.slot (1 - k)).open_
  let mine := (s.strm.slot k).open_
  let new := (c.chans.filter (fun x => x != 0 && !mine.contains (c.grp, x))).eraseDups
  let nopen := ((s.strm.chans.filter (fun x => x.chan ≠ 0)).length)
  if b.length < 0x20 + 4 * nc + 64 * nl then some 6
  else if c.cols ≠ g.cols ∨ c.rows ≠ g.rows ∨ c.vcols ≠ g.vcols ∨ c.vrows ≠ g.vrows then some 1
  else if (List.range nl).any (fun i => !(c.descs.getD i (parseDesc [] 0)).ok (beAt b (sceneDescOff b + 64 * i + 3) 1))
      ∨ ¬ noDup (c.descs.map Desc.layer) ∨ c.descs.any (fun d => d.tiled && (d.chan == 0 || !c.chans.contains d.chan)) then some 2
  else if c.chans.any (fun x => x != 0 && other.contains (c.grp, x)) ∨ 240 < nopen + new.length then some 3
  else if 504 < c.flatTiles then some 4
  else if (s.strm.slot k).cur.isSome ∧ ¬ laterPound c.start s.currentPound then some 5
  else if ¬ sceneReserved b then some 6
  else none

/-- A complete SCENE unit (R161, R162). -/
def State.sceneUnit (s : State) : State :=
  match takeUnit 1 s.strm.ready with
  | none => s
  | some (u, r) =>
    let s := { s with strm := { s.strm with ready := r } }
    match unitCause u with
    | some c => s.unitDiscard u c
    | none =>
      let s := s.unitDone (beAt u.bytes 4 4) u.moors
      let k := beAt u.bytes 1 1
      let c := parseScene u
      let sl := s.strm.slot k
      let same (x : Option Scene) : Bool := match x with | some y => y.id == c.id && y.ver == c.ver | none => false
      if same sl.pend ∨ (sl.pend.isNone ∧ same sl.cur) ∨ same sl.cur then s
      else
        match s.sceneCause u k c with
        | some cause => s.raise 0x411 bRING (cause + 256 * k) c.id
        | none =>
          let c := if sl.cur.isNone ∧ ¬ laterPound c.start s.currentPound then { c with start := poundAdd s.currentPound 1 } else c
          let mine := sl.open_
          let old := match sl.pend with | some p => p.chans.map (fun x => (p.grp, x)) | none => []
          let s := s.each (c.chans.filter (fun x => !mine.contains (c.grp, x) && x != 0)) (fun s x => s.withChan c.grp x)
          s.modSlot k (fun sl => { sl with pend := some c, extra := sl.extra ++ old })

/-- The header that governs pound `p` in a slot: the pending one from its START, else the one in force (R168). -/
def SceneSlot.governs (k : SceneSlot) (p : Nat) : Option Scene :=
  match k.pend with
  | some c => if laterPound c.start p then k.cur else some c
  | none => k.cur

/-- A layer's descriptor in a header. -/
def Scene.desc (c : Scene) (l : Nat) : Option Desc := c.descs.find? (fun d => d.layer == l)

/-- The header and the descriptor for a layer in pound `p` (R159): of the header that governs `p`; where that has none, of the header
in force, then of the one pending. -/
def SceneSlot.descFor (k : SceneSlot) (p l : Nat) : Option (Scene × Desc) :=
  let f (x : Option Scene) : Option (Scene × Desc) := x.bind (fun c => (c.desc l).map (fun d => (c, d)))
  ((f (k.governs p)).or (f k.cur)).or (f k.pend)

/-- The descriptor that a list for `p` may name (R168 cause 3): in force, or pending for START no later than `p`. -/
def SceneSlot.listDesc (k : SceneSlot) (p l : Nat) : Option Desc :=
  let f (x : Option Scene) : Option Desc := x.bind (fun c => c.desc l)
  (f (k.governs p)).or (f k.cur)

/-- The pound is further ahead than RING_STREAM_CFG.AHEAD allows (R159). -/
def State.tooFar (s : State) (p : Nat) : Bool := laterPound p (poundAdd s.pound (s.cm F.RING_STREAM_CFG_AHEAD))

/-- The cell words of a MAP body. -/
def mapCells (b : List Byte) : List Nat := (List.range ((b.length - 16) / 2)).map (fun i => beAt b (16 + 2 * i) 2)

/-- A cell word claims OPAQUE and EMPTY of one cell. -/
def cellsClash (w : Nat) : Bool := (List.range 8).any (fun c => bitAt w (2 * c) && bitAt w (2 * c + 1))

/-- A complete MAP unit (R159, R166). [DEDUCED: log 144] -/
def State.mapUnit (s : State) : State :=
  match takeUnit 4 s.strm.ready with
  | none => s
  | some (u, r) =>
    let s := { s with strm := { s.strm with ready := r } }
    let k := beAt u.bytes 1 1
    let l := beAt u.bytes 2 1
    let p := beAt u.bytes 4 4
    let cause : Option Nat :=
      match unitCause u with
      | some c => some c
      | none =>
        if s.tooFar p then some 3
        else
          match (s.strm.slot k).descFor p l with
          | none => some 5
          | some (_, d) =>
            if ¬ d.tiled ∨ u.bytes.length ≠ 16 + 16 * (d.tilesX * d.tilesY) ∨ (mapCells u.bytes).any cellsClash then some 6
            else if s.isClosed p then some 7
            else none
    match cause with
    | some c => s.unitDiscard u c
    | none =>
      let s := s.unitDone p u.moors
      let m : LayerMap := { layer := l, pound := p, cells := mapCells u.bytes }
      s.modSlot k (fun sl => { sl with maps := m :: sl.maps.filter (fun x => ¬ (x.layer = l ∧ x.pound = p)) })

/-- ROP reads the source, or the destination (R286): the code's bit of pattern, source, destination depends on it. -/
def ropReadsS (rop : Nat) : Bool := (rop ^^^ (rop / 4)) &&& 0x33 != 0
def ropReadsD (rop : Nat) : Bool := (rop ^^^ (rop / 2)) &&& 0x55 != 0

/-- A clip rectangle's bounds as committed (R288): x0, y0, x1, y1, and whether it is INSIDE. -/
def CSet.clip (c : CSet) (n : Nat) : Nat × Nat × Nat × Nat :=
  let a := (c.regs.word (R.TUG_CLIPn_A n)).toNat
  let b := (c.regs.word (R.TUG_CLIPn_B n)).toNat
  (bitsOf a 15 0, bitsOf a 31 16, bitsOf b 15 0, bitsOf b 31 16)

/-- A clip rectangle breaks its rule (R288). -/
def CSet.clipBad (c : CSet) (n : Nat) : Bool :=
  let (x0, y0, x1, y1) := c.clip n
  decide (x1 < x0) || decide (y1 < y0)

/-- A parsed command, the refusal cause it brings (0 none), or an unknown type to be skipped. -/
inductive CmdParse where
  | ok (c : Cmd) | bad (cause : Nat) | skip (ctype : Nat)
  deriving DecidableEq, Repr

/-- The DRAW entries of a command. -/
def drawEnts (b : List Byte) (off n : Nat) : List DrawEnt :=
  (List.range n).map (fun i =>
    let o := off + 8 * i
    { layer := beAt b o 1, static := bitAt (beAt b (o + 1) 1) 0, chunks := beAt b (o + 2) 2, czkey := signed 32 (beAt b (o + 4) 4),
      known := true })

/-- One command of CLEN bytes at `b` (R169 to R178). The length rules give cause 1, the field limits cause 4; `card` looks up a
layer's descriptor, `pan` is the panel in pixels and views, `clips` the clip rectangles that break their rule. -/
def parseCmd (b : List Byte) (desc : Nat → Option Desc) (pan : Nat × Nat × Nat) (clipBad : Nat → Bool) : CmdParse :=
  let ty := beAt b 0 1
  let clen := b.length
  let g (o n : Nat) := beAt b o n
  let hdr0 : Bool := g 1 1 == 0 && g 2 2 == 0
  if ty = 1 then
    let mask := g 9 1
    let isDepth := bitAt mask 7
    let l := g 8 1
    if clen ≠ (if isDepth then 24 else 32) then .bad 1
    else if isDepth then
      if ¬ hdr0 ∨ g 10 2 ≠ 0 ∨ g 0x14 4 ≠ 0 ∨ mask &&& 0x63 ≠ 0 then .bad 4
      else
        let disp := signed 16 (g 12 2)
        let rel := signed 16 (g 14 2)
        let z := signed 32 (g 16 4)
        let breaks : Bool := match desc l with
          | some d =>
            (d.ty == tPLANAR && bitAt mask 3 && rel != 0) || ((d.ty == tFLAT || d.ty == tDIRECT) && bitAt mask 2 && disp != 0)
              || (d.ty == tFLAT && bitAt mask 4 && z != 0)
          | none => false
        if breaks then .bad 4 else .ok (.depth l mask disp rel z)
    else if ¬ hdr0 ∨ g 10 2 ≠ 0 ∨ g 0x1C 4 ≠ 0 ∨ mask &&& 0x7C ≠ 0 then .bad 4
    else .ok (.place l mask (signed 32 (g 12 4)) (signed 32 (g 16 4)) (g 20 4) (g 24 4))
  else if ty = 2 then
    let n := g 8 2
    if clen < 12 ∨ clen ≠ 12 + 8 * n then .bad 1
    else
      let es := drawEnts b 12 n
      let badEnt (i : Nat) : Bool :=
        let o := 12 + 8 * i
        let l := g o 1
        decide (1 < g (o + 1) 1) ||
          (match desc l with | some d => d.ty != tCARD && g (o + 4) 4 != 0 | none => false)
      if ¬ hdr0 ∨ g 10 2 ≠ 0 ∨ (List.range n).any badEnt ∨ ¬ noDup (es.map DrawEnt.layer) then .bad 4 else .ok (.draw es)
  else if ty = 3 then
    let w := g 16 2
    let h := g 18 2
    let src := g 10 1
    let inl := src = 1
    if clen < 36 ∨ clen ≠ (if inl then 36 + 4 * w * h else 36) then .bad 1
    else
      let r : Region :=
        { layer := g 8 1, rop := g 9 1, src := src, srcL := g 11 1, dx := g 12 2, dy := g 14 2, w := w, h := h, sx := g 20 2,
          sy := g 22 2, clip := g 24 2, pat := g 28 4, data := if inl then (List.range (w * h)).map (fun i => g (36 + 4 * i) 4) else [] }
      let fits (d : Desc) (x y : Nat) : Bool := decide (x + w ≤ d.width ∧ y + h ≤ d.height)
      let dstBad : Bool := match desc r.layer with | some d => d.ty != tCARD || !fits d r.dx r.dy | none => false
      let srcBad : Bool := src == 2 && (match desc r.srcL with | some d => d.ty != tCARD || !fits d r.sx r.sy | none => false)
      if ¬ hdr0 ∨ 2 < src ∨ (src ≠ 2 ∧ r.srcL ≠ 0) ∨ w = 0 ∨ h = 0 ∨ 8192 < w ∨ 8192 < h ∨ g 26 2 ≠ 0 ∨ g 32 4 ≠ 0 ∨ dstBad ∨ srcBad
          ∨ (src = 0 ∧ ropReadsS r.rop) ∨ (maskBits 16 r.clip).any clipBad then .bad 4
      else .ok (.region r)
  else if ty = 4 then
    if clen ≠ 12 then .bad 1
    else if ¬ hdr0 ∨ g 9 3 ≠ 0 then .bad 4 else .ok (.release (g 8 1))
  else if ty = 5 then
    if clen ≠ 32 then .bad 1
    else
      let q : Guard :=
        { since := 0, gid := g 8 1, action := g 9 1, view := g 10 2, x0 := g 12 4, y0 := g 16 4, x1 := g 20 4, y1 := g 24 4, crc := g 28 4 }
      let clear : Bool := q.x0 == 0xFFFFFFFF && q.x1 == 0xFFFFFFFF && q.y0 == 0xFFFFFFFF && q.y1 == 0xFFFFFFFF
      let (pw, ph, views) := pan
      if ¬ hdr0 ∨ 15 < q.gid ∨ 3 < q.action ∨ (q.view ≠ 0xFFFF ∧ views ≤ q.view) then .bad 4
      else if ¬ clear ∧ (q.x1 < q.x0 ∨ q.y1 < q.y0 ∨ pw ≤ q.x1 ∨ ph ≤ q.y1) then .bad 4
      else .ok (.signature q)
  else if ty = 6 then
    if clen ≠ 20 then .bad 1
    else if ¬ hdr0 ∨ 999999999 < g 16 4 then .bad 4
    else .ok (.launch (((g 8 2 * 2 ^ 32 + g 12 4) * 1000000000 + g 16 4) * 65536 + g 10 2) (g 16 4))
  else if ty = 7 then
    if clen ≠ 12 then .bad 1
    else if ¬ hdr0 ∨ g 10 2 ≠ 0 then .bad 4 else .ok (.mode (g 8 1) (g 9 1))
  else .skip ty

/-- The commands of a list body cut by their CLEN; none where they do not fill the unit exactly. -/
def splitCmds : Nat → List Byte → Option (List (List Byte))
  | 0, [] => some []
  | 0, _ :: _ => none
  | n + 1, b =>
    let clen := beAt b 4 4
    if b.length < 8 ∨ clen < 8 ∨ clen % 4 ≠ 0 ∨ b.length < clen then none
    else (splitCmds n (b.drop clen)).map (fun r => b.take clen :: r)

/-- The layers that the bytes of a command name, whatever its other fields hold (R168 cause 3, R169). -/
def cmdLayers (b : List Byte) : List Nat :=
  let ty := beAt b 0 1
  if ty = 1 ∨ ty = 4 then [beAt b 8 1]
  else if ty = 2 then (drawEnts b 12 (beAt b 8 2)).map DrawEnt.layer
  else if ty = 3 then beAt b 8 1 :: (if beAt b 10 1 = 2 then [beAt b 11 1] else [])
  else []

/-- What a list's check finds (R168): its cause, or its commands and the types skipped. -/
def checkList (b : List Byte) (desc : Nat → Option Desc) (pan : Nat × Nat × Nat) (clipBad : Nat → Bool) : Nat ⊕ (List Cmd × List Nat) :=
  if b.length < 20 then .inl 1
  else
    match splitCmds (beAt b 16 2) (b.drop 20) with
    | none => .inl 1
    | some l =>
      let ps := l.map (fun c => parseCmd c desc pan clipBad)
      let cmds := ps.filterMap (fun p => match p with | .ok c => some c | _ => none)
      let bad (n : Nat) : Bool := ps.any (fun p => match p with | .bad c => c == n | _ => false)
      let draws := (l.filter (fun c => beAt c 0 1 = 2)).length
      let launches := (l.filter (fun c => beAt c 0 1 = 6)).length
      if bad 1 then .inl 1
      else if 1 < draws ∨ 1 < launches then .inl 2
      else if l.any (fun c => (cmdLayers c).any (fun x => (desc x).isNone)) then .inl 3
      else if bad 4 ∨ beAt b 18 2 ≠ 0 then .inl 4
      else .inr (cmds, ps.filterMap (fun p => match p with | .skip t => some t | _ => none))

/-- The stream mode requests of a list that comes after its pound has opened (R55): event 0x00A for each. -/
def State.lateModes (s : State) (b : List Byte) (p : Nat) : State :=
  if s.lock.phase = .level ∧ p = s.lock.nextPound then s
  else
    let l := (splitCmds (beAt b 16 2) (b.drop 20)).getD []
    s.each (l.filter (fun c => beAt c 0 1 = 7 ∧ c.length = 12)) (fun s c => s.raise 0x00A bTOP p (beAt c 8 1 + 256 * beAt c 9 1))

/-- A list that is discarded (R168): counted, event 0x412. -/
def State.listDiscard (s : State) (k cause p : Nat) : State :=
  (s.inc F.RING_CMD_MISS_REFUSED).raise 0x412 bRING (cause + 256 * k) p

/-- Panel pixels across and down, and views, of the scene that governs a list; of the committed geometry without one. -/
def State.panelOf (s : State) (sc : Option Scene) : Nat × Nat × Nat :=
  match sc with
  | some c => (c.cols * c.vcols, c.rows * c.vrows, c.vcols * c.vrows)
  | none => let g := s.cset.geom; (g.cols * g.vcols, g.rows * g.vrows, g.vcols * g.vrows)

/-- A list that has been checked (R168): refused with event 0x413, or held for its pound. -/
def State.checkedList (s : State) (k p crc : Nat) (r : Nat ⊕ (List Cmd × List Nat)) : State :=
  match r with
  | .inl c =>
    let s := s.modSlot k (fun sl => { sl with refused := sl.refused ++ [(p, crc)] })
    (s.inc F.RING_CMD_MISS_REFUSED).raise 0x413 bRING (c + 256 * k) p
  | .inr (cmds, skipped) =>
    let s := s.each skipped (fun s t => s.raise 0x415 bRING t p)
    s.modSlot k (fun sl => { sl with lists := sl.lists ++ [{ pound := p, crc := crc, cmds := cmds }] })

/-- The UCRC of the first complete list for `p`, held or refused (R168). -/
def SceneSlot.firstList (k : SceneSlot) (p : Nat) : Option Nat :=
  (((k.lists.map (fun x => (x.pound, x.crc))) ++ k.refused).find? (fun x => x.1 == p)).map Prod.snd

/-- A complete CMDLIST unit (R168). -/
def State.cmdlistUnit (s : State) : State :=
  match takeUnit 2 s.strm.ready with
  | none => s
  | some (u, r) =>
    let s := { s with strm := { s.strm with ready := r } }
    let k := beAt u.bytes 1 1
    let p := beAt u.bytes 4 4
    let crc := beAt u.bytes 12 4
    match unitCause u with
    | some c => s.unitDiscard u c
    | none =>
      if s.tooFar p then s.unitDiscard u 3
      else
        let s := s.unitDone p u.moors
        let sl := s.strm.slot k
        if s.isClosed p then (s.listDiscard k 1 p).lateModes u.bytes p
        else
          match sl.firstList p with
          | some x => if x = crc then s else s.listDiscard k 2 p
          | none => s.checkedList k p crc (checkList u.bytes (sl.listDesc p) (s.panelOf (sl.governs p)) s.cset.clipBad)

/-- The stream context of a tile (R165). -/
def Scene.ctx (c : Scene) (slot l tx ty : Nat) : Nat :=
  match c.desc l with
  | none => 0
  | some d =>
    if d.ty = tPLANAR ∨ d.ty = tRELIEF then slot * 7680 + l * 240 + ty * 20 + tx
    else
      let before := ((c.descs.filter (fun e => (e.ty = tFLAT ∨ e.ty = tDIRECT) ∧ e.layer < l)).map (fun e => e.tilesX * e.tilesY)).sum
      15360 + slot * 504 + before + ty * d.tilesX + tx

/-- A chunk keeps the table of R179 and the subsample rules of R180. -/
def chunkOk (b : List Byte) (d : Desc) (enc : Bool) : Bool :=
  let subs := beAt b 0x20 2
  let lens := beAt b 0x14 4 + beAt b 0x18 4 + beAt b 0x1C 4
  let total := 0x24 + 8 * subs + lens
  let ss := (List.range subs).map (fun i => (beAt b (0x24 + 8 * i) 4, beAt b (0x28 + 8 * i) 4))
  decide (0x24 ≤ b.length) && decide (beAt b 0x10 1 < d.tilesX) && decide (beAt b 0x11 1 < d.tilesY) && beAt b 0x12 1 == d.planes
    && decide (beAt b 0x13 1 < 2) && decide (subs ≤ 1024) && beAt b 0x22 2 == 0 && b.length == ceilDiv total 4 * 4
    && (b.drop total).all (· == 0#8) && (bitAt d.planes 0 || beAt b 0x14 4 == 0) && (bitAt d.planes 1 || beAt b 0x18 4 == 0)
    && (bitAt d.planes 2 || beAt b 0x1C 4 == 0)
    && (if enc then decide ((ss.map (fun x => x.1 + x.2)).sum = lens) && ss.all (fun x => x.2 % 16 == 0) else subs == 0)

/-- A CHUNK unit as a chunk. -/
def parseChunk (u : StreamUnit) (c : Scene) (k : Nat) (d : Desc) : Chunk :=
  let b := u.bytes
  let subs := beAt b 0x20 2
  let l := beAt b 2 1
  let tx := beAt b 0x10 1
  let ty := beAt b 0x11 1
  { slot := k, layer := l, pound := beAt b 4 4, tx := tx, ty := ty, planes := d.planes, rap := bitAt (beAt b 0x13 1) 0,
    lenC := beAt b 0x14 4, lenA := beAt b 0x18 4, lenR := beAt b 0x1C 4,
    subs := (List.range subs).map (fun i => (beAt b (0x24 + 8 * i) 4, beAt b (0x28 + 8 * i) 4)), body := b.drop (0x24 + 8 * subs),
    enc := match u.enc with | some (e, _) => e | none => false, key := match u.enc with | some (_, y) => y | none => 0,
    chan := u.chan, ctx := c.ctx k l tx ty, profile := d.profile, ucrc := beAt b 0x0C 4, moors := u.moors }

/-- The causes that discard a CHUNK (R157 to R159, R179 to R181); the chunk otherwise. `none` on the left is lateness. [DEDUCED: log 144] -/
def State.chunkCheck (s : State) (u : StreamUnit) : Nat ⊕ Chunk :=
  let b := u.bytes
  let k := beAt b 1 1
  let l := beAt b 2 1
  let p := beAt b 4 4
  match unitCause u with
  | some c => .inl c
  | none =>
    if s.tooFar p then .inl 3
    else
      let last := (chanOf s.strm.chans u.grp u.chan).bind Chan.lastP
      let early : Bool := match last with | some q => laterPound q p | none => false
      if early then .inl 4
      else
        match (s.strm.slot k).descFor p l with
        | none => .inl 5
        | some (c, d) =>
          if ¬ d.tiled ∨ d.chan ≠ u.chan ∨ c.grp ≠ u.grp then .inl 5
          else
            let enc : Bool := match u.enc with | some (e, _) => e | none => false
            if ¬ chunkOk b d enc then .inl 6
            else if s.strm.seen.contains (k, l, beAt b 0x10 1, beAt b 0x11 1, p) then .inl 8
            else .inr (parseChunk u c k d)

end Sys2Proof.Machine
end

