-- ==== Sys2Proof/Machine/Decoder.lean ====
section
/-! DEFINITION. Layer decoding and damaged streams: chunks, stream contexts, decoder cores, texels and concealment (R182 to
R202). The parts of H.265 are in Hevc.lean. -/

namespace Sys2Proof.Machine

/-- An empty plane of a context (R186). -/
def CtxPlane.empty : CtxPlane := { hevc := HevcCtx.empty, pound := none, noRasl := false, conc := false, since := 0 }

/-- A context as initialised (R186). -/
def DecCtx.init : DecCtx :=
  { waitRap := true, planes := List.replicate 3 CtxPlane.empty, refMoor := none, cscTold := false }

/-- A stream context; one never touched reads as initialised (R186: every reset initialises all). -/
def DecSt.ctx (d : DecSt) (n : Nat) : DecCtx := Sparse.get (fun _ => DecCtx.init) d.ctxs n

/-- `d` with a context replaced. -/
def DecSt.setCtx (d : DecSt) (n : Nat) (c : DecCtx) : DecSt := { d with ctxs := Sparse.set (fun _ => DecCtx.init) d.ctxs n c }

/-- Contexts with any plane CONCEALED (DEC_CONCEALED). -/
def DecSt.concealed (d : DecSt) : Nat := (d.ctxs.filter (fun e => e.2.planes.any CtxPlane.conc)).length

/-- The descriptor that governs a layer in a pound. -/
def State.descOf (s : State) (slot layer p : Nat) : Option Desc := ((s.strm.slot slot).governs p).bind (fun c => c.desc layer)

/-- An event of a decoder core (R444): once per pound per key, 32 per pound in all (the limits on 0x600 to 0x606). -/
def State.decEvent (s : State) (core code key arg0 arg1 : Nat) : State :=
  if (s.evt.limited.filter (fun p => decide (0x600 ≤ p.1 ∧ p.1 ≤ 0x606))).length < 32 then s.raiseOnceI code bDEC core key arg0 arg1 else s

/-- The core that decodes in a context; 0xFF where none does. -/
def DecSt.coreOf (d : DecSt) (n : Nat) : Nat :=
  ((List.range 16).find? (fun i => match (d.cores[i]?).getD none with | some j => j.chunk.ctx == n | none => false)).getD 0xFF

/-- A barge older than a unit accepts is discarded whole (R43): counted, event 0x006. -/
def State.stale (s : State) (tag oldest : Nat) : State := (s.inc F.TOP_STALE_CNT_COUNT).raise 0x006 bTOP tag oldest

/-- The flag a layer type belongs to (R172): none for CARD. -/
def srcFlag (ty : Nat) : Option Nat :=
  if ty = tPLANAR ∨ ty = tRELIEF ∨ ty = tPATTERN then some mFIELD
  else if ty = tFLAT then some mFLAT
  else if ty = tDIRECT then some mDIRECT
  else none

/-- The source of a layer type is set in a mode. [DEDUCED: log 69] -/
def srcOn (m : BitVec 8) (ty : Nat) : Bool := match srcFlag ty with | some f => has m f | none => true

/-- A complete CHUNK unit (R159, R179 to R181): a barge tagged with its pound, or discarded. [DEDUCED: log 69] -/
def State.chunkUnit (s : State) : State :=
  match takeUnit 3 s.strm.ready with
  | none => s
  | some (u, r) =>
    let s := { s with strm := { s.strm with ready := r } }
    match s.chunkCheck u with
    | .inl cause => s.unitDiscard u cause
    | .inr c =>
      if s.isClosed (poundAdd c.pound 1) then
        ((s.inc F.RING_CHUNK_LATE_COUNT).raiseOnce 0x416 bRING (c.slot * 32 + c.layer) (c.layer + 256 * c.slot) c.pound).packetsDone u.moors
      else
        let s := match chanOf s.strm.chans u.grp u.chan with
          | some ch => s.putChan { ch with lastP := some c.pound }
          | none => s
        let s := { s with strm := { s.strm with seen := (c.slot, c.layer, c.tx, c.ty, c.pound) :: s.strm.seen } }
        { s with dec := { s.dec with queue := s.dec.queue ++ [c] } }

/-- A chunk ends without a picture (R199): its packets are done. [DEDUCED: log 69] -/
def State.loseChunk (s : State) (c : Chunk) : State := s.unitDone c.pound c.moors

/-- A chunk of pound `p` ended in decoding, with its UCRC, or was skipped (R398). -/
def DecSt.noteEnd (d : DecSt) (p ucrc : Nat) : DecSt :=
  let (n, c) := ((d.ended.find? (fun e => e.1 == p)).map Prod.snd).getD (0, 0)
  { d with ended := ((p, n + 1, (c + ucrc) % 2 ^ 32) :: d.ended.filter (fun e => e.1 ≠ p)).take 8 }

/-- A chunk is skipped (R176, R186). [DEDUCED: log 64] -/
def State.skipChunk (s : State) (c : Chunk) : State :=
  State.loseChunk (State.inc { s with dec := s.dec.noteEnd c.pound 0 } F.DEC_WAIT_CNT_SKIPPED) c

/-- The first element of the queue with the earliest pound that satisfies `f`, and the rest. -/
def takeChunk (f : Chunk → Bool) (q : List Chunk) : Option (Chunk × List Chunk) :=
  let best := q.foldl (fun (b : Option Chunk) c =>
    if f c then (match b with | none => some c | some d => if laterPound d.pound c.pound then some c else some d) else b) none
  best.map (fun c => (c, q.erase c))

/-- Chunks that are stale at core `i` (R43, R190) leave the queue; a core that is off or reloads takes none. -/
def State.bargeDec (s : State) (i : Nat) : State :=
  let u := unitOf s.units bDEC i
  match u.acted with
  | none => s
  | some a =>
    if ¬ s.unitUp bDEC i ∨ u.reload then s
    else
      let old := s.dec.queue.filter (fun c => laterPound a c.pound)
      let s := { s with dec := { s.dec with queue := s.dec.queue.filter (fun c => !laterPound a c.pound) } }
      s.each old (fun s c => (s.stale c.pound a).loseChunk c)

/-- Chunks that have become stale at any core leave the queue (R43, R190). -/
def State.dropStaleChunks (s : State) : State := s.each (List.range 16) State.bargeDec

/-- The stream context of a chunk, and its layer's profile, by the header that governs its pound now (R165). -/
def State.renumber (s : State) (c : Chunk) : Chunk :=
  match ((s.strm.slot c.slot).governs c.pound).bind (fun sc => (sc.desc c.layer).map (fun d => (sc, d))) with
  | some (sc, d) => { c with ctx := sc.ctx c.slot c.layer c.tx c.ty, profile := d.profile }
  | none => c

/-- A chunk that no descriptor of its pound covers any longer (R159, R162): its layer is described by a header that does not govern the
pound, or the header has changed its tiles or planes. It is skipped. [DEDUCED: log 144] -/
def State.uncovered (s : State) (c : Chunk) : Bool :=
  match s.descOf c.slot c.layer c.pound with
  | some d => !(d.tiled && decide (c.tx < d.tilesX) && decide (c.ty < d.tilesY) && c.planes == d.planes)
  | none => true

/-- Queued chunks carry the context numbers of the headers that govern their pounds (R165). -/
def State.renumberQueue (s : State) : State := { s with dec := { s.dec with queue := s.dec.queue.map s.renumber } }

/-- The access unit of plane `i` (0 colour, 1 alpha, 2 relief) of a chunk's clear body. -/
def Chunk.au (c : Chunk) (body : List Byte) (i : Nat) : List Byte :=
  if i = 0 then body.take c.lenC
  else if i = 1 then (body.drop c.lenC).take c.lenA
  else (body.drop (c.lenC + c.lenA)).take c.lenR

/-- The planes a chunk carries. -/
def Chunk.planeList (c : Chunk) : List Nat := (List.range 3).filter (bitAt c.planes)

/-- Every plane of the chunk is random-access (R184). -/
def Chunk.allRap (c : Chunk) (body : List Byte) : Bool := c.planeList.all (fun i => isIrap (firstVcl (c.au body i)))

/-- The lowest-numbered idle powered core below the decoder limit that has acted on the token of `p` and is not reloading (R188,
R43, R440). -/
def State.idleCore (s : State) (p : Nat) : Option Nat :=
  (List.range (capLimits (s.rd F.HK_CAP_CAP)).2).find? (fun i =>
    s.unitTakes bDEC i && (unitOf s.units bDEC i).acted == some p && ((s.dec.cores[i]?).getD none).isNone)

/-- The context is being decoded. -/
def DecSt.ctxBusy (d : DecSt) (n : Nat) : Bool := d.cores.any (fun j => match j with | some j => j.chunk.ctx == n | none => false)

/-- The chunk can be taken now (R186, R188, R190): its pound is open at the decoders and its deadline has not come; the contexts have
moved and are initialised, and the previous chunk of its own has ended. -/
def State.eligible (s : State) (c : Chunk) : Bool :=
  s.strm.late.isEmpty && !s.isClosed (poundAdd c.pound 1) && s.isClosed c.pound && !s.dec.ctxBusy c.ctx && (s.idleCore c.pound).isSome

/-- A layer released at `p` takes no chunk tagged `p` (R176). [DEDUCED: log 64] -/
def State.releasedAt (s : State) (slot layer p : Nat) : Bool := s.strm.released.contains (slot, layer, p)

/-- A context number moves to the front of the cache (R187). [DEDUCED: log 67] -/
def DecSt.touch (d : DecSt) (n : Nat) : DecSt := { d with cache := (n :: d.cache.filter (· ≠ n)).take 512 }

/-- A context is loaded from the cache or from the Basin (R187). [DEDUCED: log 67] -/
def State.loadCtx (s : State) (n : Nat) : State :=
  let s := if s.dec.cache.contains n then s.inc F.DEC_CACHE_CNT_HIT else s.inc F.DEC_CACHE_CNT_MISS
  { s with dec := s.dec.touch n }

/-- A chunk of a layer whose moorings cannot be had (R191). -/
def State.noMooring (s : State) (core : Nat) (c : Chunk) : State :=
  ((s.inc F.DEC_WAIT_CNT_NOMOOR).decEvent core 0x606 c.ctx c.ctx c.pound).loseChunk c

/-- A core begins a chunk with a TEXEL and a REF mooring (R187, R191). -/
def State.startChunk (s : State) (core : Nat) (c : Chunk) (body : List Byte) (rap : Bool) : State :=
  let t := s.alloc cTEXEL
  match t.1 with
  | none => t.2.noMooring core c
  | some tex =>
    let f := t.2.alloc cREF
    match f.1 with
    | none => (f.2.freeMoor false tex).noMooring core c
    | some ref =>
      let s := f.2.loadCtx c.ctx
      let j : CoreJob := { chunk := c, body := body, since := s.clk.now, rap := rap, tex := tex, ref := ref, last := none }
      { s with dec := { s.dec with cores := modAt s.dec.cores core (fun _ => some j) } }

/-- The eligible chunk goes to a core (R184, R186, R188, R190 to R192). -/
def State.chunkDispatch (s : State) : State :=
  let s := s.dropStaleChunks.renumberQueue
  match takeChunk s.eligible s.dec.queue with
  | none => s
  | some (c, q) =>
    match s.idleCore c.pound with
    | none => s
    | some core =>
      let s := { s with dec := { s.dec with queue := q } }
      let m := (s.setOf c.pound).mode
      let ty := match s.descOf c.slot c.layer c.pound with | some d => d.ty | none => 0
      let ctx := s.dec.ctx c.ctx
      if has m mHOLD ∨ ¬ srcOn m ty then s.loseChunk c
      else if s.uncovered c ∨ s.releasedAt c.slot c.layer c.pound ∨ (ctx.waitRap ∧ ¬ c.rap) then s.skipChunk c
      else
        let half := s.sec.half c.key
        if c.enc ∧ half.isNone then
          (s.raiseOnce 0xF02 bSEC (c.key % 32) (c.key % 32) c.chan).loseChunk c
        else
          let body := match c.enc, half with | true, some h => cbcs h c.subs c.body | _, _ => c.body
          let rap := c.rap && c.allRap body
          let s := if c.rap ∧ ¬ rap then s.decEvent core 0x604 c.ctx c.ctx c.pound else s
          if ctx.waitRap ∧ ¬ rap then s.skipChunk c
          else
            s.startChunk core c body rap

/-- Sample (x, y) of a component of a 512 × 512 picture; 4:2:0 chroma at half resolution (R194). -/
def HevcPic.at_ (p : HevcPic) (comp x y : Nat) : Nat :=
  if comp ≠ 0 ∧ p.chroma = 1 then ((p.comps.getD comp []).getD (y / 2 * 256 + x / 2) 0) else ((p.comps.getD comp []).getD (y * 512 + x) 0)

/-- A picture with its concealed squares copied from the substitute, or mid-grey (R197, R198). -/
def HevcPic.patch (p : HevcPic) (subst : Option HevcPic) (squares : List (Nat × Nat × Nat)) : HevcPic :=
  let hit (x y : Nat) : Bool := squares.any (fun q => decide (q.1 ≤ x ∧ x < q.1 + q.2.2 ∧ q.2.1 ≤ y ∧ y < q.2.1 + q.2.2))
  let w (comp : Nat) : Nat := if comp ≠ 0 ∧ p.chroma = 1 then 256 else 512
  let val (comp k : Nat) : Nat :=
    match subst with
    | some q => (q.comps.getD comp []).getD k 0
    | none => 2 ^ (p.depth - 1)
  { p with comps := (List.range (if p.chroma = 0 then 1 else 3)).map (fun comp =>
      (List.range (w comp * w comp)).map (fun k =>
        let x := k % w comp * (512 / w comp)
        let y := k / w comp * (512 / w comp)
        (if hit x y then val comp k else (p.comps.getD comp []).getD k 0) % 2 ^ p.depth)) }

/-- The HEVC profile number of a plane (R182): PROFILE for colour, 3 for alpha and relief. -/
def planeProfile (c : Chunk) (i : Nat) : Nat := if i = 0 then c.profile else 3

/-- Events and counts of a decoded plane (R196, R197); a missing reference is a fault (R48, R49), and goes on as one while the plane
stays concealed (`was`). [DEDUCED: log 29] -/
def State.planeEvents (s : State) (core key arg0 : Nat) (out : HevcOut) (conc was : Bool) : State :=
  let s := s.each out.damage (fun s d => (s.inc F.DEC_ERR_CNT_SYNTAX).decEvent core 0x601 key arg0 (d.1 % 65536 + d.2 * 65536))
  let s := s.each out.missing (fun s p => (s.inc F.DEC_ERR_CNT_REFMISS).decEvent core 0x602 key arg0 (unsigned 32 p))
  let s := if out.missing = [] then s else if was then s.recoveryOf 0x602 else s.noteFault 0x602
  if conc then s.inc F.DEC_CONCEAL_CNT_PICTURES else s

/-- One plane of a chunk is decoded (R184, R196 to R200): the plane's new state, and whether a picture came. [PRESUMED: log 62] -/
def State.decodePlane (s : State) (c : Chunk) (wait : Bool) (body : List Byte) (i : Nat) (cp : CtxPlane) : State × CtxPlane × Bool :=
  let au := c.au body i
  let t := firstVcl au
  if isRasl t ∧ cp.noRasl then (s, { cp with hevc := { cp.hevc with params := cp.hevc.params.take (planeProfile c i) au } }, false)
  else
    let out := hevc cp.hevc (planeProfile c i) wait au
    let conc := out.conceal ≠ [] || out.missing ≠ [] || out.refConc
    let pic := { out.pic.patch cp.hevc.newest out.conceal with conc := conc }
    let key := c.ctx * 4 + i
    let arg0 := c.ctx + i * 65536
    let core := s.dec.coreOf c.ctx
    let s := s.planeEvents core key arg0 out conc cp.conc
    let clean := isIrap t && out.damage == [] && !conc
    let flag := if clean then false else cp.conc || conc
    let s := if clean ∧ cp.conc then s.decEvent core 0x603 key arg0 ((c.pound + 2 ^ 32 - cp.since) % 2 ^ 32) else s
    let rasl := if isIrap t then (match t with | some n => decide (n ≤ 18) || (n == 21 && (wait || cp.hevc.eos)) | none => false) else cp.noRasl
    let h := { out.ctx with newest := some pic, ref := if out.isRef then some pic else out.ctx.ref }
    (s, { hevc := h, pound := some c.pound, noRasl := rasl,
          conc := flag, since := if cp.conc then cp.since else c.pound }, true)

/-- The planes of a chunk in order (R184); a plane the chunk does not carry keeps its state. -/
def State.decodePlanes (s : State) (c : Chunk) (wait : Bool) (body : List Byte) (x : DecCtx) : List Nat → State × List CtxPlane × Bool
  | [] => (s, [], false)
  | i :: l =>
    if bitAt c.planes i then
      let d := s.decodePlane c wait body i (x.planes.getD i CtxPlane.empty)
      let r := d.1.decodePlanes c wait body x l
      (r.1, d.2.1 :: r.2.1, d.2.2 || r.2.2)
    else
      let r := s.decodePlanes c wait body x l
      (r.1, x.planes.getD i CtxPlane.empty :: r.2.1, r.2.2)

/-- The matrix constants of R195: oy, ky, krr, kgb, kgr, kbb. -/
def cscConst (n : Nat) : Int × Int × Int × Int × Int × Int :=
  if n = 0 then (256, 9539, 14686, 1747, 4366, 17305)
  else if n = 1 then (0, 8192, 12901, 1535, 3835, 15201)
  else if n = 2 then (256, 9539, 13752, 1535, 5328, 17545)
  else (0, 8192, 12080, 1348, 4681, 15412)

/-- The VUI gives a matrix the texel writer uses (R194). -/
def HevcPic.cscKnown (p : HevcPic) : Bool :=
  match p.matrix with
  | some m => (m == 0 && p.chroma != 1) || m == 1 || m == 9
  | none => false

/-- Red, green and blue of a texel, 12 bits, before premultiplication (R194). -/
def HevcPic.rgb (p : HevcPic) (cscDef x y : Nat) : Nat × Nat × Nat :=
  let sh := 12 - p.depth
  let yy : Int := (p.at_ 0 x y <<< sh : Nat)
  let cb : Int := (p.at_ 1 x y <<< sh : Nat)
  let cr : Int := (p.at_ 2 x y <<< sh : Nat)
  if p.cscKnown ∧ p.matrix = some 0 then (natOf cr, natOf yy, natOf cb)
  else
    let n := if p.cscKnown then (if p.matrix = some 1 then 0 else 2) + b2n p.full else cscDef
    let (oy, ky, krr, kgb, kgr, kbb) := cscConst n
    let ly := yy - oy
    let lb := cb - 2048
    let lr := cr - 2048
    let cl (v : Int) : Nat := natOf (clampI 0 4095 (sar (v + 4096) 13))
    (cl (ky * ly + krr * lr), cl (ky * ly - kgb * lb - kgr * lr), cl (ky * ly + kbb * lb))

/-- A texel word (R193, R194) from its colour, alpha and relief samples. [DEDUCED: log 70] -/
def texelWord (rgb : Nat × Nat × Nat) (a rel : Nat) : Nat :=
  let pm (v : Nat) : Nat := (v * a + 2047) / 4095
  (pm rgb.1 + (rel % 16) * 4096) + (pm rgb.2.1 + (rel / 16 % 16) * 4096) * 2 ^ 16 + (pm rgb.2.2 + (rel / 256 % 16) * 4096) * 2 ^ 32
    + a * 2 ^ 48

/-- The texel words of a tile from the newest pictures of its planes (R193, R194). -/
def tileTexels (planes : List CtxPlane) (mask cscDef : Nat) : List Nat :=
  let pic (i : Nat) : Option HevcPic := (planes.getD i CtxPlane.empty).hevc.newest
  (List.range 262144).map (fun k =>
    let x := k % 512
    let y := k / 512
    let rgb := match pic 0 with | some p => p.rgb cscDef x y | none => (0, 0, 0)
    let a := if bitAt mask 1 then (match pic 1 with | some p => p.at_ 0 x y % 4096 | none => 0) else 4095
    let rel := if bitAt mask 2 then (match pic 2 with | some p => p.at_ 0 x y % 4096 | none => 0) else 0
    texelWord rgb a rel)

/-- The occupancy record of a tile picture (R229), for the part of the tile inside WIDTH × HEIGHT. -/
def occupancy (texels : List Nat) (tx ty width height : Nat) : Nat :=
  let word (x y : Nat) : Nat := if tx * 512 + x < width ∧ ty * 512 + y < height then texels.getD (y * 512 + x) 0 else 0
  let cell (n : Nat) : Nat :=
    let ws := (List.range 4096).map (fun k => word (n % 8 * 64 + k % 64) (n / 8 * 64 + k / 64))
    if ws.all (fun w => w &&& 0x0FFF0FFF0FFF0FFF == 0) then 1
    else if ws.all (fun w => bitsOf w 59 48 == 4095) then 2
    else 0
  ((List.range 64).map (fun n => cell n * 2 ^ (2 * n))).sum

/-- Basin byte address of the occupancy record of TEXEL mooring `m`: mooring 32 is SYS (R263, R273). -/
def occAddr (m : Nat) : Nat := 32 * moorSize + 16 * m

/-- A picture whose last pound is `u` unless it has one (R277). -/
def TilePic.fixed (u : Nat) (q : TilePic) : TilePic := if q.last.isNone then { q with last := some u } else q

/-- The picture that a core decodes will belong to an instance whose last pound is `u` (R277). -/
def CoreJob.fixed (u : Nat) (j : CoreJob) : CoreJob := if j.last.isNone then { j with last := some u } else j

/-- The previous newest picture of a tile gets its last pound U (R276). -/
def State.retireTile (s : State) (c : Chunk) : State :=
  s.each (s.dec.pics.filter (fun p => p.slot == c.slot && p.layer == c.layer && p.tx == c.tx && p.ty == c.ty && laterPound c.pound p.pound))
    (fun s p => { s with basin := s.basin.fixLast p.moor (poundSub c.pound 1) })

/-- Core time of a pound (DEC_LOAD). [DEDUCED: log 68] -/
def DecSt.addTime (d : DecSt) (p ns : Nat) : DecSt :=
  let old := ((d.time.find? (fun e => e.1 == p)).map Prod.snd).getD 0
  { d with time := ((p, old + ns) :: d.time.filter (fun e => e.1 ≠ p)).take 8 }

/-- DEC_LOAD shows pound `p`. [DEDUCED: log 68] -/
def State.showDecLoad (s : State) (p : Nat) : State :=
  let ns := ((s.dec.time.find? (fun e => e.1 == p)).map Prod.snd).getD 0
  (s.wr F.DEC_LOAD_CORE_NS (ns / 64)).peak F.DEC_LOAD_PEAK_CORE_NS (ns / 64)

/-- One more chunk of (slot, layer, pound) has finished in time (R172). -/
def DecSt.countDone (d : DecSt) (k : Nat × Nat × Nat) : DecSt :=
  let old := ((d.done.find? (fun e => e.1 == k)).map Prod.snd).getD 0
  { d with done := (k, old + 1) :: d.done.filter (fun e => e.1 ≠ k) }

/-- A core is free again, and its time counts for the pound (R189). -/
def State.coreEnd (s : State) (core : Nat) (j : CoreJob) : State :=
  let d := { s.dec with cores := modAt s.dec.cores core (fun _ => none) }
  let s := { s with dec := d.addTime j.chunk.pound (s.clk.now - j.since) }
  if s.isClosed (poundAdd j.chunk.pound 1) then s.showDecLoad j.chunk.pound else s

/-- The pictures of a decoded chunk are written: texels, occupancy record, the tile's entry (R193, R229, R276); where a release or HOLD
has ended the layer's instance meanwhile, with its last pound (R277). -/
def State.writeTile (s : State) (j : CoreJob) (planes : List CtxPlane) : State :=
  let c := j.chunk
  let cs := s.setOf c.pound
  let texels := tileTexels planes c.planes (cs.fld F.DEC_CTRL_CSC_DEF)
  let (w, h) := match s.descOf c.slot c.layer c.pound with | some d => (d.width, d.height) | none => (0, 0)
  let s := s.retireTile c
  let b := s.basin.write (j.tex * moorSize) (texels.flatMap (leBytes 8))
  let b := b.write (occAddr j.tex) (leBytes 16 (occupancy texels c.tx c.ty w h))
  let pic : TilePic :=
    { slot := c.slot, layer := c.layer, tx := c.tx, ty := c.ty, pound := c.pound, moor := j.tex, conc := planes.any CtxPlane.conc,
      last := j.last }
  let b := match j.last with | some u => b.fixLast j.tex u | none => b
  { s with basin := b, dec := { s.dec with pics := pic :: s.dec.pics } }

/-- Event 0x605 once per context (R194). -/
def State.cscDefault (s : State) (c : Chunk) (x : DecCtx) (planes : List CtxPlane) : State × Bool :=
  match (planes.getD 0 CtxPlane.empty).hevc.newest with
  | some p =>
    if p.cscKnown ∨ x.cscTold then (s, x.cscTold)
    else (s.decEvent (s.dec.coreOf c.ctx) 0x605 c.ctx c.ctx (match p.matrix with | some m => m | none => 0xFF), true)
  | none => (s, x.cscTold)

/-- A context is initialised (R186): its references are freed. -/
def State.initCtx (s : State) (n : Nat) : State :=
  let s := match (s.dec.ctx n).refMoor with | some m => s.freeMoor true m | none => s
  { s with dec := { s.dec with ctxs := Sparse.erase s.dec.ctxs n, cache := s.dec.cache.filter (· ≠ n) } }

/-- Contexts take their new numbers (R165): what they hold, their places in the cache, and the marks of the pair. -/
def State.moveCtxs (s : State) (moves : List (Nat × Nat)) : State :=
  let held := moves.map (fun m => (m.2, s.dec.ctx m.1))
  let src := moves.map Prod.fst
  let num (n : Nat) : Nat := ((moves.find? (fun m => m.1 == n)).map Prod.snd).getD n
  let ctxs := s.dec.ctxs.filter (fun e => !src.contains e.1)
  let d := held.foldl (fun d e => d.setCtx e.1 e.2) { s.dec with ctxs := ctxs }
  { s with dec := { d with cache := d.cache.map num }, pair := { s.pair with rapped := s.pair.rapped.map num } }

/-- A context that is initialised has decoded no random-access chunk (R405). -/
def State.unrap (s : State) (l : List Nat) : State := { s with pair := { s.pair with rapped := s.pair.rapped.filter (fun n => !l.contains n) } }

/-- One change of contexts is performed (R165, R186). -/
def State.stepCtx (s : State) (q : CtxPlan) : State :=
  let s := (s.each q.gone State.initCtx).unrap q.gone
  ((s.moveCtxs q.moves).each q.clears State.initCtx).unrap q.clears

/-- The contexts that a change initialises, or moves from or to. -/
def CtxPlan.touched (q : CtxPlan) : List Nat := q.gone ++ q.moves.flatMap (fun m => [m.1, m.2]) ++ q.clears

/-- The first changes of contexts of a list are performed, up to one whose contexts a core still decodes in (R186). -/
def State.stepCtxs (s : State) : List CtxPlan → State
  | [] => { s with strm := { s.strm with late := [] } }
  | q :: l => if q.touched.any s.dec.ctxBusy then { s with strm := { s.strm with late := q :: l } } else (s.stepCtx q).stepCtxs l

/-- The changes of contexts that the open has made due are performed as soon as the chunks in their contexts have ended (R165, R186). -/
def State.lateCtxs (s : State) : State := s.stepCtxs s.strm.late

/-- A plane holds a reference written by a chunk of pound `p` (R276). -/
def newRefs (old new : List CtxPlane) (p : Nat) : Bool :=
  (List.range new.length).any (fun i =>
    match old[i]?, new[i]? with
    | some a, some b =>
      b.hevc.ref.isSome && b.pound == some p && b.hevc.ref == b.hevc.newest && !(a.hevc.ref == b.hevc.ref && a.pound == b.pound)
    | _, _ => false)

/-- A core ends a chunk (R184, R187, R193 to R201). -/
def State.chunkDone (s : State) (core : Nat) : State :=
  match (s.dec.cores[core]?).getD none with
  | none => s
  | some j =>
    let c := j.chunk
    let x := s.dec.ctx c.ctx
    let d := s.decodePlanes c x.waitRap j.body x (List.range 3)
    let planes := d.2.1
    let any := d.2.2
    let s := d.1
    let s := if any then s.writeTile j planes else (s.freeMoor false j.tex).freeMoor false j.ref
    let e := s.cscDefault c x planes
    let told := e.2
    let s := e.1
    -- a newer reference replaces the one held; a chunk that writes none gives its mooring back (R276)
    let newer := newRefs x.planes planes c.pound
    let s := match newer, x.refMoor with | true, some m => s.freeMoor false m | _, _ => s
    let s := if any ∧ ¬ newer then s.freeMoor false j.ref else s
    let x' : DecCtx :=
      { waitRap := x.waitRap && !j.rap, planes := planes, refMoor := if newer then some j.ref else x.refMoor, cscTold := told }
    let s := { s with dec := ((s.dec.setCtx c.ctx x').touch c.ctx).noteEnd c.pound c.ucrc }
    let s := if j.rap ∧ ¬ s.pair.rapped.contains c.ctx then { s with pair := { s.pair with rapped := c.ctx :: s.pair.rapped } } else s
    let s := if s.isClosed (poundAdd c.pound 1) then s else { s with dec := s.dec.countDone (c.slot, c.layer, c.pound) }
    (((s.inc F.DEC_CHUNK_CNT_COUNT).coreEnd core j).unitDone c.pound c.moors).lateCtxs

/-- The moorings a core holds for a chunk that does not end are freed. -/
def State.dropJob (s : State) (core : Nat) (j : CoreJob) : State :=
  ((((s.coreEnd core j).freeMoor false j.tex).freeMoor false j.ref).loseChunk j.chunk).lateCtxs

/-- A core still decoding at close + ABANDON_US abandons its chunk (R190): event 0x600. -/
def State.chunkAbandon (s : State) (core : Nat) : State :=
  match (s.dec.cores[core]?).getD none with
  | none => s
  | some j =>
    let cs := s.setOf j.chunk.pound
    if cs.fld F.DEC_CTRL_ABANDON_US = 0 ∨ ¬ s.isClosed (poundAdd j.chunk.pound 1) then s
    else ((s.inc F.DEC_CONCEAL_CNT_ABANDONED).decEvent core 0x600 j.chunk.ctx core j.chunk.ctx).dropJob core j

/-- A core is reset (R202): its chunk is lost. -/
def State.coreReset (s : State) (core : Nat) : State :=
  match (s.dec.cores[core]?).getD none with | none => s | some j => s.dropJob core j

end Sys2Proof.Machine
end

