-- ==== Sys2Proof/Machine/Sampling.lean ====
section
/-! DEFINITION. Ray composition I: hogels, views and layer sampling (R203 to R220). -/

namespace Sys2Proof.Machine

/-- Rays of a geometry (R203). -/
def Geom.rays (g : Geom) : Nat := g.cols * g.vcols * g.rows * g.vrows

/-- Hogel blocks across and down (R218). -/
def Geom.bx (g : Geom) : Nat := ceilDiv g.cols 8
def Geom.by_ (g : Geom) : Nat := ceilDiv g.rows 8

/-- Blocks of a frame (R218). -/
def Geom.blocks (g : Geom) : Nat := g.bx * g.by_

/-- The view offset of view index `i` of `n` (R205). -/
def viewOff (mirror : Bool) (n i : Nat) : Int := if mirror then (n : Int) - 1 - 2 * i else 2 * i + 1 - n

/-- The base position on one axis (R207): hogel index, origin, step, in 1/256 texel. -/
def basePos (h : Nat) (org : Int) (step : Nat) : Int :=
  clampI (-(2 ^ 30 : Nat)) (2 ^ 30 : Nat) ((((h * 256 + 128 : Nat) : Int) - org) * 65536 / (step : Int))

/-- A sample taken (R212, R228): premultiplied colour, alpha, and whether a texel of a concealed tile was read. -/
structure Samp where
  r : Nat
  g : Nat
  b : Nat
  a : Nat
  conc : Bool
  deriving DecidableEq, Repr

/-- The zero sample. -/
def Samp.zero : Samp := { r := 0, g := 0, b := 0, a := 0, conc := false }

/-- The picture can belong to a layer instance of pound `inst` (R172, R277). -/
def TilePic.inInst (p : TilePic) (inst : Nat) : Bool :=
  !laterPound p.pound inst && (match p.last with | some u => !laterPound inst u | none => true)

/-- The tile picture that a layer instance of pound `inst` holds (R172): the newest with a tag no later than it. -/
def DecSt.tilePic (d : DecSt) (slot layer inst tx ty : Nat) : Option TilePic :=
  d.pics.foldl (fun (b : Option TilePic) p =>
    if p.slot = slot ∧ p.layer = layer ∧ p.tx = tx ∧ p.ty = ty ∧ p.inInst inst then
      (match b with | none => some p | some q => if laterPound p.pound q.pound then some p else some q)
    else b) none

/-- A word of `n` bytes at byte `f` of a list of moorings (R263). -/
def BasinSt.listWord (b : BasinSt) (moors : List Nat) (f n : Nat) : Nat := b.readLe (moors.getD (f / moorSize) 0 * moorSize + f % moorSize) n

/-- A CARD pixel widened to 12-bit containers (R216). -/
def cardTexel (p : Nat) : Nat :=
  let w (c : Nat) : Nat := c * 16 + c / 16
  w (bitsOf p 23 16) + w (bitsOf p 15 8) * 2 ^ 16 + w (bitsOf p 7 0) * 2 ^ 32 + w (bitsOf p 31 24) * 2 ^ 48

/-- tex(x, y) of a layer (R211, R216): the texel word, whether its tile is concealed, and whether a tile that holds a picture
was read (R210). -/
def State.tex (s : State) (l : StackLayer) (x y : Int) : Nat × Bool × Bool :=
  if x < 0 ∨ y < 0 ∨ (l.desc.width : Int) ≤ x ∨ (l.desc.height : Int) ≤ y then (0, false, false)
  else
    let xn := x.toNat
    let yn := y.toNat
    if l.desc.ty = tCARD then
      (if l.surf = [] then (0, false, false) else (cardTexel (s.basin.listWord l.surf (4 * (yn * l.desc.width + xn)) 4), false, true))
    else
      match s.dec.tilePic l.slot l.desc.layer l.inst (xn / 512) (yn / 512) with
      | none => (0, false, false)
      | some p => (s.basin.readLe (p.moor * moorSize + 8 * (yn % 512 * 512 + xn % 512)) 8, p.conc, true)

/-- Container `c` of a texel word (R193): 0 R, 1 G, 2 B, 3 A, bits 11:0. -/
def texCh (w c : Nat) : Nat := (w / 2 ^ (16 * c)) % 4096

/-- A texel as a sample (R213). -/
def texSamp (t : Nat × Bool × Bool) : Samp :=
  { r := texCh t.1 0, g := texCh t.1 1, b := texCh t.1 2, a := texCh t.1 3, conc := t.2.1 }

/-- The nearest texel of a position (R213). -/
def nearestOf (p : Int) : Int := sar (p + 128) 8

/-- One channel of the bilinear filter (R212). -/
def bilerp (t00 t10 t01 t11 fx fy : Nat) : Nat :=
  ((t00 * (256 - fx) + t10 * fx) * (256 - fy) + (t01 * (256 - fx) + t11 * fx) * fy + 32768) / 65536

/-- The bilinear sample at (px, py) (R212); a texel of weight zero is not read for CONC (R228). -/
def State.bilinear (s : State) (l : StackLayer) (px py : Int) : Samp :=
  let ix := sar px 8
  let iy := sar py 8
  let fx := unsigned 8 px
  let fy := unsigned 8 py
  let t00 := s.tex l ix iy
  let t10 := s.tex l (ix + 1) iy
  let t01 := s.tex l ix (iy + 1)
  let t11 := s.tex l (ix + 1) (iy + 1)
  let ch (c : Nat) : Nat := bilerp (texCh t00.1 c) (texCh t10.1 c) (texCh t01.1 c) (texCh t11.1 c) fx fy
  { r := ch 0, g := ch 1, b := ch 2, a := ch 3,
    conc := t00.2.1 || (t10.2.1 && decide (fx ≠ 0)) || (t01.2.1 && decide (fy ≠ 0)) || (t11.2.1 && decide (fx ≠ 0 ∧ fy ≠ 0)) }

/-- A sample by the filter in force (R212, R213). -/
def State.filtered (s : State) (l : StackLayer) (nearest : Bool) (px py : Int) : Samp :=
  if nearest then texSamp (s.tex l (nearestOf px) (nearestOf py)) else s.bilinear l px py

/-- A relief sample of a texel word (R193, R210). -/
def reliefOf (w : Nat) : Nat := bitsOf w 15 12 + bitsOf w 31 28 * 16 + bitsOf w 47 44 * 256

/-- Grey of 12 bits where a bit is set. -/
def patRgb (on : Nat → Bool) (v : Nat) : Samp :=
  { r := if on 0 then v else 0, g := if on 1 then v else 0, b := if on 2 then v else 0, a := 4095, conc := false }

/-- A pattern sample (R217) at texel (x, y) of hogel (hx, hy), view (vc, vr). -/
def patternSample (d : Desc) (g : Geom) (x y : Int) (hx hy vc vr : Nat) : Samp :=
  if x < 0 ∨ y < 0 ∨ (d.width : Int) ≤ x ∨ (d.height : Int) ≤ y then Samp.zero
  else
    let xn := x.toNat
    let yn := y.toNat
    let l := d.patArg % 4096
    let st := d.patArg % 256 + 1
    let white := patRgb (fun _ => true) 4095
    if d.patId = 0 then patRgb (fun _ => true) l
    else if d.patId = 1 then
      let k := xn * 8 / d.width
      patRgb (fun c => if c = 0 then [0, 1, 4, 5].contains k else if c = 1 then [0, 1, 2, 3].contains k else [0, 2, 4, 6].contains k) l
    else if d.patId = 2 then
      let v := if d.width = 1 then 0 else xn * 4095 / (d.width - 1)
      patRgb (fun c => bitAt d.patArg (12 + c)) v
    else if d.patId = 3 then (if xn % st = 0 ∨ yn % st = 0 then white else Samp.zero)
    else if d.patId = 4 then (if (xn / st + yn / st) % 2 = 1 then white else patRgb (fun _ => false) 0)
    else if d.patId = 5 then
      { r := vc * 4095 / (g.vcols - 1), g := vr * 4095 / (g.vrows - 1), b := l, a := 4095, conc := false }
    else if d.patId = 6 then (if hx % st = 0 ∨ hy % st = 0 then white else Samp.zero)
    else Samp.zero

/-- A layer whose STEP is 0 is transparent (R208); DIRECT ignores STEP. -/
def Desc.stepZero (d : Desc) : Bool := d.ty != tDIRECT && (d.stepX == 0 || d.stepY == 0)

/-- What a ray needs besides the layer: geometry, mirrors, hogel, view (R204). -/
structure Ray where
  geom : Geom
  mx   : Bool
  my   : Bool
  hx   : Nat
  hy   : Nat
  vc   : Nat
  vr   : Nat
  deriving DecidableEq, Repr

/-- The mirrors of a committed set (R205). -/
def CSet.mirrorX (c : CSet) : Bool := c.fld F.COMP_PANEL_VIEW_MIRROR_X == 1
def CSet.mirrorY (c : CSet) : Bool := c.fld F.COMP_PANEL_VIEW_MIRROR_Y == 1

/-- The ray's view offsets (R205). -/
def Ray.du (r : Ray) : Int := viewOff r.mx r.geom.vcols r.vc
def Ray.dv (r : Ray) : Int := viewOff r.my r.geom.vrows r.vr

/-- How a dim view samples a layer (R252): in full, nearest without relief (DIM 0), or zero (DIM 1). -/
inductive DimKind where
  | full | coarse | zero
  deriving DecidableEq, Repr

/-- The dim sampling of a layer type. -/
def dimOf (lit : Bool) (dim ty : Nat) : DimKind :=
  if lit ∨ ¬ (ty = tPLANAR ∨ ty = tRELIEF) then .full else if dim = 0 then .coarse else .zero

/-- The sample of layer `l` for a ray (R207 to R209, R214 to R217, R252). -/
def State.sample (s : State) (l : StackLayer) (r : Ray) (k : DimKind) : Samp :=
  let d := l.desc
  if l.res = 2 ∨ k = .zero ∨ d.stepZero then Samp.zero
  else if d.ty = tDIRECT then
    texSamp (s.tex l (((r.hx : Int) - sar d.orgX 8) * r.geom.vcols + r.vc) (((r.hy : Int) - sar d.orgY 8) * r.geom.vrows + r.vr))
  else
    let bx := basePos r.hx d.orgX d.stepX
    let by_ := basePos r.hy d.orgY d.stepY
    let px := bx + sar (d.disp * r.du) 1
    let py := by_ + sar (d.disp * r.dv) 1
    if d.ty = tPATTERN then patternSample d r.geom (nearestOf px) (nearestOf py) r.hx r.hy r.vc r.vr
    else if d.ty = tRELIEF ∧ k = .full then
      let t := s.tex l (nearestOf px) (nearestOf py)
      let rel : Int := if t.2.2 then (reliefOf t.1 : Nat) else 2048
      let de := clampI (-32768) 32767 (d.disp + sar ((rel - 2048) * d.relief) 8)
      let q := s.filtered l l.nearest (bx + sar (de * r.du) 1) (by_ + sar (de * r.dv) 1)
      { q with conc := q.conc || t.2.1 }
    else s.filtered l (l.nearest || k == .coarse) px py

end Sys2Proof.Machine
end

