-- ==== Sys2Proof/Machine/Blend.lean ====
section
/-! DEFINITION. Ray composition II: the stack, blending, output codes and the sluice map (R221 to R238), and viewer cones (R250
to R252). -/

namespace Sys2Proof.Machine

/-- A layer comes before another in the stack (R222), ties kept by position. -/
def StackLayer.before (a b : StackLayer) : Bool :=
  let cls (l : StackLayer) : Nat := if l.overlay then 0 else if l.desc.ty = tDIRECT then 2 else 1
  let depth (l : StackLayer) : Int := if l.desc.ty = tFLAT then 0 else l.desc.zkey
  let flat (l : StackLayer) : Nat := if l.desc.ty = tFLAT then 0 else 1
  if cls a ≠ cls b then decide (cls a < cls b)
  else if depth a ≠ depth b then decide (depth a < depth b)
  else decide (flat a < flat b)

/-- Insert a layer behind all that it does not come before. -/
def insertLayer : List StackLayer → StackLayer → List StackLayer
  | [], l => [l]
  | a :: r, l => if l.before a then l :: a :: r else a :: insertLayer r l

/-- The stack front to back (R222) of layers in draw-list order. -/
def sortStack (l : List StackLayer) : List StackLayer := l.foldl insertLayer []

/-- The layer counts for the cap (R242). -/
def StackLayer.capped (l : StackLayer) : Bool :=
  !l.overlay && (l.desc.ty == tPLANAR || l.desc.ty == tRELIEF || l.desc.ty == tFLAT)

/-- The layers kept by a cap, and how many are removed (R242). -/
def capStack : Nat → List StackLayer → List StackLayer × Nat
  | _, [] => ([], 0)
  | n, l :: r =>
    if l.capped then
      match n with
      | 0 => let q := capStack 0 r; (q.1, q.2 + 1)
      | n + 1 => let q := capStack n r; (l :: q.1, q.2)
    else let q := capStack n r; (l :: q.1, q.2)

/-- A 10-bit background code widened to 12 bits (R223). -/
def widen10 (c : Nat) : Nat := c * 4 + c / 256

/-- The accumulators of a ray (R223, R224). -/
structure Acc where
  t    : Nat
  ar   : Nat
  ag   : Nat
  ab   : Nat
  conc : Bool
  deriving DecidableEq, Repr

/-- The start of a walk. -/
def Acc.start : Acc := { t := 4095, ar := 0, ag := 0, ab := 0, conc := false }

/-- One layer's sample is added (R224). -/
def Acc.add (a : Acc) (p : Samp) : Acc :=
  { t := (a.t * (4095 - p.a) + 2047) / 4095, ar := a.ar + a.t * p.r, ag := a.ag + a.t * p.g, ab := a.ab + a.t * p.b,
    conc := a.conc || (p.conc && (p.r != 0 || p.g != 0 || p.b != 0 || p.a != 0)) }

/-- The background behind the last layer (R224). -/
def Acc.finish (a : Acc) (bg : Nat × Nat × Nat) : Acc :=
  { a with ar := a.ar + a.t * bg.1, ag := a.ag + a.t * bg.2.1, ab := a.ab + a.t * bg.2.2 }

/-- The 10-bit output code of an accumulator (R226). -/
def outCode (acc : Nat) : Nat := min 1023 ((682 * acc + 5589675) / 11179350)

/-- The frame-buffer word of a ray (R227). -/
def Acc.word (a : Acc) : Nat := b2n a.conc * 2 ^ 31 + outCode a.ar * 2 ^ 20 + outCode a.ag * 2 ^ 10 + outCode a.ab

/-- The background of a committed set, widened (R223). -/
def CSet.bg12 (c : CSet) : Nat × Nat × Nat :=
  (widen10 (c.fld F.TOP_BG_COLOR_RED), widen10 (c.fld F.TOP_BG_COLOR_GREEN), widen10 (c.fld F.TOP_BG_COLOR_BLUE))

/-- The walk of a ray down a stack whose sluiced layers have been left out (R224, R225): the accumulators, and how many layer
samples early termination saved. -/
def State.walk (s : State) (r : Ray) (lit : Bool) (dim : Nat) : List StackLayer → Acc → Acc × Nat
  | [], a => (a, 0)
  | l :: rest, a =>
    if a.t = 0 then (a, (l :: rest).length)
    else State.walk s r lit dim rest (a.add (s.sample l r (dimOf lit dim l.desc.ty)))

/-- Inclusive bounds of a block's hogels on one axis (R218). -/
def blockSpan (b n : Nat) : Nat × Nat := (8 * b, min (8 * b + 7) (n - 1))

/-- The smallest and largest of `(e * k) >> 1` over the disparities and extreme view offsets (R231). -/
def shiftSpan (e1 e2 : Int) (k : Nat) : Int × Int :=
  let v := [sar (e1 * k) 1, sar (e1 * -(k : Int)) 1, sar (e2 * k) 1, sar (e2 * -(k : Int)) 1]
  (v.foldl min (v.headD 0), v.foldl max (v.headD 0))

/-- A footprint on one axis: first and last texel. -/
structure Foot where
  x0 : Int
  x1 : Int
  y0 : Int
  y1 : Int
  deriving DecidableEq, Repr

/-- The footprint of a layer on a block (R231). -/
def Desc.foot (d : Desc) (g : Geom) (block : Nat) : Foot :=
  let (hx0, hx1) := blockSpan (block % g.bx) g.cols
  let (hy0, hy1) := blockSpan (block / g.bx) g.rows
  if d.ty = tDIRECT then
    let ox := sar d.orgX 8
    let oy := sar d.orgY 8
    { x0 := ((hx0 : Int) - ox) * g.vcols, x1 := ((hx1 : Int) - ox) * g.vcols + g.vcols - 1,
      y0 := ((hy0 : Int) - oy) * g.vrows, y1 := ((hy1 : Int) - oy) * g.vrows + g.vrows - 1 }
  else
    let cl (v : Int) : Int := clampI (-32768) 32767 v
    let (e1, e2) := if d.ty = tRELIEF then (cl (d.disp + sar (-2048 * d.relief) 8), cl (d.disp + sar (2047 * d.relief) 8)) else (d.disp, d.disp)
    let (sxmin, sxmax) := shiftSpan e1 e2 (g.vcols - 1)
    let (symin, symax) := shiftSpan e1 e2 (g.vrows - 1)
    { x0 := sar (basePos hx0 d.orgX d.stepX + sxmin) 8, x1 := sar (basePos hx1 d.orgX d.stepX + sxmax) 8 + 1,
      y0 := sar (basePos hy0 d.orgY d.stepY + symin) 8, y1 := sar (basePos hy1 d.orgY d.stepY + symax) 8 + 1 }

/-- The cells of a footprint (R231) that lie within a layer's tile grid, and whether every cell of the footprint does. -/
def Foot.cells (f : Foot) (tilesX tilesY : Nat) : List (Nat × Nat) × Bool :=
  let cx0 := sar f.x0 6
  let cx1 := sar f.x1 6
  let cy0 := sar f.y0 6
  let cy1 := sar f.y1 6
  let mx : Int := (8 * tilesX : Nat) - 1
  let my : Int := (8 * tilesY : Nat) - 1
  let span (lo hi m : Int) : List Nat := (List.range (8 * max tilesX tilesY)).filter (fun i => decide (max lo 0 ≤ (i : Int) ∧ (i : Int) ≤ min hi m))
  ((span cy0 cy1 my).flatMap (fun y => (span cx0 cx1 mx).map (fun x => (x, y))),
    decide (0 ≤ cx0 ∧ cx1 ≤ mx ∧ 0 ≤ cy0 ∧ cy1 ≤ my))

/-- The class of a cell from the decoders' records (R230): 1 EMPTY, 2 OPAQUE, 0 MIXED. -/
def State.cellClass (s : State) (l : StackLayer) (x y : Nat) : Nat :=
  match s.dec.tilePic l.slot l.desc.layer l.inst (x / 8) (y / 8) with
  | none => 1
  | some p => bitsOf (s.basin.readLe (occAddr p.moor) 16) (2 * (y % 8 * 8 + x % 8) + 1) (2 * (y % 8 * 8 + x % 8))

/-- The class of a layer's footprint on a block: 1 every cell EMPTY, 2 every cell OPAQUE, 0 otherwise (R230, R233, R234). -/
def State.footClass (s : State) (l : StackLayer) (g : Geom) (block : Nat) : Nat :=
  if l.overlay ∨ l.desc.ty = tCARD ∨ l.desc.ty = tPATTERN then 0
  else if l.res = 2 ∨ l.desc.stepZero then 1
  else
    let (cells, inside) := (l.desc.foot g block).cells l.desc.tilesX l.desc.tilesY
    let cls := cells.map (fun c => s.cellClass l c.1 c.2)
    if cls.all (· == 1) then 1 else if inside && cls.all (· == 2) then 2 else 0

/-- The eye lights view (du, dv) on a block (R251). -/
def Eye.lights (e : Eye) (g : Geom) (vstep cone block : Nat) (du dv : Int) : Bool :=
  let (hx0, hx1) := blockSpan (block % g.bx) g.cols
  let (hy0, hy1) := blockSpan (block / g.bx) g.rows
  let den : Int := (e.ez * vstep : Nat)
  let lo (p : Int) (h : Nat) : Int := ((p - ((h + 1) * 256 : Nat)) * 8192) / den - 2 * cone
  let hi (p : Int) (h : Nat) : Int := -(-((p - (h * 256 : Nat)) * 8192) / den) + 2 * cone
  decide (lo e.ex hx1 ≤ du ∧ du ≤ hi e.ex hx0 ∧ lo e.ey hy1 ≤ dv ∧ dv ≤ hi e.ey hy0)

/-- A view is lit on a block (R250, R251); an eye with ez 0 is ignored. -/
def EyeSet.lit (e : EyeSet) (cs : CSet) (block : Nat) (du dv : Int) : Bool :=
  e.cause ≠ 0 || e.eyes.any (fun y => y.ez != 0 && y.lights cs.geom (cs.fld F.COMP_TRACK_VSTEP) (cs.fld F.COMP_TRACK_CONE) block du dv)

/-- The views of a geometry, by row then column. -/
def Geom.views (g : Geom) : List (Nat × Nat) := (List.range g.vrows).flatMap (fun r => (List.range g.vcols).map (fun c => (c, r)))

/-- Every view of a block is lit. -/
def EyeSet.allLit (e : EyeSet) (cs : CSet) (block : Nat) : Bool :=
  e.cause ≠ 0 || cs.geom.views.all (fun v => e.lit cs block (viewOff cs.mirrorX cs.geom.vcols v.1) (viewOff cs.mirrorY cs.geom.vrows v.2))

/-- The layers of a stack that stay for a block under the sluice map (R232 to R234, R252), with the numbers sluiced out by the
empty rule and by the occlusion rule; `cut` once an opaque layer has been passed. -/
def State.sluice (s : State) (cs : CSet) (allLit : Bool) (block : Nat) : List StackLayer → Bool → List StackLayer × Nat × Nat
  | [], _ => ([], 0, 0)
  | l :: r, cut =>
    if cut then let q := State.sluice s cs allLit block r true; (q.1, q.2.1, q.2.2 + 1)
    else
      let c := s.footClass l cs.geom block
      let track := l.desc.ty = tPLANAR ∨ l.desc.ty = tRELIEF
      let occ := cs.fld F.COMP_SLUICE_CTRL_OCCLUDE == 1 && c == 2 && (allLit || cs.fld F.COMP_TRACK_DIM == 0 || !decide track)
      if cs.fld F.COMP_SLUICE_CTRL_SKIP_EMPTY = 1 ∧ c = 1 then
        let q := State.sluice s cs allLit block r false; (q.1, q.2.1 + 1, q.2.2)
      else let q := State.sluice s cs allLit block r occ; (l :: q.1, q.2.1, q.2.2)

/-- A block composed: its words by (X, Y), the layer-block pairs sluiced out by each rule, samples saved, rays with CONC, rays
lit. -/
structure BlockOut where
  words : List (Nat × Nat × Nat)
  skip  : Nat
  occ   : Nat
  eterm : Nat
  conc  : Nat
  lit   : Nat
  deriving DecidableEq, Repr

/-- The hogels of a block. -/
def Geom.hogels (g : Geom) (block : Nat) : List (Nat × Nat) :=
  let (hx0, hx1) := blockSpan (block % g.bx) g.cols
  let (hy0, hy1) := blockSpan (block / g.bx) g.rows
  (List.range (hy1 + 1 - hy0)).flatMap (fun j => (List.range (hx1 + 1 - hx0)).map (fun i => (hx0 + i, hy0 + j)))

/-- One block composed from layers, with the counts of what the sluice map left out (R218, R219, R224 to R229). -/
def State.composeLayers (s : State) (cs : CSet) (layers : List StackLayer) (skip occ : Nat) (eyes : EyeSet) (block : Nat) : BlockOut :=
  let g := cs.geom
  let bg := cs.bg12
  let dim := cs.fld F.COMP_TRACK_DIM
  let rays := (g.hogels block).flatMap (fun h => g.views.map (fun v =>
    ({ geom := g, mx := cs.mirrorX, my := cs.mirrorY, hx := h.1, hy := h.2, vc := v.1, vr := v.2 } : Ray)))
  let out := rays.map (fun r =>
    let lit := eyes.lit cs block r.du r.dv
    let (a, saved) := s.walk r lit dim layers Acc.start
    let f := a.finish bg
    (r.hx * g.vcols + r.vc, r.hy * g.vrows + r.vr, f.word, saved, f.conc, lit))
  { words := out.map (fun o => (o.1, o.2.1, o.2.2.1)), skip := skip, occ := occ, eterm := (out.map (fun o => o.2.2.2.1)).sum,
    conc := (out.filter (fun o => o.2.2.2.2.1)).length, lit := (out.filter (fun o => o.2.2.2.2.2)).length }

/-- One block of a frame (R218, R219, R224 to R236), under the committed set of its pound. -/
def State.composeBlock (s : State) (cs : CSet) (stack : List StackLayer) (eyes : EyeSet) (block : Nat) : BlockOut :=
  let q := s.sluice cs (eyes.allLit cs block) block stack false
  s.composeLayers cs q.1 q.2.1 q.2.2 eyes block

/-! ### The texel cache (R220) -/

/-- The texel-cache line of texel (x, y): 8 × 4 words of a tile, 8 × 8 pixels of a CARD surface. A line is named by its mooring and its place in
the tile or surface; a texel that no picture holds has none. -/
def State.texLine (s : State) (l : StackLayer) (x y : Int) : List Nat :=
  if x < 0 ∨ y < 0 ∨ (l.desc.width : Int) ≤ x ∨ (l.desc.height : Int) ≤ y then []
  else
    let xn := x.toNat
    let yn := y.toNat
    if l.desc.ty = tCARD then
      (match l.surf with | [] => [] | m :: _ => [m * 2 ^ 20 + yn / 8 * ceilDiv l.desc.width 8 + xn / 8])
    else
      match s.dec.tilePic l.slot l.desc.layer l.inst (xn / 512) (yn / 512) with
      | none => []
      | some p => [p.moor * 2 ^ 20 + yn % 512 / 4 * 64 + xn % 512 / 8]

/-- The lines of a filtered sample: one, two or four (R220). -/
def State.filterLines (s : State) (l : StackLayer) (nearest : Bool) (px py : Int) : List Nat :=
  if nearest then s.texLine l (nearestOf px) (nearestOf py)
  else
    let ix := sar px 8
    let iy := sar py 8
    (s.texLine l ix iy ++ s.texLine l (ix + 1) iy ++ s.texLine l ix (iy + 1) ++ s.texLine l (ix + 1) (iy + 1)).eraseDups

/-- The lines that the sample of layer `l` for a ray touches; PATTERN layers use none (R220). -/
def State.sampleLines (s : State) (l : StackLayer) (r : Ray) (k : DimKind) : List Nat :=
  let d := l.desc
  if l.res = 2 ∨ k = .zero ∨ d.stepZero ∨ d.ty = tPATTERN then []
  else if d.ty = tDIRECT then
    s.texLine l (((r.hx : Int) - sar d.orgX 8) * r.geom.vcols + r.vc) (((r.hy : Int) - sar d.orgY 8) * r.geom.vrows + r.vr)
  else
    let bx := basePos r.hx d.orgX d.stepX
    let by_ := basePos r.hy d.orgY d.stepY
    let px := bx + sar (d.disp * r.du) 1
    let py := by_ + sar (d.disp * r.dv) 1
    if d.ty = tRELIEF ∧ k = .full then
      let t := s.tex l (nearestOf px) (nearestOf py)
      let rel : Int := if t.2.2 then (reliefOf t.1 : Nat) else 2048
      let de := clampI (-32768) 32767 (d.disp + sar ((rel - 2048) * d.relief) 8)
      s.texLine l (nearestOf px) (nearestOf py) ++ s.filterLines l l.nearest (bx + sar (de * r.du) 1) (by_ + sar (de * r.dv) 1)
    else s.filterLines l (l.nearest || k == .coarse) px py

/-- The lines of a ray: of every layer sampled before it ends (R224). -/
def State.rayLines (s : State) (r : Ray) (lit : Bool) (dim : Nat) : List StackLayer → Acc → List Nat
  | [], _ => []
  | l :: rest, a =>
    if a.t = 0 then []
    else
      let k := dimOf lit dim l.desc.ty
      s.sampleLines l r k ++ State.rayLines s r lit dim rest (a.add (s.sample l r k))

/-- The lines of a block in the order of its groups (R219); the rays of a group one after the other. `again`: composed a second time with the
sluice map off (R236). [DESIGN CHOICE: log 71] -/
def State.blockLines (s : State) (cs : CSet) (stack : List StackLayer) (eyes : EyeSet) (block : Nat) (again : Bool) : List Nat :=
  let g := cs.geom
  let dim := cs.fld F.COMP_TRACK_DIM
  let rays := g.views.flatMap (fun v => (g.hogels block).map (fun h =>
    ({ geom := g, mx := cs.mirrorX, my := cs.mirrorY, hx := h.1, hy := h.2, vc := v.1, vr := v.2 } : Ray)))
  let walk (layers : List StackLayer) : List Nat :=
    rays.flatMap (fun r => s.rayLines r (eyes.lit cs block r.du r.dv) dim layers Acc.start)
  walk (s.sluice cs (eyes.allLit cs block) block stack false).1 ++ if again then walk stack else []

/-- Requests for lines at the texel cache of a cluster (R220): 512 sets of 16 ways, the least recently used line replaced. The set of a line is
open. The cache after them, hits and misses. [DESIGN CHOICE: log 71] -/
def cacheRun (cluster : Nat) : List Nat → Sparse (List Nat) → Nat → Nat → Sparse (List Nat) × Nat × Nat
  | [], c, hits, misses => (c, hits, misses)
  | x :: r, c, hits, misses =>
    let k := cluster * 512 + Config.lineSet x % 512
    let ways := Sparse.get (fun _ => []) c k
    let c := Sparse.set (fun _ => []) c k ((x :: ways.filter (· ≠ x)).take 16)
    if ways.contains x then cacheRun cluster r c (hits + 1) misses else cacheRun cluster r c hits (misses + 1)

end Sys2Proof.Machine
end

