-- ==== Sys2Proof/Machine/Compose.lean ====
section
/-! DEFINITION. Ray composition III: late layers, the layer cap, load estimate, blocks, the deadline, the ladder, guarded regions
and the write-back tap (R239 to R257). -/

namespace Sys2Proof.Machine

/-- The composer produces a frame in this mode (R53). -/
def CSet.composes (c : CSet) : Bool :=
  has c.mode mFIELD || has c.mode mDIRECT || has c.mode mFLAT || (has c.mode mPATTERN && c.fld F.TOP_MODE_OPT_PAT_SUB == 0)

/-- The composer runs in a pound (R60, R63): it composes, HOLD is clear, and STANDBY is clear or the pair is hot. -/
def State.composerRuns (s : State) (c : CSet) : Bool := c.composes && !has c.mode mHOLD && (!has c.mode mSTANDBY || s.hot)

/-- The plan of a pound. -/
def CompSt.plan (c : CompSt) (p : Nat) : Option Plan := c.plans.find? (fun x => x.pound == p)

/-- A CARD instance of a layer (R290). -/
def TugSt.card (t : TugSt) (slot layer : Nat) : Option CardInst := t.cards.find? (fun c => c.slot == slot && c.layer == layer)

/-- The layer has an instance for pound `p` (R172, R290). -/
def State.hasInst (s : State) (slot : Nat) (d : Desc) (p : Nat) : Bool :=
  if d.ty = tPATTERN then true
  else if d.ty = tCARD then (match s.tug.card slot d.layer with | some c => c.held | none => false)
  else s.dec.pics.any (fun q => q.slot == slot && q.layer == d.layer && q.inInst p)

/-- The layer is released with no new instance for `p` (R176, R239). [DEDUCED: log 65] -/
def State.isReleased (s : State) (slot : Nat) (d : Desc) (p : Nat) : Bool :=
  !s.hasInst slot d p && s.strm.released.any (fun r => r.1 == slot && r.2.1 == d.layer && !laterPound r.2.2 p)

/-- Chunks of (slot, layer, pound) that finished in time. -/
def DecSt.doneOf (d : DecSt) (k : Nat × Nat × Nat) : Nat := ((d.done.find? (fun e => e.1 == k)).map Prod.snd).getD 0

/-- Tug work of a layer has not ended (R294), or an update of the pound was aborted. -/
def TugSt.unready (t : TugSt) (slot layer p : Nat) : Bool :=
  t.queue.any (fun j => j.slot == slot && j.layer == layer) || t.aborted.contains (slot, layer, p)

/-- The layer is ready at the deadline (R172, R173, R175). -/
def State.entReady (s : State) (p : Nat) (e : PlanEnt) : Bool :=
  let l := e.desc.layer
  if e.desc.ty = tPATTERN then true
  else if e.static then s.hasInst e.slot e.desc p
  else if ¬ e.known then false
  else if e.desc.ty = tCARD then s.hasInst e.slot e.desc p && !s.tug.unready e.slot l p
  else decide (e.chunks ≤ s.dec.doneOf (e.slot, l, p))

/-- At the deadline of `p` each drawn layer is found ready or not, and each CARD instance whose work of `p` has ended (R21, R172, R175). -/
def State.markReady (s : State) (p : Nat) : State :=
  let upd (q : Plan) : Plan := if q.pound = p then { q with ents := q.ents.map (fun e => { e with ready := s.entReady p e }) } else q
  let cards := s.tug.cards.map (fun c => { c with ready := c.held && !s.tug.unready c.slot c.layer p })
  { s with comp := { s.comp with plans := s.comp.plans.map upd }, tug := { s.tug with cards := cards } }

/-- How a layer has fared. -/
def CompSt.histOf (c : CompSt) (slot layer : Nat) : LayerHist :=
  (c.hist.find? (fun h => h.slot == slot && h.layer == layer)).getD { slot := slot, layer := layer, ready := none, held := 0, second := false }

/-- Replace a layer's history. -/
def CompSt.setHist (c : CompSt) (h : LayerHist) : CompSt :=
  { c with hist := h :: c.hist.filter (fun x => ¬ (x.slot = h.slot ∧ x.layer = h.layer)) }

/-- The resolution of a drawn layer (R239): 0 ready, 1 REPEAT, 2 TRANSPARENT, 3 HOLD, and the pound of its instance. [DEDUCED: log 65] -/
def State.resolution (s : State) (cs : CSet) (p : Nat) (e : PlanEnt) : Nat × Nat :=
  let h := s.comp.histOf e.slot e.desc.layer
  let policy0 : Nat × Nat :=
    match h.ready with
    | some q => if (p + 2 ^ 32 - q) % 2 ^ 32 ≤ 2 ∧ (p + 2 ^ 32 - q) % 2 ^ 32 ≠ 0 then (1, q) else (2, p)
    | none => (2, p)
  if s.isReleased e.slot e.desc p then (2, p)
  else if e.ready then (0, p)
  else if e.desc.policy = 1 ∧ h.held < cs.fld F.COMP_POLICY_HOLD_LIMIT then (3, p)
  else policy0

/-- A layer that is not ready (R48, R49): a fault where it was ready in the pound before, the next action of its recovery while it stays
late; the layers found late at one open are one fault. [DEDUCED: log 29] -/
def State.layerFault (s : State) (p : Nat) (ready : Option Nat) : State :=
  if ready = some (poundSub p 1) ∧ ¬ s.lock.recover.any (fun r => r.code == 0x805 && r.left == s.lock.windowOpens) then s.noteFault 0x805
  else s.recoveryOf 0x805

/-- The composition of a CARD layer found ready reads the second surface (R175): the one the tug worked on, once its work has ended. -/
def State.readsSecond (s : State) (slot : Nat) (d : Desc) : Bool :=
  match if d.ty = tCARD then s.tug.card slot d.layer else none with
  | some c => c.front != c.ready
  | none => false

/-- A layer is resolved (R239 to R241): its history, counters and events. -/
def State.resolveOne (s : State) (cs : CSet) (p : Nat) (e : PlanEnt) : State × Nat × Nat :=
  let (res, inst) := s.resolution cs p e
  let l := e.desc.layer
  let id := l + 256 * e.slot
  let h := s.comp.histOf e.slot l
  let s := if s.isReleased e.slot e.desc p then s.raise 0x417 bRING id p else s
  if res = 0 then ({ s with comp := s.comp.setHist { h with ready := some p, held := 0, second := s.readsSecond e.slot e.desc } }, res, inst)
  else
    let s := s.raiseOnce 0x805 bCOMP (e.slot * 32 + l) (id + res * 65536) p
    let s := s.layerFault p h.ready
    let s := if res = 1 then s.inc F.COMP_NOTREADY_CNT_REPEATED
      else if res = 2 then s.inc F.COMP_NOTREADY_CNT_TRANSPARENT
      else { s with comp := s.comp.setHist { h with held := h.held + 1 } }
    (s, res, inst)

/-- Nearest sampling by the ladder rung (R247); `front` marks the frontmost PLANAR or RELIEF layer. -/
def rungNearest (rung ty : Nat) (front : Bool) : Bool :=
  ty == tDIRECT || ty == tPATTERN ||
    (if rung = 0 then false
     else if rung = 1 then ty == tCARD || ty == tFLAT
     else if rung = 2 then ty == tCARD || ty == tFLAT || ty == tRELIEF
     else if rung = 3 then !front
     else true)

/-- The cap of a rung (R247). -/
def CSet.rungCap (c : CSet) : Nat :=
  if c.rung = 0 then 64
  else if c.rung = 1 then c.fld F.COMP_LADDER_CAP_CAP1
  else if c.rung = 2 then c.fld F.COMP_LADDER_CAP_CAP2
  else if c.rung = 3 then c.fld F.COMP_LADDER_CAP_CAP3
  else c.fld F.COMP_LADDER_CAP_CAP4

/-- The nearest flags of a stack after the cap. -/
def setNearest (rung : Nat) : List StackLayer → Bool → List StackLayer
  | [], _ => []
  | l :: r, seen =>
    let fr := !seen && (l.desc.ty == tPLANAR || l.desc.ty == tRELIEF)
    { l with nearest := rungNearest rung l.desc.ty fr } :: setNearest rung r (seen || fr)

/-- The pattern overlay (R62). -/
def CSet.overlay (c : CSet) : StackLayer :=
  let d : Desc :=
    { layer := 0, ty := tPATTERN, planes := 0, profile := 0, policy := 0, chan := 0, tilesX := 0, tilesY := 0,
      width := c.geom.cols, height := c.geom.rows, orgX := 128, orgY := 128, stepX := 65536, stepY := 65536,
      disp := signed 16 (c.fld F.TOP_PAT_DISP_DISP), relief := 0, zkey := 0, patId := c.fld F.TOP_PAT_OVL_PATTERN_ID,
      patArg := c.fld F.TOP_PAT_OVL_ARG }
  { slot := 0, desc := d, inst := 0, res := 0, overlay := true, nearest := true, surf := [], marked := false }

/-- The stack of a pound (R221, R222, R242, R247) from its resolved layers in draw-list order; how many the cap removed. -/
def CSet.stackOf (c : CSet) (ls : List StackLayer) : List StackLayer × Nat :=
  let ov := if has c.mode mPATTERN ∧ c.fld F.TOP_MODE_OPT_PAT_SUB = 0 then [c.overlay] else []
  let (kept, cut) := capStack (min (c.fld F.COMP_LAYER_CAP_CAP) c.rungCap) (sortStack (ov ++ ls))
  (setNearest c.rung kept false, cut)

/-- A surface of a CARD. -/
def CardInst.surf (c : CardInst) (second : Bool) : List Nat := if second then c.surf1 else c.surf0

/-- The OVERLAP mark of a surface (R293). -/
def CardInst.mark (c : CardInst) (second : Bool) : Bool := if second then c.mark1 else c.mark0

/-- The surface of a CARD layer that the composition reads (R175, R240): that in front, or of a repeated layer the one that the composition of
its instance read. -/
def State.cardSide (s : State) (e : PlanEnt) (res : Nat) (c : CardInst) : Bool :=
  if res = 1 then (s.comp.histOf e.slot e.desc.layer).second else c.front

/-- A resolved layer as a layer of the stack. -/
def State.stackLayer (s : State) (e : PlanEnt) (res inst : Nat) : StackLayer :=
  let card := if e.desc.ty = tCARD then s.tug.card e.slot e.desc.layer else none
  { slot := e.slot, desc := e.desc, inst := inst, res := res, overlay := false, nearest := false,
    surf := match card with | some c => c.surf (s.cardSide e res c) | none => [],
    marked := match card with | some c => c.mark (s.cardSide e res c) | none => false }

/-- The drawn entries of a pound that its mode does not exclude (R172). -/
def State.drawn (s : State) (p : Nat) : List PlanEnt :=
  match s.comp.plan p with
  | some q => q.ents.filter (fun e => srcOn (s.setOf p).mode e.desc.ty)
  | none => []

/-- A CARD layer found ready is read from the surface the tug worked on (R175). [DEDUCED: log 73] -/
def TugSt.turn (t : TugSt) (slot layer : Nat) : TugSt :=
  { t with cards := t.cards.map (fun c => if c.slot = slot ∧ c.layer = layer then { c with front := !c.front } else c) }

/-- Whether TRACK lights every view (R250), and the eyes of pound `p` at step 4 of the lock cycle that opens the next. -/
def State.eyeSet (s : State) (cs : CSet) (p : Nat) : EyeSet :=
  if ¬ has cs.mode mTRACK then { cause := 5, eyes := [] }
  else if ¬ s.ownsBy s.cset then
    match s.comp.ownerEyes.find? (fun e => e.1 == p) with
    | some (_, l) => if l.any (fun e => e.ez ≠ 0) then { cause := 0, eyes := l } else { cause := 3, eyes := [] }
    | none => { cause := 4, eyes := [] }
  else if ¬ s.comp.reported then { cause := 1, eyes := [] }
  else
    match s.comp.report with
    | none => { cause := 1, eyes := [] }
    | some (l, at_) =>
      if at_ + cs.fld F.COMP_TRACK_STALE_MS * 65536000000 < s.dev then { cause := 2, eyes := [] }
      else if l.any (fun e => e.ez ≠ 0) then { cause := 0, eyes := l }
      else { cause := 3, eyes := [] }

/-- The eye set is taken (R250): event 0x80A when the cause of all-lit changes. -/
def State.takeEyes (s : State) (cs : CSet) (p : Nat) : State × EyeSet :=
  let e := s.eyeSet cs p
  let s := if e.cause = s.comp.litCause then s
    else ({ s with comp := { s.comp with litCause := e.cause } } : State).raise 0x80A bCOMP e.cause p
  (s, e)

/-- Clusters not held off, below the throttle cluster limit (R244, R440). [DEDUCED: log 77] -/
def State.allowedClusters (s : State) : Nat :=
  min ((List.range 32).filter (fun k => !bitAt (s.rdW (R.PWR_DOM_FAIL ((120 + k) / 32))).toNat ((120 + k) % 32))).length
    (capLimits (s.rd F.HK_CAP_CAP)).1

/-- Composer clocks of the composition of `p` (R243); the launch spacing in whole ns is rounded to nearest, as R27 does. [DEDUCED: log 77] -/
def State.cyc (s : State) (p : Nat) : Nat :=
  let cs := s.setOf p
  let l (q : Nat) : Nat := (s.launchOf q).getD 0
  let gap := if l p < l (poundSub p 1) ∨ s.launchOf p = none ∨ s.launchOf (poundSub p 1) = none then (cs.period + 32768) / 65536
    else (l p - l (poundSub p 1) + 32768) / 65536
  (gap - cs.fld F.TOP_LOCK_TIME_WINDOW * 1000) * 5 / 4

/-- The first free buffer of the newest reservation. -/
def freeBuf (l : List Buf) (gen : Nat) : Option Nat :=
  (List.range l.length).find? (fun i => match l[i]? with | some b => b.role == BufRole.free && b.gen == gen | none => false)

/-- The mooring of a buffer that holds an uncorrectable granule is swapped out as its buffer begins to be written (R271). -/
def BasinSt.swapOut (b : BasinSt) (cls order rsv : Nat) : List Nat → BasinSt × List Nat
  | [] => (b, [])
  | m :: r =>
    let bad : Bool := match b.entry m with | some e => e.bad | none => false
    let (b, m) :=
      if bad then
        (match b.alloc cls order rsv .reserved with
         | some (n, b') => (b'.release true m, n)
         | none => (b, m))
      else (b, m)
    let q := BasinSt.swapOut b cls order rsv r
    (q.1, m :: q.2)

/-- A buffer takes the role of being composed (R23, R271). -/
def State.enterBuf (s : State) (cls : Nat) (l : List Buf) (i p : Nat) : State × List Buf :=
  match l[i]? with
  | none => (s, l)
  | some b =>
    let (bs, ms) := s.basin.swapOut cls (s.classOrder cls) (s.cm F.BASIN_RSV_PKT) b.moors
    ({ s with basin := bs }, modAt l i (fun b => { b with moors := ms, role := .composing, pound := p, aborted := false }))

/-- A composition's outcome is noted for the ladder and the HOLD exit. -/
def State.noteFrame (s : State) (r : FrameRes) : State := { s with comp := { s.comp with results := (r :: s.comp.results).take 8 } }

/-- A layer's composition is counted where its STEP is 0 or its pattern is unknown (R208, R217). -/
def State.geomErrors (s : State) (p : Nat) (l : StackLayer) : State :=
  let id := l.desc.layer + 256 * l.slot
  let key := l.slot * 32 + l.desc.layer
  if l.overlay then s
  else if l.desc.stepZero then (s.inc F.COMP_GEOM_ERR_STEP0).raiseOnce 0x801 bCOMP key id p
  else if l.desc.ty = tPATTERN ∧ 6 < l.desc.patId then
    (s.inc F.COMP_GEOM_ERR_PATTERN).raiseOnce 0x802 bCOMP key (id + l.desc.patId * 65536) p
  else s

/-- Every drawn layer of `p` is resolved at the open of the next pound (R239): the layers with their resolutions. -/
def State.resolveList (s : State) (cs : CSet) (p : Nat) : List PlanEnt → State × List (PlanEnt × Nat × Nat)
  | [] => (s, [])
  | e :: l =>
    let r := s.resolveOne cs p e
    let q := r.1.resolveList cs p l
    (q.1, (e, r.2.1, r.2.2) :: q.2)

/-- The drawn layers of `p` with their resolutions. -/
def State.resolveAll (s : State) (cs : CSet) (p : Nat) : State × List (PlanEnt × Nat × Nat) := s.resolveList cs p (s.drawn p)

/-- A CARD turns at the open after `p` (R175): its work had ended at the deadline, and where `p` draws it, it was found ready. [DEDUCED: log 73] -/
def State.turns (s : State) (p : Nat) (c : CardInst) : Bool :=
  c.ready && (s.drawn p).all (fun e => !(e.slot == c.slot && e.desc.layer == c.layer) || e.ready)

/-- The CARD layers of `p` turn their surfaces (R175). [DEDUCED: log 73] -/
def State.turnCards (s : State) (p : Nat) : State :=
  s.each (s.tug.cards.filter (s.turns p)) (fun s c => { s with tug := s.tug.turn c.slot c.layer })

/-- The composition of `p` starts at the open of the next pound (R19, R239 to R245), or does not: HOLD, STANDBY, no source, or a
held frame. -/
def State.startCompose (s : State) (p : Nat) : State :=
  let cs := s.setOf p
  if has cs.mode mHOLD then s.noteFrame { pound := p, ran := false, late := false, load := 0, launch := false, lap := false, held := false }
  else
    let (s, res) := s.resolveAll cs p
    let s := s.turnCards p
    let (s, eyes) := s.takeEyes cs p
    let s := s.wr F.COMP_TRACK_STAT_ALL_LIT (b2n (eyes.cause != 0))
    let s := s.wr F.COMP_TRACK_STAT_EYES (eyes.eyes.filter (fun e => e.ez ≠ 0)).length
    let fine : Bool := res.all (fun r => r.2.1 == 0 || (r.2.1 == 2 && s.isReleased r.1.slot r.1.desc p))
    if ¬ s.composerRuns cs then s.noteFrame { pound := p, ran := false, late := false, load := 0, launch := false, lap := false, held := false }
    else
      match res.find? (fun r => r.2.1 = 3) with
      | some (e, _) =>
        let s := (s.raise 0x806 bCOMP p (e.desc.layer + 256 * e.slot)).inc F.COMP_LATE_CNT_HELD
        s.noteFrame { pound := p, ran := false, late := false, load := 0, launch := false, lap := false, held := true }
      | none =>
        let (stack, cut) := cs.stackOf (res.map (fun r => s.stackLayer r.1 r.2.1 r.2.2))
        match freeBuf s.comp.bufs s.comp.gen with
        | none => s.noteFrame { pound := p, ran := false, late := true, load := 0, launch := false, lap := false, held := false }
        | some i =>
          let (s, bufs) := s.enterBuf cFRAME s.comp.bufs i p
          let tap := if cs.fld F.COMP_TAP_EN = 1 then freeBuf s.comp.taps s.comp.gen else none
          -- R380: both tap buffers in the encoder's hands
          let missed : Bool := cs.fld F.COMP_TAP_EN == 1 && tap.isNone && s.comp.taps.any (fun b => b.gen == s.comp.gen)
          let s := s.when missed (fun s => (s.inc F.ENC_CNT_TAP_MISSED).raiseOnce 0xF34 bENC 0 p 0)
          let (s, taps) := match tap with | some k => s.enterBuf cTAP s.comp.taps k p | none => (s, s.comp.taps)
          let n := ((s.comp.counts.find? (fun e => e.1 == p)).map Prod.snd).getD s.allowedClusters
          let c : Compose :=
            { pound := p, stack := stack, capped := cut, eyes := eyes, buf := i, tap := tap, next := 0, issued := [], checks := [], written := 0,
              bad := false, allowed := s.allowedClusters, clusters := n, busy := 0, since := [], skip := 0, occ := 0, eterm := 0,
              conc := 0, lit := 0 }
          let s := { s with comp := { s.comp with cur := some c, bufs := bufs, taps := taps } }
          let lap := stack.any (fun l => l.marked && l.res ≠ 2)
          let s := s.noteFrame { pound := p, ran := true, late := false, load := 0, launch := fine, lap := lap, held := false }
          (s.wr F.COMP_RUN_STAT_CLUSTERS n).each stack (fun s l => s.geomErrors p l)

/-- Replace the running composition. -/
def State.setCompose (s : State) (c : Option Compose) : State := { s with comp := { s.comp with cur := c } }

/-- The lowest-numbered powered cluster with room for a block (R219, R244, R440); one that is being powered down takes none (R74). -/
def State.roomCluster (s : State) (c : Compose) : Option Nat :=
  (List.range (capLimits (s.rd F.HK_CAP_CAP)).1).find? (fun k =>
    s.unitTakes bCOMP k && decide ((c.issued.filter (fun x => x.1 == k)).length < 2))

/-- A hogel block is issued (R218, R219). -/
def State.blockIssue (s : State) : State :=
  match s.comp.cur with
  | none => s
  | some c =>
    let g := (s.setOf c.pound).geom
    if c.bad ∨ g.blocks ≤ c.next then s
    else
      match s.roomCluster c with
      | none => s
      | some k =>
        let busy : Bool := c.since.any (fun e => e.1 == k)
        let twice : Bool := (s.setOf c.pound).fld F.COMP_SLUICE_CTRL_CHECK == 1 && s.comp.turn == 4095
        let s := { s with comp := { s.comp with turn := (s.comp.turn + 1) % 4096 } }
        s.setCompose (some { c with next := c.next + 1, issued := c.issued ++ [(k, c.next)],
                                    checks := if twice then c.next :: c.checks else c.checks,
                                    since := if busy then c.since else (k, s.clk.comp) :: c.since })

/-- The busy time of a cluster that holds no further block is added (R246). -/
def Compose.idle (c : Compose) (now k : Nat) : Compose :=
  if c.issued.any (fun x => x.1 == k) then c
  else
    let t := ((c.since.find? (fun e => e.1 == k)).map Prod.snd).getD now
    { c with busy := c.busy + (now - t), since := c.since.filter (fun e => e.1 ≠ k) }

/-- Words are written into a frame buffer (R227, R263). [DEDUCED: log 70] -/
def BasinSt.writeWords (b : BasinSt) (moors : List Nat) (width : Nat) : List (Nat × Nat × Nat) → BasinSt
  | [] => b
  | (x, y, w) :: r =>
    let f := 4 * (y * width + x)
    BasinSt.writeWords (b.write (moors.getD (f / moorSize) 0 * moorSize + f % moorSize) (leBytes 4 w)) moors width r

/-- The tap words among a block's words (R257). -/
def tapWords (cs : CSet) (l : List (Nat × Nat × Nat)) : List (Nat × Nat × Nat) :=
  let g := cs.geom
  (l.filter (fun w => w.1 % g.vcols == cs.fld F.COMP_TAP_VC && w.2.1 % g.vrows == cs.fld F.COMP_TAP_VR)).map
    (fun w => (w.1 / g.vcols, w.2.1 / g.vrows, w.2.2))

/-- Moorings of a buffer. -/
def bufMoors (l : List Buf) (i : Nat) : List Nat := ((l[i]?).map Buf.moors).getD []

/-- The load of a composition (R246), in 1/1,000. -/
def State.loadOf (s : State) (c : Compose) : Nat :=
  let busy := c.busy + (c.since.map (fun e => s.clk.comp - e.2)).sum
  let d := c.allowed * s.cyc c.pound
  if d = 0 then 2047 else min 2047 (busy / 8 * 1000 / d)

/-- The load of a frame is shown (COMP_LOAD, COMP_LOAD_PEAK). -/
def State.showLoad (s : State) (load : Nat) (late : Bool) : State :=
  ((s.wr F.COMP_LOAD_LOAD load).wr F.COMP_LOAD_LATE (b2n late)).peak F.COMP_LOAD_PEAK_LOAD load

/-- The result of a frame is updated. -/
def State.setRes (s : State) (p : Nat) (f : FrameRes → FrameRes) : State :=
  { s with comp := { s.comp with results := s.comp.results.map (fun r => if r.pound = p then f r else r) } }

/-- A buffer takes a role. -/
def setRole (l : List Buf) (i : Nat) (r : BufRole) : List Buf := modAt l i (fun b => { b with role := r })

/-- The reservations whose last frame has left (R274) are released: those older than the newest with no buffer in use; at an open their
moorings wait (R278). -/
def State.dropOldBufs (s : State) (atOpen : Bool) : State :=
  let old (l : List Buf) : List Nat :=
    ((l.map Buf.gen).filter (fun g => g ≠ s.comp.gen && l.all (fun b => b.gen != g || b.role == BufRole.free))).eraseDups
  let og := old s.comp.bufs
  let tg := old s.comp.taps
  let gone := (s.comp.bufs.filter (fun b => og.contains b.gen)).flatMap Buf.moors
    ++ (s.comp.taps.filter (fun b => tg.contains b.gen)).flatMap Buf.moors
  let s := s.each gone (fun s m => s.freeMoor atOpen m)
  { s with comp := { s.comp with bufs := s.comp.bufs.filter (fun b => !og.contains b.gen),
                                 taps := s.comp.taps.filter (fun b => !tg.contains b.gen) } }

/-- The frame and tap picture of a composition are discarded (R245, R256). -/
def State.discardFrame (s : State) (c : Compose) : State :=
  let taps := match c.tap with | some k => setRole s.comp.taps k .free | none => s.comp.taps
  State.dropOldBufs { s with comp := { s.comp with bufs := setRole s.comp.bufs c.buf .free, taps := taps } } false

/-- Pixels of a guarded region in ascending Y then X (R253, R254). -/
def Guard.pixels (q : Guard) (g : Geom) : List (Nat × Nat) :=
  let xs := (List.range (q.x1 + 1 - q.x0)).map (q.x0 + ·)
  let ys := (List.range (q.y1 + 1 - q.y0)).map (q.y0 + ·)
  (ys.flatMap (fun y => xs.map (fun x => (x, y)))).filter (fun p =>
    q.view == 0xFFFF || (p.1 % g.vcols == q.view % g.vcols && p.2 % g.vrows == q.view / g.vcols))

/-- The frame-buffer word of pixel (x, y). -/
def BasinSt.pixel (b : BasinSt) (moors : List Nat) (width x y : Nat) : Nat := b.listWord moors (4 * (y * width + x)) 4

/-- A pixel's bytes in a signature (R254): bits 29:0, most significant first. -/
def pixBytes (w : Nat) : List Byte := beBytes 4 (w % 2 ^ 30)

/-- The signature of a region over a frame (R254). -/
def State.signature (s : State) (q : Guard) (g : Geom) (moors : List Nat) : Nat :=
  (crc32c ((q.pixels g).flatMap (fun p => pixBytes (s.basin.pixel moors (g.cols * g.vcols) p.1 p.2)))).toNat

/-- A selected pixel belongs to a dim view (R255). -/
def Guard.dim (q : Guard) (cs : CSet) (e : EyeSet) : Bool :=
  e.cause == 0 && (q.pixels cs.geom).any (fun p =>
    let g := cs.geom
    let hx := p.1 / g.vcols
    let hy := p.2 / g.vrows
    !e.lit cs (hy / 8 * g.bx + hx / 8) (viewOff cs.mirrorX g.vcols (p.1 % g.vcols)) (viewOff cs.mirrorY g.vrows (p.2 % g.vrows)))

/-- The ladder selected nearest sampling for a layer of the stack (R255). -/
def Compose.ladderNearest (c : Compose) : Bool := c.stack.any (fun l => l.nearest && l.desc.ty ≠ tDIRECT && l.desc.ty ≠ tPATTERN)

/-- What counts the frames a region has repeated (R256): its GID and the pound that set it, so that a SIGNATURE that replaces it counts anew. -/
def Guard.key (q : Guard) : Nat := q.since * 16 + q.gid

/-- One guarded region is judged (R255, R256); the answer says whether it discards the frame. -/
def State.judgeGuard (s : State) (c : Compose) (q : Guard) : State × Bool :=
  let cs := s.setOf c.pound
  let crc := s.signature q cs.geom (bufMoors s.comp.bufs c.buf)
  let res (s : State) (v : Nat) : State := s.wr F.COMP_GUARD_RES_RES (putBits (s.rd F.COMP_GUARD_RES_RES) (2 * q.gid + 1) (2 * q.gid) v)
  let s := s.wr (F.COMP_GUARD_CRCn_CRC q.gid) crc
  if c.capped ≠ 0 ∨ c.ladderNearest ∨ q.dim cs c.eyes then (res s 3, false)
  else if crc = q.crc then
    let s := (res s 1).inc F.COMP_GUARD_CNT_MATCH
    ({ s with comp := { s.comp with repeats := Sparse.set (fun _ => 0) s.comp.repeats q.key 0 } }, false)
  else
    let s := ((res s 2).inc F.COMP_GUARD_CNT_MISMATCH).raise 0x808 bCOMP (q.gid + 256 * q.action) crc
    let s := if 2 ≤ q.action then s.alert F.TOP_ALERT_GUARD else s
    if q.action % 2 = 1 then
      let n := (Sparse.find s.comp.repeats q.key).getD 0
      if cs.fld F.COMP_POLICY_GUARD_REPEAT ≤ n then (s.raise 0x809 bCOMP q.gid c.pound, false)
      else ({ s with comp := { s.comp with repeats := Sparse.set (fun _ => 0) s.comp.repeats q.key (n + 1) } }, true)
    else (s, false)

/-- The guarded regions are judged in order; whether one discards the frame. -/
def State.judgeAll (s : State) (c : Compose) : List Guard → State × Bool
  | [] => (s, false)
  | q :: l =>
    let r := s.judgeGuard c q
    let x := r.1.judgeAll c l
    (x.1, r.2 || x.2)

/-- The composition completes (R246, R255 to R257): regions are judged, the frame queued or discarded. -/
def State.frameComplete (s : State) (c : Compose) : State :=
  let cs := s.setOf c.pound
  let load := s.loadOf c
  let s := s.setCompose none
  let s := (s.showLoad load false).setRes c.pound (fun r => { r with load := load })
  let s := (s.wr F.COMP_SLUICE_SKIP_COUNT (satN 0xFFFFFFFF c.skip)).wr F.COMP_SLUICE_OCC_COUNT (satN 0xFFFFFFFF c.occ)
  let s := (s.wr F.COMP_ETERM_COUNT (satN 0xFFFFFFFF (c.eterm / 16))).wr F.COMP_CONC_RAYS_COUNT (satN 0xFFFFFFFF c.conc)
  let s := (s.wr F.COMP_CAPPED_COUNT c.capped).wr F.COMP_TRACK_STAT_LIT_PM (c.lit * 1000 / max 1 cs.geom.rays)
  let s := s.wr F.COMP_GUARD_RES_RES 0
  let guards := match s.comp.plan c.pound with | some p => p.guards | none => []
  let r := s.judgeAll c guards
  let s := r.1
  if r.2 then s.discardFrame c
  else
    let taps := match c.tap with | some k => setRole s.comp.taps k .queued | none => s.comp.taps
    { s with comp := { s.comp with bufs := setRole s.comp.bufs c.buf .queued, taps := taps } }

/-- A cluster finishes a block (R219, R224 to R236); `mismatch`: a device fault made the check of R236 differ. Where
the two compositions of the check differ, the words of the second, the sluice map off, are written. [DEDUCED: log 72; DESIGN CHOICE: log 71] -/
def State.blockDone (s : State) (k : Nat) (mismatch : Bool) : State :=
  match s.comp.cur with
  | none => s
  | some c =>
    match c.issued.find? (fun x => x.1 == k) with
    | none => s
    | some (_, b) =>
      let cs := s.setOf c.pound
      let c := ({ c with issued := c.issued.erase (k, b) } : Compose).idle s.clk.comp k
      if c.bad then s.setCompose (some c)
      else
        let o := s.composeBlock cs c.stack c.eyes b
        let again := s.composeLayers cs c.stack 0 0 c.eyes b
        let (tc, hits, misses) := cacheRun k (s.blockLines cs c.stack c.eyes b (c.checks.contains b)) s.comp.tcache 0 0
        let s : State := { s with comp := { s.comp with tcache := tc } }
        let s := (s.add F.COMP_TCACHE_HIT_COUNT hits).add F.COMP_TCACHE_MISS_COUNT misses
        let g := cs.geom
        let twice := c.checks.contains b
        let s := s.when twice (fun s => s.inc F.COMP_SLUICE_CHK_CHECKED)
        let differs : Bool := twice && (mismatch || again.words != o.words)
        let words := if differs then again.words else o.words
        let s := if differs then
            (s.inc F.COMP_SLUICE_CHK_MISMATCH).raiseOnceI 0x803 bCOMP k 0 (b / g.bx * 65536 + b % g.bx) c.pound
          else s
        let bs := s.basin.writeWords (bufMoors s.comp.bufs c.buf) (g.cols * g.vcols) words
        let bs := match c.tap with
          | some i => bs.writeWords (bufMoors s.comp.taps i) g.cols (tapWords cs words)
          | none => bs
        let c := { c with written := c.written + 1, skip := c.skip + o.skip, occ := c.occ + o.occ, eterm := c.eterm + o.eterm,
                          conc := c.conc + o.conc, lit := c.lit + o.lit }
        let s := ({ s with basin := bs } : State).setCompose (some c)
        if c.written = g.blocks then s.frameComplete c else s

/-- The blocks at clusters that are reset are lost (R45), and what their texel caches hold: the blocks are never written, and the frame is late.
The clocks in which the clusters held them count as busy (R246). -/
def State.loseBlocks (s : State) (clusters : List Nat) : State :=
  let s : State := { s with comp := { s.comp with tcache := s.comp.tcache.filter (fun e => !clusters.contains (e.1 / 512)) } }
  match s.comp.cur with
  | none => s
  | some c =>
    let t := ((c.since.filter (fun e => clusters.contains e.1)).map (fun e => s.clk.comp - e.2)).sum
    s.setCompose (some { c with issued := c.issued.filter (fun x => !clusters.contains x.1),
                                since := c.since.filter (fun e => !clusters.contains e.1), busy := c.busy + t })

/-- At its deadline an unfinished composition is discarded (R245): event 0x804. Blocks still queued stay at their clusters as
barges of a pound that the open makes stale. [DEDUCED: log 75] -/
def State.frameLate (s : State) : State :=
  match s.comp.cur with
  | none => s
  | some c =>
    let blocks := (s.setOf c.pound).geom.blocks
    let load := s.loadOf c
    let heads := (List.range 32).filterMap (fun k => c.issued.find? (fun x => x.1 == k))
    let s := s.setCompose none
    let s := s.each (c.issued.filter (fun x => !heads.contains x)) (fun s x => s.pushBarge bCOMP x.1 c.pound x.2)
    let s := ((s.discardFrame c).raise 0x804 bCOMP c.pound (blocks - c.written)).noteFault 0x804
    let s := (s.inc F.COMP_LATE_CNT_LATE).showLoad load true
    s.setRes c.pound (fun r => { r with late := true, load := load, launch := false })

/-- A claim of a MAP over a layer's footprint (R243): 1 EMPTY, 2 OPAQUE, 0 MIXED. -/
def claimOf (m : Option LayerMap) (d : Desc) (g : Geom) (block : Nat) : Nat :=
  match m with
  | none => 0
  | some m =>
    if d.ty = tCARD ∨ d.ty = tPATTERN ∨ d.stepZero then 0
    else
      let (cells, inside) := (d.foot g block).cells d.tilesX d.tilesY
      -- cell words: 8 per tile, one per cell row
      let cls (c : Nat × Nat) : Nat :=
        let w := m.cells.getD ((c.2 / 8 * d.tilesX + c.1 / 8) * 8 + c.2 % 8) 0
        if bitAt w (2 * (c.1 % 8)) then 1 else if bitAt w (2 * (c.1 % 8) + 1) then 2 else 0
      let l := cells.map cls
      if inside && l.all (· == 1) then 1 else if inside && l.all (· == 2) then 2 else 0

/-- Texel-cache lines that cover a footprint (R220, R243). -/
def footLines (d : Desc) (g : Geom) (block : Nat) : Nat :=
  if d.ty = tPATTERN ∨ d.stepZero then 0
  else
    let f := d.foot g block
    let k := if d.ty = tCARD then 3 else 2
    natOf ((sar f.x1 3 - sar f.x0 3 + 1) * (sar f.y1 k - sar f.y0 k + 1))

/-- The MAP in force for a layer in a pound (R166). -/
def SceneSlot.mapAt (k : SceneSlot) (layer p : Nat) : Option LayerMap :=
  k.maps.foldl (fun (b : Option LayerMap) m =>
    if m.layer = layer ∧ ¬ laterPound m.pound p then
      (match b with | none => some m | some q => if laterPound m.pound q.pound then some m else some q)
    else b) none

/-- The cost of a block (R243): the walk down the stack until a layer claims OPAQUE. -/
def State.blockCost (s : State) (cs : CSet) (p block rays : Nat) : List StackLayer → Nat
  | [] => 0
  | l :: r =>
    let m := if l.overlay then none else (s.strm.slot l.slot).mapAt l.desc.layer p
    let cls := claimOf m l.desc cs.geom block
    if cls = 1 then State.blockCost s cs p block rays r
    else
      let c := (if l.nearest then 1 else 2) + (if l.desc.ty = tRELIEF then 1 else 0)
      let here := rays * c + cs.fld F.COMP_RUN_CTRL_LINE_COST * footLines l.desc cs.geom block
      if cls = 2 then here else here + State.blockCost s cs p block rays r

/-- The load estimate of the open pound completes (R243, R244). [DEDUCED: log 77] -/
def State.estimate (s : State) : State :=
  let p := s.pound
  let cs := s.setOf p
  if ¬ s.lock.everOpened ∨ ¬ s.composerRuns cs then s
  else
    let g := cs.geom
    let ls := (s.drawn p).map (fun e => s.stackLayer e 0 p)
    let (stack, _) := cs.stackOf ls
    let est := ((List.range g.blocks).map (fun b =>
      let rays := (g.hogels b).length * g.vcols * g.vrows
      s.blockCost cs p b rays stack)).sum
    let cyc := s.cyc p
    let full := 32 * 16 * 2 * cyc
    let pm := if full = 0 then 2047 else min 2047 (est * 1000 / full)
    let allowed := s.allowedClusters
    let t := cs.fld F.COMP_RUN_CTRL_TARGET_PCT * 32 * cyc
    let need := if t = 0 then allowed else ceilDiv (est * 100) t
    let n := if cs.fld F.COMP_RUN_CTRL_GATE_EN = 1 then min (max need (cs.fld F.COMP_RUN_CTRL_MIN_CLUSTERS)) allowed else allowed
    let s := s.wr F.COMP_LOAD_EST pm
    { s with comp := { s.comp with counts := ((p, n) :: s.comp.counts.filter (fun e => e.1 ≠ p)).take 4 } }

/-- A rung step is requested (R248): event 0x807. -/
def State.ladderStep (s : State) (rung gov : Nat) : State :=
  let s := s.raise 0x807 bCOMP (s.comp.rungReq + 256 * rung) gov
  { s with comp := { s.comp with rungReq := rung, gov := gov, above := 0, below := 0, rungDue := true } }

/-- Whether the composition of `f` (in pound f + 1) was braced (R82, R248). -/
def State.braced (s : State) (p : Nat) : Bool := s.pwr.marked.contains p

/-- The ladder at step 1 of the lock cycle that opens `p` (R248). -/
def State.ladder (s : State) (p : Nat) : State :=
  let f := poundSub p 2
  let hi := s.cm F.COMP_LADDER_HIGH_PCT * 10
  let lo := s.cm F.COMP_LADDER_LOW_PCT * 10
  let max_ := s.cm F.COMP_RUN_CTRL_MAX_RUNG
  let s := match s.comp.results.find? (fun r => r.pound == f) with
    | none => s
    | some r =>
      if ¬ r.ran ∨ s.braced (poundAdd f 1) ∨ laterPound s.comp.gov f then s
      else if r.late ∨ hi < r.load then { s with comp := { s.comp with above := min 255 (s.comp.above + 1), below := 0 } }
      else if r.load < lo then { s with comp := { s.comp with below := min 255 (s.comp.below + 1), above := 0 } }
      else { s with comp := { s.comp with above := 0, below := 0 } }
  if max_ < s.comp.rungReq then s.ladderStep max_ (poundAdd p 2)
  else if s.cm F.COMP_LADDER_UP_POUNDS ≤ s.comp.above ∧ s.comp.rungReq < max_ then s.ladderStep (s.comp.rungReq + 1) (poundAdd p 2)
  else if s.cm F.COMP_LADDER_DOWN_POUNDS ≤ s.comp.below ∧ 0 < s.comp.rungReq then s.ladderStep (s.comp.rungReq - 1) (poundAdd p 2)
  else s

/-- `k` buffers of `n` moorings each; those the pool cannot serve are left out (R274, R279). [DEDUCED: log 30] -/
def State.newBufs (s : State) (cls n rsv gen : Nat) (g : Geom) : Nat → State × List Buf
  | 0 => (s, [])
  | k + 1 =>
    match s.basin.allocMany cls (s.classOrder cls) rsv .reserved n with
    | some (l, b) =>
      let r := (State.noteFree { s with basin := b }).newBufs cls n rsv gen g k
      (r.1, { gen := gen, moors := l, role := BufRole.free, pound := 0, geom := g, aborted := false } :: r.2)
    | none => (s.allocFail cls).newBufs cls n rsv gen g k

/-- Reserve the frame and tap buffers of a committed set (R274): a new reservation beside the old one. [DEDUCED: log 30] -/
def State.reserveBufs (s : State) (c : CSet) (frames taps : Bool) : State :=
  let g := c.geom
  let rsv := s.cm F.BASIN_RSV_PKT
  let gen := s.comp.gen + 1
  let fb := if frames then s.newBufs cFRAME (frameMoors g.rays) rsv gen g 3 else (s, [])
  let s := fb.1
  let tb := if taps ∧ c.fld F.COMP_TAP_EN = 1 then s.newBufs cTAP (frameMoors (g.cols * g.rows)) rsv gen g 2 else (s, [])
  let s := tb.1
  -- a reservation that is kept moves to the new number with its buffers
  let keepF := if frames then s.comp.bufs else s.comp.bufs.map (fun b => if b.gen = s.comp.gen then { b with gen := gen } else b)
  let keepT := if taps then s.comp.taps else s.comp.taps.map (fun b => if b.gen = s.comp.gen then { b with gen := gen } else b)
  State.dropOldBufs { s with comp := { s.comp with gen := gen, bufs := keepF ++ fb.2, taps := keepT ++ tb.2 } } true

/-- The barge at the head of a cluster's crossing (R43): the composer has two banks. [DEDUCED: log 75] -/
def State.bargeAt (s : State) (block inst banks : Nat) : State :=
  let u := unitOf s.units block inst
  match u.inq with
  | [] => s
  | b :: r =>
    if u.reload then s
    else
      match u.acted with
      | none => s
      | some a =>
        let oldest := poundSub a (banks - 1)
        if laterPound b.tag a then s
        else if laterPound oldest b.tag then (s.modUnit block inst (fun u => { u with inq := r })).stale b.tag oldest
        else s.modUnit block inst (fun u => { u with inq := r })

end Sys2Proof.Machine
end

