-- ==== Sys2Proof/Machine/Tug.lean ====
section
/-! DEFINITION. The tug: CARD instances, region updates, clips, raster operations, order and endings (R285 to R295). -/

namespace Sys2Proof.Machine

/-- A rectangle: first and last column, first and last row, inclusive; empty where last is below first. -/
structure Rect where
  x0 : Int
  y0 : Int
  x1 : Int
  y1 : Int
  deriving DecidableEq, Repr

/-- The rectangle of a corner and a size. -/
def rectOf (x y w h : Nat) : Rect := { x0 := x, y0 := y, x1 := (x + w : Nat) - 1, y1 := (y + h : Nat) - 1 }

/-- Two rectangles meet. -/
def Rect.meets (a b : Rect) : Bool := decide (a.x0 ≤ b.x1 ∧ b.x0 ≤ a.x1 ∧ a.y0 ≤ b.y1 ∧ b.y0 ≤ a.y1)

/-- Intersection. -/
def Rect.inter (a b : Rect) : Rect := { x0 := max a.x0 b.x0, y0 := max a.y0 b.y0, x1 := min a.x1 b.x1, y1 := min a.y1 b.y1 }

/-- No pixel. -/
def Rect.empty (a : Rect) : Bool := decide (a.x1 < a.x0 ∨ a.y1 < a.y0)

/-- `a` contains `b`. -/
def Rect.contains (a b : Rect) : Bool := b.empty || decide (a.x0 ≤ b.x0 ∧ b.x1 ≤ a.x1 ∧ a.y0 ≤ b.y0 ∧ b.y1 ≤ a.y1)

/-- The pixel lies in the rectangle. -/
def Rect.has (a : Rect) (x y : Nat) : Bool := decide (a.x0 ≤ x ∧ (x : Int) ≤ a.x1 ∧ a.y0 ≤ y ∧ (y : Int) ≤ a.y1)

/-- Destination and source rectangles of a region update. -/
def Region.dst (r : Region) : Rect := rectOf r.dx r.dy r.w r.h
def Region.srcRect (r : Region) : Rect := rectOf r.sx r.sy r.w r.h

/-- The raster operation (R286). -/
def ropBits (rop p s d : Nat) : Nat :=
  ((List.range 32).map (fun i =>
    let k := b2n (bitAt p i) * 4 + b2n (bitAt s i) * 2 + b2n (bitAt d i)
    b2n (bitAt rop k) * 2 ^ i)).sum

/-- Clip rectangle `n` of a committed set. -/
def CSet.clipRect (c : CSet) (n : Nat) : Rect :=
  let (x0, y0, x1, y1) := c.clip n
  { x0 := x0, y0 := y0, x1 := x1, y1 := y1 }

/-- Clip `n` is OUTSIDE. -/
def CSet.clipOutside (c : CSet) (n : Nat) : Bool := bitAt (c.fld F.TUG_CLIP_MODE_OUTSIDE) n

/-- A pixel passes every clip that an update selects (R288). -/
def CSet.passes (c : CSet) (clip x y : Nat) : Bool := (maskBits 16 clip).all (fun n => (c.clipRect n).has x y != c.clipOutside n)

/-- The destination after the INSIDE clips (R289). -/
def CSet.clipped (c : CSet) (r : Region) : Rect :=
  ((maskBits 16 r.clip).filter (fun n => !c.clipOutside n)).foldl (fun a n => a.inter (c.clipRect n)) r.dst

/-- The surface the tug works on: the one the composition does not read (R175). -/
def CardInst.work (c : CardInst) : Bool := !c.front

/-- A job acts on a surface of a layer; its destination rectangle, the whole surface for a fill. -/
def TugJob.dst (j : TugJob) (card : CardInst) : Rect :=
  match j.region with | some r => r.dst | none => rectOf 0 0 card.width card.height

/-- The source layer and rectangle a job reads from a surface (R286); a source that the ROP does not read is not read (R287). -/
def TugJob.reads (j : TugJob) : Option (Nat × Rect) :=
  match j.region with
  | some r => if r.src = 2 ∧ ropReadsS r.rop then some (r.srcL, r.srcRect) else none
  | none => none

/-- Two jobs conflict (R291): one's destination meets the other's destination or source on the same surface. -/
def TugSt.conflict (t : TugSt) (a b : TugJob) : Bool :=
  match t.card a.slot a.layer, t.card b.slot b.layer with
  | some ca, some cb =>
    let same := a.slot == b.slot && a.layer == b.layer && a.second == b.second
    let hits (x y : TugJob) (cx : CardInst) : Bool :=
      match y.reads with
      | some (l, r) =>
        x.slot == y.slot && x.layer == l && x.second == y.source && (x.dst cx).meets r
      | none => false
    (same && (a.dst ca).meets (b.dst cb)) || hits a b ca || hits b a cb
  | _, _ => false

/-- A later job removes an earlier one that has not started (R175, R289, R291). -/
def TugSt.supersedes (_t : TugSt) (cs : CSet) (later earlier : TugJob) (between : List TugJob) : Bool :=
  match later.region, earlier.region with
  | some r, some e =>
    !earlier.started && later.slot == earlier.slot && later.layer == earlier.layer && later.tag == earlier.tag && later.again == earlier.again
      && !ropReadsD r.rop && !((maskBits 16 r.clip).any cs.clipOutside) && (cs.clipped r).contains (cs.clipped e)
      && between.all (fun b => match b.reads with | some (l, _) => !(b.slot == earlier.slot && l == earlier.layer) | none => true)
  | _, _ => false

/-- The end of an update is recorded (R294): 0 COMPLETE, 1 OVERLAP, 2 SUPERSEDED, 3 ABORTED, 4 DISCARDED. -/
def State.tugEnd (s : State) (j : TugJob) (status : Nat) : State :=
  let s := ((s.wr F.TUG_LAST_POUND (j.tag % 256)).wr F.TUG_LAST_SLOT j.slot).wr F.TUG_LAST_LAYER j.layer
  let s := s.wr F.TUG_LAST_STATUS status
  if status = 0 then s.inc F.TUG_DONE_CNT_COUNT
  else if status = 1 then (s.inc F.TUG_DONE_CNT_COUNT).inc F.TUG_ERR_CNT_OVERLAP
  else if status = 2 then s.inc F.TUG_SKIP_CNT_SUPERSEDED
  else if status = 3 then s.inc F.TUG_ERR_CNT_ABORTED
  else s.inc F.TUG_SKIP_CNT_DISCARDED

/-- The jobs between an element and the end of a list. -/
def after (q : List TugJob) (j : TugJob) : List TugJob := (q.dropWhile (fun x => decide (x ≠ j))).drop 1

/-- A job joins the queue, removing those it supersedes (R175). -/
def State.tugPush (s : State) (j : TugJob) : State :=
  let cs := s.setOf j.tag
  let gone := s.tug.queue.filter (fun e => s.tug.supersedes cs j e (after s.tug.queue e))
  let s := { s with tug := { s.tug with queue := s.tug.queue.filter (fun e => !gone.contains e) ++ [j] } }
  s.each gone (fun s e => s.tugEnd e 2)

/-- The moorings of a CARD surface. -/
def cardMoors (w h : Nat) : Nat := ceilDiv (4 * w * h) moorSize

/-- `n` moorings for each of the two surfaces of an instance, or none (R279). -/
def State.takeSurfs (s : State) (c : CardInst) (n : Nat) : State × CardInst :=
  match s.basin.allocMany cCARD (s.classOrder cCARD) (s.cm F.BASIN_RSV_PKT) .held (n + n) with
  | some (l, b) => (State.noteFree { s with basin := b }, { c with surf0 := l.take n, surf1 := l.drop n, held := true })
  | none => (s.allocFail cCARD, c)

/-- Both surfaces of an instance are allocated, or neither (R279, R290). -/
def State.allocCard (s : State) (c : CardInst) : State × CardInst := s.takeSurfs c (cardMoors c.width c.height)

/-- The fills of an instance that begins (R290): both surfaces. [DEDUCED: log 73] -/
def State.fillCard (s : State) (c : CardInst) (p : Nat) : State :=
  let j (b : Bool) : TugJob := { tag := p, again := false, slot := c.slot, layer := c.layer, second := b, source := b, region := none, started := false }
  (s.tugPush (j false)).tugPush (j true)

/-- Replace a CARD instance, or add it. -/
def TugSt.setCard (t : TugSt) (c : CardInst) : TugSt :=
  { t with cards := t.cards.filter (fun x => ¬ (x.slot = c.slot ∧ x.layer = c.layer)) ++ [c] }

/-- `s` with a CARD instance replaced or added. -/
def State.withCard (s : State) (c : CardInst) : State := { s with tug := s.tug.setCard c }

/-- An instance joins with its surfaces, or without them where none can be had. -/
def State.addCard (s : State) (c : CardInst) : State := (s.allocCard c).1.withCard (s.allocCard c).2

/-- Failed allocations of CARD surfaces are tried again at each close (R279): the layers whose fills the next open queues. -/
def State.retryCards (s : State) : State :=
  s.each (s.tug.cards.filter (fun c => !c.held)) State.addCard

/-- The list of `p` releases a layer (R176). -/
def State.releasedByList (s : State) (k l p : Nat) : Bool :=
  (s.strm.slot k).lists.any (fun x => x.pound == p && x.cmds.any (fun c => c == Cmd.release l))

/-- CARD layers named in pound `p` by a draw list or a REGION command, but those its list releases. -/
def State.cardsNamed (s : State) (p : Nat) : List (Nat × Desc) :=
  let ents := match s.comp.plan p with | some q => (q.ents.filter (fun e => e.desc.ty = tCARD)).map (fun e => (e.slot, e.desc)) | none => []
  let layers (r : Region) : List Nat := if r.src = 2 then [r.layer, r.srcL] else [r.layer]
  let regs := (s.tug.updates.filter (fun u => u.1 == p)).flatMap (fun u =>
    (layers u.2.2).filterMap (fun l => (s.descOf u.2.1 l p).map (fun d => (u.2.1, d))))
  (ents ++ regs.filter (fun r => r.2.ty = tCARD)).foldl
    (fun l r => if l.any (fun x => x.1 == r.1 && x.2.layer == r.2.layer) then l else l ++ [r]) []

/-- An instance begins: its fills are queued (R290). -/
def State.beginCard (s : State) (c : CardInst) (p : Nat) : State :=
  State.fillCard { s with tug := s.tug.setCard { c with filled := true } } c p

/-- An update joins the queue, for the surface not in front (R175, R291). -/
def State.pushUpdate (s : State) (tag : Nat) (again : Bool) (u : Nat × Nat × Region) : State :=
  match s.tug.card u.2.1 u.2.2.layer with
  | some c =>
    let source : Bool := match s.tug.card u.2.1 u.2.2.srcL with | some q => q.work | none => c.work
    s.tugPush { tag := tag, again := again, slot := u.2.1, layer := u.2.2.layer, second := c.work, source := source, region := some u.2.2,
                started := false }
  | none => s

/-- At the open of `p` outside HOLD the tug queues fills, the repeat pass and the updates of `p` (R290, R291). -/
def State.tugQueue (s : State) (p : Nat) : State :=
  let prev := poundSub p 1
  let fresh := (s.cardsNamed p).filter (fun r => (s.tug.card r.1 r.2.layer).isNone && !s.releasedByList r.1 r.2.layer p)
  let s := s.each fresh (fun s r =>
    s.addCard { slot := r.1, layer := r.2.layer, width := r.2.width, height := r.2.height, surf0 := [], surf1 := [], front := false,
                held := false, filled := false, mark0 := false, mark1 := false, ready := false })
  let begun := s.tug.cards.filter (fun c => c.held && !c.filled)
  let s := s.each begun (fun s c => s.beginCard c p)
  let live (k l : Nat) : Bool := match s.tug.card k l with | some c => c.held | none => false
  -- the updates of the pound before were of no instance that begins now, but of one whose surfaces come only now (R279)
  let isNew (k l : Nat) : Bool := fresh.any (fun r => r.1 == k && r.2.layer == l)
  let ups (q : Nat) : List (Nat × Nat × Region) :=
    let l := s.tug.updates.filter (fun u => u.1 == q && live u.2.1 u.2.2.layer)
    l.filter (fun u => u.2.1 == 0) ++ l.filter (fun u => u.2.1 != 0)
  let s1 := s.each ((ups prev).filter (fun u => !isNew u.2.1 u.2.2.layer && !s.tug.skip.contains (u.2.1, u.2.2.layer))) (fun s u => s.pushUpdate prev true u)
  s1.each (ups p) (fun s u => s.pushUpdate p false u)

/-- The open of `p` at the tug, which HOLD suspends (R60, R290, R291). -/
def State.tugOpen (s : State) (p : Nat) : State :=
  let prev := poundSub p 1
  let s := if has s.mode mHOLD then s else s.tugQueue p
  { s with tug := { s.tug with updates := s.tug.updates.filter (fun u => !laterPound prev u.1), skip := [],
                               aborted := s.tug.aborted.filter (fun a => !laterPound prev a.2.2) } }

/-- The pound at whose open an update was queued: its own, or the next in the repeat pass (R291). -/
def TugJob.from_ (j : TugJob) : Nat := if j.again then poundAdd j.tag 1 else j.tag

/-- The head update starts (R291): the tug has acted on the token of the pound that queued it (R43, R44), fewer than four run, and no earlier
update that conflicts with it is unfinished. -/
def State.tugStart (s : State) : State :=
  let q := s.tug.queue
  let running := q.filter TugJob.started
  match q.find? (fun j => !j.started) with
  | none => s
  | some j =>
    if has s.mode mHOLD ∨ ¬ s.unitAt bTUG 0 j.from_ ∨ 4 ≤ running.length ∨ running.any (fun r => s.tug.conflict r j) then s
    else { s with tug := { s.tug with queue := q.takeWhile (fun x => decide (x ≠ j)) ++ { j with started := true } :: after q j } }

/-- The copy is diagonal and overlaps itself (R292). [DESIGN CHOICE: log 80] -/
def Region.diagonal (r : Region) : Bool :=
  r.src == 2 && r.srcL == r.layer && r.srcRect.meets r.dst && r.dx != r.sx && r.dy != r.sy

/-- An update overlaps (R292). -/
def Region.overlaps (r : Region) : Bool := r.diagonal

/-- A pixel of a surface. -/
def BasinSt.cardPixel (b : BasinSt) (surf : List Nat) (width x y : Nat) : Nat := b.listWord surf (4 * (y * width + x)) 4

/-- Write one pixel of a surface (R285). -/
def BasinSt.putCard (b : BasinSt) (surf : List Nat) (width x y v : Nat) : BasinSt :=
  let f := 4 * (y * width + x)
  b.write (surf.getD (f / moorSize) 0 * moorSize + f % moorSize) (leBytes 4 v)

/-- The pixels an update writes, in row-major order, with their values (R286, R288, R292). `free` gives the undefined ones. [DEDUCED: log 74; DESIGN CHOICE: log 80] -/
def State.tugPixels (s : State) (j : TugJob) (c : CardInst) (free : Nat → Nat) : List (Nat × Nat × Nat) :=
  match j.region with
  | none => (List.range (c.width * c.height)).map (fun k => (k % c.width, k / c.width, 0))
  | some r =>
    let cs := s.setOf j.tag
    let dst := c.surf j.second
    let src := if r.src = 2 then s.tug.card j.slot r.srcL else none
    let meet := r.srcRect.inter r.dst
    ((List.range (r.w * r.h)).filter (fun k => cs.passes r.clip (r.dx + k % r.w) (r.dy + k / r.w))).map (fun k =>
      let x := r.dx + k % r.w
      let y := r.dy + k / r.w
      let sx := r.sx + k % r.w
      let sy := r.sy + k / r.w
      let sv := if r.src = 1 then r.data.getD k 0
        else match src with
          | some q => s.basin.cardPixel (if r.srcL = r.layer then dst else q.surf j.source) q.width sx sy
          | none => 0
      let v := if r.diagonal ∧ meet.has sx sy then free k % 2 ^ 32
        else ropBits r.rop r.pat sv (s.basin.cardPixel dst c.width x y)
      (x, y, v))

/-- Running update number `n` ends (R292 to R295); `abort`: an uncorrectable read ended it after so many pixels. [DEDUCED: log 74] -/
def State.tugDone (s : State) (n : Nat) (abort : Option Nat) : State :=
  match (s.tug.queue.filter TugJob.started)[n]? with
  | none => s
  | some j =>
    let s := { s with tug := { s.tug with queue := s.tug.queue.erase j } }
    match s.tug.card j.slot j.layer with
    | none => s.tugEnd j 4
    | some c =>
      let (seed, s) := s.chooseNat
      let px := s.tugPixels j c (fun k => Config.freeNat (seed + k))
      let px := match abort with | some m => px.take m | none => px
      let b := px.foldl (fun b p => b.putCard (c.surf j.second) c.width p.1 p.2.1 p.2.2) s.basin
      let total := s.tug.px + px.length
      let s := { s with basin := b, tug := { s.tug with px := total % 256 } }
      let s := s.add F.TUG_PX_CNT_COUNT (total / 256)
      let id := j.layer + 256 * j.slot
      match abort with
      | some _ =>
        let s := { s with tug := { s.tug with aborted := (j.slot, j.layer, j.tag) :: s.tug.aborted } }
        (s.tugEnd j 3).raise 0xB01 bTUG id j.tag
      | none =>
        let lap : Bool := match j.region with | some r => r.overlaps | none => false
        if lap then
          let s := { s with tug := s.tug.setCard (if j.second then { c with mark1 := true } else { c with mark0 := true }) }
          (s.tugEnd j 1).raiseOnce 0xB00 bTUG 0 id j.tag
        else s.tugEnd j 0

/-- Updates that have not ended at the deadline of `p` (R294): counted, event 0xB02. -/
def State.tugLate (s : State) (p : Nat) : State :=
  s.each s.tug.queue (fun s j =>
    (s.inc F.TUG_ERR_CNT_LATE).raiseOnce 0xB02 bTUG (j.slot * 32 + j.layer) (j.layer + 256 * j.slot) p)

/-- The instance of a CARD layer ends with pound `u` (R277, R290, R294): its updates are discarded, its surfaces get U. [DEDUCED: log 73] -/
def State.endCard (s : State) (slot layer u : Nat) : State :=
  let mine (j : TugJob) : Bool := j.slot == slot && j.layer == layer
  let gone := s.tug.queue.filter mine
  let s := match s.tug.card slot layer with
    | some c => s.each (c.surf0 ++ c.surf1) (fun s m => { s with basin := s.basin.fixLast m u })
    | none => s
  let s := { s with tug := { s.tug with queue := s.tug.queue.filter (fun j => !mine j),
                                        cards := s.tug.cards.filter (fun c => ¬ (c.slot = slot ∧ c.layer = layer)) } }
  s.each gone (fun s j => s.tugEnd j 4)

end Sys2Proof.Machine
end

