-- ==== Sys2Proof/Machine/Lanes.lean ====
section
/-! DEFINITION. Serial lanes: block coding, alignment, adaptation, the back-channel, the monitor and test patterns (R312 to
R335). -/

namespace Sys2Proof.Machine

/-- CHK of a control block: the exclusive or of payload bytes 63:56 down to 15:8 (R315). -/
def blockChk (w : Nat) : Nat := ((List.range 7).map (fun i => bitsOf w (8 * i + 15) (8 * i + 8))).foldl (· ^^^ ·) 0

/-- A control block with its CHK; the low byte of `w` is 0. -/
def ctrlBlock (w : Nat) : Nat := w + blockChk w

/-- When block slot `k` starts at the balls, in 2^-16 ns of device time: 1.75 G slots a second from lane enable (R312, R317). -/
def slotStart (enabled k : Nat) : Nat := enabled + k * 262144 / 7

/-- The first block slot that starts at an instant or after it (R153). -/
def slotFrom (enabled x : Nat) : Nat := ceilDiv ((x - enabled) * 7) 262144

/-- IDLE (R315). -/
def idleBlock : Nat := ctrlBlock (0x1E * 2 ^ 56)

/-- ALIGN of lane `n` with its alignment sequence (R315, R317). -/
def alignBlock (lane seq : Nat) : Nat := ctrlBlock (0x78 * 2 ^ 56 + lane * 2 ^ 48 + seq % 65536 * 2 ^ 32)

/-- The row header (R316): row type, end code, index, frame counter, lane, 24 bpp. -/
def rowHeader (rowType endCode index fcnt lane bpp24 : Nat) : Nat :=
  ctrlBlock (0x4B * 2 ^ 56 + rowType * 2 ^ 52 + endCode * 2 ^ 50 + index % 65536 * 2 ^ 32 + fcnt % 256 * 2 ^ 24 + lane * 2 ^ 16 + bpp24 * 2 ^ 8)

/-- One bit through the scrambler 1 + x^39 + x^58 (R313): the register's newest bit is bit 0. -/
def scrambleBit (reg : Nat) (b : Bool) : Bool × Nat :=
  let o := xor b (xor (bitAt reg 38) (bitAt reg 57))
  (o, (reg * 2 + b2n o) % 2 ^ 58)

/-- A payload through the scrambler, bit 63 first (R313). -/
def scramble (reg w : Nat) : Nat × Nat :=
  (List.range 64).foldl (fun (a : Nat × Nat) i => let (o, r) := scrambleBit a.2 (bitAt w (63 - i)); (a.1 * 2 + b2n o, r)) (0, reg)

/-- The PAM4 level of two bits, the first more significant (R312). -/
def grayLevel (hi lo : Bool) : Nat := match hi, lo with | false, false => 0 | false, true => 1 | true, true => 2 | true, false => 3

/-- Precoding (R314): g(k) − p(k − 1) mod 4. -/
def precode (g prev : Nat) : Nat := (g + 4 - prev % 4) % 4

/-- The level sent under POL_INV (R314). -/
def polarity (inv : Bool) (v : Nat) : Nat := if inv then 3 - v else v

/-- Feedback taps of a pattern (R331). -/
def prbsTaps (pat : Nat) : List Nat :=
  if pat = 1 then [7, 6] else if pat = 2 then [9, 5] else if pat = 3 ∨ pat = 7 then [13, 12, 2, 1]
  else if pat = 4 then [15, 14] else if pat = 5 then [23, 18] else if pat = 6 then [31, 28] else []

/-- The next bit of a generator whose register holds the last bits, newest in bit 0 (R331). -/
def prbsNext (pat reg : Nat) : Bool × Nat :=
  let o := (prbsTaps pat).foldl (fun a t => xor a (bitAt reg (t - 1))) false
  (o, (reg * 2 + b2n o) % 2 ^ ((prbsTaps pat).headD 1))

/-- The tap steps of a request, in REQ order: the taps and ST. -/
def tapSteps (t : Taps) (req : Nat) : Taps × Nat :=
  (List.range 4).foldl (fun (a : Taps × Nat) i =>
    let (t, st) := tapStep a.1 i (bitsOf req (2 * i + 1) (2 * i))
    (t, a.2 + st * 4 ^ i)) (t, 0)

/-- Kinds that send rows. -/
def Kind.rows (k : Kind) : Bool := k == .frame || k == .repeated || k == .background || k == .card

/-- Live taps of a lane. -/
def State.taps (s : State) (n : Nat) : Taps := tapsOf (s.rd (F.LANE_n_TXACT_TAPS n))

/-- A status record (R326). -/
def statusRec (lane seq st : Nat) (t : Taps) : List Byte :=
  [BitVec.ofNat 8 lane, BitVec.ofNat 8 seq, BitVec.ofNat 8 st, 0#8] ++ t.map (fun v => BitVec.ofNat 8 (unsigned 8 v))

/-- ST with every tap not updated. -/
def stNone : Nat := 0xAA

/-- A request is malformed (R326): a preset together with a step, a reserved value, or a lane outside the chip select's range. -/
def reqBad (cs : Nat) (r : List Byte) : Bool :=
  let lane := beAt r 0 1
  let req := beAt r 2 2
  let steps := req % 256
  let preset := bitsOf req 10 8
  decide (lane < 12 * cs ∨ 12 * cs + 12 ≤ lane ∨ 48 ≤ lane) || (preset != 0 && steps != 0) || decide (2 < preset)
    || (List.range 4).any (fun i => bitsOf req (2 * i + 1) (2 * i) == 3) || (req / 0x800 % 16 != 0)

/-- Apply a request to the live taps now (R325, R326); `presets` are accepted in TRAIN only. [DEDUCED: log 76] -/
def State.applyReq (s : State) (presets : Bool) (r : List Byte) : State :=
  let lane := beAt r 0 1
  let req := beAt r 2 2
  let preset := bitsOf req 10 8
  let t := s.taps lane
  let (t', st) :=
    if preset = 0 then tapSteps t req
    else if ¬ presets then (t, stNone)
    else if preset = 1 then (tapsOf (s.cm (F.LANE_n_TXFFE_CM3 lane) + s.cm (F.LANE_n_TXFFE_CM2 lane) * 2 ^ 8 + s.cm (F.LANE_n_TXFFE_CM1 lane) * 2 ^ 16
        + s.cm (F.LANE_n_TXFFE_CP1 lane) * 2 ^ 24), 0)
    else ([0, 0, 0, 0], 0)
  let s := s.wr (F.LANE_n_TXACT_TAPS lane) (tapsWord t')
  s.modLane lane (fun l => { l with lastSeq := some (beAt r 1 1), status := statusRec lane (beAt r 1 1) st t', wait := none })

/-- A lane reports DONE (R327). [DEDUCED: log 76] -/
def State.laneDone (s : State) (n : Nat) : State :=
  if n < 32 then s.wr F.LANE_BC_DONE0_DONE (orBit (s.rd F.LANE_BC_DONE0_DONE) n)
  else s.wr F.LANE_BC_DONE1_DONE (orBit (s.rd F.LANE_BC_DONE1_DONE) (n - 32))

/-- One request record read on chip select `cs` (R326 to R328): the status record that answers it. [DEDUCED: log 76] -/
def State.request (s : State) (train : Bool) (cs : Nat) (r : List Byte) : State × List Byte :=
  let lane := beAt r 0 1
  let seq := beAt r 1 1
  if reqBad cs r then
    let t := if lane < 48 then s.taps lane else [0, 0, 0, 0]
    (s.raiseI 0xD04 bLANE lane lane (beAt r 0 4), statusRec lane seq stNone t)
  else
    let s := s.wr (F.LANE_n_STAT_FOM lane) (beAt r 4 1)
    let s := if train ∧ bitAt (beAt r 2 2) 15 then s.laneDone lane else s
    let l := s.lanes.lane lane
    if l.lastSeq = some seq then (s, l.status)
    else if train then
      let s := s.applyReq true r
      (s, (s.lanes.lane lane).status)
    else
      let st := statusRec lane seq stNone (s.taps lane)
      (s.modLane lane (fun l => { l with lastSeq := some seq, status := st, wait := some r }), st)

/-- The committed taps of a lane (LANE_n_TXFFE). -/
def CSet.txffe (c : CSet) (n : Nat) : Nat := (c.regs.word (R.LANE_n_TXFFE n)).toNat

/-- The committed taps of a panel lane that differ from those last taken replace the live ones (R325). -/
def State.seedTaps (s : State) (n : Nat) : State :=
  let v := s.cset.txffe n
  if ((s.lanes.lane n).seed).getD (CSet.reset.txffe n) = v then s
  else (s.wr (F.LANE_n_TXACT_TAPS n) v).modLane n (fun l => { l with seed := some v })

/-- At a back-porch boundary, or in a slot that carries no rows, the committed taps are taken and pending RUN requests are applied, once in a frame
(R325, R328). -/
def State.bcApply (s : State) : State :=
  let s := s.each (List.range 48) State.seedTaps
  if s.scan.kind.rows ∧ s.lanes.bcFrame = some s.scan.start then s
  else
    let s := if s.scan.kind.rows then { s with lanes := { s.lanes with bcFrame := some s.scan.start } } else s
    s.each ((List.range 48).filterMap (fun n => (s.lanes.lane n).wait)) (fun s r => s.applyReq false r)

/-- The live taps of a lane are those that its link training leaves (R325): a ring lane in KR4 or CR4. -/
def CSet.trainsTaps (c : CSet) (n : Nat) : Bool :=
  decide (n < 52) && decide (c.fld F.RING_PORT_CFG_E_MEDIA < 2) || (decide (52 ≤ n ∧ n < 56) && decide (c.fld F.RING_PORT_CFG_W_MEDIA < 2))

/-- Ring lanes in 400GAUI-4 and towpath lanes have the committed taps from the open that commits them (R325). -/
def State.openTaps (s : State) : State :=
  s.each ((List.range 12).map (48 + ·)) (fun s n => if s.cset.trainsTaps n then s else s.wr (F.LANE_n_TXACT_TAPS n) (s.cset.txffe n))

/-- A checker begins anew (R334): it is not synchronised; `k` is the lane whose register shows it, `n` the receiver. -/
def State.chkClear (s : State) (n k : Nat) : State :=
  ((s.wr (F.LANE_n_STAT_CHK_SYNC k) 0).wr (F.LANE_n_STAT_INVERTED k) 0).modLane n (fun l => { l with chk := PrbsChk.reset })

/-- A running eye scan stops, its results discarded (R329). [DESIGN CHOICE: log 98] -/
def State.scanStop (s : State) : State :=
  State.wr { s with lanes := { s.lanes with scan := false } } F.LANE_MON_CFG_SCAN 0

/-- A write of LANE_MON_CFG (R329): one of LANE stops a scan that runs; a new LANE or EN adapts the receiver, and the lane left behind is no longer
checked. -/
def State.monCfg (s : State) (v : Nat) (laneWritten : Bool) : State :=
  let lane := bitsOf v 5 0
  let en := b2n (bitAt v 8)
  let was := s.rd F.LANE_MON_CFG_LANE
  let lane' := if lane < 48 then lane else was
  let change : Bool := lane' != was || en != s.rd F.LANE_MON_CFG_EN
  let s := if change ∨ (laneWritten ∧ lane < 48 ∧ s.lanes.scan) then s.scanStop else s
  let s := if change then s.chkClear monLane was else s
  let s := (s.wr F.LANE_MON_CFG_LANE lane').wr F.LANE_MON_CFG_EN en
  if ¬ change then s
  else if en = 1 then s.rxStart monLane
  else ((s.wr F.LANE_MON_STAT_ADAPTED 0).setLock monLane 0).modLane monLane (fun l => { l with training := false, rxSt := 0 })

/-- SCAN written as 1 on an adapted monitor starts an eye scan (R330). [DESIGN CHOICE: log 98] -/
def State.monScan (s : State) : State :=
  if s.rd F.LANE_MON_STAT_ADAPTED = 1 ∧ s.rd F.LANE_MON_CFG_EN = 1 ∧ ¬ s.lanes.scan then
    let s := { s with lanes := { s.lanes with scan := true } }
    s.wr F.LANE_MON_CFG_SCAN 1
  else s

/-- Open phases around the sampling phase, phase 32 of 64 (R330). -/
def openWidth (open_ : Nat → Bool) : Nat :=
  if open_ 32 then
    1 + ((List.range 31).takeWhile (fun i => open_ (33 + i))).length + ((List.range 32).takeWhile (fun i => open_ (31 - i))).length
  else 0

/-- An eye scan ends (R330): the eyes measured at the 64 phases; the figure of merit is that of the sampling phase; event 0xD07. [DESIGN CHOICE: log 98] -/
def State.monScanDone (s : State) (eyes : List Eyes) : State :=
  if ¬ s.lanes.scan then s
  else
    let e (k : Nat) : Nat × Nat × Nat := (eyes[k]?).elim (0, 0, 0) (fun e => (satN 255 e.upper.height, satN 255 e.middle.height, satN 255 e.lower.height))
    let s := s.each (List.range 64) (fun s k =>
      ((s.wr (F.LANE_MON_EYEk_UPPER k) (e k).1).wr (F.LANE_MON_EYEk_MIDDLE k) (e k).2.1).wr (F.LANE_MON_EYEk_LOWER k) (e k).2.2)
    let width := openWidth (fun k => decide (0 < (e k).1 ∧ 0 < (e k).2.1 ∧ 0 < (e k).2.2))
    let lane := s.rd F.LANE_MON_CFG_LANE
    let s := ((s.wr F.LANE_MON_STAT_WIDTH width).wr F.LANE_MON_STAT_LANE lane).wr F.LANE_MON_STAT_FOM ((eyes[32]?).elim 0 Eyes.fom)
    let s := { s with lanes := { s.lanes with scan := false } }
    (s.wr F.LANE_MON_CFG_SCAN 0).raiseLane 0xD07 lane (width * 256 + s.rd F.LANE_MON_STAT_FOM)

/-- What decides what the panel lanes send now (R301, R327, R333). -/
def State.txSrc (s : State) : TxSrc :=
  { scan := s.scan, bufs := s.comp.bufs, basin := s.basin, panel := s.panel,
    train := if s.rd F.PNL_STATUS_STATE = 2 then some s.lanes.trainSlot else none, cset := s.cset, lanes := s.lanes }

/-- The block slot now in progress. -/
def State.slotNow (s : State) : Nat := slotFrom (s.lanes.enabledAt.getD s.dev) s.dev

/-- What the panel lanes send changes at block slot `k`: what they sent up to then is kept, so that scramblers and precoders run on (R313, R314). -/
def State.txMark (s : State) (k : Nat) : State :=
  match s.lanes.enabledAt with
  | none => s
  | some _ => { s with tx := (s.lanes.since, s.txSrc) :: s.tx, lanes := { s.lanes with since := max k s.lanes.since } }

end Sys2Proof.Machine
end

