-- ==== Sys2Proof/Machine/Panel.lean ====
section
/-! DEFINITION. Panel care: the supply sequences, the reference voltage, the fast discharge, the crack loop, the sideband and
the HOLD card (R336 to R355). -/

namespace Sys2Proof.Machine

/-- Values of PNL_STATUS.STATE (R336). -/
def pOFF : Nat := 0
def pUPSEQ : Nat := 1
def pTRAIN : Nat := 2
def pUP : Nat := 3
def pDOWN : Nat := 4
def pDISCHARGE : Nat := 5
def pFAULT : Nat := 6

/-- PNL_STATUS.STATE. -/
def State.pstate (s : State) : Nat := s.rd F.PNL_STATUS_STATE

/-- The panel is powered up or going up. -/
def State.panelOn (s : State) : Bool := s.pstate == pUPSEQ || s.pstate == pTRAIN || s.pstate == pUP

/-- The panel lanes carry the training output (R327). -/
def State.panelTrains (s : State) : Bool := s.pstate == pTRAIN

/-- Step 1 of the power-up sequence (R337). -/
def State.panelStart (s : State) : State :=
  State.wr { s with panel := { s.panel with enables := 1, discharge := false, code := 0, step := 1, since := s.clk.now, faulty := false } }
    F.PNL_STATUS_STATE pUPSEQ

/-- The wait of R340 after a PGOOD fault or a fast discharge has passed. [DEDUCED: log 94] -/
def State.panelWaited (s : State) : Bool := match s.panel.retryAt with | some t => decide (t ≤ s.clk.now) | none => true

/-- OFF or FAULT, AUTO is 1, OFF is committed as 0 and no crack fault is latched (R340). [DEDUCED: log 94] -/
def State.panelMay (s : State) : Bool :=
  (s.pstate == pOFF || s.pstate == pFAULT) && s.cm F.PNL_CTRL_AUTO == 1 && s.cm F.PNL_CTRL_OFF == 0 && s.rd F.PNL_STATUS_CRACK == 0
    && s.panelWaited

/-- A later power-up (R340): VIN_PANEL_SENSE must have been good for 50 rounds. -/
def State.panelTry (s : State) : State :=
  if s.panel.wanted && s.panelMay && decide (50 ≤ s.panel.vinRounds) then s.panelStart else s

/-- Step 13 of the boot timeline (R337). [DEDUCED: log 94] -/
def State.panelBoot (s : State) : State :=
  let s := { s with panel := { s.panel with wanted := true } }
  if s.panelMay then s.panelStart else s

/-- The highest enable that is asserted is deasserted (R338). [DEDUCED: log 95] -/
def dropEnable (e : Nat) : Nat :=
  if bitAt e 3 then clearBit e 3 else if bitAt e 2 then clearBit e 2 else if bitAt e 1 then clearBit e 1 else 0

/-- LANE_n_STAT.STATE of the panel lanes: 0 off, 1 in TRAIN (R327), 2 in RUN (R328). -/
def State.laneStates (s : State) (v : Nat) : State := s.each (List.range 48) (fun s n => s.wr (F.LANE_n_STAT_STATE n) v)

/-- The panel leaves TRAIN or UP: training output ends (R327), and failed STATUS reads count anew (R344). -/
def State.panelOff (s : State) : State :=
  let s := if s.pstate = pTRAIN then s.txMark s.slotNow else s
  let s := if s.pstate = pTRAIN ∨ s.pstate = pUP then s.laneStates 0 else s
  { s with panel := { s.panel with tempFails := 0, frozen := false } }

/-- The power-down sequence begins (R338, R339); causes 3 and 4 are faults. [DEDUCED: log 95] -/
def State.panelDown (s : State) (cause : Nat) : State :=
  if ¬ s.panelOn then s
  else
    let s := s.panelOff
    State.wr { s with panel := { s.panel with enables := dropEnable s.panel.enables, code := 0, since := s.clk.now, cause := cause,
                                              faulty := decide (3 ≤ cause) } }
      F.PNL_STATUS_STATE pDOWN

/-- Committed taps of the panel lanes become the live ones as TRAIN begins (R327). -/
def State.trainTaps (s : State) : State :=
  s.each (List.range 48) (fun s n =>
    (s.wr (F.LANE_n_TXACT_TAPS n) (s.cset.txffe n)).modLane n (fun _ => { LaneSt.reset with seed := some (s.cset.txffe n) }))

/-- Step 7 of R337: state TRAIN. -/
def State.panelTrain (s : State) : State :=
  let s := s.txMark s.slotNow
  let s := { s with panel := { s.panel with step := 7, trainAt := s.clk.now }, lanes := { s.lanes with trainSlot := s.slotNow } }
  ((((s.wr F.PNL_STATUS_STATE pTRAIN).wr F.LANE_BC_DONE0_DONE 0).wr F.LANE_BC_DONE1_DONE 0).trainTaps).laneStates 1

/-- Step 8 of R337: state UP, event 0xE00. -/
def State.panelUp (s : State) : State :=
  let s := s.txMark s.slotNow
  let s := { s with panel := { s.panel with step := 8 } }
  ((s.wr F.PNL_STATUS_STATE pUP).laneStates 2).raise 0xE00 bPNL (be (s.panel.ident.take 4)) ((s.clk.now - s.panel.trainAt) / 1000000)

/-- Lanes below LANES that have not reported DONE. -/
def State.lanesLeft (s : State) : Nat :=
  let done := s.rd F.LANE_BC_DONE0_DONE + s.rd F.LANE_BC_DONE1_DONE % 65536 * 2 ^ 32
  maskOf ((List.range (s.cm F.SCAN_STRIP_LANES)).filter (fun n => !bitAt done n))

/-- TRAIN ends once every lane below LANES has reported DONE (R327). -/
def State.trainCheck (s : State) : State := if s.panelTrains ∧ s.lanesLeft = 0 then s.panelUp else s

/-- LANE_BC.TIMEOUT_MS elapses in TRAIN (R327): event 0xD03, then state UP. -/
def State.trainTimeout (s : State) : State :=
  if ¬ s.panelTrains then s
  else
    let l := s.lanesLeft
    (s.raise 0xD03 bLANE (l % 2 ^ 32) (l / 2 ^ 32)).panelUp

/-- A sequence delay elapses (R337, R338): the next enable, TRAIN, the next enable off, or the discharge. -/
def State.panelStep (s : State) : State :=
  if s.pstate = pUPSEQ then
    if s.panel.step < 4 then
      { s with panel := { s.panel with enables := orBit s.panel.enables s.panel.step, step := s.panel.step + 1 } }
    else if s.panel.step = 6 then s.panelTrain
    else s
  else if s.pstate = pDOWN then
    if s.panel.enables ≠ 0 then { s with panel := { s.panel with enables := dropEnable s.panel.enables } }
    else State.wr { s with panel := { s.panel with discharge := true } } F.PNL_STATUS_PGOOD 0
  else s

/-- PNL_DISCHARGE ends (R338, R346): OFF or FAULT with event 0xE01; after a fast discharge OFF, with event 0xE06 once the event
path is up, and the wait of R340. [DEDUCED: log 95] -/
def State.dischargeEnd (s : State) : State :=
  if ¬ s.panel.discharge then s
  else
    let wait := s.panel.fast.isSome || s.panel.cause == 3
    let s := { s with panel := { s.panel with discharge := false, retryAt := if wait then some (s.clk.now + 10000000000) else s.panel.retryAt } }
    match s.panel.fast with
    | some trig =>
      let s := s.wr F.PNL_STATUS_STATE pOFF
      if s.running then
        let s := { s with panel := { s.panel with fast := none } }
        (s.raise 0xE06 bPNL trig (s.rd F.PNL_VHOLD_MV)).panelTry
      else s
    | none =>
      let s := s.wr F.PNL_STATUS_STATE (if s.panel.faulty then pFAULT else pOFF)
      (s.raise 0xE01 bPNL s.panel.cause s.panel.step).panelTry

/-- A fast discharge that ended during a reset is reported when the event path is up again (R346). [DEDUCED: log 93] -/
def State.fastReport (s : State) : State :=
  match s.panel.fast with
  | some trig =>
    if s.panel.discharge then s
    else State.raise { s with panel := { s.panel with fast := none } } 0xE06 bPNL trig (s.rd F.PNL_VHOLD_MV)
  | none => s

/-- The fast path (R346), for trigger 1 VIN, 2 monitor, 3 crack. [DEDUCED: log 93] -/
def State.panelFast (s : State) (trigger : Nat) : State :=
  if s.panel.fast.isSome ∧ s.panel.discharge then s
  else
    let s := s.panelOff
    let p := { s.panel with enables := 0, discharge := true, code := 0, since := s.clk.now, fast := some trigger, faulty := false }
    (State.wr { s with panel := p } F.PNL_STATUS_STATE pDISCHARGE).wr F.PNL_STATUS_PGOOD 0

/-- VIN_PANEL_SENSE has been below THR_MV for 300 ns (R346). -/
def State.vinTrip (s : State) : State :=
  State.panelFast (State.wr { s with panel := { s.panel with vinRounds := 0 } } F.PNL_STATUS_VIN_OK 0) 1

/-- The wait of R340 ends. -/
def State.panelRetry (s : State) : State := if s.panelWaited then s.panelTry else s

/-- The reference waveform runs: from step 6 of R337 to the power-down. -/
def State.vrefRuns (s : State) : Bool :=
  (s.pstate == pUPSEQ && s.panel.step == 6) || s.pstate == pTRAIN || s.pstate == pUP

/-- The code of a point (R342): 0 without a table. -/
def PanelSt.codeAt (p : PanelSt) (band k : Nat) : Nat := ((p.codes[band]?).getD []).getD k 0

/-- Point `k` of the band in force is output (R343). -/
def State.vrefOut (s : State) (k : Nat) : State :=
  State.wr { s with panel := { s.panel with code := s.panel.codeAt (s.rd F.PNL_STATUS_BAND) k } } F.PNL_VREF_STAT_POINT k

/-- A frame start at `at_` (R343, R344): the pending band takes force with event 0xE03, and point 0 is output; PNL_VREF_OUT is driven
while the device owns the panel (R341). [DEDUCED: log 93] -/
def State.frameStart (s : State) (at_ period : Nat) (owns : Bool) : State :=
  let s := State.wr { s with panel := { s.panel with startAt := at_, period := period } } F.PNL_STATUS_VREF_DRV (b2n owns)
  if ¬ s.vrefRuns then s
  else
    let old := s.rd F.PNL_STATUS_BAND
    let new := s.rd F.PNL_STATUS_PEND
    let s := if old = new then s
      else (s.wr F.PNL_STATUS_BAND new).raise 0xE03 bPNL (old + 256 * new) (s.rd F.PNL_VREF_STAT_TEMP)
    State.vrefOut { s with panel := { s.panel with waves := true } } 0

/-- When point `k` of the waveform is output (R343): S + ⌊k × T / 64⌋ ns, T in whole ns; point 0 of the next waveform comes one T after S. -/
def PanelSt.pointAt (p : PanelSt) (k : Nat) : Nat :=
  if k = 0 then p.startAt + p.period else p.startAt + k * ((p.period + 32768) / 65536) / 64 * 65536

/-- Point `k` falls due (R343), once its time has come and after the points before it. Point 0 is a frame start of its own only before pound 0. [DEDUCED: log 93] -/
def State.vrefPoint (s : State) (k : Nat) : State :=
  if ¬ s.vrefRuns ∨ 64 ≤ k ∨ s.dev + 65536 ≤ s.panel.pointAt k then s
  else if k = 0 then (if s.lock.everOpened then s else s.frameStart (s.panel.pointAt 0) s.cset.period (s.ownsBy s.cset))
  else if s.panel.waves ∧ s.rd F.PNL_VREF_STAT_POINT < k then s.vrefOut k
  else s

/-- The pending band rises, 1.5 °C above the bounds (R344). [DEDUCED: log 96] -/
def bandUp (lo : List Int) (t : Int) : Nat → Nat → Nat
  | 0, p => p
  | n + 1, p => if p < 7 ∧ (lo.getD (p + 1) 0) + 24 ≤ t then bandUp lo t n (p + 1) else p

/-- The pending band falls, 1.5 °C below the bounds (R344). -/
def bandDown (lo : List Int) (t : Int) : Nat → Nat → Nat
  | 0, p => p
  | n + 1, p => if 0 < p ∧ t < lo.getD p 0 - 24 then bandDown lo t n (p - 1) else p

/-- The pending band at temperature `t`; 0 without a table. -/
def pendBand (lo : List Int) (t : Int) (pend : Nat) : Nat :=
  if lo = [] then 0 else bandDown lo t 7 (bandUp lo t 7 pend)

/-- A sideband transaction that failed (R352): counted, event 0xE09. [DEDUCED: log 96] -/
def State.sbFail (s : State) (cs addr : Nat) : State := (s.inc F.PNL_SB_CNT_FAIL).raiseOnce 0xE09 bPNL 0 cs addr

/-- A sideband transaction that completed. -/
def State.sbOk (s : State) : State := s.inc F.PNL_SB_CNT_OK

/-- What a sideband read of `len` bytes answers (R349): data, then CRC-16 over it; none where the read fails (R352). [DEDUCED: log 96] -/
def sbData (len : Nat) (b : List Byte) : Option (List Byte) :=
  if b.length < len + 2 ∨ (crc16 (b.take len)).toNat ≠ beAt b len 2 then none else some (b.take len)

/-- A sideband write as the device sends it (R349): OP, ADDR, LEN, data, CRC-16 over all of them. [DEDUCED: log 96] -/
def sbWrite (addr : Nat) (d : List Byte) : List Byte :=
  let m := beBytes 1 2 ++ beBytes 1 addr ++ beBytes 2 d.length ++ d
  m ++ beBytes 2 (crc16 m).toNat

/-- The header of a sideband read as the device sends it (R349): OP, ADDR, LEN. -/
def sbRead (addr len : Nat) : List Byte := beBytes 1 1 ++ beBytes 1 addr ++ beBytes 2 len

/-- The device sends a read on chip select `cs` (R349, R350). -/
def State.sbAsk (s : State) (cs addr len : Nat) : State :=
  { s with lanes := { s.lanes with asked := modAt s.lanes.asked cs (fun _ => sbRead addr len) } }

/-- A STATUS read (R344, R350, R352): TEMP and FLAGS with their CRC; `round` where it is that of a housekeeping round, whose failures are
counted. -/
def State.panelStatus (s : State) (round : Bool) (status : List Byte) : State :=
  let s := s.sbAsk 0 0x10 4
  match sbData 4 status with
  | some d =>
    let t : Int := signed 16 (beAt d 0 2)
    let flags := beAt d 2 2
    let s := s.sbOk.wr F.PNL_VREF_STAT_TEMP (unsigned 16 t)
    let s := { s with panel := { s.panel with tempFails := 0, frozen := false } }
    let s := s.wr F.PNL_STATUS_PEND (pendBand s.panel.bounds t (s.rd F.PNL_STATUS_PEND))
    if bitAt flags 0 then s.raise 0xE0A bPNL flags s.pound else s
  | none =>
    let s := s.sbFail 0 0x10
    if ¬ round then s else
    let n := s.panel.tempFails + 1
    let s := { s with panel := { s.panel with tempFails := min n 3, frozen := decide (3 ≤ n) } }
    if n = 3 then s.raise 0xE04 bPNL (s.rd F.PNL_STATUS_BAND) s.pound else s

/-- The STATUS read of a housekeeping round; the sideband runs only while the panel is powered. [DEDUCED: log 96] -/
def State.roundStatus (s : State) (status : List Byte) : State := if s.vrefRuns then s.panelStatus true status else s

/-- PNL_PGOOD has been held for 1 ms (R337): step 6 reads ID and STATUS, and the waveform starts at the next frame start; until pound 0 frame starts
are a period apart from now (R343). -/
def State.pgoodAssert (s : State) (ident status : List Byte) : State :=
  let s := s.wr F.PNL_STATUS_PGOOD 1
  if s.pstate = pUPSEQ ∧ s.panel.step = 4 then
    let s := s.sbAsk 0 0x00 8
    let s := match sbData 8 ident with
      | some b => State.sbOk { s with panel := { s.panel with ident := b } }
      | none => s.sbFail 0 0x00
    let s := s.panelStatus false status
    { s with panel := { s.panel with step := 6, startAt := s.dev, period := s.cset.period, waves := false } }
  else s

/-- PNL_PGOOD did not come in time (R339). -/
def State.pgoodTimeout (s : State) : State :=
  if s.pstate = pUPSEQ ∧ s.panel.step = 4 then (s.raise 0xE02 bPNL 1 s.pound).panelDown 3 else s

/-- PNL_PGOOD has been deasserted for 100 µs (R339). [DEDUCED: log 95] -/
def State.pgoodLost (s : State) : State :=
  let s := s.wr F.PNL_STATUS_PGOOD 0
  if s.pstate = pTRAIN ∨ s.pstate = pUP then (s.raise 0xE02 bPNL 2 s.pound).panelDown 3 else s

/-- PNL_VREF_SENSE of a round (R345), compared with the code output now. -/
def State.vrefSense (s : State) (code : Int) : State :=
  let diff := (code - (s.panel.code : Int)).natAbs
  let n := if s.cm F.PNL_VREF_CFG_TOL < diff then s.panel.deviate + 1 else 0
  let s := { s with panel := { s.panel with deviate := min n 3 } }
  if n = 3 then
    let s := s.raise 0xE05 bPNL s.panel.code (unsigned 16 code)
    if s.cm F.PNL_VREF_CFG_ALERT = 1 then s.alert F.TOP_ALERT_VREF else s
  else s

/-- VHOLD of a round (R347). -/
def State.vholdSense (s : State) (mv : Nat) : State :=
  let s := s.wr F.PNL_VHOLD_MV (satN 65535 mv)
  let low := decide (mv < s.cm F.PNL_DIS_MIN_MV)
  let was := s.rd F.PNL_STATUS_VHOLD_LOW
  let s := s.wr F.PNL_STATUS_VHOLD_LOW (b2n low)
  if low ∧ was = 0 then s.raise 0xE07 bPNL mv (s.cm F.PNL_DIS_MIN_MV) else s

/-- VIN_PANEL_SENSE of a round (R340). -/
def State.vinSense (s : State) (mv : Nat) : State :=
  let thr := s.cm F.PNL_VIN_THR_MV
  let good := decide (thr + s.cm F.PNL_VIN_HYST_MV < mv)
  let s := { s with panel := { s.panel with vinRounds := if good then min 50 (s.panel.vinRounds + 1) else 0 } }
  s.wr F.PNL_STATUS_VIN_OK (b2n (decide (thr < mv)))

/-- Crack checking runs (R348): EN is committed as 1 and step 7 of R102 has ended. -/
def State.crackRuns (s : State) : Bool := s.panel.crackOn && s.cm F.PNL_CRACK_EN == 1

/-- The crack loop in a round (R348): the level driven is the opposite of the last one, `level` is what is sampled. -/
def State.crackSample (s : State) (level : Bool) : State :=
  if ¬ s.crackRuns then s
  else
    let out := !s.panel.crackOut
    if level ≠ out then
      { s with panel := { s.panel with crackOut := out, misses := s.panel.misses + 1, matched := (false, false) } }
    else
      let m := if out then (true, s.panel.matched.2) else (s.panel.matched.1, true)
      let both := m.1 && m.2
      { s with panel := { s.panel with crackOut := out, misses := if both then 0 else s.panel.misses, matched := m } }

/-- The miss count has reached COUNT (R348): the fault is latched and acts. -/
def State.crackLatch (s : State) : State :=
  if ¬ s.crackRuns ∨ s.rd F.PNL_STATUS_CRACK = 1 ∨ s.panel.misses < s.cm F.PNL_CRACK_COUNT then s
  else
    let a := s.cm F.PNL_CRACK_ACTION
    let s := (s.wr F.PNL_STATUS_CRACK 1).raise 0xE08 bPNL s.panel.misses a
    if a = 1 then s.alert F.TOP_ALERT_CRACK
    else if a = 2 then s.panelDown 4
    else if a = 3 then s.panelFast 3
    else s

/-- A write of PNL_CRACK_CLR (R348). -/
def State.crackClear (s : State) (v : Nat) : State :=
  if bitAt v 0 then
    State.panelTry (State.wr { s with panel := { s.panel with misses := 0, matched := (false, false) } } F.PNL_STATUS_CRACK 0)
  else s

/-- The slot carries no rows: requests are applied within 2 µs (R328). -/
def State.noRows (s : State) : Bool := !s.scan.kind.rows

/-- Request records of a sideband answer (R349, R350): CNT records, then the CRC over CNT and the records; none where the read
fails. -/
def sbRecords (b : List Byte) : Option (List (List Byte)) :=
  let n := beAt b 0 1
  let len := 1 + 8 * n
  if b = [] ∨ 12 < n ∨ b.length < len + 2 then none
  else if (crc16 (b.take len)).toNat ≠ beAt b len 2 then none
  else some ((List.range n).map (fun i => slice b (1 + 8 * i) 8))

/-- The requests of a read in order (R326): their status records. -/
def State.requests (s : State) (train : Bool) (cs : Nat) : List (List Byte) → State × List Byte
  | [] => (s, [])
  | b :: l =>
    let r := s.request train cs b
    let q := r.1.requests train cs l
    (q.1, r.2 ++ q.2)

/-- One chip select of a poll round (R351, R352): `answer` is the byte the panel returns to the status write, 0x5A to accept. -/
def State.pollOne (s : State) (cs : Nat) (b : List Byte) (answer : Byte) : State :=
  let s := s.sbAsk cs 0x20 97
  match sbRecords b with
  | none => s.sbFail cs 0x20
  | some recs =>
    let s := s.sbOk
    let r := s.requests s.panelTrains cs recs
    let s := r.1
    if recs = [] then s
    else
      let s := { s with lanes := { s.lanes with written := modAt s.lanes.written cs (fun _ => sbWrite 0x30 r.2) } }
      if answer = 0x5A#8 then s.sbOk else s.sbFail cs 0x30

/-- A poll round over the four chip selects (R351); in TRAIN it may end the training (R327). [DEDUCED: log 96; DESIGN CHOICE: log 125] -/
def State.sidebandPoll (s : State) (reads : List (List Byte)) (accepts : List Byte) : State :=
  if s.pstate ≠ pTRAIN ∧ s.pstate ≠ pUP then s
  else
    let s := s.each (List.range 4) (fun s c => s.pollOne c (reads.getD c []) (accepts.getD c 0#8))
    if s.panelTrains then s.trainCheck
    else if s.noRows then s.bcApply
    else s

/-- The HOLD_CARD table as read (R353, R354): the palette word that every view of hogel (hx, hy) shows. -/
def cardWord (t : List Byte) (hx hy : Nat) : Nat :=
  let pal (i : Nat) : Nat := leAt t (16 + 4 * i) 4
  let sc := max 1 (leAt t 2 1)
  let w := leAt t 4 2
  let h := leAt t 6 2
  let ox := leAt t 8 2
  let oy := leAt t 10 2
  if t = [] then 0
  else if hx < ox ∨ hy < oy then pal 0
  else
    let x := (hx - ox) / sc
    let y := (hy - oy) / sc
    if w ≤ x ∨ h ≤ y then pal 0 else pal (leAt t (1040 + y * w + x) 1)

/-- A CARD slot of the blink count (R355): whether it shows the card. -/
def State.blinkSlot (s : State) (cs : CSet) : Bool × State :=
  let cfg := (cs.fld F.PNL_HOLD_BLINK_ON, cs.fld F.PNL_HOLD_BLINK_OFF)
  let n := if s.panel.inHold ∧ s.panel.blinkCfg = cfg then s.panel.blink else 0
  let show_ := cfg.2 == 0 || decide (n % (cfg.1 + cfg.2) < cfg.1)
  (show_, { s with panel := { s.panel with blink := n + 1, blinkCfg := cfg, inHold := true } })

/-- The lock cycle has opened (R338, R340). -/
def State.panelOpen (s : State) : State := if s.cm F.PNL_CTRL_OFF = 1 then s.panelDown 1 else s.panelTry

/-- Any reset (R80, R338): the power-down sequence runs, crack checking stops, power-up waits for step 13. A device in reset owns no panel, so it
drives no reference (R341). [DEDUCED: log 97] -/
def State.panelReset (s : State) : State :=
  let s := (s.panelDown 2).wr F.PNL_STATUS_VREF_DRV 0
  { s with panel := { s.panel with wanted := false, crackOn := false } }

end Sys2Proof.Machine
end

