-- ==== Sys2Proof/Machine/Lz.lean ====
section
/-! DEFINITION. The dictionary compression engine: block format, contexts, jobs, stops and suspensions (R415 to R428). -/

namespace Sys2Proof.Machine

/-- Copy `n` bytes from `off` bytes back, one at a time (R417); the stream is newest byte first. -/
def lzCopy (off : Nat) : Nat → List Byte → List Byte
  | 0, rev => rev
  | n + 1, rev => lzCopy off n (rev.getD (off - 1) 0#8 :: rev)

/-- Decode tokens (R417): the stream newest first, bytes made so far, bytes wanted. The answer is a cause of R418 or the stream. -/
def lzTokens : Nat → List Byte → Nat → Nat → List Byte → Nat ⊕ List Byte
  | 0, rev, made, olen, body => if body = [] ∧ made = olen then .inr rev else .inl 1
  | _ + 1, rev, made, olen, [] => if made = olen then .inr rev else .inl 1
  | k + 1, rev, made, olen, b :: r =>
    let x := b.toNat
    if x < 128 then
      let n := x + 1
      if r.length < n ∨ olen < made + n then .inl 1 else lzTokens k ((r.take n).reverse ++ rev) (made + n) olen (r.drop n)
    else
      let ext := if x < 192 then 0 else 1
      let n := if x < 192 then x % 64 + 3 else 67 + x % 64 * 256 + beAt r 0 1
      let off := leAt r ext 2 + 1
      if r.length < ext + 2 ∨ olen < made + n then .inl 1
      else if min 65536 rev.length < off then .inl 2
      else lzTokens k (lzCopy off n rev) (made + n) olen (r.drop (ext + 2))

/-- Decode a token body after a history (R417): the bytes produced, or a cause. -/
def lzBody (hist : List Byte) (olen : Nat) (body : List Byte) : Nat ⊕ List Byte :=
  match lzTokens body.length hist.reverse 0 olen body with
  | .inl c => .inl c
  | .inr rev => .inr (rev.take olen).reverse

/-- A history after further bytes (R415). -/
def lzHist (hist made : List Byte) : List Byte := lastN 65536 (hist ++ made)

/-- CRC-32C of bytes as a number. -/
def lzCrc (l : List Byte) : Nat := (crc32c l).toNat

/-- A block of `data` after a history (R416, R419), and whether it is RAW. [DESIGN CHOICE: log 105] -/
def lzEncode (hist data : List Byte) (first last : Bool) : List Byte × Bool :=
  let h := if first then [] else hist
  let t := Config.lzTokens h data
  let fits : Bool := decide (t.length < data.length) && (match lzBody h data.length t with | .inr d => d == data | .inl _ => false)
  let body := if fits then t else data
  (leBytes 1 (b2n (!fits) + 2 * b2n first + 4 * b2n last) ++ leBytes 3 0 ++ leBytes 4 data.length ++ leBytes 4 body.length
     ++ leBytes 4 (lzCrc data) ++ body, !fits)

/-- What decoding the next block of a source gives (R416, R418, R424). -/
inductive LzNext where
  /-- the source is all used -/
  | done
  /-- the source ends inside a header or body -/
  | short
  /-- malformed, with its cause -/
  | bad (cause : Nat)
  /-- the block: bytes it takes, bytes it makes, LAST -/
  | block (used : Nat) (made : List Byte) (hist : List Byte) (last : Bool)
  deriving DecidableEq, Repr

/-- Decode the block at the head of `src` in a context (R415 to R418). -/
def lzDecode (c : LzCtx) (src : List Byte) : LzNext :=
  if src = [] then .done
  else if src.length < 16 then .short
  else
    let flags := leAt src 0 1
    let olen := leAt src 4 4
    let clen := leAt src 8 4
    let raw := bitAt flags 0
    let first := bitAt flags 1
    if 8 ≤ flags ∨ leAt src 1 3 ≠ 0 ∨ (¬ first ∧ c.st ≠ 1) then .bad 4
    else if olen = 0 ∨ 65536 < olen ∨ clen = 0 ∨ (raw ∧ clen ≠ olen) ∨ (¬ raw ∧ olen ≤ clen) then .bad 3
    else if src.length < 16 + clen then .short
    else
      let h := if first then [] else c.hist
      let body := slice src 16 clen
      match (if raw then (.inr body : Nat ⊕ List Byte) else lzBody h olen body) with
      | .inl k => .bad k
      | .inr d => if lzCrc d ≠ leAt src 12 4 then .bad 5 else .block (16 + clen) d (lzHist h d) (bitAt flags 2)

/-- A sequence context. -/
def LzSt.ctx (l : LzSt) (q : Nat) : LzCtx := (l.ctxs[q]?).getD { st := 0, hist := [], saved := none }

/-- Replace a context. -/
def LzSt.setCtx (l : LzSt) (q : Nat) (c : LzCtx) : LzSt := { l with ctxs := modAt l.ctxs q (fun _ => c) }

/-- Queue `q`. -/
def LzSt.queue (l : LzSt) (q : Nat) : List LzJob := (l.queues[q]?).getD []

/-- The class of the moorings that a queue's jobs lie in (R263): TOW for the towpath's, SCRATCH for the log's. [DESIGN CHOICE: log 105] -/
def lzClass (q : Nat) : Nat := if q = 2 then cSCRATCH else cTOW

/-- A job as its user hands it over (R420): FIRST and LAST are set; its ranges are those of the moorings it is given. -/
def lzNew (queue : Nat) (decode : Bool) (block space : Nat) (tag : LzTag) : LzJob :=
  { queue := queue, decode := decode, first := true, last := true, block := block, srcM := [], len := 0, dstM := [], space := space, used := 0, made := 0,
    blocks := 0, tag := tag }

/-- Whether queue `q` takes a further job (R420): it has 16 entries, and source and destination lie in the Basin. -/
def State.lzOpen (s : State) (q : Nat) : Bool := decide ((s.lz.queue q).length < 16) && s.rd F.BASIN_STATUS_READY == 1

/-- Allocate `n` moorings of a class for a user, all or none. -/
def State.allocs (s : State) (cls n : Nat) : Option (List Nat) × State :=
  match s.basin.allocMany cls (s.classOrder cls) (s.cm F.BASIN_RSV_PKT) .held n with
  | some (l, b) => (some l, State.noteFree { s with basin := b })
  | none => (none, s.allocFail cls)

/-- A job enters its queue (R420): of its moorings `l` the first hold its source bytes, the others its destination range. -/
def State.lzQueue (s : State) (j : LzJob) (src : List Byte) (l : List Nat) : State :=
  let n := ceilDiv src.length moorSize
  let j := { j with srcM := l.take n, len := src.length, dstM := l.drop n }
  { s with basin := s.basin.writeList j.srcM src 0, lz := { s.lz with queues := modAt s.lz.queues j.queue (fun l => l ++ [j]) } }

/-- Hand a job with its source bytes to its queue (R420): false where it cannot be taken. [DESIGN CHOICE: log 105] -/
def State.lzSubmit (s : State) (j : LzJob) (src : List Byte) : Bool × State :=
  if ¬ s.lzOpen j.queue then (false, s)
  else
    match s.allocs (lzClass j.queue) (ceilDiv src.length moorSize + ceilDiv j.space moorSize) with
    | (none, s) => (false, s)
    | (some l, s) => (true, s.lzQueue j src l)

/-- What is left of a job's source range. -/
def State.lzSrc (s : State) (j : LzJob) : List Byte := s.basin.readList j.srcM j.used (j.len - j.used)

/-- A whole block enters the destination range (R424): `used` source bytes became `d`. -/
def State.lzPut (s : State) (j : LzJob) (used : Nat) (d : List Byte) : State × LzJob :=
  ({ s with basin := s.basin.writeList j.dstM d j.made }, { j with used := j.used + used, made := j.made + d.length, blocks := j.blocks + 1 })

/-- A job's ranges are free again. -/
def State.lzFree (s : State) (j : LzJob) : State := s.each (j.srcM ++ j.dstM) (fun s m => s.freeMoor false m)

/-- The first queue with work. -/
def LzSt.ready (l : LzSt) : Option (Nat × LzJob) :=
  (List.range 3).findSome? (fun q => (l.queue q).head?.map (fun j => (q, j)))

/-- STATUS values (R422). -/
def lzDONE : Nat := 0
def lzFULL : Nat := 1
def lzSHORT : Nat := 2
def lzERROR : Nat := 3
def lzBADJOB : Nat := 4
def lzABANDONED : Nat := 5

/-- The running job ends with a STATUS (R422): LZ_LAST, the counters and the context; its record goes to its user. -/
def State.lzEnd (s : State) (j : LzJob) (status : Nat) : State × Option LzRec :=
  let s := ((s.wr F.LZ_LAST_BLOCKS (satN 65535 j.blocks)).wr F.LZ_LAST_QUEUE j.queue).wr F.LZ_LAST_STATUS status
  let s := if status = lzERROR then s.inc F.LZ_ERR_CNT_ERROR
    else if status = lzBADJOB then s.inc F.LZ_ERR_CNT_BADJOB
    else if status = lzABANDONED then s.inc F.LZ_ERR_CNT_ABANDONED
    else if status = lzDONE then s
    else s.inc F.LZ_STOP_CNT_STOPS
  let c := s.lz.ctx j.queue
  let lz := if status = lzERROR ∨ status = lzABANDONED then s.lz.setCtx j.queue { c with st := 3 }
    else if status = lzFULL ∨ status = lzSHORT then s.lz.setCtx j.queue { c with st := 1 }
    else s.lz
  let out := s.basin.readList j.dstM 0 j.made
  (State.lzFree { s with lz := { lz with run := none } } j, some { job := j, status := status, out := out })

/-- The SCRATCH mooring is freed once no context is saved (R423). -/
def State.lzFreeScratch (s : State) : State :=
  match s.lz.scratch with
  | some m =>
    if s.lz.ctxs.any (fun c => c.st == 2) then s
    else State.freeMoor { s with lz := { s.lz with scratch := none } } false m
  | none => s

/-- Where context `q` lies in the SCRATCH mooring (R423): 64 KiB of history, then 64 bytes of state. [DESIGN CHOICE: log 105] -/
def lzPlace (q : Nat) : Nat := 65600 * q

/-- A context is saved to the SCRATCH mooring (R423): its history, and 64 bytes of state whose form is open. [DESIGN CHOICE: log 105] -/
def State.lzSave (s : State) (q m : Nat) : State :=
  let c := s.lz.ctx q
  let (x, s) := s.chooseNat
  { s with basin := (s.basin.writeList [m] c.hist (lzPlace q)).writeList [m] (leBytes 64 x) (lzPlace q + 65536),
           lz := s.lz.setCtx q { st := 2, hist := [], saved := some c.hist.length } }

/-- The history of a suspended context: that on the die, or that read back from the SCRATCH mooring (R423, R427). -/
def State.lzSaved (s : State) (q : Nat) : List Byte :=
  let c := s.lz.ctx q
  match c.saved, s.lz.scratch with
  | some n, some m => s.basin.readList [m] (lzPlace q) n
  | _, _ => c.hist

/-- The engine takes the head job of the highest queue with work (R421, R423, R427). [DESIGN CHOICE: log 105] -/
def State.lzStart (s : State) : State × Option LzRec :=
  if s.lz.run.isSome ∨ ¬ s.basinReady then (s, none)
  else
    match s.lz.ready with
    | none => (s, none)
    | some (q, j) =>
      let lz := { s.lz with queues := modAt s.lz.queues q (fun l => l.drop 1) }
      let c := lz.ctx q
      if c.st = 2 then
        let h := s.lzSaved q
        (State.lzFreeScratch { s with lz := { lz.setCtx q { st := if h = [] then 0 else 1, hist := h, saved := none } with run := some j, onDie := false } }, none)
      else if j.len = 0 ∨ j.block = 0 ∨ (¬ j.decode ∧ ¬ j.first ∧ c.st ≠ 1) then
        State.lzEnd { s with lz := lz } j lzBADJOB
      else
        let lz := if j.decode ∨ ¬ j.first then lz else lz.setCtx q { st := 1, hist := [], saved := none }
        ({ s with lz := { lz with run := some j } }, none)

/-- Whether the next block of what is left of a job's source cannot enter its destination (R424). -/
def LzJob.stops (j : LzJob) (c : LzCtx) (src : List Byte) : Bool :=
  let left := j.space - j.made
  if j.decode then
    (match lzDecode c src with | .block _ d _ _ => decide (left < d.length) | .short => true | .done => false | .bad _ => false)
  else
    let d := src.take j.block
    let b := (lzEncode c.hist d (j.first && j.blocks == 0) (j.last && d.length == src.length)).1
    src ≠ [] && decide (left < b.length)

/-- A job goes on after a block, or is set aside for a higher queue or for self-refresh (R423, R427). -/
def State.lzContinue (s : State) (j : LzJob) : State × Option LzRec :=
  let c := s.lz.ctx j.queue
  let back (s : State) : State :=
    let s := s.inc F.LZ_STOP_CNT_SUSPENDS
    { s with lz := { s.lz with run := none, queues := modAt s.lz.queues j.queue (fun l => j :: l) } }
  let higher : Bool := (List.range j.queue).any (fun q => s.lz.queue q ≠ [])
  if j.stops c (s.lzSrc j) then s.lzEnd j (if j.decode then (match lzDecode c (s.lzSrc j) with | .short => lzSHORT | _ => lzFULL) else lzFULL)
  else if ¬ s.basinReady then (back { s with lz := { s.lz.setCtx j.queue { c with st := 2 } with onDie := true } }, none)
  else if higher then
    match s.lz.scratch with
    | some m => (back (s.lzSave j.queue m), none)
    | none =>
      match s.alloc cSCRATCH with
      | (some m, s) => (back (State.lzSave { s with lz := { s.lz with scratch := some m } } j.queue m), none)
      | (none, s) => ({ s with lz := { s.lz with run := some j } }, none)
  else ({ s with lz := { s.lz with run := some j } }, none)

/-- Bytes counted in units of 256. -/
def State.lzCount (s : State) (inn out : Nat) : State :=
  let i := s.lz.inRem + inn
  let o := s.lz.outRem + out
  let s := { s with lz := { s.lz with inRem := i % 256, outRem := o % 256 } }
  (s.add F.LZ_ENC_IN_COUNT (i / 256)).add F.LZ_ENC_OUT_COUNT (o / 256)

/-- An encoded block (R419, R424, R426). [DESIGN CHOICE: log 105] -/
def State.lzEncodeBlock (s : State) (j : LzJob) (verifyBad : Bool) : State × Option LzRec :=
  let c := s.lz.ctx j.queue
  let src := s.lzSrc j
  let d := src.take j.block
  let isLast := j.last && d.length == src.length
  let (b, raw) := lzEncode c.hist d (j.first && j.blocks == 0) isLast
  if verifyBad ∧ s.cm F.LZ_CTRL_VERIFY = 1 then (s.raise 0x122 bLZ j.queue j.blocks).lzEnd j lzERROR
  else if j.space - j.made < b.length then s.lzEnd j lzFULL
  else
    let s := (if raw then s.inc F.LZ_BLK_CNT_RAW else s.inc F.LZ_BLK_CNT_PACKED).lzCount d.length b.length
    let h := if j.first && j.blocks == 0 then [] else c.hist
    let c := if isLast then { st := 0, hist := [], saved := none } else { st := 1, hist := lzHist h d, saved := none }
    let (s, j) := s.lzPut j d.length b
    let s := { s with lz := s.lz.setCtx j.queue c }
    if j.used = j.len then s.lzEnd j lzDONE else s.lzContinue j

/-- A decoded block (R418, R422, R424). -/
def State.lzDecodeBlock (s : State) (j : LzJob) : State × Option LzRec :=
  let c := s.lz.ctx j.queue
  match lzDecode c (s.lzSrc j) with
  | .done => s.lzEnd j lzDONE
  | .short => s.lzEnd j lzSHORT
  | .bad k => (s.raise 0x120 bLZ (j.queue + 256 * k) j.blocks).lzEnd j lzERROR
  | .block used d h last =>
    if j.space - j.made < d.length then s.lzEnd j lzFULL
    else
      let c := if last then { st := 0, hist := [], saved := none } else { st := 1, hist := h, saved := none }
      let (s, j) := s.lzPut j used d
      let s := { s with lz := s.lz.setCtx j.queue c }
      if j.used = j.len then s.lzEnd j lzDONE else s.lzContinue j

/-- A block boundary of the running job. `fault`: 1 an uncorrectable Basin read (R272), 2 a device fault that the check of R426
finds. -/
def State.lzBlockDone (s : State) (fault : Nat) : State × Option LzRec :=
  match s.lz.run with
  | none => (s, none)
  | some j =>
    if fault = 1 then (s.raise 0x121 bLZ j.queue j.blocks).lzEnd j lzABANDONED
    else if j.decode then s.lzDecodeBlock j
    else s.lzEncodeBlock j (fault == 2)

/-- A reset of the engine's block (R45, R421): its contexts are EMPTY, its jobs are gone, and records that a log job held wait again. [DESIGN CHOICE: log 105] -/
def State.lzReset (s : State) : State :=
  let jobs := s.lz.run.toList ++ s.lz.queues.flatten
  let s := (s.each jobs State.lzFree).each s.lz.scratch.toList (fun s m => s.freeMoor false m)
  { s with lz := { s.lz with queues := [[], [], []], run := none, ctxs := List.replicate 3 { st := 0, hist := [], saved := none }, scratch := none, onDie := false },
           mgmt := if jobs.any (fun j => j.queue == 2) then { s.mgmt with unlogged := s.mgmt.logJob ++ s.mgmt.unlogged, logJob := [] } else s.mgmt }

/-- LZ_STATUS (R421, R423). -/
def LzSt.status (l : LzSt) : Nat :=
  (match l.run with | some j => j.queue | none => 7) + b2n l.scratch.isSome * 2 ^ 15 + (l.ctx 0).st * 2 ^ 16 + (l.ctx 1).st * 2 ^ 18
    + (l.ctx 2).st * 2 ^ 20

/-- LZ_QDEPTH. -/
def LzSt.depth (l : LzSt) : Nat := (l.queue 0).length + (l.queue 1).length * 2 ^ 5 + (l.queue 2).length * 2 ^ 10

end Sys2Proof.Machine
end

