-- ==== Sys2Proof/Machine/Transmit.lean ====
section
/-! DEFINITION. What the serial lanes send and check: pixels and rows (R26, R296 to R298, R302, R305), row headers, towpath messages, IDLE and ALIGN
blocks in their block slots (R315 to R318, R396), generators and inserted errors (R327, R331 to R335), scrambling, precoding and levels (R312 to R314),
and the checkers (R334). -/

namespace Sys2Proof.Machine

/-- 8 bits of a 10-bit colour, rounding half up (R297). -/
def c8 (c : Nat) : Nat := min 255 ((c + 2) >>> 2)

/-- A pixel as sent (R297); CONC is never sent. -/
def pix (bpp24 : Bool) (w : Nat) : Nat :=
  if bpp24 then c8 (bitsOf w 29 20) * 2 ^ 16 + c8 (bitsOf w 19 10) * 2 ^ 8 + c8 (bitsOf w 9 0) else w % 2 ^ 30

/-- 24 bpp is committed. -/
def CSet.bpp24 (c : CSet) : Bool := c.fld F.SCAN_FMT_BPP24 == 1

/-- Bits per pixel. -/
def CSet.bpp (c : CSet) : Nat := if c.bpp24 then 24 else 30

/-- Pixels of a lane strip (R296). -/
def CSet.stripPx (c : CSet) : Nat := c.fld F.SCAN_HPORCH_HBP + c.fld F.SCAN_STRIP_STRIP_ACT + c.fld F.SCAN_HPORCH_HFP

/-- Active rows (R298). -/
def CSet.vact (c : CSet) : Nat := c.geom.rows * c.geom.vrows

/-- Total rows of a frame (R300). -/
def CSet.totalRows (c : CSet) : Nat :=
  c.vact + c.fld F.SCAN_VPORCH_VFP + c.fld F.SCAN_VPORCH_VSYNC + c.fld F.SCAN_VPORCH_VBP

/-- The largest number of rows for the committed period, strip and format (R27, R300). -/
def CSet.maxRows (c : CSet) : Nat := Machine.maxRows c.period c.stripPx c.bpp

/-- Pixel `i` of lane `j`'s strip in row `y` (R297), `w` giving the picture's words. -/
def CSet.stripPixel (c : CSet) (w : Nat → Nat → Nat) (j y i : Nat) : Nat :=
  let hbp := c.fld F.SCAN_HPORCH_HBP
  let act := c.fld F.SCAN_STRIP_STRIP_ACT
  if i < hbp ∨ hbp + act ≤ i then 0 else pix c.bpp24 (w (j * act + i - hbp) y)

/-- The bits of row `y` on lane `j`, most significant first, filled up to whole blocks of 64 (R297). -/
def CSet.rowBits (c : CSet) (w : Nat → Nat → Nat) (j y : Nat) : List Bool :=
  let px := (List.range c.stripPx).flatMap (fun i =>
    let v := c.stripPixel w j y i
    (List.range c.bpp).map (fun k => bitAt v (c.bpp - 1 - k)))
  px ++ List.replicate ((64 - px.length % 64) % 64) false

/-- A number of bits, most significant first. -/
def bitsNat (b : List Bool) : Nat := b.foldl (fun a x => 2 * a + b2n x) 0

/-- The low `n` bits of a number, most significant first. -/
def blockBits (n w : Nat) : List Bool := (List.range n).map (fun k => bitAt w (n - 1 - k))

/-- Blocks of a row on a lane: the row header and the payload (R26). -/
def CSet.rowBlocks (c : CSet) : Nat := ceilDiv (c.stripPx * c.bpp) 64 + 1

/-- The rows of a frame in the order of R298: the row type of R316 and the index within it. -/
def CSet.rowType (c : CSet) (r : Nat) : Nat × Nat :=
  let fp := c.vact + c.fld F.SCAN_VPORCH_VFP
  let sy := fp + c.fld F.SCAN_VPORCH_VSYNC
  if r < c.vact then (0, r) else if r < fp then (1, r - c.vact) else if r < sy then (2, r - fp) else (3, r - sy)

/-- The block slot whose start lies nearest an instant (R151); the later of two. [DEDUCED: log 89; DESIGN CHOICE: log 137] -/
def slotNear (enabled : Nat) (x : Int) : Nat := natOf ((((x - enabled) * 14 + 262144)).fdiv 524288)

/-- Block slot `k` carries an ALIGN block (R317). -/
def alignAt (k : Nat) : Bool := k % 16384 == 16383

/-- The slot a row header takes: the next one where an ALIGN block falls due (R151). -/
def freeSlot (k : Nat) : Nat := if alignAt k then k + 1 else k

/-- Blocks other than ALIGN in the slots from `a` up to `b`. -/
def others (a b : Nat) : Nat := (b - a) - (b / 16384 - a / 16384)

/-- A buffer by what it holds. -/
def CompSt.findBuf (c : CompSt) (f : Buf → Bool) : Option Nat :=
  (List.range c.bufs.length).find? (fun i => match c.bufs[i]? with | some b => f b | none => false)

/-- The buffer of frame `p`, complete and queued. -/
def State.queuedBuf (s : State) (p : Nat) : Option Nat := s.comp.findBuf (fun b => b.role == .queued && b.pound == p)

/-- The buffer in the scanning role. -/
def State.scanBuf (s : State) : Option Nat := s.comp.findBuf (fun b => b.role == .scanning)

/-- TOP_BG_COLOR as a pixel word. -/
def CSet.bgWord (c : CSet) : Nat :=
  c.fld F.TOP_BG_COLOR_RED * 2 ^ 20 + c.fld F.TOP_BG_COLOR_GREEN * 2 ^ 10 + c.fld F.TOP_BG_COLOR_BLUE

/-- The buffer being scanned. -/
def TxSrc.buf (x : TxSrc) : Option Buf := x.bufs.find? (fun b => b.role == .scanning)

/-- The geometry of the picture being sent. -/
def TxSrc.geom (x : TxSrc) : Geom :=
  match x.scan.kind, x.buf with
  | .frame, some b => b.geom
  | .repeated, some b => b.geom
  | _, _ => x.scan.bank.geom

/-- The geometry of the picture being sent now. -/
def State.sentGeom (s : State) : Geom := s.txSrc.geom

/-- Whether the CARD slot being sent shows the card (R355). -/
def PanelSt.cardOn (p : PanelSt) : Bool :=
  p.blinkCfg.2 == 0 || decide ((p.blink - 1) % (p.blinkCfg.1 + p.blinkCfg.2) < p.blinkCfg.1)

/-- The word of panel pixel (x, y) as the slot sends it (R301, R307, R354). -/
def TxSrc.word (x : TxSrc) (px py : Nat) : Nat :=
  let g := x.geom
  match x.scan.kind with
  | .background => x.scan.bank.bgWord
  | .card => if x.panel.cardOn then cardWord x.panel.card (px / max 1 g.vcols) (py / max 1 g.vrows) else leAt x.panel.card 16 4
  | _ =>
    match x.buf with
    | some b => x.basin.pixel b.moors (g.cols * g.vcols) px py
    | none => 0

/-- The word of panel pixel (x, y) as the slot now in progress sends it. -/
def State.sentWord (s : State) (x y : Nat) : Nat := s.txSrc.word x y

/-- A block before scrambling (R313): a control block, a data block, or 66 bits that bypass the block coder (R332). -/
inductive Block where
  | ctrl (w : Nat)
  | data (w : Nat)
  | plain (w : Nat)
  deriving DecidableEq, Repr

/-- The row header of row `r` of the slot being sent, on lane `n` (R298, R303, R316): its END is the end code of the frame. -/
def TxSrc.rowHead (x : TxSrc) (n r : Nat) : Nat :=
  let c := x.scan.bank
  let (ty, ix) := c.rowType r
  let endc := if ty = 1 ∧ ix = 0 then (if x.scan.abort.isSome then 2 else 1) else 0
  rowHeader ty endc ix x.scan.fcnt n (b2n c.bpp24)

/-- Payload block `b` of row `r` on lane `n` (R297, R298): zero in blanking rows, and in active rows from an abort on (R305). -/
def TxSrc.rowData (x : TxSrc) (n r b k : Nat) : Nat :=
  let c := x.scan.bank
  let dead : Bool := match x.scan.zeroAt with | some z => decide (z ≤ k) | none => false
  if c.vact ≤ r ∨ dead then 0 else bitsNat (((c.rowBits x.word n r).drop (64 * b)).take 64)

/-- The register of a generator after `n` bits of a run, which starts all ones (R331). -/
def prbsAt (pat : Nat) : Nat → Nat
  | 0 => 2 ^ ((prbsTaps pat).headD 1) - 1
  | n + 1 => (prbsNext pat (prbsAt pat n)).2

/-- Bit `n` of a generator's run. -/
def prbsBit (pat n : Nat) : Bool := (prbsNext pat (prbsAt pat n)).1

/-- `m` bits of a run from bit `n`, as a number, the first most significant. -/
def prbsWord (pat n m : Nat) : Nat := bitsNat ((List.range m).map (fun i => prbsBit pat (n + i)))

/-- ALIGN of lane `n` in block slot `k` (R317). -/
def alignIn (n k : Nat) : Block := .ctrl (alignBlock n (k / 16384))

/-- What lane `n` sends in slot `k` where it has nothing to send: ALIGN where it falls due, else IDLE (R317, R318). -/
def fill (n k : Nat) : Block := if alignAt k then alignIn n k else .ctrl idleBlock

/-- The block of a generator in slot `k` of lane `n` (R332): framed, the pattern advances only over data payload, and ALIGN blocks are kept. -/
def GenRun.block (g : GenRun) (n k : Nat) : Block :=
  if ¬ g.framed then .plain (prbsWord g.pat (66 * (k - g.start)) 66)
  else if alignAt k then alignIn n k
  else .data (prbsWord g.pat (64 * others g.start k) 64)

/-- An error of kind `kind` falls on the piece of a generator's output from bit `a` up to `b` of its run (R335): a continuous one after
every 2^RATE bits sent, or a one-shot one. -/
def GenRun.errorIn (g : GenRun) (kind a b : Nat) : Bool :=
  let cont := g.rate != 0 && g.kind == kind && decide ((g.sent + a) / 2 ^ g.rate < (g.sent + b) / 2 ^ g.rate)
  let one : Bool := match g.inj with
    | some (k, count, slot) =>
      let unit := if kind = 0 then 1 else if kind = 1 then 66 else 2
      let z := 66 * (slot - g.start) + (if kind = 0 ∧ g.framed then 2 else 0)
      k == kind && decide (z < b ∧ a < z + count * unit)
    | none => false
  cont || one

/-- A generator's run as the LANE_n_TEST of lane `n` in set `c` describes it (R331, R332, R335). -/
def CSet.genRun (c : CSet) (n start sent : Nat) (inj : Option (Nat × Nat × Nat)) : GenRun :=
  { pat := c.fld (F.LANE_n_TEST_GEN_PAT n), framed := c.fld (F.LANE_n_TEST_GEN_FRAMED n) == 1, start := start,
    rate := c.fld (F.LANE_n_TEST_RATE n), kind := c.fld (F.LANE_n_TEST_INJ_KIND n), sent := sent,
    inj := inj.filter (fun e => decide (start ≤ e.2.2)) }

/-- The row block that is number `i` of the slot's blocks on lane `n`, in block slot `k` (R26, R296, R298, R318): lanes at or above LANES
and the time after the last row send IDLE. -/
def TxSrc.rowBlock (x : TxSrc) (n i k : Nat) : Block :=
  let c := x.scan.bank
  let r := i / c.rowBlocks
  let b := i % c.rowBlocks
  if c.fld F.SCAN_STRIP_LANES ≤ n ∨ c.totalRows ≤ r then .ctrl idleBlock
  else if b = 0 then .ctrl (x.rowHead n r)
  else .data (x.rowData n r (b - 1) k)

/-- The first block slot from `k` on that carries an ALIGN block. -/
def nextAlign (k : Nat) : Nat := k + (16383 - k % 16384)

/-- After a LANE slot the output of a framed generator runs up to the first ALIGN slot (R333): its run, where slot `k` of lane `n` is still
part of it. Unframed output is IDLE blocks by then. [DESIGN CHOICE: log 137] -/
def TxSrc.tail (x : TxSrc) (n k : Nat) : Option GenRun :=
  match x.lanes.carry with
  | some (c, start, sent) =>
    if c.fld (F.LANE_n_TEST_GEN_PAT n) ≠ 0 ∧ c.fld (F.LANE_n_TEST_GEN_FRAMED n) = 1 ∧ k < nextAlign x.scan.start then
      some (c.genRun n start (sent.getD n 0) none) else none
  | none => none

/-- What panel lane `n` sends in block slot `k`, and the run of a generator that makes it (R301, R317, R318, R327, R333). -/
def TxSrc.send (x : TxSrc) (n k : Nat) : Block × Option GenRun :=
  let inj := (x.lanes.lane n).inject
  match x.train with
  | some z => let g := { x.cset.genRun n z 0 inj with pat := 6, framed := true }; (g.block n k, some g)
  | none =>
    match x.tail n k with
    | some g => (g.block n k, some g)
    | none =>
      if x.scan.kind = .lane then
        let g := x.scan.bank.genRun n x.scan.start (x.lanes.genSent.getD n 0) inj
        let ends : Bool := match x.lanes.idleFrom with | some z => decide (z ≤ k) | none => false
        if g.pat = 0 ∨ (¬ g.framed ∧ ends) then (fill n k, none) else (g.block n k, some g)
      else if alignAt k then (alignIn n k, none)
      else if x.scan.kind.rows then (x.rowBlock n (others x.scan.start k) k, none)
      else (.ctrl idleBlock, none)

/-- What panel lane `n` sends in block slot `k` of what is in progress now. -/
def State.laneBlock (s : State) (n k : Nat) : Block := (s.txSrc.send n k).1

/-- The 66 bits of a block on the wire in slot `k`, and the scrambler's register after it (R313, R332): a generator's data is not
scrambled; header errors and bit errors of R335 are in. -/
def wireBits (reg k : Nat) (blk : Block) (gen : Option GenRun) : List Bool × Nat :=
  let (out, reg') := match blk with
    | .ctrl w => let (v, r) := scramble reg w; ([true, false] ++ blockBits 64 v, r)
    | .data w => if gen.isSome then ([false, true] ++ blockBits 64 w, reg) else let (v, r) := scramble reg w; ([false, true] ++ blockBits 64 v, r)
    | .plain w => (blockBits 66 w, reg)
  match gen with
  | none => (out, reg')
  | some g =>
    let z := 66 * (k - g.start)
    let out := if g.errorIn 1 z (z + 66) then [false, false] ++ out.drop 2 else out
    ((List.range 66).map (fun i => xor (out.getD i false) (g.errorIn 0 (z + i) (z + i + 1))), reg')

/-- Symbols of bits, Gray-coded (R312). -/
def symbols : List Bool → List Nat
  | a :: b :: r => grayLevel a b :: symbols r
  | _ => []

/-- Precoding of a run of symbols after symbol `prev` (R314). -/
def precodeAll (prev : Nat) : List Nat → List Nat
  | [] => []
  | g :: r => let p := precode g prev; p :: precodeAll p r

/-- A symbol error: one level up, the top level one down (R335). -/
def symbolError (g : Nat) : Nat := if g = 3 then 2 else g + 1

/-- The 33 symbols of the block in slot `k`, its symbol errors in, and the scrambler's register after it (R312, R313, R335). -/
def wireSymbols (reg k : Nat) (blk : Block) (gen : Option GenRun) : List Nat × Nat :=
  let (b, reg) := wireBits reg k blk gen
  let y := symbols b
  match gen with
  | none => (y, reg)
  | some g =>
    let z := 66 * (k - g.start)
    ((List.range y.length).map (fun i => let v := y.getD i 0; if g.errorIn 2 (z + 2 * i) (z + 2 * i + 2) then symbolError v else v), reg)

/-- What a lane's transmitter carries from block to block (R313, R314): the scrambler's register and the last symbol before the polarity. -/
structure TxRegs where
  reg  : Nat
  last : Nat
  deriving DecidableEq, Repr

/-- The PAM4 levels of `m` block slots from `k` on, of a lane whose slots carry `f`, and its registers after them (R312 to R314). -/
def wireLevels (pre inv : Bool) (f : Nat → Block × Option GenRun) : Nat → TxRegs → Nat → List Nat × TxRegs
  | 0, t, _ => ([], t)
  | m + 1, t, k =>
    let (y, reg) := wireSymbols t.reg k (f k).1 (f k).2
    let y := if pre then precodeAll t.last y else y
    let (r, t) := wireLevels pre inv f m { reg := reg, last := y.getLastD t.last } (k + 1)
    (y.map (polarity inv) ++ r, t)

/-- The set whose PRECODE and POL_INV the panel lanes follow: the committed one in TRAIN and before the first slot, else that of the slot's bank. -/
def TxSrc.cfg (x : TxSrc) : CSet := if x.train.isSome ∨ x.scan.start = 0 then x.cset else x.scan.bank

/-- The levels of `m` block slots of panel lane `n` from slot `k` on (R312 to R314). -/
def TxSrc.levels (x : TxSrc) (n m : Nat) (t : TxRegs) (k : Nat) : List Nat × TxRegs :=
  wireLevels (x.cfg.fld (F.LANE_n_TXCFG_PRECODE n) == 1) (x.cfg.fld (F.LANE_n_TXCFG_POL_INV n) == 1) (x.send n) m t k

/-- A lane's registers at block slot `e`, after all that it has sent before (R313, R314). -/
def txRegs (n : Nat) (first : TxRegs) : List (Nat × TxSrc) → Nat → TxRegs
  | [], _ => first
  | (k, x) :: r, e => (x.levels n (e - k) (txRegs n first r k) k).2

/-- The registers of panel lane `n` at lane enable: R313 gives the scrambler no first value; the symbol before it is 0 (R314). [DESIGN CHOICE: log 136] -/
def State.laneFirst (s : State) (n : Nat) : TxRegs := { reg := Config.freeNat (s.lanes.txSeed + n) % 2 ^ 58, last := 0 }

/-- The registers of panel lane `n` where what it sends now begins. -/
def State.laneRegs (s : State) (n : Nat) : TxRegs := txRegs n (s.laneFirst n) s.tx s.lanes.since

/-- The PAM4 levels that panel lane `n` sends in the first `m` block slots of what is in progress (R312 to R314, R335). -/
def State.laneLevels (s : State) (n m : Nat) : List Nat := (s.txSrc.levels n m (s.laneRegs n) s.lanes.since).1

/-- Block `i` of what waits on a towpath lane, IDLE behind it (R315, R396). -/
def towBlock : Nat → List (TowMsg × Nat) → Block
  | _, [] => .ctrl idleBlock
  | i, (m, left) :: r =>
    if i < left then
      let j := bitsOf m.start 47 32 + 2 - left + i
      if j = 0 then .ctrl m.start else if j ≤ bitsOf m.start 47 32 then .data (beAt m.data (8 * (j - 1)) 8) else .ctrl m.stop
    else towBlock (i - left) r

/-- What towpath lane `n` sends in block slot `k` (R315, R317, R333, R396). -/
def TowSrc.send (x : TowSrc) (n k : Nat) : Block × Option GenRun :=
  match x.gen with
  | some g => (g.block n k, some g)
  | none => (if alignAt k then alignIn n k else towBlock (others x.at_ k) x.queue, none)

/-- The levels of `m` block slots of towpath lane `n` from slot `k` on. -/
def TowSrc.levels (x : TowSrc) (n m : Nat) (t : TxRegs) (k : Nat) : List Nat × TxRegs := wireLevels x.precode x.inv (x.send n) m t k

/-- A towpath lane's registers at block slot `e` (R313, R314). -/
def towRegs (n : Nat) (first : TxRegs) : List TowSrc → Nat → TxRegs
  | [], _ => first
  | x :: r, e => (x.levels n (e - x.at_) (towRegs n first r x.at_) x.at_).2

/-- What is left of a lane's queue after `u` blocks. [DEDUCED: log 99] -/
def drainLane : Nat → List (TowMsg × Nat) → List (TowMsg × Nat)
  | _, [] => []
  | u, (m, k) :: r => if u < k then (m, k - u) :: r else drainLane (u - k) r

/-- What towpath lane 56 + `n` sends now. [DEDUCED: log 99] -/
def State.towSrc (s : State) (n : Nat) : TowSrc :=
  { at_ := s.pair.drained.getD n 0, queue := s.pair.queue.getD n [], gen := (s.lanes.lane (56 + n)).gen,
    precode := s.cm (F.LANE_n_TXCFG_PRECODE (56 + n)) == 1, inv := s.cm (F.LANE_n_TXCFG_POL_INV (56 + n)) == 1 }

/-- The PAM4 levels that towpath lane 56 + `n` sends in the first `m` block slots from where its queue was last brought up to date (R312 to R317). [DESIGN CHOICE: log 136] -/
def State.towLevels (s : State) (n m : Nat) : List Nat :=
  let x := s.towSrc n
  let first : TxRegs := { reg := Config.freeNat (s.lanes.lane (56 + n)).seedNo % 2 ^ 58, last := 0 }
  (x.levels (56 + n) m (towRegs (56 + n) first (s.pair.past.getD n []) x.at_) x.at_).1

/-- The PAM4 levels that ring lane `n` sends in the first `m` block slots of its generator's run (R331 to R335); what it sent before is coded by IEEE
802.3 and open here. Its polarity is that of RING_PORT_CFG (R314). [DESIGN CHOICE: log 136] -/
def State.ringLevels (s : State) (n m : Nat) : List Nat :=
  let l := s.lanes.lane n
  match l.gen with
  | none => []
  | some g =>
    let pol := if n < 52 then bitAt (s.cm F.RING_PORT_CFG_E_TXPOL) (n - 48) else bitAt (s.cm F.RING_PORT_CFG_W_TXPOL) (n - 52)
    let first : TxRegs := { reg := Config.freeNat l.seedNo % 2 ^ 58, last := Config.freeNat (l.seedNo + 1) % 4 }
    (wireLevels (s.cm (F.LANE_n_TXCFG_PRECODE n) == 1) pol (fun k => (g.block n k, some g)) m first 0).1

/-- The control words that the 48 panel lanes send at block slot `k`; 0 where a lane sends none. -/
def State.headsAt (s : State) (k : Nat) : List Nat :=
  (List.range 48).map (fun n => match s.laneBlock n k with | .ctrl w => w | _ => 0)

/-- The block slot in which the slot's row `r` begins. -/
def State.rowSlot (s : State) (r : Nat) : Nat :=
  let i := s.scan.start - s.scan.start / 16384 + r * s.scan.bank.rowBlocks
  i + i / 16383

/-- The first block slot of lane `n` that starts from now on (R317, R335): of a ring lane, counted from its generator's run at 106.25 Gbit/s; of a towpath lane,
from lane enable at 1.75 G blocks a second. -/
def State.laneSlot (s : State) (n : Nat) : Nat :=
  if n < 48 then s.slotNow
  else if n < 56 then ceilDiv ((s.clk.now - (s.lanes.lane n).base) * 425) 264
  else ceilDiv ((s.clk.now - s.pair.enabled) * 7) 4

/-- The run of lane `n`'s generator, where one runs now (R333). -/
def State.genNow (s : State) (n : Nat) : Option GenRun :=
  if n < 48 then (match s.txSrc.tail n s.slotNow with | some _ => none | none => (s.txSrc.send n s.slotNow).2) else (s.lanes.lane n).gen

/-- A lane's generator runs. -/
def State.genRuns (s : State) (n : Nat) : Bool := (s.genNow n).isSome

/-- The generator of a lane runs unframed. -/
def State.genUnframed (s : State) (n : Nat) : Bool := match s.genNow n with | some g => !g.framed | none => false

/-- Where a ring or towpath lane's generator shall run (R333): ring lanes in loopback and under a committed FORCE_BYPASS, towpath lanes while GEN_PAT is
set. -/
def State.genWanted (s : State) (n : Nat) : Bool :=
  s.cm (F.LANE_n_TEST_GEN_PAT n) != 0 && (decide (56 ≤ n) || s.ring.training.isSome || s.cm F.RING_WEIR_FORCE_BYPASS == 1)

/-- What towpath lane 56 + `n` sends changes now: what it sent up to now is kept, and messages that wait stay where `keep` says so (R313, R333). `x` is what it
has sent. -/
def State.towMark (s : State) (n : Nat) (x : TowSrc) (keep : Bool) : State :=
  let k := max x.at_ (s.laneSlot (56 + n))
  { s with pair := { s.pair with past := modAt s.pair.past n (fun l => x :: l), drained := modAt s.pair.drained n (fun _ => k),
                                 queue := modAt s.pair.queue n (fun q => if keep then drainLane (others x.at_ k) q else []) } }

/-- A run of lane `n`'s generator starts (R322, R331, R333); messages that wait on a towpath lane are lost with its link. -/
def State.genStart (s : State) (n : Nat) (c : GenRun) : State :=
  let s := s.when (decide (56 ≤ n)) (fun s => s.towMark (n - 56) (s.towSrc (n - 56)) false)
  let at_ := if n < 56 then 0 else s.pair.drained.getD (n - 56) 0
  let s := s.modLane n (fun l => { l with gen := some { c with start := at_ }, base := s.clk.now, inject := none })
  let s := if n < 56 then { (s.modLane n (fun l => { l with seedNo := s.choices })) with choices := s.choices + 2 } else s
  s.rxStart n

/-- A ring or towpath lane's generator starts, goes on or stops as R333 says. A run starts with the receiver's adaptation (R322), and so does a towpath
lane's link after a run. RATE and INJ_KIND act at once. -/
def State.genUpdate (s : State) (n : Nat) : State :=
  let c := s.cset.genRun n 0 0 none
  match s.genWanted n, (s.lanes.lane n).gen with
  | false, none => s
  | false, some _ =>
    let s := s.when (decide (56 ≤ n)) (fun s => s.towMark (n - 56) (s.towSrc (n - 56)) false)
    let s := s.modLane n (fun l => { l with gen := none, inject := none })
    if 56 ≤ n then s.rxStart n else s.showLane n
  | true, some g =>
    if g.pat = c.pat ∧ g.framed = c.framed then
      if g.rate = c.rate ∧ g.kind = c.kind then s
      else
        let s := s.when (decide (56 ≤ n)) (fun s => s.towMark (n - 56) (s.towSrc (n - 56)) false)
        s.modLane n (fun l => { l with gen := some { g with rate := c.rate, kind := c.kind } })
    else s.genStart n c
  | true, none => s.genStart n c

/-- The generators of the ring and towpath lanes follow (R333). -/
def State.gensFollow (s : State) : State := s.each ((List.range 12).map (48 + ·)) State.genUpdate

/-- A write of LANE_n_INJ (R335): errors are inserted from the next block on, or the write is ignored (0xD06). -/
def State.inject (s : State) (n v : Nat) : State :=
  let kind := bitsOf v 31 30
  let count := bitsOf v 7 0
  if 60 ≤ n ∨ kind = 3 ∨ count = 0 then s
  else if ¬ s.genRuns n ∨ (kind = 1 ∧ s.genUnframed n) then s.raiseLane 0xD06 n s.pound
  else if n < 48 then (s.txMark s.slotNow).modLane n (fun l => { l with inject := some (kind, count, s.slotNow) })
  else
    let s := s.when (decide (56 ≤ n)) (fun s => s.towMark (n - 56) (s.towSrc (n - 56)) true)
    s.modLane n (fun l => { l with gen := l.gen.map (fun g => { g with inj := some (kind, count, s.laneSlot n) }) })

/-- LANE_n_STAT.STATE of the panel lanes once the panel is UP: 4 where a generator runs, else 2 (RUN). -/
def State.showGens (s : State) : State :=
  if s.pstate ≠ pUP then s
  else s.each (List.range 48) (fun s n => s.wr (F.LANE_n_STAT_STATE n) (if s.genRuns n then 4 else 2))

/-- Unframed panel output falls back to IDLE blocks 8 µs before the next launch (R333). -/
def State.unframedIdle (s : State) : State :=
  if s.scan.kind = .lane then
    let heads := (List.range 48).map (fun n => if s.genUnframed n then idleBlock else s.scan.heads.getD n 0)
    State.showGens { s with lanes := { s.lanes with idleFrom := some s.slotNow }, scan := { s.scan with heads := heads } }
  else s

/-- The feedback register of a checker takes a bit (R334): whether the bit is the one that the pattern gives after those before it. A register of zeros is in
no pattern. [DESIGN CHOICE: log 152] -/
def PrbsReg.bit (r : PrbsReg) (pat : Nat) (b : Bool) : Bool × PrbsReg :=
  let deg := (prbsTaps pat).headD 1
  let ok := decide (deg ≤ r.have_) && r.reg != 0 && (prbsNext pat r.reg).1 == b
  (ok, { r with reg := (r.reg * 2 + b2n b) % 2 ^ deg, have_ := min deg (r.have_ + 1) })

/-- The bits of a checker's unit (R331, R334): a bit, or a symbol of PRBS13Q by the Gray code; under the inverted pattern, those of the inverted unit. -/
def chkUnit (pat : Nat) (inv : Bool) (v : Nat) : List Bool :=
  if pat = 7 then
    let v := if inv then 3 - v else v
    [decide (2 ≤ v), v == 1 || v == 2]
  else [xor inv (v == 1)]

/-- A hunting register takes a unit: it seeds itself, and counts the error-free units in a row (R334). -/
def PrbsReg.hunt (r : PrbsReg) (pat : Nat) (bits : List Bool) : PrbsReg :=
  let (ok, r) := bits.foldl (fun (a : Bool × PrbsReg) b => let (o, q) := a.2.bit pat b; (a.1 && o, q)) (true, r)
  { r with run := if ok then r.run + 1 else 0 }

/-- The unit that a synchronised register expects, and the register after it. -/
def PrbsReg.expect (r : PrbsReg) (pat : Nat) : List Bool × PrbsReg :=
  (List.range (if pat = 7 then 2 else 1)).foldl (fun (a : List Bool × PrbsReg) _ =>
    let (b, q) := prbsNext pat a.2.reg
    (a.1 ++ [b], { a.2 with reg := q })) ([], r)

/-- A checker takes one unit (R334): `n` is the receiver, `k` the lane whose registers show it, `pat` its pattern. [DESIGN CHOICE: log 152] -/
def State.chkTake (s : State) (n k pat v : Nat) : State :=
  let c := (s.lanes.lane n).chk
  let put (s : State) (c : PrbsChk) : State := s.modLane n (fun l => { l with chk := c })
  if s.rd (F.LANE_n_STAT_CHK_SYNC k) = 1 then
    let inv := s.rd (F.LANE_n_STAT_INVERTED k) == 1
    let (want, r) := (if inv then c.inv else c.plain).expect pat
    let bad := chkUnit pat inv v != want
    let s := if bad then s.addErrors k 1 else s
    let errs := c.errs + b2n bad
    if 1024 < errs then (s.chkClear n k).raiseLane 0xD05 n 0
    else
      let c := if inv then { c with inv := r } else { c with plain := r }
      put s (if c.seen + 1 < 65536 then { c with seen := c.seen + 1, errs := errs } else { c with seen := 0, errs := 0 })
  else
    let c := { c with plain := c.plain.hunt pat (chkUnit pat false v), inv := c.inv.hunt pat (chkUnit pat true v) }
    let need := if pat = 7 then 32 else 64
    if need ≤ c.plain.run ∨ need ≤ c.inv.run then
      let inv := decide (c.plain.run < need)
      (((put s { c with seen := 0, errs := 0 }).wr (F.LANE_n_STAT_CHK_SYNC k) 1).wr (F.LANE_n_STAT_INVERTED k) (b2n inv)).raiseLane 0xD05 n 1
    else put s c

/-- What a receiver's checker is given (R329, R331, R334): an unframed one the bits, or the symbols of PRBS13Q; a framed one, under block lock, the payload of
data blocks. The monitor's is that of the lane it watches. -/
def State.prbsTake (s : State) (n : Nat) (blocks : List Nat) (bits : List Bool) (syms : List Nat) : State :=
  let k := s.checked n
  let pat := s.cm (F.LANE_n_TEST_CHK_PAT k)
  let framed := s.cm (F.LANE_n_TEST_CHK_FRAMED k) == 1
  if pat = 0 ∨ ¬ ((n = monLane ∧ s.rd F.LANE_MON_CFG_EN = 1) ∨ (48 ≤ n ∧ n < 60)) then s
  else if framed then
    if s.locked n then s.each (blocks.flatMap (blockBits 64)) (fun s b => s.chkTake n k pat (b2n b)) else s
  else if pat = 7 then s.each syms (fun s v => s.chkTake n k pat v)
  else s.each bits (fun s b => s.chkTake n k pat (b2n b))

/-- At an open, a checker whose CHK_PAT or CHK_FRAMED changes begins anew; one that is off is not synchronised (R334). -/
def State.checksFollow (s : State) (old : CSet) : State :=
  s.each (List.range 60) (fun s k =>
    if old.fld (F.LANE_n_TEST_CHK_PAT k) = s.cm (F.LANE_n_TEST_CHK_PAT k) ∧ old.fld (F.LANE_n_TEST_CHK_FRAMED k) = s.cm (F.LANE_n_TEST_CHK_FRAMED k) then s
    else if 48 ≤ k then s.chkClear k k
    else if k = s.rd F.LANE_MON_CFG_LANE then s.chkClear monLane k
    else s)

/-- A towpath lane whose PRECODE or POL_INV changes at an open (R314). -/
def State.towCfg (s : State) (old : CSet) : State :=
  s.each (List.range 4) (fun s n =>
    let pre := old.fld (F.LANE_n_TXCFG_PRECODE (56 + n)) == 1
    let inv := old.fld (F.LANE_n_TXCFG_POL_INV (56 + n)) == 1
    let x := s.towSrc n
    if x.precode = pre ∧ x.inv = inv then s else s.towMark n { x with precode := pre, inv := inv } true)

end Sys2Proof.Machine
end

