-- ==== Sys2Proof/Machine/Scan.lean ====
section
/-! DEFINITION. Scan-out: what a launch slot carries, underruns, output checks and the panel port interlock (R300 to R311), with the launch
comparator (R151, R153). -/

namespace Sys2Proof.Machine

/-- The set that decides item 1 of R301 for slot `p`: that of T for the two slots before a change of ownership (R407). [DEDUCED: log 92] -/
def State.slotSet (s : State) (p : Nat) : CSet :=
  match s.pair.ownT with
  | some t => if p = poundSub t 2 ∨ p = poundSub t 1 then s.setOf t else s.setOf p
  | none => s.setOf p

/-- The device owns the panel for slot `p` (R310, R392). [DEDUCED: log 92] -/
def State.ownsSlot (s : State) (p : Nat) : Bool := s.ownsBy (s.slotSet p)

/-- Item 1 of R301: not the owner, STANDBY, a panel that is not up (R336), a slot before pound 0 (R150), or a port conflict (R311). -/
def State.slotIdle (s : State) (p : Nat) : Bool :=
  decide (0 < s.scan.pre) || s.pstate != pUP || !s.ownsSlot p || has (s.slotSet p).mode mSTANDBY || s.scan.blocked

/-- The scanning frame can be sent again (R301 item 6, R305). -/
def State.canRepeat (s : State) : Bool :=
  match s.scanBuf.bind (fun i => s.comp.bufs[i]?) with | some b => !b.aborted | none => false

/-- A takeover puts the card into slot `p`: 1 where it has no complete frame (WARM), 2 in any case (RESYNC) (R407). -/
def State.takeCard (s : State) (p : Nat) : Nat :=
  match s.pair.take with
  | some k => if k.committed ∧ (p = poundSub k.t 2 ∨ p = poundSub k.t 1) then (if k.kind = 2 then 1 else if k.kind = 3 then 2 else 0) else 0
  | none => 0

/-- Items 2 to 7 of R301 for slot `p`. [DEDUCED: log 90] -/
def State.slotItem (s : State) (p : Nat) : Kind :=
  let c := s.setOf p
  let k : Kind :=
    if has c.mode mHOLD then .card
    else if has c.mode mPATTERN ∧ c.fld F.TOP_MODE_OPT_PAT_SUB = 1 then .lane
    else if ¬ c.composes then .background
    else if (s.queuedBuf p).isSome then .frame
    else if s.canRepeat then .repeated
    else .idle
  match s.takeCard p with
  | 2 => .card
  | 1 => if k = .repeated ∨ k = .idle then .card else k
  | _ => k

/-- Frame `p` is launchable (R66). [DEDUCED: log 90] -/
def State.launchable (s : State) (p : Nat) : Bool :=
  (s.comp.results.any (fun r => r.pound == p && r.launch && !r.late)) || !(s.setOf p).composes

/-- The exit of HOLD that slot `p` is part of: the newest from a pound not later than it. -/
def State.exitOf (s : State) (p : Nat) : Option Nat := s.comp.holdExit.find? (fun q => !laterPound q p)

/-- The exit of HOLD (R66): none where slot `p` is not part of one; else the kind it makes of `k`, and whether the exit ends. A slot of lane
test data stays what it is, and the exit goes on after it. [DESIGN CHOICE: log 156] -/
def State.holdExitAt (s : State) (p : Nat) (k : Kind) : Option (Kind × Bool) :=
  match s.exitOf p with
  | none => none
  | some q =>
    if ¬ (k = .frame ∨ k = .repeated ∨ k = .background ∨ k = .idle) then none
    else
      let due := poundAdd q ((s.setOf p).fld F.TOP_MODE_OPT_HOLDX_WAIT)
      let ok := (k = .frame ∨ k = .background) ∧ s.launchable p
      if ok ∨ ¬ laterPound due p then some (k, true) else some (.card, false)

/-- Buffers at a slot that replaces the scanning frame (R23): the scanning one and every queued one up to `p` become free, and
buffer `new` scans. -/
def turnBufs (l : List Buf) (p : Nat) (new : Option Nat) (drop : Bool) : List Buf :=
  (List.range l.length).filterMap (fun i => (l[i]?).map (fun b =>
    if some i = new then { b with role := .scanning }
    else if b.role = .queued ∧ ¬ laterPound b.pound p then { b with role := .free }
    else if b.role = .scanning ∧ drop then { b with role := .free }
    else b))

/-- The buffers move as kind `k` requires (R23, R394). -/
def State.moveBufs (s : State) (p : Nat) (k : Kind) : State :=
  let new := if k = .frame then s.queuedBuf p else none
  let drop : Bool := match k with | .frame => new.isSome | .background => true | .card => true | .lane => true | _ => false
  State.dropOldBufs { s with comp := { s.comp with bufs := turnBufs s.comp.bufs p new drop } } false

/-- SCAN_FLIP0 to 3 take a launch point in 2^-16 ns (R304). [DEDUCED: log 89] -/
def State.setFlip (s : State) (x : Nat) : State :=
  let sec := x / (65536 * 1000000000)
  (((s.wr (F.SCAN_FLIP_FLIP 0) (x % 65536)).wr (F.SCAN_FLIP_FLIP 1) (x / 65536 % 1000000000)).wr (F.SCAN_FLIP_FLIP 2) (sec % 2 ^ 32)).wr
    (F.SCAN_FLIP_FLIP 3) (sec / 2 ^ 32 % 65536)

/-- The number of a kind in SCAN_STATUS.KIND. -/
def Kind.num : Kind → Nat
  | .idle => 0
  | .frame => 1
  | .repeated => 2
  | .background => 3
  | .card => 4
  | .lane => 5

/-- An instant moved by TIME_LAUNCH.ADJ, in 2^-16 ns. -/
def withAdj (base : Nat) (adj : Int) : Nat := natOf ((base : Int) + adj * 65536)

/-- The block slot in which slot `p` starts (R151, R153): that whose start, in the replica of device time, lies nearest L(P) + ADJ, or, late,
the first one from now; where an ALIGN block falls due in it, the next. -/
def State.launchBlock (s : State) (p : Nat) (late : Bool) : Nat :=
  match s.lanes.enabledAt with
  | none => 0
  | some e =>
    let x := withAdj ((s.launchOf p).getD s.dev) (signed 16 ((s.setOf p).fld F.TIME_LAUNCH_ADJ))
    freeSlot (if late then slotFrom e s.dev else slotNear e ((x : Int) - s.time.replica))

/-- When the slot's first block starts at the balls, in device time. -/
def State.slotInstant (s : State) (p : Nat) (late : Bool) : Nat :=
  match s.lanes.enabledAt with
  | none => if late then s.dev else withAdj ((s.launchOf p).getD s.dev) (signed 16 ((s.setOf p).fld F.TIME_LAUNCH_ADJ))
  | some e => slotStart e (s.launchBlock p late)

/-- Bits that the panel lanes' generators have sent in LANE slots on end, by lane, as a slot of kind `k` starts at block slot `start`
(R335). -/
def State.genCount (s : State) (k : Kind) (start : Nat) : List Nat :=
  if k ≠ .lane ∨ s.scan.kind ≠ .lane then List.replicate 48 0
  else
    let stop := s.lanes.idleFrom.getD start
    (List.range 48).map (fun n =>
      if s.scan.bank.fld (F.LANE_n_TEST_GEN_PAT n) = 0 then 0
      else
        let z := if s.scan.bank.fld (F.LANE_n_TEST_GEN_FRAMED n) = 1 then start else stop
        s.lanes.genSent.getD n 0 + 66 * (z - s.scan.start))

/-- A slot is counted (R303, R304): the counter, the flip registers, the pound and the kind change together. -/
def State.countSlot (s : State) (sent : Kind) (shown point : Nat) : State :=
  let f := (s.scan.fcnt + 1) % 2 ^ 48
  let s := State.setFlip { s with scan := { s.scan with fcnt := f } } point
  (((s.wr F.SCAN_FCNT0_FCNT (f % 2 ^ 32)).wr F.SCAN_FCNT1_FCNT (f / 2 ^ 32)).wr F.SCAN_FLIP_POUND_POUND shown).wr F.SCAN_STATUS_KIND sent.num

/-- The rectangle and MODE of a check, which clear its previous value when they change (R308). [DEDUCED: log 91] -/
def CSet.check (c : CSet) (n : Nat) : List Nat :=
  [c.fld (F.SCAN_CHKn_X0_X n), c.fld (F.SCAN_CHKn_X1_X n), c.fld (F.SCAN_CHKn_Y_Y0 n), c.fld (F.SCAN_CHKn_Y_Y1 n), c.fld (F.SCAN_CHKn_CFG_MODE n)]

/-- Previous check values at the start of a slot (R308). -/
def State.prevChecks (s : State) (p : Nat) (sent : Kind) : List (Option Nat) :=
  (List.range 8).map (fun n =>
    if ¬ sent.rows ∨ (s.setOf p).check n ≠ (s.setOf s.scan.slot).check n then none else (s.scan.prev[n]?).getD none)

/-- The pound whose frame a kind shows. -/
def State.shownPound (s : State) (p : Nat) (k : Kind) : Nat :=
  if k = .repeated then ((s.scanBuf.bind (fun i => s.comp.bufs[i]?)).map Buf.pound).getD p else p

/-- A follower takes the owner's counter where they differ (R394). -/
def State.fixFcnt (s : State) : State :=
  match s.pair.fcntFix with
  | none => s
  | some f =>
    let s := s.raise 0xF4B bTOW s.scan.fcnt f
    { s with scan := { s.scan with fcnt := f }, pair := { s.pair with fcntFix := none } }

/-- The exits of HOLD that slot `p` ends: those from a pound not later than it. -/
def State.dropExits (s : State) (p : Nat) : State :=
  { s with comp := { s.comp with holdExit := s.comp.holdExit.filter (fun q => laterPound q p) } }

/-- The HOLD exit at a slot (R66): WAITING, WAITED and event 0x00C. A slot of a pound in HOLD is part of no exit before it. -/
def State.holdExitSlot (s : State) (p : Nat) (k : Kind) : State × Kind :=
  match s.holdExitAt p k with
  | none => (if has (s.setOf p).mode mHOLD then s.dropExits p else s, k)
  | some (k', true) =>
    let w := s.rd F.TOP_HOLD_STAT_WAITED
    let ok := (k = .frame ∨ k = .background) ∧ s.launchable p
    let s := s.dropExits p
    ((s.wr F.TOP_HOLD_STAT_WAITING (b2n (!s.comp.holdExit.isEmpty))).raise 0x00C bTOP w (if ok then 1 else 2), k')
  | some (k', false) => (s.inc F.TOP_HOLD_STAT_WAITED, k')

/-- The scanning frame is marked aborted (R305). -/
def State.markAborted (s : State) : State :=
  State.wr { s with comp := { s.comp with bufs := s.comp.bufs.map (fun b => if b.role = .scanning then { b with aborted := true } else b) } }
    F.SCAN_STATUS_ABORTED 1

/-- The frame being sent ends with ABORT (R305): cause 1 an uncorrectable read, 2 an underrun. A follower, which sends nothing, only marks the
frame that it would be sending (R394). [DEDUCED: log 90] -/
def State.abortFrame (s : State) (cause lane : Nat) : State :=
  if s.scan.shadow = .frame ∨ s.scan.shadow = .repeated then s.markAborted
  else if ¬ s.scan.active ∨ s.scan.abort.isSome ∨ s.scan.endCode.isSome ∨ ¬ (s.scan.kind = .frame ∨ s.scan.kind = .repeated) then s
  else
    let s := State.markAborted { s with scan := { s.scan with abort := some cause, zeroAt := some s.slotNow } }
    let s := (s.inc F.SCAN_CNT_ABORTS).raise 0xC02 bSCAN s.scan.shown (cause + 256 * lane)
    if cause = 2 then s.noteFault 0xC02 else s

/-- A REPEAT is the last action of the recovery of a late frame, and of a layer that held its frame (R49, R241, R245). [DEDUCED: log 29] -/
def State.repeatAction (s : State) (p : Nat) : State :=
  match s.comp.results.find? (fun r => r.pound == p) with
  | some r => (s.when r.late (fun s => s.recoveryOf 0x804)).when r.held (fun s => s.recoveryOf 0x805)
  | none => s

/-- A slot in HOLD after one that was not begins a new entry into HOLD: the count of R355 begins anew. -/
def State.holdEntry (s : State) (p : Nat) : State :=
  if has (s.setOf p).mode mHOLD ∧ ¬ has (s.setOf (poundSub p 1)).mode mHOLD then { s with panel := { s.panel with inHold := false } } else s

/-- PANEL_OWN_OUT is asserted (R310). -/
def State.ownAssert (s : State) : State := State.wr { s with scan := { s.scan with ownOut := true } } F.SCAN_STATUS_OWN_OUT 1

/-- Slot `p` is sent now (R301 to R304, R394); `late` marks a late launch (R153). An unpaired device that sends anything asserts
PANEL_OWN_OUT at the latest here (R310). [DEDUCED: log 90] -/
def State.doLaunch (s : State) (p : Nat) (late : Bool) : State :=
  let cs := s.setOf p
  let idle := s.slotIdle p
  let follows := s.paired && !s.ownsSlot p
  let s := if follows then s.fixFcnt else s
  let (s, k) := s.holdExitSlot p (s.slotItem p)
  let sent : Kind := if idle then .idle else k
  -- R394; no slot is counted in TRAIN (R336)
  let counted := !idle || (follows && s.scan.pre == 0 && s.pstate != pTRAIN)
  -- the kind by which the buffers move (R394)
  let role : Kind := if idle ∧ ¬ follows then .idle else k
  let l := (s.launchOf p).getD s.dev
  let adj := signed 16 (cs.fld F.TIME_LAUNCH_ADJ)
  let start := s.launchBlock p late
  let begins := s.slotInstant p late
  let point := withAdj begins adj
  let gens := s.genCount sent start
  let carry := if s.scan.kind = .lane ∧ sent ≠ .lane then some (s.scan.bank, s.scan.start, s.lanes.genSent) else none
  let s := s.txMark start
  let lateNow := late && sent.rows
  let s := if lateNow then (s.inc F.TIME_LAUNCH_CNT_MISSED).raise 0x505 bTIME p ((begins - withAdj l adj) / 65536) else s
  let shown := s.shownPound p k
  let bank := if k = .repeated then (match s.scan.keep with | some (_, c) => c | none => cs) else cs
  let prev := s.prevChecks p sent
  let s := if counted then s.countSlot sent shown point else s
  let s := if sent = .repeated then ((s.inc F.SCAN_CNT_REPEATS).raiseOnce 0xC01 bSCAN 0 p shown).repeatAction p else s
  let s := s.holdEntry p
  let s := if sent = .card then (s.blinkSlot cs).2 else s
  let s := s.moveBufs p role
  let s := if role = .frame ∨ role = .card ∨ role = .background ∨ role = .lane then s.wr F.SCAN_STATUS_ABORTED 0 else s
  let keep := if role = .frame then some (p, cs) else if role = .repeated ∨ role = .idle then s.scan.keep else none
  let s := s.when (!s.paired && sent != .idle && !s.scan.ownOut) State.ownAssert
  let sc := { s.scan with kind := sent, shadow := if follows then k else .idle, slot := p, shown := shown, bank := bank, start := start, zeroAt := none, active := sent.rows,
                          abort := none, endCode := none, owned := s.ownsSlot p,
                          keep := keep, pre := s.scan.pre - 1, prev := prev, judged := [], waiting := none }
  let s := { s with scan := sc, time := { s.time with nextL := poundAdd p 1, armed := false, heldBack := false },
                    lanes := { s.lanes with idleFrom := none, genSent := gens, carry := carry } }
  let s := State.showGens { s with scan := { s.scan with heads := s.headsAt start } }
  -- requests that wait find no back porch in a slot without rows (R328)
  let s := s.when (!sent.rows && s.pstate == pUP) State.bcApply
  let s := match s.scan.preAbort with
    | some (c, lane) => State.abortFrame { s with scan := { s.scan with preAbort := none } } c lane
    | none => s
  s

/-- The kind that slot `p` will send, a HOLD exit included (R66, R301). -/
def State.slotKind (s : State) (p : Nat) : Kind :=
  if s.slotIdle p then .idle
  else
    let k := s.slotItem p
    match s.holdExitAt p k with | some (k', _) => k' | none => k

/-- ARM_US before a launch time, in 2^-16 ns: the arming point (R151). -/
def State.armPoint (s : State) (p l : Nat) : Int := (l : Int) - (s.setOf p).fld F.TIME_LAUNCH_ARM_US * 65536000

/-- ARM_US before L(P) (R151, R310, R311): the launch is armed; an unpaired device asserts PANEL_OWN_OUT from the first launch
other than IDLE and drops it in STANDBY; an old owner drops it. A command names a whole ns. [DEDUCED: log 138] -/
def State.launchArm (s : State) : State :=
  let p := s.time.nextL
  match s.launchOf p with
  | none => s
  | some l =>
    if s.time.armed ∨ (s.dev : Int) + 65536 ≤ s.armPoint p l then s
    else
      let s := { s with time := { s.time with armed := true, armedAt := s.dev } }
      if s.paired then
        if (s.scan.ownOut ∨ s.scan.owned) ∧ ¬ s.ownsSlot p then
          State.raise (State.wr { s with scan := { s.scan with ownOut := false, owned := false, blocked := false } } F.SCAN_STATUS_OWN_OUT 0) 0xC05 bSCAN 0 p
        else s
      else if has (s.slotSet p).mode mSTANDBY then State.wr { s with scan := { s.scan with ownOut := false } } F.SCAN_STATUS_OWN_OUT 0
      else if s.slotKind p ≠ .idle then s.ownAssert
      else s

/-- The launch was sent after its arming point (R153), by more than the whole ns that a command names. [DEDUCED: log 138] -/
def State.armedLate (s : State) (p : Nat) : Bool :=
  match s.launchOf p with
  | some l => decide (s.armPoint p l + 65536 < s.time.armedAt)
  | none => false

/-- The frame start of slot `p` (R343): at L(P) + TIME_LAUNCH.ADJ, whatever the slot carries, and though its rows wait. -/
def State.slotFrame (s : State) (p : Nat) : State :=
  let l := (s.launchOf p).getD s.dev
  let next := (s.launchOf (poundAdd p 1)).getD (l + (s.setOf p).period)
  s.frameStart (withAdj l (signed 16 ((s.setOf p).fld F.TIME_LAUNCH_ADJ))) (next - l) (s.ownsSlot p)

/-- At L(P) (R301, R153): the slot is sent, or waits for the rows of the frame before it. -/
def State.launchSlot (s : State) : State :=
  let p := s.time.nextL
  if ¬ s.time.armed then s
  else if s.scan.active then
    State.slotFrame { s with scan := { s.scan with waiting := some p }, time := { s.time with heldBack := true } } p
  else (s.doLaunch p (s.armedLate p)).slotFrame p

/-- PANEL_OWN_IN was asserted while the device drove (R311): IDLE from now, lane test data included, PANEL_OWN_OUT deasserted, event 0xC04. -/
def State.ownYield (s : State) : State :=
  let s := s.txMark s.slotNow
  State.raise (State.showGens (State.wr { s with scan := { s.scan with ownOut := false, kind := .idle } } F.SCAN_STATUS_OWN_OUT 0)) 0xC04 bSCAN s.scan.slot 2

/-- The last back-porch row of a frame has ended (R153, R311): a launch that waits is sent late. -/
def State.rowsEnd (s : State) : State :=
  if ¬ s.scan.active then s
  else
    let s := { s with scan := { s.scan with active := false, heads := List.replicate 48 idleBlock } }
    let s := if s.scan.blocked ∧ s.scan.ownOut then s.ownYield else s
    match s.scan.waiting with
    | some p => s.doLaunch p true
    | none => s

/-- The first front-porch row carries the end code (R298, R299, R305); the panel applies a committed frame. -/
def State.frameEndCode (s : State) : State :=
  if ¬ s.scan.active ∨ s.scan.endCode.isSome then s
  else
    let ok := s.scan.abort.isNone
    { s with scan := { s.scan with endCode := some ok, heads := s.headsAt (s.rowSlot s.scan.bank.vact), panel := if ok then some (s.scan.shown, s.scan.kind) else s.scan.panel } }

/-- A payload block's data is not in the read-ahead at its slot (R305). -/
def State.scanUnderrun (s : State) (lane : Nat) : State := s.abortFrame 2 lane

/-- A scan-out quarter is reset while it scans a frame older than the banks it reloads (R302): the frame's bank is lost and the frame is
treated as ended with ABORT; the cause that event 0xC02 names for it is open. [DESIGN CHOICE: log 139] -/
def State.quarterReset (s : State) : State :=
  match s.scan.keep with
  | some (p, _) =>
    if laterPound (poundSub s.pound 2) p then
      let (c, s) := s.chooseNat
      let s := s.abortFrame (c % 256) 0
      State.markAborted { s with scan := { s.scan with keep := none } }
    else s
  | none => s

/-- An uncorrectable read of the FRAME class by scan-out (R272, R305): the frame being sent aborts, or, in the read-ahead between arming
and slot, the one about to be sent, which once the active rows of the frame before it are out may be that frame again. -/
def State.scanUncorrectable (s : State) (moor lane : Nat) : State :=
  let next : Bool := match (s.queuedBuf s.time.nextL).bind (fun i => s.comp.bufs[i]?) with | some b => b.moors.contains moor | none => false
  if s.time.armed ∧ (next ∨ ¬ s.scan.active ∨ s.scan.endCode.isSome) then { s with scan := { s.scan with preAbort := some (1, lane) } } else s.abortFrame 1 lane

/-- The value of check `n` (R307). -/
def State.checkValue (s : State) (n : Nat) : Nat :=
  let c := s.setOf s.scan.slot
  let x0 := c.fld (F.SCAN_CHKn_X0_X n)
  let x1 := c.fld (F.SCAN_CHKn_X1_X n)
  let y0 := c.fld (F.SCAN_CHKn_Y_Y0 n)
  let y1 := c.fld (F.SCAN_CHKn_Y_Y1 n)
  let b := s.scan.bank.bpp24
  lzCrc ((List.range (y1 + 1 - y0)).flatMap (fun dy => (List.range (x1 + 1 - x0)).flatMap (fun dx =>
    beBytes 4 (pix b (s.sentWord (x0 + dx) (y0 + dy))))))

/-- The result of a check (R308): 1 PASS, 2 FAIL, 3 RECORDED. [DEDUCED: log 91] -/
def checkResult (mode value exp : Nat) (prev : Option Nat) : Nat :=
  if mode = 1 then 3
  else if mode = 2 then (if value = exp then 1 else 2)
  else
    match prev with
    | none => 3
    | some q => if mode = 3 then (if value = q then 1 else 2) else (if value = q then 2 else 1)

/-- The last row of a check's rectangle has been sent (R308, R309). [DEDUCED: log 91] -/
def State.checkDone (s : State) (n : Nat) : State :=
  let c := s.setOf s.scan.slot
  let mode := c.fld (F.SCAN_CHKn_CFG_MODE n)
  let setPrev (s : State) (v : Option Nat) : State :=
    { s with scan := { s.scan with prev := modAt s.scan.prev n (fun _ => v), judged := n :: s.scan.judged } }
  if 8 ≤ n ∨ mode = 0 ∨ ¬ s.scan.active ∨ s.scan.judged.contains n then s
  else if s.scan.abort.isSome ∨ s.sentGeom.cols * s.sentGeom.vcols ≤ c.fld (F.SCAN_CHKn_X1_X n)
      ∨ s.sentGeom.rows * s.sentGeom.vrows ≤ c.fld (F.SCAN_CHKn_Y_Y1 n) then setPrev s none
  else
    let v := s.checkValue n
    let r := checkResult mode v (c.fld (F.SCAN_CHKn_EXP_EXP n)) ((s.scan.prev[n]?).getD none)
    let s := setPrev s (some v)
    let s := (s.wr F.SCAN_CHK_RES_RES (putBits (s.rd F.SCAN_CHK_RES_RES) (2 * n + 1) (2 * n) r)).wr (F.SCAN_CHKn_CRC_CRC n) v
    if r = 1 then s.inc F.SCAN_CHK_CNT_PASS
    else if r = 2 then
      let s := (s.inc F.SCAN_CHK_CNT_FAIL).raise 0xC03 bSCAN (n + 256 * mode) v
      if c.fld (F.SCAN_CHKn_CFG_ALERT n) = 1 then s.alert F.TOP_ALERT_CHECK else s
    else s

/-- SCAN_ROWS of a committed set. -/
def CSet.scanRows (c : CSet) : Nat := satN 65535 c.maxRows * 65536 + satN 65535 c.totalRows

/-- Scan-out at a reset (R80, R311): lanes stop, PANEL_OWN_OUT falls. -/
def ScanSt.stopped (c : ScanSt) : ScanSt := { ScanSt.reset with panel := c.panel, ownIn := c.ownIn }

end Sys2Proof.Machine
end

