-- ==== Sys2Proof/Machine/Pair.lean ====
section
/-! DEFINITION. The redundant pair and the towpath: messages, heartbeats, packet repair, seals, fitness, takeover, yield and
joining (R390 to R414). -/

namespace Sys2Proof.Machine

/-- The words of block `b` that its instances stage (R36), ascending: the registers with RWS fields, and for TOP the pending
value of TOP_MODE_ACT (R58). -/
def stagedAddrs (b : Nat) : List Nat := if b = bTOP then insertAddr (rwsAddrs bTOP) R.TOP_MODE_ACT else rwsAddrs b

/-- A staged word of a committed set: its RWS bits, or the effective mode. -/
def CSet.stagedWord (c : CSet) (a : Nat) : Word :=
  if a = R.TOP_MODE_ACT then BitVec.ofNat 32 c.mode.toNat else c.regs.word a &&& BitVec.ofNat 32 (rwsMask a)

/-- The words of a whole committed set in ascending ledger order. -/
def CSet.words (c : CSet) : List Word := (List.range 20).flatMap (fun b => (stagedAddrs b).map c.stagedWord)

/-- A committed set with STANDBY and ownership taken as 0 (R398). -/
def CSet.plain (c : CSet) : CSet :=
  { c with mode := c.mode &&& 0xDF#8, own := false,
           regs := c.regs.setWord R.TOP_MODE (c.regs.word R.TOP_MODE &&& 0xFFFFFFDF#32) }

/-- CSET of a seal (R398). [DEDUCED: log 122] -/
def CSet.crc (c : CSet) : Nat := (crc32c (wordsLe c.plain.words)).toNat

/-- The pound that the next close able to commit something decided now opens (R407). -/
def State.commitPound (s : State) : Nat := if s.lock.phase = .level then poundAdd s.lock.nextPound 1 else s.lock.nextPound

/-- The device is the follower of a pair (R392). -/
def State.follows (s : State) : Bool := s.paired && !s.cset.own

/-- The device is the owner of a pair. -/
def State.owns (s : State) : Bool := s.paired && s.cset.own

/-- The towpath is up. -/
def State.towUp (s : State) : Bool := s.rd F.TOW_STATUS_UP == 1

/-- `s` with the pair state changed. -/
def State.modPair (s : State) (f : PairSt → PairSt) : State := { s with pair := f s.pair }

/-- The START block of a message (R396), with its CHK (R315). -/
def towStart (mtype len mseq : Nat) : Nat := ctrlBlock (0x2D * 2 ^ 56 + mtype % 16 * 2 ^ 52 + len % 65536 * 2 ^ 32 + mseq % 2 ^ 24 * 2 ^ 8)

/-- The END block of a message (R396). -/
def towEnd (crc : Nat) : Nat := ctrlBlock (0x66 * 2 ^ 56 + crc % 2 ^ 32 * 2 ^ 24)

/-- A message as a lane carries it (R396): its payload is filled up to whole blocks with zeros. -/
def towMsg (lane mtype mseq : Nat) (data : List Byte) : TowMsg :=
  let pad := data ++ List.replicate ((8 - data.length % 8) % 8) 0#8
  { lane := lane, start := towStart mtype (pad.length / 8) mseq, data := pad, stop := towEnd (lzCrc pad), sync := true }

/-- MTYPE, LEN and MSEQ of a message's START block (R396). [DEDUCED: log 134] -/
def TowMsg.mtype (m : TowMsg) : Nat := bitsOf m.start 55 52
def TowMsg.len (m : TowMsg) : Nat := bitsOf m.start 47 32
def TowMsg.mseq (m : TowMsg) : Nat := bitsOf m.start 31 8

/-- The sender's queue order (R396): HB, then TAKE and YIELD, then the others. -/
def towRank (mtype : Nat) : Nat := if mtype = 4 then 0 else if mtype = 5 ∨ mtype = 6 then 1 else 2

/-- A message waits before those of a later rank, never before the one in progress (R396). [DEDUCED: log 99] -/
def towInsert (x : TowMsg × Nat) (q : List (TowMsg × Nat)) : List (TowMsg × Nat) :=
  let stays (y : TowMsg × Nat) : Bool := decide (y.2 < y.1.len + 2) || decide (towRank y.1.mtype ≤ towRank x.1.mtype)
  q.takeWhile stays ++ x :: q.dropWhile stays

/-- Blocks queued on a lane now, the one in progress included (R396). -/
def State.towBlocks (s : State) (n : Nat) : Nat :=
  ((drainLane (others (s.pair.drained.getD n 0) (s.laneSlot (56 + n))) (s.pair.queue.getD n [])).map Prod.snd).sum

/-- The lane a message goes to (R396): the usable lane with the fewest blocks queued, the lower on a tie. [DEDUCED: log 99] -/
def State.pickLane (s : State) : Option Nat :=
  ((List.range 4).filter (bitAt (s.rd F.TOW_STATUS_TX_USE))).foldl (fun (b : Option Nat) n =>
    match b with
    | none => some n
    | some m => if s.towBlocks n < s.towBlocks m then some n else b) none

/-- Put a message on a lane: its blocks take the lane's slots but for those of ALIGN blocks (R317). [DEDUCED: log 99, 100] -/
def State.sendOn (s : State) (n mtype : Nat) (data : List Byte) : State :=
  let s := s.towMark n (s.towSrc n) true
  s.modPair (fun p =>
    let m := towMsg n mtype p.txSeq data
    { p with out := p.out ++ [m], txSeq := (p.txSeq + 1) % 2 ^ 24, queue := modAt p.queue n (towInsert (m, m.len + 2)) })

/-- Send a message other than HB; while the towpath is down none is sent (R395, R396). -/
def State.sendTow (s : State) (mtype : Nat) (data : List Byte) : State :=
  if ¬ s.towUp then s else match s.pickLane with | some n => s.sendOn n mtype data | none => s

/-- Start a fresh count of what makes the follower FIT (R405). [DEDUCED: log 102] -/
def PairSt.unfit (p : PairSt) : PairSt := { p with rapped := [] }

/-- The follower becomes unfit (R405), event 0xF47. [DEDUCED: log 102] -/
def State.unfit (s : State) (cause : Nat) : State :=
  let s := s.modPair PairSt.unfit
  if s.rd F.TOW_STATUS_FIT = 0 then s else (s.wr F.TOW_STATUS_FIT 0).raise 0xF47 bTOW 0 cause

/-- The contexts of a scene's tiles (R165). -/
def Scene.ctxs (c : Scene) (slot : Nat) : List Nat :=
  c.descs.flatMap (fun d => if d.tiled then
    (List.range d.tilesY).flatMap (fun y => (List.range d.tilesX).map (fun x => c.ctx slot d.layer x y)) else [])

/-- Contexts open now. -/
def State.openCtxs (s : State) : List Nat :=
  (List.range 2).flatMap (fun k => match (s.strm.slot k).cur with | some c => c.ctxs k | none => [])

/-- The follower becomes FIT where every condition of R405 holds. [DEDUCED: log 102] -/
def State.fitCheck (s : State) : State :=
  if s.rd F.TOW_STATUS_FIT = 1 then s
  else if s.follows ∧ s.hot ∧ s.towUp ∧ s.cm F.TOW_SEAL_MATCH_RUN ≤ s.pair.matchRun ∧ ¬ s.pair.schedBad
      ∧ s.rd F.TOW_STATUS_JOINING = 0 ∧ s.openCtxs.all (fun c => s.pair.rapped.contains c) then
    (s.wr F.TOW_STATUS_FIT 1).raise 0xF47 bTOW 1 1
  else s

/-- Since when something has held for 1 ms. -/
def ageOk (now : Nat) (o : Option Nat) : Bool := match o with | some t => decide (t + 1000000 ≤ now) | none => false

/-- The towpath link of a lane is down while it tests (R333). -/
def State.towTest (s : State) (n : Nat) : Bool := s.cm (F.LANE_n_TEST_GEN_PAT (56 + n)) != 0

/-- Lane usability and the towpath's state (R395): event 0xF40 on a change and where an own receiver has `lost` its lock; down makes the
follower unfit. -/
def State.laneUse (s : State) (lost : Bool) : State :=
  if ¬ s.paired then s
  else
    let tx := maskOf ((List.range 4).filter (fun n => ageOk s.clk.now ((s.pair.lockAt[n]?).getD none) && !s.towTest n))
    let rx := (List.range 4).filter (fun n => ageOk s.clk.now ((s.pair.rxAt[n]?).getD none) && !s.towTest n)
    let need := s.cm F.TOW_CFG_MIN_LANES
    let up : Bool := need ≤ popCount 4 tx && need ≤ rx.length
    let was := s.towUp
    let old := s.rd F.TOW_STATUS_TX_USE
    let s := (s.wr F.TOW_STATUS_TX_USE tx).wr F.TOW_STATUS_UP (b2n up)
    let s := if lost ∨ tx ≠ old ∨ up ≠ was then s.raise 0xF40 bTOW tx (b2n up) else s
    let s := if up then s else s.modPair (fun p => { p with sick := true })
    (s.when (was && !up) (fun s => s.unfit 3)).fitCheck

/-- Lane usability as time goes by (R395). -/
def State.laneCheck (s : State) : State := s.laneUse false

/-- A towpath receiver's lock changes (R319, R395). -/
def State.towLock (s : State) (n : Nat) (locked : Bool) : State :=
  if n < 56 ∨ 60 ≤ n then s
  else
    let had := ((s.pair.rxAt[n - 56]?).getD none).isSome
    State.laneUse (s.modPair (fun p => { p with rxAt := modAt p.rxAt (n - 56) (fun _ => if locked then some s.clk.now else none) })) (had && !locked)

/-- A control block's CHK is that of its other bytes (R315). -/
def chkOk (w : Nat) : Bool := w % 256 == blockChk w

/-- A message is sound (R396): sync headers, CHK of START and END, as many data blocks as LEN, and the CRC. [DEDUCED: log 100] -/
def TowMsg.ok (m : TowMsg) : Bool :=
  m.sync && chkOk m.start && chkOk m.stop && bitsOf m.start 63 56 == 0x2D && bitsOf m.stop 63 56 == 0x66 && decide (1 ≤ m.len)
    && decide (m.len ≤ 2048) && m.data.length == 8 * m.len && bitsOf m.stop 55 24 == lzCrc m.data

/-- MSEQ bookkeeping (R396). -/
def PairSt.mark (p : PairSt) (q : Nat) : PairSt :=
  match p.rxSeq with
  | none => { p with rxSeq := some q }
  | some r =>
    if laterMod 24 q r then
      let d := (q + 2 ^ 24 - r) % 2 ^ 24
      { p with rxSeq := some q, gaps := p.gaps ++ ((List.range (d - 1)).map (fun i => (r + 1 + i) % 2 ^ 24)) }
    else { p with gaps := p.gaps.filter (· ≠ q) }

/-- A fragment goes into the list in the order of MSEQ (R396). -/
def fragInsert (x : DeltaFrag) : List DeltaFrag → List DeltaFrag
  | [] => [x]
  | h :: r => if laterMod 24 h.mseq x.mseq then x :: h :: r else h :: fragInsert x r

/-- The run of fragments that begins with `f`, each of which follows the one before (R399), and the rest. -/
def fragRun (f : DeltaFrag) : List DeltaFrag → List DeltaFrag × List DeltaFrag
  | [] => ([f], [])
  | g :: r =>
    if ¬ f.last ∧ g.frag = f.frag + 1 ∧ g.pound = f.pound then
      let (a, b) := fragRun g r
      (f :: a, b)
    else ([f], g :: r)

/-- The DELTAs that are whole among the fragments of one kind, in order of MSEQ, and the fragments that wait (R399): a run that lacks a
fragment which no missing message can still bring is lost. -/
def fragSort (gaps : List Nat) : Nat → List DeltaFrag → List (List DeltaFrag) × List DeltaFrag
  | 0, l => ([], l)
  | _ + 1, [] => ([], [])
  | n + 1, f :: r =>
    let (run, rest) := fragRun f r
    let (whole, wait) := fragSort gaps n rest
    let last := run.getLastD f
    let between (a b : Nat) : Bool := gaps.any (fun q => laterMod 24 q a && laterMod 24 b q)
    let before : Bool := gaps.any (laterMod 24 f.mseq)
    let after : Bool := match rest with | [] => true | g :: _ => between last.mseq g.mseq
    if f.frag = 0 ∧ last.last then (if between f.mseq last.mseq then (whole, run ++ wait) else (run :: whole, wait))
    else if (f.frag ≠ 0 ∧ ¬ before) ∨ (¬ last.last ∧ ¬ after) then (whole, wait)
    else (whole, run ++ wait)

/-- The length of a block sequence up to its LAST block, without padding. -/
def lzSpan : Nat → List Byte → Nat
  | 0, _ => 0
  | n + 1, b =>
    if b.length < 16 then b.length
    else
      let len := 16 + leAt b 8 4
      if bitAt (leAt b 0 1) 2 then len else len + lzSpan n (b.drop len)

/-- The bytes that the blocks of a sequence say they make (R416): the destination of its decoding. -/
def lzMakes : Nat → List Byte → Nat
  | 0, _ => 0
  | n + 1, b => if b.length < 16 then 0 else min 65536 (leAt b 4 4) + lzMakes n (b.drop (16 + leAt b 8 4))

/-- A whole DELTA goes to the engine to be decoded (R399, R420). -/
def State.decodeDelta (s : State) (kind : Nat) (run : List DeltaFrag) : State :=
  let body := run.flatMap DeltaFrag.body
  let src := body.take (lzSpan body.length body)
  (s.lzSubmit (lzNew 0 true 65536 (lzMakes src.length src) (.delta kind ((run.head?.map DeltaFrag.pound).getD 0))) src).2

/-- DELTAs of one kind that have become whole go on; what is lost is dropped (R399). -/
def State.deltaTryKind (s : State) (kind : Nat) : State :=
  let l := s.pair.frags.filter (fun f => f.kind == kind)
  let r := fragSort s.pair.gaps l.length l
  (s.modPair (fun p => { p with frags := p.frags.filter (fun f => f.kind ≠ kind) ++ r.2 })).each r.1 (fun s run => s.decodeDelta kind run)

/-- DELTAs that have become whole go on (R399). -/
def State.deltaTry (s : State) : State := if s.pair.frags = [] then s else s.each [1, 2, 3, 4] State.deltaTryKind

/-- A message arrives (R392, R395, R396): whether it is to be acted on as one of type `mtype`; one of another type is none of these. [DEDUCED: log 100, 134] -/
def State.receive (s : State) (mtype : Nat) (m : TowMsg) : Bool × State :=
  if ¬ s.paired ∨ 4 ≤ m.lane then (false, s)
  else if ¬ m.ok then (false, s.inc F.TOW_MSG_CNT_BAD)
  else
    let s := s.modPair (fun p => p.mark m.mseq)
    (m.mtype == mtype && (mtype == 4 || s.towUp), s.deltaTry)

/-- An MSEQ still missing 100 µs after a later one is lost (R396, R404). -/
def State.msgLost (s : State) (q : Nat) : State :=
  if ¬ s.pair.gaps.contains q then s
  else
    let s := s.modPair (fun p => { p with gaps := p.gaps.filter (· ≠ q), sick := true })
    State.deltaTry ((s.inc F.TOW_MSG_CNT_LOST).raiseOnce 0xF41 bTOW 0 q s.pound)

/-- Device time of the next close (R20), in 2^-16 ns; 0 before one is fixed. -/
def State.nextClose (s : State) : Nat :=
  match s.launchOf (poundSub s.lock.nextPound 2) with
  | some l => l - s.cm F.TOP_LOCK_TIME_LEAD * 1000 * 65536
  | none => 0

/-- The side: 1 A, 2 B. -/
def State.side (s : State) : Nat := s.pwr.straps.pair

/-- The payload of a heartbeat (R397). -/
def State.hbData (s : State) : List Byte :=
  let flags := b2n s.cset.own + 2 * s.cm F.TOW_CFG_HOT + 4 * s.rd F.TOW_STATUS_FIT + 8 * b2n (s.side == 2) + 16 * s.rd F.TOW_STATUS_JOINING
  let c := s.nextClose / 65536
  beBytes 4 s.pound ++ beBytes 1 flags ++ beBytes 1 (s.rd F.TOW_STATUS_RX_LOCK) ++ beBytes 2 0 ++ beBytes 8 s.scan.fcnt
    ++ beBytes 4 (c / 1000000000 % 2 ^ 32) ++ beBytes 4 (c % 1000000000)

/-- TAKE and YIELD (R401). -/
def takeData (t cause : Nat) : List Byte := beBytes 4 t ++ beBytes 1 cause ++ beBytes 3 0

/-- TAKE and YIELD are sent again at every tick until T opens (R401). -/
def State.repeatTake (s : State) : State :=
  let s := match s.pair.take with | some k => if k.committed then s else s.sendTow 5 (takeData k.t k.cause) | none => s
  match s.pair.yieldT with | some t => s.sendTow 6 (takeData t 4) | none => s

/-- Hand DELTA content to the engine for sending (R399, R420); false where it is not taken. -/
def State.sendDelta (s : State) (kind pound : Nat) (body : List Byte) : Bool × State :=
  if ¬ s.towUp then (false, s) else s.lzSubmit (lzNew 1 false 65536 (2 * body.length + 65536) (.delta kind pound)) body

/-- The fragments of an encoded DELTA go out (R399). -/
def State.sendFragments (s : State) (kind pound : Nat) : Nat → Nat → List Byte → State
  | 0, _, _ => s
  | n + 1, i, body =>
    let f := body.take 16376
    let rest := body.drop 16376
    let s := s.sendTow 2 (beBytes 4 pound ++ beBytes 1 kind ++ beBytes 1 (b2n (rest == [])) ++ beBytes 2 i ++ f)
    if rest = [] then s else State.sendFragments s kind pound n (i + 1) rest

/-- Pixel words as the Basin holds them and as a message carries them (R6, R396): one is the other with the bytes of each word reversed. -/
def swapWords : List Byte → List Byte
  | a :: b :: c :: d :: r => d :: c :: b :: a :: swapWords r
  | _ => []

/-- The content of a SURFACE (R399): the pixels of a CARD surface (R285). [DEDUCED: log 104] -/
def State.surfaceBytes (s : State) (c : CardInst) (l : List Nat) : List Byte :=
  beBytes 1 c.slot ++ beBytes 1 c.layer ++ beBytes 2 0 ++ beBytes 2 c.width ++ beBytes 2 c.height
    ++ swapWords (s.basin.readList l 0 (4 * c.width * c.height))

/-- CRC-32C of the MODE_SCHED table, 0 without one (R399). -/
def State.schedCrc (s : State) : Nat := match s.table 1 0 with | some t => lzCrc t | none => 0

/-- The SNAPSHOT for pound `j` (R399): the committed set's words and rung, the schedule's CRC, then the layers' histories. [DESIGN CHOICE: log 103] -/
def State.snapshot (s : State) (j : Nat) : List Byte :=
  s.cset.words.flatMap (fun w => beBytes 4 w.toNat) ++ beBytes 1 s.cset.rung ++ beBytes 4 s.schedCrc ++ beBytes 2 s.comp.hist.length
    ++ s.comp.hist.flatMap (fun h =>
      let age : Nat := match h.ready with | some q => min 254 ((j + 2 ^ 32 - q) % 2 ^ 32) | none => 255
      beBytes 1 h.slot ++ beBytes 1 h.layer ++ beBytes 1 age ++ beBytes 1 h.held ++ beBytes 4 (h.ready.getD 0))

/-- The owner sees JOINING (R413): a SNAPSHOT for J, its open pound plus 3; again for a later J where that one failed. -/
def State.seeJoining (s : State) (joining : Bool) : State :=
  if ¬ s.owns then s
  else if ¬ joining then s.modPair (fun p => { p with sentJ := none })
  else
    let j := poundAdd s.pound 3
    let again : Bool := match s.pair.sentJ with | none => true | some (q, _) => !laterPound q s.pound
    if again then ((s.modPair (fun p => { p with sentJ := some (j, false), surfQ := [] })).sendDelta 3 j (s.snapshot j)).2 else s

/-- The SURFACE of a CARD instance for pound `j` (R413): what the composition of J − 1 reads. -/
def State.sendSurface (s : State) (j : Nat) (x : Nat × Nat) : Bool × State :=
  match s.tug.card x.1 x.2 with
  | none => (true, s)
  | some c =>
    let back := if c.front then c.surf0 else c.surf1
    let read := if s.tug.unready c.slot c.layer (poundSub j 1) then c.surf c.front else back
    s.sendDelta 4 j (s.surfaceBytes c read)

/-- SURFACEs for `j` are handed to the engine as long as it takes them (R413, R420). [DEDUCED: log 104] -/
def State.putSurfaces (s : State) (j : Nat) : List (Nat × Nat) → State
  | [] => s.modPair (fun p => { p with surfQ := [] })
  | x :: r =>
    match s.sendSurface j x with
    | (true, s) => State.putSurfaces s j r
    | (false, s) => s.modPair (fun p => { p with surfQ := x :: r })

/-- SURFACEs that wait for the engine go on while J − 1 is open (R413). [DEDUCED: log 104] -/
def State.moreSurfaces (s : State) : State :=
  match s.pair.surfQ, s.pair.sentJ with
  | x :: r, some (j, true) =>
    if s.pound ≠ poundSub j 1 then s.modPair (fun p => { p with surfQ := [] })
    else if s.lzOpen 1 then s.putSurfaces j (x :: r)
    else s
  | _, _ => s

/-- The SURFACEs for J go out once no update tagged J − 1 is unfinished (R413). [DEDUCED: log 104] -/
def State.sendSurfaces (s : State) : State :=
  match s.pair.sentJ with
  | some (j, false) =>
    if s.pound ≠ poundSub j 1 ∨ s.tug.queue.any (fun q => ¬ laterPound q.tag s.pound) then s
    else s.modPair (fun p => { p with sentJ := some (j, true), surfQ := s.tug.cards.map (fun c => (c.slot, c.layer)) })
  | _ => s

/-- A tick of 1 ms (R397): heartbeats out, PAIR_HB_OUT turned, a missed heartbeat counted. [DEDUCED: log 100] -/
def State.hbTick (s : State) : State :=
  if ¬ s.paired then s
  else
    let heard := s.pair.heard
    let s := s.modPair (fun p =>
      { p with
        hbOut := !p.hbOut && !s.pwr.fault, heard := false, out := [], sinceHb := p.sinceHb + 1,
        missRun := if heard then 0 else p.missRun + 1, sick := p.sick || !heard })
    let s := if heard then s else (s.inc F.TOW_HB_MISS_COUNT).raiseOnce 0xF4A bTOW 0 s.pair.missRun s.pound
    let s := s.wr F.TOW_STATUS_PARTNER (b2n (decide (s.pair.sinceHb ≤ 3)))
    let s := s.laneCheck
    let use := s.rd F.TOW_STATUS_TX_USE
    let s := s.each (maskBits 4 (if use = 0 then 15 else use)) (fun s n => s.sendOn n 4 s.hbData)
    s.repeatTake.sendSurfaces.moreSurfaces

/-- An edge on PAIR_HB_IN counts as a heartbeat (R397). -/
def State.hbEdge (s : State) : State := if s.paired then s.modPair (fun p => { p with heard := true }) else s

/-- A follower that may decide a takeover (R406, R411): its FAULT_L is clear and its Basin ready. -/
def State.mayTake (s : State) : Bool := !s.pwr.fault && s.rd F.BASIN_STATUS_READY == 1

/-- The follower decides a takeover (R406, R407): its kind is fixed now, event 0xF43, TAKE is sent. Causes 1 to 3 are faults of the partner
(R48, R49), whose recovery path acts at the open of T. [DEDUCED: log 29] -/
def State.decideTake (s : State) (cause t : Nat) : State :=
  let kind := if cause = 3 then 3
    else if s.hot ∧ s.rd F.TOW_STATUS_FIT = 1 ∧ s.rd F.TOW_STATUS_HEALTHY = 1 then 1 else 2
  let s := s.modPair (fun p => { p with take := some { cause := cause, kind := kind, t := t, committed := false }, ownMiss := 0 })
  let s := s.raise 0xF43 bTOW cause t
  let s := if cause ≤ 3 then s.noteFaultIn 0xF43 true else s
  s.sendTow 5 (takeData t cause)

/-- A follower with a cause for a takeover (R406): it decides one where it may and none is under way. [DEDUCED: log 29] -/
def State.takeOver (s : State) (cause t : Nat) : State :=
  if ¬ s.follows ∨ ¬ s.mayTake ∨ s.pair.take.isSome then s else s.decideTake cause t

/-- Three consecutive missed heartbeats (R406). -/
def State.hbLost (s : State) : State := if s.lock.running ∧ 3 ≤ s.pair.missRun then s.takeOver 2 s.commitPound else s

/-- The filtered FAULT input asserts (R391, R406). -/
def State.partnerFault (s : State) : State :=
  if s.cm F.TOW_CFG_FAULT_EN = 1 ∧ s.lock.running then s.takeOver 1 s.commitPound else s

/-- Eyes of a DELTA (R399). -/
def eyesOf (b : List Byte) : List Eye :=
  (List.range (beAt b 0 1)).map (fun i =>
    { ex := signed 32 (beAt b (4 + 12 * i) 4), ey := signed 32 (beAt b (8 + 12 * i) 4), ez := beAt b (12 + 12 * i) 4 })

/-- The bytes of an eye set. -/
def eyeBytes (l : List Eye) : List Byte :=
  beBytes 1 l.length ++ beBytes 3 0 ++ l.flatMap (fun e => beBytes 4 (unsigned 32 e.ex) ++ beBytes 4 (unsigned 32 e.ey) ++ beBytes 4 e.ez)

/-- A decoded DELTA takes effect in the follower (R249, R250, R414). -/
def State.applyDelta (s : State) (kind pound : Nat) (b : List Byte) : State :=
  if ¬ s.follows then s
  else if kind = 1 then
    { s with comp := { s.comp with ownerEyes := ((pound, eyesOf b) :: s.comp.ownerEyes.filter (fun e => e.1 ≠ pound)).take 4 } }
  else if kind = 2 then { s with comp := { s.comp with rungReq := beAt b 0 1, gov := beAt b 4 4, rungDue := true } }
  else if kind = 3 then s.modPair (fun p => { p with snap := some (pound, b), surfs := p.surfs.filter (fun x => x.1 = pound) })
  else if kind = 4 then s.modPair (fun p => { p with surfs := p.surfs ++ [(pound, b)] })
  else s

/-- A fragment of a DELTA of the row's kind (R399): it is among the fragments before what its MSEQ was missing for is judged. -/
def State.deltaIn (s : State) (kind : Nat) (m : TowMsg) : State :=
  if ¬ (s.receive 2 m).1 ∨ beAt m.data 4 1 ≠ kind then (s.receive 2 m).2
  else
    let f : DeltaFrag := { mseq := m.mseq, kind := kind, pound := beAt m.data 0 4, frag := beAt m.data 6 2, last := bitAt (beAt m.data 5 1) 0, body := m.data.drop 8 }
    State.deltaTry (s.modPair (fun p => { p.mark m.mseq with frags := fragInsert f p.frags }))

/-- The end of an engine job for the towpath (R427); the engine may take a further surface. -/
def State.pairDeliver (s : State) (r : LzRec) : State :=
  match r.job.tag with
  | .delta kind pound =>
    if r.status ≠ lzDONE then s.moreSurfaces
    else if r.job.decode then s.applyDelta kind pound r.out
    else (s.sendFragments kind pound (r.out.length / 16376 + 1) 0 r.out).moreSurfaces
  | .log _ _ => s

/-- Runs of consecutive SEQ values of one group. -/
def seqRuns : List Nat → List (Nat × Nat)
  | [] => []
  | a :: r =>
    match seqRuns r with
    | (b, n) :: q => if b = a + 1 then (a, n + 1) :: q else (a, 1) :: (b, n) :: q
    | [] => [(a, 1)]

/-- The header of a REPAIR record (R400). -/
def repairRec (kind grp chan seq count plen : Nat) : List Byte :=
  beBytes 1 kind ++ beBytes 1 grp ++ beBytes 2 chan ++ beBytes 4 seq ++ beBytes 2 count ++ beBytes 2 plen ++ beBytes 4 0

/-- Groups that were just resolved with missing packets send one WANT for each run (R402). -/
def State.sendWants (s : State) : State :=
  s.each s.strm.chans (fun s c =>
    s.each (c.groups.filter (fun g => g.st == 1 && g.wanted ≠ [] && !s.pair.wants.any (fun w => w.grp == c.grp && w.chan == c.chan && w.k == g.k)))
      (fun s g =>
        s.each (seqRuns g.wanted) (fun s r =>
          let s := s.modPair (fun p => { p with wants := p.wants ++ [{ grp := c.grp, chan := c.chan, k := g.k, seq := r.1, count := r.2, answered := false }] })
          s.sendTow 3 (repairRec 1 c.grp c.chan r.1 r.2 0))))

/-- The UDP payload of a packet as moored (R400). -/
def packetBytes (chan : Nat) (p : Pkt) : List Byte :=
  let h := beBytes 1 1 ++ beBytes 1 1 ++ beBytes 1 p.flags ++ beBytes 1 p.key ++ beBytes 2 chan ++ beBytes 2 p.data.length ++ beBytes 4 p.seq
  h ++ beBytes 4 (lzCrc h) ++ p.data

/-- A packet the device holds (R402). -/
def State.heldPacket (s : State) (grp chan seq : Nat) : Option Pkt :=
  ((chanOf s.strm.chans grp chan).bind (fun c => c.group (seq / 8))).bind (fun g => g.pkt seq)

/-- A WANT (R402): HAVE for each packet held, NONE for the rest. -/
def State.repairWant (s : State) (m : TowMsg) : State :=
  let (ok, s) := s.receive 3 m
  if ¬ ok ∨ beAt m.data 0 1 ≠ 1 then s
  else
    let grp := beAt m.data 1 1
    let chan := beAt m.data 2 2
    let seqs := (List.range (min 8 (beAt m.data 8 2))).map (fun i => (beAt m.data 4 4 + i) % 2 ^ 32)
    let s := s.each seqs (fun s q =>
      match s.heldPacket grp chan q with
      | some p => s.sendTow 3 (repairRec 2 grp chan q 1 (packetBytes chan p).length ++ packetBytes chan p)
      | none => s)
    s.each (seqRuns (seqs.filter (fun q => (s.heldPacket grp chan q).isNone))) (fun s r => s.sendTow 3 (repairRec 3 grp chan r.1 r.2 0))

/-- An answer came for the WANTs that name a SEQ. -/
def PairSt.answer (p : PairSt) (grp chan seq : Nat) : PairSt :=
  { p with wants := p.wants.map (fun w => if w.grp = grp ∧ w.chan = chan ∧ w.seq ≤ seq ∧ seq < w.seq + w.count then { w with answered := true } else w) }

/-- The packet is wanted from the partner. -/
def State.wantsSeq (s : State) (grp chan seq : Nat) : Bool :=
  match (chanOf s.strm.chans grp chan).bind (fun c => c.group (seq / 8)) with
  | some g => g.st == 1 && g.wanted.contains seq
  | none => false

/-- A HAVE (R402): its packet is moored as accepted and counted. -/
def State.repairHave (s : State) (m : TowMsg) : State :=
  let (ok, s) := s.receive 3 m
  if ¬ ok ∨ beAt m.data 0 1 ≠ 2 then s
  else
    let grp := beAt m.data 1 1
    let chan := beAt m.data 2 2
    let seq := beAt m.data 4 4
    let b := (m.data.drop 16).take (beAt m.data 10 2)
    let s := s.modPair (fun p => p.answer grp chan seq)
    if ¬ s.wantsSeq grp chan seq ∨ b.length < 16 ∨ beAt b 4 2 ≠ chan ∨ beAt b 8 4 ≠ seq ∨ lzCrc (b.take 12) ≠ beAt b 12 4 then s
    else
      let pk : Pkt := { seq := seq, flags := beAt b 2 1, key := beAt b 3 1, data := slice b 16 (beAt b 6 2), moor := (0, 0), eaten := false }
      match s.holdPacket grp chan pk with
      | (true, s) =>
        let s := match chanOf s.strm.chans grp chan with | some c => s.putChan (c.mark seq) | none => s
        (((s.inc F.TOW_REPAIR_CNT_REPAIRED).checkGroup grp chan (seq / 8)).runParser grp chan)
      | (false, s) => s

/-- A NONE (R400): the partner does not hold the packets. -/
def State.repairNone (s : State) (m : TowMsg) : State :=
  let (ok, s) := s.receive 3 m
  if ¬ ok ∨ beAt m.data 0 1 ≠ 3 then s
  else
    s.each (List.range (min 8 (beAt m.data 8 2))) (fun s i => s.modPair (fun p => p.answer (beAt m.data 1 1) (beAt m.data 2 2) (beAt m.data 4 4 + i)))

/-- WAIT_US after a resolution what is still missing is lost, and unanswered WANTs are counted (R402, R404). -/
def State.repairExpiry (s : State) (grp chan k : Nat) : State :=
  let mine (w : Want) : Bool := w.grp == grp && w.chan == chan && w.k == k
  let open_ := s.pair.wants.filter (fun w => mine w && !w.answered)
  let s := s.each open_ (fun s w =>
    let s := (s.inc F.TOW_REPAIR_CNT_UNANSWERED).raiseOnce 0xF49 bTOW 0 (chan % 65536 + grp * 65536) w.seq
    s.modPair (fun p => { p with sick := true }))
  let s := s.modPair (fun p => { p with wants := p.wants.filter (fun w => !mine w) })
  let waiting : Bool := match (chanOf s.strm.chans grp chan).bind (fun c => c.group k) with | some g => g.st == 1 | none => false
  if waiting then s.resolveGroup grp chan k true else s

/-- Chunks expected for pound `p` by its draw lists (R172). -/
def State.expected (s : State) (p : Nat) : Nat :=
  match s.comp.plan p with
  | some q => ((q.ents.filter (fun e => e.desc.tiled && !e.static && e.known)).map PlanEnt.chunks).sum
  | none => 0

/-- The device's seal of pound `p` (R398). -/
def State.sealOf (s : State) (p : Nat) : Seal :=
  let c := s.setOf p
  let (n, u) := ((s.dec.ended.find? (fun e => e.1 == p)).map Prod.snd).getD (0, 0)
  let marked : Bool := s.comp.results.any (fun r => r.pound == p && r.lap)
  let frame := (s.queuedBuf p).bind (fun i => s.comp.bufs[i]?)
  let crc : Nat := match frame with
    | some b =>
      let w := b.geom.cols * b.geom.vcols
      lzCrc ((List.range (b.geom.rows * b.geom.vrows)).flatMap (fun y => (List.range w).flatMap (fun x => pixBytes (s.basin.pixel b.moors w x y))))
    | none => 0
  { pound := p, flags := b2n (s.braced p) + 2 * b2n marked + 4 * b2n frame.isSome + 8 * b2n (has c.mode mHOLD),
    lost := satN 65535 (s.expected p - n), cset := c.crc, dec := u, frame := crc }

/-- A seal's payload. -/
def Seal.data (x : Seal) : List Byte :=
  beBytes 4 x.pound ++ beBytes 1 x.flags ++ beBytes 1 0 ++ beBytes 2 x.lost ++ beBytes 4 x.cset ++ beBytes 4 x.dec ++ beBytes 4 x.frame ++ beBytes 4 0

/-- A payload as a seal. -/
def parseSeal (b : List Byte) : Seal :=
  { pound := beAt b 0 4, flags := beAt b 4 1, lost := beAt b 6 2, cset := beAt b 8 4, dec := beAt b 12 4, frame := beAt b 16 4 }

/-- Where two seals differ (R405): bit 0 CSET, bit 1 DEC, bit 2 FRAME. -/
def sealDiff (a b : Seal) : Nat :=
  b2n (a.cset != b.cset) + 2 * b2n (a.dec != b.dec) + 4 * b2n (a.frame != b.frame && bitAt a.flags 2 && bitAt b.flags 2)

/-- No comparison is made where a seal has BRACED, OVERLAP or HOLD set (R405). -/
def Seal.skips (x : Seal) : Bool := bitAt x.flags 0 || bitAt x.flags 1 || bitAt x.flags 3

/-- The policy of R405 after MISMATCHES mismatches in a row. -/
def State.sealPolicy (s : State) : State :=
  if s.pair.missSeal < s.cm F.TOW_SEAL_MISMATCHES ∨ ¬ s.follows then s
  else
    let pol := s.cm F.TOW_SEAL_POLICY
    let worse := decide (s.pair.lostOwn < s.pair.lostThem)
    let s := if pol = 1 ∨ pol = 2 then s.unfit 2 else s
    let s := s.modPair (fun p => { p with missSeal := 0, lostOwn := 0, lostThem := 0 })
    if pol = 2 ∧ worse then s.takeOver 3 s.commitPound else s

/-- Compare the seals of pound `p` once both are held (R405). -/
def State.compareSeal (s : State) (p : Nat) : State :=
  match s.pair.seals.find? (fun x => x.pound == p), s.pair.theirs.find? (fun x => x.pound == p) with
  | some a, some b =>
    let s := s.modPair (fun q => { q with theirs := q.theirs.filter (fun x => x.pound ≠ p), seals := q.seals.filter (fun x => x.pound ≠ p) })
    if a.skips ∨ b.skips then s
    else
      let d := sealDiff a b
      let s := s.wr F.TOW_SEAL_LAST_POUND p
      if d = 0 then
        State.fitCheck ((s.inc F.TOW_SEAL_CNT_MATCH).modPair (fun q => { q with matchRun := q.matchRun + 1, missSeal := 0, lostOwn := 0, lostThem := 0 }))
      else
        let s := (s.inc F.TOW_SEAL_CNT_MISMATCH).raise 0xF42 bTOW p d
        (s.modPair (fun q => { q with matchRun := 0, missSeal := q.missSeal + 1, lostOwn := q.lostOwn + a.lost, lostThem := q.lostThem + b.lost })).sealPolicy
  | _, _ => s

/-- A partner's SEAL (R405). [DESIGN CHOICE: log 126] -/
def State.towSeal (s : State) (m : TowMsg) : State :=
  let (ok, s) := s.receive 1 m
  if ¬ ok ∨ m.data.length < 24 then s
  else
    let x := parseSeal m.data
    State.compareSeal (s.modPair (fun p => { p with theirs := (x :: p.theirs.filter (fun y => y.pound ≠ x.pound)).take 8 })) x.pound

/-- A TAKE names `t` to an owner (R409, R410): ownership drops at the lock cycle that opens T or, late, at the next. -/
def State.dropOwn (s : State) (t : Nat) : State :=
  if ¬ s.owns ∨ s.pair.dropT.isSome then s
  else
    let s := if s.pair.yieldT = some t then (s.modPair (fun p => { p with yieldAns := true })).raise 0xF46 bTOW t 1 else s
    let c := s.commitPound
    s.modPair (fun p => { p with take := none, dropT := some (if laterPound c t then c else t) })

/-- Side B withdraws its own decision `k` (R409); one that has committed and not yet opened is given up at the next lock cycle. -/
def State.withdraw (s : State) (k : Takeover) : State :=
  ((s.modPair (fun p => { p with take := none, dropT := if k.committed then some s.commitPound else p.dropT })).raise 0xF45 bTOW k.t 3).recoveryOf 0xF43

/-- A TAKE for pound `t` (R409): an owner gives up its ownership; of two TAKEs for pounds not yet opened that of side A stands. -/
def State.answerTake (s : State) (t : Nat) : State :=
  match s.pair.take with
  | some k => if ¬ laterPound k.t s.pound then s.dropOwn t else if s.side = 2 ∧ laterPound t s.pound then s.withdraw k else s
  | none => s.dropOwn t

/-- A TAKE arrives (R409). -/
def State.towTake (s : State) (m : TowMsg) : State :=
  let (ok, s) := s.receive 5 m
  if ok then s.answerTake (beAt m.data 0 4) else s

/-- A YIELD (R410): a FIT follower of a hot pair answers with TAKE naming the same pound. -/
def State.towYield (s : State) (m : TowMsg) : State :=
  let (ok, s) := s.receive 6 m
  let t := beAt m.data 0 4
  if ok ∧ s.hot ∧ s.rd F.TOW_STATUS_FIT = 1 ∧ ¬ laterPound s.commitPound t then s.takeOver 4 t else s

/-- TOW_CMD.YIELD (R410, R411). -/
def State.cmdYield (s : State) (v : Nat) : State :=
  if bitsOf v 31 16 ≠ 0x544B ∨ ¬ bitAt v 1 then s
  else if ¬ s.owns then s.raise 0xF46 bTOW s.pound 3
  else
    let t := poundAdd s.pound 3
    (s.modPair (fun p => { p with yieldT := some t, yieldAns := false })).sendTow 6 (takeData t 4)

/-- TOW_CMD.TAKE (R406, R411). -/
def State.cmdTake (s : State) (v : Nat) : State :=
  if bitsOf v 31 16 ≠ 0x544B ∨ ¬ bitAt v 0 then s
  else if ¬ s.follows ∨ ¬ s.mayTake then s.raise 0xF46 bTOW s.pound 3
  else s.takeOver 5 s.commitPound

/-- A write of TOW_CMD acts on each bit, YIELD first (R411). -/
def State.towCmd (s : State) (v : Nat) : State := (s.cmdYield v).cmdTake v

/-- Device time now of a CLOSE_S and CLOSE_NS (R412): its seconds are completed from device time. -/
def State.fullTime (s : State) (sec ns : Nat) : Nat :=
  let hi := s.devSec / 2 ^ 32
  let x := hi * 2 ^ 32 + sec
  ((if x + 2 ^ 31 < s.devSec then x + 2 ^ 32 else x) * 1000000000 + ns) * 65536

/-- Pounds start at step 14 without a partner to join (R150). -/
def State.startPounds (s : State) : State :=
  let t := s.cset.period
  let lead := s.cm F.TOP_LOCK_TIME_LEAD * 1000 * 65536
  let tc := firstClose s.dev t lead (s.rd F.TIME_STATUS_TIME_SET == 1)
  let s := ((s.setLaunch (2 ^ 32 - 2) (tc + lead)).setLaunch (2 ^ 32 - 1) (tc + lead + t)).setLaunch 0 (tc + lead + 2 * t)
  { s with lock := { s.lock with running := true, nextPound := 0, closeAt := tc },
           time := { s.time with nextL := 2 ^ 32 - 2, armed := false }, scan := { s.scan with pre := 2 } }

/-- The device joins an owner as follower (R412), event 0xF48. [DEDUCED: log 26, 33] -/
def State.joinPounds (s : State) (h : PartnerHb) : State :=
  let t := s.cset.period
  let lead := s.cm F.TOP_LOCK_TIME_LEAD * 1000 * 65536
  let p := poundAdd h.pound 1
  let tc := s.fullTime h.closeS h.closeNs
  let s := ((s.setLaunch (poundSub p 2) (tc + lead)).setLaunch (poundSub p 1) (tc + lead + t)).setLaunch p (tc + lead + 2 * t)
  let s := { s with lock := { s.lock with running := true, nextPound := p, closeAt := tc, iset := s.lock.iset ||| 0x20#8 },
                    time := { s.time with nextL := poundSub p 2, armed := false },
                    scan := { s.scan with pre := 0, fcnt := h.fcnt } }
  let s := s.modPair (fun q => { q with own := false, joinWait := false })
  let s := { s with led := { s.led with bank0 := { s.led.bank0 with own := false }, bank1 := { s.led.bank1 with own := false } } }
  ((s.unfit 4).wr F.TOW_STATUS_JOINING 1).raise 0xF48 bTOW (if bitAt h.flags 3 then 2 else 1) p

/-- A heartbeat with OWNER set came in the last 10 ms (R412). -/
def State.ownerHeard (s : State) : Option PartnerHb :=
  match s.pair.hb with
  | some h => if bitAt h.flags 0 ∧ s.clk.now ≤ h.at_ + 10000000 then some h else none
  | none => none

/-- Step 14 of R102 (R150, R412). -/
def State.bootPounds (s : State) : State :=
  if ¬ s.paired then s.startPounds
  else
    match s.ownerHeard with
    | some h => s.joinPounds h
    | none =>
      if s.side = 1 then (s.modPair (fun p => { p with own := true })).startPounds
      else s.modPair (fun p => { p with own := false, joinWait := true })

/-- Side B has waited 5 s (R412): it opens pound 0 as follower and decides a takeover with cause 2. [DEDUCED: log 26] -/
def State.joinTimeout (s : State) : State :=
  if ¬ s.pair.joinWait then s
  else
    let s := (s.modPair (fun p => { p with joinWait := false, own := false })).startPounds
    let c := { s.cset with own := false }
    let s := { s with lock := { s.lock with iset := s.lock.iset ||| 0x20#8 },
                      led := if s.led.index then { s.led with bank1 := c } else { s.led with bank0 := c } }
    s.decideTake 2 0

/-- A partner's heartbeat (R393, R394, R395, R397, R412, R413). [DESIGN CHOICE: log 126] -/
def State.towHb (s : State) (m : TowMsg) : State :=
  let (ok, s) := s.receive 4 m
  let b := m.data
  if ¬ ok ∨ b.length < 24 then s
  else
    let flags := beAt b 4 1
    let lock := beAt b 5 1
    let h : PartnerHb :=
      { pound := beAt b 0 4, flags := flags, lock := lock, fcnt := beAt b 8 8 % 2 ^ 48, closeS := beAt b 16 4, closeNs := beAt b 20 4, at_ := s.clk.now }
    let since (n : Nat) (o : Option Nat) : Option Nat := if bitAt lock n then (match o with | some t => some t | none => some s.clk.now) else none
    let s := s.modPair (fun p =>
      { p with hb := some h, heard := true, sinceHb := 0, lockAt := (List.range 4).map (fun n => since n ((p.lockAt[n]?).getD none)),
               fcntFix := if bitAt flags 0 ∧ ¬ s.cset.own ∧ h.fcnt ≠ s.scan.fcnt then some h.fcnt else none })
    let hot := s.cm F.TOW_CFG_HOT == 1 && bitAt flags 1
    let was := s.hot
    let s := (s.wr F.TOW_STATUS_HOT (b2n hot)).wr F.TOW_STATUS_PARTNER 1
    let s := if was ∧ ¬ hot then s.unfit 3 else s
    let s := s.laneCheck
    let s := s.seeJoining (bitAt flags 4)
    if s.pair.joinWait ∧ bitAt flags 0 then s.joinPounds h else s.fitCheck

/-- What the pair adds to step 1 of the lock cycle that opens `p` (R407, R409): masks set and cleared, and ownership. -/
structure PairMerge where
  set : BitVec 8
  clr : BitVec 8
  own : Bool
  deriving DecidableEq, Repr

/-- A takeover commits at the close that opens `p` (R407): the device owns from there, and tells T again. -/
def State.closeTake (s : State) (p kind : Nat) : State :=
  let s := State.repeatTake (s.modPair (fun q => { q with own := true, take := q.take.map (fun k => { k with t := p }),
                                                          resync := if kind = 3 then some (poundAdd p 1) else q.resync }))
  s.modPair (fun q => { q with take := q.take.map (fun k => { k with committed := true }) })

/-- At its T a YIELD is at its end (R401, R410): an owner to which no TAKE has come keeps ownership. -/
def State.closeYield (s : State) (p : Nat) : State :=
  match s.pair.yieldT with
  | some t =>
    if t ≠ p then s
    else
      let s1 := s.modPair (fun q => { q with yieldT := none, yieldAns := false })
      if s.pair.yieldAns ∨ ¬ s.pair.own then s1 else s1.raise 0xF46 bTOW t 2
  | none => s

/-- A takeover is due at the close that opens `p` (R407). [DEDUCED: log 101] -/
def State.takesAt (s : State) (p : Nat) : Bool :=
  match s.pair.take with | some k => !s.cset.own && !laterPound k.t p | none => false

/-- Step 1 of the lock cycle that opens `p`: takeover, drop, RESYNC, an unanswered YIELD. -/
def State.pairClose (s : State) (p : Nat) : State × PairMerge :=
  if ¬ s.paired then (s, { set := 0#8, clr := 0#8, own := true })
  else
    let takes := s.takesAt p
    let kind : Nat := match s.pair.take with | some k => k.kind | none => 0
    let s := s.when takes (fun s => s.closeTake p kind)
    let drops : Bool := match s.pair.dropT with | some t => !laterPound t p | none => false
    let s := s.when drops (fun s => s.modPair (fun q => { q with own := false, dropT := none }))
    let resync : Bool := match s.pair.resync with | some t => t == p && !takes | none => false
    let s := (s.when resync (fun s => State.recoveryOf (s.modPair (fun q => { q with resync := none })) 0xF43)).closeYield p
    (s, { set := (if takes ∧ kind = 3 then 0x80#8 else 0#8) ||| (if drops then 0x20#8 else 0#8),
          clr := (if takes then 0x20#8 else 0#8) ||| (if resync then 0x80#8 else 0#8), own := s.pair.own })

/-- The SEAL of `p - 2` at the close that opens `p` (R398). -/
def State.sendSeal (s : State) (p : Nat) : State :=
  if ¬ s.paired then s
  else
    let x := s.sealOf (poundSub p 2)
    let s := s.modPair (fun q => { q with seals := (x :: q.seals).take 8 })
    (s.sendTow 1 x.data).compareSeal x.pound

/-- Everything for pound `p` has arrived (R414): the snapshot and a surface for every CARD instance. -/
def State.joinReady (s : State) (p : Nat) : Bool :=
  (match s.pair.snap with | some (j, _) => j == p | none => false) &&
    s.tug.cards.all (fun c => s.pair.surfs.any (fun x => x.1 == p && beAt x.2 0 1 == c.slot && beAt x.2 1 1 == c.layer))

/-- Registers of a committed set from the words of a SNAPSHOT. [DEDUCED: log 122; DESIGN CHOICE: log 103] -/
def setWords (m : RegFile) : List (Nat × Word) → RegFile
  | [] => m
  | (a, w) :: r => setWords (if a = R.TOP_MODE_ACT then m else m.setWord a (maskedWord (m.word a) w (rwsMask a))) r

/-- The set of a SNAPSHOT (R414): its words and rung, STANDBY and ownership the device's own. -/
def State.snapSet (s : State) (b : List Byte) : CSet :=
  let addrs := (List.range 20).flatMap stagedAddrs
  let ws := (List.range addrs.length).map (fun i => BitVec.ofNat 32 (beAt b (4 * i) 4))
  let regs := setWords s.cset.regs (addrs.zip ws)
  let mode := ((addrs.zip ws).find? (fun x => x.1 == R.TOP_MODE_ACT)).map (fun x => x.2.toNat)
  { regs := regs.setWord R.TOP_MODE ((regs.word R.TOP_MODE &&& 0xFFFFFFDF#32) ||| (s.cset.regs.word R.TOP_MODE &&& 0x20#32)),
    mode := (BitVec.ofNat 8 (mode.getD 0) &&& 0xDF#8) ||| (s.cset.mode &&& 0x20#8), rung := beAt b (4 * addrs.length) 1, own := s.cset.own }

/-- Layer histories of a SNAPSHOT. -/
def snapHist (b : List Byte) : List LayerHist :=
  (List.range (beAt b 0 2)).map (fun i =>
    let o := 2 + 8 * i
    { slot := beAt b o 1, layer := beAt b (o + 1) 1, ready := if beAt b (o + 2) 1 = 255 then none else some (beAt b (o + 4) 4), held := beAt b (o + 3) 1, second := false })

/-- The digest of the partner's schedule is compared with the device's own (R414); event 0xF4C where they differ. -/
def State.noteSched (s : State) (crc : Nat) : State :=
  if crc = s.schedCrc then s.modPair (fun q => { q with schedBad := false })
  else (s.modPair (fun q => { q with schedBad := true })).raise 0xF4C bTOW s.schedCrc crc

/-- A set taken into the shadow, its rung and the layer history `h` with it, for the pound `p`. -/
def State.withSnap (s : State) (c : CSet) (h : List LayerHist) (p : Nat) : State :=
  { s with led := { s.led with shadow := c.regs }, comp := { s.comp with hist := h, rungReq := c.rung, gov := p, rungDue := true } }

/-- The set of a SNAPSHOT is taken into the shadow, its ladder and layer history with it (R414); `h` is where the history begins. [DESIGN CHOICE: log 103] -/
def State.takeSnap (s : State) (p h : Nat) (b : List Byte) : State := s.withSnap (s.snapSet b) (snapHist (b.drop h)) p

/-- What a joining device makes of a SNAPSHOT `b` whose schedule digest lies at byte `n + 1` (R414). -/
def State.mergeSnap (s : State) (p : Nat) (b : List Byte) (n : Nat) : State := (s.takeSnap p (n + 5) b).noteSched (beAt b (n + 1) 4)

/-- A joining device merges the SNAPSHOT at the close that opens J (R414): what it makes of the shadow set; the mode of the snapshot is kept for
the freeze. -/
def State.joinMerge (s : State) (p : Nat) : State :=
  if s.rd F.TOW_STATUS_JOINING = 0 ∨ ¬ s.joinReady p then s
  else
    match s.pair.snap with
    | none => s
    | some (_, b) =>
      let mode := (s.snapSet b).mode.toNat
      (s.mergeSnap p b (4 * ((List.range 20).flatMap stagedAddrs).length)).modPair (fun q => { q with joined := some (p, mode) })

/-- The effective mode that is frozen for `p` (R58, R414): where a SNAPSHOT has been merged, its mode under the device's own requests, with the
STANDBY of `mode`. [DEDUCED: log 33] -/
def State.joinMode (s : State) (p : Nat) (mode : BitVec 8) : BitVec 8 :=
  match s.pair.joined with
  | some (q, m) => if q = p then (((BitVec.ofNat 8 m &&& ~~~s.lock.iclr) ||| s.lock.iset) &&& 0xDF#8) ||| (mode &&& 0x20#8) else mode
  | none => mode

/-- A SURFACE is installed in both surfaces of its layer (R414), whose repeat pass is skipped. -/
def State.installSurface (s : State) (b : List Byte) : State :=
  match s.tug.card (beAt b 0 1) (beAt b 1 1) with
  | none => s
  | some c =>
    let px := swapWords (b.drop 8)
    { s with basin := (s.basin.writeList c.surf0 px 0).writeList c.surf1 px 0, tug := { s.tug with skip := (c.slot, c.layer) :: s.tug.skip } }

/-- At the open of the J whose SNAPSHOT was merged the surfaces are installed and JOINING ends (R414). [DEDUCED: log 26] -/
def State.joinOpen (s : State) (p : Nat) : State :=
  if (s.pair.joined.map Prod.fst) ≠ some p then s
  else
    let s := s.each (s.pair.surfs.filter (fun x => x.1 = p)) (fun s x => s.installSurface x.2)
    ((s.modPair (fun q => { q with snap := none, surfs := [], joined := none })).wr F.TOW_STATUS_JOINING 0)

/-- The open of pound `p` (R404, R407): ownership changes with the committed set, TOW_TAKE_STAT, HEALTHY. [DEDUCED: log 101] -/
def State.pairOpen (s : State) (p : Nat) (was : Bool) : State :=
  if ¬ s.paired then s
  else
    let now := s.cset.own
    let s := s.wr F.TOW_STATUS_OWNER (b2n now)
    let s := if now = was then s else (s.modPair (fun q => { q with ownT := some p })).wr F.TOW_OWN_POUND_POUND p
    let s := match s.pair.take with
      | some k => if k.committed ∧ k.t = p ∧ now then ((s.wr F.TOW_TAKE_STAT_CAUSE k.cause).wr F.TOW_TAKE_STAT_KIND k.kind).recoveryOf 0xF43 else s
      | none => s
    let s := s.wr F.TOW_STATUS_HEALTHY (b2n !s.pair.sick)
    let s := s.modPair (fun q => { q with sick := !s.towUp })
    (s.joinOpen p).fitCheck

/-- The ports name the side that has the panel (R408): another side raises event 0xF45 and the alert. -/
def State.checkSides (s : State) (t : Nat) (sides : List (List Byte)) : State :=
  let s := s.each (List.range 4) (fun s c => match sbData 4 (sides.getD c []) with | some _ => s.sbOk | none => s.sbFail c 0x40)
  if sides.any (fun x => match sbData 4 x with | some d => beAt d 0 1 != 0 && beAt d 0 1 != s.side | none => false) then (s.raise 0xF45 bTOW t 2).alert F.TOP_ALERT_SIDE
  else s

/-- PANEL_OWN_IN sampled at L(P) − ARM_US / 2 (R311, R408): `sides` is what address 0x40 answers on each chip select where the
takeover is confirmed. [DEDUCED: log 101] -/
def State.ownSample (s : State) (level : Bool) (sides : List (List Byte)) : State :=
  let p := s.time.nextL
  let s := State.wr { s with scan := { s.scan with ownIn := level } } F.SCAN_STATUS_OWN_IN (b2n level)
  if ¬ s.paired ∨ ¬ s.ownsSlot p ∨ has (s.slotSet p).mode mSTANDBY ∨ s.scan.ownOut then s
  else if ¬ level then
    let s := State.wr { s with scan := { s.scan with ownOut := true, blocked := false } } F.SCAN_STATUS_OWN_OUT 1
    let s := s.raise 0xC05 bSCAN 1 p
    match s.pair.take with
    | some k =>
      if k.committed then
        let s := s.modPair (fun q => { q with take := none, ownMiss := 0 })
        (s.raise 0xF44 bTOW k.kind k.t).checkSides k.t sides
      else s
    | none => s
  else
    let s := State.raise { s with scan := { s.scan with blocked := true } } 0xC04 bSCAN p 1
    match s.pair.take with
    | some k =>
      if k.committed then
        let n := s.pair.ownMiss + 1
        if 3 ≤ n then
          let s := s.modPair (fun q => { q with take := none, ownMiss := 0, dropT := some s.commitPound })
          (s.raise 0xF45 bTOW k.t 1).recoveryOf 0xF43
        else s.modPair (fun q => { q with ownMiss := n })
      else s
    | none => s

/-- PANEL_OWN_IN becomes asserted while the device drives (R311): it completes the frame, then turns to IDLE. -/
def State.ownInAsserted (s : State) : State :=
  let s := State.wr { s with scan := { s.scan with ownIn := true } } F.SCAN_STATUS_OWN_IN 1
  if ¬ s.paired ∨ ¬ s.scan.ownOut then s
  else
    let s := { s with scan := { s.scan with blocked := true } }
    if s.scan.active then s else s.ownYield

end Sys2Proof.Machine
end

