-- ==== Sys2Proof/Machine/BasinRun.lean ====
section
/-! DEFINITION. The Basin at work: training, tracking, refresh, self-refresh, scrub and uncorrectable reads (R264 to R272, R281). -/

namespace Sys2Proof.Machine

/-- A stack's temperature in 1/16 °C (R265): its sensor's value in use. -/
def State.stackTemp (s : State) (k : Nat) : Int := signed 16 (s.rd (F.HK_TEMPn_USED (3 + k)))

/-- The seed table of a stack where it is valid (R265): present, VERSION and LANES match, the temperature within 20 °C. -/
def State.validSeed (s : State) (k : Nat) : List Byte :=
  match s.table 6 k with
  | some d =>
    let t := signed 16 (leAt d 4 2)
    if leAt d 0 2 = 1 ∧ leAt d 2 2 = 160 ∧ t - 320 ≤ s.stackTemp k ∧ s.stackTemp k ≤ t + 320 then d else []
  | none => []

/-- Training begins on every stack (R264): with valid seeds at boot, with full sweeps in the retries of R266. -/
def State.trainStart (s : State) (seeded : Bool) : State :=
  let seeds := (List.range 4).map (fun k => if seeded then s.validSeed k else [])
  State.each { s with basin := { s.basin with seeds := seeds } } (List.range 4) (fun s k => s.wr (F.BASIN_TRAINs_STATE k) 1)

/-- Training is in progress. -/
def State.training (s : State) : Bool := (List.range 4).any (fun k => s.rd (F.BASIN_TRAINs_STATE k) == 1)

/-- The width of a passing window and its centre, rounded down (R264). [DEDUCED: log 88] -/
def eyeWidth (w : Nat × Nat) : Nat := w.2 + 1 - w.1
def eyeMid (w : Nat × Nat) : Nat := (w.1 + w.2) / 2

/-- A sweep has to cover the full range (R264): there is no seed, or the window that the seeded range shows touches either end of it, or there is
none. -/
def fullSweep (seed : Option Nat) (reach top : Nat) (w : Nat × Nat) : Bool :=
  match seed with
  | none => true
  | some c =>
    let lo := c - reach
    let hi := min top (c + reach)
    let a := max w.1 lo
    let b := min w.2 hi
    !decide (lo < a ∧ a ≤ b ∧ b < hi)

/-- What training makes of a lane: centres, windows, whether a sweep covered the full range, whether both windows are wide enough. -/
structure LaneTrain where
  rdDly : Nat
  wrDly : Nat
  rdRef : Nat
  wrRef : Nat
  rdEye : Nat
  wrEye : Nat
  full  : Bool
  wide  : Bool
  deriving DecidableEq, Repr

/-- A lane is trained (R264): delay, reference at its centre, delay once more, read path then write path; a lane below the minimum without a full
sweep is swept in full. `seed`: read delay, write delay, read code, write code. -/
def LaneEyes.train (e : LaneEyes) (seed : Option (Nat × Nat × Nat × Nat)) : LaneTrain :=
  let rd := seed.map (fun x => x.1)
  let wr := seed.map (fun x => x.2.1)
  let full := fullSweep rd 16 127 e.rd1 || fullSweep (seed.map (fun x => x.2.2.1)) 8 255 e.rdRef || fullSweep rd 16 127 e.rd2
    || fullSweep wr 16 127 e.wr1 || fullSweep (seed.map (fun x => x.2.2.2)) 8 255 e.wrRef || fullSweep wr 16 127 e.wr2
  let wide := decide (20 ≤ eyeWidth e.rd2 ∧ 16 ≤ eyeWidth e.wr2 ∧ 0 < eyeWidth e.rd1 ∧ 0 < eyeWidth e.wr1 ∧ 0 < eyeWidth e.rdRef ∧ 0 < eyeWidth e.wrRef)
  { rdDly := eyeMid e.rd2, wrDly := eyeMid e.wr2, rdRef := eyeMid e.rdRef, wrRef := eyeMid e.wrRef, rdEye := eyeWidth e.rd2, wrEye := eyeWidth e.wr2,
    full := full || !wide, wide := wide }

/-- The seed of lane `n` in a seed table (R265). -/
def laneOf (seed : List Byte) (n : Nat) : Option (Nat × Nat × Nat × Nat) :=
  if seed = [] then none
  else
    let l := seed.drop (8 + 8 * n)
    some (leAt l 0 2, leAt l 2 2, leAt l 4 1, leAt l 5 1)

/-- The eyes of a lane, and of its spare. -/
def TrainRes.lane (r : TrainRes) (n : Nat) : LaneEyes := (r.lanes[n]?).getD LaneEyes.clear
def TrainRes.spare (r : TrainRes) (n : Nat) : LaneEyes := ((r.spares.find? (fun x => x.1 == n)).map Prod.snd).getD LaneEyes.clear

/-- The course of a lane (R264): a lane too narrow after a full sweep is moved to its spare and trained once more with a full sweep. A HOLD exit has
no time for either: such a lane fails (R269). The result, whether it was repaired, whether it failed. [DEDUCED: log 88] -/
def TrainRes.course (r : TrainRes) (seed : List Byte) (exit : Bool) (n : Nat) : LaneTrain × Bool × Bool :=
  let a := (r.lane n).train (laneOf seed n)
  if exit then (a, false, a.full)
  else if a.wide then (a, false, false)
  else
    let b := (r.spare n).train none
    ({ b with full := true }, true, !b.wide)

/-- Results in the layout of a seed table (R265). -/
def seedTable (temp : Int) (l : List LaneTrain) : List Byte :=
  leBytes 2 1 ++ leBytes 2 160 ++ leBytes 2 (unsigned 16 temp) ++ leBytes 2 0
    ++ l.flatMap (fun x => leBytes 2 x.rdDly ++ leBytes 2 x.wrDly ++ leBytes 1 x.rdRef ++ leBytes 1 x.wrRef ++ leBytes 1 x.rdEye ++ leBytes 1 x.wrEye)

/-- The courses of the 160 lanes of a stack (R264). -/
def TrainRes.courses (r : TrainRes) (seed : List Byte) (exit : Bool) : List (LaneTrain × Bool × Bool) := (List.range 160).map (r.course seed exit)

/-- The lowest-numbered lane that failed after repair (R266). -/
def TrainRes.failed (r : TrainRes) (seed : List Byte) (exit : Bool) : Option Nat := (List.range 160).find? (fun n => (r.course seed exit n).2.2)

/-- The training of one stack ends (R264, R266): its register, its results, event 0xA00 or 0xA01; a HOLD exit has event 0xA07 in place of
0xA00 (R269). [DEDUCED: log 88] -/
def State.trainStack (s : State) (k : Nat) (seed : List Byte) (exit : Bool) (r : TrainRes) : State :=
  let l := r.courses seed exit
  let minRd := (l.map (fun x => x.1.rdEye)).foldl min 255
  let minWr := (l.map (fun x => x.1.wrEye)).foldl min 255
  let full := (l.filter (fun x => x.1.full)).length
  let repaired := (List.range 160).filter (fun n => (r.course seed exit n).2.1)
  let s := ((s.wr (F.BASIN_TRAINs_MIN_EYE k) minRd).wr (F.BASIN_TRAINs_REPAIRED k) repaired.length).wr (F.BASIN_TRAINs_FULL k) full
  match r.failed seed exit with
  | some lane =>
    let s := { s with basin := { s.basin with stk := modAt s.basin.stk k (fun x => { x with failed := true, repaired := repaired }) } }
    (((s.wr (F.BASIN_TRAINs_STATE k) 3).wr F.BASIN_STATUS_FAIL (orBit (s.rd F.BASIN_STATUS_FAIL) k)).raiseI 0xA01 bBASIN k k lane).noteFault 0xA01
  | none =>
    let old := (s.basin.stk[k]?).getD StackSt.reset
    let x : StackSt := { failed := false, seed := seedTable (s.stackTemp k) (l.map Prod.fst), track := [], repaired := repaired, retries := old.retries, onDie := old.onDie }
    let s := { s with basin := { s.basin with stk := modAt s.basin.stk k (fun _ => x) } }
    let s := (s.wr (F.BASIN_TRAINs_STATE k) 2).wr F.BASIN_STATUS_FAIL (clearBit (s.rd F.BASIN_STATUS_FAIL) k)
    if exit then s
    else s.raiseI 0xA00 bBASIN k k (full % 256 + repaired.length % 256 * 2 ^ 8 + minRd % 256 * 2 ^ 16 + minWr % 256 * 2 ^ 24)

/-- The training of the four stacks ends; the seed at a HOLD exit is the results in use before it (R269). A stack without a result passes
at every step. -/
def State.trainAll (s : State) (exit : Bool) (rs : List TrainRes) : State :=
  s.each (List.range 4) (fun s k =>
    let seed := if exit then ((s.basin.stk[k]?).getD StackSt.reset).seed else (s.basin.seeds[k]?).getD []
    s.trainStack k seed exit ((rs[k]?).getD { lanes := [], spares := [] }))

/-- Training ends (R264, R266): the Basin is ready, every byte zero, or it is not and training is tried again every 10 s. [DEDUCED: log 88] -/
def State.trainDone (s : State) (rs : List TrainRes) : State :=
  if ¬ s.training then s
  else
    let s := s.trainAll false rs
    if s.rd F.BASIN_STATUS_FAIL ≠ 0 then
      { s with basin := { s.basin with retryFrom := some s.clk.now, bootHeld := s.basin.bootHeld || !s.lock.running } }
    else
      let s := { s with basin := { s.basin with mem := [], retryFrom := none, selfref := false } }
      ((s.wr F.BASIN_STATUS_READY 1).wr F.BASIN_STATUS_SELFREF 0).wr F.TOP_HOLD_STAT_SELFREF 0

/-- Training is tried again (R266). -/
def State.trainRetry (s : State) : State :=
  match s.basin.retryFrom with
  | some t => if s.rd F.BASIN_STATUS_READY = 1 ∨ s.training ∨ s.clk.now < t + 10000000000 then s else s.trainStart false
  | none => s

/-- Edge checks move read delays (R267): lane `lane` of stack `k` one step down, none, or up; at 12/64 UI it is held, event 0xA06. -/
def State.eyeMove (s : State) (k lane : Nat) (dir : Int) : State :=
  match s.basin.stk[k]? with
  | none => s
  | some x =>
    let old := ((x.track.find? (fun e => e.1 == lane)).map Prod.snd).getD 0
    let want := old + clampI (-1) 1 dir
    let new := clampI (-12) 12 want
    let s := { s with basin := { s.basin with stk := modAt s.basin.stk k (fun x => { x with track := (lane, new) :: x.track.filter (fun e => e.1 ≠ lane) }) } }
    if want ≠ new then s.raiseI 0xA06 bBASIN k k lane else s

/-- The edge checks of a 100 ms round (R267); lanes are numbered 0 to 159. [DEDUCED: log 88] -/
def State.eyeTrack (s : State) (moves : List (Nat × Nat × Int)) : State :=
  if ¬ s.basinReady then s else s.each (moves.filter (fun m => m.1 < 4 && m.2.1 < 160)) (fun s m => s.eyeMove m.1 m.2.1 m.2.2)

/-- A refresh interval of a stack elapses (R268): a refresh is served. -/
def State.refresh (s : State) (k : Nat) : State :=
  if ¬ s.basinReady then s else { s with basin := { s.basin with refresh := modAt s.basin.refresh k (· + 1) } }

/-- A source's flush completes (R280, R281): every write it issued earlier is readable by every source. The model's writes are readable from
the command that issues them, which can only be one that follows the flush; the completion itself is counted. [DESIGN CHOICE: log 85] -/
def State.flushDone (s : State) (source : Nat) : State :=
  { s with basin := { s.basin with flushes := modAt s.basin.flushes source (· + 1) } }

/-- The HBM PHY pairs (R73). -/
def phyPairs : List Nat := (List.range 32).map (4 + ·)

/-- Every PHY pair is up. -/
def State.phyUp (s : State) : Bool := phyPairs.all s.domUp

/-- Every slot still to come up to the open pound shows the card (R65): the slots of the pounds before HOLD have been sent. -/
def State.slotsHeld (s : State) : Bool :=
  (List.range 8).all (fun i => let q := poundAdd s.time.nextL i; laterPound q s.pound || has (s.setOf q).mode mHOLD)

/-- The last row of frame P − 1 has been read, its slot sent, and nothing waits to be written (R65). [DEDUCED: log 84] -/
def State.scanDrained (s : State) : Bool :=
  s.slotsHeld && s.scan.waiting.isNone && s.comp.cur.isNone && s.comp.bufs.all (fun b => b.role != .queued) &&
    !(s.scan.active && (s.scan.kind == .frame || s.scan.kind == .repeated) && s.scan.endCode.isNone)

/-- Self-refresh is entered (R65, R269): event 0xA07, the PHY pairs go down in the flight. [DEDUCED: log 84] -/
def State.selfEnter (s : State) : State :=
  if ¬ has s.mode mHOLD ∨ ¬ s.basinReady ∨ ¬ s.scanDrained then s
  else
    let s := { s with basin := { s.basin with selfref := true, exitFrom := none } }
    let s := ((s.wr F.BASIN_STATUS_SELFREF 1).wr F.TOP_HOLD_STAT_SELFREF 1).raise 0xA07 bBASIN 1 0
    (s.each phyPairs State.reqDown).flightKick

/-- Self-refresh exit starts when the last PHY pair is up again after HOLD (R269). -/
def State.selfExitStart (s : State) : State :=
  if s.basin.selfref ∧ ¬ has s.mode mHOLD ∧ s.phyUp ∧ s.basin.exitFrom = none then
    { s with basin := { s.basin with exitFrom := some s.clk.now } }
  else s

/-- HOLD is set through iset at the next close (R58). [DEDUCED: log 25] -/
def State.isetHold (s : State) : State := 
  { s with lock := { s.lock with iset := s.lock.iset ||| 0x80#8, iclr := s.lock.iclr &&& 0x7F#8 } }

/-- Self-refresh exit ends (R269): traffic again, or HOLD and retries. [DEDUCED: log 84] -/
def State.selfExitDone (s : State) (rs : List TrainRes) : State :=
  match s.basin.exitFrom with
  | none => s
  | some t =>
    let s := { s with basin := { s.basin with selfref := false, exitFrom := none } }
    let s := (s.wr F.BASIN_STATUS_SELFREF 0).wr F.TOP_HOLD_STAT_SELFREF 0
    let s := s.trainAll true rs
    if s.rd F.BASIN_STATUS_FAIL ≠ 0 then
      let s := s.wr F.BASIN_STATUS_READY 0
      State.isetHold { s with basin := { s.basin with retryFrom := some s.clk.now } }
    else s.raise 0xA07 bBASIN 0 ((s.clk.now - t) / 1000)

/-- Granules of the Basin. -/
def granules : Nat := basinSize / 64

/-- The mooring's read was uncorrectable and it is allocated in a class other than PACKET (R272). -/
def State.holdsOn (s : State) (a : Nat) : Bool :=
  match s.basin.entry (a / moorSize) with
  | some e => e.cls != cPACKET && (e.st == .held || e.st == .reserved)
  | none => false

/-- The scrubber reads the next granule with the wrong bytes `errs` (R259, R270, R272). [DEDUCED: log 88] -/
def State.scrub (s : State) (errs : List (Nat × Nat)) : State :=
  if s.cm F.BASIN_SCRUB_EN = 0 ∨ ¬ s.basinReady then s
  else
    let a := s.basin.scrubAt * 64
    let (outcome, i) := eccOutcome errs
    let s := if outcome = 1 then
        let s := s.correctedRead a
        { s with basin := { s.basin.writeBack a i errs with passFix := s.basin.passFix + 1 } }
      else if outcome = 2 then
        let hold := s.holdsOn a
        let s := s.noteUncorrectable a 0
        if hold then s.isetHold else s
      else s
    let n := s.basin.scrubAt + 1
    if n = granules then
      let s := { s with basin := { s.basin with scrubAt := 0, passes := s.basin.passes + 1 } }
      let s := s.raise 0xA08 bBASIN s.basin.passes s.basin.passFix
      { s with basin := { s.basin with passFix := 0 } }
    else { s with basin := { s.basin with scrubAt := n } }

/-- The packet at `p` (address, length) covers Basin byte address `a`, padding included (R263). -/
def spans (a : Nat) (p : Nat × Nat) : Bool := decide (p.1 ≤ a ∧ a < p.1 + ceilDiv p.2 64 * 64)

/-- The packets held of the unit of packet `p` up to it, and what stops the way back: `held` at the FIRST one. -/
def Chan.before (c : Chan) : Nat → List Pkt → Pkt → List Pkt × SeqFate
  | 0, acc, p => (p :: acc, .unknown)
  | fuel + 1, acc, p =>
    if bitAt p.flags 1 then (p :: acc, .held p)
    else match c.fate (c.prevSeq p.seq) with
      | .held q => Chan.before c fuel (p :: acc) q
      | f => (p :: acc, f)

/-- A packet that the parser cannot read makes its unit incomplete (R157, R272): it is discarded, and counted once. [DEDUCED: log 83] -/
def State.losePart (s : State) (grp chan : Nat) (p : Pkt) : State :=
  match chanOf s.strm.chans grp chan with
  | none => s
  | some c =>
    let (l, f) := c.before (c.open_.length + 1) [] p
    let new : Bool := match f with | .held _ => true | .lost => !c.counted | _ => false
    let s := s.putChan { c.eat (l.map Pkt.seq) with counted := (new || c.counted) && !bitAt p.flags 2 }
    ((s.when new (fun s => s.inc F.RING_UNIT_DISC_FORMAT)).packetsDone (l.map Pkt.moor)).runParser grp chan

/-- The packet that holds `a` is lost (R272): its chunk is lost, or its unit is incomplete, complete as it stood or not. [DEDUCED: log 83] -/
def State.losePacket (s : State) (a : Nat) : State :=
  let lost := s.dec.queue.filter (fun c => c.moors.any (spans a))
  let s := { s with dec := { s.dec with queue := s.dec.queue.filter (fun c => !c.moors.any (spans a)) } }
  let s := s.each lost State.loseChunk
  let bad := s.strm.ready.filter (fun u => u.moors.any (spans a))
  let s := { s with strm := { s.strm with ready := s.strm.ready.filter (fun u => !u.moors.any (spans a)) } }
  let s := s.each bad (fun s u => (s.inc F.RING_UNIT_DISC_FORMAT).packetsDone u.moors)
  let parts := s.strm.chans.flatMap (fun c => (c.open_.filter (fun p => spans a p.moor)).map (fun p => (c.grp, c.chan, p)))
  s.each parts (fun s q => s.losePart q.1 q.2.1 q.2.2)

/-- A read meets an uncorrectable granule (R271, R272). `reader` as event 0xA03 numbers them; `item` is the lane of scan-out, the
core of a decoder, or the running update of the tug and the pixels it had written. [DEDUCED: log 83] -/
def State.uncorrectable (s : State) (a reader item px : Nat) : State :=
  let hold := s.holdsOn a
  let packet : Bool := match s.basin.entry (a / moorSize) with | some e => e.cls == cPACKET | none => false
  let s := (s.noteUncorrectable a reader).noteFaultIn 0xA03 (hold && !has s.mode mHOLD)
  let s := if reader = 1 then s.scanUncorrectable (a / moorSize) item
    else if reader = 2 then
      (match s.comp.cur with | some c => s.setCompose (some { c with bad := true }) | none => s)
    else if reader = 3 then s.coreReset item
    else if reader = 4 ∧ packet then s.losePacket a
    else if reader = 5 then s.tugDone item (some px)
    else s
  if hold then s.isetHold else s

/-- A write of BASIN_QUAR_CLR (R271). -/
def State.quarClear (s : State) (v : Nat) : State := if bitAt v 0 then { s with basin := s.basin.quarClear } else s

end Sys2Proof.Machine
end

