-- ==== Sys2Proof/Machine/CamPipe.lean ====
section
/-! DEFINITION. The image pipe and the glint locator's arithmetic as pure functions (R359, R365 to R367, R372 to R375). -/

namespace Sys2Proof.Machine

/-- Fields of a CAM_SENSOR table (R359). -/
def camPort (t : List Byte) : Nat := leAt t 2 1
def camVc (t : List Byte) : Nat := leAt t 3 1
def camDt (t : List Byte) : Nat := leAt t 4 1
def camCfa (t : List Byte) : Nat := leAt t 5 1
def camWeight (t : List Byte) : Nat := leAt t 6 1
def camPrio (t : List Byte) : Nat := leAt t 7 1
def camWidth (t : List Byte) : Nat := leAt t 8 2
def camHeight (t : List Byte) : Nat := leAt t 10 2
def camRole (t : List Byte) : Nat := leAt t 12 1
def camK (t : List Byte) : Nat := leAt t 13 1
def camStartCnt (t : List Byte) : Nat := leAt t 0xF0 2
def camStopCnt (t : List Byte) : Nat := leAt t 0xF2 2

/-- The check bits that each bit of a CSI-2 packet header stands in: data identifier, word count, then the two VCX bits. [PRESUMED: log 106] -/
def csiColumns : List Nat :=
  [0x07, 0x0B, 0x0D, 0x0E, 0x13, 0x15, 0x16, 0x19, 0x1A, 0x1C, 0x23, 0x25, 0x26, 0x29, 0x2A, 0x2C, 0x31, 0x32, 0x34, 0x38, 0x1F, 0x2F, 0x37, 0x3B,
   0x3D, 0x3E]

/-- The ECC of the 26 bits of a header (R356). [PRESUMED: log 106] -/
def csiEcc (w : Nat) : Nat := (List.range 26).foldl (fun a i => if bitAt w i then a ^^^ csiColumns.getD i 0 else a) 0

/-- A header as received (R356, R357): virtual channel, data type, payload bytes. -/
structure CsiHead where
  vc : Nat
  dt : Nat
  wc : Nat
  deriving DecidableEq, Repr

/-- A header of four bytes with single-bit correction (R356, R357): none where the error cannot be corrected; whether one was. [PRESUMED: log 106] -/
def csiRead (h : List Byte) : Option (CsiHead × Bool) :=
  let b (i : Nat) : Nat := (h.getD i 0#8).toNat
  let w := b 0 + b 1 * 2 ^ 8 + b 2 * 2 ^ 16 + b 3 / 64 * 2 ^ 24
  let syn := csiEcc w ^^^ (b 3 % 64)
  let head (w : Nat) : CsiHead := { vc := bitsOf w 7 6 + 4 * bitsOf w 25 24, dt := bitsOf w 5 0, wc := bitsOf w 23 8 }
  if syn = 0 then some (head w, false)
  else
    match (List.range 26).find? (fun i => csiColumns.getD i 0 == syn) with
    | some i => some (head (w ^^^ 2 ^ i), true)
    | none => if [1, 2, 4, 8, 16, 32].contains syn then some (head w, true) else none

/-- CRC-16 of a CSI-2 payload (R356): x^16 + x^12 + x^5 + 1 from all ones, least significant bit first. [PRESUMED: log 106] -/
def csiCrc (l : List Byte) : Nat :=
  l.foldl (fun c b => (List.range 8).foldl (fun c _ => if c % 2 = 1 then c / 2 ^^^ 0x8408 else c / 2) (c ^^^ b.toNat)) 0xFFFF

/-- Bits of a raw sample of a data type (R356). -/
def rawBits (dt : Nat) : Nat := if dt = 0x2A then 8 else if dt = 0x2B then 10 else 12

/-- Payload bytes of a line (R359). [PRESUMED: log 106] -/
def lineBytes (dt width : Nat) : Nat := ceilDiv (width * rawBits dt) 8

/-- Raw samples of a line in the packing of CSI-2: RAW8 one byte each; RAW10 four high bytes, then a byte of their low bits; RAW12
two high bytes, then a byte of their low bits. [PRESUMED: log 106] -/
def unpackRaw : Nat → Nat → List Byte → List Nat
  | 0, _, _ => []
  | fuel + 1, dt, l =>
    if dt = 0x2A then (match l with | [] => [] | a :: r => a.toNat :: unpackRaw fuel dt r)
    else if dt = 0x2B then
      (match l with
       | a :: b :: c :: d :: e :: r =>
         (a.toNat * 4 + bitsOf e.toNat 1 0) :: (b.toNat * 4 + bitsOf e.toNat 3 2) :: (c.toNat * 4 + bitsOf e.toNat 5 4)
           :: (d.toNat * 4 + bitsOf e.toNat 7 6) :: unpackRaw fuel dt r
       | _ => [])
    else
      (match l with
       | a :: b :: c :: r => (a.toNat * 16 + bitsOf c.toNat 3 0) :: (b.toNat * 16 + bitsOf c.toNat 7 4) :: unpackRaw fuel dt r
       | _ => [])

/-- An index mirrored about the edge pixel of `n`. -/
def mirror (n : Nat) (i : Int) : Nat := if i < 0 then (-i).toNat else if (n : Int) ≤ i then (2 * (n : Int) - 2 - i).toNat else i.toNat

/-- Sample (x, y) of rows of samples, mirrored beyond the edges. -/
def rowsAt (l : List (List Nat)) (w h : Nat) (x y : Int) : Nat := (l.getD (mirror h y) []).getD (mirror w x) 0

/-- Every sample of a w × h picture by a function. -/
def tabulate (w h : Nat) (f : Int → Int → Nat) : List (List Nat) :=
  (List.range h).map (fun (y : Nat) => (List.range w).map (fun (x : Nat) => f x y))

/-- Stage 1, unpack (R365). -/
def stUnpack (dt black raw : Nat) : Nat := raw * 2 ^ (12 - rawBits dt) - black

/-- Stage 2, defects (R365). -/
def stDefect (thr x a b c d : Nat) : Nat :=
  let hi := max (max a b) (max c d)
  let lo := min (min a b) (min c d)
  if thr ≠ 0 ∧ (hi + thr < x ∨ x + thr < lo) then (a + b + c + d + 2) / 4 else x

/-- Colour of a sample by CFA and position: 0 R, 1 G, 2 B; monochrome counts as G (R365). -/
def cfaColor (cfa x y : Nat) : Nat :=
  let q := x % 2 + y % 2 * 2
  if cfa = 1 then [0, 1, 1, 2].getD q 1
  else if cfa = 2 then [1, 0, 2, 1].getD q 1
  else if cfa = 3 then [1, 2, 0, 1].getD q 1
  else if cfa = 4 then [2, 1, 1, 0].getD q 1
  else 1

/-- Stage 3, white balance (R365). -/
def stBalance (x gain : Nat) : Nat := min 4095 ((x * gain + 128) / 256)

/-- The rounded mean of a list. -/
def meanOf (l : List Nat) : Nat := (l.sum + l.length / 2) / max 1 l.length

/-- Stage 4, demosaic (R365): colour `c` at (x, y) from its nearest same-colour neighbours. -/
def stDemosaic (cfa w h : Nat) (l : List (List Nat)) (c x y : Nat) : Nat :=
  if cfaColor cfa x y = c then rowsAt l w h x y
  else
    let pick (q : List (Int × Int)) : List Nat :=
      (q.filter (fun d => cfaColor cfa (mirror w (x + d.1)) (mirror h (y + d.2)) == c)).map (fun d => rowsAt l w h (x + d.1) (y + d.2))
    let near := pick [(-1, 0), (1, 0), (0, -1), (0, 1)]
    meanOf (if near.isEmpty then pick [(-1, -1), (1, -1), (-1, 1), (1, 1)] else near)

/-- Stage 5, matrix (R365): one row of coefficients. -/
def stMatrix (c0 c1 c2 : Int) (r g b : Nat) : Nat := (clampI 0 4095 (sar (c0 * r + c1 * g + c2 * b + 512) 10)).toNat

/-- Stage 6, tone (R365), by the table's 65 points. -/
def stTone (t : List Byte) (x : Nat) : Nat :=
  let p (i : Nat) : Int := (leAt t (0x30 + 2 * i) 2 : Nat)
  let i := x / 64
  (p i + sar ((p (i + 1) - p i) * (x % 64 : Nat)) 6).toNat

/-- Stage 7, luma and chroma (R365), with the offsets of the output range. -/
def stYcc (oy oc : Nat) (r g b : Nat) : Nat × Nat × Nat :=
  let r : Int := r
  let g : Int := g
  let b : Int := b
  ((sar (1496 * r + 5032 * g + 508 * b + 4096) 13 + oy).toNat, ((oc : Int) + sar (-(824 * r) - 2774 * g + 3598 * b + 4096) 13).toNat,
    ((oc : Int) + sar (3598 * r - 3268 * g - 330 * b + 4096) 13).toNat)

/-- Coefficient `k` of the table's colour matrix. -/
def camCcm (t : List Byte) (k : Nat) : Int := signed 16 (leAt t (0x1C + 2 * k) 2)

/-- Samples after stage 3 (R365), from the raw lines of a frame and its latched white balance (R, G, B). -/
def balanced (t : List Byte) (gains : Nat × Nat × Nat) (raw : List (List Nat)) : List (List Nat) :=
  let w := camWidth t
  let h := camHeight t
  let dt := camDt t
  let one := raw.map (fun r => r.map (stUnpack dt (leAt t 0x16 2)))
  let thr := leAt t 0x18 2
  let two := tabulate w h (fun x y =>
    stDefect thr (rowsAt one w h x y) (rowsAt one w h (x - 2) y) (rowsAt one w h (x + 2) y) (rowsAt one w h x (y - 2)) (rowsAt one w h x (y + 2)))
  tabulate w h (fun x y =>
    let c := cfaColor (camCfa t) x.toNat y.toNat
    stBalance (rowsAt two w h x y) (if c = 0 then gains.1 else if c = 1 then gains.2.1 else gains.2.2))

/-- Y12, Cb12 and Cr12 of every pixel (stages 4 to 7 of R365), from the samples after stage 3. [DEDUCED: log 109] -/
def pipePlanes (t : List Byte) (l : List (List Nat)) : List (List (Nat × Nat × Nat)) :=
  let w := camWidth t
  let h := camHeight t
  let cfa := camCfa t
  (List.range h).map (fun (y : Nat) => (List.range w).map (fun (x : Nat) =>
    if cfa = 0 then (stTone t (rowsAt l w h x y), 2048, 2048)
    else
      let r := stDemosaic cfa w h l 0 x y
      let g := stDemosaic cfa w h l 1 x y
      let b := stDemosaic cfa w h l 2 x y
      let m (k : Nat) : Nat := stTone t (stMatrix (camCcm t (3 * k)) (camCcm t (3 * k + 1)) (camCcm t (3 * k + 2)) r g b)
      stYcc 256 2048 (m 0) (m 1) (m 2)))

/-- Statistics of a frame (R366): MEAN and CLIP_PM over its G samples, or all of a monochrome frame. -/
def frameStats (t : List Byte) (l : List (List Nat)) : Nat × Nat :=
  let cfa := camCfa t
  let g := (List.range (camHeight t)).flatMap (fun y =>
    ((List.range (camWidth t)).filter (fun x => cfaColor cfa x y == 1)).map (fun x => (l.getD y []).getD x 0))
  (meanOf g, (g.filter (· == 4095)).length * 1000 / max 1 g.length)

/-- The bilinear sample of R212 of one component at (px, py) in 1/256 px. -/
def bilinearAt (f : Int → Int → Nat) (px py : Int) : Nat :=
  let ix := sar px 8
  let iy := sar py 8
  bilerp (f ix iy) (f (ix + 1) iy) (f ix (iy + 1)) (f (ix + 1) (iy + 1)) (unsigned 8 px) (unsigned 8 py)

/-- Position of output pixel `u` of `o` in a crop of `n` from `x0` (R367), in 1/256 px. -/
def scalePos (x0 n o u : Nat) : Int := ((x0 * 256 + (2 * u + 1) * n * 128 / max 1 o : Nat) : Int) - 128

/-- The rounded mean of the 2 × 2 block (x, y) of a picture given by rows. [DEDUCED: log 109] -/
def mean4 (l : List (List Nat)) (x y : Nat) : Nat :=
  let p (i j : Nat) : Nat := (l.getD (2 * y + j) []).getD (2 * x + i) 0
  (p 0 0 + p 1 0 + p 0 1 + p 1 1 + 2) / 4

/-- The bytes of an output picture (R367): crop (x0, y0, w, h), size (ow, oh), format. [DEDUCED: log 109] -/
def outputBytes (t : List Byte) (pl : List (List (Nat × Nat × Nat))) (x0 y0 w h ow oh fmt : Nat) : List Byte :=
  let fw := camWidth t
  let fh := camHeight t
  let comp (k : Nat × Nat × Nat → Nat) : List (List Nat) :=
    let p := pl.map (fun r => r.map k)
    (List.range oh).map (fun v => (List.range ow).map (fun u =>
      bilinearAt (fun x y => rowsAt p fw fh x y) (scalePos x0 w ow u) (scalePos y0 h oh v)))
  let yy := comp (fun q => q.1)
  if fmt = 0 then yy.flatMap (fun r => r.map (fun v => BitVec.ofNat 8 (min 255 ((v + 8) / 16))))
  else
    let ten (c : Nat) : List Byte := leBytes 2 (min 1023 ((c + 2) / 4))
    let cb := comp (fun q => q.2.1)
    let cr := comp (fun q => q.2.2)
    yy.flatMap (fun r => r.flatMap ten)
      ++ (List.range (oh / 2)).flatMap (fun y => (List.range (ow / 2)).flatMap (fun x => ten (mean4 cb x y) ++ ten (mean4 cr x y)))

/-- A glint (R372): centroid in 1/16 px and peak value. -/
structure Glint where
  gx   : Int
  gy   : Int
  peak : Nat
  deriving DecidableEq, Repr

/-- Glint pixels that touch, diagonals included. -/
def touches (a b : Nat × Nat × Nat) : Bool :=
  decide (a.1 ≤ b.1 + 1 ∧ b.1 ≤ a.1 + 1 ∧ a.2.1 ≤ b.2.1 + 1 ∧ b.2.1 ≤ a.2.1 + 1)

/-- A pixel joins the blobs it touches. -/
def addPixel (l : List (List (Nat × Nat × Nat))) (q : Nat × Nat × Nat) : List (List (Nat × Nat × Nat)) :=
  let near := l.filter (fun b => b.any (touches q))
  (q :: near.flatten) :: l.filter (fun b => !b.any (touches q))

/-- The centroid of a blob (R372), its pixels in sensor coordinates. [DEDUCED: log 109] -/
def centroid (thr : Nat) (b : List (Nat × Nat × Nat)) : Glint :=
  let w (q : Nat × Nat × Nat) : Nat := q.2.2 - thr + 1
  let sw := (b.map w).sum
  { gx := ((b.map (fun q => w q * (16 * q.1))).sum + sw / 2) / max 1 sw, gy := ((b.map (fun q => w q * (16 * q.2.1))).sum + sw / 2) / max 1 sw,
    peak := (b.map (fun q => q.2.2)).foldl max 0 }

/-- Higher peaks first; ties go to lower y, then lower x. -/
def Glint.before (a b : Glint) : Bool := lexLtI [0 - (a.peak : Int), a.gy, a.gx] [0 - (b.peak : Int), b.gy, b.gx]

/-- The glints of a picture (R372): pixel values row-major, `w` to a row, at (x0, y0) of the sensor; all that qualify, best first. -/
def findGlints (px : List Nat) (w x0 y0 thr lo hi : Nat) : List Glint :=
  let lit := ((List.range px.length).filter (fun i => thr ≤ px.getD i 0)).map (fun i => (x0 + i % max 1 w, y0 + i / max 1 w, px.getD i 0))
  let blobs := (lit.foldl addPixel []).filter (fun b => lo ≤ b.length ∧ b.length ≤ hi)
  sortBy Glint.before (blobs.map (centroid thr))

/-- The right glint that left glint `g` takes (R373), with its disparity. -/
def matchOne (rowTol dmax : Nat) (d0 : Int) (g : Glint) (rs : List Glint) : Option (Glint × Int) :=
  let d (r : Glint) : Int := g.gx - r.gx - d0
  let c := rs.filter (fun r => decide ((r.gy - g.gy).natAbs ≤ rowTol ∧ 16 ≤ d r ∧ d r ≤ 16 * dmax))
  let best := c.foldl (fun (b : Option Glint) r =>
    match b with
    | none => some r
    | some q => if lexLtI [((r.gy - g.gy).natAbs : Int), d r] [((q.gy - g.gy).natAbs : Int), d q] then some r else some q) none
  best.map (fun r => (r, d r))

/-- Left glints matched in order (R373): the matches with their disparity, and how many found none. -/
def matchGlints (rowTol dmax : Nat) (d0 : Int) : List Glint → List Glint → List (Glint × Int) × Nat
  | [], _ => ([], 0)
  | g :: l, rs =>
    match matchOne rowTol dmax d0 g rs with
    | some (r, d) =>
      let q := matchGlints rowTol dmax d0 l (rs.erase r)
      ((g, d) :: q.1, q.2)
    | none =>
      let q := matchGlints rowTol dmax d0 l rs
      (q.1, q.2 + 1)

/-- A quotient of R374, truncated toward zero; open where the divisor is 0. [DESIGN CHOICE: log 82] -/
def eyeDiv (a d : Int) : Int := if d = 0 then Config.eyeQuot a else Int.tdiv a d

/-- The eye of a match (R374) by the left sensor's table: none where it is discarded. -/
def eyeOf (t : List Byte) (g : Glint) (d : Int) : Option Eye :=
  let fx : Int := leAt t 0xB4 4
  let fy : Int := leAt t 0xB8 4
  let s32 (o : Nat) : Int := signed 32 (leAt t o 4)
  let rot (k : Nat) : Int := signed 16 (leAt t (0xCC + 2 * k) 2)
  let z := eyeDiv (fx * s32 0xC4) d
  let x := eyeDiv ((g.gx - s32 0xBC) * z) fx
  let y := eyeDiv ((g.gy - s32 0xC0) * z) fy
  let ex := sar (rot 0 * x + rot 1 * y + rot 2 * z) 14 + s32 0xE0
  let ey := sar (rot 3 * x + rot 4 * y + rot 5 * z) 14 + s32 0xE4
  let ez := sar (sar (rot 6 * x + rot 7 * y + rot 8 * z) 14 + s32 0xE8) 4
  let fits (v : Int) : Bool := decide (-(2 ^ 31 : Nat) ≤ v ∧ v < (2 ^ 31 : Nat))
  if ez ≤ 0 ∨ ¬ fits ex ∨ ¬ fits ey then none else some { ex := ex, ey := ey, ez := ez.toNat }

/-- Ascending ez, then ex (R375). -/
def Eye.before (a b : Eye) : Bool := lexLtI [(a.ez : Int), a.ex] [(b.ez : Int), b.ex]

/-- Eyes of one viewer give one (R375): an eye near an earlier one that was kept is dropped; the first 32 are kept. [DEDUCED: log 110] -/
def mergeEyes (dist : Nat) (l : List Eye) : List Eye :=
  let near (a b : Eye) : Bool :=
    decide ((a.ex - b.ex).natAbs ≤ dist ∧ (a.ey - b.ey).natAbs ≤ dist ∧ (16 * (a.ez : Int) - 16 * (b.ez : Int)).natAbs ≤ dist)
  ((sortBy Eye.before l).foldl (fun k e => if k.any (near e) then k else k ++ [e]) []).take 32

end Sys2Proof.Machine
end

