-- ==== Sys2Proof/Machine/EncSyntax.lean ====
section
/-! DEFINITION. The byte stream of an encode stream (R377, R378, R385): CTUs within the tools of R377, and NAL units, parameter sets and slice
headers in the syntax of ITU-T H.265. -/

namespace Sys2Proof.Machine

/-- Coefficients in the range of 16 bits, at most `n`. -/
def encCoefs (n : Nat) (l : List Int) : List Int := (l.take n).map (clampI (-32768) 32767)

/-- No residual. -/
def encNoRes : EncTu := .leaf [] [] []

/-- A residual tree within the tools of R377: blocks of `4 × 2^k`, at most `d` splits, split at once where `must`; a block of 4 × 4 carries the chroma of
its three neighbours too. [DESIGN CHOICE: log 112] -/
def EncTu.fit : Nat → Nat → Bool → EncTu → EncTu
  | 0, _, _, t => match t with | .leaf y cb cr => .leaf (encCoefs 16 y) (encCoefs 16 cb) (encCoefs 16 cr) | .split _ _ _ _ => encNoRes
  | k + 1, d, must, t =>
    let n := 4 ^ (k + 1)
    match t with
    | .split a b c e =>
      if must ∨ 0 < d then .split (a.fit k (d - 1) false) (b.fit k (d - 1) false) (c.fit k (d - 1) false) (e.fit k (d - 1) false) else encNoRes
    | .leaf y cb cr =>
      if must then .split encNoRes encNoRes encNoRes encNoRes else .leaf (encCoefs (16 * n) y) (encCoefs (4 * n) cb) (encCoefs (4 * n) cr)

/-- The residual of a coding unit of `8 × 2^d`: transforms end at 32. [DESIGN CHOICE: log 112] -/
def encRes (d depth : Nat) (must : Bool) (t : EncTu) : EncTu :=
  if 3 ≤ d then
    (match t with
     | .split a b c e => .split (a.fit 3 (depth - 1) false) (b.fit 3 (depth - 1) false) (c.fit 3 (depth - 1) false) (e.fit 3 (depth - 1) false)
     | .leaf _ _ _ => .split encNoRes encNoRes encNoRes encNoRes)
  else t.fit (d + 1) depth must

/-- Merge candidates that a slice names: five less an open number. -/
def encMerges : Nat := 5 - Config.encSyntax 25 % 5

/-- The motion search of R377: ±128 columns and ±64 rows, refined by up to three quarter samples. [DESIGN CHOICE: log 112] -/
def EncPu.fit : EncPu → EncPu
  | .merge i => .merge (i % encMerges)
  | .amvp x y p => .amvp (clampI (-515) 515 x) (clampI (-259) 259 y) (p % 2)

/-- Intra DC with every cbf 0 (R385). -/
def encDc : EncCu := .intra false [1] 4 encNoRes

/-- A coding unit of `8 × 2^d` within the tools of R377, in a P slice or an I slice. [DESIGN CHOICE: log 112] -/
def EncCu.fit (p : Bool) (d : Nat) : EncCu → EncCu
  | .skip i => if p then .skip (i % encMerges) else encDc
  | .inter part pus res =>
    if ¬ p then encDc
    else
      let k := part % 3
      let depth := Config.encSyntax 9 % 5
      .inter k ((List.range (if k = 0 then 1 else 2)).map (fun i => (pus.getD i (.merge 0)).fit)) (encRes d depth (depth == 0 && k != 0) res)
  | .intra nxn modes chroma res =>
    let four : Bool := nxn && d == 0
    .intra four ((List.range (if four then 4 else 1)).map (fun i => modes.getD i 1 % 35)) (chroma % 5)
      (encRes d (Config.encSyntax 10 % 5 + b2n four) four res)

/-- A coding tree of `8 × 2^d` at (x, y) of a picture of w × h: blocks across the edge are split, blocks beyond it are not there (R377). [DESIGN CHOICE: log 112] -/
def EncTree.fit (p : Bool) (w h : Nat) : Nat → Nat → Nat → EncTree → EncTree
  | 0, x, y, t => if w ≤ x ∨ h ≤ y then .out else match t with | .cu c => .cu (c.fit p 0) | _ => .cu (if p then .skip 0 else encDc)
  | d + 1, x, y, t =>
    let n := 8 * 2 ^ d
    let four (a b c e : EncTree) : EncTree :=
      .split (a.fit p w h d x y) (b.fit p w h d (x + n) y) (c.fit p w h d x (y + n)) (e.fit p w h d (x + n) (y + n))
    if w ≤ x ∨ h ≤ y then .out
    else match t with
      | .split a b c e => four a b c e
      | .out => if w < x + 2 * n ∨ h < y + 2 * n then four t t t t else .cu (if p then .skip 0 else encDc)
      | .cu c => if w < x + 2 * n ∨ h < y + 2 * n then four t t t t else .cu (c.fit p (d + 1))

/-- SAO of CTU `n` within H.265 at 10 bits; it merges only with a CTU of its slice. [DESIGN CHOICE: log 112] -/
def EncSao.fit (a : EncSao) (per slice n : Nat) : EncSao :=
  let left : Bool := decide (n % per ≠ 0 ∧ slice + 1 ≤ n)
  let up : Bool := decide (slice + per ≤ n)
  { merge := if a.merge = 1 ∧ left then 1 else if a.merge = 2 ∧ up then 2 else 0,
    comps := (List.range 3).map (fun i =>
      let c := a.comps.getD i (0, 0, [])
      (c.1 % 3, c.2.1 % (if c.1 % 3 = 1 then 32 else 4), (List.range 4).map (fun k => clampI (-31) 31 (c.2.2.getD k 0)))) }

/-- CTU `n` of a picture, in the slice that begins at CTU `slice` (R377, R384): the row's QP; in a coast row nothing but skips with merge index 0, or
intra DC without residual (R385). -/
def encCtu (x : EncIn) (slice n : Nat) : EncCtu :=
  let per := ceilDiv x.width 64
  let q := Config.encCtu x n
  let coast : Bool := match x.coast with | some c => decide (c ≤ n / per) | none => false
  { slice := slice, qp := x.qps.getD (n / per) 0, sao := q.1.fit per slice n,
    tree := (if coast then .cu (if x.idr then encDc else .skip 0) else q.2).fit (!x.idr) x.width x.height 3 (n % per * 64) (n / per * 64) }

/-- The picture order count of H.265 from the one of the picture before and slice_pic_order_cnt_lsb of 8 bits. -/
def encPoc (prev : Int) (lsb : Nat) : Int :=
  let pl := (prev % 256).toNat
  let msb := prev - pl
  if lsb < pl ∧ 128 ≤ pl - lsb then msb + 256 + lsb else if pl < lsb ∧ 128 < lsb - pl then msb - 256 + lsb else msb + lsb

/-- `v` in `n` bits, the highest first: u(n). -/
def putU (n v : Nat) : List Bool := (List.range n).map (fun i => v.testBit (n - 1 - i))

/-- ue(v): as many zero bits as `v + 1` has bits below its highest, then `v + 1`. -/
def putUe (v : Nat) : List Bool := List.replicate (Nat.log2 (v + 1)) false ++ putU (Nat.log2 (v + 1) + 1) (v + 1)

/-- se(v) by its code number: 1, -1, 2, -2 and so on for 1, 2, 3, 4. -/
def putSe (v : Int) : List Bool := putUe (if 0 < v then 2 * v.toNat - 1 else 2 * (-v).toNat)

/-- Bits as bytes, the highest bit first, the last byte filled with zeros, by `fuel` bytes. -/
def packBits : Nat → List Bool → List Byte
  | 0, _ => []
  | fuel + 1, l =>
    if l = [] then []
    else
      let v := (l.take 8 ++ List.replicate (8 - l.length) false).foldl (fun a b => 2 * a + b2n b) 0
      BitVec.ofNat 8 v :: packBits fuel (l.drop 8)

/-- The payload of a parameter set: its bits and the stop bit. -/
def rbspOf (l : List Bool) : List Byte := packBits (l.length / 8 + 1) (l ++ [true])

/-- A byte 3 goes before a byte of 0 to 3 that follows two zeros; `z` zeros came last. -/
def putEmul : Nat → List Byte → List Byte
  | _, [] => []
  | z, b :: r => if 2 ≤ z ∧ b.toNat ≤ 3 then 3#8 :: b :: putEmul (if b = 0 then 1 else 0) r else b :: putEmul (if b = 0 then z + 1 else 0) r

/-- A NAL unit in Annex B form: with the zero byte where `z`, layer 0, temporal sub-layer 0 (R377). [DEDUCED: log 148] -/
def annexB (z : Bool) (type : Nat) (rbsp : List Byte) : List Byte :=
  (if z then [0#8] else []) ++ [0#8, 0#8, 1#8] ++ packBits 2 (putU 1 0 ++ putU 6 type ++ putU 6 0 ++ putU 3 1) ++ putEmul 0 rbsp

/-- profile_tier_level: general_profile_idc 2, general_tier_flag 1, general_level_idc 183 (R377); compatibility flag 2 is set. [DEDUCED: log 148] -/
def encPtl : List Bool :=
  putU 2 0 ++ putU 1 1 ++ putU 5 2 ++ putU 32 (Config.encSyntax 3 % 2 ^ 32 ||| 2 ^ 29) ++ putU 4 (Config.encSyntax 4 % 16) ++ putU 44 0 ++ putU 8 183

/-- Ordering information: decoding order is output order (R377); the buffer holds the reference and the picture. [DEDUCED: log 148] -/
def encOrder : List Bool :=
  putU 1 (Config.encSyntax 5 % 2) ++ putUe (1 + Config.encSyntax 6 % 15) ++ putUe 0 ++ putUe (Config.encSyntax 7)

/-- Identifiers of the parameter sets: open. -/
def encVpsId : Nat := Config.encSyntax 0 % 16
def encSpsId : Nat := Config.encSyntax 1 % 16
def encPpsId : Nat := Config.encSyntax 2 % 64

/-- The VPS (R377): one layer and one sub-layer. [DEDUCED: log 148] -/
def encVps : List Byte :=
  rbspOf (putU 4 encVpsId ++ putU 2 3 ++ putU 6 0 ++ putU 3 0 ++ putU 1 1 ++ putU 16 0xffff ++ encPtl ++ encOrder ++ putU 6 0 ++ putUe 0
    ++ putU 1 0 ++ putU 1 0)

/-- VUI: BT.709, limited range (R377). [DEDUCED: log 148] -/
def encVui : List Bool :=
  putU 2 0 ++ putU 1 1 ++ putU 3 (Config.encSyntax 8 % 6) ++ putU 1 0 ++ putU 1 1 ++ putU 8 1 ++ putU 8 1 ++ putU 8 1 ++ putU 1 0 ++ putU 3 0
    ++ putU 1 0 ++ putU 1 0 ++ putU 1 0

/-- The SPS of a picture size (R377): 4:2:0 at 10 bits, CTU 64, CU from 8, TU 4 to 32, SAO; slice_pic_order_cnt_lsb has 8 bits; no scaling
lists, AMP, PCM, long-term references or temporal motion vectors. [DEDUCED: log 148] -/
def encSps (w h : Nat) : List Byte :=
  rbspOf (putU 4 encVpsId ++ putU 3 0 ++ putU 1 1 ++ encPtl ++ putUe encSpsId ++ putUe 1 ++ putUe w ++ putUe h ++ putU 1 0 ++ putUe 2 ++ putUe 2
    ++ putUe 4 ++ encOrder ++ putUe 0 ++ putUe 3 ++ putUe 0 ++ putUe 3 ++ putUe (Config.encSyntax 9 % 5) ++ putUe (Config.encSyntax 10 % 5)
    ++ putU 1 0 ++ putU 1 0 ++ putU 1 1 ++ putU 1 0 ++ putUe 0 ++ putU 1 0 ++ putU 1 0 ++ putU 1 (Config.encSyntax 11 % 2)
    ++ putU 1 1 ++ encVui ++ putU 1 0)

/-- The PPS (R377): QP per CU, deblocking, one reference; no tiles, wavefront or other tool. [DEDUCED: log 148] -/
def encPps : List Byte :=
  rbspOf (putUe encPpsId ++ putUe encSpsId ++ putU 1 0 ++ putU 1 0 ++ putU 3 0 ++ putU 1 0 ++ putU 1 (Config.encSyntax 12 % 2) ++ putUe 0
    ++ putUe 0 ++ putSe (25 - (Config.encSyntax 13 % 64 : Nat)) ++ putU 1 (Config.encSyntax 14 % 2) ++ putU 1 0 ++ putU 1 1
    ++ putUe (Config.encSyntax 15 % 4) ++ putSe (12 - (Config.encSyntax 16 % 25 : Nat)) ++ putSe (12 - (Config.encSyntax 17 % 25 : Nat))
    ++ putU 1 (Config.encSyntax 18 % 2) ++ putU 2 0 ++ putU 1 0 ++ putU 1 0 ++ putU 1 0 ++ putU 1 (Config.encSyntax 19 % 2) ++ putU 1 0
    ++ putU 1 0 ++ putU 1 0 ++ putUe (Config.encSyntax 20 % 5) ++ putU 1 0 ++ putU 1 0)

/-- The reference picture set of a P slice (R377): one reference, the previous coded picture, named by its picture order count; that of an IDR
picture is 0. [DEDUCED: log 148] -/
def encRps (x : EncIn) : List Bool :=
  let d := encPoc x.last (x.pic % 256) - x.last
  putU 1 0 ++ (if 0 < d then putUe 1 ++ putUe 0 ++ putUe (d - 1).toNat ++ putU 1 1
    else if d < 0 then putUe 0 ++ putUe 1 ++ putUe (-d - 1).toNat ++ putU 1 1
    else Config.encRps)

/-- An open offset of a slice that adds to one of the PPS within -12 to 12. -/
def encOffset (pps k : Nat) : Int :=
  let p : Int := 12 - (Config.encSyntax pps % 25 : Nat)
  clampI (max (-12) (-12 - p)) (min 12 (12 - p)) (12 - (Config.encSyntax k % 25 : Nat))

/-- Bits up to a whole byte: a one, then zeros. -/
def alignBits (l : List Bool) : List Bool := l ++ [true] ++ List.replicate ((7 - l.length % 8) % 8) false

/-- A slice header (R377, R378): I in an IDR picture, else P; PIC mod 256 as slice_pic_order_cnt_lsb; SAO and deblocking on; the QP is that of the
slice's first CTU. [DEDUCED: log 148] -/
def encSliceHead (x : EncIn) (ctu qp : Nat) : List Bool :=
  let ctus := ceilDiv x.width 64 * ceilDiv x.height 64
  alignBits (putU 1 (b2n (ctu == 0)) ++ (if x.idr then putU 1 (Config.encSyntax 21 % 2) else []) ++ putUe encPpsId
    ++ (if ctu = 0 then [] else putU (if ctus ≤ 1 then 0 else Nat.log2 (ctus - 1) + 1) ctu)
    ++ putUe (if x.idr then 2 else 1) ++ (if x.idr then [] else putU 8 (x.pic % 256) ++ encRps x) ++ putU 1 1 ++ putU 1 1
    ++ (if x.idr then []
        else putU 1 0 ++ (if Config.encSyntax 12 % 2 = 1 then putU 1 (Config.encSyntax 24 % 2) else []) ++ putUe (Config.encSyntax 25 % 5))
    ++ putSe ((qp : Int) - (51 - (Config.encSyntax 13 % 64 : Nat)))
    ++ (if Config.encSyntax 18 % 2 = 1 then putSe (encOffset 16 26) ++ putSe (encOffset 17 27) else [])
    ++ (if Config.encSyntax 19 % 2 = 1 then putU 1 (Config.encSyntax 28 % 2) else []))

/-- The NAL units of a slice of CTUs from `ctu` (R377, R378, R386): an IDR picture's first with VPS, SPS and PPS before it. [DEDUCED: log 148] -/
def encNal (x : EncIn) (ctu : Nat) (cs : List EncCtu) : List Byte :=
  let sets : List Byte :=
    if x.idr ∧ ctu = 0 then annexB true 32 encVps ++ annexB true 33 (encSps x.width x.height) ++ annexB true 34 encPps else []
  let type := if x.idr then 19 + Config.encSyntax 22 % 2 else 1
  let head := encSliceHead x ctu ((cs.head?.map EncCtu.qp).getD 0)
  sets ++ annexB (decide (ctu = 0) || decide (Config.encSyntax 23 % 2 = 1)) type
    (packBits (head.length / 8) head ++ rbspOf (Config.encBins x.idr x.width x.height cs))

end Sys2Proof.Machine
end

