-- ==== Sys2Proof/Machine/Encode.lean ====
section
/-! DEFINITION. Capture encoding: takes, conversion, rate control, slices and packetisation (R377 to R389). -/

namespace Sys2Proof.Machine

/-- The encoder runs in a mode (R60): TALK, and neither STANDBY nor HOLD. -/
def encRuns (m : BitVec 8) : Bool := has m mTALK && !has m mSTANDBY && !has m mHOLD

/-- `s` with encode stream `k` changed. -/
def State.modEnc (s : State) (k : Nat) (f : EncStream → EncStream) : State :=
  { s with enc := { s.enc with streams := modAt s.enc.streams k f } }

/-- Encode stream `k`. -/
def State.encStream (s : State) (k : Nat) : EncStream := s.enc.streams.getD k EncStream.reset

/-- A source picture is in the buffer (sensor, output, buffer). -/
def EncPic.inBuf (e : EncPic) (n o i : Nat) : Bool := !e.tap && e.sensor == n && e.out == o && e.buf == i

/-- The encoder holds a camera buffer (R379). -/
def EncSt.holds (e : EncSt) (n o i : Nat) : Bool :=
  e.streams.any (fun x => match x.wait with | some p => p.inBuf n o i | none => false)
    || (match e.run with | some r => r.src.inBuf n o i | none => false)

/-- The encoder holds the tap picture of pound `p`. -/
def EncSt.holdsTap (e : EncSt) (p : Nat) : Bool :=
  e.streams.any (fun x => match x.wait with | some q => q.tap && q.pound == p | none => false)
    || (match e.run with | some r => r.src.tap && r.src.pound == p | none => false)

/-- Buffer `i` of output `o` is held by a stereo pair. -/
def PairGlint.holds (g : PairGlint) (n o i : Nat) : Bool :=
  let one (q : Option PairPic) : Bool :=
    match q with
    | some p => p.sensor == n && p.out == o && (p.buf == i || p.prev == some i)
    | none => false
  one g.left || one g.right || one g.unlitL || one g.unlitR

/-- A consumer holds the buffer (R368). -/
def State.bufHeld (s : State) (n o i : Nat) : Bool := s.enc.holds n o i || s.cam.pairs.any (fun g => g.holds n o i)

/-- The buffers, as (sensor, output, buffer), of settings of the past that nothing writes or holds any longer (R361, R379). -/
def State.deadBufs (s : State) : List (Nat × Nat × Nat) :=
  (List.range 8).flatMap (fun n => (List.range 3).flatMap (fun o =>
    let l := (s.cam.sensors.getD n SensorSt.reset).bufs.getD o []
    ((List.range l.length).filter (fun i =>
      (match l[i]? with | some b => !b.live && !b.writing && b.moors ≠ [] | none => false) && !s.bufHeld n o i)).map (fun i => (n, o, i))))

/-- The moorings of such buffers are freed (R368, R379); at an open they wait (R278). -/
def State.camSweep (s : State) (atOpen : Bool) : State :=
  s.each s.deadBufs (fun s q =>
    let l := (s.cam.sensors.getD q.1 SensorSt.reset).bufs.getD q.2.1 []
    let s := s.each ((l[q.2.2]?.map CamBuf.moors).getD []) (fun s m => s.freeMoor atOpen m)
    { s with cam := { s.cam with sensors := modAt s.cam.sensors q.1 (fun x =>
        { x with bufs := modAt x.bufs q.2.1 (fun l => modAt l q.2.2 (fun b => { b with moors := [] })) }) } })

/-- Tap buffers that a source picture left are free again (R380); buffers of an old reservation go with it (R274), those of camera settings of the
past too (R379). -/
def State.encRelease (s : State) (atOpen : Bool) : State :=
  let taps := s.comp.taps.map (fun b => if b.role = .scanning ∧ ¬ s.enc.holdsTap b.pound then { b with role := .free } else b)
  (State.dropOldBufs { s with comp := { s.comp with taps := taps } } atOpen).camSweep atOpen

/-- A source picture is published to stream `k` (R379, R380): it is counted, and taken where its count mod DIV is 0; a newer take
replaces the waiting picture. [DEDUCED: log 113] -/
def State.encOffer (s : State) (k : Nat) (e : EncPic) : State :=
  let x := s.encStream k
  let cs := s.cset
  if x.moors.isNone ∨ cs.fld (F.ENC_Sn_CTRL_EN k) = 0 ∨ ¬ encRuns cs.mode ∨ ¬ encRuns (s.setOf e.pound).mode then s
  else
    let s := s.modEnc k (fun x => { x with count := x.count + 1 })
    if x.count % max 1 (cs.fld (F.ENC_Sn_CTRL_DIV k)) ≠ 0 then s
    else
      let late := match x.wait with | some w => w.idr | none => false
      let s := if x.wait.isSome then
          (s.inc (F.ENC_Sn_CNT0_SKIPPED k)).raiseOnce 0xF31 bENC k k s.pound
        else s
      let e := { e with set := cs, idr := x.cmdIdr || late }
      let s := s.modEnc k (fun x => { x with wait := some e, cmdIdr := false })
      { s with enc := { s.enc with order := s.enc.order.filter (· ≠ k) ++ [k] } }

/-- A camera picture of the encoder's is published (R368): to every stream that names its sensor and output. -/
def State.encCamera (s : State) (e : EncPic) : State :=
  s.each (List.range 4) (fun s k =>
    let cs := s.cset
    s.when (cs.fld (F.ENC_Sn_CTRL_SRC k) == 0 && cs.fld (F.ENC_Sn_CTRL_SENSOR k) == e.sensor && cs.fld (F.ENC_Sn_CTRL_OUT k) == e.out)
      (fun s => s.encOffer k e))

/-- Complete tap pictures are published (R257, R379): the stream with SRC 1 takes one or lets it go. -/
def State.encTap (s : State) : State :=
  match s.comp.taps.find? (fun b => b.role == BufRole.queued) with
  | none => s
  | some b =>
    let taps := s.comp.taps.map (fun x => if x.role = .queued then { x with role := .scanning } else x)
    let s := { s with comp := { s.comp with taps := taps } }
    let g := (s.setOf b.pound).geom
    let e : EncPic :=
      { tap := true, sensor := 0, out := 0, buf := 0, width := g.cols, height := g.rows, pound := b.pound,
        tref := (s.launchOf b.pound).getD s.dev, set := s.cset, idr := false }
    let s := s.each (List.range 4) (fun s k => s.when (s.cset.fld (F.ENC_Sn_CTRL_SRC k) == 1) (fun s => s.encOffer k e))
    s.encRelease false

/-- A field of a stream's latched settings. -/
def EncPic.fld (e : EncPic) (f : Nat → Fld) (k : Nat) : Nat := e.set.fld (f k)

/-- What fixes the shape of a stream's pictures (R378): crop, output size, ROT, MIRROR. -/
def encShape (c : CSet) (k : Nat) : List Nat :=
  [c.fld (F.ENC_Sn_CROP0_X0 k), c.fld (F.ENC_Sn_CROP0_Y0 k), c.fld (F.ENC_Sn_CROP1_W k), c.fld (F.ENC_Sn_CROP1_H k),
   c.fld (F.ENC_Sn_SIZE_OW k), c.fld (F.ENC_Sn_SIZE_OH k), c.fld (F.ENC_Sn_CTRL_ROT k), c.fld (F.ENC_Sn_CTRL_MIRROR k)]

/-- The moorings of a source picture. -/
def State.encMoors (s : State) (e : EncPic) : List Nat :=
  if e.tap then (match s.comp.taps.find? (fun b => b.pound == e.pound && b.role == BufRole.scanning) with | some b => b.moors | none => [])
  else
    match s.cam.sensors[e.sensor]? with
    | some x => (((x.bufs.getD e.out [])[e.buf]?).map CamBuf.moors).getD []
    | none => []

/-- Source sample (x, y) as 10-bit Y, Cb, Cr (R381), and the CONC bit of a tap word. -/
def State.encSample (s : State) (e : EncPic) (moors : List Nat) (x y : Nat) : (Nat × Nat × Nat) × Bool :=
  if e.tap then
    let w := s.basin.listWord moors (4 * (y * e.width + x)) 4
    (stYcc 64 512 (bitsOf w 29 20) (bitsOf w 19 10) (bitsOf w 9 0), bitAt w 31)
  else
    let c := 2 * e.width * e.height + 4 * (y / 2 * (e.width / 2) + x / 2)
    let ten (a : Nat) : Nat := s.basin.listWord moors a 2 % 1024
    ((ten (2 * (y * e.width + x)), ten c, ten (c + 2)), false)

/-- Where output pixel (u, v) is sampled (R382), in 1/256 px of the source. -/
def encPos (x0 y0 w h ow oh rot : Nat) (mir : Bool) (u v : Nat) : Int × Int :=
  let w' := if rot % 2 = 1 then h else w
  let h' := if rot % 2 = 1 then w else h
  let a := scalePos 0 w' ow u
  let a := if mir then ((w' : Int) - 1) * 256 - a else a
  let b := scalePos 0 h' oh v
  let q : Int × Int :=
    if rot = 0 then (a, b)
    else if rot = 1 then (b, ((h : Int) - 1) * 256 - a)
    else if rot = 2 then (((w : Int) - 1) * 256 - a, ((h : Int) - 1) * 256 - b)
    else (((w : Int) - 1) * 256 - b, a)
  (q.1 + x0 * 256, q.2 + y0 * 256)

/-- The converted picture (R381, R382): samples of Y, then Cb, then Cr; and whether a word of the crop carries CONC. -/
def State.encPixels (s : State) (k : Nat) (e : EncPic) : List Nat × Bool :=
  let m := s.encMoors e
  let f (g : Nat → Fld) : Nat := e.fld g k
  let x0 := f F.ENC_Sn_CROP0_X0
  let y0 := f F.ENC_Sn_CROP0_Y0
  let w := f F.ENC_Sn_CROP1_W
  let h := f F.ENC_Sn_CROP1_H
  let ow := f F.ENC_Sn_SIZE_OW
  let oh := f F.ENC_Sn_SIZE_OH
  let pos := encPos x0 y0 w h ow oh (f F.ENC_Sn_CTRL_ROT) (f F.ENC_Sn_CTRL_MIRROR == 1)
  let comp (c : Nat × Nat × Nat → Nat) : List (List Nat) :=
    (List.range oh).map (fun v => (List.range ow).map (fun u =>
      bilinearAt (fun x y => c (s.encSample e m x.toNat y.toNat).1) (pos u v).1 (pos u v).2))
  let half (l : List (List Nat)) : List Nat := (List.range (oh / 2)).flatMap (fun y => (List.range (ow / 2)).map (fun x => mean4 l x y))
  let conc := e.tap && (List.range h).any (fun y => (List.range w).any (fun x => (s.encSample e m (x0 + x) (y0 + y)).2))
  ((comp (fun q => q.1)).flatten ++ half (comp (fun q => q.2.1)) ++ half (comp (fun q => q.2.2)), conc)

/-- A QP held to QP_MIN to QP_MAX (R384). -/
def EncPic.clampQp (e : EncPic) (k : Nat) (q : Int) : Nat :=
  (clampI (e.fld F.ENC_Sn_RC_QP_MIN k) (e.fld F.ENC_Sn_RC_QP_MAX k) q).toNat

/-- Bits per picture and budget (R384) from debt. -/
def encBudget (kbps mhz ifac : Nat) (intra : Bool) (debt : Nat) : Nat × Nat :=
  let bp := kbps * 1000000 / max 1 mhz
  let base := if intra then bp * ifac / 4 else bp
  (bp, max (base - debt) (base / 8))

/-- The streams in order whose pictures wait: a picture that has been taken back leaves its place. -/
def State.encOrder (s : State) : List Nat := s.enc.order.dropWhile (fun k => (s.encStream k).wait.isNone)

/-- Coding of the next waiting picture starts (R378, R383, R384), once the encoder has acted on the token of its pound (R43, R44). [DEDUCED: log 113] -/
def State.encStart (s : State) : State :=
  match s.enc.run, s.encOrder with
  | none, k :: rest =>
    let x := s.encStream k
    match x.wait with
    | none => s
    | some e =>
      if ¬ encRuns s.mode ∨ ¬ s.unitAt bENC 0 e.pound then s
      else
        let shape := encShape e.set k
        let period := e.fld F.ENC_Sn_GOP_IDR_PERIOD k
        let idr : Bool := e.idr || x.dueIdr || x.shape != some shape || (period != 0 && decide (period ≤ x.since))
        let mode := e.fld F.ENC_Sn_RC_MODE k
        let (bp, budget) := encBudget (e.fld F.ENC_Sn_RATE_BITRATE_KBPS k) (e.fld F.ENC_Sn_RATE2_RATE_MHZ k) (e.fld F.ENC_Sn_RATE2_IFAC k) idr x.debt
        let qp : Nat :=
          if mode = 1 then
            (match x.qp with
             | some q => e.clampQp k (if idr then (q : Int) - 2 else q)
             | none => e.clampQp k (e.fld F.ENC_Sn_RC_QP_I k))
          else e.clampQp k (if idr then e.fld F.ENC_Sn_RC_QP_I k else e.fld F.ENC_Sn_RC_QP_P k)
        let (px, conc) := s.encPixels k e
        let r : EncRun :=
          { stream := k, src := e, idr := idr, pixels := px, qps := [], qp := qp, coast := none, used := 0, budget := budget, bp := bp,
            ctus := [], done := 0, ctu := 0, row0 := 0, conc := conc, packets := 0, stop := none }
        let s := s.modEnc k (fun x => { x with wait := none, dueIdr := false, shape := some shape })
        { s with enc := { s.enc with run := some r, order := rest } }
  | _, _ => s

/-- The Pliash transport header (R128). [DESIGN CHOICE: log 58] -/
def pliashHeader (ty flags key chan len seq : Nat) : List Byte :=
  let h := beBytes 1 1 ++ beBytes 1 ty ++ beBytes 1 flags ++ beBytes 1 key ++ beBytes 2 chan ++ beBytes 2 len ++ beBytes 4 seq
  h ++ beBytes 4 (crc32c h).toNat

/-- The channel a stream sends on; one that has sent nothing starts at SEQ 0. -/
def EncSt.chan (e : EncSt) (grp chan : Nat) : EncChan :=
  (e.chans.find? (fun c => c.grp == grp && c.chan == chan)).getD { grp := grp, chan := chan, seq := 0, group := [] }

/-- `e` with a channel replaced. -/
def EncSt.setChan (e : EncSt) (c : EncChan) : EncSt :=
  { e with chans := c :: e.chans.filter (fun x => !(x.grp == c.grp && x.chan == c.chan)) }

/-- Queue packet number `n` of the picture (R388): timed egress, due at once where its launch time has gone by, or the class of other frames. [DEDUCED: log 114] -/
def State.encQueue (s : State) (r : EncRun) (n : Nat) (d : List Byte) : State :=
  let k := r.stream
  let g := r.src.fld F.ENC_Sn_TX_GRP k
  let delay := r.src.fld F.ENC_Sn_TIME_DELAY_US k
  let e := r.src.tref + (delay * 1000 + n * r.src.fld F.ENC_Sn_TIME_PACE_NS k) * 65536
  let l := { LFrame.of s.clk.now (if delay = 0 then 3 else 0) (if delay = 0 then 0 else e) [] with talk := some k, due := decide (delay ≠ 0 ∧ e ≤ s.dev) }
  s.sendUdp l (groupMac (s.grpAddr g)) (s.grpAddr g) (s.cm (F.RING_GRPn_CTL_PORT g)) d

/-- The parity packet of a group of data packets of a channel, and its group closed (R130, R386); none without data packets. -/
def State.encClose (s : State) (r : EncRun) (c : EncChan) : State × EncRun :=
  let s1 : State := { s with enc := s.enc.setChan { c with seq := ceilDiv c.seq 8 * 8 % 2 ^ 32, group := [] } }
  if c.group = [] then (s1, r)
  else
    let m := (c.group.map (fun q => q.2.length)).foldl max 0
    let par := c.group.foldl (fun a q => xorInto a (leBytes 1 q.1 ++ leBytes 1 0 ++ beBytes 2 q.2.length ++ q.2)) (List.replicate (m + 4) 0#8)
    (s1.encQueue r r.packets (pliashHeader 2 0 c.group.length c.chan par.length ((c.seq - 1) / 8 * 8) ++ par), { r with packets := r.packets + 1 })

/-- One data packet (R386), and after it the parity packet that closes its group. [DEDUCED: log 114] -/
def State.encPacket (s : State) (r : EncRun) (flags : Nat) (d : List Byte) (close : Bool) : State × EncRun :=
  let k := r.stream
  let c := s.enc.chan (r.src.fld F.ENC_Sn_TX_GRP k) (r.src.fld F.ENC_Sn_TX_CHAN k)
  let parN := r.src.fld F.ENC_Sn_PKT_PAR_N k
  let s := s.encQueue r r.packets (pliashHeader 1 flags 0 c.chan d.length c.seq ++ d)
  let r := { r with packets := r.packets + 1 }
  let c := { c with seq := c.seq + 1, group := if parN = 0 then [] else c.group ++ [(flags, d)] }
  if close ∨ (parN ≠ 0 ∧ parN ≤ c.group.length) then s.encClose r c
  else ({ s with enc := s.enc.setChan { c with seq := c.seq % 2 ^ 32 } }, r)

/-- The packets of a unit (R386): pieces of at most MAX_LEN bytes, by `fuel` pieces. -/
def State.encSend : Nat → State → EncRun → Nat → Bool → Bool → List Byte → State × EncRun
  | 0, s, r, _, _, _, _ => (s, r)
  | fuel + 1, s, r, n, first, last, d =>
    let fin := decide (d.length ≤ n)
    let (s, r) := s.encPacket r (b2n first * 2 + b2n fin * 4) (d.take n) (fin && last)
    if fin then (s, r) else State.encSend fuel s r n false last (d.drop n)

/-- What the encoder is coding, for the constants of Config. -/
def EncRun.key (r : EncRun) (x : EncStream) : EncIn :=
  { width := r.src.fld F.ENC_Sn_SIZE_OW r.stream, height := r.src.fld F.ENC_Sn_SIZE_OH r.stream, idr := r.idr, pic := x.pic,
    last := x.poc, ref := x.ref, pixels := r.pixels, qps := r.qps, coast := r.coast }

/-- A unit's bytes (R156, R386, R387); the body is padded with zeros to a multiple of 4. [DEDUCED: log 114] -/
def encUnit (stream flags pic row0 rows pound sec ns : Nat) (nal : List Byte) : List Byte :=
  let body := beBytes 1 stream ++ beBytes 1 flags ++ beBytes 2 pic ++ beBytes 2 row0 ++ beBytes 2 rows ++ beBytes 2 (sec / 2 ^ 32) ++ beBytes 2 0
    ++ beBytes 4 sec ++ beBytes 4 ns ++ nal
  let body := body ++ List.replicate (ceilDiv body.length 4 * 4 - body.length) 0#8
  let head (crc : Nat) : List Byte := [5#8, 0#8, 0#8, 0#8] ++ beBytes 4 pound ++ beBytes 4 (16 + body.length) ++ beBytes 4 crc
  head (crc32c (head 0 ++ body)).toNat ++ body

/-- The open slice ends with CTU `last` of row `row` and is handed to packetisation (R383, R386). -/
def State.encSlice (s : State) (r : EncRun) (row last : Nat) (fin : Bool) : State × EncRun :=
  let x := s.encStream r.stream
  let nal := encNal (r.key x) r.ctu (r.ctus.drop r.ctu)
  let flags := b2n r.idr + 2 * b2n fin + 4 * b2n r.coast.isSome + 8 * b2n r.conc
  let ns := r.src.tref / 65536
  let u := encUnit r.stream flags (x.pic % 65536) r.row0 (row + 1 - r.row0) r.src.pound (ns / 1000000000) (ns % 1000000000) nal
  let (s, r) := State.encSend (u.length + 1) s r (max 1 (r.src.fld F.ENC_Sn_PKT_MAX_LEN r.stream)) true fin u
  (s, { r with done := r.done + 8 * nal.length, ctu := last + 1, row0 := row })

/-- CTU `c` of row `row` is coded (R383, R384): the bits used are those of the slices so far; a slice ends at the CTU where it reaches 1,048,576
bytes. -/
def State.encOne (s : State) (r : EncRun) (row total c : Nat) : State × EncRun :=
  let x := s.encStream r.stream
  let r := { r with ctus := r.ctus ++ [encCtu (r.key x) r.ctu c] }
  let n := (encNal (r.key x) r.ctu (r.ctus.drop r.ctu)).length
  let r := { r with used := r.done + 8 * n }
  if 1048576 ≤ n ∧ c + 1 < total then s.encSlice r row c false else (s, r)

/-- CTUs are coded in order. -/
def State.encCtus (s : State) (r : EncRun) (row total : Nat) : List Nat → State × EncRun
  | [] => (s, r)
  | c :: rest => State.encCtus (s.encOne r row total c).1 (s.encOne r row total c).2 row total rest

/-- The row's QP changes (R384) under MODE 1, after row `row` of `rows`. -/
def encNextQp (used plan budget : Nat) (qp : Nat) : Int :=
  if plan + budget / 8 < used then qp + 2
  else if plan + budget / 16 < used then qp + 1
  else if used + budget / 16 < plan then (qp : Int) - 1
  else qp

/-- The moorings of stream `k` are freed (R389); at an open they wait (R278). [DEDUCED: log 114] -/
def State.encFree (s : State) (atOpen : Bool) (k : Nat) : State :=
  match (s.encStream k).moors with
  | none => s
  | some l => (s.each l (fun s m => s.freeMoor atOpen m)).modEnc k (fun x => { x with moors := none })

/-- Frames of encode stream `k` wait to be sent. -/
def RingSt.sends (r : RingSt) (k : Nat) : Bool := r.ports.any (fun p => p.loc.any (fun l => l.talk == some k))

/-- Stream `k` is being coded. -/
def EncSt.codes (e : EncSt) (k : Nat) : Bool := match e.run with | some r => r.stream == k | none => false

/-- Since TALK was cleared, the last unit of stream `k` has been sent: its moorings go (R389). [DEDUCED: log 114] -/
def State.encSent (s : State) (atOpen : Bool) (k : Nat) : State :=
  if (s.encStream k).closing ∧ ¬ s.enc.codes k ∧ ¬ s.ring.sends k then (s.encFree atOpen k).modEnc k (fun x => { x with closing := false }) else s

/-- The streams whose last unit may have been sent. -/
def State.encSents (s : State) : State := s.each (List.range 4) (fun s k => s.encSent false k)

/-- A picture leaves the encoder: its source is released. -/
def State.encLeave (s : State) (k : Nat) : State :=
  let s := State.encRelease { s with enc := { s.enc with run := none } } false
  s.encSent false k

/-- The QP of the last row coded outside coast (R384). -/
def EncRun.lastQp (r : EncRun) : Option Nat := match r.coast with | some c => r.qps[c - 1]? | none => r.qps.getLast?

/-- The picture is complete (R384, R385). -/
def State.encFinish (s : State) (r : EncRun) : State :=
  let k := r.stream
  let x := s.encStream k
  let budgeted := r.src.fld F.ENC_Sn_RC_MODE k ≠ 0
  let debt := if budgeted then min r.bp (r.used - r.budget) else x.debt
  let last := r.lastQp.getD r.qp
  let s := (s.wr (F.ENC_Sn_STAT_PIC k) x.pic).wr (F.ENC_Sn_STAT_QP k) last
  let s := (s.wr (F.ENC_Sn_STAT_COAST k) (b2n r.coast.isSome)).wr (F.ENC_Sn_BITS_VALUE k) r.used
  let s := (s.wr (F.ENC_Sn_DEBT_VALUE k) debt).inc (F.ENC_Sn_CNT0_PICTURES k)
  let s := match r.coast with
    | some c => (s.inc (F.ENC_Sn_CNT1_COASTED k)).raise 0xF30 bENC (k + 256 * c) debt
    | none => s
  let s := s.modEnc k (fun x =>
    { x with debt := debt, qp := some last, ref := Config.encRecon (r.key x).width (r.key x).height x.ref r.ctus,
             since := if r.idr then 1 else x.since + 1, poc := if r.idr then 0 else encPoc x.poc (x.pic % 256), pic := (x.pic + 1) % 65536 })
  s.encLeave k

/-- The picture is abandoned (R385), with the cause of event 0xF32; the packet sent last was its last one and closes its parity group, with the parity
packet where TALK egress goes on (R60, R386). [DEDUCED: log 113] -/
def State.encAbandon (s : State) (r : EncRun) (cause : Nat) : State :=
  let k := r.stream
  let s := (s.inc (F.ENC_Sn_CNT1_ABANDONED k)).raise 0xF32 bENC k cause
  let c := s.enc.chan (r.src.fld F.ENC_Sn_TX_GRP k) (r.src.fld F.ENC_Sn_TX_CHAN k)
  let s := if r.packets = 0 then s else (s.encClose r (if encRuns s.mode then c else { c with group := [] })).1
  (s.modEnc k (fun x => { x with dueIdr := true, pic := (x.pic + 1) % 65536, qp := r.lastQp.orElse (fun _ => x.qp) })).encLeave k

/-- A CTU row is coded (R383 to R385). -/
def State.encRow (s : State) : State :=
  match s.enc.run with
  | none => s
  | some r =>
    match r.stop with
    | some c => s.encAbandon r c
    | none =>
      let k := r.stream
      let e := r.src
      let per := ceilDiv (e.fld F.ENC_Sn_SIZE_OW k) 64
      let rows := ceilDiv (e.fld F.ENC_Sn_SIZE_OH k) 64
      let row := r.qps.length
      let r := { r with qps := r.qps ++ [if r.coast.isSome then 51 else r.qp] }
      let (s, r) := s.encCtus r row (per * rows) ((List.range per).map (row * per + ·))
      let fin := decide (rows ≤ row + 1)
      -- a slice that ended with the row before leaves its first row to the next one
      let r := if r.ctu = (row + 1) * per then { r with row0 := row + 1 } else r
      let due : Bool := decide (r.ctu < (row + 1) * per) && (fin || decide (e.fld F.ENC_Sn_GOP_SLICE_ROWS k ≤ row + 1 - r.row0))
      let (s, r) :=
        if due then
          let q := s.encSlice r row ((row + 1) * per - 1) fin
          (q.1, { q.2 with row0 := row + 1 })
        else (s, r)
      let mode := e.fld F.ENC_Sn_RC_MODE k
      let plan := r.budget * (row + 1) / max 1 rows
      let r := if mode = 1 ∧ r.coast = none then { r with qp := e.clampQp k (encNextQp r.used plan r.budget r.qp) } else r
      let r := if mode ≠ 0 ∧ r.coast = none ∧ r.budget ≤ r.used ∧ ¬ fin then { r with coast := some (row + 1) } else r
      if fin then s.encFinish r else { s with enc := { s.enc with run := some r } }

/-- A write of ENC_Sn_CMD.IDR (R378). [DEDUCED: log 113] -/
def State.encIdr (s : State) (k v : Nat) : State := if bitAt v 0 then s.modEnc k (fun x => { x with cmdIdr := true }) else s

/-- The picture in progress is to be abandoned (R385): 1 HOLD, 2 STANDBY, 3 Basin error. -/
def State.encStop (s : State) (cause : Nat) : State :=
  match s.enc.run with
  | some r => { s with enc := { s.enc with run := some { r with stop := some (r.stop.getD cause) } } }
  | none => s

/-- Moorings of an encode stream (R389): a reference and a reconstruction of OW × OH in 4:2:0 of two bytes a sample, and 4 MiB. [DEDUCED: log 114] -/
def encMoorCount (ow oh : Nat) : Nat := 2 * ceilDiv (3 * ow * oh) moorSize + 2

/-- Moorings are allocated to stream `k` at the open of `p` where it has none (R389); where none can be had, event 0xF33, and it stays off until EN is
committed again. -/
def State.encAlloc (s : State) (p k n : Nat) : State :=
  if (s.encStream k).moors.isSome ∨ (s.encStream k).off then s
  else
    match s.basin.allocMany cENCODE (s.classOrder cENCODE) (s.cm F.BASIN_RSV_PKT) .held n with
    | some (l, b) => (State.noteFree { s with basin := b }).modEnc k (fun x => { x with moors := some l })
    | none => ((s.allocFail cENCODE).raise 0xF33 bENC k p).modEnc k (fun x => { x with off := true })

/-- The rate control of stream `k` (R384): its mode and its two rates. -/
def CSet.encRate (c : CSet) (k : Nat) : List Nat :=
  [c.fld (F.ENC_Sn_RC_MODE k), c.fld (F.ENC_Sn_RATE_BITRATE_KBPS k), c.fld (F.ENC_Sn_RATE2_RATE_MHZ k)]

/-- The debt of stream `k` begins anew (R384). -/
def State.encNewRate (s : State) (k : Nat) : State := (s.modEnc k (fun x => { x with debt := 0 })).wr (F.ENC_Sn_DEBT_VALUE k) 0

/-- A stream at the open (R378, R384, R389): `old` is the committed set before; at the `first` open EN and TALK begin to count. [DEDUCED: log 114] -/
def State.encStreamOpen (s : State) (old : CSet) (first : Bool) (p k : Nat) : State :=
  let cs := s.cset
  let en := cs.fld (F.ENC_Sn_CTRL_EN k) == 1
  let rose := en && (first || old.fld (F.ENC_Sn_CTRL_EN k) == 0)
  let talk := has cs.mode mTALK && (first || !has old.mode mTALK)
  let s := s.when rose (fun s => s.modEnc k (fun x => { EncStream.reset with moors := x.moors }))
  let s := s.when (!en) (fun s => (s.encFree true k).modEnc k (fun x => { x with closing := false }))
  let s := s.when (rose || (en && talk)) (fun s =>
    (s.encAlloc p k (encMoorCount (cs.fld (F.ENC_Sn_SIZE_OW k)) (cs.fld (F.ENC_Sn_SIZE_OH k)))).modEnc k (fun x => { x with closing := false }))
  let freed := (has old.mode mHOLD && !has cs.mode mHOLD) || (has old.mode mSTANDBY && !has cs.mode mSTANDBY)
  let s := s.when (talk || freed) (fun s => s.modEnc k (fun x => { x with dueIdr := true, count := if talk then 0 else x.count }))
  let s := s.when (decide (cs.encRate k ≠ old.encRate k)) (fun s => s.encNewRate k)
  let s := s.when (!encRuns cs.mode || !en) (fun s => s.modEnc k (fun x => { x with wait := none }))
  let s := s.when (!first && has old.mode mTALK && !has cs.mode mTALK) (fun s => s.modEnc k (fun x => { x with closing := x.moors.isSome }))
  s.encSent true k

/-- Queued TALK egress is discarded (R60 step 7, R388). -/
def State.encPurge (s : State) : State :=
  { s with ring := { s.ring with ports := s.ring.ports.map (fun p => { p with loc := p.loc.filter (fun l => l.talk.isNone) }) } }

/-- The encoder at the open of `p`. -/
def State.encOpen (s : State) (old : CSet) (first : Bool) (p : Nat) : State :=
  let m := s.cset.mode
  let s := s.when (has m mHOLD) (fun s => s.encStop 1)
  let s := s.when (has m mSTANDBY) (fun s => s.encStop 2)
  let s := s.when (has m mHOLD || has m mSTANDBY) State.encPurge
  (s.each (List.range 4) (fun s k => s.encStreamOpen old first p k)).encRelease true

end Sys2Proof.Machine
end

