-- ==== Sys2Proof/Machine/Camera.lean ====
section
/-! DEFINITION. Camera input, exposure sets, frame sync, strobe and the glint locator (R356 to R376). -/

namespace Sys2Proof.Machine

/-- The CAM_SENSOR table of sensor `n`. -/
def State.sensorTab (s : State) (n : Nat) : Option (List Byte) := s.table 5 n

/-- Sensor `n`. -/
def State.sensor (s : State) (n : Nat) : SensorSt := s.cam.sensors.getD n SensorSt.reset

/-- `s` with sensor `n` changed. -/
def State.modSensor (s : State) (n : Nat) (f : SensorSt → SensorSt) : State :=
  { s with cam := { s.cam with sensors := modAt s.cam.sensors n f } }

/-- Sensor `n` is needed by a committed set (R360, R50, R60): HOLD suspends the camera; colour sensors serve TALK, infrared ones TRACK. -/
def State.sensorNeeded (s : State) (c : CSet) (n : Nat) : Bool :=
  match s.sensorTab n with
  | none => false
  | some t =>
    c.fld (F.CAM_Sn_CTRL_EN n) == 1 && !has c.mode mHOLD
      && (if camRole t = 0 then has c.mode mTALK else has c.mode mTRACK)

/-- The CSI port and pipe of port `p` are up (R52). -/
def State.portUp (s : State) (p : Nat) : Bool := s.domUp (152 + p) && s.domUp (154 + p)

/-- The frame of a sensor whose FE has not come. -/
def SensorSt.cur (x : SensorSt) : Option CamFrame := x.frames.find? (fun f => !f.ended)

/-- A frame of a sensor replaced by number. -/
def SensorSt.setFrame (x : SensorSt) (f : CamFrame) : SensorSt :=
  { x with frames := x.frames.map (fun g => if g.num = f.num then f else g) }

/-- A frame removed by number. -/
def SensorSt.dropFrame (x : SensorSt) (num : Nat) : SensorSt := { x with frames := x.frames.filter (fun g => g.num ≠ num) }

/-- The sensor of port `port` that a packet of virtual channel `vc` is for (R357); a long packet also names its data type. -/
def State.sensorAt (s : State) (port vc : Nat) (dt : Option Nat) : Option Nat :=
  (List.range 8).find? (fun n =>
    match s.sensorTab n with
    | none => false
    | some t =>
      camPort t == port && camVc t == vc && (match dt with | some d => camDt t == d | none => true)
        && (s.cm (F.CAM_Sn_CTRL_EN n) == 1 || (s.sensor n).cur.isSome))

/-- Output buffers being written to are given back. -/
def State.freeOuts (s : State) (n : Nat) (l : List (Nat × Nat)) : State :=
  s.each l (fun s q => s.modSensor n (fun x =>
    { x with bufs := modAt x.bufs q.1 (fun b => modAt b q.2 (fun c => { c with writing := false })) }))

/-- Frame `num` of sensor `n` is dropped whole (R363, R364), with the cause of event 0xF20. -/
def State.dropCam (s : State) (n num cause : Nat) : State :=
  match (s.sensor n).frames.find? (fun f => f.num == num) with
  | none => s
  | some f =>
    if f.dropped then s
    else
      let s := s.freeOuts n f.outs
      let s := (s.modSensor n (fun x =>
        if f.ended then x.dropFrame num else x.setFrame { f with dropped := true, waiting := [], taken := [], outs := [] })).camSweep (cause == 5)
      let s := (s.inc (F.CAM_Sn_CNT_DROPPED n)).inc (if cause = 1 then F.CAM_DROP_CNT_OVERFLOW else F.CAM_DROP_CNT_ERROR)
      s.raiseOnceI 0xF20 bCAM n n n cause

/-- The frame of sensor `n` in progress is dropped. [DEDUCED: log 107] -/
def State.dropCur (s : State) (n cause : Nat) : State :=
  match (s.sensor n).cur with | some f => s.dropCam n f.num cause | none => s

/-- Sensors of a port. -/
def State.portSensors (s : State) (port : Nat) : List Nat :=
  (List.range 8).filter (fun n => match s.sensorTab n with | some t => camPort t == port | none => false)

/-- The header of a packet (R357): what it says where the packet is to be used. A packet whose header cannot be corrected is lost: `lost` is the
sensor it can be attributed to, if any. -/
def State.csiHeader (s : State) (port : Nat) (h : List Byte) (lost : Option Nat) : State × Option CsiHead :=
  match csiRead h with
  | some (c, fixed) => (if fixed then s.inc F.CAM_PKT_ERR_ECC_CORR else s, some c)
  | none =>
    (match lost with
     | some n => s.dropCur n 3
     | none => s.each (s.portSensors port) (fun s n => s.dropCur n 4), none)

/-- A packet of no enabled sensor (R357). [DEDUCED: log 107] -/
def State.csiUnknown (s : State) (port vc dt : Nat) : State :=
  (s.inc F.CAM_PKT_ERR_DISCARD).raiseOnceI 0xF24 bCAM port 0 port (vc + 256 * dt)

/-! ### CCI -/

/-- Register value bytes in wire order (R359): CCI_FLAGS bit 1 puts the most significant first. -/
def cciBytes (t : List Byte) (n v : Nat) : List Byte := if bitAt (leAt t 15 1) 1 then beBytes n v else leBytes n v

/-- The writes of an exposure set (R369). -/
def expoOps (t : List Byte) (id lines gain : Nat) : List CciOp :=
  [{ reg := leAt t 0x10 2, bytes := cciBytes t (leAt t 0x12 1) lines, kind := .expo id false },
   { reg := leAt t 0x14 2, bytes := cciBytes t (leAt t 0x13 1) gain, kind := .expo id true }]

/-- Start or stop entries of a table (R359): `m` entries from entry `k`. -/
def seqOps (t : List Byte) (k m : Nat) : List CciOp :=
  (List.range m).map (fun i =>
    let o := 0x100 + 4 * (k + i)
    { reg := leAt t o 2, bytes := slice t (o + 2) 1, kind := .seq (leAt t (o + 3) 1) })

/-- The bytes of a register write on the CCI (R358): the sensor's address with the write bit, its register of 8 or 16 bits, the value. [PRESUMED: log 106] -/
def cciWire (t : List Byte) (op : CciOp) : List Byte :=
  beBytes 1 (2 * leAt t 14 1) ++ beBytes (if bitAt (leAt t 15 1) 0 then 2 else 1) op.reg ++ op.bytes

/-- The bus of a port takes the next register write where it is idle: that of the lowest-numbered sensor that has one and waits for no
delay. [DEDUCED: log 108] -/
def State.cciKick (s : State) (port : Nat) : State :=
  match s.cam.bus.getD port none with
  | some _ => s
  | none =>
    let go := (s.portSensors port).find? (fun n => !(s.sensor n).cci.isEmpty && !(s.sensor n).delay)
    let wire := go.map (fun n => (n, ((s.sensor n).cci.head?.map (cciWire ((s.sensorTab n).getD []))).getD []))
    { s with cam := { s.cam with bus := modAt s.cam.bus port (fun _ => wire) } }

/-- The port of sensor `n`. -/
def State.portOf (s : State) (n : Nat) : Nat := match s.sensorTab n with | some t => camPort t | none => 0

/-- A register write of sensor `n` is on its bus. -/
def State.cciBusy (s : State) (n : Nat) : Bool := ((s.cam.bus.getD (s.portOf n) none).map Prod.fst) == some n

/-- A sequence that has no write left and waits for no delay is complete (R360): the sensor streams, or is off. [DEDUCED: log 108] -/
def State.cciEnd (s : State) (n : Nat) : State :=
  let x := s.sensor n
  if ¬ x.cci.isEmpty ∨ x.delay then s
  else if x.phase = .starting then
    (s.modSensor n (fun x => { x with phase := .streaming, next := 0, frames := [] })).wr F.CAM_STATUS_STREAMING
      (orBit (s.rd F.CAM_STATUS_STREAMING) n)
  else if x.phase = .stopping then
    (s.modSensor n (fun x => { x with phase := .off, applied := [], newSet := none, write := none, again := none })).wr
      F.CAM_STATUS_STREAMING (clearBit (s.rd F.CAM_STATUS_STREAMING) n)
  else s

/-- A needed sensor is started (R360): start entries, the committed exposure set, then it streams. -/
def State.sensorStart (s : State) (n : Nat) : State :=
  match s.sensorTab n with
  | none => s
  | some t =>
    let x := s.sensor n
    if x.phase ≠ .off ∨ ¬ s.sensorNeeded s.cset n ∨ ¬ s.portUp (camPort t) then s
    else
      let lines := s.cm (F.CAM_Sn_EXP_LINES n)
      let gain := s.cm (F.CAM_Sn_EXP_GAIN n)
      let s := s.modSensor n (fun x =>
        { x with phase := .starting, stopDue := false, cci := seqOps t 0 (camStartCnt t) ++ expoOps t x.setId lines gain,
                 newSet := none, again := none, applied := [],
                 write := some { id := x.setId, lines := lines, gain := gain, frame := 0, retry := false } })
      s.cciKick (camPort t)

/-- A sensor gets its stop entries (R360), behind a register write that is on the bus. [DEDUCED: log 108] -/
def State.sensorStop (s : State) (n : Nat) : State :=
  match s.sensorTab n with
  | none => s
  | some t =>
    let s := s.modSensor n (fun x =>
      { x with phase := .stopping, stopDue := false, cci := (if s.cciBusy n then x.cci.take 1 else []) ++ seqOps t (camStartCnt t) (camStopCnt t), delay := false, write := none,
               newSet := none, again := none })
    (s.cciKick (camPort t)).cciEnd n

/-- An exposure set has been written whole (R369): the frame it applies from, event 0xF22 where it ended after the FS of N + 1. -/
def State.expoDone (s : State) (n : Nat) (w : ExpoWrite) : State :=
  let x := s.sensor n
  let k := match s.sensorTab n with | some t => camK t | none => 0
  let late : Bool := x.phase == .streaming && laterMod 16 x.next ((w.frame + 1) % 65536)
  let from_ := if x.phase = SensorPhase.starting then 0 else (w.frame + b2n late + k) % 65536
  let s := if late then s.raiseI 0xF22 bCAM n n w.id else s
  let s := s.modSensor n (fun x => { x with write := none, applied := ((w.id, from_) :: x.applied).take 8 })
  let s := ((s.wr (F.CAM_Sn_CCI_SET_ID n) w.id).wr (F.CAM_Sn_CCI_FRAME n) from_).wr (F.CAM_Sn_CCI_FAIL n) 0
  s.wr F.CAM_STATUS_CCI_FAIL (clearBit (s.rd F.CAM_STATUS_CCI_FAIL) n)

/-- A part of an exposure set was not acknowledged (R369): it is retried at the next FS, once; at stream start the sequence goes on. -/
def State.expoFail (s : State) (n reg : Nat) (w : ExpoWrite) : State :=
  let rest (x : SensorSt) : SensorSt := { x with cci := x.cci.dropWhile (fun o => match o.kind with | .expo _ _ => true | .seq _ => false) }
  if w.retry then
    let s := (s.modSensor n (fun x => { rest x with write := none })).raiseI 0xF23 bCAM n n reg
    (s.wr (F.CAM_Sn_CCI_FAIL n) 1).wr F.CAM_STATUS_CCI_FAIL (orBit (s.rd F.CAM_STATUS_CCI_FAIL) n)
  else s.modSensor n (fun x => { rest x with write := none, again := some { w with retry := true } })

/-- What the end of a register write does (R358, R360, R369). -/
def State.cciWritten (s : State) (n : Nat) (op : CciOp) (ack : Bool) (write : Option ExpoWrite) (starting : Bool) : State :=
  match op.kind with
  | .seq d =>
    let s := if ack then s else s.raiseI 0xF23 bCAM n n op.reg
    if d = 0 then s else s.modSensor n (fun x => { x with delay := true })
  | .expo _ last =>
    match write with
    | none => s
    | some w =>
      if starting then
        let s := if ack then s else s.raiseI 0xF23 bCAM n n op.reg
        if last then s.expoDone n w else s
      else if ¬ ack then s.expoFail n op.reg w
      else if last then s.expoDone n w
      else s

/-- A CCI register write of port `port` completes (R358, R360, R369). -/
def State.cciDone (s : State) (port : Nat) (ack : Bool) : State :=
  match s.cam.bus.getD port none with
  | none => s
  | some (n, _) =>
    let s := { s with cam := { s.cam with bus := modAt s.cam.bus port (fun _ => none) } }
    let x := s.sensor n
    match x.cci with
    | [] => s.cciKick port
    | op :: rest =>
      let s := s.modSensor n (fun x => { x with cci := rest })
      ((s.cciWritten n op ack x.write (x.phase == SensorPhase.starting)).cciEnd n).cciKick port

/-- The delay after an entry has elapsed (R360). -/
def State.cciDelay (s : State) (n : Nat) : State :=
  if ¬ (s.sensor n).delay then s
  else ((s.modSensor n (fun x => { x with delay := false })).cciEnd n).cciKick (s.portOf n)

/-! ### Frames -/

/-- Buffers for a frame that starts (R368): one that nothing holds for each enabled output; with none, event 0xF21. -/
def State.takeOut (s : State) (n o : Nat) : State × List (Nat × Nat) :=
  let l := (s.sensor n).bufs.getD o []
  if s.cm (F.CAM_Sn_OUTo_CFG_EN n o) = 0 ∨ ¬ l.any CamBuf.live then (s, [])
  else
    match (List.range l.length).find? (fun i => (match l[i]? with | some b => b.live && !b.writing | none => false) && !s.bufHeld n o i) with
    | some i => (s.modSensor n (fun x => { x with bufs := modAt x.bufs o (fun b => modAt b i (fun c => { c with writing := true })) }), [(o, i)])
    | none => (s.raiseOnceI 0xF21 bCAM n (n + 8 * o) (n + 256 * o) s.pound, [])

/-- The buffers of the three outputs. -/
def State.takeOuts (s : State) (n : Nat) : State × List (Nat × Nat) :=
  let a := s.takeOut n 0
  let b := a.1.takeOut n 1
  let c := b.1.takeOut n 2
  (c.1, a.2 ++ b.2 ++ c.2)

/-- The exposure set due at the FS of frame `num` begins to be written (R369). -/
def State.expoAt (s : State) (n num : Nat) : State :=
  match s.sensorTab n with
  | none => s
  | some t =>
    let x := s.sensor n
    if x.write.isSome then s
    else
      let w : Option ExpoWrite :=
        match x.newSet, x.again with
        | some (id, l, g), _ => some { id := id, lines := l, gain := g, frame := num, retry := false }
        | none, some a => some { a with frame := num }
        | none, none => none
      match w with
      | none => s
      | some w =>
        let s := s.modSensor n (fun x =>
          { x with write := some w, newSet := none, again := none, cci := x.cci ++ expoOps t w.id w.lines w.gain })
        s.cciKick (camPort t)

/-- The sets in effect seen from frame `num`: one that applies from long ago is taken to apply from 16,384 frames before, so that frame numbers go on
to tell what came first. -/
def SensorSt.rebase (x : SensorSt) (num : Nat) : SensorSt :=
  let far (a : Nat) : Bool := decide (16384 < (num + 65536 - a) % 65536 ∧ (num + 65536 - a) % 65536 < 32768)
  { x with applied := x.applied.map (fun a => if far a.2 then (a.1, (num + 49152) % 65536) else a) }

/-- A frame start packet (R361): the frame is counted and latches device time, the open pound and its committed set. [DEDUCED: log 107] -/
def State.csiStart (s : State) (port : Nat) (h : List Byte) (lost : Option Nat) : State :=
  if ¬ s.portUp port ∨ has s.mode mHOLD then s
  else
    let (s, c) := s.csiHeader port h lost
    match c with
    | none => s
    | some c =>
      match s.sensorAt port c.vc none with
      | none => s.csiUnknown port c.vc c.dt
      | some n =>
        if (s.sensor n).phase ≠ .streaming then s
        else
          let s := s.dropCur n 4
          let s := s.modSensor n (fun x => { x with frames := x.frames.filter (fun f => f.ended) })
          let num := (s.sensor n).next
          let (s, outs) := s.takeOuts n
          let f : CamFrame :=
            { num := num, fsAt := s.dev, pound := s.pound, set := s.cset, lit := s.cam.lit, outs := outs, got := 0, waiting := [], taken := [],
              ended := false, dropped := false }
          let s := s.modSensor n (fun x => { x.rebase num with next := (num + 1) % 65536, frames := x.frames ++ [f] })
          s.expoAt n num

/-- Bytes a port's line buffer holds. -/
def State.lineFill (s : State) (port : Nat) : Nat :=
  ((s.portSensors port).map (fun n => ((s.sensor n).frames.map (fun f => (f.waiting.map List.length).sum)).sum)).sum

/-- Frames of a port. -/
def State.portFrames (s : State) (port : Nat) : Nat := ((s.portSensors port).map (fun n => (s.sensor n).frames.length)).sum

/-- The sensor whose frame the overflow rule drops (R363): lowest PRIO, then higher VC. [DEDUCED: log 107] -/
def State.victim (s : State) (port arriving : Nat) : Option Nat :=
  let c := (s.portSensors port).filter (fun n => n == arriving || (s.sensor n).frames.any (fun f => !f.waiting.isEmpty))
  c.foldl (fun (b : Option Nat) n =>
    match b with
    | none => some n
    | some m =>
      (match s.sensorTab n, s.sensorTab m with
       | some t, some u => if camPrio t < camPrio u ∨ (camPrio t = camPrio u ∧ camVc u < camVc t) then some n else some m
       | _, _ => some m)) none

/-- Frames are dropped until a line of `len` bytes fits (R363), by `fuel`. -/
def State.makeRoom : Nat → State → Nat → Nat → Nat → State
  | 0, s, _, _, _ => s
  | fuel + 1, s, port, n, len =>
    if s.lineFill port + len ≤ 1048576 then s
    else
      match s.victim port n with
      | none => s
      | some v =>
        let x := s.sensor v
        match (x.frames.find? (fun f => !f.waiting.isEmpty)).orElse (fun _ => x.cur) with
        | none => s
        | some f => if f.dropped then s else State.makeRoom fuel (s.dropCam v f.num 1) port n len

/-- A long packet's payload and its CRC (R357, R362 to R364): a line for its sensor's frame, by the header `c`. -/
def State.csiPayload (s : State) (port : Nat) (c : CsiHead) (d : List Byte) (crc : Nat) : State :=
  match s.sensorAt port c.vc (some c.dt) with
  | none => s.csiUnknown port c.vc c.dt
  | some n =>
    match (s.sensor n).cur, s.sensorTab n with
    | some f, some t =>
      if f.dropped then s
      else
        let s := State.makeRoom (s.portFrames port + 1) s port n d.length
        (match (s.sensor n).cur with
         | none => s
         | some f =>
           if f.dropped then s
           else if csiCrc d ≠ crc then s.dropCur n 2
           else if d.length ≠ lineBytes c.dt (camWidth t) ∨ camHeight t ≤ f.got then s.dropCur n 4
           else s.modSensor n (fun x => x.setFrame { f with got := f.got + 1, waiting := f.waiting ++ [d] }))
    | _, _ => s

/-- A long packet (R356, R357, R362 to R364): its header, its payload, and the CRC behind it, low byte first. [DESIGN CHOICE: log 125] -/
def State.csiLine (s : State) (port : Nat) (h : List Byte) (lost : Option Nat) (d : List Byte) (crc : Nat) : State :=
  if ¬ s.portUp port ∨ has s.mode mHOLD then s
  else
    let (s, c) := s.csiHeader port h lost
    match c with
    | none => s
    | some c => if (0x10 ≤ c.dt ∧ c.dt ≤ 0x12) ∨ c.dt = 2 ∨ c.dt = 3 then s else s.csiPayload port c d crc

/-- The exposure set in effect for frame `num` (R369). -/
def SensorSt.setFor (x : SensorSt) (num : Nat) : Nat :=
  match x.applied.find? (fun a => !laterMod 16 a.2 num) with | some a => a.1 | none => 0

/-! ### Stereo pictures -/

/-- TRK_CTRL.DIFF acts (R372). [DEDUCED: log 110] -/
def CSet.diffs (c : CSet) : Bool := c.fld F.TRK_CTRL_DIFF == 1 && c.fld F.CAM_STROBE_DIV == 2

/-- Replace a pair's state. [DEDUCED: log 110] -/
def State.putPair (s : State) (p : Nat) (g : PairGlint) : State := { s with cam := { s.cam with pairs := modAt s.cam.pairs p (fun _ => g) } }

/-- 500 µs in 2^-16 ns (R372). [DEDUCED: log 110] -/
def pairGap : Nat := 500 * 65536000

/-- A picture is published to one side of a pair (R372): an older one that found no partner is released. [DEDUCED: log 110] -/
def State.pairTake (s : State) (p : Nat) (right : Bool) (q : PairPic) (lit : Bool) : State :=
  match s.cam.pairs[p]? with
  | none => s
  | some g =>
    let diff := s.cset.diffs
    let unlit := if right then g.unlitR else g.unlitL
    let keepUnlit (g : PairGlint) (u : Option PairPic) : PairGlint := if right then { g with unlitR := u } else { g with unlitL := u }
    if diff ∧ ¬ lit then s.putPair p (keepUnlit g (some q))
    else
      let base : Option Nat := match unlit with | some u => if u.num = (q.num + 65535) % 65536 then some u.buf else none | none => none
      if diff ∧ base.isNone then s
      else
        let q := { q with prev := if diff then base else none }
        let g := if diff then keepUnlit g none else g
        -- a pair that has both its pictures is complete: the new one begins another
        let g := if g.left.isSome ∧ g.right.isSome then { g with left := none, right := none } else g
        let mine := if right then g.right else g.left
        let other := if right then g.left else g.right
        let gap := pairGap
        let s := if mine.isSome then s.inc F.TRK_CNT_UNPAIRED else s
        (match other with
         | none => s.putPair p (if right then { g with right := some q } else { g with left := some q })
         | some o =>
           if o.fsAt + gap < q.fsAt then
             (s.inc F.TRK_CNT_UNPAIRED).putPair p (if right then { g with right := some q, left := none } else { g with left := some q, right := none })
           else if q.fsAt + gap < o.fsAt then
             (s.inc F.TRK_CNT_UNPAIRED).putPair p (if right then { g with right := none } else { g with left := none })
           else s.putPair p (if right then { g with right := some q } else { g with left := some q }))

/-- A published picture of the locator's goes to each enabled pair that names it (R368, R372). -/
def State.glintTake (s : State) (q : PairPic) (lit : Bool) : State :=
  if ¬ has s.mode mTRACK ∨ has s.mode mHOLD then s
  else
    s.each (List.range 4) (fun s p =>
      let c := s.cset
      if c.fld (F.TRK_PAIRp_CFG_EN p) = 0 then s
      else
        let s := s.when (c.fld (F.TRK_PAIRp_CFG_LEFT p) == q.sensor && c.fld (F.TRK_PAIRp_CFG_OUT_L p) == q.out) (fun s => s.pairTake p false q lit)
        s.when (c.fld (F.TRK_PAIRp_CFG_RIGHT p) == q.sensor && c.fld (F.TRK_PAIRp_CFG_OUT_R p) == q.out) (fun s => s.pairTake p true q lit))

/-- A frame taken whole by the pipe is published (R366 to R368): statistics, output pictures, and their consumers. [DEDUCED: log 107] -/
def State.publish (s : State) (n : Nat) (f : CamFrame) : State :=
  match s.sensorTab n with
  | none => s
  | some t =>
    let c := f.set
    let three := balanced t (c.fld (F.CAM_Sn_WB_R n), c.fld (F.CAM_Sn_WB_G n), c.fld (F.CAM_Sn_WB_B n)) f.taken
    let (mean, clip) := frameStats t three
    let planes := pipePlanes t three
    let s := (s.wr (F.CAM_Sn_STAT0_SET_ID n) ((s.sensor n).setFor f.num)).wr (F.CAM_Sn_STAT0_FRAME n) f.num
    let s := ((s.wr (F.CAM_Sn_STAT1_CLIP_PM n) clip).wr (F.CAM_Sn_STAT1_MEAN n) mean).inc (F.CAM_Sn_CNT_FRAMES n)
    let s := s.modSensor n (fun x => x.dropFrame f.num)
    s.each f.outs (fun s q =>
      let o := q.1
      let i := q.2
      let ow := c.fld (F.CAM_Sn_OUTo_SIZE_OW n o)
      let oh := c.fld (F.CAM_Sn_OUTo_SIZE_OH n o)
      let d := outputBytes t planes (c.fld (F.CAM_Sn_OUTo_CROP0_X0 n o)) (c.fld (F.CAM_Sn_OUTo_CROP0_Y0 n o))
        (c.fld (F.CAM_Sn_OUTo_CROP1_W n o)) (c.fld (F.CAM_Sn_OUTo_CROP1_H n o)) ow oh (c.fld (F.CAM_Sn_OUTo_CFG_FMT n o))
      match ((s.sensor n).bufs.getD o [])[i]? with
      | none => s
      | some b =>
        let s := { s with basin := s.basin.writeList b.moors d 0 }
        let b := { b with writing := false, num := f.num, fsAt := f.fsAt, pound := f.pound, lit := f.lit, width := ow, height := oh,
                            x0 := c.fld (F.CAM_Sn_OUTo_CROP0_X0 n o), y0 := c.fld (F.CAM_Sn_OUTo_CROP0_Y0 n o) }
        let s := s.modSensor n (fun x => { x with bufs := modAt x.bufs o (fun l => modAt l i (fun _ => b)) })
        if c.fld (F.CAM_Sn_OUTo_CFG_USE n o) = 0 then
          s.encCamera { tap := false, sensor := n, out := o, buf := i, width := ow, height := oh, pound := f.pound, tref := f.fsAt,
                        set := s.cset, idr := false }
        else s.glintTake { sensor := n, out := o, buf := i, num := f.num, fsAt := f.fsAt, prev := none } f.lit)

/-- A frame is published once its FE has come and the pipe has taken its lines. -/
def State.tryPublish (s : State) (n num : Nat) : State :=
  match (s.sensor n).frames.find? (fun f => f.num == num) with
  | some f => if f.ended ∧ f.waiting.isEmpty ∧ ¬ f.dropped then (s.publish n f).camSweep false else s
  | none => s

/-- A frame end packet (R361, R364, R366). -/
def State.csiEnd (s : State) (port : Nat) (h : List Byte) (lost : Option Nat) : State :=
  if ¬ s.portUp port ∨ has s.mode mHOLD then s
  else
    let (s, c) := s.csiHeader port h lost
    match c with
    | none => s
    | some c =>
      match s.sensorAt port c.vc none with
      | none => s.csiUnknown port c.vc c.dt
      | some n =>
        match (s.sensor n).cur, s.sensorTab n with
        | some f, some t =>
          let s := if ¬ f.dropped ∧ f.got ≠ camHeight t then s.dropCam n f.num 4 else s
          let s :=
            (match (s.sensor n).cur with
             | some f =>
               if f.dropped then s.modSensor n (fun x => x.dropFrame f.num)
               else (s.modSensor n (fun x => x.setFrame { f with ended := true })).tryPublish n f.num
             | none => s)
          if (s.sensor n).stopDue then s.sensorStop n else s
        | _, _ => s

/-- Sensors of a port that have eligible lines. -/
def State.eligibleLines (s : State) (port : Nat) : List Nat :=
  (s.portSensors port).filter (fun n => (s.sensor n).frames.any (fun f => !f.waiting.isEmpty))

/-- Deficit round robin (R362), by `fuel` visits: the sensor whose line is taken, with the deficits. -/
def State.drr : Nat → State → Nat → Option Nat × State
  | 0, s, _ => (none, s)
  | fuel + 1, s, port =>
    let el := s.eligibleLines port
    let w (n : Nat) : Nat := match s.sensorTab n with | some t => camWidth t | none => 0
    let next (n : Nat) : Option Nat := ((el.find? (fun m => decide (n < m))).orElse (fun _ => el.head?))
    let visit (s : State) (n : Nat) : Option Nat × State :=
      let q := match s.sensorTab n with | some t => camWeight t * 256 | none => 0
      let s := s.modSensor n (fun x => { x with deficit := x.deficit + q })
      State.drr fuel { s with cam := { s.cam with turn := modAt s.cam.turn port (fun _ => some n) } } port
    match s.cam.turn.getD port none with
    | some n =>
      if el.contains n ∧ w n ≤ (s.sensor n).deficit then (some n, s.modSensor n (fun x => { x with deficit := x.deficit - w n }))
      else
        let s := if el.contains n then s else s.modSensor n (fun x => { x with deficit := 0 })
        (match next n with | some m => visit s m | none => (none, s))
    | none => (match el.head? with | some m => visit s m | none => (none, s))

/-- A free pipe takes a line (R362). -/
def State.lineTake (s : State) (port : Nat) : State :=
  if ¬ s.portUp port ∨ has s.mode mHOLD ∨ (s.eligibleLines port).isEmpty then s
  else
    match s.drr 600 port with
    | (none, s) => s
    | (some n, s) =>
      match (s.sensor n).frames.find? (fun f => !f.waiting.isEmpty), s.sensorTab n with
      | some f, some t =>
        (match f.waiting with
         | [] => s
         | d :: rest =>
           let line := (unpackRaw (camWidth t + 1) (camDt t) d).take (camWidth t)
           (s.modSensor n (fun x => x.setFrame { f with waiting := rest, taken := f.taken ++ [line] })).tryPublish n f.num)
      | _, _ => s

/-! ### The locator -/

/-- Pixel values of a published picture, its width and its place on the sensor, less those of the picture before it where they are differenced (R372). -/
def State.pairPixels (s : State) (q : PairPic) : List Nat × Nat × Nat × Nat :=
  match ((s.sensor q.sensor).bufs.getD q.out [])[q.buf]? with
  | none => ([], 1, 0, 0)
  | some b =>
    let px (moors : List Nat) : List Nat := (List.range (b.width * b.height)).map (fun i => s.basin.listWord moors i 1)
    let a := px b.moors
    let l :=
      match q.prev with
      | some j =>
        (match ((s.sensor q.sensor).bufs.getD q.out [])[j]? with
         | some u => List.zipWith (fun x y => x - y) a (px u.moors)
         | none => a)
      | none => a
    (l, b.width, b.x0, b.y0)

/-- The glints of one side, at most 64 (R372): event 0x901 for more. -/
def State.sideGlints (s : State) (q : PairPic) : State × List Glint :=
  let c := s.cset
  let (px, w, x0, y0) := s.pairPixels q
  let l := findGlints px w x0 y0
    (c.fld F.TRK_CTRL_THR) (c.fld F.TRK_CTRL_MIN_AREA) (c.fld F.TRK_CTRL_MAX_AREA)
  (if 64 < l.length then s.raiseI 0x901 bTRK q.sensor q.sensor l.length else s, l.take 64)

/-- The report is formed and published (R375). [DEDUCED: log 110] -/
def State.formReport (s : State) : State :=
  let c := s.cset
  let en := (List.range 4).filter (fun p => c.fld (F.TRK_PAIRp_CFG_EN p) == 1)
  let res := en.filterMap (fun p => ((s.cam.pairs[p]?).bind PairGlint.result).map (fun r => (p, r)))
  let newest := (res.map (fun r => r.2.1)).foldl max 0
  let used := res.filter (fun r => decide (newest ≤ r.2.1 + c.fld F.COMP_TRACK_STALE_MS * 65536000000))
  let eyes := mergeEyes (c.fld F.TRK_MERGE_DIST) (used.flatMap (fun r => r.2.2))
  let time := (used.map (fun r => r.2.1)).foldl min newest
  let ns := time / 65536
  let s := (s.wrW (R.TRK_REP_TIME 0) (BitVec.ofNat 32 (ns % 1000000000))).wrW (R.TRK_REP_TIME 1) (BitVec.ofNat 32 (ns / 1000000000))
  let s := s.wrW (R.TRK_REP_TIME 2) (BitVec.ofNat 32 (ns / 1000000000 / 2 ^ 32 % 65536))
  let s := (s.wr F.TRK_STATUS_PAIRS (maskOf (used.map Prod.fst))).wr F.TRK_STATUS_EYES eyes.length
  let s := s.each (List.range 32) (fun s i =>
    let e := (eyes[i]?).getD { ex := 0, ey := 0, ez := 0 }
    ((s.wrW (R.TRK_EYEe_X i) (BitVec.ofInt 32 e.ex)).wrW (R.TRK_EYEe_Y i) (BitVec.ofInt 32 e.ey)).wrW (R.TRK_EYEe_Z i) (BitVec.ofNat 32 e.ez))
  let none_ := maskOf (en.filter (fun p => !used.any (fun r => r.1 == p)))
  let s := if none_ = 0 then s else s.raiseOnce 0x900 bTRK 0 none_ s.pound
  { s with comp := { s.comp with report := some (eyes, time), reported := true } }

/-- A stereo pair's two pictures are matched (R372 to R375). -/
def State.glintPair (s : State) (p : Nat) : State :=
  match s.cam.pairs[p]? with
  | none => s
  | some g =>
    match g.left, g.right with
    | some l, some r =>
      if has s.mode mHOLD ∨ ¬ has s.mode mTRACK ∨ ¬ s.unitUp bTRK 0 ∨ s.cm (F.TRK_PAIRp_CFG_EN p) = 0 then s
      else
        match s.sensorTab l.sensor with
        | none => s
        | some t =>
          let (s, gl) := s.sideGlints l
          let (s, gr) := s.sideGlints r
          let (ms, lost) := matchGlints (s.cm (F.TRK_PAIRp_CFG_ROW_TOL p)) (s.cm (F.TRK_PAIRp_CFG_DMAX p)) (signed 32 (leAt t 0xC8 4)) gl gr
          let s := s.add F.TRK_CNT_UNMATCHED lost
          let eyes := ms.filterMap (fun m => eyeOf t m.1 m.2)
          let g := { g with left := none, right := none, result := some (l.fsAt, eyes) }
          (State.camSweep { s with cam := { s.cam with pairs := modAt s.cam.pairs p (fun _ => g) } } false).formReport
    | _, _ => s

/-- The locator lets go of the pictures of pair `p` (R272, R376). -/
def State.glintAbandon (s : State) (p : Nat) : State :=
  { s with cam := { s.cam with pairs := modAt s.cam.pairs p (fun g => { g with left := none, right := none, unlitL := none, unlitR := none }) } }

/-! ### Frame sync and strobe -/

/-- CAM_FSYNCm drives a pulse (R370): in mode 1 for pound `p`; where it is the strobe's, pulse j is counted and may carry one (R371). [DEDUCED: log 111] -/
def State.fsync (s : State) (m p : Nat) : State :=
  let f (a b : Fld) : Nat := s.cm (if m = 0 then a else b)
  let mode := f F.CAM_FSYNC0_CFG_MODE F.CAM_FSYNC1_CFG_MODE
  let div := f F.CAM_FSYNC0_CFG_DIV F.CAM_FSYNC1_CFG_DIV
  if 2 ≤ m ∨ mode = 0 ∨ (mode = 1 ∧ p % max 1 div ≠ 0) then s
  else
    let s := s.pulse (.fsync m) (f F.CAM_FSYNC0_CFG_WIDTH_US F.CAM_FSYNC1_CFG_WIDTH_US * 1000)
    if s.cm F.CAM_STROBE_SRC ≠ m then s
    else
      let go : Bool := s.cm F.CAM_STROBE_WIDTH_US != 0 && s.cam.pulseJ % max 1 (s.cm F.CAM_STROBE_DIV) == 0
      { s with cam := { s.cam with pulseJ := s.cam.pulseJ + 1, strobe := go, lit := go } }

/-- The strobe rises DELAY_US after a pulse that carries it (R371). [DEDUCED: log 111] -/
def State.strobePulse (s : State) : State :=
  if ¬ s.cam.strobe then s else State.pulse { s with cam := { s.cam with strobe := false } } .strobe (s.cm F.CAM_STROBE_WIDTH_US * 1000)

/-! ### Opens -/

/-- Buffers take the places of those that are gone, and further ones. -/
def placeBufs : List CamBuf → List CamBuf → List CamBuf
  | [], l => l
  | b :: r, [] => b :: r
  | b :: r, x :: l => if ¬ b.live ∧ ¬ b.writing ∧ b.moors = [] then x :: placeBufs r l else b :: placeBufs r (x :: l)

/-- The buffers of an output from now on (R368): those before are of settings of the past, which frames in progress keep until their FE (R361). -/
def State.setOut (s : State) (n o : Nat) (b : List CamBuf) (off : Bool) : State :=
  s.modSensor n (fun x => { x with bufs := modAt x.bufs o (fun l => placeBufs (l.map (fun y => { y with live := false })) b),
                                   outOff := modAt x.outOff o (fun _ => off) })

/-- What of an output's settings changes its buffers (R368). [DEDUCED: log 111] -/
def CSet.outKey (x : CSet) (n o : Nat) : List Nat :=
  [x.fld (F.CAM_Sn_OUTo_CFG_EN n o), x.fld (F.CAM_Sn_OUTo_CFG_BUFS n o), x.fld (F.CAM_Sn_OUTo_CFG_FMT n o),
   x.fld (F.CAM_Sn_OUTo_SIZE_OW n o), x.fld (F.CAM_Sn_OUTo_SIZE_OH n o)]

/-- `k` buffers of `per` moorings each for an output of `ow` by `oh` (R368); event 0xF25 where they cannot be had. -/
def State.outAlloc (s : State) (p n o per k ow oh : Nat) : State :=
  match s.basin.allocMany cCAMERA (s.classOrder cCAMERA) (s.cm F.BASIN_RSV_PKT) .held (per * k) with
  | some (ms, b) =>
    (State.noteFree { s with basin := b }).setOut n o ((List.range k).map (fun i =>
      { moors := (ms.drop (per * i)).take per, live := true, writing := false, num := 0, fsAt := 0, pound := 0, lit := false, width := ow, height := oh, x0 := 0, y0 := 0 })) false
  | none => ((s.allocFail cCAMERA).setOut n o [] true).raiseI 0xF25 bCAM n (n + 256 * o) p

/-- Moorings of one picture of an output (R368): Y8 a byte a pixel, 10-bit 4:2:0 two bytes a sample. -/
def CSet.outPer (c : CSet) (n o : Nat) : Nat :=
  let px := c.fld (F.CAM_Sn_OUTo_SIZE_OW n o) * c.fld (F.CAM_Sn_OUTo_SIZE_OH n o)
  ceilDiv (if c.fld (F.CAM_Sn_OUTo_CFG_FMT n o) = 0 then px else 3 * px) moorSize

/-- Output `o` of sensor `n` at the open (R368): buffers for an output that is committed on, none for one that is off. [DEDUCED: log 111] -/
def State.camOutOpen (s : State) (old : CSet) (first : Bool) (p n o : Nat) : State :=
  let c := s.cset
  if c.outKey n o = old.outKey n o ∧ ¬ first then s
  else if c.fld (F.CAM_Sn_OUTo_CFG_EN n o) = 0 then s.setOut n o [] false
  else
    s.outAlloc p n o (c.outPer n o) (c.fld (F.CAM_Sn_OUTo_CFG_BUFS n o)) (c.fld (F.CAM_Sn_OUTo_SIZE_OW n o)) (c.fld (F.CAM_Sn_OUTo_SIZE_OH n o))

/-- A newly committed exposure set takes the place of one whose first write has not begun (R369): that of a start in the queue, any other at the next FS. -/
def State.expoReplace (s : State) (n id lines gain : Nat) : State :=
  let isExpo (o : CciOp) : Bool := match o.kind with | .expo _ _ => true | .seq _ => false
  let x := s.sensor n
  let begun : Bool := decide ((x.cci.filter isExpo).length < 2) || (s.cciBusy n && (x.cci.head?.map isExpo).getD false)
  if x.write.isNone ∨ begun then s.modSensor n (fun x => { x with newSet := some (id, lines, gain) })
  else if x.phase = .starting then
    s.modSensor n (fun x =>
      { x with write := some { id := id, lines := lines, gain := gain, frame := 0, retry := false }, newSet := none,
               cci := x.cci.filter (fun o => !isExpo o) ++ expoOps ((s.sensorTab n).getD []) id lines gain })
  else s.modSensor n (fun x => { x with write := none, newSet := some (id, lines, gain), cci := x.cci.filter (fun o => !isExpo o) })

/-- A sensor at the open: a changed exposure set gets the next SET_ID (R369); one no longer needed is stopped (R360). -/
def State.sensorOpen (s : State) (old : CSet) (first : Bool) (p n : Nat) : State :=
  let c := s.cset
  let s := s.each (List.range 3) (fun s o => s.camOutOpen old first p n o)
  let lines := c.fld (F.CAM_Sn_EXP_LINES n)
  let gain := c.fld (F.CAM_Sn_EXP_GAIN n)
  let s :=
    if lines = old.fld (F.CAM_Sn_EXP_LINES n) ∧ gain = old.fld (F.CAM_Sn_EXP_GAIN n) then s
    else
      let id := if (s.sensor n).setId = 255 then 1 else (s.sensor n).setId + 1
      let s := s.modSensor n (fun x => { x with setId := id, again := none })
      if (s.sensor n).phase = .streaming ∨ (s.sensor n).phase = .starting then s.expoReplace n id lines gain else s
  let hold := has c.mode mHOLD
  let s := s.when hold (fun s =>
    (s.each (((s.sensor n).frames.filter (fun f => !f.dropped)).map CamFrame.num) (fun s k => s.dropCam n k 5)).modSensor n
      (fun x => { x with frames := [] }))
  let x := s.sensor n
  if (x.phase = .streaming ∨ x.phase = .starting) ∧ ¬ s.sensorNeeded c n then
    if hold ∨ x.cur.isNone then s.sensorStop n else s.modSensor n (fun x => { x with stopDue := true })
  else if x.stopDue then s.modSensor n (fun x => { x with stopDue := false })
  else s

/-- The camera and the locator at the open of `p`. -/
def State.camOpen (s : State) (old : CSet) (first : Bool) (p : Nat) : State :=
  let c := s.cset
  let s := s.each (List.range 8) (fun s n => s.sensorOpen old first p n)
  let s := if c.regs.word R.CAM_STROBE = old.regs.word R.CAM_STROBE then s else { s with cam := { s.cam with pulseJ := 0 } }
  let quiet (p : Nat) : Bool := has c.mode mHOLD || !has c.mode mTRACK || c.fld (F.TRK_PAIRp_CFG_EN p) == 0
  let s := s.each (List.range 4) (fun s p => s.when (quiet p) (fun s => s.glintAbandon p))
  let s := s.camSweep true
  if has c.mode mTRACK then s else { s with comp := { s.comp with reported := false } }

end Sys2Proof.Machine
end

