-- ==== Sys2Proof/Machine/Domains.lean ====
section
/-! DEFINITION. Which power domains a pound needs, and their power-up and power-down requests (R51, R52, R76, R77, R244, R360, R440). -/

namespace Sys2Proof.Machine

/-- The cluster count in force (R244): the largest of the composition in progress and the next one whose estimate has completed;
without either, every allowed cluster. [DEDUCED: log 77] -/
def State.clustersNeeded (s : State) : Nat :=
  let l := (s.comp.counts.filter (fun e => e.1 == s.pound || e.1 == poundSub s.pound 1)).map Prod.snd
  match maxOf l with
  | none => s.allowedClusters
  | some n => min n s.allowedClusters

/-- A committed set needs the decoders (R50, R60). -/
def CSet.decodes (c : CSet) : Bool := (has c.mode mFIELD || has c.mode mDIRECT || has c.mode mFLAT) && !has c.mode mHOLD

/-- A committed set needs the encoder (R50, R60). -/
def CSet.encodes (c : CSet) : Bool := has c.mode mTALK && !has c.mode mHOLD && !has c.mode mSTANDBY

/-- Port `p` carries a sensor that a committed set needs (R51, R360). -/
def State.portNeeded (s : State) (c : CSet) (p : Nat) : Bool :=
  (List.range 8).any (fun n => (s.sensorTab n).isSome && s.portOf n == p && s.sensorNeeded c n)

/-- A committed set needs domain `d` (R51, R60, R244, R440). [DEDUCED: log 123] -/
def State.needDomain (s : State) (c : CSet) (d : Nat) : Bool :=
  if alwaysDomain d then true
  else if noHoldDomain d then !has c.mode mHOLD
  else if d < 120 then c.decodes && decide (d - 104 < (capLimits (s.rd F.HK_CAP_CAP)).2)
  else if d < 152 then s.composerRuns c && decide (d - 120 < s.clustersNeeded)
  else if d = 152 ∨ d = 154 then s.portNeeded c 0
  else if d = 153 ∨ d = 155 then s.portNeeded c 1
  else if d = 156 then has c.mode mTRACK && !has c.mode mHOLD
  else if d < 159 then c.encodes
  else false

/-- The unit of a domain holds no barge and no work of a pound whose mode needs it (R52, R269, R360, R440). -/
def State.domainIdle (s : State) (d : Nat) : Bool :=
  let needs (b : Barge) : Bool := s.needDomain (s.setOf b.tag) d
  if alwaysDomain d then false
  else if d < 36 then s.basin.selfref
  else if d = 51 then s.tug.queue.isEmpty
  else if d < 120 then
    (s.dec.cores.getD (d - 104) none).isNone && !((unitOf s.units bDEC (d - 104)).inq.any needs)
  else if d < 152 then
    match s.comp.cur with
    | none => true
    | some c => !(c.issued.any (fun e => e.1 == d - 120)) && decide (c.clusters ≤ d - 120)
  else if d < 156 then
    let p := if d = 152 ∨ d = 154 then 0 else 1
    (s.portSensors p).all (fun n => let x := s.sensor n; x.phase == SensorPhase.off && x.cci.isEmpty && x.frames.isEmpty)
  else if d = 156 then s.cam.pairs.all (fun g => g.left.isNone && g.right.isNone)
  else if d < 159 then s.enc.run.isNone
  else false

/-- Every needed domain is asked for, in one request each (R52); a pending power-up that is no longer needed, of a unit that holds no work of a
pound whose mode needs it, gets its power-down request, which removes it (R76); an idle sequencer starts. [DEDUCED: log 123] -/
def State.domainsNeed (s : State) : State :=
  let c := s.cset
  let s := s.each (s.pwr.upQ.filter (fun d => !s.needDomain c d && s.domainIdle d)) (fun s d => s.reqDown d)
  let s := s.each ((List.range domCount).filter (s.needDomain c)) (fun s d => s.reqUp d)
  s.flightKick

/-- The flight slot ends (R74): a domain in its power-down slot whose unit still holds work is not switched off yet; its power-down waits for
another slot. [DEDUCED: log 123] -/
def State.flightSlot (s : State) : State :=
  match s.pwr.slot with
  | some sl =>
    if ¬ sl.up ∧ ¬ s.domainIdle sl.dom then
      State.flightKick { s with pwr := { s.pwr with slot := none, downQ := sl.dom :: s.pwr.downQ } }
    else s.slotEnd
  | none => s

/-- A domain that is no longer needed has been drained: its power-down is queued (R52, R76). [DEDUCED: log 123] -/
def State.domainDrained (s : State) (d : Nat) : State :=
  if s.domUp d ∧ ¬ s.needDomain s.cset d ∧ s.domainIdle d then (s.reqDown d).flightKick else s

/-- Bits of PWR_DOM_FAILk are cleared (R77): their domains are eligible again with a fresh retry, and go up at once where they are
needed. -/
def State.domFailClear (s : State) (k : Nat) (v : Word) : State :=
  if 5 ≤ k then s
  else
    let a := R.PWR_DOM_FAIL k
    let was := s.rdW a
    let cleared := (maskBits 32 (was &&& v).toNat).map (fun b => 32 * k + b)
    let s := s.wrW a (was &&& ~~~v)
    let s := { s with pwr := { s.pwr with retried := s.pwr.retried.filter (fun d => !cleared.contains d) } }
    let s := s.each (cleared.filter (s.needDomain s.cset)) (fun s d => s.reqUp d)
    s.flightKick

end Sys2Proof.Machine
end

