-- ==== Sys2Proof/Machine/Reset.lean ====
section
/-! DEFINITION. The reset sources, what each reset clears and keeps, and the way out of reset (R69 to R71, R79 to R83, R108,
R442, R446). -/

namespace Sys2Proof.Machine

/-- The registers that a warm reset keeps: those of the always-on domain (R72, R79, R80), which are the PWR block, the housekeeping island
and those the tables mark, and the status of panel care. [DEDUCED: log 8] -/
def keptAddr (a : Nat) : Bool :=
  (match rowOf a with | some r => r.kept | none => false) || a == R.PNL_STATUS || a / 0x10000 == bHK
    || a / 0x10000 == bPWR

/-- A domain named in R51 is held off: FAULT_L stays asserted (R77). -/
def State.fatalFail (s : State) : Bool := (List.range domCount).any (fun d => (alwaysDomain d || noHoldDomain d) && s.domFailed d)

/-- Live registers after a reset. Panel care keeps running through a warm reset; of its status a cold reset keeps the state of the sequence
it runs (R80, R338). [DEDUCED: log 8] -/
def keptLive (live : RegFile) (cold : Bool) : RegFile :=
  if cold then RegFile.setFld [] F.PNL_STATUS_STATE (live.fld F.PNL_STATUS_STATE)
  else live.filter (fun e => keptAddr e.1)

/-- Panel care after a reset: a cold reset keeps what its power-down sequence needs. [DEDUCED: log 97] -/
def PanelSt.afterReset (p : PanelSt) (cold : Bool) : PanelSt :=
  if cold then
    { PanelSt.reset with enables := p.enables, discharge := p.discharge, step := p.step, since := p.since, cause := p.cause,
                         faulty := p.faulty, fast := p.fast }
  else { p with crackOn := false, wanted := false }

/-- Mode-select sampling belongs to the housekeeping island, which a warm reset does not touch (R56, R80). -/
def LockSt.afterReset (l : LockSt) (cold : Bool) : LockSt :=
  if cold then LockSt.reset
  else { LockSt.reset with gpioCount := l.gpioCount, gpioSeen := l.gpioSeen, gpioAcc := l.gpioAcc, gpioPrev := l.gpioPrev,
                           gpioAccAt := l.gpioAccAt }

/-- The state after the reset entry of R80: what the reset keeps of `s`, everything else at its reset value. [DEDUCED: log 8; DESIGN CHOICE: log 155] -/
def State.cleared (s : State) (cold lost : Bool) (phase : ResetPhase) : State :=
  { State.reset with
    clk := { Clk.reset with now := s.clk.now, comp := s.clk.comp }
    led := { LedSt.reset with live := keptLive s.led.live cold, kept := if cold then none else some (s.led.bank0, s.led.bank1, s.led.index) }
    evt := if cold then EvtSt.reset else { s.evt with limited := [], dropPound := 0 }
    lock := s.lock.afterReset cold
    pwr := { PwrSt.reset with phase := phase, porLow := s.pwr.porLow, tripped := s.pwr.tripped, cold := cold, faultHeld := !cold && s.fatalFail,
                              therm := if cold then false else s.pwr.therm, straps := s.pwr.straps }
    img := { ImgSt.reset with flash := (s.img.nvmReset lost).flash, size := s.img.size, otp := s.img.otp,
                              marks := if cold then 0 else s.img.marks, torn := s.tornBy, job := (s.img.nvmReset lost).job }
    panel := s.panel.afterReset cold
    hk := if cold then HkSt.reset else { s.hk with told := false }
    mgmt := if cold then MgmtSt.reset
            else { MgmtSt.reset with unlogged := (s.mgmt.logJob ++ s.mgmt.unlogged).filter (fun r => s.evt.ring.contains r.1),
                                     lostPound := (s.mgmt.logJob.filter (fun r => !s.evt.ring.contains r.1)).length }
    jtag := if cold then { JtagSt.reset with trst := s.jtag.trst } else s.jtag
    choices := s.choices
    pending := s.pending }

/-- Reset entry (R79 to R81, R108): the panel powers down, the weir closes, outputs are asserted; a program runs on; an erase is
recorded unless the always-on domain itself fails (`lost`). [DEDUCED: log 8, 9] -/
def State.enterReset (s : State) (cold lost : Bool) (phase : ResetPhase) : State :=
  let er := s.img.erasing
  let was := s.rd F.IMG_NVM_STAT_ERASE_PEND
  let addr := s.rd F.IMG_NVM_ADDR_ADDR
  let s := s.panelReset.cleared cold lost phase
  let s := s.showNvm
  if lost then s
  else
    match er with
    | some o => (((s.wr F.IMG_NVM_STAT_ERASE_PEND 1).wr F.IMG_NVM_STAT_SUSPENDED 1).wr F.IMG_NVM_STAT_OP 0).wr F.IMG_NVM_ADDR_ADDR o.addr
    | none => if was = 1 then (s.wr F.IMG_NVM_STAT_ERASE_PEND 1).wr F.IMG_NVM_ADDR_ADDR addr else s

/-- A cause bit of PWR_RST_CAUSE. -/
def State.resetCause (s : State) (f : Fld) : State := s.wr f 1

/-- A cold reset with its cause: PWR_RST_CAUSE holds the causes of that reset alone. A cold reset that falls in another one joins it. [DEDUCED: log 8] -/
def State.coldReset (s : State) (lost : Bool) (phase : ResetPhase) (f : Fld) : State :=
  let prior : Word := if s.pwr.cold ∧ ¬ s.running then s.rdW R.PWR_RST_CAUSE else 0#32
  ((s.enterReset true lost phase).wrW R.PWR_RST_CAUSE prior).wr f 1

/-- POR_L is asserted (R69, R79). -/
def State.porAssert (s : State) : State :=
  let s := { s with pwr := { s.pwr with porLow := true, tripped := 0 } }
  s.coldReset false .porHeld F.PWR_RST_CAUSE_POR

/-- Every monitored rail is checked (R70); `below` names those under their reset thresholds. -/
def State.railCheck (s : State) (below : Nat) : State :=
  if below % 2 ^ 18 = 0 then { s with pwr := { s.pwr with phase := .exitDue } }
  else State.resetCause { s with pwr := { s.pwr with phase := .seqCheck } } F.PWR_RST_CAUSE_SEQ

/-- POR_L is deasserted (R69, R70). -/
def State.porDeassert (s : State) (below : Nat) : State :=
  if ¬ s.pwr.porLow then s
  else
    let s := { s with pwr := { s.pwr with porLow := false } }
    if s.pwr.phase = .porHeld then s.railCheck below else s

/-- The check is repeated every 1 ms (R70). -/
def State.seqRetry (s : State) (below : Nat) : State := if s.pwr.phase = .seqCheck then s.railCheck below else s

/-- The monitors whose reset trip makes a cold reset (R79): VDD_AON and VDD_IO. [DEDUCED: log 51] -/
def coldMonitor (mon : Nat) : Bool := mon == 5 || mon == 16

/-- The exit from a reset in progress waits for the rails too (R79). -/
def PwrSt.waitRails (p : PwrSt) : PwrSt :=
  match p.phase with
  | .exitDue => { p with phase := .awaitRails }
  | .awaitCool => { p with rails := true }
  | _ => p

/-- A monitor stays below its reset threshold for 1 µs (R79, R80, R83, R346). A brace ends without its event, and its warning trips are
recorded with the reset trip in the mask of event 0x100; a reset in progress gains the cause, unless it is a cold one, and waits for the
rails. [DEDUCED: log 129] -/
def State.resetTrip (s : State) (mon : Nat) : State :=
  if 18 ≤ mon then s
  else
    let braced := match s.pwr.brace with | some b => b.trips | none => 0
    let s := { s with pwr := { s.pwr with tripped := orBit s.pwr.tripped mon ||| braced } }
    let cold := coldMonitor mon
    let s :=
      if cold then
        s.coldReset true (if s.pwr.porLow then ResetPhase.porHeld else ResetPhase.awaitRails) F.PWR_RST_CAUSE_BOR_COLD
      else if s.running then
        (s.enterReset false false .awaitRails).resetCause F.PWR_RST_CAUSE_BOR_WARM
      else if s.pwr.cold then { s with pwr := s.pwr.waitRails }
      else
        let s := s.resetCause F.PWR_RST_CAUSE_BOR_WARM
        { s with pwr := s.pwr.waitRails }
    if cold ∨ mon = 17 then s.panelFast 2 else s

/-- The rails have recovered after a brown-out (R79): the 1 ms before reset exit starts, unless the device still has to cool. -/
def State.monitorRecovery (s : State) : State :=
  if s.pwr.phase = .awaitRails ∧ ¬ s.pwr.porLow then
    State.wr { s with pwr := { s.pwr with phase := .exitDue, rails := false } } F.PWR_MON_LIVE_WARN 0
  else if s.pwr.phase = .awaitCool then State.wr { s with pwr := { s.pwr with rails := false } } F.PWR_MON_LIVE_WARN 0
  else s

/-- A write of PWR_RESET (R79): with the key and WARM, a warm reset. A brace that it falls in ends without event 0x102. [DESIGN CHOICE: log 155] -/
def State.resetWarm (s : State) (v : Word) : State :=
  if v.toNat >>> 16 = 0x5752 ∧ bitAt v.toNat 0 ∧ s.running then
    (s.enterReset false false .exitDue).resetCause F.PWR_RST_CAUSE_MGMT
  else s

/-- Thermal shutdown's warm reset (R79, R442): it waits for the temperature. A brace detected with it is dropped (R83). -/
def State.thermalReset (s : State) : State := (s.enterReset false false .awaitCool).resetCause F.PWR_RST_CAUSE_THERM

end Sys2Proof.Machine
end

