-- ==== Sys2Proof/Machine/LedgerRead.lean ====
section
/-! DEFINITION. Reads of the ledger (R7, R8, R10 to R12): the fields that show other state, and what a read over the ring or by the I2C
target returns and clears. -/

namespace Sys2Proof.Machine

/-- The word a register file and the shadow set give at `a`: RWS bits as last written, every other bit live (R7). -/
def State.baseWord (s : State) (a : Nat) : Word :=
  let m := BitVec.ofNat 32 (rwsMask a)
  (s.rdW a &&& ~~~m) ||| (s.led.shadow.word a &&& m)

/-- The number of a phase in TOP_LOCK_STAT. -/
def Phase.num : Phase → Nat
  | .idle => 0
  | .level => 1
  | .opened => 2

/-- The number of an outcome in TOP_LOCK_STAT. -/
def LockOutcome.num : LockOutcome → Nat
  | .applied => 0
  | .nochange => 1
  | .retry => 2
  | .rejected => 3

/-- Register `a` of an array that starts at `base` with `n` registers `step` apart: its index. -/
def indexIn (a base step n : Nat) : Option Nat :=
  if base ≤ a ∧ (a - base) % step = 0 ∧ (a - base) / step < n then some ((a - base) / step) else none

/-- Fields of TOP that show other state. -/
def State.topView (s : State) (a : Nat) : List (Fld × Nat) :=
  if a = R.TOP_MODE_ACT then [(F.TOP_MODE_ACT_MODE, s.mode.toNat)]
  else if a = R.TOP_POUND then [(F.TOP_POUND_POUND, s.pound)]
  else if a = R.TOP_LOCK_STAT then
    [(F.TOP_LOCK_STAT_HOLDQ, s.lock.holdQ.length), (F.TOP_LOCK_STAT_PENDING, b2n (s.led.shadow ≠ s.cset.regs)),
     (F.TOP_LOCK_STAT_PHASE, s.lock.phase.num), (F.TOP_LOCK_STAT_RETRY_CNT, s.lock.retry), (F.TOP_LOCK_STAT_OUTCOME, s.lock.outcome.num)]
  else if a = R.TOP_MODE_SRC ∧ s.paired then
    [(F.TOP_MODE_SRC_MGMT, clearBit (s.led.shadow.fld F.TOP_MODE_SRC_MGMT) 5), (F.TOP_MODE_SRC_STREAM, clearBit (s.led.shadow.fld F.TOP_MODE_SRC_STREAM) 5),
     (F.TOP_MODE_SRC_SCHED, clearBit (s.led.shadow.fld F.TOP_MODE_SRC_SCHED) 5)]
  else if a = R.TOP_UID0 then [(F.TOP_UID0_UID, if s.running then s.img.otp.uid % 2 ^ 32 else 0)]
  else if a = R.TOP_UID1 then [(F.TOP_UID1_UID, if s.running then s.img.otp.uid / 2 ^ 32 else 0)]
  else if a = R.TOP_STRAPS then
    if s.running then
      let p := s.pwr.straps
      [(F.TOP_STRAPS_PAIR, p.pair), (F.TOP_STRAPS_TEST_EN, b2n p.testEn), (F.TOP_STRAPS_MGMT_ADDR, 2 * b2n p.addr1 + b2n p.addr0),
       (F.TOP_STRAPS_BOOT_BANK, b2n p.bootBank)]
    else []
  else if a = R.TOP_UPTIME then [(F.TOP_UPTIME_SEC, if s.running then (s.clk.now - s.clk.exitAt) / 1000000000 else 0)]
  else if a = R.TOP_MGMT_STAT then
    [(F.TOP_MGMT_STAT_SUBS, maskOf ((List.range 4).filter (fun i => ((s.mgmt.sessions.getD i none).map (fun x => decide (x.mask ≠ 0))).getD false))),
     (F.TOP_MGMT_STAT_SESSIONS, (s.mgmt.sessions.filter Option.isSome).length)]
  else if a = R.TOP_EVT_STAT then [(F.TOP_EVT_STAT_FILL, s.evt.ring.length), (F.TOP_EVT_STAT_RSEQ, s.evt.rseq)]
  else if a = R.TOP_EVT_DROP then [(F.TOP_EVT_DROP_COUNT, s.evt.dropTotal)]
  else if a = R.TOP_LOG_STAT then [(F.TOP_LOG_STAT_SECTOR, s.mgmt.logSector.getD 0)]
  else []

/-- Fields of PWR that show other state (R74, R76, R82). -/
def State.pwrView (s : State) (a : Nat) : List (Fld × Nat) :=
  if a = R.PWR_STATUS then
    [(F.PWR_STATUS_UP_PENDING, satN 255 s.pwr.upQ.length), (F.PWR_STATUS_NVM_BLOCK, b2n s.pwr.brace.isSome),
     (F.PWR_STATUS_FLIGHT_BUSY, b2n (!s.pwr.upQ.isEmpty || !s.pwr.downQ.isEmpty)), (F.PWR_STATUS_BRACE, b2n s.pwr.brace.isSome)]
  else if a = R.PWR_FLIGHT_STAT then
    [(F.PWR_FLIGHT_STAT_DOWN_PENDING, satN 255 s.pwr.downQ.length),
     (F.PWR_FLIGHT_STAT_CURRENT, match s.pwr.slot with | some l => l.dom | none => 0xFF)]
  else
    match indexIn a (R.PWR_DOM_ON 0) 4 5 with
    | some k => [(F.PWR_DOM_ON_ON k, s.pwr.up / 2 ^ (32 * k))]
    | none => []

/-- Fields of IMG, RING, TIME and SEC that show other state (R3, R100, R128, R134, R161). -/
def State.linkView (s : State) (a : Nat) : List (Fld × Nat) :=
  let o := s.img.otp
  if a = R.IMG_OTP then
    if s.running then
      [(F.IMG_OTP_REVOKED, o.revoked), (F.IMG_OTP_PRESENT, maskOf ((List.range 4).filter (fun i => !(o.slots.getD i []).isEmpty))),
       (F.IMG_OTP_EPOCH, o.epoch)]
    else []
  else if a = R.RING_MAC_LO then [(F.RING_MAC_LO_MAC, if s.running then o.mac % 2 ^ 32 else 0)]
  else if a = R.RING_MAC_HI then [(F.RING_MAC_HI_MAC, if s.running then o.mac / 2 ^ 32 else 0)]
  else if a = R.RING_SCENE0 ∨ a = R.RING_SCENE1 then
    [(F.RING_SCENE0_SCENE_ID, 0), (F.RING_SCENE1_SCENE_ID, 0)].map (fun f =>
      (f.1, ((s.strm.slot (if a = R.RING_SCENE0 then 0 else 1)).cur.map Scene.id).getD 0))
  else if a = R.RING_SCENE_VER then
    [(F.RING_SCENE_VER_VER1, ((s.strm.slot 1).cur.map Scene.ver).getD 0), (F.RING_SCENE_VER_VER0, ((s.strm.slot 0).cur.map Scene.ver).getD 0)]
  else if a = R.RING_SCENE_PEND then
    [(F.RING_SCENE_PEND_PEND1, b2n (s.strm.slot 1).pend.isSome), (F.RING_SCENE_PEND_PEND0, b2n (s.strm.slot 0).pend.isSome)]
  else if a = R.RING_CHAN_OPEN then [(F.RING_CHAN_OPEN_COUNT, (s.strm.chans.filter (fun c => c.chan ≠ 0)).length)]
  else if a = R.SEC_STATUS then
    [(F.SEC_STATUS_QUEUE, s.sec.queue.length), (F.SEC_STATUS_SRC_SET, b2n (s.hashSet R.SEC_SRC_HASH)),
     (F.SEC_STATUS_DEVKEY_OK, b2n (s.running && !o.devKey.isEmpty))]
  else
    match indexIn a (R.SEC_DEVPUB 0) 4 24, indexIn a (R.TIME_NOW 0) 4 4 with
    | some k, _ => [(F.SEC_DEVPUB_PUB k, if s.running then beAt o.devPub (4 * (23 - k)) 4 else 0)]
    | none, some k =>
      [(F.TIME_NOW_NOW k,
        if k = 0 then s.dev % 65536 else if k = 1 then s.devNs else if k = 2 then s.devSec % 2 ^ 32 else s.devSec / 2 ^ 32)]
    | none, none => []

/-- A core's DEC_COREn_STAT (R182): which part of its chunk a core is at is open. [DESIGN CHOICE: log 81] -/
def State.coreView (s : State) (n : Nat) : List (Fld × Nat) :=
  match s.dec.cores.getD n none with
  | some j =>
    [(F.DEC_COREn_STAT_CTX n, j.chunk.ctx), (F.DEC_COREn_STAT_PLANE n, Config.freeNat (s.choices + 1) % 3),
     (F.DEC_COREn_STAT_STATE n, 1 + Config.freeNat s.choices % 4)]
  | none =>
    [(F.DEC_COREn_STAT_CTX n, 0), (F.DEC_COREn_STAT_PLANE n, 0), (F.DEC_COREn_STAT_STATE n, if s.unitUp bDEC n then 0 else 7)]

/-- A stream context's CTX_STAT (R185, R186): none before step 8 of R102 and for the contexts the decoders do not use. [DEDUCED: log 87] -/
def State.ctxView (s : State) (n : Nat) : List (Fld × Nat) :=
  if 16368 ≤ n ∨ ¬ s.img.trained then []
  else
    let c := s.dec.ctx n
    let conc (i : Nat) : Nat := b2n ((c.planes[i]?).map CtxPlane.conc |>.getD false)
    let newest := (c.planes.filterMap CtxPlane.pound).foldl (fun b p => match b with | none => some p | some q => some (if laterPound p q then p else q)) none
    [(F.CTX_STATn_POUND n, (newest.getD 0) % 2 ^ 24), (F.CTX_STATn_WAIT_RAP n, b2n c.waitRap), (F.CTX_STATn_CONCEALED_R n, conc 2),
     (F.CTX_STATn_CONCEALED_A n, conc 1), (F.CTX_STATn_CONCEALED_C n, conc 0), (F.CTX_STATn_PICTURE n, b2n newest.isSome),
     (F.CTX_STATn_OPEN n, b2n (s.openCtxs.contains n))]

/-- Fields of DEC, CTX and COMP that show other state. -/
def State.decView (s : State) (a : Nat) : List (Fld × Nat) :=
  let g := s.cset.geom
  if a = R.DEC_STATUS then
    [(F.DEC_STATUS_UP, maskOf (s.upInsts bDEC)), (F.DEC_STATUS_BUSY, maskOf ((List.range 16).filter (fun n => (s.dec.cores.getD n none).isSome)))]
  else if a = R.DEC_CONCEALED then [(F.DEC_CONCEALED_COUNT, s.dec.concealed)]
  else if a = R.COMP_PANEL_HOG_ACT then [(F.COMP_PANEL_HOG_ACT_VALUE, (s.cset.regs.word R.COMP_PANEL_HOG).toNat)]
  else if a = R.COMP_PANEL_VIEW_ACT then [(F.COMP_PANEL_VIEW_ACT_VALUE, (s.cset.regs.word R.COMP_PANEL_VIEW).toNat)]
  else if a = R.COMP_PANEL_RAYS then [(F.COMP_PANEL_RAYS_RAYS, g.cols * g.rows * g.vcols * g.vrows)]
  else if a = R.COMP_BLOCKS then [(F.COMP_BLOCKS_BY, ceilDiv g.rows 8), (F.COMP_BLOCKS_BX, ceilDiv g.cols 8)]
  else if a = R.COMP_RUN_STAT then
    [(F.COMP_RUN_STAT_CLUSTERS, (s.comp.cur.map Compose.clusters).getD 0), (F.COMP_RUN_STAT_BELOW, satN 255 s.comp.below),
     (F.COMP_RUN_STAT_ABOVE, satN 255 s.comp.above), (F.COMP_RUN_STAT_RUNG_REQ, s.comp.rungReq), (F.COMP_RUN_STAT_RUNG, s.cset.rung)]
  else
    match indexIn a (R.DEC_COREn_STAT 0) 4 16, indexIn a (R.CTX_STATn 0) 4 16384 with
    | some n, _ => s.coreView n
    | none, some n => s.ctxView n
    | none, none => []

/-- Fields of BASIN, TUG and SCAN that show other state (R262, R271, R291, R300). [DEDUCED: log 87] -/
def State.basinView (s : State) (a : Nat) : List (Fld × Nat) :=
  if a = R.BASIN_FREE then [(F.BASIN_FREE_FREE, if s.img.trained then s.basin.free else 0)]
  else if a = R.BASIN_QUAR then [(F.BASIN_QUAR_FULL, b2n s.basin.quarFull), (F.BASIN_QUAR_COUNT, s.basin.quarCount)]
  else if a = R.TUG_STATUS then
    [(F.TUG_STATUS_QUEUED, (s.tug.queue.filter (fun j => !j.started)).length), (F.TUG_STATUS_RUNNING, (s.tug.queue.filter (fun j => j.started)).length)]
  else if a = R.SCAN_ROWS then [(F.SCAN_ROWS_MAX, s.cset.scanRows / 65536), (F.SCAN_ROWS_TOTAL, s.cset.scanRows % 65536)]
  else
    match indexIn a (R.BASIN_CLASS_CNTn 0) 4 12 with
    | some n =>
      [(F.BASIN_CLASS_CNTn_COUNT n, (s.basin.moors.filter (fun e => e.2.cls = n ∧ (e.2.st = .held ∨ e.2.st = .reserved))).length)]
    | none => []

/-- Fields of CAM, TRK, ENC, TOW and LZ that show other state. -/
def State.sideView (s : State) (a : Nat) : List (Fld × Nat) :=
  if a = R.CAM_STATUS then [(F.CAM_STATUS_PORT_UP, b2n (s.domUp 152) + 2 * b2n (s.domUp 153))]
  else if a = R.TRK_STATUS then
    [(F.TRK_STATUS_AGE_MS, match s.comp.report with | some r => satN 65535 ((s.dev - r.2) / 65536 / 1000000) | none => 0)]
  else if a = R.ENC_STATUS then
    [(F.ENC_STATUS_CODING, match s.enc.run with | some r => r.stream | none => 0), (F.ENC_STATUS_BUSY, b2n s.enc.run.isSome),
     (F.ENC_STATUS_ACTIVE, maskOf ((List.range 4).filter (fun k => s.cm (F.ENC_Sn_CTRL_EN k) = 1 ∧ (s.encStream k).moors.isSome)))]
  else if a = R.TOW_STATUS then [(F.TOW_STATUS_SIDE, if s.running then s.side else 0)]
  else if a = R.LZ_STATUS then [(⟨R.LZ_STATUS, 31, 0⟩, s.lz.status)]
  else if a = R.LZ_QDEPTH then [(⟨R.LZ_QDEPTH, 31, 0⟩, s.lz.depth)]
  else
    match indexIn a (R.ENC_Sn_STAT 0) 0x80 4, indexIn a (R.LANE_n_TXCFG 0) 0x20 60 with
    | some k, _ => [(F.ENC_Sn_STAT_WAITING k, b2n (s.encStream k).wait.isSome)]
    | none, some n => if 48 ≤ n ∧ n < 56 then [(F.LANE_n_TXCFG_POL_INV n, 0)] else []
    | none, none => []

/-- The fields of register `a` that show other state, with their values. -/
def State.views (s : State) (a : Nat) : List (Fld × Nat) :=
  let b := a / 0x10000
  if b = bTOP then s.topView a
  else if b = bPWR then s.pwrView a
  else if b = bIMG ∨ b = bRING ∨ b = bTIME ∨ b = bSEC then s.linkView a
  else if b = bDEC ∨ b = bCTX ∨ b = bCOMP then s.decView a
  else if b = bBASIN ∨ b = bTUG ∨ b = bSCAN then s.basinView a
  else s.sideView a

/-- The word of register `a` as a read of that word alone would give it, nothing cleared (R7). -/
def State.regWord (s : State) (a : Nat) : Word :=
  BitVec.ofNat 32 ((s.views a).foldl (fun w f => putBits w f.1.hi f.1.lo f.2) (s.baseWord a).toNat)

/-- A read by the device itself or by an image record (R95); 0 where there is no register (R11). -/
def State.readReg (s : State) (a : Nat) : Word := if hasReg a then s.regWord a else 0#32

/-- Words `1` to `n - 1` of a wide value are captured (R12). -/
def State.captured (s : State) (base n : Nat) (snap : Sparse Word) : Sparse Word :=
  (List.range n).foldl (fun m i => if i = 0 then m else Sparse.set (fun _ => 0#32) m (base + 4 * i) (s.regWord (base + 4 * i))) snap

/-- The RC bits of the register at `a`. -/
def rcMask (a : Nat) : Nat := match rowOf a with | some r => r.rc | none => 0

/-- A clearing read of register `a` (R10): RC bits fall to 0; the smallest-value field takes its current value. [DESIGN CHOICE: log 127] -/
def State.clearRc (s : State) (a : Nat) : State :=
  let s := if a = R.BASIN_UE_ADDR0 then { s with basin := { s.basin with ueAddr := false } }
    else if a = R.BASIN_UE_SRC then { s with basin := { s.basin with ueSrc := false } } else s
  if a = R.TOP_EVT_DROP then { s with evt := { s.evt with dropTotal := 0 } }
  else if a = R.BASIN_FREE_LOW then s.wr F.BASIN_FREE_LOW_LOW (if s.img.trained then s.basin.free else 0)
  else if rcMask a = 0 then s
  else s.wrW a (s.rdW a &&& ~~~(BitVec.ofNat 32 (rcMask a)))

/-- A read over the ring (R10, R12): the word, and the state with the snapshot taken and RC fields cleared. -/
def State.ringRead (s : State) (a : Nat) : Word × State :=
  match wideOf a with
  | none => (s.readReg a, s.clearRc a)
  | some (base, n, i) =>
    if i = 0 then
      let w := s.readReg a
      let s := { s with led := { s.led with snapRing := s.captured base n s.led.snapRing } }
      (w, s.each (List.range n) (fun s k => s.clearRc (base + 4 * k)))
    else (Sparse.get (fun _ => 0#32) s.led.snapRing a, s)

/-- A read of one word by the I2C target (R10, R456): its own snapshot, nothing cleared. -/
def State.i2cReadWord (s : State) (a : Nat) : Word × State :=
  match wideOf a with
  | none => (s.readReg a, s)
  | some (base, n, i) =>
    if i = 0 then (s.readReg a, { s with led := { s.led with snapI2c := s.captured base n s.led.snapI2c } })
    else (Sparse.get (fun _ => 0#32) s.led.snapI2c a, s)

end Sys2Proof.Machine
end

