-- ==== Sys2Proof/Machine/LedgerWrite.lean ====
section
/-! DEFINITION. Writes of the ledger: the access codes (R7, R9, R11), the write-hold queue (R40), the write manifest (R13, R98), TOP_MODE
(R54), the update commands (R104), calibration saves (R109) and the registers whose write is a command to a block. -/

namespace Sys2Proof.Machine

/-- Every shadow value is set to its committed value (TOP_SHADOW_CTRL.DISCARD, R31). [DEDUCED: log 121] -/
def LedSt.discard (l : LedSt) : LedSt := { l with shadow := l.committed.regs }

/-- A write of TOP_SHADOW_CTRL: between step 1 and step 6 of R34 the request waits. [DEDUCED: log 121] -/
def State.shadowDiscard (s : State) (v : Nat) : State :=
  if ¬ bitAt v 0 then s
  else if s.lock.phase = .idle then { s with led := s.led.discard }
  else { s with lock := { s.lock with discardReq := true } }

/-- Flags that a source may change: a field of the committed TOP_MODE_SRC, without STANDBY in a paired device (R54, R57). -/
def State.srcMask (s : State) (f : Fld) : Nat := if s.paired then clearBit (s.cm f) 5 else s.cm f

/-- `o` with source `src` in the three bits of every flag of `mask` (TOP_MODE_ORIGIN). -/
def setOrigin (o mask src : Nat) : Nat := (maskBits 8 mask).foldl (fun o n => putBits o (3 * n + 2) (3 * n) src) o

/-- A management write of TOP_MODE reaches the shadow (R54): unpermitted flags are kept, event 0x00B; changed flags count as touched (R58). [DEDUCED: log 15] -/
def State.modeWrite (s : State) (v : Word) (mask : Nat) : State :=
  let old := (s.led.shadow.word R.TOP_MODE).toNat
  let want := (maskedWord (s.led.shadow.word R.TOP_MODE) v (mask &&& 0xFF)).toNat
  let diff := (old ^^^ want) &&& 0xFF
  let allow := s.srcMask F.TOP_MODE_SRC_MGMT
  let kept := diff &&& (0xFF ^^^ allow)
  let act := diff &&& allow
  let s := { s with led := { s.led with shadow := s.led.shadow.setWord R.TOP_MODE (BitVec.ofNat 32 (old ^^^ act)) },
                    lock := { s.lock with touched := s.lock.touched ||| BitVec.ofNat 8 act,
                                          originTent := setOrigin s.lock.originTent act 3 } }
  if kept = 0 then s else s.raise 0x00B bTOP 3 kept

/-- A write reaches the RWS bits of the shadow (R31). -/
def LedSt.shadowWrite (l : LedSt) (a : Nat) (v : Word) (mask : Nat) : LedSt :=
  { l with shadow := l.shadow.setWord a (maskedWord (l.shadow.word a) v (mask &&& rwsMask a)) }

/-- A write of RWS bits reaches the shadow. -/
def State.shadowWrite (s : State) (a : Nat) (v : Word) (mask : Nat) : State :=
  if a = R.TOP_MODE then s.modeWrite v mask else { s with led := s.led.shadowWrite a v mask }

/-- The write-hold queue drains in arrival order, then a waiting DISCARD acts (R34 step 6, R40). -/
def State.drainHold (s : State) : State :=
  let q := s.lock.holdQ
  let d := s.lock.discardReq
  let s := { s with lock := { s.lock with holdQ := [], discardReq := false } }
  let s := s.each q (fun s w => s.shadowWrite w.addr w.value w.mask)
  if d then { s with led := s.led.discard } else s

/-- A write of RWS bits over the ring (R40): to the shadow, or to the hold queue from step 1 to step 6. -/
def State.rwsWrite (s : State) (a : Nat) (v : Word) (mask : Nat) : State :=
  if s.lock.phase = .idle then s.shadowWrite a v mask
  else { s with lock := { s.lock with holdQ := s.lock.holdQ ++ [{ addr := a, value := v, mask := mask }] } }

/-- IMG_UPD_LEN is a length an update may have. -/
def updLenOk (n : Nat) : Bool := decide (n % 16 = 0 ∧ 1024 ≤ n ∧ n ≤ 16777216)

/-- The update stands where command `cmd` of IMG_UPD_CTRL is taken (R104). -/
def State.updTakes (s : State) (cmd : Nat) : Bool :=
  let st := s.rd F.IMG_UPD_STAT_STATE
  if cmd = 1 then (st == 0 || st == 5 || st == 6) && updLenOk (s.rd F.IMG_UPD_LEN_LENGTH)
  else if cmd = 2 then st == 1 && s.rd F.IMG_UPD_OFF_OFF == s.rd F.IMG_UPD_LEN_LENGTH && s.img.updBuf.isEmpty
  else if cmd = 3 then st == 3
  else if cmd = 4 then st == 1 || st == 2 || st == 3
  else true

/-- IMG_UPD_CTRL.CMD START (R104). [DEDUCED: log 48] -/
def State.updStart (s : State) : State :=
  let s := { s with img := { s.img with updBuf := [], updDone := 0, updGen := s.img.updGen + 1 } }
  let s := ((s.wr F.IMG_UPD_OFF_OFF 0).wr F.IMG_UPD_STAT_ERASED 0).wr F.IMG_UPD_STAT_CAUSE 0
  (s.updState 1 0).nvmStart

/-- IMG_UPD_CTRL.CMD VERIFY (R104). -/
def State.updVerify (s : State) : State := s.updState 2 (s.rd F.IMG_UPD_OFF_OFF)

/-- IMG_UPD_CTRL.CMD COMMIT (R104, R106). -/
def State.updCommit (s : State) : State :=
  (s.updState 4 (s.rd F.IMG_UPD_OFF_OFF)).nvmQueue (commitJob s.img.flash s.inactiveBank)

/-- IMG_UPD_CTRL.CMD ABORT (R104). -/
def State.updAbort (s : State) : State := s.updFail 14

/-- A command of IMG_UPD_CTRL (R104); one in another state is refused with event 0x304. -/
def State.updCmd (s : State) (cmd : Nat) : State :=
  if ¬ s.updTakes cmd then s.raise 0x304 bIMG (s.rd F.IMG_UPD_STAT_STATE) 0xFFFFFFFF
  else if cmd = 1 then s.updStart
  else if cmd = 2 then s.updVerify
  else if cmd = 3 then s.updCommit
  else if cmd = 4 then s.updAbort
  else s

/-- A data write is taken (R104): RECEIVING, OFF below LEN, room in the staging buffer of 64 KiB. -/
def State.updDataTakes (s : State) : Bool :=
  s.rd F.IMG_UPD_STAT_STATE == 1 && decide (s.rd F.IMG_UPD_OFF_OFF < s.rd F.IMG_UPD_LEN_LENGTH) && decide (s.img.updBuf.length + 4 ≤ 65536)

/-- A write in the IMG_UPD_DATA window appends four bytes, the least significant first (R104); otherwise it is refused. [DEDUCED: log 48] -/
def State.updData (s : State) (v : Word) : State :=
  if ¬ s.updDataTakes then s
  else
    let s := { s with img := { s.img with updBuf := s.img.updBuf ++ leBytes 4 v.toNat } }
    (s.wr F.IMG_UPD_OFF_OFF (s.rd F.IMG_UPD_OFF_OFF + 4)).nvmStart

/-- A write of IMG_UPD_LEN (R104): ignored outside IDLE, COMMITTED and FAILED. -/
def State.updLen (s : State) (v : Word) (mask : Nat) : State :=
  let st := s.rd F.IMG_UPD_STAT_STATE
  if st = 0 ∨ st = 5 ∨ st = 6 then
    s.wrW R.IMG_UPD_LEN (maskedWord (s.rdW R.IMG_UPD_LEN) v (mask &&& F.IMG_UPD_LEN_LENGTH.mask))
  else s

/-- The LANE_SEED entry of a lane with its live values (R109, spec/16_lanes.md): taps, CTLE, DFE, FOM, flags, 12 receiver taps, four
zero bytes. Panel lanes have no receiver: its taps are zero. [DESIGN CHOICE: log 50] -/
def State.laneSeedEntry (s : State) (n : Nat) : List Byte :=
  leBytes 4 (s.rd (F.LANE_n_TXACT_TAPS n)) ++ leBytes 1 (s.rd (F.LANE_n_STAT_CTLE n)) ++ leBytes 1 (s.rd (F.LANE_n_STAT_DFE n))
    ++ leBytes 1 (s.rd (F.LANE_n_STAT_FOM n)) ++ leBytes 1 (s.cm (F.LANE_n_TXCFG_PRECODE n))
    ++ (List.range 12).map (fun k => if n < 48 then 0#8 else BitVec.ofInt 8 ((s.lanes.lane n).eq.ffe.getD k 0)) ++ List.replicate 4 0#8

/-- The LANE_SEED table of lanes `first` to `first + count - 1`; `sensor` gives the temperature of their die. -/
def State.laneSeeds (s : State) (first count sensor : Nat) : List Byte :=
  leBytes 2 1 ++ leBytes 2 count ++ leBytes 2 (s.rd (F.HK_TEMPn_USED sensor)) ++ leBytes 2 0
    ++ (List.range count).flatMap (fun i => s.laneSeedEntry (first + i))

/-- The tables of a calibration save (R109): training results of the stacks that have trained, lane seeds, thermal model. [DESIGN CHOICE: log 49, 50] -/
def State.calTables (s : State) : List ((Nat × Nat) × List Byte) :=
  ((List.range 4).map (fun k => ((6, k), ((s.basin.stk.getD k StackSt.reset).seed)))).filter (fun t => t.2 ≠ [])
    ++ [((8, 0), s.laneSeeds 0 48 1), ((8, 1), s.laneSeeds 48 8 2), ((8, 2), s.laneSeeds 56 4 2)]
    ++ s.img.tables.filter (fun t => t.1.1 = 7)

/-- IMG_CAL_CTRL.SAVE (R109): the contents are those of now; the copy and its SEQ are taken when the work starts. -/
def State.calSave (s : State) (v : Nat) : State :=
  if ¬ bitAt v 0 then s
  else
    s.nvmQueue { who := .save, ops := [], retry := false, data := calContents s.calTables }

/-- A write of 1s clears the W1C bits (R7, R9). [DESIGN CHOICE: log 127] -/
def State.w1cWrite (s : State) (a : Nat) (v : Word) : State :=
  if R.PWR_DOM_FAIL 0 ≤ a ∧ a ≤ R.PWR_DOM_FAIL 4 then s.domFailClear ((a - R.PWR_DOM_FAIL 0) / 4) v
  else s.wrW a (s.rdW a &&& ~~~v)

/-- A write of RW bits takes effect at once (R7). -/
def State.rwWrite (s : State) (a : Nat) (v : Word) (mask : Nat) : State :=
  if a = R.IMG_UPD_LEN then s.updLen v mask
  else if a = R.LANE_MON_CFG then
    let w := (maskedWord (s.rdW a) v mask).toNat
    let s := s.monCfg w (mask % 256 != 0)
    if bitAt (v.toNat &&& mask) 9 then s.monScan else s
  else s

/-- A write of WO bits takes effect at once (R7). -/
def State.woWrite (s : State) (a : Nat) (v : Word) : State :=
  let n := v.toNat
  if a = R.TOP_SHADOW_CTRL then s.shadowDiscard n
  else if a = R.PWR_RESET then s.resetWarm v
  else if a = R.IMG_UPD_CTRL then s.updCmd (n % 8)
  else if a = R.IMG_CAL_CTRL then s.calSave n
  else if R.IMG_UPD_DATA 0 ≤ a ∧ a ≤ R.IMG_UPD_DATA 1023 then s.updData v
  else if a = R.BASIN_QUAR_CLR then s.quarClear n
  else if R.LANE_n_INJ 0 ≤ a ∧ a ≤ R.LANE_n_INJ 59 then s.inject ((a - R.LANE_n_INJ 0) / 0x20) n
  else if a = R.PNL_CRACK_CLR then s.crackClear n
  else if R.ENC_Sn_CMD 0 ≤ a ∧ a ≤ R.ENC_Sn_CMD 3 then s.encIdr ((a - R.ENC_Sn_CMD 0) / 0x80) n
  else if a = R.TOW_CMD then s.towCmd n
  else s

/-- Why a write would be refused with a busy answer: the code and arguments of its event, code 0 where there is none (R40, R104). [DEDUCED: log 48] -/
def State.writeBusy (s : State) (a : Nat) (v : Word) (mask : Nat) : Option (Nat × Nat × Nat) :=
  if rwsMask a ≠ 0 ∧ s.lock.phase ≠ .idle ∧ 64 ≤ s.lock.holdQ.length then some (0x007, a, s.pound)
  else if a = R.IMG_UPD_CTRL ∧ ¬ s.updTakes ((v.toNat &&& mask) % 8) then some (0x304, s.rd F.IMG_UPD_STAT_STATE, 0xFFFFFFFF)
  else if R.IMG_UPD_DATA 0 ≤ a ∧ a ≤ R.IMG_UPD_DATA 1023 ∧ ¬ s.updDataTakes then some (0, 0, 0)
  else none

/-- The event of a refused write. -/
def State.busyEvent (s : State) (e : Nat × Nat × Nat) : State :=
  if e.1 = 0 then s else s.raise e.1 (if e.1 = 0x304 then bIMG else bTOP) e.2.1 e.2.2

/-- The bits of each access code of the register at `a`: RW, RWS, W1C, WO. -/
def accessMasks (a : Nat) : Nat × Nat × Nat × Nat := match rowOf a with | some r => (r.rw, r.rws, r.w1c, r.wo) | none => (0, 0, 0, 0)

/-- A write over the ring that has passed the manifest, its bits those of `mask` (R7, R11, R40, R98). [DEDUCED: log 14] -/
def State.ledgerWrite (s : State) (a : Nat) (v : Word) (mask : Nat) : State :=
  match s.writeBusy a v mask with
  | some e => s.busyEvent e
  | none =>
    let (rw, rws, w1c, wo) := accessMasks a
    let m := v &&& BitVec.ofNat 32 mask
    let s := if w1c = 0 then s else s.w1cWrite a (m &&& BitVec.ofNat 32 w1c)
    let s := if rw = 0 then s else s.rwWrite a v mask
    let s := if rws = 0 then s else s.rwsWrite a v mask
    if wo = 0 then s else s.woWrite a (m &&& BitVec.ofNat 32 wo)

/-- The manifest's mask for an address (R98). -/
def ImgSt.manifestMask (i : ImgSt) (a : Nat) : Option Nat := (i.manifest.find? (fun e => e.1 == a)).map Prod.snd

/-- A single write over the ring (R7, R11, R13): ignored where there is no register, refused with event 0x022 where the manifest does not
list it. [DEDUCED: log 14] -/
def State.registerWrite (s : State) (sid a : Nat) (v : Word) : State :=
  if ¬ hasReg a then s
  else
    match s.img.manifestMask a with
    | none => s.raise 0x022 bTOP a sid
    | some mask => s.ledgerWrite a v mask

/-- An image record's write (R40, R95): RWS values reach the shadow and the commit store; TOP_MODE gives the committed mode, whose STANDBY
only the device moves in a pair (R57). -/
def State.imageRws (s : State) (a : Nat) (v : Word) : State :=
  let m := if a = R.TOP_MODE ∧ s.paired then clearBit (rwsMask a) 5 else rwsMask a
  let c := s.cset
  let regs := c.regs.setWord a (maskedWord (c.regs.word a) v m)
  let c := { c with regs := regs, mode := BitVec.ofNat 8 (regs.word R.TOP_MODE).toNat }
  let l := { s.led with shadow := s.led.shadow.setWord a (maskedWord (s.led.shadow.word a) v m) }
  { s with led := if s.led.index then { l with bank1 := c } else { l with bank0 := c } }

/-- A write by an image record (R95). -/
def State.imageWrite (s : State) (a : Nat) (v : Word) : State :=
  let (rw, rws, w1c, wo) := accessMasks a
  let s := if w1c = 0 then s else s.w1cWrite a (v &&& BitVec.ofNat 32 w1c)
  let s := if rw = 0 then s else s.rwWrite a v 0xFFFFFFFF
  let s := if rws = 0 then s else s.imageRws a v
  if wo = 0 then s else s.woWrite a (v &&& BitVec.ofNat 32 wo)

end Sys2Proof.Machine
end

