-- ==== Sys2Proof/Machine/Veto.lean ====
section
/-! DEFINITION. The ranges of the RWS fields and the rules that bind them together, which a block's level report vetoes on (R37), by
block. -/

namespace Sys2Proof.Machine

/-- A veto: the block that makes it, whether it is a range of one field, and the fields that take part. -/
structure Viol where
  block : Nat
  range : Bool
  flds  : List Fld
  deriving DecidableEq, Repr

/-- The field lies in `lo … hi`. -/
def CSet.inR (c : CSet) (f : Fld) (lo hi : Nat) : Bool := decide (lo ≤ c.fld f) && decide (c.fld f ≤ hi)

/-- The field read as a signed number. -/
def CSet.sfld (c : CSet) (f : Fld) : Int := signed (f.hi + 1 - f.lo) (c.fld f)

/-- The field, as a signed number, lies in `lo … hi`. -/
def CSet.inS (c : CSet) (f : Fld) (lo hi : Int) : Bool := decide (lo ≤ c.sfld f) && decide (c.sfld f ≤ hi)

/-- One range check of block `b`: the veto where `ok` is false. -/
def rangeV (b : Nat) (f : Fld) (ok : Bool) : List Viol := if ok then [] else [{ block := b, range := true, flds := [f] }]

/-- One rule of block `b` over fields `l`: the veto where `ok` is false. -/
def ruleV (b : Nat) (l : List Fld) (ok : Bool) : List Viol := if ok then [] else [{ block := b, range := false, flds := l }]

/-- Ranges as triples of field, least and greatest value. -/
def CSet.ranges (c : CSet) (b : Nat) (l : List (Fld × Nat × Nat)) : List Viol :=
  l.flatMap (fun e => rangeV b e.1 (c.inR e.1 e.2.1 e.2.2))

/-- The views that a hogel may have in a direction (R25, R203). -/
def viewOk (n : Nat) : Bool := [8, 10, 12, 14, 16].contains n

/-- TOP: ranges. -/
def CSet.topRanges (c : CSet) : List Viol :=
  c.ranges bTOP
    [(F.TOP_LOCK_TIME_WINDOW, 50, 2000), (F.TOP_LOCK_TIME_LEAD, 100, 4000), (F.TOP_MODE_OPT_PAT_SUB, 0, 1),
     (F.TOP_MODE_OPT_HOLDX_WAIT, 1, 63), (F.TOP_PAT_OVL_PATTERN_ID, 0, 6), (F.TOP_MGMT_CFG_IDLE_S, 10, 255),
     (F.TOP_MGMT_CFG_PORT, 1, 65535), (F.TOP_LOG_CFG_FLUSH_S, 1, 255)]

/-- TOP: LEAD is at least WINDOW + 50 (R35). -/
def CSet.topRules (c : CSet) : List Viol :=
  ruleV bTOP [F.TOP_LOCK_TIME_WINDOW, F.TOP_LOCK_TIME_LEAD]
    (decide (c.fld F.TOP_LOCK_TIME_WINDOW + 50 ≤ c.fld F.TOP_LOCK_TIME_LEAD))

/-- PWR (R75: no STAGGER below 20). -/
def CSet.pwrRanges (c : CSet) : List Viol :=
  c.ranges bPWR [(F.PWR_FLIGHT_STAGGER, 20, 255), (F.PWR_MON_THR_RST, 12, 20), (F.PWR_MON_THR_WARN, 4, 12)]

def CSet.pwrRules (c : CSet) : List Viol :=
  ruleV bPWR [F.PWR_MON_THR_WARN, F.PWR_MON_THR_RST] (decide (c.fld F.PWR_MON_THR_WARN + 4 < c.fld F.PWR_MON_THR_RST))

/-- HK. -/
def CSet.hkRanges (c : CSet) : List Viol :=
  c.ranges bHK
    [(F.HK_THR_A_THROT_HYST, 1, 15), (F.HK_THR_A_WARN_HYST, 1, 15), (F.HK_THR_A_WARN, 60, 120), (F.HK_THR_B_SHUT_HYST, 1, 15),
     (F.HK_THR_B_SHUT, 100, 125), (F.HK_SENS_MAX_FAIL, 0, 6), (F.HK_SENS_DEV, 4, 40)]
  ++ rangeV bHK F.HK_CAP_MAX (c.inR F.HK_CAP_MAX 40 120 && c.fld F.HK_CAP_MAX % 8 == 0)

def CSet.hkRules (c : CSet) : List Viol :=
  ruleV bHK [F.HK_THR_A_THROT, F.HK_THR_A_WARN] (decide (c.fld F.HK_THR_A_WARN < c.fld F.HK_THR_A_THROT))
  ++ ruleV bHK [F.HK_THR_B_SHUT, F.HK_THR_A_THROT] (decide (c.fld F.HK_THR_A_THROT < c.fld F.HK_THR_B_SHUT))

/-- RING. -/
def CSet.ringRanges (c : CSet) : List Viol :=
  c.ranges bRING
    [(F.RING_PORT_CFG_W_MEDIA, 0, 2), (F.RING_PORT_CFG_E_MEDIA, 0, 2), (F.RING_TAG_HOP_LIMIT, 2, 63), (F.RING_FAIR_MAX_WAIT, 0, 1000),
     (F.RING_IP_CFG_TTL, 1, 255), (F.RING_PAR_WAIT, 20, 1000), (F.RING_STREAM_CFG_AHEAD, 2, 64)]

/-- TIME. -/
def CSet.timeRanges (c : CSet) : List Viol :=
  c.ranges bTIME
    [(F.TIME_PTP_CFG_ANN_TIMEOUT, 2, 10), (F.TIME_PTP_CFG_TRANSPORT, 0, 2), (F.TIME_PTP_CFG_PROFILE, 0, 1), (F.TIME_PTP_CFG_DOMAIN, 0, 127),
     (F.TIME_SERVO_KI, 1, 65535), (F.TIME_SERVO_KP, 1, 65535), (F.TIME_LOCK_STEP_US, 1, 1000), (F.TIME_LOCK_LOCK_NS, 5, 1000),
     (F.TIME_LAUNCH_ARM_US, 10, 200), (F.TIME_PPS_WIDTH_MS, 1, 200), (F.TIME_EVT0_CFG_MODE, 0, 2), (F.TIME_EVT1_CFG_MODE, 0, 2),
     (F.TIME_EGRESS_MAX_LATE_US, 1, 50000)]
  ++ rangeV bTIME F.TIME_LAUNCH_ADJ (c.inS F.TIME_LAUNCH_ADJ (-1000) 1000)

def CSet.timeRules (c : CSet) : List Viol :=
  ruleV bTIME [F.TIME_PERIOD_NS_NS, F.TIME_PERIOD_FRAC_FRAC]
    (decide (8333333 * 65536 ≤ c.period) && decide (c.period ≤ 41666667 * 65536))
  ++ ruleV bTIME [F.TIME_EVT0_CFG_PERIOD_MS, F.TIME_EVT0_CFG_MODE]
    (c.fld F.TIME_EVT0_CFG_MODE != 2 || (decide (0 < c.fld F.TIME_EVT0_CFG_PERIOD_MS) && 1000 % c.fld F.TIME_EVT0_CFG_PERIOD_MS == 0))
  ++ ruleV bTIME [F.TIME_EVT0_CFG_WIDTH_US, F.TIME_EVT0_CFG_MODE]
    (c.fld F.TIME_EVT0_CFG_MODE != 2 || decide (0 < c.fld F.TIME_EVT0_CFG_WIDTH_US))
  ++ ruleV bTIME [F.TIME_EVT1_CFG_PERIOD_MS, F.TIME_EVT1_CFG_MODE]
    (c.fld F.TIME_EVT1_CFG_MODE != 2 || (decide (0 < c.fld F.TIME_EVT1_CFG_PERIOD_MS) && 1000 % c.fld F.TIME_EVT1_CFG_PERIOD_MS == 0))
  ++ ruleV bTIME [F.TIME_EVT1_CFG_WIDTH_US, F.TIME_EVT1_CFG_MODE]
    (c.fld F.TIME_EVT1_CFG_MODE != 2 || decide (0 < c.fld F.TIME_EVT1_CFG_WIDTH_US))

/-- DEC: ABANDON_US is 0 or 20 to 1,000, and ends before the window does (R190). -/
def CSet.decRanges (c : CSet) : List Viol :=
  rangeV bDEC F.DEC_CTRL_ABANDON_US (c.fld F.DEC_CTRL_ABANDON_US == 0 || c.inR F.DEC_CTRL_ABANDON_US 20 1000)

def CSet.decRules (c : CSet) : List Viol :=
  ruleV bDEC [F.DEC_CTRL_ABANDON_US, F.TOP_LOCK_TIME_WINDOW]
    (c.fld F.DEC_CTRL_ABANDON_US == 0 || decide (c.fld F.DEC_CTRL_ABANDON_US + 20 < c.fld F.TOP_LOCK_TIME_WINDOW))

/-- COMP. -/
def CSet.compRanges (c : CSet) : List Viol :=
  c.ranges bCOMP
    [(F.COMP_PANEL_HOG_ROWS, 1, 65535), (F.COMP_PANEL_HOG_COLS, 1, 65535), (F.COMP_LAYER_CAP_CAP, 1, 64), (F.COMP_LADDER_UP_POUNDS, 1, 255),
     (F.COMP_LADDER_DOWN_POUNDS, 1, 255), (F.COMP_LADDER_HIGH_PCT, 50, 100), (F.COMP_LADDER_LOW_PCT, 10, 255),
     (F.COMP_LADDER_CAP_CAP1, 1, 64), (F.COMP_LADDER_CAP_CAP2, 1, 64), (F.COMP_LADDER_CAP_CAP3, 1, 64), (F.COMP_LADDER_CAP_CAP4, 1, 64),
     (F.COMP_RUN_CTRL_TARGET_PCT, 50, 95), (F.COMP_RUN_CTRL_MIN_CLUSTERS, 1, 32), (F.COMP_RUN_CTRL_MAX_RUNG, 0, 4),
     (F.COMP_POLICY_GUARD_REPEAT, 1, 15), (F.COMP_POLICY_HOLD_LIMIT, 1, 15), (F.COMP_TRACK_VSTEP, 1, 65535), (F.COMP_TRACK_STALE_MS, 10, 255)]
  ++ rangeV bCOMP F.COMP_PANEL_VIEW_VCOLS (viewOk c.geom.vcols) ++ rangeV bCOMP F.COMP_PANEL_VIEW_VROWS (viewOk c.geom.vrows)

/-- The fields of the panel geometry. -/
def geomFlds : List Fld := [F.COMP_PANEL_HOG_COLS, F.COMP_PANEL_HOG_ROWS, F.COMP_PANEL_VIEW_VCOLS, F.COMP_PANEL_VIEW_VROWS]

/-- COMP: the rules of R203, the ladder and the tap. -/
def CSet.compRules (c : CSet) : List Viol :=
  let g := c.geom
  ruleV bCOMP [F.COMP_PANEL_VIEW_VCOLS, F.COMP_PANEL_VIEW_VROWS] (decide (g.vcols * g.vrows ≤ 256))
  ++ ruleV bCOMP [F.COMP_PANEL_HOG_COLS, F.COMP_PANEL_VIEW_VCOLS] (decide (g.cols * g.vcols ≤ 82944))
  ++ ruleV bCOMP geomFlds (decide (g.cols * g.vcols * (g.rows * g.vrows) ≤ 2866544640))
  ++ ruleV bCOMP [F.COMP_LADDER_LOW_PCT, F.COMP_LADDER_HIGH_PCT] (decide (c.fld F.COMP_LADDER_LOW_PCT + 5 ≤ c.fld F.COMP_LADDER_HIGH_PCT))
  ++ ruleV bCOMP [F.COMP_LADDER_CAP_CAP1, F.COMP_LADDER_CAP_CAP2, F.COMP_LADDER_CAP_CAP3, F.COMP_LADDER_CAP_CAP4]
    (decide (c.fld F.COMP_LADDER_CAP_CAP2 ≤ c.fld F.COMP_LADDER_CAP_CAP1) && decide (c.fld F.COMP_LADDER_CAP_CAP3 ≤ c.fld F.COMP_LADDER_CAP_CAP2) &&
     decide (c.fld F.COMP_LADDER_CAP_CAP4 ≤ c.fld F.COMP_LADDER_CAP_CAP3))
  ++ ruleV bCOMP [F.COMP_TAP_VR, F.COMP_PANEL_VIEW_VROWS] (decide (c.fld F.COMP_TAP_VR < g.vrows))
  ++ ruleV bCOMP [F.COMP_TAP_VC, F.COMP_PANEL_VIEW_VCOLS] (decide (c.fld F.COMP_TAP_VC < g.vcols))

/-- TRK. -/
def CSet.trkRanges (c : CSet) : List Viol :=
  c.ranges bTRK [(F.TRK_CTRL_MIN_AREA, 1, 15), (F.TRK_CTRL_THR, 1, 255)]
  ++ (List.range 4).flatMap (fun p =>
    c.ranges bTRK [(F.TRK_PAIRp_CFG_DMAX p, 1, 255), (F.TRK_PAIRp_CFG_OUT_R p, 0, 2), (F.TRK_PAIRp_CFG_OUT_L p, 0, 2)])

/-- Output `o` of sensor `n` suits a stereo pair: a Y8 output of an infrared sensor for the glint locator, unscaled (R372). -/
def State.pairOut (s : State) (c : CSet) (n o : Nat) : Bool :=
  (match s.sensorTab n with | some t => camRole t == 1 | none => false)
  && c.fld (F.CAM_Sn_OUTo_CFG_FMT n o) == 0
  && c.fld (F.CAM_Sn_OUTo_SIZE_OW n o) == c.fld (F.CAM_Sn_OUTo_CROP1_W n o)
  && c.fld (F.CAM_Sn_OUTo_SIZE_OH n o) == c.fld (F.CAM_Sn_OUTo_CROP1_H n o)

def State.trkRules (s : State) (c : CSet) : List Viol :=
  ruleV bTRK [F.TRK_CTRL_MAX_AREA, F.TRK_CTRL_MIN_AREA] (decide (c.fld F.TRK_CTRL_MIN_AREA ≤ c.fld F.TRK_CTRL_MAX_AREA))
  ++ (List.range 4).flatMap (fun p =>
    let l := c.fld (F.TRK_PAIRp_CFG_LEFT p)
    let r := c.fld (F.TRK_PAIRp_CFG_RIGHT p)
    let ol := c.fld (F.TRK_PAIRp_CFG_OUT_L p)
    let or_ := c.fld (F.TRK_PAIRp_CFG_OUT_R p)
    ruleV bTRK
      [F.TRK_PAIRp_CFG_EN p, F.TRK_PAIRp_CFG_LEFT p, F.TRK_PAIRp_CFG_RIGHT p, F.TRK_PAIRp_CFG_OUT_L p, F.TRK_PAIRp_CFG_OUT_R p,
       F.CAM_Sn_OUTo_CFG_FMT l ol, F.CAM_Sn_OUTo_SIZE_OW l ol, F.CAM_Sn_OUTo_SIZE_OH l ol,
       F.CAM_Sn_OUTo_CROP1_W l ol, F.CAM_Sn_OUTo_CROP1_H l ol, F.CAM_Sn_OUTo_CFG_FMT r or_,
       F.CAM_Sn_OUTo_SIZE_OW r or_, F.CAM_Sn_OUTo_SIZE_OH r or_, F.CAM_Sn_OUTo_CROP1_W r or_, F.CAM_Sn_OUTo_CROP1_H r or_]
      (c.fld (F.TRK_PAIRp_CFG_EN p) == 0 || (l != r && s.pairOut c l ol && s.pairOut c r or_)))

/-- BASIN. -/
def CSet.basinRanges (c : CSet) : List Viol :=
  c.ranges bBASIN [(F.BASIN_RSV_PKT, 64, 4096), (F.BASIN_SCRUB_PERIOD_H, 1, 168)]

/-- The fields of the traffic weights (R282). -/
def shareFlds : List Fld :=
  [F.BASIN_SHARE0_SCAN, F.BASIN_SHARE0_COMPW, F.BASIN_SHARE0_TEXEL, F.BASIN_SHARE0_DEC, F.BASIN_SHARE1_RING, F.BASIN_SHARE1_OTHER,
   F.BASIN_SHARE1_SCRUB]

/-- BASIN: the weights sum to at most 256 (R282), and a changed reservation fits the moorings free at the close (R274). -/
def State.basinRules (s : State) (c : CSet) : List Viol :=
  let g := c.geom
  let old := s.cset
  let moved := g != old.geom
  let taps := moved || c.fld F.COMP_TAP_EN != old.fld F.COMP_TAP_EN
  let need := (if moved then 3 * frameMoors g.rays else 0) + (if taps ∧ c.fld F.COMP_TAP_EN = 1 then 2 * frameMoors (g.cols * g.rows) else 0)
  ruleV bBASIN shareFlds (decide ((shareFlds.map c.fld).sum ≤ 256))
  ++ ruleV bBASIN (geomFlds ++ [F.COMP_TAP_EN]) (!s.lock.running || decide (need ≤ s.basin.closeFree))

/-- TUG: clip rectangles (R288). -/
def CSet.tugRules (c : CSet) : List Viol :=
  (List.range 16).flatMap (fun n =>
    ruleV bTUG [F.TUG_CLIPn_A_X0 n, F.TUG_CLIPn_B_X1 n] (decide (c.fld (F.TUG_CLIPn_A_X0 n) ≤ c.fld (F.TUG_CLIPn_B_X1 n)))
    ++ ruleV bTUG [F.TUG_CLIPn_A_Y0 n, F.TUG_CLIPn_B_Y1 n] (decide (c.fld (F.TUG_CLIPn_A_Y0 n) ≤ c.fld (F.TUG_CLIPn_B_Y1 n))))

/-- SCAN. -/
def CSet.scanRanges (c : CSet) : List Viol :=
  c.ranges bSCAN ([(F.SCAN_STRIP_LANES, 1, 48), (F.SCAN_VPORCH_VSYNC, 1, 255), (F.SCAN_VPORCH_VFP, 1, 255)]
    ++ (List.range 8).map (fun n => (F.SCAN_CHKn_CFG_MODE n, 0, 4)))

/-- The total rows exceed max_rows (R27, R300). -/
def CSet.rowsOver (c : CSet) : Bool := decide (c.maxRows < c.totalRows)

/-- SCAN: strips (R296), rows (R300), check rectangles (R307). -/
def CSet.scanRules (c : CSet) : List Viol :=
  let g := c.geom
  ruleV bSCAN [F.SCAN_HPORCH_HBP, F.SCAN_STRIP_STRIP_ACT, F.SCAN_HPORCH_HFP] (decide (c.stripPx ≤ 4096))
  ++ ruleV bSCAN [F.SCAN_STRIP_LANES, F.SCAN_STRIP_STRIP_ACT, F.COMP_PANEL_HOG_COLS, F.COMP_PANEL_VIEW_VCOLS]
    (c.fld F.SCAN_STRIP_LANES * c.fld F.SCAN_STRIP_STRIP_ACT == g.cols * g.vcols)
  ++ ruleV bSCAN
    [F.COMP_PANEL_HOG_ROWS, F.COMP_PANEL_VIEW_VROWS, F.SCAN_VPORCH_VFP, F.SCAN_VPORCH_VSYNC, F.SCAN_VPORCH_VBP, F.TIME_PERIOD_NS_NS,
     F.TIME_PERIOD_FRAC_FRAC, F.SCAN_STRIP_LANES, F.SCAN_STRIP_STRIP_ACT, F.SCAN_HPORCH_HBP, F.SCAN_HPORCH_HFP, F.SCAN_FMT_BPP24]
    (!c.rowsOver)
  ++ (List.range 8).flatMap (fun n =>
    ruleV bSCAN [F.SCAN_CHKn_X0_X n, F.SCAN_CHKn_X1_X n] (decide (c.fld (F.SCAN_CHKn_X0_X n) ≤ c.fld (F.SCAN_CHKn_X1_X n)))
    ++ ruleV bSCAN [F.SCAN_CHKn_Y_Y0 n, F.SCAN_CHKn_Y_Y1 n] (decide (c.fld (F.SCAN_CHKn_Y_Y0 n) ≤ c.fld (F.SCAN_CHKn_Y_Y1 n)))
    ++ ruleV bSCAN [F.SCAN_CHKn_X1_X n, F.COMP_PANEL_HOG_COLS, F.COMP_PANEL_VIEW_VCOLS] (decide (c.fld (F.SCAN_CHKn_X1_X n) < g.cols * g.vcols))
    ++ ruleV bSCAN [F.SCAN_CHKn_Y_Y1 n, F.COMP_PANEL_HOG_ROWS, F.COMP_PANEL_VIEW_VROWS] (decide (c.fld (F.SCAN_CHKn_Y_Y1 n) < g.rows * g.vrows)))

/-- LANE: ranges; continuous injection is none or one error per 2^8 to 2^40 bits (R335). -/
def CSet.laneRanges (c : CSet) : List Viol :=
  c.ranges bLANE [(F.LANE_ADAPT_FOM_MIN, 1, 84), (F.LANE_BC_POLL_MS, 1, 255), (F.LANE_BC_TIMEOUT_MS, 10, 5000)]
  ++ (List.range 60).flatMap (fun n =>
    rangeV bLANE (F.LANE_n_TXFFE_CM3 n) (c.inS (F.LANE_n_TXFFE_CM3 n) (-6) 6) ++ rangeV bLANE (F.LANE_n_TXFFE_CM2 n) (c.inS (F.LANE_n_TXFFE_CM2 n) (-12) 12)
    ++ rangeV bLANE (F.LANE_n_TXFFE_CM1 n) (c.inS (F.LANE_n_TXFFE_CM1 n) (-24) 0) ++ rangeV bLANE (F.LANE_n_TXFFE_CP1 n) (c.inS (F.LANE_n_TXFFE_CP1 n) (-16) 0)
    ++ c.ranges bLANE [(F.LANE_n_TEST_INJ_KIND n, 0, 2), (F.LANE_n_TEST_CHK_PAT n, 0, 7), (F.LANE_n_TEST_GEN_PAT n, 0, 7)]
    ++ rangeV bLANE (F.LANE_n_TEST_RATE n) (c.fld (F.LANE_n_TEST_RATE n) == 0 || c.inR (F.LANE_n_TEST_RATE n) 8 40))

/-- LANE: FOM limits, main tap (R324), test settings (R332). -/
def CSet.laneRules (c : CSet) : List Viol :=
  ruleV bLANE [F.LANE_ADAPT_FOM_WARN, F.LANE_ADAPT_FOM_MIN] (decide (c.fld F.LANE_ADAPT_FOM_MIN ≤ c.fld F.LANE_ADAPT_FOM_WARN))
  ++ (List.range 60).flatMap (fun n =>
    let ts := [F.LANE_n_TXFFE_CM3 n, F.LANE_n_TXFFE_CM2 n, F.LANE_n_TXFFE_CM1 n, F.LANE_n_TXFFE_CP1 n]
    ruleV bLANE ts (decide ((ts.map (fun f => (c.sfld f).natAbs)).sum ≤ 32))
    ++ ruleV bLANE [F.LANE_n_TEST_GEN_PAT n, F.LANE_n_TEST_GEN_FRAMED n] (!(c.fld (F.LANE_n_TEST_GEN_PAT n) == 7 && c.fld (F.LANE_n_TEST_GEN_FRAMED n) == 1))
    ++ ruleV bLANE [F.LANE_n_TEST_CHK_PAT n, F.LANE_n_TEST_CHK_FRAMED n] (!(c.fld (F.LANE_n_TEST_CHK_PAT n) == 7 && c.fld (F.LANE_n_TEST_CHK_FRAMED n) == 1))
    ++ ruleV bLANE [F.LANE_n_TEST_GEN_PAT n, F.LANE_n_TEST_GEN_FRAMED n, F.LANE_n_TEST_RATE n, F.LANE_n_TEST_INJ_KIND n]
      (!(c.fld (F.LANE_n_TEST_GEN_PAT n) != 0 && c.fld (F.LANE_n_TEST_GEN_FRAMED n) == 0 && c.fld (F.LANE_n_TEST_RATE n) != 0 &&
         c.fld (F.LANE_n_TEST_INJ_KIND n) == 1)))

/-- PNL. -/
def CSet.pnlRanges (c : CSet) : List Viol :=
  c.ranges bPNL
    [(F.PNL_SEQ_TIMEOUT_MS, 10, 5000), (F.PNL_SEQ_T_DN, 1, 255), (F.PNL_SEQ_T_UP, 1, 255), (F.PNL_VREF_CFG_TOL, 4, 255),
     (F.PNL_VIN_HYST_MV, 10, 500), (F.PNL_VIN_THR_MV, 100, 1500), (F.PNL_DIS_HOLD_MS, 1, 255), (F.PNL_CRACK_COUNT, 1, 15),
     (F.PNL_HOLD_BLINK_ON, 1, 255)]

/-- CAM. -/
def CSet.camRanges (c : CSet) : List Viol :=
  rangeV bCAM F.CAM_FSYNC0_CFG_OFFSET_US (c.inS F.CAM_FSYNC0_CFG_OFFSET_US (-8000) 8000)
  ++ rangeV bCAM F.CAM_FSYNC1_CFG_OFFSET_US (c.inS F.CAM_FSYNC1_CFG_OFFSET_US (-8000) 8000)
  ++ c.ranges bCAM
    [(F.CAM_FSYNC0_CFG_MODE, 0, 2), (F.CAM_FSYNC1_CFG_MODE, 0, 2), (F.CAM_STROBE_DIV, 1, 2), (F.CAM_PORT_LANES1, 0, 2), (F.CAM_PORT_LANES0, 0, 2)]
  ++ (List.range 8).flatMap (fun n => (List.range 3).flatMap (fun o =>
    c.ranges bCAM [(F.CAM_Sn_OUTo_CFG_USE n o, 0, 1), (F.CAM_Sn_OUTo_CFG_BUFS n o, 2, 3), (F.CAM_Sn_OUTo_CFG_FMT n o, 0, 1)]))

/-- The rules of one frame sync output (R370). -/
def CSet.fsyncRules (c : CSet) (mode width div per : Fld) : List Viol :=
  ruleV bCAM [width, mode] (c.fld mode == 0 || decide (0 < c.fld width))
  ++ ruleV bCAM [div, mode] (c.fld mode != 1 || decide (0 < c.fld div))
  ++ ruleV bCAM [per, mode] (c.fld mode != 2 || (c.inR per 1000 1000000 && 1000000 % c.fld per == 0))

/-- CAM: an enabled sensor has a table (R360); an output keeps to R367. -/
def State.camRules (s : State) (c : CSet) : List Viol :=
  c.fsyncRules F.CAM_FSYNC0_CFG_MODE F.CAM_FSYNC0_CFG_WIDTH_US F.CAM_FSYNC0_CFG_DIV F.CAM_FSYNC0_PER_PERIOD_US
  ++ c.fsyncRules F.CAM_FSYNC1_CFG_MODE F.CAM_FSYNC1_CFG_WIDTH_US F.CAM_FSYNC1_CFG_DIV F.CAM_FSYNC1_PER_PERIOD_US
  ++ (List.range 8).flatMap (fun n =>
    ruleV bCAM [F.CAM_Sn_CTRL_EN n] (c.fld (F.CAM_Sn_CTRL_EN n) == 0 || (s.sensorTab n).isSome)
    ++ (List.range 3).flatMap (fun o =>
        let w := c.fld (F.CAM_Sn_OUTo_CROP1_W n o)
        let h := c.fld (F.CAM_Sn_OUTo_CROP1_H n o)
        let ow := c.fld (F.CAM_Sn_OUTo_SIZE_OW n o)
        let oh := c.fld (F.CAM_Sn_OUTo_SIZE_OH n o)
        ruleV bCAM [F.CAM_Sn_OUTo_CROP0_X0 n o, F.CAM_Sn_OUTo_CROP0_Y0 n o, F.CAM_Sn_OUTo_CROP1_W n o, F.CAM_Sn_OUTo_CROP1_H n o]
          (match s.sensorTab n with
           | some t => decide (c.fld (F.CAM_Sn_OUTo_CROP0_X0 n o) + w ≤ camWidth t) && decide (c.fld (F.CAM_Sn_OUTo_CROP0_Y0 n o) + h ≤ camHeight t)
           | none => true)
        ++ ruleV bCAM [F.CAM_Sn_OUTo_CROP1_W n o, F.CAM_Sn_OUTo_CROP1_H n o, F.CAM_Sn_OUTo_SIZE_OW n o, F.CAM_Sn_OUTo_SIZE_OH n o]
          (decide (ow ≤ w) && decide (oh ≤ h) && decide (w ≤ 16 * ow) && decide (h ≤ 16 * oh))
        ++ ruleV bCAM [F.CAM_Sn_OUTo_CFG_FMT n o, F.CAM_Sn_OUTo_SIZE_OW n o, F.CAM_Sn_OUTo_SIZE_OH n o]
          (c.fld (F.CAM_Sn_OUTo_CFG_FMT n o) == 0 || (ow % 2 == 0 && oh % 2 == 0))))

/-- ENC. -/
def CSet.encRanges (c : CSet) : List Viol :=
  (List.range 4).flatMap (fun n =>
    c.ranges bENC
      [(F.ENC_Sn_CTRL_DIV n, 1, 15), (F.ENC_Sn_CTRL_OUT n, 0, 2), (F.ENC_Sn_RC_MODE n, 0, 2), (F.ENC_Sn_RC_QP_MAX n, 0, 51),
       (F.ENC_Sn_RATE_BITRATE_KBPS n, 100, 400000), (F.ENC_Sn_RATE2_IFAC n, 4, 32), (F.ENC_Sn_RATE2_RATE_MHZ n, 1000, 120000),
       (F.ENC_Sn_GOP_SLICE_ROWS n, 1, 15), (F.ENC_Sn_PKT_PAR_N n, 0, 8), (F.ENC_Sn_PKT_MAX_LEN n, 256, 8960)]
    ++ rangeV bENC (F.ENC_Sn_TIME_DELAY_US n) (c.fld (F.ENC_Sn_TIME_DELAY_US n) == 0 || c.inR (F.ENC_Sn_TIME_DELAY_US n) 100 50000))

/-- The fields of ENC_Sn_CTRL that name a source, and the size of the source picture (R379). -/
def CSet.encSource (c : CSet) (n : Nat) : Nat × Nat :=
  if c.fld (F.ENC_Sn_CTRL_SRC n) = 1 then (c.geom.cols, c.geom.rows)
  else
    let k := c.fld (F.ENC_Sn_CTRL_SENSOR n)
    let o := c.fld (F.ENC_Sn_CTRL_OUT n)
    (c.fld (F.CAM_Sn_OUTo_SIZE_OW k o), c.fld (F.CAM_Sn_OUTo_SIZE_OH k o))

/-- ENC: QP limits; and of an enabled stream its source (R379), geometry (R382), group and channel (R386). [DEDUCED: log 17] -/
def CSet.encRules (c : CSet) : List Viol :=
  (List.range 4).flatMap (fun n =>
    let en := F.ENC_Sn_CTRL_EN n
    let lo := c.fld (F.ENC_Sn_RC_QP_MIN n)
    let hi := c.fld (F.ENC_Sn_RC_QP_MAX n)
    let qp (f : Fld) : Bool := decide (lo ≤ c.fld f) && decide (c.fld f ≤ hi)
    ruleV bENC [F.ENC_Sn_RC_QP_MIN n, F.ENC_Sn_RC_QP_MAX n] (decide (lo ≤ hi))
    ++ ruleV bENC [F.ENC_Sn_RC_QP_P n, F.ENC_Sn_RC_QP_MIN n, F.ENC_Sn_RC_QP_MAX n] (qp (F.ENC_Sn_RC_QP_P n))
    ++ ruleV bENC [F.ENC_Sn_RC_QP_I n, F.ENC_Sn_RC_QP_MIN n, F.ENC_Sn_RC_QP_MAX n] (qp (F.ENC_Sn_RC_QP_I n))
    ++ (if c.fld en = 0 then []
        else
          let k := c.fld (F.ENC_Sn_CTRL_SENSOR n)
          let o := c.fld (F.ENC_Sn_CTRL_OUT n)
          let tap := c.fld (F.ENC_Sn_CTRL_SRC n) == 1
          let (sw, sh) := c.encSource n
          let w := c.fld (F.ENC_Sn_CROP1_W n)
          let h := c.fld (F.ENC_Sn_CROP1_H n)
          let ow := c.fld (F.ENC_Sn_SIZE_OW n)
          let oh := c.fld (F.ENC_Sn_SIZE_OH n)
          let turned := c.fld (F.ENC_Sn_CTRL_ROT n) % 2 == 1
          let rw := if turned then h else w
          let rh := if turned then w else h
          ruleV bENC
            [en, F.ENC_Sn_CTRL_SRC n, F.ENC_Sn_CTRL_SENSOR n, F.ENC_Sn_CTRL_OUT n, F.CAM_Sn_OUTo_CFG_EN k o, F.CAM_Sn_OUTo_CFG_FMT k o,
             F.CAM_Sn_OUTo_CFG_USE k o, F.COMP_TAP_EN]
            (if tap then c.fld F.COMP_TAP_EN == 1
             else c.fld (F.CAM_Sn_OUTo_CFG_EN k o) == 1 && c.fld (F.CAM_Sn_OUTo_CFG_FMT k o) == 1 && c.fld (F.CAM_Sn_OUTo_CFG_USE k o) == 0)
          ++ ruleV bENC ((List.range 4).flatMap (fun m => [F.ENC_Sn_CTRL_EN m, F.ENC_Sn_CTRL_SRC m]))
            (!tap || !((List.range 4).any (fun m => m != n && c.fld (F.ENC_Sn_CTRL_EN m) == 1 && c.fld (F.ENC_Sn_CTRL_SRC m) == 1)))
          ++ ruleV bENC [en, F.ENC_Sn_CROP0_X0 n, F.ENC_Sn_CROP0_Y0 n, F.ENC_Sn_CROP1_W n, F.ENC_Sn_CROP1_H n]
            (decide (c.fld (F.ENC_Sn_CROP0_X0 n) + w ≤ sw) && decide (c.fld (F.ENC_Sn_CROP0_Y0 n) + h ≤ sh))
          ++ ruleV bENC [en, F.ENC_Sn_SIZE_OW n, F.ENC_Sn_SIZE_OH n]
            (ow % 8 == 0 && oh % 8 == 0 && decide (64 ≤ ow) && decide (64 ≤ oh) && decide (ow ≤ 8192) && decide (oh ≤ 8192) && decide (ow * oh ≤ 35651584))
          ++ ruleV bENC [en, F.ENC_Sn_CTRL_ROT n, F.ENC_Sn_SIZE_OW n, F.ENC_Sn_SIZE_OH n, F.ENC_Sn_CROP1_W n, F.ENC_Sn_CROP1_H n]
            (decide (ow ≤ rw) && decide (oh ≤ rh) && decide (rw ≤ 16 * ow) && decide (rh ≤ 16 * oh))
          ++ ruleV bENC [en, F.ENC_Sn_TX_CHAN n] (c.fld (F.ENC_Sn_TX_CHAN n) != 0)
          ++ ruleV bENC [en, F.ENC_Sn_TX_GRP n, F.RING_GRPn_CTL_TX (c.fld (F.ENC_Sn_TX_GRP n))] (c.fld (F.RING_GRPn_CTL_TX (c.fld (F.ENC_Sn_TX_GRP n))) == 1)))

/-- TOW. -/
def CSet.towRanges (c : CSet) : List Viol :=
  c.ranges bTOW
    [(F.TOW_CFG_MIN_LANES, 1, 4), (F.TOW_SEAL_POLICY, 0, 2), (F.TOW_SEAL_MATCH_RUN, 1, 255), (F.TOW_SEAL_MISMATCHES, 1, 255),
     (F.TOW_REPAIR_WAIT_US, 20, 1000)]

/-- The mode masks of the GPIO inputs (R56). -/
def gpioMaskFlds : List Fld :=
  [F.TOP_MODE_GPIO0_FIELD, F.TOP_MODE_GPIO0_DIRECT, F.TOP_MODE_GPIO1_FLAT, F.TOP_MODE_GPIO1_TRACK, F.TOP_MODE_GPIO2_TALK,
   F.TOP_MODE_GPIO3_PATTERN, F.TOP_MODE_GPIO3_HOLD]

/-- TOW: the FAULT input is in no mode mask (R391), in a paired device (R392). -/
def State.towRules (s : State) (c : CSet) : List Viol :=
  ruleV bTOW (F.TOW_CFG_FAULT_GPIO :: gpioMaskFlds)
    (!s.paired || !(gpioMaskFlds.any (fun f => bitAt (c.fld f) (c.fld F.TOW_CFG_FAULT_GPIO))))

/-- LZ. -/
def CSet.lzRanges (c : CSet) : List Viol := c.ranges bLZ [(F.LZ_CTRL_LOG_KIB, 1, 64)]

/-- The ranges of block `b`. -/
def CSet.rangeViols (c : CSet) (b : Nat) : List Viol :=
  if b = bTOP then c.topRanges
  else if b = bPWR then c.pwrRanges
  else if b = bHK then c.hkRanges
  else if b = bRING then c.ringRanges
  else if b = bTIME then c.timeRanges
  else if b = bDEC then c.decRanges
  else if b = bCOMP then c.compRanges
  else if b = bTRK then c.trkRanges
  else if b = bBASIN then c.basinRanges
  else if b = bSCAN then c.scanRanges
  else if b = bLANE then c.laneRanges
  else if b = bPNL then c.pnlRanges
  else if b = bCAM then c.camRanges
  else if b = bENC then c.encRanges
  else if b = bTOW then c.towRanges
  else if b = bLZ then c.lzRanges
  else []

/-- The rules of block `b` that bind fields together. [DEDUCED: log 16] -/
def State.ruleViols (s : State) (c : CSet) (b : Nat) : List Viol :=
  if b = bTOP then c.topRules
  else if b = bPWR then c.pwrRules
  else if b = bHK then c.hkRules
  else if b = bTIME then c.timeRules
  else if b = bDEC then c.decRules
  else if b = bCOMP then c.compRules
  else if b = bTRK then s.trkRules c
  else if b = bBASIN then s.basinRules c
  else if b = bTUG then c.tugRules
  else if b = bSCAN then c.scanRules
  else if b = bLANE then c.laneRules
  else if b = bCAM then s.camRules c
  else if b = bENC then c.encRules
  else if b = bTOW then s.towRules c
  else []

/-- Everything block `b` vetoes in a candidate set; only its ranges where it is powered down (R37). [DEDUCED: log 16] -/
def State.viols (s : State) (c : CSet) (b : Nat) (full : Bool) : List Viol :=
  c.rangeViols b ++ (if full then s.ruleViols c b else [])

/-- The addresses of the vetoed fields (R37): the field out of range; of a rule the fields that differ from the committed set. -/
def Viol.addrs (v : Viol) (old c : CSet) : List Nat :=
  if v.range then v.flds.map Fld.addr
  else
    let d := v.flds.filter (fun f => c.fld f ≠ old.fld f)
    (if d.isEmpty then v.flds else d).map Fld.addr

/-- The ledger address of the first vetoed field (R37). -/
def firstVetoed (old c : CSet) (l : List Viol) : Nat := (minOf (l.flatMap (fun v => v.addrs old c))).getD 0

end Sys2Proof.Machine
end

