-- ==== Sys2Proof/Machine/Image.lean ====
section
/-! DEFINITION. The loader: choice of bank, header, records, tables, manifest, the boot timeline, and the read-back of an update (R87, R90
to R104). -/

namespace Sys2Proof.Machine

/-- Whole milliseconds from reset exit. -/
def State.bootMs (s : State) : Nat := (s.clk.now - s.clk.exitAt) / 1000000

/-- A step of the boot timeline is reached (R102): event 0x303. -/
def State.bootStep (s : State) (k : Nat) : State := (s.wr F.IMG_STATUS_STAGE k).raise 0x303 bIMG k s.bootMs

/-- The last step of the boot timeline reached. -/
def State.stage (s : State) : Nat := s.rd F.IMG_STATUS_STAGE

/-- The fields of an image header (R93). -/
def parseHeader (b : List Byte) : ImgHeader :=
  { keySlot := leAt b 0x0B 1, length := leAt b 0x0C 4, version := leAt b 0x10 4, epoch := leAt b 0x14 2,
    raise := bitAt (leAt b 0x16 2) 0, revoke := bitAt (leAt b 0x16 2) 1, calUse := bitAt (leAt b 0x16 2) 2,
    recOff := leAt b 0x18 4, recLen := leAt b 0x1C 4, tblOff := leAt b 0x20 4, tblCnt := leAt b 0x24 4,
    manOff := leAt b 0x28 4, manCnt := leAt b 0x2C 4, sigOff := leAt b 0x30 4, mhz := leAt b 0x34 2, dummy := leAt b 0x36 1,
    tppUs := leAt b 0x38 2, tseMs := leAt b 0x3A 2, tbeMs := leAt b 0x3C 2, tsusUs := leAt b 0x3E 2 }

/-- Bytes are all zero. -/
def allZero (b : List Byte) : Bool := b.all (fun x => x == 0#8)

/-- Two areas of an image share a byte. -/
def areasMeet (a b : Nat × Nat) : Bool := decide (0 < a.2) && decide (0 < b.2) && decide (a.1 < b.1 + b.2) && decide (b.1 < a.1 + a.2)

/-- No two areas of a list meet. -/
def areasApart : List (Nat × Nat) → Bool
  | [] => true
  | a :: r => !(r.any (areasMeet a)) && areasApart r

/-- Areas lie within 256 to SIG_OFF − 1 at multiples of 16 without overlapping (R94). -/
def areasOk (l : List (Nat × Nat)) (sigOff : Nat) : Bool :=
  l.all (fun a => a.1 % 16 == 0 && (a.2 == 0 || (decide (256 ≤ a.1) && decide (a.1 + a.2 ≤ sigOff)))) && areasApart l

/-- The areas that the header alone fixes: records, table directory, manifest. -/
def ImgHeader.areas (h : ImgHeader) : List (Nat × Nat) := [(h.recOff, h.recLen), (h.tblOff, 16 * h.tblCnt), (h.manOff, 8 * h.manCnt)]

/-- The layout that the header alone fixes (R94). -/
def ImgHeader.laid (h : ImgHeader) : Bool :=
  updLenOk h.length && h.sigOff == h.length - 192 && decide (h.tblCnt ≤ 64) && decide (h.manCnt ≤ 4096)
    && h.recLen != 0 && h.recLen % 16 == 0 && areasOk h.areas h.sigOff

/-- The other header fields hold values of their rows (R93, R94). -/
def headerFields (b : List Byte) : Bool :=
  let h := parseHeader b
  let within (x lo hi : Nat) : Bool := decide (lo ≤ x) && decide (x ≤ hi)
  decide (h.keySlot ≤ 3) && decide (h.epoch ≤ 64) && decide (leAt b 0x16 2 ≤ 7) && within h.mhz 50 200 && within h.dummy 4 30
    && within h.tppUs 1 5000 && within h.tseMs 1 2000 && within h.tbeMs 1 4000 && within h.tsusUs 1 500
    && allZero (slice b 0x37 1) && allZero (slice b 0x40 32) && allZero (slice b 0x80 124)

/-- The first of the causes 1 to 4 that a header fails with (R101); 0: none. -/
def headerCause (b : List Byte) : Nat :=
  if (crc32c (b.take 0xFC)).toNat ≠ leAt b 0xFC 4 then 1
  else if leAt b 0 4 ≠ 0x494D4C52 ∨ leAt b 4 2 ≠ 1 ∨ leAt b 6 2 ≠ 256 ∨ leAt b 8 2 ≠ 0x9600 ∨ 0xB0 < leAt b 0x0A 1 then 2
  else if ¬ (parseHeader b).laid then 3
  else if ¬ headerFields b then 4
  else 0

/-- The first of the causes 5 to 7 that a bank fails with (R99, R100); 0: none. -/
def ImgSt.signatureCause (i : ImgSt) (bank : Nat) (h : ImgHeader) : Nat :=
  let base := bankBase bank
  let sig := flashBytes i.flash (base + h.sigOff) 192
  let slot := i.otp.slots.getD h.keySlot []
  if slot = [] ∨ bitAt i.otp.revoked h.keySlot ∨ sha384 (0x04#8 :: sig.take 96) ≠ slot then 5
  else if ¬ ecdsaOk (sig.take 96) (flashBytes i.flash base h.sigOff) (sig.drop 96) then 6
  else if h.epoch < i.otp.epoch then 7
  else 0

/-- The table directory (R97): type, instance, offset, length, CRC. -/
def tableDir (b : List Byte) (n : Nat) : List (Nat × Nat × Nat × Nat × Nat) :=
  (List.range n).map (fun k => (leAt b (16 * k) 2, leAt b (16 * k + 2) 2, leAt b (16 * k + 4) 4, leAt b (16 * k + 8) 4, leAt b (16 * k + 12) 4))

/-- Numbers strictly rising. -/
def rising : List Int → Bool
  | a :: b :: r => decide (a < b) && rising (b :: r)
  | _ => true

/-- A HOLD_CARD table keeps R353. -/
def holdCardOk (d : List Byte) : Bool :=
  decide (1040 ≤ d.length) && decide (d.length ≤ 8388608) && leAt d 0 2 == 1 && decide (1 ≤ leAt d 2 1) && decide (leAt d 2 1 ≤ 16)
    && allZero (slice d 3 1) && allZero (slice d 12 4) && d.length == 1040 + leAt d 4 2 * leAt d 6 2
    && (List.range 256).all (fun k => decide (leAt d (16 + 4 * k) 4 < 2 ^ 30))

/-- Bytes of a line of a sensor on its port (R359). -/
def camLineBytes (t : List Byte) : Nat :=
  if camDt t = 0x2C then ceilDiv (3 * camWidth t) 2 else if camDt t = 0x2B then ceilDiv (5 * camWidth t) 4 else camWidth t

/-- A CAM_SENSOR table keeps R359. -/
def camTableOk (d : List Byte) : Bool :=
  let within (x lo hi : Nat) : Bool := decide (lo ≤ x) && decide (x ≤ hi)
  decide (256 ≤ d.length) && decide (d.length ≤ 512) && d.length == 256 + 4 * (camStartCnt d + camStopCnt d)
    && leAt d 0 2 == 1 && decide (camPort d ≤ 1) && decide (camVc d ≤ 15) && within (camDt d) 0x2A 0x2C && decide (camCfa d ≤ 4)
    && within (camWeight d) 1 15 && decide (camPrio d ≤ 7) && within (camWidth d) 16 8192 && within (camHeight d) 16 8192
    && decide (camRole d ≤ 1) && decide (camK d ≤ 7) && decide (leAt d 0x0E 1 ≤ 127) && decide (leAt d 0x0F 1 ≤ 3)
    && within (leAt d 0x12 1) 1 4 && within (leAt d 0x13 1) 1 2 && allZero (slice d 0x1A 2) && allZero (slice d 0x2E 2)
    && (List.range 65).all (fun k => decide (leAt d (0x30 + 2 * k) 2 ≤ 4095)) && allZero (slice d 0xB2 2) && allZero (slice d 0xDE 2)
    && allZero (slice d 0xEC 4) && allZero (slice d 0xF4 12) && decide (camLineBytes d ≤ 65536)

/-- A THERM_MODEL table keeps R433. -/
def thermOk (d : List Byte) : Bool :=
  d.length == 148 && leAt d 0 2 == 1 && leAt d 2 2 == 7
    && (List.range 7).all (fun i => leAt d (0x0C + 20 * i + 2 * i) 2 == 0 && leAt d (0x1A + 20 * i) 2 == 0)

/-- A table fits its layout (R97 and the owning chapters). [DEDUCED: log 46] -/
def tableOk (ty inst : Nat) (d : List Byte) : Bool :=
  if ty = 1 then d.length % 8 == 0 && decide (d.length ≤ 8192)
  else if ty = 2 then
    d.length % 8 == 0 && decide (16 ≤ d.length) && decide (d.length ≤ 512)
      && rising ((List.range (d.length / 8)).map (fun k => signed 16 (leAt d (8 * k) 2)))
  else if ty = 3 then
    d.length == 1040 && rising ((List.range 8).map (fun k => signed 16 (leAt d (2 * k) 2)))
      && (List.range 512).all (fun k => decide (leAt d (16 + 2 * k) 2 ≤ 4095))
  else if ty = 4 then holdCardOk d
  else if ty = 5 then decide (inst ≤ 7) && camTableOk d
  else if ty = 6 then decide (inst ≤ 3) && d.length == 1288
  else if ty = 7 then thermOk d
  else if ty = 8 then decide (inst ≤ 2) && d.length == 8 + 24 * ([48, 8, 4].getD inst 0)
  else false

/-- The tables of a directory, in its order; none where one breaks R97. `read` gives bytes by offset and length. -/
def loadTables (read : Nat → Nat → List Byte) : List (Nat × Nat × Nat × Nat × Nat) → Option (List ((Nat × Nat) × List Byte))
  | [] => some []
  | (ty, inst, off, len, crc) :: r =>
    match loadTables read r with
    | none => none
    | some l =>
      let d := read off len
      if l.any (fun t => t.1 == (ty, inst)) ∨ (crc32c d).toNat ≠ crc ∨ ¬ tableOk ty inst d then none else some (((ty, inst), d) :: l)

/-- The tables of a bank (R94, R97); none is cause 8. -/
def ImgSt.bankTables (i : ImgSt) (bank : Nat) (h : ImgHeader) : Option (List ((Nat × Nat) × List Byte)) :=
  let dir := tableDir (flashBytes i.flash (bankBase bank + h.tblOff) (16 * h.tblCnt)) h.tblCnt
  if areasOk (h.areas ++ dir.map (fun e => (e.2.2.1, e.2.2.2.1))) h.sigOff then
    loadTables (fun off len => flashBytes i.flash (bankBase bank + off) len) dir
  else none

/-- Two enabled sensors share a PORT and a VC (R359). -/
def CSet.camShare (c : CSet) (tables : List ((Nat × Nat) × List Byte)) : Bool :=
  let l := (tables.filter (fun t => t.1.1 = 5 ∧ c.fld (F.CAM_Sn_CTRL_EN t.1.2) = 1)).map (fun t => camPort t.2 * 16 + camVc t.2)
  !(noDup l)

/-- The entries of a manifest (R98); none is cause 10. -/
def manifestEnts (b : List Byte) : Nat → Nat → Option Nat → Option (List (Nat × Nat))
  | 0, _, _ => some []
  | n + 1, k, prev =>
    let a := leAt b (8 * k) 4
    let m := leAt b (8 * k + 4) 4
    let up : Bool := match prev with | some q => decide (q < a) | none => true
    if a % 4 ≠ 0 ∨ ¬ up ∨ ¬ hasReg a ∨ m = 0 then none
    else (manifestEnts b n (k + 1) (some a)).map (fun l => (a, m) :: l)

/-- The manifest of a bank. -/
def ImgSt.bankManifest (i : ImgSt) (bank : Nat) (h : ImgHeader) : Option (List (Nat × Nat)) :=
  manifestEnts (flashBytes i.flash (bankBase bank + h.manOff) (8 * h.manCnt)) h.manCnt 0 none

/-- A record may write at `a` (R96): there is a register and not all of it is read-only. [DEDUCED: log 44] -/
def recWritable (a : Nat) : Bool :=
  let (rw, rws, w1c, wo) := accessMasks a
  hasReg a && (rw != 0 || rws != 0 || w1c != 0 || wo != 0 || rcMask a != 0)

/-- Where a run of records stopped. -/
inductive RecEnd where
  /-- at END -/
  | done
  /-- cause 9 -/
  | fail
  /-- a record reset the device -/
  | gone
  /-- the loader waits until the instant `till`, for the POLL at the head of `rest` or in a DELAY before it -/
  | wait (rest : List Byte) (till : Nat) (poll : Bool)
  deriving DecidableEq, Repr

/-- Write words to consecutive registers from `a`; false where one of them may not be written. -/
def State.recWords (s : State) (a : Nat) : List Word → Bool × State
  | [] => (true, s)
  | w :: r => if recWritable a then State.recWords (s.imageWrite a w) (a + 4) r else (false, s)

/-- The POLL record at the head of `b` is met (R95); its read clears nothing (R10). -/
def State.pollMet (s : State) (b : List Byte) : Bool := (s.readReg (leAt b 4 4)).toNat &&& leAt b 8 4 == leAt b 12 4

/-- The words that the record at the head of `b` writes, OP 1 to 4, and the bytes of data behind it (R95); none where they run out. -/
def State.recData (s : State) (b : List Byte) : Option (List Word × Nat) :=
  let op := leAt b 0 1
  let count := leAt b 2 2
  let x := BitVec.ofNat 32 (leAt b 8 4)
  let y := BitVec.ofNat 32 (leAt b 12 4)
  let len := 16 * ceilDiv count 4
  if op = 1 then some ([x], 0)
  else if op = 2 then some ([(s.readReg (leAt b 4 4) &&& ~~~x) ||| (y &&& x)], 0)
  else if op = 3 then some (List.replicate count x, 0)
  else if b.length < 16 + len then none
  else some ((List.range count).map (fun k => BitVec.ofNat 32 (leAt b (16 + 4 * k) 4)), len)

/-- The records of the area from `b` on, which the loader reaches at the instant `at_` (R95, R96). A POLL that is not met at its first read
waits, and so does a DELAY that has not passed. [DEDUCED: log 43] -/
def State.records : Nat → List Byte → Nat → State → State × RecEnd
  | 0, _, _, s => (s, .fail)
  | n + 1, b, at_, s =>
    if b.length < 16 then (s, .fail)
    else if s.img.load ≠ .pass1 then (s, .gone)
    else
      let op := leAt b 0 1
      let addr := leAt b 4 4
      let rest := b.drop 16
      if 1 ≤ op ∧ op ≤ 4 then
        match s.recData b with
        | none => (s, .fail)
        | some (ws, skip) =>
          let (ok, s) := s.recWords addr ws
          if ok then State.records n (rest.drop skip) at_ s else (s, .fail)
      else if op = 5 then
        if 100000 < leAt b 8 4 then (s, .fail)
        else
          let till := at_ + 1000 * leAt b 8 4
          if till ≤ s.clk.now then State.records n rest till s else (s, .wait rest till false)
      else if op = 6 then
        if ¬ hasReg addr then (s, .fail)
        else if s.pollMet b then State.records n rest at_ s
        else (s, .wait b (at_ + leAt b 2 2 * 1000000) true)
      else if op = 7 then (s, .done)
      else (s, .fail)

/-- The read-back's check of the records (R104): op and address only. -/
def recordsOk : Nat → List Byte → Bool
  | 0, _ => false
  | n + 1, b =>
    if b.length < 16 then false
    else
      let op := leAt b 0 1
      let count := leAt b 2 2
      let addr := leAt b 4 4
      let rest := b.drop 16
      if op = 1 ∨ op = 2 then recWritable addr && recordsOk n rest
      else if op = 3 then (List.range count).all (fun k => recWritable (addr + 4 * k)) && recordsOk n rest
      else if op = 4 then
        let len := 16 * ceilDiv count 4
        decide (len ≤ rest.length) && (List.range count).all (fun k => recWritable (addr + 4 * k)) && recordsOk n (rest.drop len)
      else if op = 5 then recordsOk n rest
      else if op = 6 then hasReg addr && recordsOk n rest
      else op == 7

/-- IMG_FAIL's field of a bank. -/
def failFld (bank : Nat) : Fld := if bank = 0 then F.IMG_FAIL_CAUSE_A else F.IMG_FAIL_CAUSE_B

/-- Image-fail (R92): both banks have failed; the xSPI pins are at high impedance, so no work of the sequencer goes on. -/
def State.imageFail (s : State) : State := State.showNvm { s with img := { s.img with load := .imageFail, job := none, jobs := [], suspend := false } }

/-- What a failed bank's records set is undone: RWS and RW fields hold their reset values again. [DEDUCED: log 47] -/
def State.unload (s : State) : State :=
  let undone (e : Nat × Word) : Bool := match rowOf e.1 with | some r => r.rw == 0 | none => true
  { s with led := { LedSt.reset with live := s.led.live.filter undone }
           img := { s.img with hdr := ImgHeader.reset, manifest := [], tables := [], recs := none } }

/-- A bank fails with a cause (R92, R101): event 0x301. -/
def State.noteFail (s : State) (bank cause : Nat) : State := (s.wr (failFld bank) cause).raise 0x301 bIMG bank cause

/-- The loader turns to its second bank, which a mark of R103 fails as well. [DEDUCED: log 47] -/
def State.secondBank (s : State) : State :=
  let b := 1 - s.img.bank
  let s := { s with img := { s.img with bank := b, second := true, load := .header } }
  let s := s.wr F.IMG_STATUS_FALLBACK 1
  if bitAt s.img.marks b then (s.noteFail b 11).imageFail else s

/-- The bank being tried fails (R92). [DEDUCED: log 47] -/
def State.failBank (s : State) (cause : Nat) : State :=
  let s := (s.unload).noteFail s.img.bank cause
  if s.img.second then s.imageFail else s.secondBank

/-- The first bank is chosen at step 2 (R90, R91, R103): event 0x300. -/
def State.chooseBank (s : State) : State :=
  let latest := latestCommit s.img.flash
  let seq := match latest with | some (_, q, _) => q | none => 0
  let strap := s.pwr.straps.bootBank
  let committed := committedBank s.img.flash
  let first := if strap then 1 - committed else committed
  let s := { s with img := { s.img with bank := first, second := false, load := .header } }
  let s := (s.wr F.IMG_STATUS_STRAP (b2n strap)).wr F.IMG_COMMIT_SEQ_SEQ seq
  let s := s.raise 0x300 bIMG (first + 2 ^ 8 * b2n strap + 2 ^ 16 * b2n latest.isNone) seq
  if bitAt s.img.marks first then s.failBank 11 else s

/-- A recorded erase starts again in full (R108): event 0x307. -/
def State.redoErase (s : State) : State :=
  if s.rd F.IMG_NVM_STAT_ERASE_PEND = 0 then s
  else
    let a := s.rd F.IMG_NVM_ADDR_ADDR
    let s := (s.raise 0x307 bIMG a 2).wr F.IMG_NVM_STAT_SUSPENDED 0
    s.nvmQueue { who := .redo, ops := [{ kind := if a < 0x10000 then 3 else 4, addr := a, data := [] }], retry := false, data := [] }

/-- A flash size that R86 allows. -/
def flashSizeOk (n : Nat) : Bool := [0x4000000, 0x8000000, 0x10000000, 0x20000000].contains n

/-- What OTP can hold (R100): an epoch of 64 bits and four revoke bits. [DESIGN CHOICE: log 10] -/
def Otp.bounded (o : Otp) : Otp := { o with epoch := min 64 o.epoch, revoked := o.revoked % 16 }

/-- The flash is the loader's (R87, R108): no program that a reset let run on is in progress any more. XSPI_RESET_L is pulsed, and step 2 reads
the commit area. -/
def State.flashFree (s : State) : State :=
  if s.running ∧ s.img.load = .off ∧ s.img.job.isNone ∧ ¬ s.pwr.straps.testEn then
    let s := { s with img := { s.img with bus := { s.img.bus with lowTill := s.clk.now + 10000 } } }
    ((s.bootStep 2).redoErase).chooseBank
  else s

/-- The mark of R105 goes from the bank that the outside writes at `a`. -/
def clearBanks (m a : Nat) : Nat :=
  let b := if bankBase 1 ≤ a then 1 else 0
  if bankBase 0 ≤ a ∧ a < bankBase 1 + 0x1000000 then clearBit m b else m

/-- Reset exit (R69 to R71, R470, R79, R87, R90 to R92, R102, R108): straps latched, the outside's flash and OTP contents seen, step 1; steps 2
and on wait for a program that the reset let run on. A rail that is still below its warning threshold at an exit that does not wait for the
rails begins no brace, and PWR_MON_LIVE reads 0. [DEDUCED: log 9, 129; DESIGN CHOICE: log 10, 11, 155] -/
def State.resetExit (s : State) (straps : Straps) (otp : Option Otp) (size : Nat) (patches : List (Nat × List Byte)) : State :=
  if s.pwr.phase ≠ .exitDue then s
  else
    let flash := patches.foldl (fun m p => flashProgram m p.1 p.2) s.img.flash
    let torn := patches.foldl (fun m p => if p.2 = [] then m else clearBanks m p.1) s.img.torn
    let o := if s.img.otp = Otp.blank then (otp.getD Otp.blank).bounded else s.img.otp
    let s := { s with img := { s.img with bus := XspiBus.reset, torn := torn, flash := flash, size := if flashSizeOk size then size else s.img.size, otp := o }
                      pwr := { s.pwr with phase := .run, straps := straps }
                      clk := { s.clk with exitAt := s.clk.now, devFine := 0, rate := 0 } }
    let s := (s.raise 0x100 bPWR (s.rdW R.PWR_RST_CAUSE).toNat s.pwr.tripped).wr F.PWR_MON_LIVE_WARN 0
    let s := { s with pwr := { s.pwr with tripped := 0 } }
    let s := s.fastReport
    if straps.testEn then s else (s.bootStep 1).flashFree

/-- The boot flight is asked for (R78): the 104 domains of the first flight. -/
def State.flightBegin (s : State) : State := (s.each (List.range 104) (fun s d => s.reqUp d)).flightKick

/-- The bus in 8D-8D-8D at the header's clock and dummy cycles (R87, R93), at 100 MHz where the DQS read check has failed once. -/
def XspiBus.enter (b : XspiBus) (h : ImgHeader) (dqsFails : Nat) : XspiBus :=
  { b with octal := true, mhz := if dqsFails = 0 then h.mhz else 100, dummy := h.dummy }

/-- The header of the bank being tried is accepted (R87, R93): 8D-8D-8D is entered and the first pass begins. -/
def State.takeHeader (s : State) (h : ImgHeader) (dqsFails : Nat) : State :=
  { s with img := { s.img with hdr := h, load := .pass1, bus := s.img.bus.enter h dqsFails } }

/-- Steps 3 to 5 for a bank whose header is `b` and whose checks end with `cause` (R94, R102). -/
def State.headerChecked (s : State) (cause : Nat) (h : ImgHeader) (dqsFails : Nat) : State :=
  if cause ≠ 0 then s.failBank cause else (((s.takeHeader h dqsFails).bootStep 4).flightBegin).bootStep 5

/-- The first cause that fails a header (R94): the header's own, or too many DQS failures. -/
def dqsCause (cause dqsFails : Nat) : Nat := if cause ≠ 0 then cause else if 2 ≤ dqsFails then 12 else 0

/-- The cause that fails a header whose own check gives `cause` (R105): a bank whose update a reset has lost fails, with one of the causes 1 to
4 where its header still stands; which one is open. [DESIGN CHOICE: log 133] -/
def State.tornCause (s : State) (cause : Nat) : Nat :=
  if cause = 0 ∧ bitAt s.img.torn s.img.bank then 1 + Config.freeNat s.choices % 4 else cause

/-- Step 3: the header is read and checked (R87, R93, R94); then the flight begins (R78) and the first pass (R102). -/
def State.headerRead (s : State) (dqsFails : Nat) : State :=
  if s.img.load ≠ .header then s
  else
    let s := s.bootStep 3
    let b := flashBytes s.img.flash (bankBase s.img.bank) 256
    s.headerChecked (dqsCause (s.tornCause (headerCause b)) dqsFails) (parseHeader b) dqsFails

/-- The tables of the bank for the veto checks that need them; none where they are not sound. -/
def State.withBankTables (s : State) : State :=
  { s with img := { s.img with tables := (s.img.bankTables s.img.bank s.img.hdr).getD [] } }

/-- Every block's veto checks over the committed set as the records left it (R96); those that read a table are left where the tables are not sound, which
the second pass finds (R97). -/
def State.loadVetoes (s : State) : Bool :=
  let v := s.withBankTables
  let sound := (s.img.bankTables s.img.bank s.img.hdr).isSome
  (List.range 20).any (fun b => v.viols v.cset b (sound || (b != bCAM && b != bTRK)) ≠ [])

/-- The records have run to `e`: vetoes, or the wait in a POLL or a DELAY. -/
def State.recordsEnd (s : State) (e : RecEnd) : State :=
  match e with
  | .done => if s.loadVetoes then s.failBank 9 else { s with img := { s.img with load := .pass2, recs := none } }
  | .fail => s.failBank 9
  | .gone => s
  | .wait rest till poll => { s with img := { s.img with load := .pass2, recs := some (rest, till, poll) } }

/-- The records from `b` on, which the loader reaches at `at_`, run as far as they can. -/
def State.runRecords (s : State) (b : List Byte) (at_ : Nat) : State :=
  let r := State.records (b.length / 16 + 1) b at_ { s with img := { s.img with load := .pass1, recs := none } }
  r.1.recordsEnd r.2

/-- Step 6 ends the first pass (R99, R100); step 7 applies the records (R95, R96). -/
def State.firstPass (s : State) : State :=
  if s.img.load ≠ .pass1 then s
  else
    let s := s.bootStep 6
    let cause := s.img.signatureCause s.img.bank s.img.hdr
    if cause ≠ 0 then s.failBank cause
    else
      let s := s.raise 0x302 bIMG s.img.bank s.img.hdr.version
      let s := s.bootStep 7
      -- the records now fill the commit store anew (R40)
      let s := { s with led := { s.led with kept := none } }
      let b := flashBytes s.img.flash (bankBase s.img.bank + s.img.hdr.recOff) s.img.hdr.recLen
      s.runRecords b s.clk.now

/-- The records that wait go on as soon as they may (R95, R96): a POLL that is met in its time, or a DELAY that has passed; a POLL whose time is
over fails the bank. [DEDUCED: log 43] -/
def State.recordsRun (s : State) : State :=
  match s.img.recs with
  | none => s
  | some (b, till, true) =>
    if s.pollMet b ∧ s.clk.now ≤ till then s.runRecords (b.drop 16) s.clk.now else if till < s.clk.now then s.failBank 9 else s
  | some (b, till, false) => if till ≤ s.clk.now then s.runRecords b till else s

/-- A command whose effect `f` may change what a record reads: the records that are due by then come before it, and those that it lets go on
after it (R95). -/
def State.loading (s : State) (f : State → State) : State := (f s.recordsRun).recordsRun

/-- The tables of a calibration copy's contents (R109): those that keep R97. [DEDUCED: log 45] -/
def calTablesOf (d : List Byte) : List ((Nat × Nat) × List Byte) :=
  let n := if d.length < 16 then 0 else leAt d 4 4 / 16
  ((tableDir d n).filter (fun e =>
    (e.1 == 6 || e.1 == 7 || e.1 == 8) && decide (e.2.2.1 + e.2.2.2.1 ≤ d.length)
      && (crc32c (slice d e.2.2.1 e.2.2.2.1)).toNat == e.2.2.2.2 && tableOk e.1 e.2.1 (slice d e.2.2.1 e.2.2.2.1))).map
    (fun e => ((e.1, e.2.1), slice d e.2.2.1 e.2.2.2.1))

/-- With CAL_USE the tables of the latest calibration copy replace the image's of the same type and instance; whether one does (R109). [DEDUCED: log 45] -/
def ImgSt.withCal (i : ImgSt) (tables : List ((Nat × Nat) × List Byte)) : Bool × List ((Nat × Nat) × List Byte) :=
  if ¬ i.hdr.calUse then (false, tables)
  else
    match latestCal i.flash with
    | none => (false, tables)
    | some (_, _, d) =>
      let c := calTablesOf d
      let at_ (k : Nat × Nat) := c.find? (fun t => t.1 == k)
      (tables.any (fun t => (at_ t.1).isSome), tables.map (fun t => (at_ t.1).getD t))

/-- The tables and the manifest of the accepted image are in use; RESET_OUT_L is deasserted and the Basin's tables are set up (R102 step 8). -/
def State.withImage (s : State) (tables : List ((Nat × Nat) × List Byte)) (man : List (Nat × Nat)) : State :=
  { s with img := { s.img with tables := tables, manifest := man, load := .loaded, marks := clearBit s.img.marks (1 - s.img.bank), trained := true }
           pwr := { s.pwr with resetOut := false }
           basin := s.basin.start }

/-- Panel care takes its tables (R342, R343, R347), and the crack loop begins (R348). Without a reference table the band is 0 (R342). -/
def State.withPanelTables (s : State) (bounds : List Int) (codes : List (List Nat)) (card : List Byte) : State :=
  let s := if bounds = [] then (s.wr F.PNL_STATUS_BAND 0).wr F.PNL_STATUS_PEND 0 else s
  { s with panel := { s.panel with bounds := bounds, codes := codes, card := card, crackOn := true } }

/-- Panel care takes the PNL_VREF and HOLD_CARD tables of the image. -/
def State.panelTables (s : State) : State :=
  let vref := (s.table 3 0).getD []
  s.withPanelTables (if vref = [] then [] else (List.range 8).map (fun k => signed 16 (leAt vref (2 * k) 2)))
    (if vref = [] then [] else (List.range 8).map (fun b => (List.range 64).map (fun k => leAt vref (16 + 128 * b + 2 * k) 2)))
    ((s.table 4 0).getD [])

/-- IMG_STATUS and IMG_VERSION show the accepted image. -/
def State.showImage (s : State) (used : Bool) : State :=
  (((s.wr F.IMG_STATUS_CAL_USED (b2n used)).wr F.IMG_STATUS_BANK s.img.bank).wr F.IMG_STATUS_PENDING
    (b2n (committedBank s.img.flash ≠ s.img.bank))).wr F.IMG_VERSION_VERSION s.img.hdr.version

/-- The image is accepted (R102 steps 8 and 9): its tables and manifest are in use, RESET_OUT_L is deasserted, the Basin trains, the ring
ports train. -/
def State.acceptImage (s : State) (tables : List ((Nat × Nat) × List Byte)) (man : List (Nat × Nat)) : State :=
  let r := s.img.withCal tables
  let s := ((s.withImage r.2 man).panelTables).showImage r.1
  let s := (s.bootStep 8).trainStart true
  (s.bootStep 9).loopStart.towRx.gensFollow

/-- The second pass's digest differs (R103): the bank is marked and a warm reset follows, which sets no bit of PWR_RST_CAUSE. [DESIGN CHOICE: log 132] -/
def State.digestDiffers (s : State) : State :=
  let b := s.img.bank
  let s := s.noteFail b 11
  let s := { s with img := { s.img with marks := orBit s.img.marks b } }
  s.enterReset false false .exitDue

/-- Step 7 ends (R97, R98, R103): tables, manifest, second digest. [DEDUCED: log 43] -/
def State.secondPass (s : State) (same : Bool) : State :=
  if s.img.load ≠ .pass2 then s
  else
    let s := s.recordsRun
    if s.img.load ≠ .pass2 ∨ s.img.recs.isSome then s
    else
      match s.img.bankTables s.img.bank s.img.hdr with
      | none => s.failBank 8
      | some tables =>
        if s.cset.camShare tables then s.failBank 8
        else
          match s.img.bankManifest s.img.bank s.img.hdr with
          | none => s.failBank 10
          | some man => if same then s.acceptImage tables man else s.digestDiffers

/-- Step 13: panel care may start (R102, R337); the panel lanes are enabled, from when their blocks are counted (R317). [DESIGN CHOICE: log 137] -/
def State.bootPanel (s : State) : State :=
  let s := s.bootStep 13
  let s := State.panelBoot { s with lanes := { s.lanes with enabledAt := some s.dev, txSeed := s.choices }, choices := s.choices + 48 }
  { s with img := { s.img with panelStep := true } }

/-- The steps of the boot timeline from 10 to 13 that have been reached, in order (R102, R266). -/
def State.bootAdvance (s : State) : State :=
  if ¬ s.running ∨ s.img.load ≠ .loaded ∨ 13 ≤ s.stage then s
  else
    let s := s.when (decide (s.stage = 9 ∧ s.rd F.BASIN_STATUS_READY = 1)) (fun s => s.bootStep 10)
    let s := s.when (s.img.readyAt.isSome && s.img.weirStep && s.ring.weirOpen && decide (s.stage ≤ 10)) (fun s => s.bootStep 11)
    let s := s.when (s.img.readyAt.isSome && s.img.weirStep && s.img.timeStep && decide (s.stage ≤ 11)) (fun s => s.bootStep 12)
    s.when (decide (s.stage = 12 ∧ s.rd F.BASIN_STATUS_READY = 1) && !s.img.panelStep) State.bootPanel

/-- Training at boot has ended (R102 step 10, R266). -/
def State.bootTrained (s : State) : State :=
  if s.img.load ≠ .loaded then s
  else
    let s := { s with img := { s.img with readyAt := match s.img.readyAt with | some t => some t | none => some s.clk.now } }
    s.bootAdvance

/-- Loopback training has ended (R102 step 11). -/
def State.bootWeir (s : State) : State := State.bootAdvance { s with img := { s.img with weirStep := true } }

/-- The slave clock has locked, or runs free (R102 step 12). -/
def State.bootTime (s : State) : State := State.bootAdvance { s with img := { s.img with timeStep := true } }

/-- 5,000 ms after step 10 the timeline goes on in free-run (R102). -/
def State.freeRunTimeout (s : State) : State := if s.img.readyAt.isSome then s.bootTime else s

/-- Step 14 (R102, R150, R412): the panel's sequence has ended, the first close is set. -/
def State.firstCloseSet (s : State) : State :=
  if s.img.panelStep ∧ s.stage = 13 ∧ ¬ s.lock.running ∧ s.pstate ≠ pUPSEQ ∧ s.pstate ≠ pTRAIN then (s.bootStep 14).bootPounds else s

/-- What the read-back of an update finds (R104): the first cause, 0 where it passes. [DEDUCED: log 46] -/
def State.verifyCause (s : State) : Nat :=
  let bank := s.inactiveBank
  let b := flashBytes s.img.flash (bankBase bank) 256
  let h := parseHeader b
  let c := headerCause b
  if c ≠ 0 then c
  else
    let c := s.img.signatureCause bank h
    if c ≠ 0 then c
    else
      let r := flashBytes s.img.flash (bankBase bank + h.recOff) h.recLen
      if ¬ recordsOk (r.length / 16 + 1) r then 9
      else if (s.img.bankTables bank h).isNone then 8
      else if (s.img.bankManifest bank h).isNone then 10
      else 0

/-- The read-back ends (R104); a flash read error in it fails the update with cause 12. [DESIGN CHOICE: log 132] -/
def State.verifyDone (s : State) (readErr : Bool) : State :=
  if s.rd F.IMG_UPD_STAT_STATE ≠ 2 then s
  else
    let c := if readErr then 12 else s.verifyCause
    if c = 0 then s.updState 3 (s.rd F.IMG_UPD_OFF_OFF) else s.updFail c

end Sys2Proof.Machine
end

