-- ==== Sys2Proof/Machine/Jtag.lean ====
section
/-! DEFINITION. The JTAG TAP (R79, R472). -/

namespace Sys2Proof.Machine

/-- The bits of a number, least significant first. -/
def natBits (n v : Nat) : List Bool := (List.range n).map (bitAt v)

/-- IDCODE (R472). -/
def jtagId : Nat := 0x196004E5

/-- BYPASS selects the bypass register, one bit that captures 0. [PRESUMED: log 115] -/
def JtagSt.bypass (j : JtagSt) : JtagSt := { j with ir := .bypass, dr := [false] }

/-- An instruction that acts only in manufacturing test, else as BYPASS (R472). -/
def State.jtagTest (s : State) (ir : JtagIr) (dr : List Bool) : State :=
  if s.jtag.trst then s
  else if s.pwr.straps.testEn then { s with jtag := { s.jtag with ir := ir, dr := dr } }
  else { s with jtag := s.jtag.bypass }

/-- BYPASS. -/
def State.jtagBypass (s : State) : State := if s.jtag.trst then s else { s with jtag := s.jtag.bypass }

/-- IDCODE. -/
def State.jtagIdcode (s : State) : State :=
  if s.jtag.trst then s else { s with jtag := { s.jtag with ir := .idcode, dr := natBits 32 jtagId } }

/-- SAMPLE/PRELOAD: the cells sample the pins and take what is shifted in. -/
def State.jtagSample (s : State) (pins preload : List Bool) : State :=
  if s.jtag.trst then s
  else { s with jtag := { s.jtag with ir := .sample, dr := pins, sampled := pins, preload := preload } }

/-- TRST_L resets the TAP and nothing else (R79); the TAP then selects IDCODE (IEEE 1149.1). [PRESUMED: log 115] -/
def State.trstAssert (s : State) : State := { s with jtag := JtagSt.reset }

/-- TRST_L is deasserted. [PRESUMED: log 115] -/
def State.trstDeassert (s : State) : State := { s with jtag := { s.jtag with trst := false } }

end Sys2Proof.Machine
end

