-- ==== Sys2Proof/Machine/Merge.lean ====
section
/-! DEFINITION. The scene stream at step 1 of a lock cycle: headers that take effect, command lists merged, launch times, and the
change of contexts that the open performs (R149, R162, R165 to R178, R186, R206). -/

namespace Sys2Proof.Machine

/-- A layer is released at pound `p` (R162, R176); an earlier release stands beside it, for the pound before is composed only at the
open. [DEDUCED: log 64] -/
def State.markRelease (s : State) (k l p : Nat) : State :=
  { s with strm := { s.strm with released := (k, l, p) :: s.strm.released.filter (fun r => r ≠ (k, l, p)) } }

/-- A new descriptor keeps the layer's instance (R162). -/
def Desc.keeps (a b : Desc) : Bool :=
  a.ty == b.ty && a.tilesX == b.tilesX && a.tilesY == b.tilesY && a.width == b.width && a.height == b.height && a.planes == b.planes
    && a.profile == b.profile

/-- The header keeps layer `d` of the header before it. -/
def Scene.keeps (c : Scene) (d : Desc) : Bool := match c.desc d.layer with | some e => d.keeps e | none => false

/-- What a header that empties its slot leaves (R160): no layer, no channel. -/
def Scene.effect (c : Scene) : Scene := if c.id = 0 then { c with descs := [], chans := [] } else c

/-- The contexts of one layer of a scene (R165). -/
def Scene.layerCtxs (c : Scene) (slot : Nat) (d : Desc) : List Nat :=
  if d.tiled then
    (List.range d.tilesY).flatMap (fun y => (List.range d.tilesX).map (fun x => c.ctx slot d.layer x y))
  else []

/-- A change of contexts joins those that the open performs. -/
def State.planCtx (s : State) (q : CtxPlan) : State := { s with strm := { s.strm with plan := s.strm.plan ++ [q] } }

/-- Contexts that change their number, and contexts to be initialised, when `new` takes the place of `old` (R165, R186). -/
def ctxChange (slot : Nat) (old new : Scene) : CtxPlan :=
  let kept := old.descs.filter new.keeps
  let moves := (kept.flatMap (fun d => (old.layerCtxs slot d).zip (new.layerCtxs slot d))).filter (fun m => m.1 ≠ m.2)
  let gone := (old.descs.filter (fun d => !new.keeps d)).flatMap (old.layerCtxs slot)
  let opened := (new.descs.filter (fun d => !old.descs.any (fun e => e.layer == d.layer && new.keeps e))).flatMap (new.layerCtxs slot)
  { gone := gone, moves := moves, clears := opened }

/-- Channels of a slot that no header names any longer are closed (R162); the packets they hold are done, at an open under R278. -/
def State.closeChans (s : State) (atOpen : Bool) (l : List (Nat × Nat)) : State :=
  let gone (c : Chan) : Bool := c.chan != 0 && l.contains (c.grp, c.chan)
  let moors := (s.strm.chans.filter gone).flatMap (fun c => c.groups.flatMap (fun g => (g.pkts.filter (fun p => !p.eaten)).map Pkt.moor))
  let s := { s with strm := { s.strm with chans := s.strm.chans.filter (fun c => !gone c) } }
  s.each moors (fun s a => s.packetGone atOpen (a.1 / moorSize))

/-- The scene of a slot, the empty scene where it holds none. -/
def SceneSlot.scene (k : SceneSlot) : Scene :=
  k.cur.getD { id := 0, ver := 0, start := 0, grp := 0, cols := 0, rows := 0, vcols := 0, vrows := 0, chans := [], descs := [] }

/-- A header takes the place of the one in force in slot `k` at the close that opens `p`, or at that open (R162, R206); `pend` stays pending. -/
def State.putScene (s : State) (atOpen : Bool) (k p : Nat) (c : Scene) (pend : Option Scene) : State :=
  let sl := s.strm.slot k
  let old := sl.scene
  let new := c.effect
  let s := s.each (old.descs.filter (fun d => !new.keeps d)) (fun s d => s.markRelease k d.layer p)
  let s := s.planCtx (ctxChange k old new)
  let stay := new.chans.map (fun x => (new.grp, x)) ++ (match pend with | some q => q.chans.map (fun x => (q.grp, x)) | none => [])
  let s := s.closeChans atOpen (sl.open_.filter (fun x => !stay.contains x))
  let has_ (l : Nat) : Bool := (new.desc l).isSome
  let s := s.modSlot k (fun sl =>
    { sl with cur := if c.id = 0 then none else some c, pend := pend, geom := new.descs, extra := [],
              maps := sl.maps.filter (fun m => has_ m.layer) })
  s.raise 0x410 bRING k c.id

/-- The pending header of slot `k` takes effect where its START has come (R162). -/
def State.applyHeader (s : State) (k p : Nat) : State :=
  match (s.strm.slot k).pend with
  | some c => if laterPound c.start p then s else s.putScene false k p c none
  | none => s

/-- A change of panel geometry empties the slots (R206). [DEDUCED: log 61] -/
def State.emptySlots (s : State) (p : Nat) (g : Geom) : State :=
  s.each [0, 1] (fun s k =>
    let sl := s.strm.slot k
    let bad : Bool := match sl.pend with
      | some c => c.cols != g.cols || c.rows != g.rows || c.vcols != g.vcols || c.vrows != g.vrows
      | none => false
    let pend := if bad then none else sl.pend
    let s := match sl.cur with
      | some c => s.putScene true k p { c with id := 0 } pend
      | none => s.modSlot k (fun sl => { sl with pend := pend })
    match bad, sl.pend with
    | true, some c =>
      let s := if sl.cur.isSome then s else s.closeChans true (c.chans.map (fun x => (c.grp, x)) ++ sl.extra)
      s.raise 0x411 bRING (1 + 256 * k) c.id
    | _, _ => s)

/-- A layer's geometry overlaid (R170, R171). -/
def overlayGeom (l : List Desc) (layer : Nat) (f : Desc → Desc) : List Desc := l.map (fun d => if d.layer = layer then f d else d)

/-- The placement form over a descriptor. -/
def Desc.place (d : Desc) (mask : Nat) (ox oy : Int) (sx sy : Nat) : Desc :=
  let d := if bitAt mask 0 then { d with orgX := ox, orgY := oy } else d
  if bitAt mask 1 then { d with stepX := sx, stepY := sy } else d

/-- The depth form over a descriptor. -/
def Desc.depthen (d : Desc) (mask : Nat) (disp relief zkey : Int) : Desc :=
  let d := if bitAt mask 2 then { d with disp := disp } else d
  let d := if bitAt mask 3 then { d with relief := relief } else d
  if bitAt mask 4 then { d with zkey := zkey } else d

/-- A guarded region is set or cleared (R177). -/
def setGuard (l : List Guard) (g : Guard) : List Guard :=
  let rest := l.filter (fun x => x.gid ≠ g.gid)
  if g.x0 = 0xFFFFFFFF ∧ g.x1 = 0xFFFFFFFF ∧ g.y0 = 0xFFFFFFFF ∧ g.y1 = 0xFFFFFFFF then rest else insertBy (fun a b => decide (a.gid < b.gid)) rest g

/-- One command of the list of slot `k` is merged at the close that opens `p` (R170 to R178). Commands that name a layer no longer
described are skipped (R167). -/
def State.mergeCmd (s : State) (k p : Nat) (c : Cmd) : State :=
  let sc := (s.strm.slot k).scene
  let named (l : Nat) : Bool := (sc.desc l).isSome
  match c with
  | .place l mask ox oy sx sy => s.modSlot k (fun sl => { sl with geom := overlayGeom sl.geom l (fun d => d.place mask ox oy sx sy) })
  | .depth l mask disp relief zkey => s.modSlot k (fun sl => { sl with geom := overlayGeom sl.geom l (fun d => d.depthen mask disp relief zkey) })
  | .draw es =>
    let s := s.each (es.filter (fun e => !named e.layer)) (fun s e => s.raise 0x417 bRING (e.layer + 256 * k) p)
    s.modSlot k (fun sl => { sl with draw := es.filter (fun e => named e.layer) })
  | .region r =>
    if named r.layer && (r.src != 2 || named r.srcL) then { s with tug := { s.tug with updates := s.tug.updates ++ [(p, k, r)] } } else s
  | .release l =>
    match sc.desc l with
    | some d =>
      (s.markRelease k l p).planCtx { gone := [], moves := [], clears := sc.layerCtxs k d }
    | none => s
  | .signature g =>
    { s with comp := { s.comp with guards := setGuard s.comp.guards { g with since := p }, repeats := s.comp.repeats.filter (fun e => s.comp.guards.any (fun q => q.key == e.1)) } }
  | .launch _ _ => s
  | .mode set clr =>
    { s with lock := { s.lock with
        streamReqs := s.lock.streamReqs ++ [{ pound := p, set := BitVec.ofNat 8 set, clr := BitVec.ofNat 8 clr }] } }

/-- The list of slot `k` for pound `p`. -/
def SceneSlot.listAt (k : SceneSlot) (p : Nat) : Option CmdList := k.lists.find? (fun x => x.pound == p)

/-- The list of slot `k` is merged, or found absent (R167, R172, R173). -/
def State.mergeList (s : State) (k p : Nat) : State :=
  let sl := s.strm.slot k
  match sl.listAt p with
  | some l =>
    let s := s.modSlot k (fun sl => { sl with draw := [], drawAt := p })
    (s.each l.cmds (fun s c => s.mergeCmd k p c)).wr F.RING_CMD_LAST_POUND p
  | none =>
    if sl.cur.isNone then s.modSlot k (fun sl => { sl with draw := [], drawAt := p })
    else
      let s := (s.inc F.RING_CMD_MISS_ABSENT).raise 0x412 bRING (3 + 256 * k) p
      let named (e : DrawEnt) : Bool := (sl.scene.desc e.layer).isSome
      let s := s.each (sl.draw.filter (fun e => !named e)) (fun s e => s.raise 0x417 bRING (e.layer + 256 * k) p)
      s.modSlot k (fun sl => { sl with draw := (sl.draw.filter named).map (fun e => { e with known := false }), drawAt := p })

/-- What a slot draws, with the geometry of the pound (R171, R172): CZKEY is the depth of a CARD layer. -/
def SceneSlot.planEnts (sl : SceneSlot) (k : Nat) : List PlanEnt :=
  sl.draw.filterMap (fun e =>
    (sl.geom.find? (fun d => d.layer == e.layer)).map (fun d =>
      { slot := k, desc := if d.ty = tCARD then { d with zkey := e.czkey } else d, static := e.static, chunks := e.chunks,
        known := e.known, ready := false }))

/-- The plan of pound `p` (R172). -/
def State.makePlan (s : State) (p : Nat) : State :=
  let q : Plan :=
    { pound := p, ents := (s.strm.slot 0).planEnts 0 ++ (s.strm.slot 1).planEnts 1, guards := s.comp.guards }
  { s with comp := { s.comp with plans := (q :: s.comp.plans.filter (fun x => x.pound ≠ p)).take 4 } }

/-- The launch command of a slot's list for `p`. -/
def SceneSlot.launchCmd (k : SceneSlot) (p : Nat) : Option (Nat × Nat) :=
  (k.listAt p).bind (fun l => l.cmds.findSome? (fun c => match c with | .launch x ns => some (x, ns) | _ => none))

/-- The launch time that the stream gives for `p` (R178); event 0x418 where the slots differ. -/
def State.streamLaunch (s : State) (p : Nat) : State × Option Nat :=
  match (s.strm.slot 0).launchCmd p, (s.strm.slot 1).launchCmd p with
  | some a, some b => (if a.1 = b.1 then s else s.raise 0x418 bRING p b.2, some a.1)
  | some a, none => (s, some a.1)
  | none, some b => (s, some b.1)
  | none, none => (s, none)

/-- The cause that replaces a stream launch time `x` after `prev` (R149): 1 spacing, 2 rows; 0 none. -/
def CSet.launchCause (c : CSet) (prev x : Nat) : Nat :=
  let d : Int := (x : Int) - prev
  if d < 8333333 * 65536 ∨ 41666667 * 65536 < d then 1
  else if Machine.maxRows (natOf d) c.stripPx c.bpp < c.totalRows then 2
  else 0

/-- L(p) is fixed at the close that opens `p` (R149). -/
def State.fixLaunch (s : State) (p : Nat) : State :=
  let prev := (s.launchOf (poundSub p 1)).getD 0
  let dflt := prev + s.cset.period
  let (s, given) := s.streamLaunch p
  match given with
  | none => if (s.launchOf p).isSome then s else s.setLaunch p dflt
  | some x =>
    let cause := s.cset.launchCause prev x
    if cause = 0 then s.setLaunch p x else ((s.setLaunch p dflt).raise 0x506 bTIME p cause).inc F.TIME_LAUNCH_CNT_REPLACED

/-- The scene stream at step 1 of the lock cycle that opens `p` (R162, R167). [DEDUCED: log 61] -/
def State.mergeScene (s : State) (p : Nat) : State :=
  let s := (s.applyHeader 0 p).applyHeader 1 p
  let s := (s.mergeList 0 p).mergeList 1 p
  (s.makePlan p).fixLaunch p

/-- What the stream keeps of pounds gone by is dropped at the open of `p`: merged lists, chunk marks, decoder counts, MAPs replaced. -/
def State.pruneStream (s : State) (p : Nat) : State :=
  let new (q : Nat) : Bool := laterPound q p
  let near (q : Nat) : Bool := laterPound (poundAdd q 8) p
  let lastMaps (l : List LayerMap) : List LayerMap :=
    l.filter (fun m => !l.any (fun n => n.layer == m.layer && laterPound n.pound m.pound && laterPound (poundSub p 2) n.pound))
  let s := s.each [0, 1] (fun s k => s.modSlot k (fun sl => 
    { sl with lists := sl.lists.filter (fun x => new x.pound), refused := sl.refused.filter (fun x => new x.1), maps := lastMaps sl.maps }))
  { s with strm := { s.strm with seen := s.strm.seen.filter (fun x => near x.2.2.2.2) },
           dec := { s.dec with done := s.dec.done.filter (fun e => near e.1.2.2), time := s.dec.time.filter (fun e => near e.1) } }

/-- The contexts move and are initialised at the open (R165, R186), in the order in which the close made the changes: a change waits
until the chunks of earlier pounds in its contexts have ended. -/
def State.ctxPlan (s : State) : State :=
  State.lateCtxs { s with strm := { s.strm with plan := [], late := s.strm.late ++ s.strm.plan } }

/-- The instances of the layers released at `p` end with `p − 1` (R176, R277). [DEDUCED: log 64] -/
def State.endReleased (s : State) (p : Nat) : State :=
  let rel (k l : Nat) : Bool := s.strm.released.contains (k, l, p)
  let u := poundSub p 1
  let mine := s.dec.pics.filter (fun q => rel q.slot q.layer)
  let s := s.each mine (fun s q => { s with basin := s.basin.fixLast q.moor u })
  { s with dec := { s.dec with
      pics := s.dec.pics.map (fun q => if rel q.slot q.layer then q.fixed u else q),
      cores := s.dec.cores.map (fun j => j.map (fun j => if rel j.chunk.slot j.chunk.layer then j.fixed u else j)) } }

/-- The CARD instances of the layers released at `p` end (R290). -/
def State.endCards (s : State) (p : Nat) : State :=
  s.each (s.tug.cards.filter (fun c => s.strm.released.contains (c.slot, c.layer, p))) (fun s c => s.endCard c.slot c.layer (poundSub p 1))

end Sys2Proof.Machine
end

