-- ==== Sys2Proof/Machine/Lock.lean ====
section
/-! DEFINITION. The lock-keeper: the merge of mode requests (R54 to R59), the close, level reports, the outcome, and the cycle's
end (R31 to R49). -/

namespace Sys2Proof.Machine

/-- Bits of `a` that are clear in `b`, within the eight flags. -/
def without (a b : Nat) : Nat := a &&& (0xFF ^^^ (b &&& 0xFF))

/-- A request or entry of a source that may change the flags of `allow` (R54): discarded whole where a flag is in both masks, else
without what it may not change; event 0x00B. -/
def State.permit (s : State) (src allow : Nat) (e : Nat × Nat) : State × Option (Nat × Nat) :=
  if e.1 &&& e.2 ≠ 0 then (s.raise 0x00B bTOP src 0xFFFF, none)
  else
    let bad := without (e.1 ||| e.2) allow
    (if bad = 0 then s else s.raise 0x00B bTOP src bad, some (e.1 &&& allow, e.2 &&& allow))

/-- A request over those before it (R58). -/
def foldReq (a e : Nat × Nat) : Nat × Nat := (without a.1 e.2 ||| e.1, without a.2 e.1 ||| e.2)

/-- The requests of one source in order (R58). [DEDUCED: log 33] -/
def State.gather (s : State) (src allow : Nat) (l : List (Nat × Nat)) : State × (Nat × Nat) :=
  l.foldl (fun a e =>
    let r := a.1.permit src allow e
    (r.1, match r.2 with | some x => foldReq a.2 x | none => a.2)) (s, (0, 0))

/-- The schedule entries of pound `p` in table order (R97). -/
def State.schedule (s : State) (p : Nat) : List (Nat × Nat) :=
  match s.table 1 0 with
  | none => []
  | some t =>
    ((List.range (t.length / 8)).filter (fun i => leAt t (8 * i) 4 == p)).map (fun i => (leAt t (8 * i + 4) 1, leAt t (8 * i + 5) 1))

/-- The flags `soft` after a source's masks, but for the flags of `mt` (R58). -/
def applyMasks (soft mt : Nat) (m : Nat × Nat) : Nat := without soft (without m.2 mt) ||| without m.1 mt

/-- The GPIO levels used at a close (R56): an acceptance within 1 µs before it may be used or not, an open choice for each input. [DESIGN CHOICE: log 79] -/
def State.gpioLevels (s : State) : State × Nat :=
  (List.range 16).foldl (fun a i =>
    let new := bitAt s.lock.gpioAcc i
    let fresh := decide (s.clk.now < s.lock.gpioAccAt.getD i 0 + 1000) && new != bitAt s.lock.gpioPrev i
    if fresh then
      let (b, t) := a.1.choose
      (t, if (if b then new else bitAt s.lock.gpioPrev i) then orBit a.2 i else a.2)
    else (a.1, if new then orBit a.2 i else a.2)) (s, 0)

/-- The flags with a GPIO mask, in the order of `gpioMaskFlds`. -/
def gpioFlags : List Nat := [mFIELD, mDIRECT, mFLAT, mTRACK, mTALK, mPATTERN, mHOLD]

/-- The flags that levels force (R56), by the masks of the committed set. -/
def CSet.forced (c : CSet) (levels : Nat) : Nat :=
  maskOf (((gpioMaskFlds.zip gpioFlags).filter (fun e => c.fld e.1 &&& levels ≠ 0)).map Prod.snd)

/-- The sources of the flags that change (TOP_MODE_ORIGIN): device, GPIO, else as noted. -/
def originOf (o tent dev gpio changed : Nat) : Nat :=
  (maskBits 8 changed).foldl (fun o n =>
    putBits o (3 * n + 2) (3 * n) (if bitAt dev n then 5 else if bitAt gpio n then 4 else bitsOf tent (3 * n + 2) (3 * n))) o

/-- The requests due at the close that opens `p` are merged (R58): the effective mode. [DEDUCED: log 25] -/
def State.mergeModes (s : State) (p : Nat) : State × BitVec 8 :=
  let (s, sm) := s.gather 1 (s.srcMask F.TOP_MODE_SRC_SCHED) (s.schedule p)
  let reqs := (s.lock.streamReqs.filter (fun r => r.pound = p)).map (fun r => (r.set.toNat, r.clr.toNat))
  let (s, tm) := s.gather 2 (s.srcMask F.TOP_MODE_SRC_STREAM) reqs
  let (s, levels) := s.gpioLevels
  let soft0 := (s.led.shadow.word R.TOP_MODE).toNat &&& 0xFF
  let mt := s.lock.touched.toNat
  let soft1 := applyMasks soft0 mt sm
  let soft := applyMasks soft1 mt tm
  let force := s.cset.forced levels
  let iset := s.lock.iset.toNat
  let iclr := s.lock.iclr.toNat
  let eff := without (soft ||| force) iclr ||| iset
  let tent := setOrigin (setOrigin s.lock.originTent (soft0 ^^^ soft1) 1) (soft1 ^^^ soft) 2
  let origin := originOf (s.rd F.TOP_MODE_ORIGIN_ORIGIN) tent (iset ||| iclr) (force ||| s.lock.forceMask.toNat) (eff ^^^ s.mode.toNat)
  let word := (s.led.shadow.word R.TOP_MODE).toNat
  let shadow := s.led.shadow.setWord R.TOP_MODE (BitVec.ofNat 32 (putBits word 7 0 (without soft iclr ||| iset)))
  let s := { s with led := { s.led with shadow := shadow },
                    lock := { s.lock with touched := 0#8, forceMask := BitVec.ofNat 8 force, originTent := tent, originNew := origin,
                                          streamReqs := s.lock.streamReqs.filter (fun r => r.pound ≠ p) } }
  ((s.wr F.TOP_MODE_GPIO_IN_FORCE force).wr F.TOP_MODE_GPIO_IN_LEVEL levels, BitVec.ofNat 8 eff)

/-- FAULT_L is released at a close unless loopback training has failed and the weir has not opened since (R102 step 14, R124), or a fault
after boot holds it (R45, R77). [DEDUCED: log 22] -/
def State.faultRelease (s : State) : State :=
  { s with pwr := { s.pwr with fault := s.pwr.fault && (s.ring.loopBad || s.pwr.faultHeld) } }

/-- Step 1: the cycle begins (R34). -/
def State.closeStart (s : State) : State :=
  let s := s.when (!s.lock.everOpened) (fun s => s.wr F.IMG_BOOT_TIME_MS s.bootMs)
  let s := s.faultRelease
  { s with basin := { s.basin with closeFree := s.basin.free },
           lock := { s.lock with phase := .level, closeAt := s.dev, lead := s.cm F.TOP_LOCK_TIME_LEAD,
                                 window := s.cm F.TOP_LOCK_TIME_WINDOW, stagedBy := [], sent := [], got := 0, veto := 0,
                                 vetoFirst := 0, lastNs := 0, missDue := false } }

/-- The ladder of the panel owner, and its word to the follower (R248, R249, R399). -/
def State.ladderAt (s : State) (p : Nat) : State :=
  if ¬ s.ownsBy s.cset then s
  else
    let old := s.comp.gov
    let oldR := s.comp.rungReq
    let s := s.ladder p
    if s.paired ∧ (s.comp.rungReq ≠ oldR ∨ s.comp.gov ≠ old) then
      (s.sendDelta 2 s.comp.gov (beBytes 1 s.comp.rungReq ++ beBytes 3 0 ++ beBytes 4 s.comp.gov)).2
    else s

/-- The deadlines that the close is (R21, R22, R175, R279, R398). [DEDUCED: log 27] -/
def State.deadlines (s : State) (p : Nat) : State :=
  let prev := poundSub p 1
  ((((s.markReady prev).tugLate prev).retryCards).showDecLoad prev).sendSeal p

/-- Device requests of the pair at the close (R59, R407): the latest request of a flag stands, but that a HOLD set and not yet
applied is kept. [DEDUCED: log 25] -/
def LockSt.device (l : LockSt) (set clr : BitVec 8) : LockSt :=
  { l with iset := (l.iset &&& ~~~(clr &&& 0x7F#8)) ||| set, iclr := (l.iclr &&& ~~~set) ||| clr }

/-- The powered blocks that hold RWS fields (R39). -/
def State.wantMask (s : State) : Nat := maskOf ((List.range 20).filter (fun b => blockHasRws b && s.blockUp b))

/-- Step 1: the shadow set is frozen with the effective mode, the rung due and the ownership (R31, R58, R59, R248). -/
def State.freeze (s : State) (p : Nat) (mode : BitVec 8) (own : Bool) : State :=
  let old := s.cset
  let rung := if s.comp.rungDue && !laterPound s.comp.gov p then s.comp.rungReq else old.rung
  let c : CSet := { regs := s.led.shadow, mode := mode, rung := rung, own := own }
  { s with lock := { s.lock with frozen := c, changed := decide (c ≠ old), want := s.wantMask } }

/-- The close of the lock cycle that opens the next pound (R34 step 1). -/
def State.lockClose (s : State) : State :=
  if ¬ s.lock.running ∨ s.lock.phase ≠ .idle then s
  else
    let p := s.lock.nextPound
    let s := s.closeStart
    let s := (s.frameLate).ladderAt p
    let (s, m) := s.pairClose p
    let s := { s with lock := s.lock.device m.set m.clr }
    let s := s.joinMerge p
    let s := (s.deadlines p).mergeScene p
    let (s, mode) := s.mergeModes p
    s.freeze p (s.joinMode p mode) m.own

/-- The words that block `b` stages of a candidate set, and their CRC-16 (R36). [DEDUCED: log 122] -/
def CSet.stagedCrc (c : CSet) (b : Nat) : Nat := (crc16 (wordsLe ((stagedAddrs b).map c.stagedWord))).toNat

/-- What block `b` vetoes (R37): its own part; PWR also the ranges of the powered-down blocks, as those blocks' own vetoes. [DEDUCED: log 15] -/
def State.blockViols (s : State) (b : Nat) : List Viol :=
  s.viols s.lock.frozen b true
    ++ (if b = bPWR then ((List.range 20).filter (fun k => blockHasRws k && !s.blockUp k)).flatMap (fun k => s.viols s.lock.frozen k false) else [])

/-- The level report of block `b` (R36, R37). [DEDUCED: log 21] -/
def State.levelReport (s : State) (b : Nat) : LevelReport :=
  let v := s.blockViols b
  { block := b, veto := maskOf (v.map Viol.block), first := firstVetoed s.cset s.lock.frozen v, crc := s.lock.frozen.stagedCrc b }

/-- An instance can stage its values (R36): it is powered and has its banks; a decoder core has ended its chunk. [DEDUCED: log 66] -/
def State.canStage (s : State) (block inst : Nat) : Bool :=
  (s.lock.phase == Phase.level || s.lock.missDue) && bitAt s.lock.want block && decide (inst < instCount block) && s.unitUp block inst
    && !(unitOf s.units block inst).reload && !s.lock.stagedBy.contains (block, inst)
    && (block != bDEC || (s.dec.cores.getD inst none).isNone)

/-- An instance stages; the block reports once every powered instance has (R36). -/
def State.levelStage (s : State) (block inst : Nat) : State :=
  if ¬ s.canStage block inst then s
  else
    let by_ := (block, inst) :: s.lock.stagedBy
    let full := (s.upInsts block).all (fun i => by_.contains (block, i))
    { s with lock := { s.lock with stagedBy := by_, sent := if full then s.lock.sent ++ [s.levelReport block] else s.lock.sent } }

/-- The first miss begins a recovery path, a later one in a row is its next action (R47 to R49). [DEDUCED: log 29] -/
def State.noteMiss (s : State) (fresh : Bool) : State := if fresh then s.noteFault 0x001 else s.recoveryOf 0x001

/-- Consecutive misses of each block, and the forced resets due (R45). [DEDUCED: log 20] -/
def State.countMisses (s : State) (miss : Nat) : State :=
  let l := (List.range 20).map (fun b => if bitAt miss b then s.lock.misses.getD b 0 + 1 else 0)
  let late (b : Nat) : List Nat :=
    let out := (s.upInsts b).filter (fun i => !s.lock.stagedBy.contains (b, i))
    if out.isEmpty then s.upInsts b else out
  let due := ((List.range 20).filter (fun b => decide (4 ≤ l.getD b 0))).map (fun b => (b, late b))
  { s with lock := { s.lock with misses := l, forceDue := due } }

/-- The set is rejected (R38): the frozen values leave the shadow. -/
def State.rejectSet (s : State) (veto : Nat) : State :=
  let f := s.lock.frozen
  let crc := (crc32c (wordsLe f.words)).toNat
  let s := { s with led := s.led.discard }
  if veto ≠ 0 then
    let s := ((s.wr F.TOP_LEVEL_VETO_VETO veto).raise 0x002 bTOP veto s.lock.vetoFirst).raise 0x003 bTOP 2 crc
    let s := s.inc F.TOP_REJECT_CNT_VETOED
    if bitAt veto bSCAN ∧ f.rowsOver then s.raise 0xC00 bSCAN f.totalRows f.maxRows else s
  else (s.raise 0x003 bTOP 1 crc).inc F.TOP_REJECT_CNT_EXHAUSTED

/-- The outcome of a lock cycle (R38). -/
def outcomeOf (changed : Bool) (veto miss retry retries : Nat) : LockOutcome :=
  if ¬ changed then .nochange
  else if veto ≠ 0 then .rejected
  else if miss = 0 then .applied
  else if retry < retries then .retry
  else .rejected

/-- Blocks of `miss` have missed level (R45). [DEDUCED: log 20] -/
def State.takeMisses (s : State) (miss : Nat) : State :=
  let fresh := s.lock.misses.all (· == 0)
  (s.when (miss != 0) (fun s => s.noteMiss fresh)).countMisses miss

/-- The end of WINDOW in a lock cycle that a veto decided before it (R45): the blocks that neither reported nor vetoed have missed. [DEDUCED: log 20] -/
def State.lateMisses (s : State) : State :=
  if ¬ s.lock.missDue then s
  else
    let miss := maskOf ((maskBits 20 s.lock.want).filter (fun b => !bitAt s.lock.got b && !bitAt s.lock.veto b))
    let s := { s with lock := { s.lock with missDue := false } }
    (s.wr F.TOP_LEVEL_MISS_MISS miss).takeMisses miss

/-- Step 3: the lock-keeper decides; `expired` where WINDOW has elapsed (R34, R38, R45). A veto decides before the end of WINDOW, at
which the misses are counted. [DEDUCED: log 19, 20] -/
def State.lockDecide (s : State) (expired : Bool) : State :=
  let veto := s.lock.veto
  let miss := if expired ∧ veto = 0 then maskOf ((maskBits 20 s.lock.want).filter (fun b => !bitAt s.lock.got b)) else 0
  let out := outcomeOf s.lock.changed veto miss s.lock.retry (s.cm F.TOP_LOCK_RETRY_RETRIES)
  let retry := if out = .retry then s.lock.retry + 1 else 0
  let last := if expired ∧ veto = 0 then 0xFFFFFF else min s.lock.lastNs 0xFFFFFE
  let s := ((s.wr F.TOP_LEVEL_MISS_MISS miss).wr F.TOP_LEVEL_TIME_LAST_NS last).peak F.TOP_LEVEL_PEAK_PEAK_NS last
  let s := { s with lock := { s.lock with outcome := out, retry := retry, apply := out == LockOutcome.applied } }
  let s := if miss ≠ 0 ∧ (out = .retry ∨ out = .nochange) then s.raise 0x001 bTOP miss retry else s
  let s := if out = .rejected then s.rejectSet veto else s
  if ¬ expired ∧ veto ≠ 0 then { s with lock := { s.lock with missDue := true } } else s.takeMisses miss

/-- A level report reaches the lock-keeper; `flip` is what the crossing did to its CRC. Whether the cycle is then decided. [DEDUCED: log 21] -/
def State.takeReport (s : State) (block flip : Nat) : State × Bool :=
  match s.lock.sent.find? (fun r => r.block == block) with
  | none => (s, false)
  | some r =>
    let s := { s with lock := { s.lock with sent := s.lock.sent.filter (fun x => x.block ≠ block) } }
    if s.lock.phase ≠ .level ∧ ¬ s.lock.missDue then (s, false)
    else if s.lock.phase ≠ .level then
      -- decided by a veto already: the report only counts against a miss
      let ok : Bool := r.veto != 0 || r.crc ^^^ (flip % 65536) == s.lock.frozen.stagedCrc block
      (if ok then { s with lock := { s.lock with got := orBit s.lock.got block } } else s, false)
    else if r.veto ≠ 0 then
      let first := if s.lock.veto = 0 then r.first else min r.first s.lock.vetoFirst
      ({ s with lock := { s.lock with veto := s.lock.veto ||| r.veto, vetoFirst := first } }, true)
    else if r.crc ^^^ (flip % 65536) = s.lock.frozen.stagedCrc block then
      let got := orBit s.lock.got block
      ({ s with lock := { s.lock with got := got, lastNs := (s.dev - s.lock.closeAt) / 65536 } }, decide (got = s.lock.want))
    else (s, false)

/-- A forced reset of a block that missed four times (R45); FAULT_L for TOP, TIME, BASIN and RING. [DEDUCED: log 22, 23] -/
def State.forcedReset (s : State) (block : Nat) : State :=
  match s.lock.forceDue.find? (fun e => e.1 == block) with
  | none => s
  | some (_, insts) =>
    let n := s.lock.misses.getD block 0
    let s := { s with lock := { s.lock with forceDue := s.lock.forceDue.filter (fun e => e.1 ≠ block) } }
    if block = bTOP ∨ block = bTIME ∨ block = bBASIN ∨ block = bRING then
      s.faultLow
    else
      let s := (s.raiseI 0x005 bTOP (if insts.length = 1 then insts.getD 0 0xFF else 0xFF) block n).wr F.TOP_STATUS_FORCED 1
      let s := { s with lock := { s.lock with misses := modAt s.lock.misses block (fun _ => 0) } }
      let s := s.recoveryOf 0x001
      let s := s.when (block = bCOMP) (fun s => s.loseBlocks insts)
      s.each insts (fun s i =>
        let s := s.startReload block i
        if block = bDEC then s.coreReset i else if block = bSCAN then s.quarterReset else if block = bLZ then s.lzReset else s)

/-- A unit acts on the commit token of the open pound and acknowledges (R34 step 5, R39). -/
def State.commitToken (s : State) (block inst : Nat) : State :=
  if s.lock.phase ≠ .opened ∨ ¬ s.lock.await.contains (block, inst) then s
  else
    let s := { s with lock := { s.lock with await := s.lock.await.filter (· ≠ (block, inst)) } }
    s.modUnit block inst (fun u => { u with acted := some s.pound })

/-- Step 6: every powered unit has acknowledged; the hold queue drains and the cycle ends (R34, R40); moorings freed at the open can be
allocated (R278). -/
def State.cycleEnd (s : State) : State :=
  if s.lock.phase ≠ .opened ∨ s.lock.await.any (fun u => s.unitUp u.1 u.2) then s
  else
    let s := s.drainHold
    { s with lock := { s.lock with phase := .idle, await := [] }, basin := s.basin.settle }

/-- Banks that a unit of a block holds (R33). [DEDUCED: log 18] -/
def bankCount (block : Nat) : Nat := if block = bCOMP ∨ block = bTUG then 2 else if block = bSCAN then 3 else 1

/-- A unit takes the barge at the head of its crossing (R43). -/
def State.bargeTake (s : State) (block inst : Nat) : State := if block = bDEC then s.bargeDec inst else s.bargeAt block inst (bankCount block)

end Sys2Proof.Machine
end

