-- ==== Sys2Proof/Machine/Hk.lean ====
section
/-! DEFINITION. The housekeeping round: readings, estimates, sensor failures, warning, throttling and thermal shutdown (R429 to
R442). Temperatures are in 1/16 °C. -/

namespace Sys2Proof.Machine

/-- The housekeeping island runs: in operation and through a warm reset (R72, R80, R442). [DEDUCED: log 97] -/
def State.hkOn (s : State) : Bool := s.running || !s.pwr.cold

/-- The thermal model table (R433). [DEDUCED: log 42] -/
def State.thermModel (s : State) : Option (List Byte) := s.table 7 0

/-- A signed 16-bit field of the table. -/
def therm16 (t : List Byte) (off : Nat) : Int := signed 16 (leAt t off 2)

/-- Last reading and used value of a sensor. -/
def State.hkRead (s : State) (i : Nat) : Int := signed 16 (s.rd (F.HK_TEMPn_READ i))
def State.hkUsed (s : State) (i : Nat) : Int := signed 16 (s.rd (F.HK_TEMPn_USED i))

/-- A sensor has failed. -/
def State.hkFailed (s : State) (i : Nat) : Bool := bitAt (s.rd F.HK_SENS_STAT_FAILED) i

/-- The two-point correction of R430 by the codes in force: mV of a code. [DEDUCED: log 41] -/
def State.hkMv (s : State) (code : Int) : Nat :=
  let (tc, t0) : Int × Int := match s.thermModel with | some t => (therm16 t 4, therm16 t 6) | none => (0, 0)
  let vref := 1000000 + Int.tdiv (tc * (s.hkUsed 0 - t0)) 256
  natOf (Int.tdiv ((code - s.hk.zero) * vref) (((s.hk.refc : Int) - s.hk.zero) * 1000))

/-- The result of channel `c`. -/
def State.hkChan (s : State) (c : Nat) (v : Nat) : State := if 7 ≤ c ∧ c ≤ 30 then s.wr (F.HK_CHANc_VALUE c) (satN 65535 v) else s

/-- A reading within −40 °C to 150 °C (R431). [DEDUCED: log 37] -/
def tempInRange (t : Int) : Bool := decide (-640 ≤ t) && decide (t ≤ 2400)

/-- A sensor fails (R434): cause 1 its range, 2 the cross-check. While throttling or recovering, raises are held for 500 rounds
(R441). [DEDUCED: log 37, 39] -/
def State.failSensor (s : State) (i cause : Nat) : State :=
  if s.hkFailed i then s
  else
    let s := (s.wr F.HK_SENS_STAT_FAILED (orBit (s.rd F.HK_SENS_STAT_FAILED) i)).raiseI 0x203 bHK i i cause
    let s := { s with hk := { s.hk with sinceFail := 0, goods := modAt s.hk.goods i (fun _ => 0), downs := modAt s.hk.downs i (fun _ => 0) } }
    if s.rd F.HK_STATUS_STATE = 0 then s
    else State.wr { s with hk := { s.hk with noraise := 500 } } F.HK_STATUS_NORAISE 1

/-- A slot of the round measures its channel (R429); a diode out of range fails its sensor at once (R431). -/
def State.hkSlot (s : State) (slot : Nat) (v : Int) : State :=
  if slot ≤ 6 then
    let s := s.wr (F.HK_TEMPn_READ slot) (unsigned 16 v)
    if tempInRange (s.hkRead slot) then s else s.failSensor slot 1
  else if slot ≤ 24 then s.hkChan slot (s.hkMv v)
  else if slot = 25 then (s.hkChan 25 (unsigned 16 v)).vrefSense v
  else if slot = 26 then (if s.crackRuns then (s.hkChan 26 (b2n (v != 0))).crackSample (v != 0) else s)
  else if slot = 27 then (s.hkChan 27 (s.hkMv v)).vholdSense (s.hkMv v)
  else if slot = 28 then (s.hkChan 28 (s.hkMv v)).vinSense (s.hkMv v)
  else if slot = 29 then State.hkChan { s with hk := { s.hk with zeroNew := natOf v } } 29 (natOf v)
  else if slot = 30 then State.hkChan { s with hk := { s.hk with refNew := natOf v } } 30 (natOf v)
  else s

/-- A sensor that is out of range, or at its third miss, fails (R431, R434). [DEDUCED: log 37] -/
def State.sensorFail (s : State) (i : Nat) : State :=
  if 7 ≤ i then s
  else if ¬ tempInRange (s.hkRead i) then s.failSensor i 1
  else if 3 ≤ s.hk.misses.getD i 0 then s.failSensor i 2
  else s

/-- The estimate of sensor `i` (R432) from `u`. -/
def estimateOf (t : List Byte) (ndom : Nat) (u : List Int) (i : Nat) : Int :=
  let b := 8 + 20 * i
  let sum := (((List.range 7).filter (· ≠ i)).map (fun j => therm16 t (b + 4 + 2 * j) * u.getD j 0)).foldl (· + ·) 0
  therm16 t b + sar (sum + 2048) 12 + sar (therm16 t (b + 2) * ndom + 128) 8

/-- What the estimates are formed from (R432): the reading of a healthy sensor, the used value of the round before of a failed one. -/
def State.estInputs (s : State) : List Int := (List.range 7).map (fun j => if s.hkFailed j then s.hkUsed j else s.hkRead j)

/-- The estimates of the round; none without a table. -/
def State.estimates (s : State) : Option (List Int) :=
  s.thermModel.map (fun t => (List.range 7).map (estimateOf t (popCount domCount s.pwr.up) s.estInputs))

/-- The healthy sensor that is furthest beyond DEV from its estimate, the lower on a tie (R434). -/
def State.worstSensor (s : State) (est : List Int) : Option Nat :=
  let dev : Int := s.cm F.HK_SENS_DEV * 16
  let d (i : Nat) : Nat := (s.hkRead i - est.getD i 0).natAbs
  ((List.range 7).filter (fun i => !s.hkFailed i && decide (dev < d i))).foldl (fun (b : Option Nat) i =>
    match b with
    | none => some i
    | some k => if d k < d i then some i else some k) none

/-- The cross-check of the round (R434). -/
def State.crossCheck (s : State) : State :=
  match s.estimates with
  | none => { s with hk := { s.hk with misses := List.replicate 7 0 } }
  | some est =>
    if s.cm F.HK_SENS_XCHK = 0 then { s with hk := { s.hk with misses := List.replicate 7 0 } }
    else
      let w := s.worstSensor est
      let s := { s with hk := { s.hk with misses := (List.range 7).map (fun i => if w = some i then s.hk.misses.getD i 0 + 1 else 0) } }
      match w with
      | some i => if 3 ≤ s.hk.misses.getD i 0 then s.failSensor i 2 else s
      | none => s

/-- The largest of a list of integers. -/
def maxI : List Int → Option Int
  | [] => none
  | a :: r => match maxI r with | none => some a | some b => some (if a < b then b else a)

/-- The used values of the round (R435). -/
def State.usedValues (s : State) (est : Option (List Int)) : List Int :=
  let hottest := maxI (((List.range 7).filter (fun i => !s.hkFailed i)).map s.hkRead)
  (List.range 7).map (fun i =>
    if ¬ s.hkFailed i then s.hkRead i
    else
      match est, hottest with
      | some e, _ => e.getD i 0 + 128
      | none, some h => h + 128
      | none, none => s.hkUsed i)

/-- A failed sensor's round (R435): good where it is in range and, with a table, within DEV of its estimate. [DEDUCED: log 38] -/
def State.goodRound (s : State) (est : Option (List Int)) (i : Nat) : Bool :=
  tempInRange (s.hkRead i) &&
    (match est with | some e => decide ((s.hkRead i - e.getD i 0).natAbs ≤ s.cm F.HK_SENS_DEV * 16) | none => true)

/-- Rounds that failed sensors have been good, and failed (R435). -/
def State.countGoods (s : State) (est : Option (List Int)) : State :=
  { s with hk := { s.hk with
      goods := (List.range 7).map (fun i => if s.hkFailed i && s.goodRound est i then min 500 (s.hk.goods.getD i 0 + 1) else 0),
      downs := (List.range 7).map (fun i => if s.hkFailed i then satN 0xFFFFFFFF (s.hk.downs.getD i 0 + 1) else 0) } }

/-- A sensor is restored after 500 good rounds (R435). [DEDUCED: log 38] -/
def State.sensorRestore (s : State) (i : Nat) : State :=
  if 7 ≤ i ∨ ¬ s.hkFailed i ∨ s.hk.goods.getD i 0 < 500 then s
  else
    let n := s.hk.downs.getD i 0
    let s := (s.wr F.HK_SENS_STAT_FAILED (clearBit (s.rd F.HK_SENS_STAT_FAILED) i)).raiseI 0x204 bHK i i n
    { s with hk := { s.hk with goods := modAt s.hk.goods i (fun _ => 0), downs := modAt s.hk.downs i (fun _ => 0) } }

/-- The estimates and misses shown. -/
def State.showEst (s : State) (est : Option (List Int)) : State :=
  s.each (List.range 7) (fun s i =>
    let e : Int := match est with | some l => l.getD i 0 | none => 0
    (s.wr (F.HK_ESTn_EST i) (unsigned 16 e)).wr (F.HK_ESTn_MISSES i) (s.hk.misses.getD i 0))

/-- The hottest sensor (R436): none where every sensor has failed (R437). -/
def hotOf (failed : Nat) (used : List Int) : Option (Nat × Int) :=
  if popCount 7 failed = 7 then none
  else
    (List.range 7).foldl (fun (b : Option (Nat × Int)) i =>
      let u := used.getD i 0
      match b with
      | none => some (i, u)
      | some (k, v) => if v < u then some (i, u) else some (k, v)) none

/-- Too many sensors have failed, or enough are restored (R437); the cap then rises by the steps of R439. [DEDUCED: log 40] -/
def State.exhaustion (s : State) : State :=
  let failed := s.rd F.HK_SENS_STAT_FAILED
  let many := decide (s.cm F.HK_SENS_MAX_FAIL < popCount 7 failed)
  let was := s.rd F.HK_STATUS_EXHAUSTED == 1
  let s := s.wr F.HK_STATUS_EXHAUSTED (b2n many)
  let s := if many ∧ ¬ was then s.raise 0x207 bHK failed (s.cm F.HK_SENS_MAX_FAIL) else s
  if many then s.wr F.HK_CAP_CAP 40
  else if was ∧ s.rd F.HK_STATUS_STATE = 0 then s.wr F.HK_STATUS_STATE 2
  else s

/-- The warning level (R438). -/
def State.warnLevel (s : State) (hot : Int) : State :=
  let hi : Int := s.cm F.HK_THR_A_WARN * 16
  let lo : Int := hi - s.cm F.HK_THR_A_WARN_HYST * 16
  let was := s.rd F.HK_STATUS_WARN
  let now := if hi ≤ hot then 1 else if hot < lo then 0 else was
  if now = was then s else (s.wr F.HK_STATUS_WARN now).raise 0x200 bHK now (unsigned 32 hot)

/-- One step of the cap (R439). -/
def State.capStep (s : State) (cap : Nat) (hot : Int) (up : Bool) : State :=
  let s := { s with hk := { s.hk with r := 0 } }
  let s := (s.wr F.HK_CAP_CAP cap).raise 0x201 bHK cap (unsigned 32 hot)
  if up then s.inc F.HK_THROT_CNT_UP else s.inc F.HK_THROT_CNT_DOWN

/-- The state becomes throttle; a sensor that failed within the last second holds raises (R441). -/
def State.enterThrottle (s : State) : State :=
  if s.rd F.HK_STATUS_STATE = 1 then s
  else
    let s := s.wr F.HK_STATUS_STATE 1
    if s.hk.sinceFail < 500 then
      State.wr { s with hk := { s.hk with noraise := max s.hk.noraise (500 - s.hk.sinceFail) } } F.HK_STATUS_NORAISE 1
    else s

/-- Throttling at an evaluation (R439, R441); under R437 the cap stays at 40 W. [DEDUCED: log 40] -/
def State.throttle (s : State) (hot : Int) : State :=
  let mx := s.cm F.HK_CAP_MAX
  let thr : Int := s.cm F.HK_THR_A_THROT * 16
  let low : Int := thr - s.cm F.HK_THR_A_THROT_HYST * 16
  let s := if mx < s.rd F.HK_CAP_CAP then s.wr F.HK_CAP_CAP mx else s
  let s := if thr ≤ hot then s.enterThrottle else s
  let cap := s.rd F.HK_CAP_CAP
  let held := s.rd F.HK_STATUS_EXHAUSTED == 1
  if s.rd F.HK_STATUS_STATE = 1 then
    if thr ≤ hot ∧ 25 ≤ s.hk.r then
      (if 40 < cap then (s.wr F.HK_STATUS_SAT 0).capStep (cap - 8) hot false else s.wr F.HK_STATUS_SAT 1)
    else if hot < low then s.wr F.HK_STATUS_STATE 2
    else s
  else if s.rd F.HK_STATUS_STATE = 2 then
    if hot < low ∧ 25 ≤ s.hk.r ∧ s.rd F.HK_STATUS_NORAISE = 0 ∧ ¬ held then
      let s := (s.wr F.HK_STATUS_SAT 0).capStep (min (cap + 8) mx) hot true
      if mx ≤ cap + 8 then s.wr F.HK_STATUS_STATE 0 else s
    else s
  else s

/-- hot reaches SHUT (R442): event 0x202 and a warm reset; in the reset the rounds below SHUT − SHUT_HYST are counted. -/
def State.shutdown (s : State) (sensor : Nat) (hot : Int) : State :=
  let hi : Int := s.cm F.HK_THR_B_SHUT * 16
  let lo : Int := hi - s.cm F.HK_THR_B_SHUT_HYST * 16
  if s.pwr.phase = .awaitCool then
    { s with hk := { s.hk with cool := if hot < lo then min 8 (s.hk.cool + 1) else 0 } }
  else if hi ≤ hot ∧ s.running then
    let s := (s.raiseI 0x202 bHK sensor sensor (unsigned 32 hot)).inc F.HK_SHUT_CNT_COUNT
    State.thermalReset { s with hk := { s.hk with cool := 0 } }
  else s

/-- The correction of the next round (R430): kept where the codes are bad, event 0x206. [DEDUCED: log 41] -/
def State.adoptRef (s : State) : State :=
  let z := s.hk.zeroNew
  let r := s.hk.refNew
  if 64 < z ∨ 2731 < ((r : Int) - 2731).natAbs * 50 then s.raiseOnce 0x206 bHK 0 z r
  else { s with hk := { s.hk with zero := z, refc := r } }

/-- Event 0x205 once at boot. [DEDUCED: log 42] -/
def State.modelAbsent (s : State) : State :=
  if s.hk.told ∨ s.img.load ≠ .loaded then s
  else
    let s := { s with hk := { s.hk with told := true } }
    if s.cm F.HK_SENS_XCHK = 1 ∧ s.thermModel.isNone then s.raise 0x205 bHK 0 s.pound else s

/-- THERM_L and the limits shown (R438, R440); a raised limit queues power-ups at once. -/
def State.thermOut (s : State) (before : Nat) : State :=
  let cap := s.rd F.HK_CAP_CAP
  let (cl, de) := capLimits cap
  let t := s.rd F.HK_STATUS_WARN == 1 || s.rd F.HK_STATUS_STATE != 0 || s.rd F.HK_STATUS_EXHAUSTED == 1
  let s := { s with pwr := { s.pwr with therm := t } }
  let s := (s.wr F.HK_STATUS_CLUSTERS cl).wr F.HK_STATUS_DECODERS de
  if before < cap ∧ s.lock.everOpened then s.domainsNeed else s

/-- The users of the temperatures (R147, R268, R344, R340). -/
def State.thermUsers (s : State) (status : List Byte) : State :=
  let s := s.each (List.range 4) (fun s k => s.updateRefresh k (s.hkUsed (3 + k)))
  let s := s.updateFf ((s.table 2 0).getD []) (s.hkUsed 0)
  (s.roundStatus status).panelTry

/-- Sensors and used values of the round (R431 to R436): the hottest. -/
def State.hkTemps (s : State) : State × Option (Nat × Int) :=
  let s := { s with hk := { s.hk with r := min 255 (s.hk.r + 1) } }
  let s := s.each (List.range 7) (fun s i => if tempInRange (s.hkRead i) then s else s.failSensor i 1)
  let s := s.crossCheck
  let est := s.estimates
  let used := s.usedValues est
  let s := (s.countGoods est).showEst est
  let s := s.each (List.range 7) (fun s i => s.wr (F.HK_TEMPn_USED i) (unsigned 16 (used.getD i 0)))
  (s, hotOf (s.rd F.HK_SENS_STAT_FAILED) used)

/-- Slot 31 evaluates the round (R429 to R442). -/
def State.hkEvaluate (s : State) (status : List Byte) : State :=
  let cap := s.rd F.HK_CAP_CAP
  let s := s.modelAbsent
  let (s, hot) := s.hkTemps
  let s := s.adoptRef
  let s := s.thermUsers status
  let s := s.exhaustion
  let s := match hot with
    | none => s
    | some (i, h) =>
      let s := (s.wr F.HK_HOT_HOT (unsigned 16 h)).wr F.HK_SENS_STAT_HOTTEST i
      ((s.warnLevel h).throttle h)
  let s := { s with hk := { s.hk with noraise := s.hk.noraise - 1, sinceFail := min 1000 (s.hk.sinceFail + 1) } }
  let s := s.thermOut cap
  match hot with
  | some (i, h) => s.shutdown i h
  | none => s

/-- 500 rounds after the failure, raises are allowed again (R441). [DEDUCED: log 39] -/
def State.noraiseEnd (s : State) : State := if s.hk.noraise = 0 then s.wr F.HK_STATUS_NORAISE 0 else s

/-- The device leaves a thermal shutdown (R442): cap 40 W, state recover, r 0; the boot follows. -/
def State.thermalExit (s : State) : State :=
  if s.pwr.phase ≠ .awaitCool ∨ s.hk.cool < 8 then s
  else
    let s := (s.wr F.HK_CAP_CAP 40).wr F.HK_STATUS_STATE 2
    let s := { s with hk := { s.hk with r := 0, cool := 0 }, pwr := { s.pwr with phase := if s.pwr.rails then .awaitRails else .exitDue, rails := false } }
    s.thermOut 120

end Sys2Proof.Machine
end

