-- ==== Sys2Proof/Machine/Manage.lean ====
section
/-! DEFINITION. Management messages, sessions, subscriptions, the event ring, alerts, the I2C target and the NVM log (R443 to R459). -/

namespace Sys2Proof.Machine

/-- The 32 bytes of an event record (R444). -/
def EvRec.bytes (r : EvRec) : List Byte :=
  let b := leBytes 4 r.pound ++ leBytes 6 r.sec ++ leBytes 4 r.ns ++ leBytes 2 (r.code % 4096) ++ leBytes 1 r.block ++ leBytes 1 r.inst
    ++ leBytes 2 r.rseq ++ leBytes 4 r.arg0 ++ leBytes 4 r.arg1 ++ leBytes 2 (b2n r.gap)
  b ++ leBytes 2 (crc16 b).toNat

/-- A management request (R447, R448): its datagram, payload, header fields, body and TAG. -/
structure MgmtReq where
  src    : Nat
  sport  : Nat
  mac    : Nat
  seq    : Nat
  pay    : List Byte
  op     : Nat
  status : Nat
  sid    : Nat
  target : Nat
  blen   : Nat
  mseq   : Nat
  deriving DecidableEq, Repr

/-- The request of a datagram (R448). -/
def mgmtReq (d : Datagram) : MgmtReq :=
  let p := d.data.drop 16
  { mac := d.mac, src := d.src, sport := d.sport, seq := beAt d.data 8 4, pay := p, op := beAt p 0 1, status := beAt p 1 1, sid := beAt p 2 2,
    target := beAt p 4 6, blen := beAt p 10 2, mseq := beAt p 12 4 }

/-- Its header and body. -/
def MgmtReq.signed (q : MgmtReq) : List Byte := q.pay.take (16 + q.blen)

/-- Its body. -/
def MgmtReq.body (q : MgmtReq) : List Byte := slice q.pay 16 q.blen

/-- Its TAG. -/
def MgmtReq.tag (q : MgmtReq) : List Byte := slice q.pay (16 + q.blen) 16

/-- The TAG of a message (R450). -/
def mgmtTag (sk m : List Byte) : List Byte := (hmac384 sk m).take 16

/-- A message to the session's address with its header, body and TAG (R447, R448), in a Pliash packet of CHAN 0. -/
def mgmtPacket (seq op status sid target mseq : Nat) (sk body : List Byte) : List Byte :=
  let m := beBytes 1 op ++ beBytes 1 status ++ beBytes 2 sid ++ beBytes 6 target ++ beBytes 2 body.length ++ beBytes 4 mseq ++ body
  let pay := m ++ mgmtTag sk m
  let h := beBytes 1 1 ++ beBytes 1 4 ++ beBytes 1 6 ++ beBytes 1 0 ++ beBytes 2 0 ++ beBytes 2 pay.length ++ beBytes 4 seq
  h ++ beBytes 4 (crc32c h).toNat ++ pay

/-- Send a datagram of class 2 on both ports (R120, R122, R447) to the MAC address that the request came from. [DESIGN CHOICE: log 58] -/
def State.mgmtSend (s : State) (mac addr port : Nat) (d : List Byte) : State := s.sendUdp (LFrame.of s.clk.now 2 0 []) mac addr port d

/-- The answer to a request (R447, R448, R452); a non-zero STATUS counts as refused. -/
def State.mgmtAnswer (s : State) (q : MgmtReq) (sid : Nat) (sk : List Byte) (status : Nat) (body : List Byte) : State :=
  let s := if status = 0 then s else s.inc F.TOP_MGMT_CNT_REFUSED
  s.mgmtSend q.mac q.src q.sport (mgmtPacket q.seq 0x81 status sid q.target q.mseq sk body)

/-- A failed check: event 0x021 and no answer (R449, R450). -/
def State.authFail (s : State) (cause mseq : Nat) : State :=
  (s.inc F.TOP_MGMT_CNT_REFUSED).raiseOnce 0x021 bTOP cause cause mseq

/-- The slot of a session. -/
def MgmtSt.slotOf (m : MgmtSt) (sid : Nat) : Option (Nat × Session) :=
  (List.range 4).findSome? (fun i => match m.sessions.getD i none with
    | some x => if x.sid = sid then some (i, x) else none
    | none => none)

/-- Change a session slot. -/
def State.setSession (s : State) (i : Nat) (x : Option Session) : State :=
  { s with mgmt := { s.mgmt with sessions := modAt s.mgmt.sessions i (fun _ => x) } }

/-- The slot a new session takes (R449): a free one, else the one least recently used. [DEDUCED: log 117] -/
def MgmtSt.newSlot (m : MgmtSt) : Nat :=
  match (List.range 4).find? (fun i => (m.sessions.getD i none).isNone) with
  | some i => i
  | none =>
    let use (i : Nat) : Nat := match m.sessions.getD i none with | some x => x.lastUse | none => 0
    (List.range 4).foldl (fun b i => if use i < use b then i else b) 0

/-- The first failing step of R449, 0 where every step passes. -/
def State.sessionCheck (s : State) (q : MgmtReq) : Nat :=
  let pub := slice q.body 96 96
  if ¬ s.hashSet R.TOP_MGMT_HASH ∨ sha384 (4#8 :: pub) ≠ s.hashBytes R.TOP_MGMT_HASH then 1
  else if q.blen ≠ 288 ∨ q.body.length ≠ 288 ∨ ¬ ecdsaOk pub (q.pay.take 208) (slice q.body 192 96) then 2
  else if ¬ laterPound q.mseq (s.rd F.TOP_MGMT_SSEQ_MSEQ) then 3
  else if ¬ onCurve (q.body.take 96) then 4
  else 0

/-- The session key (R449). -/
def State.sessionKey (s : State) (q : MgmtReq) : List Byte :=
  sha384 (beBytes 4 2 ++ ecdhX s.img.otp.devKey (q.body.take 96) ++ beBytes 6 q.target ++ beBytes 4 q.mseq)

/-- A session opens (R449). [DEDUCED: log 117] -/
def State.sessionOpen (s : State) (q : MgmtReq) : State :=
  let sk := s.sessionKey q
  let sid := if s.mgmt.lastSid = 65535 then 1 else s.mgmt.lastSid + 1
  let i := s.mgmt.newSlot
  let s := (s.wr F.TOP_MGMT_SSEQ_MSEQ q.mseq).inc F.TOP_MGMT_CNT_ACCEPTED
  let s := match s.mgmt.sessions.getD i none with | some x => s.raise 0x020 bTOP x.sid 3 | none => s
  let s := s.raise 0x020 bTOP sid 1
  let x : Session := { sid := sid, mac := q.mac, sk := sk, winEnd := q.mseq, winMask := 1, lastUse := s.clk.now, addr := q.src, port := q.sport,
                       mask := 0, buf := [], bufAt := 0 }
  let s := State.setSession { s with mgmt := { s.mgmt with lastSid := sid } } i (some x)
  s.mgmtAnswer q sid sk 0 (beBytes 2 sid)

/-- A SESSION request (R449). -/
def State.sessionReq (s : State) (q : MgmtReq) : State :=
  if s.sessionCheck q = 0 then s.sessionOpen q else s.authFail (s.sessionCheck q) q.mseq

/-- The first queued request with operation `op`, and the queue without it: messages whose OP names no request are dropped. [DEDUCED: log 116] -/
def takeReq (op : Nat) : List Datagram → Option (MgmtReq × List Datagram)
  | [] => none
  | d :: r =>
    if (mgmtReq d).op = op then some (mgmtReq d, r)
    else
      match takeReq op r with
      | some (q, l) => some (q, if 1 ≤ (mgmtReq d).op ∧ (mgmtReq d).op ≤ 5 then d :: l else l)
      | none => none

/-- The replay window (R450): none where the MSEQ is older than the window or already received. -/
def Session.accept (x : Session) (mseq : Nat) : Option Session :=
  if laterPound mseq x.winEnd then
    let d := poundSub mseq x.winEnd
    some { x with winEnd := mseq, winMask := if 64 ≤ d then 1 else (x.winMask * 2 ^ d + 1) % 2 ^ 64 }
  else
    let d := poundSub x.winEnd mseq
    if 64 ≤ d ∨ bitAt x.winMask d then none else some { x with winMask := orBit x.winMask d }

/-- A request of a live session (R450): `f` acts on it, in its slot. [DEDUCED: log 116] -/
def State.sessionDo (s : State) (q : MgmtReq) (f : State → Nat → Session → State) : State :=
  match s.mgmt.slotOf q.sid with
  | none => s.authFail 6 q.mseq
  | some (i, x) =>
    if q.tag.length < 16 ∨ q.tag ≠ mgmtTag x.sk q.signed then s.authFail 5 q.mseq
    else
      match x.accept q.mseq with
      | none => s
      | some x =>
        let x := { x with lastUse := s.clk.now }
        f ((s.setSession i (some x)).inc F.TOP_MGMT_CNT_ACCEPTED) i x

/-- Take the next request of an operation and act on it; one for another device is discarded (R448). [DEDUCED: log 116] -/
def State.mgmtTake (s : State) (op : Nat) (f : State → MgmtReq → State) : State :=
  match takeReq op s.ring.mgmt with
  | none => s
  | some (q, rest) =>
    let s := { s with ring := { s.ring with mgmt := rest } }
    if q.pay.length < 16 ∨ q.target ≠ s.mac then s else f s q

/-- The header of a request is as R448 and R452 ask, with a body of `n` bytes. -/
def MgmtReq.formed (q : MgmtReq) (n : Nat) : Bool :=
  q.status == 0 && decide (q.blen ≤ 8192) && q.blen == n && q.pay.length == 32 + n

/-- Words of a READ, up to the first address that holds no register (R451). -/
def State.readWords (s : State) : Nat → Nat → List Byte → State × List Byte × Bool
  | 0, _, acc => (s, acc, true)
  | n + 1, a, acc =>
    if hasReg a then
      let (w, s) := s.ringRead a
      s.readWords n (a + 4) (acc ++ beBytes 4 w.toNat)
    else (s, acc, false)

/-- A READ request (R451). -/
def State.readReq (s : State) (q : MgmtReq) : State :=
  s.sessionDo q (fun s _ x =>
    let b := q.body
    let a := beAt b 0 4
    let n := beAt b 4 2
    if ¬ q.formed 8 ∨ a % 4 ≠ 0 ∨ n = 0 ∨ 256 < n ∨ beAt b 6 2 ≠ 0 then s.mgmtAnswer q x.sid x.sk 5 []
    else
      let (s, d, all) := s.readWords n a []
      s.mgmtAnswer q x.sid x.sk (if all then 0 else 2) d)

/-- The pairs of a WRITE body. -/
def writePairs (b : List Byte) (n : Nat) : List (Nat × Word) :=
  (List.range n).map (fun i => (beAt b (4 + 8 * i) 4, BitVec.ofNat 32 (beAt b (8 + 8 * i) 4)))

/-- Why a pair fails, as a STATUS (R11, R13, R452); 0 where it passes. -/
def State.pairStatus (s : State) (p : Nat × Word) : Nat :=
  if p.1 % 4 ≠ 0 then 5 else if ¬ hasReg p.1 then 2 else if (s.img.manifestMask p.1).isNone then 3 else 0

/-- The first failing pair: its index, address and STATUS. [DEDUCED: log 118] -/
def State.firstBad (s : State) : Nat → List (Nat × Word) → Option (Nat × Nat × Nat)
  | _, [] => none
  | i, p :: r => if s.pairStatus p = 0 then s.firstBad (i + 1) r else some (i, p.1, s.pairStatus p)

/-- The pairs applied in order (R451), or the index and event of the first that is refused busy. [DEDUCED: log 118] -/
def State.applyPairs (s : State) : Nat → List (Nat × Word) → State ⊕ (Nat × (Nat × Nat × Nat))
  | _, [] => .inl s
  | i, p :: r =>
    let mask := (s.img.manifestMask p.1).getD 0
    match s.writeBusy p.1 p.2 mask with
    | some e => .inr (i, e)
    | none => (s.ledgerWrite p.1 p.2 mask).applyPairs (i + 1) r

/-- A WRITE request (R451): all pairs or none. [DEDUCED: log 118] -/
def State.writeReq (s : State) (q : MgmtReq) : State :=
  s.sessionDo q (fun s _ x =>
    let b := q.body
    let n := beAt b 0 2
    if ¬ q.formed (4 + 8 * n) ∨ n = 0 ∨ 64 < n ∨ beAt b 2 2 ≠ 0 then s.mgmtAnswer q x.sid x.sk 5 []
    else
      let ps := writePairs b n
      match s.firstBad 0 ps with
      | some (i, a, st) =>
        let s := if st = 3 then s.raise 0x022 bTOP a x.sid else s
        s.mgmtAnswer q x.sid x.sk st (beBytes 2 i)
      | none =>
        match s.applyPairs 0 ps with
        | .inl s1 => if s1.running then s1.mgmtAnswer q x.sid x.sk 0 [] else s1
        | .inr (i, e) => (s.busyEvent e).mgmtAnswer q x.sid x.sk 4 (beBytes 2 i))

/-- A SUBSCRIBE request (R453). -/
def State.subscribeReq (s : State) (q : MgmtReq) : State :=
  s.sessionDo q (fun s i x =>
    let m := beAt q.body 0 4
    if ¬ q.formed 4 ∨ 2 ^ 20 ≤ m then s.mgmtAnswer q x.sid x.sk 5 []
    else
      let x := { x with mask := m, buf := if m = 0 then [] else x.buf }
      (s.setSession i (some x)).mgmtAnswer q x.sid x.sk 0 [])

/-- The body a LOG answer carries (R454), or none where SRC is neither 0 nor 1. -/
def State.logBytes (s : State) (src count pos : Nat) : Option (List Byte) :=
  if src = 0 then
    let rs := s.evt.ring.dropWhile (fun r => !(r.rseq == pos % 65536 || laterMod 16 r.rseq pos))
    some ((rs.take (min count 40)).flatMap EvRec.bytes)
  else if src = 1 then
    let area := logSectors s.img.size * 0x10000
    some (flashBytes s.img.flash (logBase + pos) (min (min count 1024) (area - pos)))
  else none

/-- A LOG request (R454). -/
def State.logReq (s : State) (q : MgmtReq) : State :=
  s.sessionDo q (fun s _ x =>
    let b := q.body
    if ¬ q.formed 8 ∨ beAt b 1 1 ≠ 0 then s.mgmtAnswer q x.sid x.sk 5 []
    else
      match s.logBytes (beAt b 0 1) (beAt b 2 2) (beAt b 4 4) with
      | some d => s.mgmtAnswer q x.sid x.sk 0 d
      | none => s.mgmtAnswer q x.sid x.sk 5 [])

/-- The next LOG request reads flash while an NVM operation is in progress: it waits behind it (R454). -/
def State.logWaits (s : State) : Bool :=
  match takeReq 5 s.ring.mgmt with
  | some (q, _) => s.img.job.isSome && beAt q.body 0 1 == 1
  | none => false

/-- MGMT_LOG: the next LOG request. -/
def State.mgmtLog (s : State) : State := if s.logWaits then s else s.mgmtTake 5 State.logReq

/-- An EVENTS message leaves (R453): up to 40 records in RSEQ order. [DEDUCED: log 117] -/
def State.eventsSend (s : State) (i : Nat) : State :=
  match s.mgmt.sessions.getD i none with
  | none => s
  | some x =>
    if x.buf = [] then s
    else
      let (seq, s) := s.chooseNat
      let (mseq, s) := s.chooseNat
      let d := mgmtPacket (seq % 2 ^ 32) 0x82 0 x.sid s.mac (mseq % 2 ^ 32) x.sk ((x.buf.take 40).flatMap EvRec.bytes)
      let s := s.setSession i (some { x with buf := x.buf.drop 40, bufAt := s.clk.now })
      s.mgmtSend x.mac x.addr x.port d

/-- A session that has seen no valid request for IDLE_S seconds ends (R449). [DEDUCED: log 117] -/
def State.sessionExpire (s : State) (i : Nat) : State :=
  match s.mgmt.sessions.getD i none with
  | none => s
  | some x =>
    if s.clk.now < x.lastUse + s.cm F.TOP_MGMT_CFG_IDLE_S * 1000000000 then s
    else (s.setSession i none).raise 0x020 bTOP x.sid 2

/-- The next record the path accepts into the ring: the older of the pending head and the ninth slot (R445). [DEDUCED: log 24] -/
def EvtSt.next (e : EvtSt) : Option (EvRec × EvtSt) :=
  match e.pending, e.ninth with
  | [], none => none
  | [], some n => some (n, { e with ninth := none })
  | r :: l, none => some (r, { e with pending := l })
  | r :: l, some n =>
    if laterMod 16 r.rseq n.rseq then some (n, { e with ninth := none }) else some (r, { e with pending := l })

/-- A subscribed session takes a record (R453). -/
def Session.note (x : Session) (now : Nat) (r : EvRec) : Session :=
  if bitAt x.mask r.block then { x with buf := x.buf ++ [r], bufAt := if x.buf = [] then now else x.bufAt } else x

/-- Records lost to the log (R459). -/
def State.logLost (s : State) (n : Nat) : State :=
  if n = 0 then s
  else
    let s := s.add F.TOP_LOG_CNT_LOST n
    { s with mgmt := { s.mgmt with lostPound := s.mgmt.lostPound + n } }

/-- A record is selected for the log (R459). -/
def State.logSelects (s : State) (r : EvRec) : Bool := s.cm F.TOP_LOG_CFG_EN == 1 && bitAt (s.cm F.TOP_LOG_CFG_MASK) r.block

/-- EVENT_ACCEPT: a pending record enters the ring, the subscriptions and the log's backlog (R445, R453, R459). -/
def State.eventAccept (s : State) : State :=
  match s.evt.next with
  | none => s
  | some (r, e) =>
    let old := (e.ring ++ [r]).take (e.ring.length + 1 - 1024)
    let lost := s.mgmt.unlogged.filter (fun u => old.contains u.1)
    let keep := s.mgmt.unlogged.filter (fun u => !old.contains u.1)
    let s := { s with evt := { e with ring := lastN 1024 (e.ring ++ [r]) } }
    let s := { s with mgmt := { s.mgmt with unlogged := if s.logSelects r then keep ++ [(r, s.clk.now)] else keep,
                                            sessions := s.mgmt.sessions.map (Option.map (fun (x : Session) => x.note s.clk.now r)) } }
    s.logLost lost.length

/-- MGMT_ALERT_L is asserted (R455). [DESIGN CHOICE: log 120] -/
def State.alertLow (s : State) : Bool :=
  decide ((s.rdW R.TOP_ALERT).toNat &&& s.cm F.TOP_ALERT_MASK_MASK ≠ 0) && !s.mgmt.answered

/-- The I2C address (R456). -/
def State.i2cAddr (s : State) : Nat := 0x54 + 2 * b2n s.pwr.straps.addr1 + b2n s.pwr.straps.addr0

/-- ALERT_RESPONSE (R455): the address is returned and the line deasserted; nothing answers while the line is not asserted. [DESIGN CHOICE: log 120] -/
def State.alertResponse (s : State) : State :=
  if s.alertLow then { s with mgmt := { s.mgmt with answered := true, i2cOut := [BitVec.ofNat 8 s.i2cAddr] } }
  else { s with mgmt := { s.mgmt with i2cOut := [] } }

/-- I2C_POINTER_WRITE (R456). -/
def State.i2cPointerWrite (s : State) (d : List Byte) : State :=
  if d.length = 3 ∧ be d % 4 = 0 then { s with mgmt := { s.mgmt with i2cPtr := be d, i2cNack := false } }
  else { s with mgmt := { s.mgmt with i2cNack := true } }

/-- Blocks that no domain switches off and that stay out of a warm reset (R72): PWR, HK and IMG; panel care runs in the housekeeping
island too. [DEDUCED: log 119] -/
def islandBlock (b : Nat) : Bool := b == bPWR || b == bHK || b == bIMG || b == bPNL

/-- A block answers the I2C target (R456, R457). [DEDUCED: log 119] -/
def State.i2cReads (s : State) (a : Nat) : Bool :=
  let b := a / 0x10000
  if s.img.load = .imageFail ∧ b = bIMG then true
  else bitAt (s.cm F.TOP_I2C_BLOCKS) b && (islandBlock b || s.running) && (domainsOf b 0 == [] || s.blockUp b)

/-- A word the I2C target returns (R456): zeros for a block it does not read and where there is no register. -/
def State.i2cWord (s : State) (a : Nat) : Word × State :=
  if s.i2cReads a ∧ hasReg a then s.i2cReadWord a else (0#32, s)

/-- `n` bytes from the pointer, which advances after each word (R456). [DEDUCED: log 119] -/
def State.i2cBytes (s : State) : Nat → List Byte → State × List Byte
  | 0, acc => (s, acc)
  | n + 1, acc =>
    let (w, s) := s.i2cWord s.mgmt.i2cPtr
    State.i2cBytes { s with mgmt := { s.mgmt with i2cPtr := (s.mgmt.i2cPtr + 4) % 2 ^ 24 } } n (acc ++ leBytes 4 w.toNat)

/-- I2C_READ of `n` bytes (R456): whole words, and the first bytes of a further one. [DEDUCED: log 119] -/
def State.i2cRead (s : State) (n : Nat) : State :=
  let (s, d) := s.i2cBytes (n / 4) []
  let (s, d) :=
    if n % 4 = 0 then (s, d)
    else
      let (w, s) := s.i2cWord s.mgmt.i2cPtr
      (s, d ++ leBytes (n % 4) w.toNat)
  { s with mgmt := { s.mgmt with i2cOut := d } }

/-- A log job is due (R459): enough unlogged records, or the oldest is old enough; braces and resets hold it. -/
def State.logDue (s : State) : Bool :=
  s.cm F.TOP_LOG_CFG_EN == 1 && s.mgmt.unlogged ≠ [] && s.mgmt.logJob == [] && s.pwr.brace.isNone
    && (decide (s.cm F.LZ_CTRL_LOG_KIB * 32 ≤ s.mgmt.unlogged.length)
        || s.mgmt.unlogged.head?.any (fun u => decide (u.2 + s.cm F.TOP_LOG_CFG_FLUSH_S * 1000000000 ≤ s.clk.now)))

/-- LOG_FLUSH (R420, R459): a job of the compression engine over the unlogged records. [DEDUCED: log 52] -/
def State.logFlush (s : State) : State :=
  if ¬ s.logDue then s
  else
    let rs := s.mgmt.unlogged.take 2048
    let src := rs.flatMap (fun u => u.1.bytes)
    let blk := s.cm F.LZ_CTRL_LOG_KIB * 1024
    match s.lzSubmit (lzNew 2 false blk (src.length + 16 * ceilDiv src.length (max 1 blk)) (.log ((rs.head?.map (fun u => u.1.rseq)).getD 0) rs.length)) src with
    | (true, s) => { s with mgmt := { s.mgmt with unlogged := s.mgmt.unlogged.drop 2048, logJob := rs } }
    | (false, s) => s

/-- The bytes of a log block (R458). -/
def logBlock (first count : Nat) (d : List Byte) : List Byte :=
  let pad := d ++ List.replicate ((16 - d.length % 16) % 16) 0#8
  let h := leBytes 4 0x4B4C4752 ++ leBytes 4 pad.length ++ leBytes 2 first ++ leBytes 2 count
  h ++ leBytes 4 (crc32c h).toNat ++ pad

/-- The engine has encoded a log block (R427, R458): it is queued for the flash. An abandoned job's records are lost to the log; after
any other stop they wait again. -/
def State.logEncoded (s : State) (first count status : Nat) (d : List Byte) : State :=
  if status = lzDONE then
    let (j, i, off) := s.logJobOf first count (logBlock first count d) none
    State.nvmQueue { s with mgmt := { s.mgmt with logSector := some i, logOff := off } } j
  else if status = lzABANDONED then
    State.logLost { s with mgmt := { s.mgmt with logJob := [] } } s.mgmt.logJob.length
  else { s with mgmt := { s.mgmt with unlogged := s.mgmt.logJob ++ s.mgmt.unlogged, logJob := [] } }

end Sys2Proof.Machine
end

