-- ==== Sys2Proof/Machine/Open.lean ====
section
/-! DEFINITION. The open of a lock cycle: the commit store, the pound number, and what each unit does at the open (R32, R34 step 4,
R39, and the rules that name the open). -/

namespace Sys2Proof.Machine

/-- The committed set is written into the inactive bank, then the index flips (R32). [DEDUCED: log 35] -/
def LedSt.commit (l : LedSt) (c : CSet) : LedSt :=
  if l.index then { l with bank0 := c, index := false } else { l with bank1 := c, index := true }

/-- A recovery window of R48 runs to the open of the second lock cycle after the last action. [DEDUCED: log 29] -/
def LockSt.countRecover (l : LockSt) : LockSt :=
  { l with recover := (l.recover.filter (fun r => r.busy || decide (1 < r.left))).map (fun r => if r.busy then r else { r with left := r.left - 1 }) }

/-- Every powered instance of the blocks that hold settings: they take the token (R34 step 5). -/
def State.tokenUnits (s : State) : List (Nat × Nat) :=
  ((List.range 20).filter blockHasRws).flatMap (fun b => (s.upInsts b).map (fun i => (b, i)))

/-- The candidate set is committed and counted, and the sources of its mode become visible (R32, R54). [DEDUCED: log 35] -/
def State.commitSet (s : State) : State :=
  (State.incWrap { s with led := s.led.commit s.lock.frozen } F.TOP_COMMIT_CNT_COUNT).wr F.TOP_MODE_ORIGIN_ORIGIN s.lock.originNew

/-- The candidate set is applied (R32, R38): the commit store flips, TOP_COMMIT_CNT counts, a rung that was due is taken. -/
def State.applySet (s : State) : State :=
  let s := s.commitSet
  { s with comp := { s.comp with rungDue := s.comp.rungDue && laterPound s.comp.gov s.lock.nextPound } }

/-- Device requests that the committed mode `m` meets end (R59). [DEDUCED: log 25] -/
def LockSt.meet (l : LockSt) (m : BitVec 8) : LockSt :=
  if l.outcome = .applied ∨ l.outcome = .nochange then { l with iset := l.iset &&& ~~~m, iclr := l.iclr &&& m } else l

/-- Pound `p` is open and the token goes out (R34 step 4, R39). [DEDUCED: log 18] -/
def LockSt.opens (l : LockSt) (p : Nat) (m : BitVec 8) (units : List (Nat × Nat)) (c : CSet) : LockSt :=
  LockSt.countRecover { l.meet m with phase := .opened, pound := p, everOpened := true, nextPound := poundAdd p 1, await := units,
                                      sets := ((p, c) :: l.sets).take 8 }

/-- The lock-keeper at the open (R32, R34, R38, R39, R59). -/
def State.openLock (s : State) (applied : Bool) : State :=
  let p := s.lock.nextPound
  let s := s.when applied State.applySet
  { s with lock := s.lock.opens p s.cset.mode s.tokenUnits s.cset, pwr := s.pwr.markPound p }

/-- Event 0x023 of the pound that ended, in the ninth slot; the limits "once per pound" begin anew (R445). [DEDUCED: log 24] -/
def State.dropReport (s : State) (about : Nat) : State :=
  let e := { s.evt with limited := [] }
  if e.dropPound = 0 ∨ e.ninth.isSome then { s with evt := e }
  else
    let r : EvRec :=
      { pound := s.lock.pound, sec := s.devSec, ns := s.devNs, code := 0x023, block := bTOP, inst := 0xFF, rseq := e.rseq,
        arg0 := satN 0xFFFFFFFF e.dropPound, arg1 := about, gap := e.gapNext }
    { s with evt := { e with ninth := some r, rseq := (e.rseq + 1) % 65536, gapNext := false, dropPound := 0 } }

/-- The OTP bits that RAISE and REVOKE of an image program (R100), each in an operation of its own: of the epoch bits 0 to 63, of the revoke
bits 64 to 67. -/
def ImgSt.otpOps (i : ImgSt) : List NvmOp :=
  let bits := (if i.hdr.raise then (List.range 64).filter (fun k => decide (i.otp.epoch ≤ k) && decide (k < i.hdr.epoch)) else [])
    ++ (if i.hdr.revoke then ((List.range i.hdr.keySlot).filter (fun k => !bitAt i.otp.revoked k)).map (fun k => 64 + k) else [])
  bits.map (fun k => { kind := 5, addr := k, data := [] })

/-- The OTP actions of the image at the first open (R100): the bits are programmed one by one by the NVM sequencer, which waits out a brace. [DEDUCED: log 36] -/
def State.otpAct (s : State) : State :=
  if ¬ s.img.otpDue then s
  else
    let s := { s with img := { s.img with otpDue := false } }
    if s.img.otpOps = [] then s else s.nvmQueue { who := .otp, ops := s.img.otpOps, retry := false, data := [] }

/-- Every context that holds something, or will once the cores have ended and the contexts have moved. -/
def State.allCtxs (s : State) : List Nat :=
  s.dec.ctxs.map Prod.fst ++ s.dec.cores.filterMap (Option.map (fun j => j.chunk.ctx)) ++ s.strm.late.flatMap (fun q => q.moves.map Prod.snd)

/-- HOLD commits at the open of `p` (R65, R186, R277, R290): every picture and surface has `p − 1` as its last pound, every context is
initialised. -/
def State.holdStart (s : State) (p : Nat) : State :=
  let u := poundSub p 1
  let s := s.each s.dec.pics (fun s q => { s with basin := s.basin.fixLast q.moor u })
  let s := { s with dec := { s.dec with
    pics := s.dec.pics.map (TilePic.fixed u), cores := s.dec.cores.map (Option.map (CoreJob.fixed u)) } }
  let s := (s.planCtx { gone := [], moves := [], clears := s.allCtxs }).ctxPlan
  let s := s.each s.tug.cards (fun s c => s.endCard c.slot c.layer u)
  let s := State.recoveryOf { s with comp := { s.comp with above := 0, below := 0 }, pair := { s.pair with rapped := [] } } 0xA03
  s.wr F.TOP_HOLD_STAT_WAITING 0

/-- HOLD ends at the open of `p` (R66). -/
def State.holdEnd (s : State) (p : Nat) : State :=
  let s := { s with comp := { s.comp with holdExit := (p :: s.comp.holdExit).take 8, reported := false } }
  (s.wr F.TOP_HOLD_STAT_WAITING 1).wr F.TOP_HOLD_STAT_WAITED 0

/-- A changed panel geometry (R206): the slots are emptied, event 0x800, and the pound draws nothing. -/
def State.newGeometry (s : State) (p : Nat) : State :=
  let c := s.cset
  let s := s.emptySlots p c.geom
  let s := s.raise 0x800 bCOMP (c.regs.word R.COMP_PANEL_HOG).toNat (c.regs.word R.COMP_PANEL_VIEW).toNat
  { s with comp := { s.comp with plans := s.comp.plans.map (fun q => if q.pound = p then { q with ents := [] } else q) } }

/-- The owner tells the follower the eyes of `p` (R399). [DEDUCED: log 28] -/
def State.sendEyes (s : State) (p : Nat) : State :=
  if ¬ s.owns then s else (s.sendDelta 1 p (eyeBytes (s.eyeSet (s.setOf p) p).eyes)).2

/-- Moorings whose time has come are freed, and the pictures in them are gone (R276); the corrections of the pound before are reported (R260). [DEDUCED: log 30, 86] -/
def State.openMoors (s : State) (p : Nat) : State :=
  let b := s.basin.openFree p
  let live (m : Nat) : Bool := match b.entry m with | some e => e.st == MoorState.held | none => false
  State.correctionReport { s with basin := b, dec := { s.dec with pics := s.dec.pics.filter (fun q => live q.moor) } }

/-- FORCE_BYPASS committed (R124); at the first open also where the image committed it and the weir stands open. The ring receivers adapt for the test run
(R322). -/
def State.bypassChange (s : State) (old : CSet) : State :=
  let was := old.fld F.RING_WEIR_FORCE_BYPASS
  let now := s.cm F.RING_WEIR_FORCE_BYPASS
  if was = now ∧ ¬ (now = 1 ∧ s.ring.weirOpen) then s
  else if now = 1 then ((State.weirTo { s with ring := { s.ring with training := none, retryFrom := none } } false 2).portRx 0).portRx 1
  else s.loopStart

/-- The bandwidth of each class in the pound that ended (R282), which the spec bounds only by the hardware: an open value each. [DESIGN CHOICE: log 78] -/
def State.bandwidths (s : State) : State :=
  { s with choices := s.choices + 7,
           led := { s.led with live := (List.range 7).foldl (fun m n => m.setFld (F.BASIN_BWn_GBS n) (Config.freeNat (s.choices + n))) s.led.live } }

/-- Records lost to the log in the pound that ended (R459). -/
def State.lostReport (s : State) (about : Nat) : State :=
  let n := s.mgmt.lostPound
  if n = 0 then s else State.raise { s with mgmt := { s.mgmt with lostPound := 0 } } 0x024 bTOP n about

/-- What is dropped of releases: those whose layer has begun again, and all but the newest that came by `p`. [DEDUCED: log 65] -/
def State.pruneReleased (s : State) (p : Nat) : State :=
  let l := s.strm.released
  let begun (r : Nat × Nat × Nat) : Bool :=
    s.dec.pics.any (fun q => q.slot == r.1 && q.layer == r.2.1 && !laterPound r.2.2 q.pound) || (s.tug.card r.1 r.2.1).isSome
  let older (r : Nat × Nat × Nat) : Bool := l.any (fun x => x.1 == r.1 && x.2.1 == r.2.1 && laterPound x.2.2 r.2.2 && !laterPound x.2.2 p)
  { s with strm := { s.strm with released := l.filter (fun r => !begun r && !older r) } }

/-- The open: the mode and the events that name it (R55, R100, R445). [DEDUCED: log 34] -/
def State.openReports (s : State) (old : CSet) (first : Bool) (prev : Nat) : State :=
  let p := s.lock.pound
  let s := s.dropReport (if first then p else prev)
  let s := if s.mode = old.mode then s
    else s.raise 0x009 bTOP (old.mode.toNat + 256 * s.mode.toNat) (s.rd F.TOP_MODE_ORIGIN_ORIGIN)
  let s := s.lostReport prev
  let s := s.ringPoundReports
  let s := if first then { s with img := { s.img with otpDue := s.img.hdr.raise || s.img.hdr.revoke } } else s
  (s.otpAct).clockStep p

/-- The open: what is composed, decoded and drawn from now on (R19, R65, R66, R206, R239, R274 to R277, R290). -/
def State.openScene (s : State) (old : CSet) (first : Bool) (prev : Nat) : State :=
  let p := s.lock.pound
  let now := s.cset
  let reg (a : Nat) : Bool := now.regs.word a != old.regs.word a
  let moved := reg R.COMP_PANEL_HOG || reg R.COMP_PANEL_VIEW
  -- no texel line of one pound's instances serves another (R220)
  let s : State := { s with comp := { s.comp with tcache := [] } }
  let s := s.when (!first) (fun s => (s.startCompose prev).sendEyes prev)
  let s := s.when moved (fun s => s.newGeometry p)
  let s := ((s.endReleased p).endCards p).ctxPlan
  let s := s.when (has now.mode mHOLD && (first || !has old.mode mHOLD)) (fun s => s.holdStart p)
  let s := s.when (has old.mode mHOLD && !has now.mode mHOLD) (fun s => s.holdEnd p)
  let s := s.when (has now.mode mTRACK && !has old.mode mTRACK) (fun s => { s with comp := { s.comp with reported := false } })
  let frames := first || now.geom != old.geom
  let taps := frames || now.fld F.COMP_TAP_EN != old.fld F.COMP_TAP_EN
  let s := s.when taps (fun s => s.reserveBufs now frames taps)
  (s.openMoors p).towRelease p

/-- The open: the units that act at it (R124, R291, R325, R338, R360, R379, R404, R407, R414). -/
def State.openUnits (s : State) (old : CSet) (first : Bool) : State :=
  let p := s.lock.pound
  let s := s.pairOpen p old.own
  let s := (s.tugOpen p).pruneReleased p
  let s := s.pruneStream p
  let s := (s.openTaps.bypassChange old).gensFollow
  let s := (s.checksFollow old).towCfg old
  let s := s.groupReports (if s.lock.sets.length ≤ 1 then [] else old.rxAddrs)
  let s := s.bandwidths
  let s := s.panelOpen
  let s := (s.camOpen old first p).encOpen old first p
  s.domainsNeed

/-- Steps 3 and 4: the pound opens (R34, R39). -/
def State.lockOpen (s : State) : State :=
  let old := s.cset
  let first := !s.lock.everOpened
  let prev := poundSub s.lock.nextPound 1
  let s := s.when (s.panelTrains || s.scan.start == 0) (fun s => s.txMark s.slotNow)
  let s := s.openLock s.lock.apply
  let s := s.openReports old first prev
  let s := s.openScene old first prev
  s.openUnits old first

/-- The lock-keeper decides and the pound opens (R34 steps 3 and 4). [DEDUCED: log 19] -/
def State.decideOpen (s : State) (expired : Bool) : State := (s.lockDecide expired).lockOpen

/-- A level report arrives (R36); the cycle may be decided by it. -/
def State.reportReceived (s : State) (block flip : Nat) : State :=
  let (s, done) := s.takeReport block flip
  if done then s.decideOpen false else s

/-- WINDOW has elapsed (R34 step 3). [DEDUCED: log 19] -/
def State.windowExpiry (s : State) : State := if s.lock.phase = .level then s.decideOpen true else s.lateMisses

end Sys2Proof.Machine
end

