-- ==== Sys2Proof/Machine/Live.lean ====
section
/-! DEFINITION. When a command acts: the clock reaches its instant, then its effect follows where the part that takes it runs (R69, R71,
R80, R457, R471). -/

namespace Sys2Proof.Machine

/-- The device is out of reset and not in manufacturing test. [DESIGN CHOICE: log 3] -/
def State.alive (s : State) : Bool := s.running && !s.pwr.straps.testEn

/-- The housekeeping island runs: out of a cold reset and not in manufacturing test (R80, R457, R471). [DESIGN CHOICE: log 3] -/
def State.island (s : State) : Bool := s.hkOn && !s.pwr.straps.testEn

/-- `s` at instant `t`, with effect `f` where `c` holds. -/
def State.at_ (s : State) (t : Nat) (c : State → Bool) (f : State → State) : State :=
  let u := s.tick t
  if c u then f u else u

/-- The outcome of a command of the running device. [DESIGN CHOICE: log 3, 4] -/
def State.live (s : State) (t : Nat) (f : State → State) : Host.Outcome State Fault Refusal := .next (s.at_ t State.alive f)

/-- The outcome of a command of the housekeeping island. [DESIGN CHOICE: log 3, 4] -/
def State.isle (s : State) (t : Nat) (f : State → State) : Host.Outcome State Fault Refusal := .next (s.at_ t State.island f)

/-- The outcome of a command that acts in every state of reset. [DESIGN CHOICE: log 3, 4] -/
def State.always (s : State) (t : Nat) (f : State → State) : Host.Outcome State Fault Refusal := .next (f (s.tick t))

/-- The outcome of a command that names a Basin address: no granule exists from 96 GB on (R28). [DESIGN CHOICE: log 13] -/
def State.liveAt (s : State) (t a : Nat) (f : State → State) : Host.Outcome State Fault Refusal :=
  if a < basinSize then s.live t f else .fault (.noSuchAddress a)

end Sys2Proof.Machine
end

