-- ==== Sys2Proof/Machine/CmdPair.lean ====
section
/-! DEFINITION. The commands of the redundant pair, the towpath and the compression engine (R390 to R428). -/

namespace Sys2Proof.Machine

/-- A job of the compression engine has ended: its user takes what it made (R420, R427). -/
def State.lzDeliver (s : State) (r : Option LzRec) : State :=
  match r with
  | none => s
  | some r =>
    match r.job.tag with
    | .delta _ _ => s.pairDeliver r
    | .log first count => s.logEncoded first count r.status r.out

/-- The engine takes a job (R423). -/
def State.lzTake (s : State) : State := (s.lzStart.1).lzDeliver s.lzStart.2

/-- A block boundary of the running job (R423). -/
def State.lzBlock (s : State) (fault : Nat) : State := ((s.lzBlockDone fault).1).lzDeliver (s.lzBlockDone fault).2

/-- HB_TICK (R397). -/
def execHbTick (t : Nat) (s : State) : Host.Outcome State Fault Refusal := s.live t State.hbTick

/-- HB_LOST (R48, R406). -/
def execHbLost (t : Nat) (s : State) : Host.Outcome State Fault Refusal := s.live t State.hbLost

/-- TOW_HB (R393 to R397, R412, R413). -/
def execTowHb (t : Nat) (m : TowMsg) (s : State) : Host.Outcome State Fault Refusal := s.live t (fun s => s.towHb m)

/-- TOW_SEAL (R404, R405). -/
def execTowSeal (t : Nat) (m : TowMsg) (s : State) : Host.Outcome State Fault Refusal := s.live t (fun s => s.towSeal m)

/-- DELTA_EYES (R250, R399). -/
def execDeltaEyes (t : Nat) (m : TowMsg) (s : State) : Host.Outcome State Fault Refusal := s.live t (fun s => s.deltaIn 1 m)

/-- DELTA_RUNG (R399). -/
def execDeltaRung (t : Nat) (m : TowMsg) (s : State) : Host.Outcome State Fault Refusal := s.live t (fun s => s.deltaIn 2 m)

/-- DELTA_SNAPSHOT (R399, R414). -/
def execDeltaSnapshot (t : Nat) (m : TowMsg) (s : State) : Host.Outcome State Fault Refusal := s.live t (fun s => s.deltaIn 3 m)

/-- DELTA_SURFACE (R399, R414). -/
def execDeltaSurface (t : Nat) (m : TowMsg) (s : State) : Host.Outcome State Fault Refusal := s.live t (fun s => s.deltaIn 4 m)

/-- REPAIR_WANT (R402). -/
def execRepairWant (t : Nat) (m : TowMsg) (s : State) : Host.Outcome State Fault Refusal := s.live t (fun s => s.repairWant m)

/-- REPAIR_HAVE (R402). -/
def execRepairHave (t : Nat) (m : TowMsg) (s : State) : Host.Outcome State Fault Refusal := s.live t (fun s => s.repairHave m)

/-- REPAIR_NONE (R400, R402). -/
def execRepairNone (t : Nat) (m : TowMsg) (s : State) : Host.Outcome State Fault Refusal := s.live t (fun s => s.repairNone m)

/-- REPAIR_WAIT_EXPIRY (R402). -/
def execRepairWaitExpiry (t grp chan k : Nat) (s : State) : Host.Outcome State Fault Refusal :=
  s.live t (fun s => s.repairExpiry grp chan k)

/-- TOW_MSG_LOST (R396). -/
def execTowMsgLost (t mseq : Nat) (s : State) : Host.Outcome State Fault Refusal := s.live t (fun s => s.msgLost mseq)

/-- TOW_TAKE (R407, R409). -/
def execTowTake (t : Nat) (m : TowMsg) (s : State) : Host.Outcome State Fault Refusal := s.live t (fun s => s.towTake m)

/-- TOW_YIELD (R410). -/
def execTowYield (t : Nat) (m : TowMsg) (s : State) : Host.Outcome State Fault Refusal := s.live t (fun s => s.towYield m)

/-- PARTNER_FAULT (R48, R406). -/
def execPartnerFault (t : Nat) (s : State) : Host.Outcome State Fault Refusal := s.live t State.partnerFault

/-- TOW_CMD_TAKE (R411): a write of TOW_CMD. -/
def execTowCmdTake (t : Nat) (value : Word) (s : State) : Host.Outcome State Fault Refusal := s.live t (fun s => s.cmdTake value.toNat)

/-- TOW_CMD_YIELD (R410): a write of TOW_CMD. -/
def execTowCmdYield (t : Nat) (value : Word) (s : State) : Host.Outcome State Fault Refusal := s.live t (fun s => s.cmdYield value.toNat)

/-- JOIN_WAIT_TIMEOUT (R412). -/
def execJoinWaitTimeout (t : Nat) (s : State) : Host.Outcome State Fault Refusal := s.live t State.joinTimeout

/-- PAIR_HB_IN_EDGE (R397). -/
def execPairHbInEdge (t : Nat) (s : State) : Host.Outcome State Fault Refusal := s.live t State.hbEdge

/-- LZ_JOB_START (R415, R420 to R425, R427). -/
def execLzJobStart (t : Nat) (s : State) : Host.Outcome State Fault Refusal := s.live t State.lzTake

/-- LZ_BLOCK_DONE (R416 to R427). -/
def execLzBlockDone (t fault : Nat) (s : State) : Host.Outcome State Fault Refusal := s.live t (fun s => s.lzBlock fault)

end Sys2Proof.Machine
end

