-- ==== Sys2Proof/Machine/CmdBasin.lean ====
section
/-! DEFINITION. The commands of the Basin and the tug (R260 to R294). -/

namespace Sys2Proof.Machine

/-- An uncorrectable read and what the encoder (item 0), a stereo pair of the locator (1 to 4), the towpath (5) or the compression engine (6 and up)
does when it was theirs (R272, R385, R422). The towpath reads packets for its answers and surfaces for its DELTAs: the surfaces that wait are not
sent, which the owner's resend makes good (R413). [DEDUCED: log 83] -/
def State.uncorrectableRead (s : State) (a reader item px : Nat) : State :=
  let s := s.uncorrectable a reader item px
  if reader ≠ 6 then s
  else if item = 0 then s.encStop 3
  else if item ≤ 4 then (s.glintAbandon (item - 1)).camSweep false
  else if item = 5 then s.modPair (fun p => { p with surfQ := [] })
  else s.lzBlock 1

/-- A corrected read with the wrong bytes `errs` (R259, R260): the granule is written back. -/
def State.readCorrected (s : State) (a : Nat) (errs : List (Nat × Nat)) : State :=
  let s := s.correctedRead a
  { s with basin := s.basin.writeBack a (eccOutcome errs).2 errs }

/-- BASIN_TRAIN_DONE (R102 step 10, R264, R266). -/
def execBasinTrainDone (t : Nat) (rs : List TrainRes) (s : State) : Host.Outcome State Fault Refusal :=
  s.live t (fun s => if s.training then (s.trainDone rs).bootTrained else s)

/-- BASIN_TRAIN_RETRY (R266). -/
def execBasinTrainRetry (t : Nat) (s : State) : Host.Outcome State Fault Refusal := s.live t State.trainRetry

/-- BASIN_EYE_TRACK (R267). -/
def execBasinEyeTrack (t : Nat) (moves : List (Nat × Nat × Int)) (s : State) : Host.Outcome State Fault Refusal :=
  s.live t (fun s => s.eyeTrack moves)

/-- BASIN_REFRESH (R268). -/
def execBasinRefresh (t stack : Nat) (s : State) : Host.Outcome State Fault Refusal := s.live t (fun s => s.refresh stack)

/-- SELF_REFRESH_ENTER (R65, R269). -/
def execSelfRefreshEnter (t : Nat) (s : State) : Host.Outcome State Fault Refusal := s.live t State.selfEnter

/-- SELF_REFRESH_EXIT_DONE (R66, R269). -/
def execSelfRefreshExitDone (t : Nat) (rs : List TrainRes) (s : State) : Host.Outcome State Fault Refusal :=
  s.live t (fun s => s.selfExitDone rs)

/-- SCRUB_GRANULE (R270). -/
def execScrubGranule (t : Nat) (errs : List (Nat × Nat)) (s : State) : Host.Outcome State Fault Refusal := s.live t (fun s => s.scrub errs)

/-- BASIN_CORRECTED_READ (R258 to R260): a read that finds wrong bytes; nothing but the counts of R258 happens where the code would not correct them. [DESIGN CHOICE: log 145] -/
def execBasinCorrectedRead (t : Nat) (r : BasinRead) (s : State) : Host.Outcome State Fault Refusal :=
  s.liveAt t r.addr (fun s =>
    let s := s.countRead r.addr r.retry r.onDie
    if (eccOutcome r.errs).1 = 1 then s.readCorrected r.addr r.errs else s)

/-- BASIN_UNCORRECTABLE_READ (R48, R245, R258, R259, R271, R272): a read that finds wrong bytes; nothing but the counts of R258 happens where the code would not
report them. [DEDUCED: log 83; DESIGN CHOICE: log 145] -/
def execBasinUncorrectableRead (t : Nat) (r : BasinRead) (reader item px : Nat) (s : State) : Host.Outcome State Fault Refusal :=
  s.liveAt t r.addr (fun s =>
    let s := s.countRead r.addr r.retry r.onDie
    if (eccOutcome r.errs).1 = 2 then s.uncorrectableRead r.addr reader item px else s)

/-- BASIN_FLUSH_DONE (R281). -/
def execBasinFlushDone (t source : Nat) (s : State) : Host.Outcome State Fault Refusal := s.live t (fun s => s.flushDone source)

/-- QUAR_CLEAR (R271): a write of BASIN_QUAR_CLR. -/
def execQuarClear (t : Nat) (value : Word) (s : State) : Host.Outcome State Fault Refusal := s.live t (fun s => s.quarClear value.toNat)

/-- TUG_UPDATE_START (R174, R282 to R291). -/
def execTugUpdateStart (t : Nat) (s : State) : Host.Outcome State Fault Refusal := s.live t State.tugStart

/-- TUG_UPDATE_DONE (R282 to R294). -/
def execTugUpdateDone (t n : Nat) (abort : Option Nat) (s : State) : Host.Outcome State Fault Refusal :=
  s.live t (fun s => s.tugDone n abort)

end Sys2Proof.Machine
end

