-- ==== Sys2Proof/Machine/CmdCapture.lean ====
section
/-! DEFINITION. The commands of the camera ports, the glint locator and the encoder (R354 to R389). -/

namespace Sys2Proof.Machine

/-- CSI_FRAME_START (R357, R361). -/
def execCsiFrameStart (t port : Nat) (hdr : List Byte) (lost : Option Nat) (s : State) : Host.Outcome State Fault Refusal :=
  s.live t (fun s => s.csiStart port hdr lost)

/-- CSI_LINE (R357, R362 to R364). -/
def execCsiLine (t port : Nat) (hdr : List Byte) (lost : Option Nat) (data : List Byte) (crc0 crc1 : Byte) (s : State) : Host.Outcome State Fault Refusal :=
  s.live t (fun s => s.csiLine port hdr lost data (le [crc0, crc1]))

/-- CSI_FRAME_END (R357, R366). -/
def execCsiFrameEnd (t port : Nat) (hdr : List Byte) (lost : Option Nat) (s : State) : Host.Outcome State Fault Refusal :=
  s.live t (fun s => s.csiEnd port hdr lost)

/-- PIPE_LINE_TAKE (R362 to R369). -/
def execPipeLineTake (t port : Nat) (s : State) : Host.Outcome State Fault Refusal := s.live t (fun s => s.lineTake port)

/-- CAM_SENSOR_START (R360). -/
def execCamSensorStart (t n : Nat) (s : State) : Host.Outcome State Fault Refusal := s.live t (fun s => s.sensorStart n)

/-- CCI_WRITE_DONE (R358 to R360). -/
def execCciWriteDone (t port : Nat) (ack : Bool) (s : State) : Host.Outcome State Fault Refusal := s.live t (fun s => s.cciDone port ack)

/-- CCI_DELAY_EXPIRY (R360). -/
def execCciDelayExpiry (t n : Nat) (s : State) : Host.Outcome State Fault Refusal := s.live t (fun s => s.cciDelay n)

/-- FSYNC_PULSE (R370). -/
def execFsyncPulse (t m p : Nat) (s : State) : Host.Outcome State Fault Refusal := s.live t (fun s => s.fsync m p)

/-- STROBE_PULSE (R371). -/
def execStrobePulse (t : Nat) (s : State) : Host.Outcome State Fault Refusal := s.live t State.strobePulse

/-- GLINT_PAIR (R250, R372 to R376). -/
def execGlintPair (t p : Nat) (s : State) : Host.Outcome State Fault Refusal := s.live t (fun s => s.glintPair p)

/-- ENC_PICTURE_START (R379 to R383). -/
def execEncPictureStart (t : Nat) (s : State) : Host.Outcome State Fault Refusal := s.live t State.encStart

/-- ENC_ROW_DONE (R384 to R387). -/
def execEncRowDone (t : Nat) (s : State) : Host.Outcome State Fault Refusal := s.live t State.encRow

/-- ENC_IDR (R378): a write of ENC_Sn_CMD. -/
def execEncIdr (t stream : Nat) (value : Word) (s : State) : Host.Outcome State Fault Refusal :=
  s.live t (fun s => s.encIdr stream value.toNat)

end Sys2Proof.Machine
end

