-- ==== Sys2Proof/Machine/CmdHouse.lean ====
section
/-! DEFINITION. The commands of housekeeping, management, the log, the I2C target and the JTAG port (R429 to R459, R472). -/

namespace Sys2Proof.Machine

/-- HK_SLOT (R345, R348, R429 to R433). -/
def execHkSlot (t slot : Nat) (v : Int) (s : State) : Host.Outcome State Fault Refusal := s.isle t (fun s => s.loading (fun s => s.hkSlot slot v))

/-- HK_EVALUATION (R79, R146, R147, R268, R434 to R442). -/
def execHkEvaluation (t : Nat) (status : List Byte) (s : State) : Host.Outcome State Fault Refusal :=
  s.isle t (fun s => s.loading (fun s => s.hkEvaluate status))

/-- SENSOR_FAIL (R434). -/
def execSensorFail (t sensor : Nat) (s : State) : Host.Outcome State Fault Refusal := s.isle t (fun s => s.loading (fun s => s.sensorFail sensor))

/-- SENSOR_RESTORE (R435). -/
def execSensorRestore (t sensor : Nat) (s : State) : Host.Outcome State Fault Refusal := s.isle t (fun s => s.loading (fun s => s.sensorRestore sensor))

/-- NORAISE_END (R441). -/
def execNoraiseEnd (t : Nat) (s : State) : Host.Outcome State Fault Refusal := s.isle t State.noraiseEnd

/-- THERMAL_RESET_EXIT (R79, R442). -/
def execThermalResetExit (t : Nat) (s : State) : Host.Outcome State Fault Refusal := s.always t State.thermalExit

/-- MGMT_SESSION (R447 to R449). -/
def execMgmtSession (t : Nat) (s : State) : Host.Outcome State Fault Refusal := s.live t (fun s => s.mgmtTake 1 State.sessionReq)

/-- MGMT_READ (R7, R9 to R12, R450 to R452). -/
def execMgmtRead (t : Nat) (s : State) : Host.Outcome State Fault Refusal := s.live t (fun s => s.mgmtTake 2 State.readReq)

/-- MGMT_WRITE (R7, R11, R13, R40, R98, R450 to R452). -/
def execMgmtWrite (t : Nat) (s : State) : Host.Outcome State Fault Refusal := s.live t (fun s => s.mgmtTake 3 State.writeReq)

/-- MGMT_SUBSCRIBE (R450, R453). -/
def execMgmtSubscribe (t : Nat) (s : State) : Host.Outcome State Fault Refusal := s.live t (fun s => s.mgmtTake 4 State.subscribeReq)

/-- MGMT_LOG (R450, R454). -/
def execMgmtLog (t : Nat) (s : State) : Host.Outcome State Fault Refusal := s.live t State.mgmtLog

/-- EVENTS_SEND (R453). -/
def execEventsSend (t slot : Nat) (s : State) : Host.Outcome State Fault Refusal := s.live t (fun s => s.eventsSend slot)

/-- SESSION_IDLE_EXPIRY (R449). -/
def execSessionIdleExpiry (t slot : Nat) (s : State) : Host.Outcome State Fault Refusal := s.live t (fun s => s.sessionExpire slot)

/-- EVENT_ACCEPT (R445, R446, R453, R459). -/
def execEventAccept (t : Nat) (s : State) : Host.Outcome State Fault Refusal := s.live t State.eventAccept

/-- ALERT_RESPONSE (R455). -/
def execAlertResponse (t : Nat) (s : State) : Host.Outcome State Fault Refusal := s.isle t State.alertResponse

/-- I2C_POINTER_WRITE (R456). -/
def execI2cPointerWrite (t : Nat) (data : List Byte) (s : State) : Host.Outcome State Fault Refusal :=
  s.isle t (fun s => s.i2cPointerWrite data)

/-- I2C_READ (R10 to R12, R456, R457). -/
def execI2cRead (t count : Nat) (s : State) : Host.Outcome State Fault Refusal := s.isle t (fun s => s.loading (fun s => s.i2cRead count))

/-- LOG_FLUSH (R108, R110, R420, R459). -/
def execLogFlush (t : Nat) (s : State) : Host.Outcome State Fault Refusal := s.live t State.logFlush

/-- JTAG_BYPASS (R472). -/
def execJtagBypass (t : Nat) (s : State) : Host.Outcome State Fault Refusal := s.always t State.jtagBypass

/-- JTAG_IDCODE (R472). -/
def execJtagIdcode (t : Nat) (s : State) : Host.Outcome State Fault Refusal := s.always t State.jtagIdcode

/-- JTAG_SAMPLE_PRELOAD (R472). -/
def execJtagSamplePreload (t : Nat) (pins preload : List Bool) (s : State) : Host.Outcome State Fault Refusal :=
  s.always t (fun s => s.jtagSample pins preload)

/-- JTAG_EXTEST (R472). -/
def execJtagExtest (t : Nat) (pins : List Bool) (s : State) : Host.Outcome State Fault Refusal :=
  s.always t (fun s => s.jtagTest .extest pins)

/-- JTAG_EXTEST_PULSE (R472). -/
def execJtagExtestPulse (t : Nat) (pins : List Bool) (s : State) : Host.Outcome State Fault Refusal :=
  s.always t (fun s => s.jtagTest .extestPulse pins)

/-- JTAG_EXTEST_TRAIN (R472). -/
def execJtagExtestTrain (t : Nat) (pins : List Bool) (s : State) : Host.Outcome State Fault Refusal :=
  s.always t (fun s => s.jtagTest .extestTrain pins)

/-- JTAG_CLAMP (R472): the bypass register is selected. -/
def execJtagClamp (t : Nat) (s : State) : Host.Outcome State Fault Refusal := s.always t (fun s => s.jtagTest .clamp [false])

/-- JTAG_HIGHZ (R472): the bypass register is selected. -/
def execJtagHighz (t : Nat) (s : State) : Host.Outcome State Fault Refusal := s.always t (fun s => s.jtagTest .highz [false])

/-- TRST_ASSERT (R79): the TAP is reset and nothing else. -/
def execTrstAssert (t : Nat) (s : State) : Host.Outcome State Fault Refusal := s.always t State.trstAssert

/-- TRST_DEASSERT (R79). -/
def execTrstDeassert (t : Nat) (s : State) : Host.Outcome State Fault Refusal := s.always t State.trstDeassert

end Sys2Proof.Machine
end

