-- ==== Sys2Proof/Machine/CmdImage.lean ====
section
/-! DEFINITION. The commands of the image loader, the update and the NVM sequencer (R87 to R110). -/

namespace Sys2Proof.Machine

/-- IMAGE_HEADER_READ (R78, R87, R92, R94, R102). -/
def execImageHeaderRead (t dqsFails : Nat) (s : State) : Host.Outcome State Fault Refusal := s.live t (fun s => s.headerRead dqsFails)

/-- IMAGE_FIRST_PASS_DONE (R2, R40, R92, R95, R96, R99, R100, R102). -/
def execImageFirstPassDone (t : Nat) (s : State) : Host.Outcome State Fault Refusal := s.live t State.firstPass

/-- IMAGE_SECOND_PASS_DONE (R80, R92, R94, R97, R98, R102, R103, R109, R124). -/
def execImageSecondPassDone (t : Nat) (same : Bool) (s : State) : Host.Outcome State Fault Refusal :=
  s.live t (fun s => s.secondPass same)

/-- BOOT_FREE_RUN_TIMEOUT (R102 step 12). -/
def execBootFreeRunTimeout (t : Nat) (s : State) : Host.Outcome State Fault Refusal := s.live t State.freeRunTimeout

/-- BOOT_FIRST_CLOSE_SET (R40, R102 step 14, R150, R412). -/
def execBootFirstCloseSet (t : Nat) (s : State) : Host.Outcome State Fault Refusal := s.live t State.firstCloseSet

/-- UPD_START (R104): START written to IMG_UPD_CTRL.CMD. [DEDUCED: log 14] -/
def execUpdStart (t : Nat) (s : State) : Host.Outcome State Fault Refusal := s.live t (fun s => s.updCmd 1)

/-- UPD_VERIFY (R104). -/
def execUpdVerify (t : Nat) (s : State) : Host.Outcome State Fault Refusal := s.live t (fun s => s.updCmd 2)

/-- UPD_COMMIT (R104 to R106). -/
def execUpdCommit (t : Nat) (s : State) : Host.Outcome State Fault Refusal := s.live t (fun s => s.updCmd 3)

/-- UPD_ABORT (R104). -/
def execUpdAbort (t : Nat) (s : State) : Host.Outcome State Fault Refusal := s.live t (fun s => s.updCmd 4)

/-- UPD_DATA (R104): a write in the IMG_UPD_DATA window. -/
def execUpdData (t : Nat) (value : Word) (s : State) : Host.Outcome State Fault Refusal := s.live t (fun s => s.updData value)

/-- UPD_LEN_WRITE (R104): a write of IMG_UPD_LEN. -/
def execUpdLenWrite (t : Nat) (value : Word) (s : State) : Host.Outcome State Fault Refusal :=
  s.live t (fun s => s.updLen value 0xFFFFFFFF)

/-- UPD_VERIFY_DONE (R104). -/
def execUpdVerifyDone (t : Nat) (readErr : Bool) (s : State) : Host.Outcome State Fault Refusal := s.live t (fun s => s.verifyDone readErr)

/-- CAL_SAVE (R109): a write of IMG_CAL_CTRL. -/
def execCalSave (t : Nat) (value : Word) (s : State) : Host.Outcome State Fault Refusal := s.live t (fun s => s.calSave value.toNat)

/-- NVM_OP_DONE (R81, R104, R106 to R110): a program that a reset let run on ends in any state. -/
def execNvmOpDone (t : Nat) (same : Bool) (s : State) : Host.Outcome State Fault Refusal := s.always t (fun s => (s.loading (fun s => s.nvmDone same)).flashFree)

/-- NVM_OP_TIMEOUT (R81, R107). -/
def execNvmOpTimeout (t : Nat) (s : State) : Host.Outcome State Fault Refusal := s.always t (fun s => (s.loading State.nvmTimeout).flashFree)

/-- ERASE_SUSPENDED (R108). -/
def execEraseSuspended (t : Nat) (s : State) : Host.Outcome State Fault Refusal := s.live t (fun s => s.loading State.nvmSuspended)

end Sys2Proof.Machine
end

