-- ==== Sys2Proof/Machine/CmdLock.lean ====
section
/-! DEFINITION. The commands of the ledger, the lock cycle and the mode flags (R7 to R58). -/

namespace Sys2Proof.Machine

/-- An input of GPIO_SAMPLE: the count of equal samples in a row. [DESIGN CHOICE: log 31] -/
def gpioRun (seen levels : Nat) (n i : Nat) : Nat := if bitAt seen i == bitAt levels i then satN 100 (n + 1) else 1

/-- The housekeeping island samples the GPIO inputs (R56); between a change and 20 ns after it a sample may see either level. [DESIGN CHOICE: log 31] -/
def State.gpioSample (s : State) (levels : Nat) : State :=
  let n := s.lock.gpioCount.mapIdx (fun i c => gpioRun s.lock.gpioSeen levels c i)
  { s with lock := { s.lock with gpioCount := n, gpioSeen := levels % 65536 } }

/-- An input whose level has stood for 100 samples and differs from the accepted one. [DESIGN CHOICE: log 31] -/
def LockSt.gpioDue (l : LockSt) (i : Nat) : Bool := decide (100 ≤ l.gpioCount.getD i 0) && bitAt l.gpioSeen i != bitAt l.gpioAcc i

/-- The island accepts the new levels (R56). -/
def State.gpioAccept (s : State) : State :=
  let due := (List.range 16).filter s.lock.gpioDue
  let l := s.lock
  let acc := due.foldl (fun a i => putBits a i i (b2n (bitAt l.gpioSeen i))) l.gpioAcc
  let prev := due.foldl (fun a i => putBits a i i (b2n (bitAt l.gpioAcc i))) l.gpioPrev
  let accAt := due.foldl (fun a i => modAt a i (fun _ => s.clk.now)) l.gpioAccAt
  { s with lock := { l with gpioAcc := acc, gpioPrev := prev, gpioAccAt := accAt } }

/-- REGISTER_WRITE (R7, R9, R11, R13, R40, R98). -/
def execRegisterWrite (t sid addr : Nat) (value : Word) (s : State) : Host.Outcome State Fault Refusal :=
  s.live t (fun s => s.registerWrite sid addr value)

/-- LOCK_CLOSE (R34 step 1, R58). -/
def execLockClose (t : Nat) (s : State) : Host.Outcome State Fault Refusal := s.live t State.lockClose

/-- LEVEL_STAGE (R34 step 2, R35 to R37). -/
def execLevelStage (t block inst : Nat) (s : State) : Host.Outcome State Fault Refusal := s.live t (fun s => s.levelStage block inst)

/-- LEVEL_REPORT_RECEIVED (R34 steps 3 and 4, R36, R38). -/
def execLevelReportReceived (t block crcFlip : Nat) (s : State) : Host.Outcome State Fault Refusal :=
  s.live t (fun s => s.reportReceived block crcFlip)

/-- LEVEL_WINDOW_EXPIRY (R34 steps 3 and 4, R38, R45). -/
def execLevelWindowExpiry (t : Nat) (s : State) : Host.Outcome State Fault Refusal := s.live t State.windowExpiry

/-- COMMIT_TOKEN (R34 step 5, R39). -/
def execCommitToken (t block inst : Nat) (s : State) : Host.Outcome State Fault Refusal := s.live t (fun s => s.commitToken block inst)

/-- LOCK_CYCLE_END (R34 step 6, R40). -/
def execLockCycleEnd (t : Nat) (s : State) : Host.Outcome State Fault Refusal := s.live t State.cycleEnd

/-- FORCED_UNIT_RESET (R45). -/
def execForcedUnitReset (t block : Nat) (s : State) : Host.Outcome State Fault Refusal := s.live t (fun s => s.forcedReset block)

/-- UNIT_RELOAD (R44). -/
def execUnitReload (t block inst : Nat) (s : State) : Host.Outcome State Fault Refusal := s.live t (fun s => s.endReload block inst)

/-- BARGE_TAKE (R17, R18, R33, R41 to R43). -/
def execBargeTake (t block inst : Nat) (s : State) : Host.Outcome State Fault Refusal := s.live t (fun s => s.bargeTake block inst)

/-- SHADOW_DISCARD (R31): a write of TOP_SHADOW_CTRL. -/
def execShadowDiscard (t : Nat) (value : Word) (s : State) : Host.Outcome State Fault Refusal :=
  s.live t (fun s => s.shadowDiscard value.toNat)

/-- TOP_MODE_WRITE (R54, R57, R58): a write of TOP_MODE. [DEDUCED: log 14] -/
def execTopModeWrite (t : Nat) (value : Word) (s : State) : Host.Outcome State Fault Refusal :=
  s.live t (fun s => s.ledgerWrite R.TOP_MODE value 0xFFFFFFFF)

/-- GPIO_SAMPLE (R56). -/
def execGpioSample (t levels : Nat) (s : State) : Host.Outcome State Fault Refusal := s.isle t (fun s => s.gpioSample levels)

/-- GPIO_ACCEPT (R56). -/
def execGpioAccept (t : Nat) (s : State) : Host.Outcome State Fault Refusal := s.isle t State.gpioAccept

end Sys2Proof.Machine
end

