-- ==== Sys2Proof/Machine/CmdPanel.lean ====
section
/-! DEFINITION. The commands of scan-out, the serial lanes and panel care (R295 to R353). -/

namespace Sys2Proof.Machine

/-- A receiver tests sync headers; where a towpath receiver's block lock changes, its lane's use follows (R319, R395). -/
def State.laneHeaders (s : State) (n : Nat) (live : Bool) (hdrs : List Bool) : State :=
  let was := s.locked n
  let s := s.rxHeaders n live hdrs
  if s.locked n = was then s else s.towLock n (s.locked n)

/-- An adaptation run ends (R322). A failed one is a failure of the training it belongs to: of the loopback of the weir (R124), or of a
ring port's link (R125). -/
def State.adaptDone (s : State) (n : Nat) (cands : List Eyes) (eyes : Eyes) (dfe : Int) (ffe : List Int) : State :=
  if n < 48 ∨ monLane < n ∨ ¬ (s.lanes.lane n).training then s
  else
    let s := s.adaptRun n cands eyes dfe ffe
    let failed : Bool := (s.lanes.lane n).rxSt == 3
    if n < 56 ∧ failed then (if s.ring.training.isSome then s.loopFail.gensFollow else s.linkDown ((n - 48) / 4) 2) else s

/-- SCAN_UNDERRUN (R305). -/
def execScanUnderrun (t lane : Nat) (s : State) : Host.Outcome State Fault Refusal := s.live t (fun s => s.scanUnderrun lane)

/-- FRAME_END_CODE (R298, R299, R305). -/
def execFrameEndCode (t : Nat) (s : State) : Host.Outcome State Fault Refusal := s.live t State.frameEndCode

/-- SCAN_CHECK_DONE (R308, R309). -/
def execScanCheckDone (t n : Nat) (s : State) : Host.Outcome State Fault Refusal := s.live t (fun s => s.checkDone n)

/-- OWN_SAMPLE (R311, R408). -/
def execOwnSample (t : Nat) (level : Bool) (sides : List (List Byte)) (s : State) : Host.Outcome State Fault Refusal :=
  s.live t (fun s => s.ownSample level sides)

/-- OWN_IN_ASSERTED (R311). -/
def execOwnInAsserted (t : Nat) (s : State) : Host.Outcome State Fault Refusal := s.live t State.ownInAsserted

/-- BLOCK_LOCK_ACQUIRED (R319, R395). -/
def execBlockLockAcquired (t : Nat) (h : LaneHeads) (s : State) : Host.Outcome State Fault Refusal :=
  s.live t (fun s => s.laneHeaders h.lane true h.heads)

/-- BLOCK_LOCK_LOST (R319, R395). -/
def execBlockLockLost (t n : Nat) (hdrs : List Bool) (s : State) : Host.Outcome State Fault Refusal :=
  s.live t (fun s => s.laneHeaders n false hdrs)

/-- RX_ADAPT_DONE (R322). -/
def execRxAdaptDone (t n : Nat) (cands : List Eyes) (eyes : Eyes) (taps : RxTaps) (s : State) : Host.Outcome State Fault Refusal :=
  s.live t (fun s => s.adaptDone n cands eyes taps.dfe taps.ffe)

/-- FOM_MONITOR (R323). -/
def execFomMonitor (t n : Nat) (eyes : Eyes) (s : State) : Host.Outcome State Fault Refusal := s.live t (fun s => s.fomMonitor n eyes)

/-- SIDEBAND_POLL (R326 to R328, R351, R352). -/
def execSidebandPoll (t : Nat) (reads : List (List Byte)) (accepts : List Byte) (s : State) : Host.Outcome State Fault Refusal :=
  s.live t (fun s => s.sidebandPoll reads accepts)

/-- BC_REQUEST_APPLY (R328). -/
def execBcRequestApply (t : Nat) (s : State) : Host.Outcome State Fault Refusal := s.live t State.bcApply

/-- BC_TRAIN_TIMEOUT (R327). -/
def execBcTrainTimeout (t : Nat) (s : State) : Host.Outcome State Fault Refusal := s.live t State.trainTimeout

/-- MON_CFG_WRITE (R329): a write of LANE_MON_CFG. -/
def execMonCfgWrite (t : Nat) (value : Word) (s : State) : Host.Outcome State Fault Refusal :=
  s.live t (fun s => s.ledgerWrite R.LANE_MON_CFG value 0xFFFFFFFF)

/-- MON_EYE_SCAN (R330). -/
def execMonEyeScan (t : Nat) (s : State) : Host.Outcome State Fault Refusal := s.live t State.monScan

/-- MON_SCAN_DONE (R330). -/
def execMonScanDone (t : Nat) (eyes : List Eyes) (s : State) : Host.Outcome State Fault Refusal :=
  s.live t (fun s => s.monScanDone eyes)

/-- PRBS_SYNC_CHANGE (R334): what a checker receives. -/
def execPrbsSyncChange (t n : Nat) (blocks : List Nat) (bits : List Bool) (symbols : List Nat) (s : State) : Host.Outcome State Fault Refusal :=
  s.live t (fun s => s.prbsTake n blocks bits symbols)

/-- ERROR_INJECT (R335): a write of LANE_n_INJ. -/
def execErrorInject (t n : Nat) (value : Word) (s : State) : Host.Outcome State Fault Refusal := s.live t (fun s => s.inject n value.toNat)

/-- UNFRAMED_OUTPUT_IDLE (R333). -/
def execUnframedOutputIdle (t : Nat) (s : State) : Host.Outcome State Fault Refusal := s.live t State.unframedIdle

/-- PANEL_SEQ_STEP (R333, R337, R338): the sequence runs on through a reset. -/
def execPanelSeqStep (t : Nat) (s : State) : Host.Outcome State Fault Refusal := s.always t (fun s => s.loading State.panelStep)

/-- PGOOD_ASSERT (R337). -/
def execPgoodAssert (t : Nat) (ident status : List Byte) (s : State) : Host.Outcome State Fault Refusal :=
  s.live t (fun s => s.pgoodAssert ident status)

/-- PGOOD_TIMEOUT (R338, R339). -/
def execPgoodTimeout (t : Nat) (s : State) : Host.Outcome State Fault Refusal := s.live t State.pgoodTimeout

/-- PGOOD_LOST (R338, R339). -/
def execPgoodLost (t : Nat) (s : State) : Host.Outcome State Fault Refusal := s.live t State.pgoodLost

/-- DISCHARGE_END (R338): the discharge runs on through a reset. -/
def execDischargeEnd (t : Nat) (s : State) : Host.Outcome State Fault Refusal := s.always t (fun s => s.loading State.dischargeEnd)

/-- PANEL_RETRY_WAIT (R340). -/
def execPanelRetryWait (t : Nat) (s : State) : Host.Outcome State Fault Refusal := s.live t (fun s => s.loading State.panelRetry)

/-- VREF_POINT (R343). -/
def execVrefPoint (t k : Nat) (s : State) : Host.Outcome State Fault Refusal := s.live t (fun s => s.vrefPoint k)

/-- VIN_TRIP (R85, R346): the fast path acts in every state. -/
def execVinTrip (t : Nat) (s : State) : Host.Outcome State Fault Refusal := s.always t (fun s => s.loading State.vinTrip)

/-- CRACK_LATCH (R338, R348). -/
def execCrackLatch (t : Nat) (s : State) : Host.Outcome State Fault Refusal := s.isle t (fun s => s.loading State.crackLatch)

/-- CRACK_CLEAR (R348): a write of PNL_CRACK_CLR. -/
def execCrackClear (t : Nat) (value : Word) (s : State) : Host.Outcome State Fault Refusal := s.live t (fun s => s.crackClear value.toNat)

end Sys2Proof.Machine
end

