-- ==== Sys2Proof/Machine/CmdPower.lean ====
section
/-! DEFINITION. The commands of reset, supply monitors and power domains (R52, R69 to R84). -/

namespace Sys2Proof.Machine

/-- POR_ASSERT (R69, R79, R80). -/
def execPorAssert (t : Nat) (s : State) : Host.Outcome State Fault Refusal := s.always t State.porAssert

/-- POR_DEASSERT (R69, R70). -/
def execPorDeassert (t below : Nat) (s : State) : Host.Outcome State Fault Refusal := s.always t (fun s => s.porDeassert below)

/-- SEQ_CHECK_RETRY (R70). -/
def execSeqCheckRetry (t below : Nat) (s : State) : Host.Outcome State Fault Refusal := s.always t (fun s => s.seqRetry below)

/-- RESET_EXIT (R57, R71, R79, R87, R90, R91, R102, R105, R108). -/
def execResetExit (t : Nat) (straps : Straps) (otp : Option Otp) (size : Nat) (flash : List (Nat × List Byte)) (s : State) :
    Host.Outcome State Fault Refusal :=
  s.always t (fun s => s.resetExit straps otp size flash)

/-- WARN_TRIP (R16, R74, R82, R83, R108). -/
def execWarnTrip (t mon : Nat) (s : State) : Host.Outcome State Fault Refusal := s.isle t (fun s => s.loading (fun s => s.warnTrip mon))

/-- BRACE_EVENT_WINDOW (R83). -/
def execBraceEventWindow (t : Nat) (s : State) : Host.Outcome State Fault Refusal := s.live t State.braceEvent

/-- BRACE_END (R16, R74, R82, R95, R108): OTP programming held by the brace goes on too (R100). -/
def execBraceEnd (t : Nat) (s : State) : Host.Outcome State Fault Refusal := s.live t (fun s => s.loading (fun s => s.braceEnd))

/-- RESET_TRIP (R69, R79 to R85, R108, R124). -/
def execResetTrip (t mon : Nat) (s : State) : Host.Outcome State Fault Refusal := s.always t (fun s => s.resetTrip mon)

/-- OVERVOLT_TRIP (R84). -/
def execOvervoltTrip (t mon : Nat) (s : State) : Host.Outcome State Fault Refusal := s.isle t (fun s => s.loading (fun s => s.overvolt mon))

/-- PWR_RESET_WARM (R79, R80): a write of PWR_RESET. [DEDUCED: log 14] -/
def execPwrResetWarm (t : Nat) (value : Word) (s : State) : Host.Outcome State Fault Refusal := s.live t (fun s => s.resetWarm value)

/-- MONITOR_RECOVERY (R79). -/
def execMonitorRecovery (t : Nat) (s : State) : Host.Outcome State Fault Refusal := s.always t State.monitorRecovery

/-- FLIGHT_SLOT (R51, R52, R74, R95, R76 to R78): the slot ends; the last PHY pair that comes up starts the exit from self-refresh (R269). -/
def execFlightSlot (t : Nat) (s : State) : Host.Outcome State Fault Refusal := s.live t (fun s => s.loading (fun s => s.flightSlot.selfExitStart))

/-- DOMAIN_POWER_GOOD (R37, R44, R52, R74). -/
def execDomainPowerGood (t : Nat) (s : State) : Host.Outcome State Fault Refusal := s.live t (fun s => s.loading (fun s => s.powerGood))

/-- POWER_GOOD_TIMEOUT (R77). -/
def execPowerGoodTimeout (t : Nat) (s : State) : Host.Outcome State Fault Refusal := s.live t (fun s => s.loading (fun s => s.powerTimeout))

/-- DOMAIN_DRAINED (R52, R76). -/
def execDomainDrained (t dom : Nat) (s : State) : Host.Outcome State Fault Refusal := s.live t (fun s => s.loading (fun s => s.domainDrained dom))

/-- DOM_FAIL_CLEAR (R77): a write of PWR_DOM_FAILk. -/
def execDomFailClear (t k : Nat) (value : Word) (s : State) : Host.Outcome State Fault Refusal :=
  s.live t (fun s => s.domFailClear k value)

end Sys2Proof.Machine
end

