-- ==== Sys2Proof/Machine/CmdRing.lean ====
section
/-! DEFINITION. The commands of the ring ports, the weir, the transport and the content keys (R111 to R136). -/

namespace Sys2Proof.Machine

/-- RING_FRAME_RX (R112, R115 to R119, R121, R123, R138, R139). -/
def execRingFrameRx (t port : Nat) (f : Frame) (s : State) : Host.Outcome State Fault Refusal := s.live t (fun s => s.frameRx port f)

/-- TX_FRAME_BOUNDARY (R118, R120, R122, R123, R154). -/
def execTxFrameBoundary (t port : Nat) (s : State) : Host.Outcome State Fault Refusal :=
  s.live t (fun s => if port < 2 then (s.txBoundary port).encSents else s)

/-- LOOPBACK_PASS (R102, R124, R125). -/
def execLoopbackPass (t : Nat) (s : State) : Host.Outcome State Fault Refusal := s.live t (fun s => if s.ring.training.isSome then s.loopPass.gensFollow.bootWeir else s)

/-- LOOPBACK_TIMEOUT (R124). -/
def execLoopbackTimeout (t : Nat) (s : State) : Host.Outcome State Fault Refusal := s.live t (fun s => if s.ring.training.isSome then s.loopFail.gensFollow.bootWeir else s)

/-- WEIR_RETRY (R124). -/
def execWeirRetry (t : Nat) (s : State) : Host.Outcome State Fault Refusal := s.live t (fun s => if s.ring.retryFrom.isSome then s.loopRetry.gensFollow else s)

/-- LINK_UP (R111, R125). -/
def execLinkUp (t : Nat) (link : LinkEnd) (s : State) : Host.Outcome State Fault Refusal :=
  s.live t (fun s => if link.port < 2 then s.linkUp link.port link.train else s)

/-- LINK_DOWN (R125). -/
def execLinkDown (t port cause : Nat) (s : State) : Host.Outcome State Fault Refusal :=
  s.live t (fun s => if port < 2 then s.linkDown port cause else s)

/-- PLIASH_PACKET (R65, R127 to R131, R134, R135, R156, R157). -/
def execPliashPacket (t : Nat) (s : State) : Host.Outcome State Fault Refusal := s.live t State.pliash

/-- PARITY_WAIT_EXPIRY (R131). -/
def execParityWaitExpiry (t grp chan k : Nat) (s : State) : Host.Outcome State Fault Refusal :=
  s.live t (fun s => s.parityWait grp chan k)

/-- IGMP_QUERY (R127). -/
def execIgmpQuery (t : Nat) (s : State) : Host.Outcome State Fault Refusal := s.live t State.igmpQuery

/-- KEY_MESSAGE (R132 to R134). -/
def execKeyMessage (t : Nat) (s : State) : Host.Outcome State Fault Refusal := s.live t State.keyMessage

end Sys2Proof.Machine
end

