-- ==== Sys2Proof/Machine/CmdStream.lean ====
section
/-! DEFINITION. The commands of the scene stream and the decoders (R157 to R198, R243). -/

namespace Sys2Proof.Machine

/-- SCENE_UNIT (R157, R158, R160 to R162). -/
def execSceneUnit (t : Nat) (s : State) : Host.Outcome State Fault Refusal := s.live t State.sceneUnit

/-- CMDLIST_UNIT (R55, R157 to R159, R168 to R178). -/
def execCmdlistUnit (t : Nat) (s : State) : Host.Outcome State Fault Refusal := s.live t State.cmdlistUnit

/-- MAP_UNIT (R157 to R159, R166). -/
def execMapUnit (t : Nat) (s : State) : Host.Outcome State Fault Refusal := s.live t State.mapUnit

/-- CHUNK_UNIT (R41, R157 to R159, R181). -/
def execChunkUnit (t : Nat) (s : State) : Host.Outcome State Fault Refusal := s.live t State.chunkUnit

/-- CHUNK_DISPATCH (R19, R135, R136, R176, R182 to R190, R276). -/
def execChunkDispatch (t : Nat) (s : State) : Host.Outcome State Fault Refusal := s.live t State.chunkDispatch

/-- CHUNK_DONE (R183 to R198). -/
def execChunkDone (t core : Nat) (s : State) : Host.Outcome State Fault Refusal := s.live t (fun s => (s.chunkDone core).fitCheck)

/-- CHUNK_ABANDON (R190). -/
def execChunkAbandon (t core : Nat) (s : State) : Host.Outcome State Fault Refusal := s.live t (fun s => s.chunkAbandon core)

/-- LOAD_ESTIMATE_DONE (R243, R244): the estimate names the clusters, and the domains they need are asked for. -/
def execLoadEstimateDone (t : Nat) (s : State) : Host.Outcome State Fault Refusal := s.live t (fun s => s.estimate.domainsNeed)

/-- BLOCK_ISSUE (R19, R60, R219). -/
def execBlockIssue (t : Nat) (s : State) : Host.Outcome State Fault Refusal := s.live t State.blockIssue

/-- BLOCK_DONE (R61, R62, R199 to R236, R251 to R258): a completed tap picture is offered to the encoder (R379). -/
def execBlockDone (t cluster : Nat) (mismatch : Bool) (s : State) : Host.Outcome State Fault Refusal :=
  s.live t (fun s => (s.blockDone cluster mismatch).encTap)

end Sys2Proof.Machine
end

