-- ==== Sys2Proof/Machine/CmdTime.lean ====
section
/-! DEFINITION. The commands of network time, pulses and timed launch (R137 to R155, R301). -/

namespace Sys2Proof.Machine

/-- The replica of device time is realigned (R151): within 2 ns of the time base, which offset is open. [DESIGN CHOICE: log 56] -/
def State.realign (s : State) : State :=
  let (c, s) := s.chooseNat
  { s with time := { s.time with replica := ((c % 262145 : Nat) : Int) - 131072 } }

/-- PPS_OUT rises at a whole second, for WIDTH_MS, while it is enabled (R148). -/
def State.ppsSecond (s : State) : State :=
  if s.cm F.TIME_PPS_EN = 1 ∧ s.nearMultiple 1000000000 then s.pulse .pps (s.cm F.TIME_PPS_WIDTH_MS * 1000000) else s

/-- Period and width of TIME_EVTn. -/
def evtPeriod (n : Nat) : Fld := if n = 0 then F.TIME_EVT0_CFG_PERIOD_MS else F.TIME_EVT1_CFG_PERIOD_MS
def evtWidth (n : Nat) : Fld := if n = 0 then F.TIME_EVT0_CFG_WIDTH_US else F.TIME_EVT1_CFG_WIDTH_US

/-- TIME_EVTn rises in periodic mode (R148), at the multiples of PERIOD_MS, which divides the second, for WIDTH_US; within the ±5 ns that the rule
gives for PPS_OUT. [DEDUCED: log 143] -/
def State.evtPeriodic (s : State) (n : Nat) : State :=
  if n < 2 ∧ s.cm (evtMode n) = 2 ∧ s.nearMultiple (s.cm (evtPeriod n) * 1000000) then s.pulse (.evt n) (s.cm (evtWidth n) * 1000) else s

/-- Step 15 of R102: the frame of pound 0, or of the adopted pound, has been launched; `p` was the pound due. [DEDUCED: log 32] -/
def State.stepFifteen (s : State) (p : Nat) (sent : Bool) : State :=
  if sent ∧ s.stage = 14 ∧ (Sparse.find s.lock.sets p).isSome then s.bootStep 15 else s

/-- A launch point: the slot, and step 15 where it is the first frame. -/
def State.launchPointAt (s : State) : State :=
  let u := s.launchSlot
  u.stepFifteen s.time.nextL (decide (u.time.nextL ≠ s.time.nextL))

/-- The rows of a frame have ended: a launch that waited is sent, and step 15 where it is the first frame. -/
def State.rowsEndAt (s : State) : State :=
  let u := s.rowsEnd
  u.stepFifteen s.time.nextL (decide (u.time.nextL ≠ s.time.nextL))

/-- The slave clock's lock changes; at boot a lock is step 12 (R102, R144). -/
def State.lockChanged (s : State) : State :=
  let u := s.lockChange
  if u.rd F.TIME_STATUS_LOCKED = 1 then u.bootTime else u

/-- PTP_ANNOUNCE (R137, R140, R146). -/
def execPtpAnnounce (t : Nat) (s : State) : Host.Outcome State Fault Refusal := s.live t State.announce

/-- PTP_SYNC (R137, R143 to R145). -/
def execPtpSync (t : Nat) (s : State) : Host.Outcome State Fault Refusal := s.live t State.ptpSync

/-- PTP_DELAY_RESP (R141, R143). -/
def execPtpDelayResp (t : Nat) (s : State) : Host.Outcome State Fault Refusal := s.live t State.delayResp

/-- DELAY_REQ_TIMER (R141). -/
def execDelayReqTimer (t : Nat) (s : State) : Host.Outcome State Fault Refusal := s.live t State.delayReqTimer

/-- TIME_PORT_TIMEOUT (R140). -/
def execTimePortTimeout (t missed : Nat) (s : State) : Host.Outcome State Fault Refusal := s.live t (fun s => s.timePortTimeout missed)

/-- ANNOUNCE_TIMEOUT (R144, R146). -/
def execAnnounceTimeout (t : Nat) (s : State) : Host.Outcome State Fault Refusal := s.live t State.announceTimeout

/-- TIME_LOCK_CHANGE (R102, R144). -/
def execTimeLockChange (t : Nat) (s : State) : Host.Outcome State Fault Refusal := s.live t State.lockChanged

/-- PPS_SECOND (R148). -/
def execPpsSecond (t : Nat) (s : State) : Host.Outcome State Fault Refusal := s.live t State.ppsSecond

/-- TIME_EVT_PERIODIC (R148). -/
def execTimeEvtPeriodic (t n : Nat) (s : State) : Host.Outcome State Fault Refusal := s.live t (fun s => s.evtPeriodic n)

/-- PULSE_WIDTH_EXPIRY (R148, R370, R371). -/
def execPulseWidthExpiry (t : Nat) (pin : PulsePin) (s : State) : Host.Outcome State Fault Refusal := s.live t (fun s => s.pulseEnd pin)

/-- TIME_CAPTURE (R148). -/
def execTimeCapture (t input : Nat) (rising : Bool) (s : State) : Host.Outcome State Fault Refusal :=
  s.live t (fun s => s.capture input rising)

/-- REPLICA_REALIGN (R151). -/
def execReplicaRealign (t : Nat) (s : State) : Host.Outcome State Fault Refusal := s.live t State.realign

/-- LAUNCH_ARM (R151, R153, R310, R311). -/
def execLaunchArm (t : Nat) (s : State) : Host.Outcome State Fault Refusal := s.live t State.launchArm

/-- LAUNCH_SLOT (R22 to R26, R41, R53, R60, R64 to R66, R102, R151 to R153, R301 to R304, R343, R394). -/
def execLaunchSlot (t : Nat) (s : State) : Host.Outcome State Fault Refusal := s.live t State.launchPointAt

/-- FRAME_ROWS_END (R153). -/
def execFrameRowsEnd (t : Nat) (s : State) : Host.Outcome State Fault Refusal := s.live t State.rowsEndAt

/-- TIMED_EGRESS_DUE (R154, R155). -/
def execTimedEgressDue (t port : Nat) (s : State) : Host.Outcome State Fault Refusal :=
  s.live t (fun s => if port < 2 then s.egressDue port else s)

/-- TIMED_EGRESS_DROP (R155). -/
def execTimedEgressDrop (t port : Nat) (s : State) : Host.Outcome State Fault Refusal :=
  s.live t (fun s => if port < 2 then (s.egressDrop port).encSents else s)

end Sys2Proof.Machine
end

