-- ==== Sys2Proof/Machine/Dispatch.lean ====
section
/-! DEFINITION. One arm per command: what it does to everything but the queue. -/

namespace Sys2Proof.Machine

def exec (i : Instr) (s : State) : Host.Outcome State Fault Refusal :=
  match i with
  | .registerWrite t sid addr value => Sys2Proof.Machine.execRegisterWrite t sid addr value s
  | .lockClose t => Sys2Proof.Machine.execLockClose t s
  | .levelStage t block inst => Sys2Proof.Machine.execLevelStage t block inst s
  | .levelReportReceived t block crcFlip => Sys2Proof.Machine.execLevelReportReceived t block crcFlip s
  | .levelWindowExpiry t => Sys2Proof.Machine.execLevelWindowExpiry t s
  | .commitToken t block inst => Sys2Proof.Machine.execCommitToken t block inst s
  | .lockCycleEnd t => Sys2Proof.Machine.execLockCycleEnd t s
  | .forcedUnitReset t block => Sys2Proof.Machine.execForcedUnitReset t block s
  | .unitReload t block inst => Sys2Proof.Machine.execUnitReload t block inst s
  | .bargeTake t block inst => Sys2Proof.Machine.execBargeTake t block inst s
  | .shadowDiscard t value => Sys2Proof.Machine.execShadowDiscard t value s
  | .topModeWrite t value => Sys2Proof.Machine.execTopModeWrite t value s
  | .gpioSample t levels => Sys2Proof.Machine.execGpioSample t levels s
  | .gpioAccept t => Sys2Proof.Machine.execGpioAccept t s
  | .porAssert t => Sys2Proof.Machine.execPorAssert t s
  | .porDeassert t below => Sys2Proof.Machine.execPorDeassert t below s
  | .seqCheckRetry t below => Sys2Proof.Machine.execSeqCheckRetry t below s
  | .resetExit t straps otp flashSize flash => Sys2Proof.Machine.execResetExit t straps otp flashSize flash s
  | .warnTrip t mon => Sys2Proof.Machine.execWarnTrip t mon s
  | .braceEventWindow t => Sys2Proof.Machine.execBraceEventWindow t s
  | .braceEnd t => Sys2Proof.Machine.execBraceEnd t s
  | .resetTrip t mon => Sys2Proof.Machine.execResetTrip t mon s
  | .overvoltTrip t mon => Sys2Proof.Machine.execOvervoltTrip t mon s
  | .pwrResetWarm t value => Sys2Proof.Machine.execPwrResetWarm t value s
  | .trstAssert t => Sys2Proof.Machine.execTrstAssert t s
  | .flightSlot t => Sys2Proof.Machine.execFlightSlot t s
  | .domainPowerGood t => Sys2Proof.Machine.execDomainPowerGood t s
  | .powerGoodTimeout t => Sys2Proof.Machine.execPowerGoodTimeout t s
  | .domainDrained t dom => Sys2Proof.Machine.execDomainDrained t dom s
  | .domFailClear t k value => Sys2Proof.Machine.execDomFailClear t k value s
  | .imageHeaderRead t dqsFails => Sys2Proof.Machine.execImageHeaderRead t dqsFails s
  | .imageFirstPassDone t => Sys2Proof.Machine.execImageFirstPassDone t s
  | .imageSecondPassDone t sameDigest => Sys2Proof.Machine.execImageSecondPassDone t sameDigest s
  | .bootFreeRunTimeout t => Sys2Proof.Machine.execBootFreeRunTimeout t s
  | .bootFirstCloseSet t => Sys2Proof.Machine.execBootFirstCloseSet t s
  | .updStart t => Sys2Proof.Machine.execUpdStart t s
  | .updVerify t => Sys2Proof.Machine.execUpdVerify t s
  | .updCommit t => Sys2Proof.Machine.execUpdCommit t s
  | .updAbort t => Sys2Proof.Machine.execUpdAbort t s
  | .updData t value => Sys2Proof.Machine.execUpdData t value s
  | .updLenWrite t value => Sys2Proof.Machine.execUpdLenWrite t value s
  | .updVerifyDone t readErr => Sys2Proof.Machine.execUpdVerifyDone t readErr s
  | .calSave t value => Sys2Proof.Machine.execCalSave t value s
  | .nvmOpDone t same => Sys2Proof.Machine.execNvmOpDone t same s
  | .nvmOpTimeout t => Sys2Proof.Machine.execNvmOpTimeout t s
  | .eraseSuspended t => Sys2Proof.Machine.execEraseSuspended t s
  | .ringFrameRx t port f => Sys2Proof.Machine.execRingFrameRx t port f s
  | .txFrameBoundary t port => Sys2Proof.Machine.execTxFrameBoundary t port s
  | .loopbackPass t => Sys2Proof.Machine.execLoopbackPass t s
  | .loopbackTimeout t => Sys2Proof.Machine.execLoopbackTimeout t s
  | .weirRetry t => Sys2Proof.Machine.execWeirRetry t s
  | .linkUp t link => Sys2Proof.Machine.execLinkUp t link s
  | .linkDown t port cause => Sys2Proof.Machine.execLinkDown t port cause s
  | .pliashPacket t => Sys2Proof.Machine.execPliashPacket t s
  | .parityWaitExpiry t grp chan k => Sys2Proof.Machine.execParityWaitExpiry t grp chan k s
  | .igmpQuery t => Sys2Proof.Machine.execIgmpQuery t s
  | .keyMessage t => Sys2Proof.Machine.execKeyMessage t s
  | .ptpAnnounce t => Sys2Proof.Machine.execPtpAnnounce t s
  | .ptpSync t => Sys2Proof.Machine.execPtpSync t s
  | .ptpDelayResp t => Sys2Proof.Machine.execPtpDelayResp t s
  | .delayReqTimer t => Sys2Proof.Machine.execDelayReqTimer t s
  | .timePortTimeout t missed => Sys2Proof.Machine.execTimePortTimeout t missed s
  | .announceTimeout t => Sys2Proof.Machine.execAnnounceTimeout t s
  | .timeLockChange t => Sys2Proof.Machine.execTimeLockChange t s
  | .ppsSecond t => Sys2Proof.Machine.execPpsSecond t s
  | .timeEvtPeriodic t n => Sys2Proof.Machine.execTimeEvtPeriodic t n s
  | .pulseWidthExpiry t pin => Sys2Proof.Machine.execPulseWidthExpiry t pin s
  | .timeCapture t input rising => Sys2Proof.Machine.execTimeCapture t input rising s
  | .replicaRealign t => Sys2Proof.Machine.execReplicaRealign t s
  | .launchArm t => Sys2Proof.Machine.execLaunchArm t s
  | .launchSlot t => Sys2Proof.Machine.execLaunchSlot t s
  | .timedEgressDue t port => Sys2Proof.Machine.execTimedEgressDue t port s
  | .timedEgressDrop t port => Sys2Proof.Machine.execTimedEgressDrop t port s
  | .sceneUnit t => Sys2Proof.Machine.execSceneUnit t s
  | .cmdlistUnit t => Sys2Proof.Machine.execCmdlistUnit t s
  | .mapUnit t => Sys2Proof.Machine.execMapUnit t s
  | .chunkUnit t => Sys2Proof.Machine.execChunkUnit t s
  | .chunkDispatch t => Sys2Proof.Machine.execChunkDispatch t s
  | .chunkDone t core => Sys2Proof.Machine.execChunkDone t core s
  | .chunkAbandon t core => Sys2Proof.Machine.execChunkAbandon t core s
  | .loadEstimateDone t => Sys2Proof.Machine.execLoadEstimateDone t s
  | .blockIssue t => Sys2Proof.Machine.execBlockIssue t s
  | .blockDone t cluster mismatch => Sys2Proof.Machine.execBlockDone t cluster mismatch s
  | .basinTrainDone t rs => Sys2Proof.Machine.execBasinTrainDone t rs s
  | .basinTrainRetry t => Sys2Proof.Machine.execBasinTrainRetry t s
  | .basinEyeTrack t moves => Sys2Proof.Machine.execBasinEyeTrack t moves s
  | .basinRefresh t stack => Sys2Proof.Machine.execBasinRefresh t stack s
  | .selfRefreshEnter t => Sys2Proof.Machine.execSelfRefreshEnter t s
  | .selfRefreshExitDone t rs => Sys2Proof.Machine.execSelfRefreshExitDone t rs s
  | .scrubGranule t errs => Sys2Proof.Machine.execScrubGranule t errs s
  | .basinCorrectedRead t r => Sys2Proof.Machine.execBasinCorrectedRead t r s
  | .basinUncorrectableRead t r reader item px => Sys2Proof.Machine.execBasinUncorrectableRead t r reader item px s
  | .basinFlushDone t source => Sys2Proof.Machine.execBasinFlushDone t source s
  | .quarClear t value => Sys2Proof.Machine.execQuarClear t value s
  | .tugUpdateStart t => Sys2Proof.Machine.execTugUpdateStart t s
  | .tugUpdateDone t n abort => Sys2Proof.Machine.execTugUpdateDone t n abort s
  | .scanUnderrun t lane => Sys2Proof.Machine.execScanUnderrun t lane s
  | .frameEndCode t => Sys2Proof.Machine.execFrameEndCode t s
  | .scanCheckDone t n => Sys2Proof.Machine.execScanCheckDone t n s
  | .ownSample t level sides => Sys2Proof.Machine.execOwnSample t level sides s
  | .ownInAsserted t => Sys2Proof.Machine.execOwnInAsserted t s
  | .blockLockAcquired t h => Sys2Proof.Machine.execBlockLockAcquired t h s
  | .blockLockLost t n hdrs => Sys2Proof.Machine.execBlockLockLost t n hdrs s
  | .rxAdaptDone t n cands eyes taps => Sys2Proof.Machine.execRxAdaptDone t n cands eyes taps s
  | .fomMonitor t n eyes => Sys2Proof.Machine.execFomMonitor t n eyes s
  | .sidebandPoll t reads accepts => Sys2Proof.Machine.execSidebandPoll t reads accepts s
  | .bcRequestApply t => Sys2Proof.Machine.execBcRequestApply t s
  | .bcTrainTimeout t => Sys2Proof.Machine.execBcTrainTimeout t s
  | .monCfgWrite t value => Sys2Proof.Machine.execMonCfgWrite t value s
  | .monEyeScan t => Sys2Proof.Machine.execMonEyeScan t s
  | .monScanDone t eyes => Sys2Proof.Machine.execMonScanDone t eyes s
  | .prbsSyncChange t n blocks bits symbols => Sys2Proof.Machine.execPrbsSyncChange t n blocks bits symbols s
  | .errorInject t n value => Sys2Proof.Machine.execErrorInject t n value s
  | .panelSeqStep t => Sys2Proof.Machine.execPanelSeqStep t s
  | .pgoodAssert t ident status => Sys2Proof.Machine.execPgoodAssert t ident status s
  | .pgoodTimeout t => Sys2Proof.Machine.execPgoodTimeout t s
  | .pgoodLost t => Sys2Proof.Machine.execPgoodLost t s
  | .dischargeEnd t => Sys2Proof.Machine.execDischargeEnd t s
  | .panelRetryWait t => Sys2Proof.Machine.execPanelRetryWait t s
  | .vrefPoint t k => Sys2Proof.Machine.execVrefPoint t k s
  | .vinTrip t => Sys2Proof.Machine.execVinTrip t s
  | .crackLatch t => Sys2Proof.Machine.execCrackLatch t s
  | .crackClear t value => Sys2Proof.Machine.execCrackClear t value s
  | .csiFrameStart t port hdr lost => Sys2Proof.Machine.execCsiFrameStart t port hdr lost s
  | .csiLine t port hdr lost data crc0 crc1 => Sys2Proof.Machine.execCsiLine t port hdr lost data crc0 crc1 s
  | .csiFrameEnd t port hdr lost => Sys2Proof.Machine.execCsiFrameEnd t port hdr lost s
  | .pipeLineTake t port => Sys2Proof.Machine.execPipeLineTake t port s
  | .camSensorStart t n => Sys2Proof.Machine.execCamSensorStart t n s
  | .cciWriteDone t port ack => Sys2Proof.Machine.execCciWriteDone t port ack s
  | .cciDelayExpiry t n => Sys2Proof.Machine.execCciDelayExpiry t n s
  | .fsyncPulse t m p => Sys2Proof.Machine.execFsyncPulse t m p s
  | .strobePulse t => Sys2Proof.Machine.execStrobePulse t s
  | .glintPair t p => Sys2Proof.Machine.execGlintPair t p s
  | .encPictureStart t => Sys2Proof.Machine.execEncPictureStart t s
  | .encRowDone t => Sys2Proof.Machine.execEncRowDone t s
  | .encIdr t stream value => Sys2Proof.Machine.execEncIdr t stream value s
  | .hbTick t => Sys2Proof.Machine.execHbTick t s
  | .hbLost t => Sys2Proof.Machine.execHbLost t s
  | .towHb t m => Sys2Proof.Machine.execTowHb t m s
  | .towSeal t m => Sys2Proof.Machine.execTowSeal t m s
  | .deltaEyes t m => Sys2Proof.Machine.execDeltaEyes t m s
  | .deltaRung t m => Sys2Proof.Machine.execDeltaRung t m s
  | .deltaSnapshot t m => Sys2Proof.Machine.execDeltaSnapshot t m s
  | .deltaSurface t m => Sys2Proof.Machine.execDeltaSurface t m s
  | .repairWant t m => Sys2Proof.Machine.execRepairWant t m s
  | .repairHave t m => Sys2Proof.Machine.execRepairHave t m s
  | .repairNone t m => Sys2Proof.Machine.execRepairNone t m s
  | .repairWaitExpiry t grp chan k => Sys2Proof.Machine.execRepairWaitExpiry t grp chan k s
  | .towMsgLost t mseq => Sys2Proof.Machine.execTowMsgLost t mseq s
  | .towTake t m => Sys2Proof.Machine.execTowTake t m s
  | .towYield t m => Sys2Proof.Machine.execTowYield t m s
  | .partnerFault t => Sys2Proof.Machine.execPartnerFault t s
  | .towCmdTake t value => Sys2Proof.Machine.execTowCmdTake t value s
  | .towCmdYield t value => Sys2Proof.Machine.execTowCmdYield t value s
  | .joinWaitTimeout t => Sys2Proof.Machine.execJoinWaitTimeout t s
  | .lzJobStart t => Sys2Proof.Machine.execLzJobStart t s
  | .lzBlockDone t fault => Sys2Proof.Machine.execLzBlockDone t fault s
  | .hkSlot t slot v => Sys2Proof.Machine.execHkSlot t slot v s
  | .hkEvaluation t status => Sys2Proof.Machine.execHkEvaluation t status s
  | .sensorFail t sensor => Sys2Proof.Machine.execSensorFail t sensor s
  | .sensorRestore t sensor => Sys2Proof.Machine.execSensorRestore t sensor s
  | .noraiseEnd t => Sys2Proof.Machine.execNoraiseEnd t s
  | .thermalResetExit t => Sys2Proof.Machine.execThermalResetExit t s
  | .mgmtSession t => Sys2Proof.Machine.execMgmtSession t s
  | .mgmtRead t => Sys2Proof.Machine.execMgmtRead t s
  | .mgmtWrite t => Sys2Proof.Machine.execMgmtWrite t s
  | .mgmtSubscribe t => Sys2Proof.Machine.execMgmtSubscribe t s
  | .mgmtLog t => Sys2Proof.Machine.execMgmtLog t s
  | .eventsSend t slot => Sys2Proof.Machine.execEventsSend t slot s
  | .sessionIdleExpiry t slot => Sys2Proof.Machine.execSessionIdleExpiry t slot s
  | .eventAccept t => Sys2Proof.Machine.execEventAccept t s
  | .alertResponse t => Sys2Proof.Machine.execAlertResponse t s
  | .i2cPointerWrite t data => Sys2Proof.Machine.execI2cPointerWrite t data s
  | .i2cRead t count => Sys2Proof.Machine.execI2cRead t count s
  | .logFlush t => Sys2Proof.Machine.execLogFlush t s
  | .jtagBypass t => Sys2Proof.Machine.execJtagBypass t s
  | .jtagIdcode t => Sys2Proof.Machine.execJtagIdcode t s
  | .jtagSamplePreload t pins preload => Sys2Proof.Machine.execJtagSamplePreload t pins preload s
  | .jtagExtest t pins => Sys2Proof.Machine.execJtagExtest t pins s
  | .jtagExtestPulse t pins => Sys2Proof.Machine.execJtagExtestPulse t pins s
  | .jtagExtestTrain t pins => Sys2Proof.Machine.execJtagExtestTrain t pins s
  | .jtagClamp t => Sys2Proof.Machine.execJtagClamp t s
  | .jtagHighz t => Sys2Proof.Machine.execJtagHighz t s
  | .monitorRecovery t => Sys2Proof.Machine.execMonitorRecovery t s
  | .trstDeassert t => Sys2Proof.Machine.execTrstDeassert t s
  | .pairHbInEdge t => Sys2Proof.Machine.execPairHbInEdge t s
  | .frameRowsEnd t => Sys2Proof.Machine.execFrameRowsEnd t s
  | .unframedOutputIdle t => Sys2Proof.Machine.execUnframedOutputIdle t s

end Sys2Proof.Machine
end

