-- ==== Sys2Proof/WellFormed.lean ====
section
/-! DEFINITION. Well-formed commands: operands inside the ranges the spec gives. The meanings are total on every operand; a command
outside a range names nothing the block has. -/

namespace Sys2Proof.WellFormed

open Sys2Proof.Machine

/-- A 32-bit number. -/
def u32 (n : Nat) : Bool := decide (n < 2 ^ 32)

/-- A ledger address (R6, R443): a word of the 20 windows. -/
def addrOk (a : Nat) : Bool := decide (a < 20 * 0x10000) && a % 4 == 0

/-- A unit instance (R50, R73, R443). -/
def unitOk (block inst : Nat) : Bool := decide (block < 20) && decide (inst < instCount block)

/-- A supply monitor (R67). -/
def monOk (mon : Nat) : Bool := decide (mon < 18)

/-- A monitor mask. -/
def monMaskOk (below : Nat) : Bool := decide (below < 2 ^ 18)

/-- Straps (R71, R390): PAIR_ROLE names none, A or B. -/
def strapsOk (p : Straps) : Bool := p.pairUp || !p.pairDown

/-- OTP contents (R100): four slots, an epoch of 64 bits, a 48-bit MAC, keys of 48 and 96 bytes or none. -/
def otpOk (o : Otp) : Bool :=
  o.slots.length == 4 && o.slots.all (fun k => k.length == 0 || k.length == 48) && decide (o.revoked < 16) && decide (o.epoch ≤ 64)
    && decide (o.uid < 2 ^ 64) && decide (o.mac < 2 ^ 48) && ((o.devKey.length == 0 && o.devPub.length == 0) || (o.devKey.length == 48 && o.devPub.length == 96))

/-- A flash size (R87): 64, 128, 256 or 512 MiB. -/
def flashOk (n : Nat) : Bool := [0x4000000, 0x8000000, 0x10000000, 0x20000000].contains n

/-- A ring port. -/
def portOk (x : Nat) : Bool := decide (x < 2)

/-- A frame (R111): at least the 64 bytes of 802.3, FCS included. -/
def frameOk (f : Frame) : Bool := decide (60 ≤ f.data.length) && u32 f.fcs

/-- Group entry, channel and group number (R127, R128, R130). -/
def groupOk (grp chan k : Nat) : Bool := decide (grp < 16) && decide (chan < 65536) && u32 k

/-- A pulse output. -/
def pulseOk : PulsePin → Bool
  | .pps => true
  | .evt n => decide (n < 2)
  | .fsync m => decide (m < 2)
  | .strobe => true

/-- Passing ranges of a lane: delays to 127, codes to 255 (R264). -/
def eyesOk (e : LaneEyes) : Bool :=
  let dly (w : Nat × Nat) : Bool := decide (w.1 < 128 ∧ w.2 < 128)
  let code (w : Nat × Nat) : Bool := decide (w.1 < 256 ∧ w.2 < 256)
  dly e.rd1 && code e.rdRef && dly e.rd2 && dly e.wr1 && code e.wrRef && dly e.wr2

/-- Training results of at most the four stacks, of 160 lanes each (R264). -/
def trainOk (rs : List TrainRes) : Bool :=
  decide (rs.length ≤ 4) && rs.all (fun r => decide (r.lanes.length ≤ 160) && r.lanes.all eyesOk && r.spares.all (fun x => decide (x.1 < 160) && eyesOk x.2))

/-- Wrong bytes of a codeword of 72 positions (R259). -/
def errsOk (l : List (Nat × Nat)) : Bool := decide (l.length ≤ 72) && l.all (fun e => decide (e.1 < 72 ∧ e.2 < 256))

/-- A Basin byte address (R28): 96 GB. -/
def basinOk (a : Nat) : Bool := decide (a < 96 * 2 ^ 30)

/-- A towpath message (R396): its lane, START and END blocks of 64 bits. -/
def towOk (m : TowMsg) : Bool := decide (m.lane < 4) && decide (m.start < 2 ^ 64) && decide (m.stop < 2 ^ 64)

/-- A CSI-2 packet (R356): its port and the four bytes of its header. -/
def csiOk (port : Nat) (hdr : List Byte) : Bool := decide (port < 2) && hdr.length == 4

/-- A command's operands are inside their ranges. -/
def command (i : Instr) : Bool :=
  match i with
  | .registerWrite _ sid addr _ => decide (sid < 65536) && addrOk addr
  | .lockClose _ => true
  | .levelStage _ block inst => unitOk block inst
  | .levelReportReceived _ block crcFlip => decide (block < 20) && decide (crcFlip < 65536)
  | .levelWindowExpiry _ => true
  | .commitToken _ block inst => unitOk block inst
  | .lockCycleEnd _ => true
  | .forcedUnitReset _ block => decide (block < 20)
  | .unitReload _ block inst => unitOk block inst
  | .bargeTake _ block inst => unitOk block inst
  | .shadowDiscard _ _ => true
  | .topModeWrite _ _ => true
  | .gpioSample _ levels => decide (levels < 65536)
  | .gpioAccept _ => true
  | .porAssert _ => true
  | .porDeassert _ below => monMaskOk below
  | .seqCheckRetry _ below => monMaskOk below
  | .resetExit _ straps otp size _ => strapsOk straps && (match otp with | some o => otpOk o | none => true) && flashOk size
  | .warnTrip _ mon => monOk mon
  | .braceEventWindow _ => true
  | .braceEnd _ => true
  | .resetTrip _ mon => monOk mon
  | .overvoltTrip _ mon => monOk mon
  | .pwrResetWarm _ _ => true
  | .trstAssert _ => true
  | .flightSlot _ => true
  | .domainPowerGood _ => true
  | .powerGoodTimeout _ => true
  | .domainDrained _ dom => decide (dom < 159)
  | .domFailClear _ k _ => decide (k < 5)
  | .imageHeaderRead _ dqsFails => decide (dqsFails ≤ 2)
  | .imageFirstPassDone _ => true
  | .imageSecondPassDone _ _ => true
  | .bootFreeRunTimeout _ => true
  | .bootFirstCloseSet _ => true
  | .updStart _ => true
  | .updVerify _ => true
  | .updCommit _ => true
  | .updAbort _ => true
  | .updData _ _ => true
  | .updLenWrite _ _ => true
  | .updVerifyDone _ _ => true
  | .calSave _ _ => true
  | .nvmOpDone _ _ => true
  | .nvmOpTimeout _ => true
  | .eraseSuspended _ => true
  | .ringFrameRx _ port f => portOk port && frameOk f
  | .txFrameBoundary _ port => portOk port
  | .loopbackPass _ => true
  | .loopbackTimeout _ => true
  | .weirRetry _ => true
  | .linkUp _ k => portOk k.port && decide (k.train.length ≤ 4) && k.train.all (fun l => l.reqs.all (fun q => decide (q.1 < 4)))
  | .linkDown _ port cause => portOk port && decide (1 ≤ cause ∧ cause ≤ 3)
  | .pliashPacket _ => true
  | .parityWaitExpiry _ grp chan k => groupOk grp chan k
  | .igmpQuery _ => true
  | .keyMessage _ => true
  | .ptpAnnounce _ => true
  | .ptpSync _ => true
  | .ptpDelayResp _ => true
  | .delayReqTimer _ => true
  | .timePortTimeout _ missed => u32 missed
  | .announceTimeout _ => true
  | .timeLockChange _ => true
  | .ppsSecond _ => true
  | .timeEvtPeriodic _ n => decide (n < 2)
  | .pulseWidthExpiry _ pin => pulseOk pin
  | .timeCapture _ input _ => decide (input < 3)
  | .replicaRealign _ => true
  | .launchArm _ => true
  | .launchSlot _ => true
  | .timedEgressDue _ port => portOk port
  | .timedEgressDrop _ port => portOk port
  | .sceneUnit _ => true
  | .cmdlistUnit _ => true
  | .mapUnit _ => true
  | .chunkUnit _ => true
  | .chunkDispatch _ => true
  | .chunkDone _ core => decide (core < 16)
  | .chunkAbandon _ core => decide (core < 16)
  | .loadEstimateDone _ => true
  | .blockIssue _ => true
  | .blockDone _ cluster _ => decide (cluster < 32)
  | .basinTrainDone _ rs => trainOk rs
  | .basinTrainRetry _ => true
  | .basinEyeTrack _ moves => moves.all (fun m => decide (m.1 < 4) && decide (m.2.1 < 160))
  | .basinRefresh _ stack => decide (stack < 4)
  | .selfRefreshEnter _ => true
  | .selfRefreshExitDone _ rs => trainOk rs
  | .scrubGranule _ errs => errsOk errs
  | .basinCorrectedRead _ r => basinOk r.addr && errsOk r.errs
  | .basinUncorrectableRead _ r reader _ _ => basinOk r.addr && decide (reader < 7) && errsOk r.errs
  | .basinFlushDone _ source => decide (source < 20)
  | .quarClear _ _ => true
  | .tugUpdateStart _ => true
  | .tugUpdateDone _ _ _ => true
  | .scanUnderrun _ lane => decide (lane < 48)
  | .frameEndCode _ => true
  | .scanCheckDone _ n => decide (n < 8)
  | .ownSample _ _ sides => decide (sides.length ≤ 4)
  | .ownInAsserted _ => true
  | .blockLockAcquired _ h => decide (48 ≤ h.lane ∧ h.lane ≤ 60)
  | .blockLockLost _ n _ => decide (48 ≤ n ∧ n ≤ 60)
  | .rxAdaptDone _ n cands _ x => decide (48 ≤ n ∧ n ≤ 60) && decide (cands.length = 16) && decide (-128 ≤ x.dfe ∧ x.dfe < 128)
      && decide (x.ffe.length = 12) && x.ffe.all (fun c => decide (-128 ≤ c ∧ c < 128))
  | .fomMonitor _ n _ => decide (48 ≤ n ∧ n ≤ 60)
  | .sidebandPoll _ reads accepts => decide (reads.length ≤ 4) && decide (accepts.length ≤ 4)
  | .bcRequestApply _ => true
  | .bcTrainTimeout _ => true
  | .monCfgWrite _ _ => true
  | .monEyeScan _ => true
  | .monScanDone _ eyes => decide (eyes.length = 64)
  | .prbsSyncChange _ n blocks _ symbols => decide (48 ≤ n ∧ n ≤ 60) && blocks.all (fun w => decide (w < 2 ^ 64)) && symbols.all (fun v => decide (v < 4))
  | .errorInject _ n _ => decide (n < 60)
  | .panelSeqStep _ => true
  | .pgoodAssert _ _ _ => true
  | .pgoodTimeout _ => true
  | .pgoodLost _ => true
  | .dischargeEnd _ => true
  | .panelRetryWait _ => true
  | .vrefPoint _ k => decide (k < 64)
  | .vinTrip _ => true
  | .crackLatch _ => true
  | .crackClear _ _ => true
  | .csiFrameStart _ port hdr _ => csiOk port hdr
  | .csiLine _ port hdr _ _ _ _ => csiOk port hdr
  | .csiFrameEnd _ port hdr _ => csiOk port hdr
  | .pipeLineTake _ port => portOk port
  | .camSensorStart _ n => decide (n < 8)
  | .cciWriteDone _ port _ => portOk port
  | .cciDelayExpiry _ n => decide (n < 8)
  | .fsyncPulse _ m p => decide (m < 2) && u32 p
  | .strobePulse _ => true
  | .glintPair _ p => decide (p < 4)
  | .encPictureStart _ => true
  | .encRowDone _ => true
  | .encIdr _ stream _ => decide (stream < 4)
  | .hbTick _ => true
  | .hbLost _ => true
  | .towHb _ m => towOk m
  | .towSeal _ m => towOk m
  | .deltaEyes _ m => towOk m
  | .deltaRung _ m => towOk m
  | .deltaSnapshot _ m => towOk m
  | .deltaSurface _ m => towOk m
  | .repairWant _ m => towOk m
  | .repairHave _ m => towOk m
  | .repairNone _ m => towOk m
  | .repairWaitExpiry _ grp chan k => groupOk grp chan k
  | .towMsgLost _ mseq => decide (mseq < 2 ^ 24)
  | .towTake _ m => towOk m
  | .towYield _ m => towOk m
  | .partnerFault _ => true
  | .towCmdTake _ _ => true
  | .towCmdYield _ _ => true
  | .joinWaitTimeout _ => true
  | .lzJobStart _ => true
  | .lzBlockDone _ fault => decide (fault < 3)
  | .hkSlot _ slot _ => decide (slot < 32)
  | .hkEvaluation _ _ => true
  | .sensorFail _ sensor => decide (sensor < 7)
  | .sensorRestore _ sensor => decide (sensor < 7)
  | .noraiseEnd _ => true
  | .thermalResetExit _ => true
  | .mgmtSession _ => true
  | .mgmtRead _ => true
  | .mgmtWrite _ => true
  | .mgmtSubscribe _ => true
  | .mgmtLog _ => true
  | .eventsSend _ slot => decide (slot < 4)
  | .sessionIdleExpiry _ slot => decide (slot < 4)
  | .eventAccept _ => true
  | .alertResponse _ => true
  | .i2cPointerWrite _ _ => true
  | .i2cRead _ _ => true
  | .logFlush _ => true
  | .jtagBypass _ => true
  | .jtagIdcode _ => true
  | .jtagSamplePreload _ _ _ => true
  | .jtagExtest _ _ => true
  | .jtagExtestPulse _ _ => true
  | .jtagExtestTrain _ _ => true
  | .jtagClamp _ => true
  | .jtagHighz _ => true
  | .monitorRecovery _ => true
  | .trstDeassert _ => true
  | .pairHbInEdge _ => true
  | .frameRowsEnd _ => true
  | .unframedOutputIdle _ => true

end Sys2Proof.WellFormed
end

