-- ==== Sys2Proof/Safety.lean ====
section
/-! DEFINITION. What the statements about runs speak of: the instant of a command, the invariant that every step keeps, and what counts as a
safe run. -/

namespace Sys2Proof.Safety

open Sys2Proof.Machine

/-- The instant a command happens: its first operand. -/
def instant (i : Instr) : Nat :=
  match i with
  | .registerWrite t _ _ _ => t
  | .lockClose t => t
  | .levelStage t _ _ => t
  | .levelReportReceived t _ _ => t
  | .levelWindowExpiry t => t
  | .commitToken t _ _ => t
  | .lockCycleEnd t => t
  | .forcedUnitReset t _ => t
  | .unitReload t _ _ => t
  | .bargeTake t _ _ => t
  | .shadowDiscard t _ => t
  | .topModeWrite t _ => t
  | .gpioSample t _ => t
  | .gpioAccept t => t
  | .porAssert t => t
  | .porDeassert t _ => t
  | .seqCheckRetry t _ => t
  | .resetExit t _ _ _ _ => t
  | .warnTrip t _ => t
  | .braceEventWindow t => t
  | .braceEnd t => t
  | .resetTrip t _ => t
  | .overvoltTrip t _ => t
  | .pwrResetWarm t _ => t
  | .trstAssert t => t
  | .flightSlot t => t
  | .domainPowerGood t => t
  | .powerGoodTimeout t => t
  | .domainDrained t _ => t
  | .domFailClear t _ _ => t
  | .imageHeaderRead t _ => t
  | .imageFirstPassDone t => t
  | .imageSecondPassDone t _ => t
  | .bootFreeRunTimeout t => t
  | .bootFirstCloseSet t => t
  | .updStart t => t
  | .updVerify t => t
  | .updCommit t => t
  | .updAbort t => t
  | .updData t _ => t
  | .updLenWrite t _ => t
  | .updVerifyDone t _ => t
  | .calSave t _ => t
  | .nvmOpDone t _ => t
  | .nvmOpTimeout t => t
  | .eraseSuspended t => t
  | .ringFrameRx t _ _ => t
  | .txFrameBoundary t _ => t
  | .loopbackPass t => t
  | .loopbackTimeout t => t
  | .weirRetry t => t
  | .linkUp t _ => t
  | .linkDown t _ _ => t
  | .pliashPacket t => t
  | .parityWaitExpiry t _ _ _ => t
  | .igmpQuery t => t
  | .keyMessage t => t
  | .ptpAnnounce t => t
  | .ptpSync t => t
  | .ptpDelayResp t => t
  | .delayReqTimer t => t
  | .timePortTimeout t _ => t
  | .announceTimeout t => t
  | .timeLockChange t => t
  | .ppsSecond t => t
  | .timeEvtPeriodic t _ => t
  | .pulseWidthExpiry t _ => t
  | .timeCapture t _ _ => t
  | .replicaRealign t => t
  | .launchArm t => t
  | .launchSlot t => t
  | .timedEgressDue t _ => t
  | .timedEgressDrop t _ => t
  | .sceneUnit t => t
  | .cmdlistUnit t => t
  | .mapUnit t => t
  | .chunkUnit t => t
  | .chunkDispatch t => t
  | .chunkDone t _ => t
  | .chunkAbandon t _ => t
  | .loadEstimateDone t => t
  | .blockIssue t => t
  | .blockDone t _ _ => t
  | .basinTrainDone t _ => t
  | .basinTrainRetry t => t
  | .basinEyeTrack t _ => t
  | .basinRefresh t _ => t
  | .selfRefreshEnter t => t
  | .selfRefreshExitDone t _ => t
  | .scrubGranule t _ => t
  | .basinCorrectedRead t _ => t
  | .basinUncorrectableRead t _ _ _ _ => t
  | .basinFlushDone t _ => t
  | .quarClear t _ => t
  | .tugUpdateStart t => t
  | .tugUpdateDone t _ _ => t
  | .scanUnderrun t _ => t
  | .frameEndCode t => t
  | .scanCheckDone t _ => t
  | .ownSample t _ _ => t
  | .ownInAsserted t => t
  | .blockLockAcquired t _ => t
  | .blockLockLost t _ _ => t
  | .rxAdaptDone t _ _ _ _ => t
  | .fomMonitor t _ _ => t
  | .sidebandPoll t _ _ => t
  | .bcRequestApply t => t
  | .bcTrainTimeout t => t
  | .monCfgWrite t _ => t
  | .monEyeScan t => t
  | .monScanDone t _ => t
  | .prbsSyncChange t _ _ _ _ => t
  | .errorInject t _ _ => t
  | .panelSeqStep t => t
  | .pgoodAssert t _ _ => t
  | .pgoodTimeout t => t
  | .pgoodLost t => t
  | .dischargeEnd t => t
  | .panelRetryWait t => t
  | .vrefPoint t _ => t
  | .vinTrip t => t
  | .crackLatch t => t
  | .crackClear t _ => t
  | .csiFrameStart t _ _ _ => t
  | .csiLine t _ _ _ _ _ _ => t
  | .csiFrameEnd t _ _ _ => t
  | .pipeLineTake t _ => t
  | .camSensorStart t _ => t
  | .cciWriteDone t _ _ => t
  | .cciDelayExpiry t _ => t
  | .fsyncPulse t _ _ => t
  | .strobePulse t => t
  | .glintPair t _ => t
  | .encPictureStart t => t
  | .encRowDone t => t
  | .encIdr t _ _ => t
  | .hbTick t => t
  | .hbLost t => t
  | .towHb t _ => t
  | .towSeal t _ => t
  | .deltaEyes t _ => t
  | .deltaRung t _ => t
  | .deltaSnapshot t _ => t
  | .deltaSurface t _ => t
  | .repairWant t _ => t
  | .repairHave t _ => t
  | .repairNone t _ => t
  | .repairWaitExpiry t _ _ _ => t
  | .towMsgLost t _ => t
  | .towTake t _ => t
  | .towYield t _ => t
  | .partnerFault t => t
  | .towCmdTake t _ => t
  | .towCmdYield t _ => t
  | .joinWaitTimeout t => t
  | .lzJobStart t => t
  | .lzBlockDone t _ => t
  | .hkSlot t _ _ => t
  | .hkEvaluation t _ => t
  | .sensorFail t _ => t
  | .sensorRestore t _ => t
  | .noraiseEnd t => t
  | .thermalResetExit t => t
  | .mgmtSession t => t
  | .mgmtRead t => t
  | .mgmtWrite t => t
  | .mgmtSubscribe t => t
  | .mgmtLog t => t
  | .eventsSend t _ => t
  | .sessionIdleExpiry t _ => t
  | .eventAccept t => t
  | .alertResponse t => t
  | .i2cPointerWrite t _ => t
  | .i2cRead t _ => t
  | .logFlush t => t
  | .jtagBypass t => t
  | .jtagIdcode t => t
  | .jtagSamplePreload t _ _ => t
  | .jtagExtest t _ => t
  | .jtagExtestPulse t _ => t
  | .jtagExtestTrain t _ => t
  | .jtagClamp t => t
  | .jtagHighz t => t
  | .monitorRecovery t => t
  | .trstDeassert t => t
  | .pairHbInEdge t => t
  | .frameRowsEnd t => t
  | .unframedOutputIdle t => t

/-- The invariant of the block that its rules imply: PAIR_ROLE names no role, A or B (R71, R390); at most 64 epoch bits are set (R100); while
TRST_L is asserted the TAP is in reset (R79). -/
def Inv (s : State) : Prop :=
  s.pwr.straps.pair < 3 ∧ s.img.otp.epoch ≤ 64 ∧ (s.jtag.trst = true → s.jtag = JtagSt.reset)

/-- A safe outcome: the block answers with a next state in which the invariant holds, no earlier than before. -/
def Safe (s : State) (o : Host.Outcome State Fault Refusal) : Prop :=
  match o with
  | .next u => Inv u ∧ s.clk.now ≤ u.clk.now
  | .fault _ => False
  | .refused _ => False

end Sys2Proof.Safety
end

