-- ==== Sys2Proof/Certificates/Slice0/Obligations.lean ====
section
/-! DEFINITION. The statements for the provers. Each command has a statement whose conclusion is its next state; the whole-machine statements
follow. A statement with several parts is the conjunction of parts defined here, so that each part can be proved by itself. -/

namespace Sys2Proof.Claims

open Sys2Proof.Machine Sys2Proof.Safety

/-- A part of `Obligations.LedgerWrites` (R7, R11, R13, R40, R56, R58). -/
def RegisterWriteByAccessCode : Prop :=
  ∀ (s : State) (t sid a : Nat) (v : Word), s.alive = true →
    (hasReg a = false → exec (.registerWrite t sid a v) s = .next (s.tick t)) ∧
    (hasReg a = true → s.img.manifestMask a = none →
      exec (.registerWrite t sid a v) s = .next ((s.tick t).raise 0x022 bTOP a sid)) ∧
    (∀ mask, hasReg a = true → s.img.manifestMask a = some mask → (s.tick t).writeBusy a v mask = none →
      (accessMasks a = (0, 0, 0, 0) → exec (.registerWrite t sid a v) s = .next (s.tick t)) ∧
      (∀ rws, accessMasks a = (0, rws, 0, 0) → rws ≠ 0 → a ≠ R.TOP_MODE →
        exec (.registerWrite t sid a v) s = .next
          (if s.lock.phase = .idle then
             { s.tick t with led := { s.led with shadow := s.led.shadow.setWord a (maskedWord (s.led.shadow.word a) v (mask &&& rws)) } }
           else { s.tick t with lock := { s.lock with holdQ := s.lock.holdQ ++ [{ addr := a, value := v, mask := mask }] } })) ∧
      (∀ w1c, accessMasks a = (0, 0, w1c, 0) → w1c ≠ 0 → ¬ (R.PWR_DOM_FAIL 0 ≤ a ∧ a ≤ R.PWR_DOM_FAIL 4) →
        exec (.registerWrite t sid a v) s = .next
          ((s.tick t).wrW a (s.led.live.word a &&& ~~~(v &&& BitVec.ofNat 32 mask &&& BitVec.ofNat 32 w1c)))))

/-- A part of `Obligations.LedgerWrites` (R7, R11, R13, R40, R56, R58). -/
def ModeAndDiscardWrites : Prop :=
  ∀ (s : State) (t : Nat) (v : Word), s.alive = true →
    (s.lock.phase = .idle → ∃ u, exec (.topModeWrite t v) s = .next u ∧
      u = { s.tick t with led := { s.led with shadow := u.led.shadow }, evt := u.evt,
                          lock := { s.lock with touched := u.lock.touched, originTent := u.lock.originTent } } ∧
      (∀ a, a ≠ R.TOP_MODE → u.led.shadow.word a = s.led.shadow.word a) ∧
      (∀ n, n < 8 → (u.led.shadow.word R.TOP_MODE).getLsbD n =
        if bitAt (s.srcMask F.TOP_MODE_SRC_MGMT) n then v.getLsbD n else (s.led.shadow.word R.TOP_MODE).getLsbD n) ∧
      (∀ n, n < 8 → u.lock.touched.getLsbD n = (s.lock.touched.getLsbD n ||
        (bitAt (s.srcMask F.TOP_MODE_SRC_MGMT) n && v.getLsbD n != (s.led.shadow.word R.TOP_MODE).getLsbD n)))) ∧
    (s.lock.phase ≠ .idle → s.lock.holdQ.length < 64 → exec (.topModeWrite t v) s =
      .next { s.tick t with lock := { s.lock with holdQ := s.lock.holdQ ++ [{ addr := R.TOP_MODE, value := v, mask := 0xFFFFFFFF }] } }) ∧
    (s.lock.phase ≠ .idle → 64 ≤ s.lock.holdQ.length →
      exec (.topModeWrite t v) s = .next ((s.tick t).raise 0x007 bTOP R.TOP_MODE s.lock.pound)) ∧
    exec (.shadowDiscard t v) s = .next
      (if bitAt v.toNat 0 = false then s.tick t
       else if s.lock.phase = .idle then { s.tick t with led := { s.led with shadow := s.cset.regs } }
       else { s.tick t with lock := { s.lock with discardReq := true } })

/-- A part of `Obligations.LockCloseAndLevels` (R34, R35, R36, R37). -/
def LockClosePrepares : Prop :=
  ∀ (s : State) (t : Nat), s.alive = true →
    (s.lock.running = true → s.lock.phase = .idle → ∃ u, exec (.lockClose t) s = .next u ∧
      u.lock.phase = .level ∧ u.lock.pound = s.lock.pound ∧ u.lock.nextPound = s.lock.nextPound ∧
      u.led.index = s.led.index ∧ u.led.bank0 = s.led.bank0 ∧ u.led.bank1 = s.led.bank1 ∧
      u.lock.frozen.regs = u.led.shadow ∧ u.lock.changed = decide (u.lock.frozen ≠ u.cset) ∧
      u.lock.want = maskOf ((List.range 20).filter (fun b => blockHasRws b && u.blockUp b))) ∧
    (s.lock.running = false ∨ s.lock.phase ≠ .idle → exec (.lockClose t) s = .next (s.tick t))

/-- A part of `Obligations.LockCloseAndLevels` (R34, R35, R36, R37). -/
def LevelStageReports : Prop :=
  ∀ (s : State) (t b i : Nat), s.alive = true →
    (s.canStage b i = true → exec (.levelStage t b i) s = .next { s.tick t with lock := { s.lock with
        stagedBy := (b, i) :: s.lock.stagedBy,
        sent := if ∀ j ∈ s.upInsts b, (b, j) ∈ (b, i) :: s.lock.stagedBy then s.lock.sent ++ [(s.tick t).levelReport b] else s.lock.sent } }) ∧
    (s.canStage b i = false → exec (.levelStage t b i) s = .next (s.tick t))

/-- A part of `Obligations.LockDecides` (R34, R36, R37, R38, R39, R45). -/
def LevelReportCounts : Prop :=
  ∀ (s : State) (t b flip : Nat) (r : LevelReport), s.alive = true → s.lock.phase = .level →
    s.lock.sent.find? (fun x => x.block == b) = some r →
    let rest := s.lock.sent.filter (fun x => x.block ≠ b)
    (r.veto = 0 → r.crc ^^^ (flip % 65536) ≠ s.lock.frozen.stagedCrc b →
      exec (.levelReportReceived t b flip) s = .next { s.tick t with lock := { s.lock with sent := rest } }) ∧
    (r.veto = 0 → r.crc ^^^ (flip % 65536) = s.lock.frozen.stagedCrc b → orBit s.lock.got b ≠ s.lock.want →
      exec (.levelReportReceived t b flip) s = .next { s.tick t with lock := { s.lock with
        sent := rest, got := orBit s.lock.got b, lastNs := ((s.tick t).dev - s.lock.closeAt) / 65536 } }) ∧
    (r.veto ≠ 0 ∨ (r.crc ^^^ (flip % 65536) = s.lock.frozen.stagedCrc b ∧ orBit s.lock.got b = s.lock.want) →
      ∃ u, exec (.levelReportReceived t b flip) s = .next u ∧ u.lock.phase = .opened ∧ u.lock.pound = s.lock.nextPound ∧
        u.lock.nextPound = poundAdd s.lock.nextPound 1 ∧
        u.cset = if outcomeOf s.lock.changed (s.lock.veto ||| r.veto) 0 s.lock.retry (s.cm F.TOP_LOCK_RETRY_RETRIES) = .applied
          then s.lock.frozen else s.cset)

/-- A part of `Obligations.LockDecides` (R34, R36, R37, R38, R39, R45). -/
def WindowExpiryDecides : Prop :=
  ∀ (s : State) (t : Nat), s.alive = true →
    (s.lock.phase = .level → ∃ u, exec (.levelWindowExpiry t) s = .next u ∧ u.lock.phase = .opened ∧
      u.lock.pound = s.lock.nextPound ∧ u.lock.nextPound = poundAdd s.lock.nextPound 1 ∧
      u.cset = if outcomeOf s.lock.changed s.lock.veto
                    (if s.lock.veto = 0 then maskOf ((maskBits 20 s.lock.want).filter (fun b => !bitAt s.lock.got b)) else 0)
                    s.lock.retry (s.cm F.TOP_LOCK_RETRY_RETRIES) = .applied
        then s.lock.frozen else s.cset) ∧
    (s.lock.phase ≠ .level → s.lock.missDue = false → exec (.levelWindowExpiry t) s = .next (s.tick t)) ∧
    (s.lock.phase ≠ .level → s.lock.missDue = true → ∃ u, exec (.levelWindowExpiry t) s = .next u ∧
      u.lock.missDue = false ∧ u.lock.phase = s.lock.phase ∧ u.led.index = s.led.index ∧ u.led.bank0 = s.led.bank0 ∧ u.led.bank1 = s.led.bank1 ∧
      ∀ b, b < 20 → u.lock.misses.getD b 0 =
        if bitAt s.lock.want b && !bitAt s.lock.got b && !bitAt s.lock.veto b then s.lock.misses.getD b 0 + 1 else 0)

/-- A part of `Obligations.TokensAndReloads` (R34, R40, R43, R44, R45, R47, R48). -/
def TokenAndCycleEnd : Prop :=
  ∀ (s : State) (t b i : Nat), s.alive = true →
    (s.lock.phase = .opened → (b, i) ∈ s.lock.await → exec (.commitToken t b i) s = .next
      ({ s.tick t with lock := { s.lock with await := s.lock.await.filter (· ≠ (b, i)) },
                       units := setUnit s.units { unitOf s.units b i with acted := some s.lock.pound } })) ∧
    (s.lock.phase = .opened → (∀ x ∈ s.lock.await, s.unitUp x.1 x.2 = false) → ∃ u, exec (.lockCycleEnd t) s = .next u ∧
      u.lock.phase = .idle ∧ u.lock.holdQ = [] ∧ u.lock.discardReq = false ∧ u.lock.await = [] ∧
      u.led.index = s.led.index ∧ u.led.bank0 = s.led.bank0 ∧ u.led.bank1 = s.led.bank1 ∧
      (s.lock.holdQ = [] → u.led.shadow = if s.lock.discardReq then s.cset.regs else s.led.shadow) ∧
      (s.lock.discardReq = true → u.led.shadow = s.cset.regs)) ∧
    (s.lock.phase = .opened → (∃ x ∈ s.lock.await, s.unitUp x.1 x.2 = true) → exec (.lockCycleEnd t) s = .next (s.tick t))

/-- A part of `Obligations.TokensAndReloads` (R34, R40, R43, R44, R45, R47, R48). -/
def ReloadAndBarge : Prop :=
  ∀ (s : State) (t b i : Nat), s.alive = true →
    ((unitOf s.units b i).reload = true → exec (.unitReload t b i) s = .next
      (({ s.tick t with units := setUnit s.units { unitOf s.units b i with reload := false, acted := if s.lock.everOpened then some s.lock.pound else (unitOf s.units b i).acted } } : State).raiseI 0x004 bTOP i b s.lock.pound)) ∧
    ((unitOf s.units b i).reload = false → exec (.unitReload t b i) s = .next (s.tick t)) ∧
    (∀ x r a, b ≠ bDEC → (unitOf s.units b i).inq = x :: r → (unitOf s.units b i).reload = false → (unitOf s.units b i).acted = some a →
      (laterPound x.tag a = true → exec (.bargeTake t b i) s = .next (s.tick t)) ∧
      (laterPound x.tag a = false → laterPound (poundSub a (bankCount b - 1)) x.tag = false →
        exec (.bargeTake t b i) s = .next { s.tick t with units := setUnit s.units { unitOf s.units b i with inq := r } }) ∧
      (laterPound x.tag a = false → laterPound (poundSub a (bankCount b - 1)) x.tag = true →
        exec (.bargeTake t b i) s = .next
          ((({ s.tick t with units := setUnit s.units { unitOf s.units b i with inq := r } } : State).inc F.TOP_STALE_CNT_COUNT).raise
            0x006 bTOP x.tag (poundSub a (bankCount b - 1))))) ∧
    (∀ a, (unitOf s.units bDEC i).acted = some a → (unitOf s.units bDEC i).reload = false → s.unitUp bDEC i = true →
      ∃ u, exec (.bargeTake t bDEC i) s = .next u ∧ u.dec.queue = s.dec.queue.filter (fun c => !laterPound a c.pound)) ∧
    ((unitOf s.units bDEC i).acted = none ∨ (unitOf s.units bDEC i).reload = true ∨ s.unitUp bDEC i = false →
      exec (.bargeTake t bDEC i) s = .next (s.tick t))

/-- A part of `Obligations.TokensAndReloads` (R34, R40, R43, R44, R45, R47, R48). -/
def ForcedReset : Prop :=
  ∀ (s : State) (t b : Nat) (insts : List Nat), s.alive = true → s.lock.forceDue.find? (fun e => e.1 == b) = some (b, insts) →
    (b = bTOP ∨ b = bTIME ∨ b = bBASIN ∨ b = bRING → exec (.forcedUnitReset t b) s = .next
      { s.tick t with lock := { s.lock with forceDue := s.lock.forceDue.filter (fun e => e.1 ≠ b) },
                      pwr := { s.pwr with fault := true, faultHeld := true }, pair := { s.pair with hbOut := false } }) ∧
    (¬ (b = bTOP ∨ b = bTIME ∨ b = bBASIN ∨ b = bRING) → b ≠ bDEC → b ≠ bSCAN → b ≠ bCOMP → b ≠ bLZ → exec (.forcedUnitReset t b) s = .next
      (State.each
        { ((s.tick t).raiseI 0x005 bTOP (if insts.length = 1 then insts.getD 0 0xFF else 0xFF) b (s.lock.misses.getD b 0)).wr F.TOP_STATUS_FORCED 1 with
          lock := { s.lock with forceDue := s.lock.forceDue.filter (fun e => e.1 ≠ b), misses := modAt s.lock.misses b (fun _ => 0),
                                recover := s.lock.recover.map (fun r => if r.code = 0x001 then { r with left := s.lock.windowOpens, busy := false } else r) } }
        insts (fun s i => { s with units := setUnit s.units { unitOf s.units b i with reload := true } }))) ∧
    (∀ i ∈ insts, b < 20 → ¬ (b = bTOP ∨ b = bTIME ∨ b = bBASIN ∨ b = bRING) → ∃ u, exec (.forcedUnitReset t b) s = .next u ∧
      (unitOf u.units b i).reload = true) ∧
    (b = bLZ → insts ≠ [] → ∃ u, exec (.forcedUnitReset t b) s = .next u ∧ u.lz.run = none ∧ (∀ q, u.lz.queue q = []) ∧ (∀ q, (u.lz.ctx q).st = 0))

/-- A command that may change what an image record reads: `f` acts on the state in which the records due by then have run, and those that it lets
go on run after it (R95). While no record waits, `f` is all that happens. -/
def amidRecords (s : State) (t : Nat) (c : Instr) (f : State → State) : Prop :=
  exec c s = .next (f (s.tick t).recordsRun).recordsRun

/-- Without a waiting record the records change nothing (R95). -/
def NoRecordWaits : Prop := ∀ s : State, s.img.recs = none → s.recordsRun = s

/-- A cold reset puts everything but what the always-on pins and the non-volatile parts hold at its reset value; the flash stands but for an
operation the reset cuts, `lost` where the supply of the sequencer fails as well. -/
def coldFrom (s u : State) (t : Nat) (lost : Bool) : Prop :=
  u.pwr.cold = true ∧ u.pwr.resetOut = PwrSt.reset.resetOut ∧ u.pwr.up = PwrSt.reset.up ∧ u.pwr.straps = s.pwr.straps ∧
  u.lock = LockSt.reset ∧ u.units = [] ∧ u.evt = EvtSt.reset ∧ u.led.shadow = [] ∧ u.led.bank0 = CSet.reset ∧ u.led.bank1 = CSet.reset ∧
  u.ring = RingSt.reset ∧ u.time = TimeSt.reset ∧ u.strm = StrmSt.reset ∧ u.sec = SecSt.reset ∧ u.dec = DecSt.reset ∧ u.comp = CompSt.reset ∧
  u.tug = TugSt.reset ∧ u.scan = ScanSt.reset ∧ u.basin = BasinSt.reset ∧ u.lanes = LanesSt.reset ∧ u.hk = HkSt.reset ∧ u.cam = CamSt.reset ∧
  u.enc = EncSt.reset ∧ u.pair = PairSt.reset ∧ u.lz = LzSt.reset ∧ u.mgmt = MgmtSt.reset ∧ u.tx = [] ∧
  u.img.flash = (s.img.nvmReset lost).flash ∧ (s.img.job = none → u.img.flash = s.img.flash) ∧ u.img.otp = s.img.otp ∧ u.jtag = { JtagSt.reset with trst := s.jtag.trst } ∧
  u.clk.now = max s.clk.now t ∧ u.pending = s.pending

/-- A part of `Obligations.ResetEntries` (R79, R80, R81). -/
def PorColdReset : Prop :=
  ∀ (s : State) (t : Nat), ∃ u, exec (.porAssert t) s = .next u ∧ coldFrom s u t false ∧ u.pwr.phase = .porHeld ∧ u.pwr.porLow = true

/-- A part of `Obligations.ResetEntries` (R79, R80, R81). -/
def ResetTrips : Prop :=
  ∀ (s : State) (t mon : Nat), mon < 18 →
    (mon = 5 ∨ mon = 16 → ∃ u, exec (.resetTrip t mon) s = .next u ∧ coldFrom s u t true ∧ u.pwr.phase = if s.pwr.porLow then .porHeld else .awaitRails) ∧
    (mon ≠ 5 → mon ≠ 16 → s.pwr.phase = .run → ∃ u, exec (.resetTrip t mon) s = .next u ∧ u.pwr.cold = false ∧ u.lock.phase = .idle ∧
       u.pwr.phase = .awaitRails ∧ u.jtag = s.jtag ∧
       u.img.flash = (s.img.nvmReset false).flash ∧ (s.img.job = none → u.img.flash = s.img.flash) ∧ u.evt.pending = s.evt.pending ∧
       u.hk = { s.hk with told := false } ∧ u.led.kept = some (s.led.bank0, s.led.bank1, s.led.index)) ∧
    (mon ≠ 5 → mon ≠ 16 → s.pwr.phase = .exitDue → s.pwr.cold = false → ∃ u, exec (.resetTrip t mon) s = .next u ∧
       u.pwr.phase = .awaitRails)

/-- A part of `Obligations.ResetReleasesAndExits` (R70, R71, R79, R80, R90, R91). -/
def ResetReleases : Prop :=
  ∀ (s : State) (t below : Nat), 
    (s.pwr.porLow = true → s.pwr.phase = .porHeld → below % 2 ^ 18 = 0 →
      exec (.porDeassert t below) s = .next { s.tick t with pwr := { s.pwr with porLow := false, phase := .exitDue } }) ∧
    (s.pwr.porLow = true → s.pwr.phase = .porHeld → below % 2 ^ 18 ≠ 0 →
      exec (.porDeassert t below) s = .next
        (({ s.tick t with pwr := { s.pwr with porLow := false, phase := .seqCheck } } : State).wr F.PWR_RST_CAUSE_SEQ 1)) ∧
    (s.pwr.phase = .seqCheck → below % 2 ^ 18 = 0 →
      exec (.seqCheckRetry t below) s = .next { s.tick t with pwr := { s.pwr with phase := .exitDue } }) ∧
    (s.pwr.phase = .seqCheck → below % 2 ^ 18 ≠ 0 →
      exec (.seqCheckRetry t below) s = .next (({ s.tick t with pwr := { s.pwr with phase := .seqCheck } } : State).wr F.PWR_RST_CAUSE_SEQ 1)) ∧
    (s.pwr.phase = .awaitRails → s.pwr.porLow = false →
      exec (.monitorRecovery t) s = .next
        (({ s.tick t with pwr := { s.pwr with phase := .exitDue, rails := false } } : State).wr F.PWR_MON_LIVE_WARN 0))

/-- A part of `Obligations.ResetReleasesAndExits` (R70, R71, R79, R80, R90, R91). -/
def ResetExits : Prop :=
  ∀ (s : State) (t size : Nat) (straps : Straps) (otp : Option Otp) (fl : List (Nat × List Byte)),
    (s.pwr.phase = .exitDue → ∃ u, exec (.resetExit t straps otp size fl) s = .next u ∧
      u.pwr.phase = .run ∧ u.pwr.straps = straps ∧ u.jtag = s.jtag ∧
      (s.img.otp ≠ Otp.blank → u.img.otp = s.img.otp) ∧ u.clk.devFine = 0 ∧ u.clk.exitAt = u.clk.now ∧
      (straps.testEn = true → u.img.load = s.img.load) ∧
      (straps.testEn = false → s.img.load = .off → s.img.job ≠ none → u.img.load = .off ∧ u.img.bus = XspiBus.reset) ∧
      (straps.testEn = false → s.img.load = .off → s.img.job = none → s.img.marks = 0 → u.img.load = .header ∧
        u.img.bank = if straps.bootBank then 1 - committedBank u.img.flash else committedBank u.img.flash)) ∧
    (s.pwr.phase ≠ .exitDue → exec (.resetExit t straps otp size fl) s = .next (s.tick t))

/-- A part of `Obligations.ResetReleasesAndExits` (R70, R71, R79, R80, R90, R91). -/
def WarmResetRequests : Prop :=
  ∀ (s : State) (t : Nat) (v : Word), s.alive = true →
    (v.toNat >>> 16 = 0x5752 → bitAt v.toNat 0 = true → ∃ u, exec (.pwrResetWarm t v) s = .next u ∧ u.pwr.phase = .exitDue ∧
      u.pwr.cold = false ∧ u.jtag = s.jtag ∧ u.img.flash = (s.img.nvmReset false).flash ∧
      (s.img.job = none → u.img.flash = s.img.flash) ∧ u.hk = { s.hk with told := false } ∧
      u.led.kept = some (s.led.bank0, s.led.bank1, s.led.index) ∧ u.img.otp = s.img.otp ∧ u.pwr.straps = s.pwr.straps ∧
      u.lock.phase = .idle ∧ u.lock.everOpened = false ∧ u.basin = BasinSt.reset ∧ u.comp = CompSt.reset ∧ u.evt.ring = s.evt.ring ∧
      u.lock.gpioAcc = s.lock.gpioAcc) ∧
    (¬ (v.toNat >>> 16 = 0x5752 ∧ bitAt v.toNat 0 = true) → exec (.pwrResetWarm t v) s = .next (s.tick t))

/-- A part of `Obligations.BracesAndFailClear` (R77, R82, R83). -/
def BraceRuns : Prop :=
  ∀ (s : State) (t mon : Nat),
    let r := (s.tick t).recordsRun
    let opened := if r.lock.everOpened then [r.lock.pound] else []
    (s.island = true → mon < 18 → r.pwr.phase = .run → r.pwr.brace = none → ∃ v : State, exec (.warnTrip t mon) s = .next v.recordsRun ∧
      v.pwr = { r.pwr with brace := some { since := r.clk.now, mask := 2 ^ mon, trips := 2 ^ mon, raised := false, pounds := opened },
                           marked := (opened ++ r.pwr.marked).take 16 } ∧
      (∀ j o l, r.img.job = some j → j.ops = o :: l → o.kind = 3 ∨ o.kind = 4 → v.img.suspend = true)) ∧
    (s.island = true → mon < 18 → r.pwr.phase = .run → ∀ b, r.pwr.brace = some b → ∃ v : State, exec (.warnTrip t mon) s = .next v.recordsRun ∧
      v.pwr = { r.pwr with brace := some { b with trips := orBit b.trips mon,
                                                   mask := if b.raised ∨ b.since + 200 < r.clk.now then b.mask else orBit b.mask mon } }) ∧
    (s.alive = true → ∀ b, s.pwr.brace = some b →
      exec (.braceEventWindow t) s = .next (if b.raised then s.tick t else
        ({ s.tick t with pwr := { s.pwr with brace := some { b with raised := true } } } : State).raise 0x101 bPWR b.mask s.lock.pound)) ∧
    (s.alive = true → ∀ b, r.pwr.brace = some b → ∃ v : State, exec (.braceEnd t) s = .next v.recordsRun ∧ v.pwr.brace = none ∧
      v.rd F.PWR_MON_LIVE_WARN = 0 ∧ v.rd F.PWR_BRACE_LAST_DUR_US = satN 0xFFFFFFFF ((r.clk.now - b.since) / 1000))

/-- A part of `Obligations.BracesAndFailClear` (R77, R82, R83). -/
def FailClear : Prop :=
  ∀ (s : State) (t n : Nat) (v : Word),
    let r := s.tick t
    (s.alive = true → n < 5 → s.rdW (R.PWR_DOM_FAIL n) &&& v = 0#32 → s.pwr.slot.isSome ∨ s.pwr.brace.isSome ∨ (s.pwr.upQ = [] ∧ s.pwr.downQ = []) →
      exec (.domFailClear t n v) s = .next (r.wrW (R.PWR_DOM_FAIL n) (s.rdW (R.PWR_DOM_FAIL n) &&& ~~~v))) ∧
    (s.alive = true → n < 5 → ∃ u, exec (.domFailClear t n v) s = .next u ∧
      u.led = { s.led with live := s.led.live.setWord (R.PWR_DOM_FAIL n) (s.rdW (R.PWR_DOM_FAIL n) &&& ~~~v) } ∧
      (∀ b, b < 32 → (s.rdW (R.PWR_DOM_FAIL n) &&& v).getLsbD b = true → u.pwr.retried.contains (32 * n + b) = false))

/-- A part of `Obligations.ImageLoads` (R87, R90, R92, R93, R95, R96, R97, R98, R99, R102, R103). -/
def ImageHeaderLoads : Prop :=
  ∀ (s : State) (t dqs : Nat), s.alive = true → s.img.load = .header →
    let b := flashBytes s.img.flash (bankBase s.img.bank) 256
    let bad := headerCause b ≠ 0 ∨ bitAt s.img.torn s.img.bank = true ∨ 2 ≤ dqs
    ∃ u, exec (.imageHeaderRead t dqs) s = .next u ∧
      (¬ bad → u.img.load = .pass1 ∧ u.img.hdr = parseHeader b ∧ u.img.bank = s.img.bank) ∧
      (bad → s.img.second = true → u.img.load = .imageFail) ∧
      (bad → s.img.second = false → u.img.bank = 1 - s.img.bank ∧ u.img.second = true ∧
        u.img.load = if bitAt s.img.marks (1 - s.img.bank) then .imageFail else .header) ∧
      (u.img.flash = s.img.flash ∧ u.img.otp = s.img.otp)

/-- A part of `Obligations.ImageLoads` (R87, R90, R92, R93, R95, R96, R97, R98, R99, R102, R103). -/
def ImagePassesEnd : Prop :=
  ∀ (s : State) (t : Nat) (same : Bool), s.alive = true →
    (s.img.load = .pass1 → s.img.signatureCause s.img.bank s.img.hdr = 0 →
      let b := flashBytes s.img.flash (bankBase s.img.bank + s.img.hdr.recOff) s.img.hdr.recLen
      let v := (((s.tick t).bootStep 6).raise 0x302 bIMG s.img.bank s.img.hdr.version).bootStep 7
      let r := State.records (b.length / 16 + 1) b v.clk.now { v with led := { v.led with kept := none }, img := { v.img with load := .pass1, recs := none } }
      (r.2 = .done → r.1.loadVetoes = false →
        exec (.imageFirstPassDone t) s = .next { r.1 with img := { r.1.img with load := .pass2, recs := none } }) ∧
      (r.2 = .done → r.1.loadVetoes = true → exec (.imageFirstPassDone t) s = .next (r.1.failBank 9)) ∧
      (r.2 = .fail → exec (.imageFirstPassDone t) s = .next (r.1.failBank 9)) ∧
      (r.2 = .gone → exec (.imageFirstPassDone t) s = .next r.1) ∧
      (∀ rest till poll, r.2 = .wait rest till poll → exec (.imageFirstPassDone t) s = .next
        { r.1 with img := { r.1.img with load := .pass2, recs := some (rest, till, poll) } })) ∧
    (s.img.load = .pass1 → s.img.signatureCause s.img.bank s.img.hdr ≠ 0 → ∃ u, exec (.imageFirstPassDone t) s = .next u ∧
      u.img.manifest = [] ∧ u.led.bank0 = LedSt.reset.bank0 ∧ u.led.bank1 = LedSt.reset.bank1 ∧
      u.img.load = if s.img.second || bitAt s.img.marks (1 - s.img.bank) then .imageFail else .header) ∧
    (∀ tables man, s.img.load = .pass2 → s.img.recs = none → s.img.bankTables s.img.bank s.img.hdr = some tables →
      s.cset.camShare tables = false → s.img.bankManifest s.img.bank s.img.hdr = some man → ∃ u, exec (.imageSecondPassDone t same) s = .next u ∧
        (same = true → u.img.load = .loaded ∧ u.img.manifest = man ∧ u.img.tables = (s.img.withCal tables).2 ∧ u.pwr.resetOut = false ∧
          u.img.trained = true) ∧
        (same = false → u.pwr.phase = .exitDue ∧ u.pwr.cold = false ∧ u.img.marks = orBit s.img.marks s.img.bank ∧
          u.img.flash = (s.img.nvmReset false).flash))

/-- A part of `Obligations.ImageLoads` (R87, R90, R92, R93, R95, R96, R97, R98, R99, R102, R103). -/
def WaitingRecords : Prop :=
  ∀ (s : State) (t till : Nat) (same poll : Bool) (b : List Byte), s.alive = true → s.img.load = .pass2 → s.img.recs = some (b, till, poll) →
    let v := s.tick t
    let now := max s.clk.now t
    (poll = true → v.pollMet b = false → now ≤ till → exec (.imageSecondPassDone t same) s = .next v) ∧
    (poll = true → till < now → exec (.imageSecondPassDone t same) s = .next (v.failBank 9)) ∧
    (poll = true → v.pollMet b = true → now ≤ till → v.recordsRun = v.runRecords (b.drop 16) now) ∧
    (poll = false → now < till → exec (.imageSecondPassDone t same) s = .next v) ∧
    (poll = false → till ≤ now → v.recordsRun = v.runRecords b till)

/-- The next state of a refused update command. -/
def updRefused (s : State) (t : Nat) : State := (s.tick t).raise 0x304 bIMG (s.rd F.IMG_UPD_STAT_STATE) 0xFFFFFFFF

/-- A part of `Obligations.FirmwareUpdate` (R104, R105, R106). -/
def UpdateCommands : Prop :=
  ∀ (s : State) (t : Nat), s.alive = true →
    let st := s.rd F.IMG_UPD_STAT_STATE
    let off := s.rd F.IMG_UPD_OFF_OFF
    let len := s.rd F.IMG_UPD_LEN_LENGTH
    (st = 0 ∨ st = 5 ∨ st = 6 → updLenOk len = true → ∃ u, exec (.updStart t) s = .next u ∧ u.img.updBuf = [] ∧ u.img.updDone = 0 ∧
      u.img.flash = s.img.flash ∧ (u.rd F.IMG_UPD_STAT_STATE = 1 ∧ u.rd F.IMG_UPD_OFF_OFF = 0)) ∧
    (st = 1 → off = len → s.img.updBuf = [] → exec (.updVerify t) s = .next (((s.tick t).wr F.IMG_UPD_STAT_STATE 2).showNvm.raise 0x304 bIMG 2 off)) ∧
    (st = 3 → ∃ u, exec (.updCommit t) s = .next u ∧ u.img.flash = s.img.flash ∧
      (∃ j, (u.img.job = some j ∨ j ∈ u.img.jobs) ∧ j.ops = (commitJob s.img.flash s.inactiveBank).ops ∧
        j.who = (commitJob s.img.flash s.inactiveBank).who) ∧
      (u.rd F.IMG_UPD_STAT_STATE = 4)) ∧
    (st = 1 ∨ st = 2 ∨ st = 3 → exec (.updAbort t) s = .next
      ((({ s.tick t with img := { s.img with updBuf := [] } } : State).wr F.IMG_UPD_STAT_CAUSE 14).wr F.IMG_UPD_STAT_STATE 6 |>.showNvm.raise 0x304 bIMG 6 14)) ∧
    (¬ ((st = 0 ∨ st = 5 ∨ st = 6) ∧ updLenOk len = true) → exec (.updStart t) s = .next (updRefused s t)) ∧
    (¬ (st = 1 ∧ off = len ∧ s.img.updBuf = []) → exec (.updVerify t) s = .next (updRefused s t)) ∧
    (st ≠ 3 → exec (.updCommit t) s = .next (updRefused s t)) ∧
    (¬ (st = 1 ∨ st = 2 ∨ st = 3) → exec (.updAbort t) s = .next (updRefused s t))

/-- A part of `Obligations.FirmwareUpdate` (R104, R105, R106). -/
def UpdateData : Prop :=
  ∀ (s : State) (t : Nat) (v : Word) (err : Bool), s.alive = true →
    let st := s.rd F.IMG_UPD_STAT_STATE
    let off := s.rd F.IMG_UPD_OFF_OFF
    (st = 1 → off < s.rd F.IMG_UPD_LEN_LENGTH → s.img.updBuf.length + 4 ≤ 65536 → ∃ u, exec (.updData t v) s = .next u ∧
      u.img.updBuf = s.img.updBuf ++ leBytes 4 v.toNat ∧ u.img.flash = s.img.flash ∧
      (off + 4 < 2 ^ 25 → u.rd F.IMG_UPD_OFF_OFF = off + 4)) ∧
    (st ≠ 1 ∨ s.rd F.IMG_UPD_LEN_LENGTH ≤ off ∨ 65536 < s.img.updBuf.length + 4 → exec (.updData t v) s = .next (s.tick t)) ∧
    exec (.updLenWrite t v) s = .next
      (if st = 0 ∨ st = 5 ∨ st = 6 then
        (s.tick t).wrW R.IMG_UPD_LEN (maskedWord (s.rdW R.IMG_UPD_LEN) v (0xFFFFFFFF &&& F.IMG_UPD_LEN_LENGTH.mask)) else s.tick t) ∧
    (st = 2 → err = false → s.verifyCause = 0 →
      exec (.updVerifyDone t err) s = .next (((s.tick t).wr F.IMG_UPD_STAT_STATE 3).showNvm.raise 0x304 bIMG 3 off)) ∧
    (st = 2 → err = true ∨ s.verifyCause ≠ 0 → exec (.updVerifyDone t err) s = .next
      ((({ s.tick t with img := { s.img with updBuf := [] } } : State).wr F.IMG_UPD_STAT_CAUSE (if err then 12 else s.verifyCause)).wr
        F.IMG_UPD_STAT_STATE 6 |>.showNvm.raise 0x304 bIMG 6 (if err then 12 else s.verifyCause)))

/-- A part of `Obligations.FlashJobs` (R101, R106, R107, R108, R109). -/
def FlashOperations : Prop :=
  ∀ (s : State) (t : Nat) (j : NvmJob) (o : NvmOp) (rest : List NvmOp),
    let r := (s.tick t).recordsRun
    r.img.job = some j → j.ops = o :: rest →
    (∃ u : State, exec (.nvmOpDone t true) s = .next u.recordsRun.flashFree ∧ u.img.flash = o.apply r.img.flash ∧ u.img.suspend = false ∧
      u.img.otp = r.img.otp.program o ∧
      (rest ≠ [] → j.who ≠ .save → ∃ k, (u.img.job = some k ∨ k ∈ u.img.jobs) ∧ k.who = j.who ∧ k.ops = rest)) ∧
    (j.retry = false → r.pwr.brace = none → r.pwr.phase = .run → ∃ u : State, exec (.nvmOpDone t false) s = .next u.recordsRun.flashFree ∧
      u.img = { r.img with job := some { j with retry := true }, suspend := false } ∧ u.evt = (r.raise 0x306 bIMG o.kind o.addr).evt) ∧
    (j.retry = false → r.pwr.brace.isSome = true ∨ r.pwr.phase ≠ .run → ∃ u : State, exec (.nvmOpDone t false) s = .next u.recordsRun.flashFree ∧
      u.img = { r.img with job := none, jobs := { j with retry := true } :: r.img.jobs, suspend := false } ∧
      u.evt = (r.raise 0x306 bIMG o.kind o.addr).evt) ∧
    (j.retry = true → ∃ u : State, exec (.nvmOpDone t false) s = .next u.recordsRun.flashFree ∧ u.img.flash = r.img.flash ∧ u.img.otp = r.img.otp ∧
      (∀ c sq, j.who = .cal c sq → (calJobOf (1 - c) sq j.data ∈ u.img.jobs ∨ u.img.job = some (calJobOf (1 - c) sq j.data)))) ∧
    (o.kind = 1 → exec (.nvmOpTimeout t) s = .next r.recordsRun.flashFree) ∧
    (o.kind ≠ 1 → j.retry = false → r.pwr.brace = none → r.pwr.phase = .run → exec (.nvmOpTimeout t) s = .next
      (State.recordsRun { (r.raise 0x306 bIMG o.kind o.addr).wr F.IMG_NVM_STAT_SUSPENDED 0 with
        img := { r.img with job := some { j with retry := true }, suspend := false } }).flashFree) ∧
    (o.kind ≠ 1 → j.retry = true → ∃ u : State, exec (.nvmOpTimeout t) s = .next u.recordsRun.flashFree ∧ u.img.flash = r.img.flash ∧ u.img.otp = r.img.otp)

/-- A part of `Obligations.FlashJobs` (R101, R106, R107, R108, R109). -/
def SuspendAndCalSave : Prop :=
  ∀ (s : State) (t : Nat) (v : Word), s.alive = true →
    let r := (s.tick t).recordsRun
    (r.img.suspend = true → r.pwr.brace.isSome = true → exec (.eraseSuspended t) s = .next (r.wr F.IMG_NVM_STAT_SUSPENDED 1).recordsRun) ∧
    (r.img.suspend = true → r.pwr.brace = none → ∃ u : State, exec (.eraseSuspended t) s = .next u.recordsRun ∧
      (u.img.suspend = false ∧ u.rd F.IMG_NVM_STAT_SUSPENDED = 0)) ∧
    (r.img.suspend = false → exec (.eraseSuspended t) s = .next r.recordsRun) ∧
    (bitAt v.toNat 0 = true → ∃ u, exec (.calSave t v) s = .next u ∧ u.img.flash = s.img.flash ∧
      (s.img.job = none → s.img.jobs = [] → s.pwr.brace = none → s.img.load ≠ .imageFail →
        ∃ j, u.img.job = some j ∧ j.data = calContents s.calTables ∧ j.who = match latestCal s.img.flash with
          | none => .cal 0 0
          | some (c, sq, _) => .cal (1 - c) (poundAdd sq 1)) ∧
      (s.img.job.isSome = true ∨ s.pwr.brace.isSome = true → ∃ j ∈ u.img.jobs, j.who = .save ∧ j.data = calContents s.calTables)) ∧
    (bitAt v.toNat 0 = false → exec (.calSave t v) s = .next (s.tick t))

/-- A part of `Obligations.RingFrames` (R114, R115, R116, R117, R118, R121). -/
def RingFrameRows : Prop :=
  ∀ (s : State) (t x : Nat) (f : Frame), s.alive = true → s.ring.weirOpen = true → (s.ring.port x).link = 2 → x < 2 → f.headBad = false →
    ∃ u, exec (.ringFrameRx t x f) s = .next u ∧ u.ring.weirOpen = true ∧
      let v := s.tick t
      (f.tagged = true → f.origin = s.mac →
        u.ring.ports = s.ring.ports ∧ u.ring.rx = s.ring.rx ∧ u.ring.ptp = s.ring.ptp ∧ u.ring.queries = s.ring.queries) ∧
      (f.tagged = true → f.origin ≠ s.mac → f.tagVer ≠ 1 →
        u.ring.ports = (v.forward (1 - x) f f.data v.dev).ring.ports ∧ u.ring.rx = s.ring.rx ∧ u.ring.tagBad = modAt s.ring.tagBad x (· + 1)) ∧
      (f.tagged = true → f.origin ≠ s.mac → f.tagVer = 1 → f.dst = s.mac ∨ f.hop = 1 → u.ring.ports = s.ring.ports) ∧
      (f.tagged = true → f.origin ≠ s.mac → f.tagVer = 1 → f.dst ≠ s.mac → f.hop ≠ 1 →
        u.ring.ports = (v.forward (1 - x) f (withHop f.data ((f.hop + 255) % 256)) v.dev).ring.ports) ∧
      (f.tagged = false → f.type12 = 0x8808 ∨ f.dst = s.mac → u.ring.ports = s.ring.ports) ∧
      (f.tagged = false → f.type12 ≠ 0x8808 → f.dst ≠ s.mac →
        let w := v.forward (1 - x) f (withTag f.data (s.ownTag (1 - x) true)) v.dev
        u.ring.ports = (if s.cm F.RING_TAG_DUAL = 1 then w.dualCopy x f v.dev else w).ring.ports)

/-- A part of `Obligations.RingFrames` (R114, R115, R116, R117, R118, R121). -/
def RingClosedFrames : Prop :=
  ∀ (s : State) (t x : Nat) (f : Frame), s.alive = true →
    s.ring.weirOpen = false ∨ (s.ring.port x).link ≠ 2 ∨ 2 ≤ x →
      exec (.ringFrameRx t x f) s = .next (s.tick t) ∧ (2 ≤ x → exec (.txFrameBoundary t x) s = .next (s.tick t)) ∧
      (x < 2 → exec (.txFrameBoundary t x) s = .next (s.tick t).encSents) ∧ (s.tick t).encSents.ring = s.ring

/-- A datagram is a Pliash packet with a sound header (R128), of type `ty`. -/
def PliashOk (d : Datagram) (ty : Nat) : Prop :=
  let b := d.data
  let len := beAt b 6 2
  16 ≤ b.length ∧ (crc32c (b.take 12)).toNat = beAt b 12 4 ∧ beAt b 0 1 = 1 ∧ beAt b 1 1 = ty ∧ 16 + len ≤ b.length ∧
    beAt b 2 1 < 8 ∧
    (if ty = 1 then (if bitAt (beAt b 2 1) 0 then beAt b 3 1 < 32 else beAt b 3 1 = 0)
     else if ty = 2 then 1 ≤ beAt b 3 1 ∧ beAt b 3 1 ≤ 8 else beAt b 3 1 = 0) ∧
    (d.grp < 16 ∨ ty = 4) ∧ (ty = 4 → beAt b 2 1 = 6)

/-- A part of `Obligations.GroupsQueriesKeys` (R127, R131, R133, R134, R402). -/
def ParityGroupWaits : Prop :=
  ∀ (s : State) (t grp chan k : Nat), s.alive = true →
    (chanOf s.strm.chans grp chan = none → exec (.parityWaitExpiry t grp chan k) s = .next (s.tick t)) ∧
    ∀ c, chanOf s.strm.chans grp chan = some c →
      (c.group k = none → exec (.parityWaitExpiry t grp chan k) s = .next (s.tick t)) ∧
      ∀ g, c.group k = some g →
        (g.st = 1 ∨ g.st = 2 → exec (.parityWaitExpiry t grp chan k) s = .next (s.tick t)) ∧
        (g.st = 0 → s.repairs = true → g.missing ≠ [] → exec (.parityWaitExpiry t grp chan k) s = .next
          ((s.tick t).putChan (c.putGroup { g with st := 1, wanted := g.missing, firstAt := max s.clk.now t }))) ∧
        (g.st = 0 → s.repairs = false ∨ g.missing = [] → exec (.parityWaitExpiry t grp chan k) s = .next
          (let w := (s.tick t).countLost c g.missing
           (w.putChan ((c.putGroup { g with st := 2, parity := g.parity.map (fun p => (p.1, [])), wanted := [] }).prune w.towNeeds)).runParser grp chan))

/-- A part of `Obligations.GroupsQueriesKeys` (R127, R131, R133, R134, R402). -/
def QueriesAnswered : Prop :=
  ∀ (s : State) (t : Nat), s.alive = true →
    (s.ring.queries = [] → exec (.igmpQuery t) s = .next (s.tick t)) ∧
    (∀ v6 g r, s.ring.queries = (v6, g) :: r →
      let s0 : State := { s.tick t with ring := { s.ring with queries := r } }
      let asked := s.cset.rxAddrs.filter (fun a => (isMapped4 a != v6) && (g == 0 || a == g))
      let g4 := asked.filter isMapped4
      let g6 := asked.filter (fun a => !isMapped4 a)
      let l := LFrame.of (max s.clk.now t) 3 0 []
      (s.cm F.RING_IP_CFG_REPORT ≠ 1 → exec (.igmpQuery t) s = .next s0) ∧
      (s.cm F.RING_IP_CFG_REPORT = 1 → exec (.igmpQuery t) s = .next
        (let s1 := if g4 = [] ∨ s.cm F.RING_IP4_ADDR = 0 then s0 else s0.queueBoth l 0x01005E000016 0x0800 (igmpReport (s.cm F.RING_IP4_ADDR) 2 g4)
         if g6 = [] then s1 else s1.queueBoth l 0x333300000016 0x86DD (mldReport (linkLocal s.mac) 2 g6))))

/-- A part of `Obligations.GroupsQueriesKeys` (R127, R131, R133, R134, R402). -/
def KeysLoad : Prop :=
  ∀ (s : State) (t : Nat), s.alive = true →
    (s.sec.queue = [] → exec (.keyMessage t) s = .next (s.tick t)) ∧
    (∀ m r c, s.sec.queue = m :: r → s.keyCheck m = .inl c → exec (.keyMessage t) s = .next
      ((({ s.tick t with sec := { s.sec with queue := r } } : State).inc F.SEC_KEY_CNT_REFUSED).raise 0xF01 bSEC c (beAt m 12 4))) ∧
    (∀ m r, s.sec.queue = m :: r → m.length ≠ 344 → s.keyCheck m = .inl 1) ∧
    (∀ m r h, s.sec.queue = m :: r → s.keyCheck m = .inr h → ∃ u, exec (.keyMessage t) s = .next u ∧ u.sec.queue = r ∧
      u.sec.half (h.slot + 16 * h.gen) = some h ∧
      (∀ k, k < 32 → k ≠ h.slot + 16 * h.gen → u.sec.half k = s.sec.half k) ∧
      laterPound (beAt m 12 4) (s.rd F.SEC_KSEQ_KSEQ) = true ∧ u.rd F.SEC_KSEQ_KSEQ = beAt m 12 4 ∧
      u.rd F.SEC_KEY_STAT_LOADED = orBit (s.rd F.SEC_KEY_STAT_LOADED) (2 * h.slot + h.gen) ∧
      u.evt = ((s.tick t).raise 0xF00 bSEC (h.slot + 16 * h.gen) (beAt m 12 4)).evt)

/-- A queued message is an Announce. -/
def isAnnounce (m : PtpMsg) : Bool := beAt m.msg 0 1 % 16 == 11

/-- A queued message is a Sync or a Follow_Up. -/
def isSync (m : PtpMsg) : Bool := beAt m.msg 0 1 % 16 == 0 || beAt m.msg 0 1 % 16 == 8

/-- A queued message is a Delay_Resp. -/
def isDelayResp (m : PtpMsg) : Bool := beAt m.msg 0 1 % 16 == 9

/-- A part of `Obligations.MastersAndTimePort` (R137, R140, R146). -/
def MastersAreSelected : Prop :=
  ∀ (s : State) (t : Nat), s.alive = true →
    (takePtp isAnnounce s.ring.ptp = none → exec (.ptpAnnounce t) s = .next (s.tick t)) ∧
    (∀ p r, takePtp isAnnounce s.ring.ptp = some (p, r) →
      let now := max s.clk.now t
      let id := ptpPort p.msg
      let rest := s.time.masters.filter (fun y => y.portId ≠ id)
      let old := s.time.masters.find? (fun y => y.portId == id)
      let chosen := fun (u : State) => u.time.master = bestMaster u.time.masters now (s.time.master.map Master.portId)
      (s.ptpOurs p.msg = false ∨ p.msg.length < 64 ∨ s.ring.weirOpen = false →
        exec (.ptpAnnounce t) s = .next { s.tick t with ring := { s.ring with ptp := r } }) ∧
      (s.ptpOurs p.msg = true → 64 ≤ p.msg.length → s.ring.weirOpen = true → ptpLog p.msg < -3 ∨ 3 < ptpLog p.msg →
        ∃ u, exec (.ptpAnnounce t) s = .next u ∧ u.ring.ptp = r ∧ u.time.masters = rest ∧ chosen u) ∧
      (s.ptpOurs p.msg = true → 64 ≤ p.msg.length → s.ring.weirOpen = true → -3 ≤ ptpLog p.msg → ptpLog p.msg ≤ 3 →
        (∃ o, old = some o ∧ o.lastSeq = beAt p.msg 30 2) →
        exec (.ptpAnnounce t) s = .next { s.tick t with ring := { s.ring with ptp := r } }) ∧
      (s.ptpOurs p.msg = true → 64 ≤ p.msg.length → s.ring.weirOpen = true → -3 ≤ ptpLog p.msg → ptpLog p.msg ≤ 3 →
        (∀ o, old = some o → o.lastSeq ≠ beAt p.msg 30 2) →
        ∃ u, exec (.ptpAnnounce t) s = .next u ∧ u.ring.ptp = r ∧ chosen u ∧
          u.time.masters = { portId := id, gmId := beAt p.msg 53 8, rank := announceRank p.msg, logInt := ptpLog p.msg,
                             lastSeq := beAt p.msg 30 2, lastAt := now, prevAt := old.map Master.lastAt, addr := p.src, mac := p.mac,
                             syncOk := (old.map Master.syncOk).getD true, sync := old.bind Master.sync } :: rest)) ∧
    (s.time.master = none → exec (.announceTimeout t) s = .next (s.tick t)) ∧
    (∀ m, s.time.master = some m → max s.clk.now t < m.lastAt + s.cm F.TIME_PTP_CFG_ANN_TIMEOUT * logNs m.logInt →
      exec (.announceTimeout t) s = .next (s.tick t)) ∧
    (∀ m, s.time.master = some m → m.lastAt + s.cm F.TIME_PTP_CFG_ANN_TIMEOUT * logNs m.logInt ≤ max s.clk.now t →
      ∃ u, exec (.announceTimeout t) s = .next u ∧
      u.time.masters = s.time.masters.filter (fun y => y.portId ≠ m.portId) ∧
      u.time.master = bestMaster u.time.masters (max s.clk.now t) none ∧
      u.time.integ = s.time.integ ∧ u.clk.rate = s.time.integ + s.time.ff ∧
      (u.time.master = none → u.rd F.TIME_STATUS_FREE_RUN = 1) ∧ (u.time.master ≠ none → u.rd F.TIME_STATUS_FREE_RUN = 0))

/-- The servo's computation of R143 and R145 from the offset `ms` of a Sync from its path delay and the last sample `sm`. -/
def servoTerms (v u : State) (ms sm : Int) : Prop :=
  let path := match v.time.path with | none => sar (ms + sm) 1 | some p => p + sar (sar (ms + sm) 1 - p) 4
  let o := ms - path - v.cmS F.TIME_ASYM_ASYM * 256
  u.time.path = some path ∧ u.time.offset = o ∧ u.time.ff = v.time.ff ∧
  (o.natAbs ≤ v.cm F.TIME_LOCK_LOCK_NS * 65536 → u.time.inRun = v.time.inRun + 1 ∧ u.time.outRun = 0) ∧
  (v.cm F.TIME_LOCK_LOCK_NS * 65536 < o.natAbs → u.time.inRun = 0 ∧ u.time.outRun = v.time.outRun + 1) ∧
  ((o.natAbs : Int) ≤ (v.cm F.TIME_LOCK_STEP_US : Int) * 65536000 →
    u.time.integ = clampI (-servoLim) servoLim (v.time.integ + sar (o * (v.cm F.TIME_SERVO_KI : Int)) 8) ∧
    u.clk = { v.clk with rate := clampI (-servoLim) servoLim (sar (o * (v.cm F.TIME_SERVO_KP : Int)) 8 + u.time.integ + v.time.ff) }) ∧
  ((v.cm F.TIME_LOCK_STEP_US : Int) * 65536000 < o.natAbs →
    u.time.integ = v.time.integ ∧ u.clk.rate = clampI (-servoLim) servoLim (v.time.integ + v.time.ff) ∧
    (v.lock.everOpened = true → u.time.step = some (-o) ∧ u.clk.devFine = v.clk.devFine) ∧
    (v.lock.everOpened = false → u.clk.devFine = natOf ((v.clk.devFine : Int) - o * 1000000000)))

/-- A part of `Obligations.MastersAndTimePort` (R137, R140, R146). -/
def TimePortMoves : Prop :=
  ∀ (s : State) (t missed : Nat), s.alive = true →
    let p := s.timePort
    let gap := (s.tick t).syncGap
    (s.time.master.isSome = true → s.time.syncHop.getD (1 - p) 0 ≠ 0 → 3 ≤ gap p → gap (1 - p) < 3 →
      exec (.timePortTimeout t missed) s = .next
        (({ (s.tick t).wr F.TIME_STATUS_PORT (1 - p) with
            time := { s.time with portSet := true, sm := none, path := none, req := none, pend := none } } : State).raise
          0x508 bTIME (1 - p) missed)) ∧
    (s.time.master = none ∨ s.time.syncHop.getD (1 - p) 0 = 0 ∨ gap p < 3 ∨ 3 ≤ gap (1 - p) →
      exec (.timePortTimeout t missed) s = .next (s.tick t))

/-- A part of `Obligations.PulsesAndEgress` (R148, R151, R154, R155). -/
def PulseOutputs : Prop :=
  ∀ (s : State) (t n : Nat) (pin : PulsePin), s.alive = true →
    let now := max s.clk.now t
    let up := fun (q : PulsePin) (w : Nat) =>
      ({ s.tick t with time := { s.time with pulses := s.time.pulses.filter (fun x => x.1 ≠ q) ++ [(q, now + w)] } } : State)
    exec (.ppsSecond t) s = .next
      (if s.cm F.TIME_PPS_EN = 1 ∧ (s.tick t).nearMultiple 1000000000 then up .pps (s.cm F.TIME_PPS_WIDTH_MS * 1000000) else s.tick t) ∧
    exec (.timeEvtPeriodic t n) s = .next
      (if n < 2 ∧ s.cm (evtMode n) = 2 ∧ (s.tick t).nearMultiple (s.cm (evtPeriod n) * 1000000) then up (.evt n) (s.cm (evtWidth n) * 1000)
       else s.tick t) ∧
    exec (.pulseWidthExpiry t pin) s = .next
      { s.tick t with time := { s.time with pulses := s.time.pulses.filter (fun q => !(q.1 == pin && decide (q.2 ≤ now))) } }

/-- A part of `Obligations.PulsesAndEgress` (R148, R151, R154, R155). -/
def CapturesAndReplica : Prop :=
  ∀ (s : State) (t n : Nat) (rising : Bool), s.alive = true →
    let on := (n = 0 ∧ rising = true) ∨
      (0 < n ∧ n < 3 ∧ s.cm (evtMode (n - 1)) = 1 ∧ s.cm (evtEdge (n - 1)) = (if rising then 0 else 1))
    (on → ∃ u d, exec (.timeCapture t n rising) s = .next u ∧ (s.tick t).dev ≤ d ∧ d < (s.tick t).dev + 104858 ∧
      u.rdW (R.TIME_CAPn n 0) = BitVec.ofNat 32 (d / 65536 % 1000000000) ∧
      u.rdW (R.TIME_CAPn n 1) = BitVec.ofNat 32 (d / (65536 * 1000000000)) ∧
      u.rdW (R.TIME_CAPn n 2) = BitVec.ofNat 32 (d / (65536 * 1000000000) / 2 ^ 32 % 65536) ∧
      u.evt = ((s.tick t).raise 0x50A bTIME n (d / 65536 % 1000000000)).evt) ∧
    (¬ on → exec (.timeCapture t n rising) s = .next (s.tick t)) ∧
    (∃ u, exec (.replicaRealign t) s = .next u ∧ -131072 ≤ u.time.replica ∧ u.time.replica ≤ 131072 ∧
      u = { s.tick t with choices := u.choices, time := { s.time with replica := u.time.replica } })

/-- A part of `Obligations.PulsesAndEgress` (R148, R151, R154, R155). -/
def TimedEgressRules : Prop :=
  ∀ (s : State) (t y : Nat), s.alive = true → y < 2 →
    (exec (.timedEgressDue t y) s = .next ((s.tick t).modPort y (fun p =>
      { p with loc := p.loc.map (fun l => if l.cls = 0 ∧ l.e ≤ (s.tick t).dev then { l with due := true } else l) }))) ∧
    (let late := fun (l : LFrame) => l.cls == 0 && decide (l.e + s.cm F.TIME_EGRESS_MAX_LATE_US * 65536000 ≤ (s.tick t).dev)
     let n := ((s.ring.port y).loc.filter late).length
     (n = 0 → exec (.timedEgressDrop t y) s = .next (s.tick t).encSents) ∧
     (0 < n → exec (.timedEgressDrop t y) s = .next
       (let v := ((s.tick t).modPort y (fun p => { p with loc := p.loc.filter (fun l => !late l) })).add F.TIME_EGRESS_CNT_DROPPED n
        State.encSents { v with ring := { v.ring with dropEgr := modAt s.ring.dropEgr y (· + n) } })))

/-- A part of `Obligations.StreamUnits` (R157, R158, R159, R161, R166, R168, R179, R181). -/
def StreamUnitsParsed : Prop :=
  ∀ (s : State) (t : Nat), s.alive = true →
    (takeUnit 1 s.strm.ready = none → exec (.sceneUnit t) s = .next (s.tick t)) ∧
    (takeUnit 2 s.strm.ready = none → exec (.cmdlistUnit t) s = .next (s.tick t)) ∧
    (takeUnit 3 s.strm.ready = none → exec (.chunkUnit t) s = .next (s.tick t)) ∧
    (takeUnit 4 s.strm.ready = none → exec (.mapUnit t) s = .next (s.tick t)) ∧
    (∀ u r cause, unitCause u = some cause →
      (takeUnit 1 s.strm.ready = some (u, r) → ∃ w, exec (.sceneUnit t) s = .next w ∧ w.strm = { s.strm with ready := r } ∧ w.dec = s.dec) ∧
      (takeUnit 2 s.strm.ready = some (u, r) → ∃ w, exec (.cmdlistUnit t) s = .next w ∧ w.strm = { s.strm with ready := r } ∧ w.dec = s.dec) ∧
      (takeUnit 3 s.strm.ready = some (u, r) → ∃ w, exec (.chunkUnit t) s = .next w ∧ w.strm = { s.strm with ready := r } ∧ w.dec = s.dec) ∧
      (takeUnit 4 s.strm.ready = some (u, r) → ∃ w, exec (.mapUnit t) s = .next w ∧ w.strm = { s.strm with ready := r } ∧ w.dec = s.dec))

/-- A part of `Obligations.StreamUnits` (R157, R158, R159, R161, R166, R168, R179, R181). -/
def ScenesActed : Prop :=
  ∀ (s : State) (t : Nat) (x : StreamUnit) (r : List StreamUnit), s.alive = true → unitCause x = none →
    takeUnit 1 s.strm.ready = some (x, r) →
    let k := beAt x.bytes 1 1
    let c := parseScene x
    let sl := s.strm.slot k
    let same := fun (o : Option Scene) => match o with | some y => y.id == c.id && y.ver == c.ver | none => false
    k < s.strm.slots.length → ∃ u, exec (.sceneUnit t) s = .next u ∧ u.strm.ready = r ∧
      (same sl.pend = true ∨ same sl.cur = true → u.strm.slots = s.strm.slots ∧ u.evt = s.evt) ∧
      (∀ cause, same sl.pend = false → same sl.cur = false → s.sceneCause x k c = some cause →
        u.strm.slots = s.strm.slots ∧ u.evt = ((s.tick t).raise 0x411 bRING (cause + 256 * k) c.id).evt) ∧
      (same sl.pend = false → same sl.cur = false → s.sceneCause x k c = none →
        (u.strm.slot k).cur = sl.cur ∧ (u.strm.slot k).pend = some
          (if sl.cur = none ∧ laterPound c.start s.currentPound = false then { c with start := poundAdd s.currentPound 1 } else c))

/-- A part of `Obligations.StreamUnits` (R157, R158, R159, R161, R166, R168, R179, R181). -/
def ListsActed : Prop :=
  ∀ (s : State) (t : Nat) (x : StreamUnit) (r : List StreamUnit), s.alive = true → unitCause x = none →
    takeUnit 2 s.strm.ready = some (x, r) →
    let k := beAt x.bytes 1 1
    let p := beAt x.bytes 4 4
    let crc := beAt x.bytes 12 4
    let sl := s.strm.slot k
    let found := checkList x.bytes (sl.listDesc p) (s.panelOf (sl.governs p)) s.cset.clipBad
    k < s.strm.slots.length → ∃ u, exec (.cmdlistUnit t) s = .next u ∧ u.strm.ready = r ∧
      (s.tooFar p = true ∨ s.isClosed p = true ∨ sl.firstList p ≠ none → u.strm.slots = s.strm.slots) ∧
      (∀ cause, s.tooFar p = false → s.isClosed p = false → sl.firstList p = none → found = .inl cause →
        (u.strm.slot k).lists = sl.lists ∧ (u.strm.slot k).refused = sl.refused ++ [(p, crc)] ∧
        u.evt = ((s.tick t).raise 0x413 bRING (cause + 256 * k) p).evt) ∧
      (∀ cmds skipped, s.tooFar p = false → s.isClosed p = false → sl.firstList p = none → found = .inr (cmds, skipped) →
        (u.strm.slot k).lists = sl.lists ++ [{ pound := p, crc := crc, cmds := cmds }])

/-- A part of `Obligations.StreamUnits` (R157, R158, R159, R161, R166, R168, R179, R181). -/
def MapsAndChunksActed : Prop :=
  ∀ (s : State) (t : Nat) (x : StreamUnit) (r : List StreamUnit), s.alive = true → unitCause x = none →
    let k := beAt x.bytes 1 1
    let p := beAt x.bytes 4 4
    let l := beAt x.bytes 2 1
    let sl := s.strm.slot k
    (∀ c d, takeUnit 4 s.strm.ready = some (x, r) → k < s.strm.slots.length → s.tooFar p = false → s.isClosed p = false →
      sl.descFor p l = some (c, d) → d.tiled = true → x.bytes.length = 16 + 16 * (d.tilesX * d.tilesY) → (mapCells x.bytes).any cellsClash = false →
      ∃ u, exec (.mapUnit t) s = .next u ∧ u.strm.ready = r ∧
        (u.strm.slot k).maps = { layer := l, pound := p, cells := mapCells x.bytes } ::
          sl.maps.filter (fun y => ¬ (y.layer = l ∧ y.pound = p))) ∧
    (takeUnit 4 s.strm.ready = some (x, r) → s.tooFar p = true ∨ s.isClosed p = true ∨ sl.descFor p l = none →
      ∃ u, exec (.mapUnit t) s = .next u ∧ u.strm = { s.strm with ready := r }) ∧
    (∀ cause, takeUnit 3 s.strm.ready = some (x, r) → s.chunkCheck x = .inl cause →
      ∃ u, exec (.chunkUnit t) s = .next u ∧ u.strm = { s.strm with ready := r } ∧ u.dec = s.dec) ∧
    (∀ c, takeUnit 3 s.strm.ready = some (x, r) → s.chunkCheck x = .inr c →
      ∃ u, exec (.chunkUnit t) s = .next u ∧ u.strm.ready = r ∧
        (s.isClosed (poundAdd c.pound 1) = false → u.dec.queue = s.dec.queue ++ [c] ∧
          u.strm.seen = (c.slot, c.layer, c.tx, c.ty, c.pound) :: s.strm.seen) ∧
        (s.isClosed (poundAdd c.pound 1) = true → u.dec = s.dec ∧ u.strm.seen = s.strm.seen))

/-- A part of `Obligations.ChunksDecode` (R43, R176, R184, R186, R187, R188, R190, R191, R192). -/
def ChunksDispatched : Prop :=
  ∀ (s : State) (t : Nat), s.alive = true →
    let v := (s.tick t).dropStaleChunks.renumberQueue
    (takeChunk v.eligible v.dec.queue = none → exec (.chunkDispatch t) s = .next v) ∧
    (∀ c q core, takeChunk v.eligible v.dec.queue = some (c, q) → v.idleCore c.pound = some core →
      ∃ u, exec (.chunkDispatch t) s = .next u ∧ u.dec.queue = q ∧
        let half := s.sec.half c.key
        let body := match c.enc, half with | true, some h => cbcs h c.subs c.body | _, _ => c.body
        let rap := c.rap && c.allRap body
        let wait := (s.dec.ctx c.ctx).waitRap
        (has (s.setOf c.pound).mode mHOLD = true ∨ s.uncovered c = true ∨ s.releasedAt c.slot c.layer c.pound = true ∨ (wait = true ∧ c.rap = false) ∨
            (c.enc = true ∧ half = none) → u.dec.cores = s.dec.cores) ∧
        (∀ d tex ref, has (s.setOf c.pound).mode mHOLD = false → s.descOf c.slot c.layer c.pound = some d →
          srcOn (s.setOf c.pound).mode d.ty = true → s.uncovered c = false → s.releasedAt c.slot c.layer c.pound = false →
          wait = false ∨ rap = true → c.enc = false ∨ half.isSome = true →
          (v.alloc cTEXEL).1 = some tex → ((v.alloc cTEXEL).2.alloc cREF).1 = some ref →
          u.dec.cores = modAt s.dec.cores core (fun _ =>
            some { chunk := c, body := body, since := max s.clk.now t, rap := rap, tex := tex, ref := ref, last := none }) ∧
          c.ctx ∈ u.dec.cache))

/-- A part of `Obligations.ChunksDecode` (R43, R176, R184, R186, R187, R188, R190, R191, R192). -/
def ChunksEnd : Prop :=
  ∀ (s : State) (t core : Nat), s.alive = true →
    ((s.dec.cores[core]?).getD none = none → exec (.chunkDone t core) s = .next (s.tick t) ∧ exec (.chunkAbandon t core) s = .next (s.tick t)) ∧
    (∀ j, (s.dec.cores[core]?).getD none = some j →
      (∃ u, exec (.chunkDone t core) s = .next u ∧ u.dec.cores = modAt s.dec.cores core (fun _ => none) ∧ u.dec.queue = s.dec.queue ∧
        u.lock = { s.lock with recover := u.lock.recover } ∧ u.strm = { s.strm with late := u.strm.late } ∧
        (s.strm.late = [] → u.strm.late = [] ∧ (u.dec.ctx j.chunk.ctx).waitRap = ((s.dec.ctx j.chunk.ctx).waitRap && !j.rap) ∧
          ∀ n, n ≠ j.chunk.ctx → u.dec.ctx n = s.dec.ctx n) ∧
        (∀ q l, u.strm.late = q :: l → q.touched.any u.dec.ctxBusy = true)) ∧
      ((s.setOf j.chunk.pound).fld F.DEC_CTRL_ABANDON_US ≠ 0 → s.isClosed (poundAdd j.chunk.pound 1) = true →
        ∃ u, exec (.chunkAbandon t core) s = .next u ∧ u.dec.cores = modAt s.dec.cores core (fun _ => none) ∧
          (s.strm.late = [] → u.dec.ctxs = s.dec.ctxs) ∧ (∀ q l, u.strm.late = q :: l → q.touched.any u.dec.ctxBusy = true)) ∧
      ((s.setOf j.chunk.pound).fld F.DEC_CTRL_ABANDON_US = 0 ∨ s.isClosed (poundAdd j.chunk.pound 1) = false →
        exec (.chunkAbandon t core) s = .next (s.tick t)))

/-- A part of `Obligations.BasinTrainingAndUpkeep` (R264, R266, R267, R268, R269, R270, R281). -/
def BasinTrainingRuns : Prop :=
  ∀ (s : State) (t : Nat) (rs : List TrainRes), s.alive = true →
    (s.training = false → exec (.basinTrainDone t rs) s = .next (s.tick t)) ∧
    (s.training = true → let v := (s.tick t).trainAll false rs
      (v.rd F.BASIN_STATUS_FAIL ≠ 0 → exec (.basinTrainDone t rs) s = .next (State.bootTrained
        { v with basin := { v.basin with retryFrom := some v.clk.now, bootHeld := v.basin.bootHeld || !v.lock.running } })) ∧
      (v.rd F.BASIN_STATUS_FAIL = 0 → ∃ u, exec (.basinTrainDone t rs) s = .next u ∧ u.basin = { v.basin with mem := [], retryFrom := none, selfref := false } ∧
        u.basinReady = true ∧ ∀ k x, k < 4 → s.basin.stk[k]? = some x → ∃ y, u.basin.stk[k]? = some y ∧ y.failed = false ∧ y.track = [])) ∧
    (∀ since, s.basin.retryFrom = some since → since + 10000000000 ≤ max s.clk.now t → s.rd F.BASIN_STATUS_READY = 0 → s.training = false →
      exec (.basinTrainRetry t) s = .next ((s.tick t).trainStart false)) ∧
    (s.basin.retryFrom = none → exec (.basinTrainRetry t) s = .next (s.tick t)) ∧
    (∀ since, s.basin.exitFrom = some since →
      let w : State := { s.tick t with basin := { s.basin with selfref := false, exitFrom := none } }
      let v := ((w.wr F.BASIN_STATUS_SELFREF 0).wr F.TOP_HOLD_STAT_SELFREF 0).trainAll true rs
      (v.rd F.BASIN_STATUS_FAIL = 0 → ∃ u, exec (.selfRefreshExitDone t rs) s = .next u ∧ u.basin = v.basin ∧ u.basin.selfref = false ∧ u.lock = s.lock) ∧
      (v.rd F.BASIN_STATUS_FAIL ≠ 0 → ∃ u, exec (.selfRefreshExitDone t rs) s = .next u ∧ has u.lock.iset mHOLD = true ∧
        u.basin = { v.basin with retryFrom := some (max s.clk.now t) } ∧ u.basin.selfref = false ∧ u.basinReady = false)) ∧
    (s.basin.exitFrom = none → exec (.selfRefreshExitDone t rs) s = .next (s.tick t))

/-- A part of `Obligations.BasinTrainingAndUpkeep` (R264, R266, R267, R268, R269, R270, R281). -/
def BasinUpkeep : Prop :=
  ∀ (s : State) (t k : Nat) (moves : List (Nat × Nat × Int)), s.alive = true →
    (s.basinReady = true → exec (.basinRefresh t k) s = .next { s.tick t with basin := { s.basin with refresh := modAt s.basin.refresh k (· + 1) } }) ∧
    (s.basinReady = false → exec (.basinRefresh t k) s = .next (s.tick t) ∧ exec (.basinEyeTrack t moves) s = .next (s.tick t) ∧
      exec (.selfRefreshEnter t) s = .next (s.tick t) ∧ ∀ errs, exec (.scrubGranule t errs) s = .next (s.tick t)) ∧
    (s.basinReady = true → ∃ u, exec (.basinEyeTrack t moves) s = .next u ∧ u.basin = { s.basin with stk := u.basin.stk } ∧
      (moves = [] → u = s.tick t)) ∧
    (∀ (lane : Nat) (dir : Int) (x : StackSt), s.basinReady = true → k < 4 → lane < 160 → s.basin.stk[k]? = some x →
      ∃ u y off, exec (.basinEyeTrack t [(k, lane, dir)]) s = .next u ∧ u.basin.stk[k]? = some y ∧ (lane, off) ∈ y.track ∧ -12 ≤ off ∧ off ≤ 12 ∧ y.seed = x.seed) ∧
    (has s.mode mHOLD = false ∨ s.scanDrained = false → exec (.selfRefreshEnter t) s = .next (s.tick t)) ∧
    (s.basinReady = true → has s.mode mHOLD = true → s.scanDrained = true → ∃ u, exec (.selfRefreshEnter t) s = .next u ∧
      u.basin = { s.basin with selfref := true, exitFrom := none } ∧ u.basinReady = false) ∧
    (s.cm F.BASIN_SCRUB_EN = 0 → ∀ errs, exec (.scrubGranule t errs) s = .next (s.tick t)) ∧
    (∀ errs, s.cm F.BASIN_SCRUB_EN ≠ 0 → s.basinReady = true →
      ((eccOutcome errs).1 = 0 → s.basin.scrubAt + 1 ≠ granules →
        exec (.scrubGranule t errs) s = .next { s.tick t with basin := { s.basin with scrubAt := s.basin.scrubAt + 1 } }) ∧
      ((eccOutcome errs).1 = 0 → s.basin.scrubAt + 1 = granules → ∃ u, exec (.scrubGranule t errs) s = .next u ∧
        u.basin = { s.basin with scrubAt := 0, passes := s.basin.passes + 1, passFix := 0 }) ∧
      ((eccOutcome errs).1 = 1 → s.basin.scrubAt + 1 ≠ granules → ∃ u, exec (.scrubGranule t errs) s = .next u ∧
        u.basin.scrubAt = s.basin.scrubAt + 1 ∧ u.basin.passFix = s.basin.passFix + 1 ∧ u.basin.moors = s.basin.moors) ∧
      ((eccOutcome errs).1 = 2 → ∃ u, exec (.scrubGranule t errs) s = .next u ∧ u.basin.mem = s.basin.mem ∧
        ∀ e, s.basin.entry (s.basin.scrubAt * 64 / moorSize) = some e → u.basin.entry (s.basin.scrubAt * 64 / moorSize) = some { e with bad := true } ∧
          (e.cls ≠ cPACKET → e.st = .held ∨ e.st = .reserved → has u.lock.iset mHOLD = true))) ∧
    exec (.basinFlushDone t k) s = .next { s.tick t with basin := { s.basin with flushes := modAt s.basin.flushes k (· + 1) } }

/-- A part of `Obligations.ScanFramesAndOwnership` (R298, R299, R305, R307, R308, R309, R311). -/
def ScanFramesEnd : Prop :=
  ∀ (s : State) (t lane n : Nat), s.alive = true →
    (s.scan.shadow = .frame ∨ s.scan.shadow = .repeated → exec (.scanUnderrun t lane) s = .next (s.tick t).markAborted) ∧
    (¬ (s.scan.shadow = .frame ∨ s.scan.shadow = .repeated) → s.scan.active = true → s.scan.abort = none → s.scan.endCode = none →
      s.scan.kind = .frame ∨ s.scan.kind = .repeated →
      ∃ u, exec (.scanUnderrun t lane) s = .next u ∧ u.scan = { s.scan with abort := some 2, zeroAt := some (s.tick t).slotNow } ∧ u.comp.cur = s.comp.cur ∧
        (∀ b ∈ u.comp.bufs, b.role = .scanning → b.aborted = true)) ∧
    (¬ (s.scan.shadow = .frame ∨ s.scan.shadow = .repeated) →
      s.scan.active = false ∨ s.scan.abort.isSome = true ∨ s.scan.endCode.isSome = true ∨ (s.scan.kind ≠ .frame ∧ s.scan.kind ≠ .repeated) →
      exec (.scanUnderrun t lane) s = .next (s.tick t)) ∧
    (s.scan.active = true → s.scan.endCode = none → exec (.frameEndCode t) s = .next
      { s.tick t with scan := { s.scan with endCode := some s.scan.abort.isNone, heads := (s.tick t).headsAt ((s.tick t).rowSlot s.scan.bank.vact),
                                            panel := if s.scan.abort = none then some (s.scan.shown, s.scan.kind) else s.scan.panel } }) ∧
    (s.scan.active = false ∨ s.scan.endCode.isSome = true → exec (.frameEndCode t) s = .next (s.tick t)) ∧
    (8 ≤ n ∨ s.scan.active = false ∨ s.scan.judged.contains n = true ∨ (s.setOf s.scan.slot).fld (F.SCAN_CHKn_CFG_MODE n) = 0 →
      exec (.scanCheckDone t n) s = .next (s.tick t)) ∧
    (n < 8 → s.scan.active = true → s.scan.judged.contains n = false → (s.setOf s.scan.slot).fld (F.SCAN_CHKn_CFG_MODE n) ≠ 0 →
      ∃ u, exec (.scanCheckDone t n) s = .next u ∧ n ∈ u.scan.judged ∧
        (s.scan.abort.isSome = true → u = { s.tick t with scan := { s.scan with prev := modAt s.scan.prev n (fun _ => none), judged := n :: s.scan.judged } }) ∧
        (s.scan.abort = none → (s.setOf s.scan.slot).fld (F.SCAN_CHKn_X1_X n) < s.sentGeom.cols * s.sentGeom.vcols →
          (s.setOf s.scan.slot).fld (F.SCAN_CHKn_Y_Y1 n) < s.sentGeom.rows * s.sentGeom.vrows →
          u.scan.prev = modAt s.scan.prev n (fun _ => some ((s.tick t).checkValue n))))

/-- A part of `Obligations.ScanFramesAndOwnership` (R298, R299, R305, R307, R308, R309, R311). -/
def PanelOwnershipWires : Prop :=
  ∀ (s : State) (t : Nat) (level : Bool) (sides : List (List Byte)), s.alive = true →
    let p := s.time.nextL
    (s.paired = false → exec (.ownSample t level sides) s = .next
        (State.wr { s.tick t with scan := { s.scan with ownIn := level } } F.SCAN_STATUS_OWN_IN (b2n level)) ∧
      exec (.ownInAsserted t) s = .next (State.wr { s.tick t with scan := { s.scan with ownIn := true } } F.SCAN_STATUS_OWN_IN 1)) ∧
    (s.paired = true → s.ownsSlot p = true → has (s.slotSet p).mode mSTANDBY = false → s.scan.ownOut = false →
      ∃ u, exec (.ownSample t level sides) s = .next u ∧ u.scan.ownIn = level ∧ u.scan.ownOut = !level ∧ u.scan.blocked = level) ∧
    (s.ownsSlot p = false ∨ has (s.slotSet p).mode mSTANDBY = true ∨ s.scan.ownOut = true → exec (.ownSample t level sides) s = .next
      (State.wr { s.tick t with scan := { s.scan with ownIn := level } } F.SCAN_STATUS_OWN_IN (b2n level))) ∧
    (s.paired = true → s.scan.ownOut = true → ∃ u, exec (.ownInAsserted t) s = .next u ∧
      (s.scan.active = true → u = State.wr { s.tick t with scan := { s.scan with ownIn := true, blocked := true } } F.SCAN_STATUS_OWN_IN 1) ∧
      (s.scan.active = false → u.scan = { s.scan with ownIn := true, blocked := true, ownOut := false, kind := .idle }))

/-- A part of `Obligations.LaneReceivers` (R124, R319, R320, R321, R322, R323). -/
def LaneReceivers : Prop :=
  ∀ (s : State) (t n : Nat) (hdrs : List Bool), s.alive = true → 48 ≤ n → n ≤ monLane →
    let rx := (s.lanes.lane n).rx
    (n < 56 → s.huntsBlocks n = false → exec (.blockLockAcquired t ⟨n, hdrs⟩) s = .next ((s.tick t).wr (F.LANE_n_STAT_LOCK n) 1) ∧
      exec (.blockLockLost t n hdrs) s = .next ((s.tick t).wr (F.LANE_n_STAT_LOCK n) 0)) ∧
    (s.huntsBlocks n = true → s.locked n = false →
      (exec (.blockLockAcquired t ⟨n, [false]⟩) s = .next ((s.tick t).modLane n (fun l => { l with rx := rx.slip }))) ∧
      (rx.run + 1 < 64 → exec (.blockLockAcquired t ⟨n, [true]⟩) s = .next ((s.tick t).modLane n (fun l => { l with rx := { rx with run := rx.run + 1 } }))) ∧
      (rx.run < 64 → ∃ u, exec (.blockLockAcquired t ⟨n, List.replicate (64 - rx.run) true⟩) s = .next u ∧ u.locked n = true ∧
        (u.lanes.lane n).rx = { cand := rx.cand, run := 0, seen := 0, bad := 0 })) ∧
    (s.huntsBlocks n = true → s.locked n = true →
      (rx.seen + 1 < 64 → exec (.blockLockLost t n [true]) s = .next ((s.tick t).modLane n (fun l => { l with rx := { rx with seen := rx.seen + 1 } }))) ∧
      (rx.seen = 63 → rx.bad < 15 → ∃ u, exec (.blockLockLost t n [false]) s = .next u ∧ u.locked n = true ∧
        (u.lanes.lane n).rx = { rx with seen := 0, bad := 0 }) ∧
      (rx.seen = 63 → 15 ≤ rx.bad → ∃ u, exec (.blockLockLost t n [false]) s = .next u ∧ u.locked n = false ∧
        (u.lanes.lane n).rx = { cand := rx.cand, run := 0, seen := 0, bad := 0 })) ∧
    (s.huntsBlocks n = false → 56 ≤ n → exec (.blockLockAcquired t ⟨n, hdrs⟩) s = .next (s.tick t) ∧ exec (.blockLockLost t n hdrs) s = .next (s.tick t))

/-- A part of `Obligations.LaneReceivers` (R124, R319, R320, R321, R322, R323). -/
def Adaptations : Prop :=
  ∀ (s : State) (t n : Nat) (cands : List Eyes) (eyes : Eyes) (dfe : Int) (ffe : List Int), s.alive = true → 48 ≤ n → n ≤ monLane →
    let l := s.lanes.lane n
    let code := bestCode (fun c => (cands[c]?).elim 0 Eyes.fom) (searchCodes l.seedCtle)
    (l.training = false → exec (.rxAdaptDone t n cands eyes ⟨dfe, ffe⟩) s = .next (s.tick t)) ∧
    (l.training = true →
      (s.cm F.LANE_ADAPT_FOM_MIN ≤ eyes.fom → ∃ u, exec (.rxAdaptDone t n cands eyes ⟨dfe, ffe⟩) s = .next u ∧
        u.lanes.lane n = { l with eq := { ctle := code, dfe := dfe, ffe := ffe }, training := false, tries := 0, best := 0, rxSt := 2 } ∧
        (n < monLane → u.rd (F.LANE_n_STAT_STATE n) = if l.gen.isSome then 4 else 2) ∧ (n = monLane → u.rd F.LANE_MON_STAT_ADAPTED = 1)) ∧
      (eyes.fom < s.cm F.LANE_ADAPT_FOM_MIN → l.tries + 1 ≤ s.cm F.LANE_ADAPT_RETRIES → ∃ u, exec (.rxAdaptDone t n cands eyes ⟨dfe, ffe⟩) s = .next u ∧
        u.lanes.lane n = { l with eq := { ctle := code, dfe := dfe, ffe := ffe }, tries := l.tries + 1, best := max l.best eyes.fom, seedCtle := none, rxSt := 1 } ∧
        (n < monLane → u.rd (F.LANE_n_STAT_STATE n) = if l.gen.isSome then 4 else 1)) ∧
      (eyes.fom < s.cm F.LANE_ADAPT_FOM_MIN → s.cm F.LANE_ADAPT_RETRIES < l.tries + 1 →
        (56 ≤ n → ∃ u, exec (.rxAdaptDone t n cands eyes ⟨dfe, ffe⟩) s = .next u ∧ (u.lanes.lane n).training = false ∧ (u.lanes.lane n).tries = 0 ∧
          (u.lanes.lane n).rxSt = 3 ∧ (n < monLane → l.gen = none → u.rd (F.LANE_n_STAT_STATE n) = 3)) ∧
        (n < 56 → exec (.rxAdaptDone t n cands eyes ⟨dfe, ffe⟩) s = .next
          (let v := (s.tick t).adaptRun n cands eyes dfe ffe
           if s.ring.training.isSome then v.loopFail.gensFollow else v.linkDown ((n - 48) / 4) 2)))) ∧
    (l.rxSt = 2 → let v := (s.tick t).lmsRuns n
      let w := if n = monLane then v.wr F.LANE_MON_STAT_FOM eyes.fom else v.wr (F.LANE_n_STAT_FOM n) eyes.fom
      (v.lanes.lane n).eq.ctle = l.eq.ctle ∧ (v.lanes.lane n).training = l.training ∧ (v.lanes.lane n).rxSt = 2 ∧
      (s.cm F.LANE_ADAPT_FOM_WARN ≤ eyes.fom → exec (.fomMonitor t n eyes) s = .next w) ∧
      (eyes.fom < s.cm F.LANE_ADAPT_FOM_WARN → exec (.fomMonitor t n eyes) s = .next
        (w.raiseOnceI 0xD02 bLANE (evLane n) n (evLane n) eyes.fom))) ∧
    (l.rxSt ≠ 2 → exec (.fomMonitor t n eyes) s = .next (s.tick t))

/-- A part of `Obligations.PanelPower` (R333, R337, R338, R339, R340, R343, R346, R348). -/
def PanelPowerSequence : Prop :=
  ∀ (s : State) (t : Nat) (ident status : List Byte),
    let r := (s.tick t).recordsRun
    (r.pstate = pUPSEQ → r.panel.step < 4 → exec (.panelSeqStep t) s = .next
      (State.recordsRun { r with panel := { r.panel with enables := orBit r.panel.enables r.panel.step, step := r.panel.step + 1 } })) ∧
    (r.pstate = pUPSEQ → r.panel.step = 6 → ∃ v : State, exec (.panelSeqStep t) s = .next v.recordsRun ∧ v.pstate = pTRAIN ∧
      v.panel = { r.panel with step := 7, trainAt := r.clk.now } ∧ ∀ n, n < 48 → v.rd (F.LANE_n_STAT_STATE n) = 1) ∧
    (r.pstate ≠ pUPSEQ → r.pstate ≠ pDOWN → exec (.panelSeqStep t) s = .next r.recordsRun) ∧
    (r.pstate = pDOWN → r.panel.enables ≠ 0 → exec (.panelSeqStep t) s = .next
      (State.recordsRun { r with panel := { r.panel with enables := dropEnable r.panel.enables } })) ∧
    (r.pstate = pDOWN → r.panel.enables = 0 → exec (.panelSeqStep t) s = .next
      (State.wr { r with panel := { r.panel with discharge := true } } F.PNL_STATUS_PGOOD 0).recordsRun) ∧
    (r.panel.discharge = false → exec (.dischargeEnd t) s = .next r.recordsRun) ∧
    (r.panel.discharge = true → r.panel.fast = none → r.panel.wanted = false → ∃ v : State, exec (.dischargeEnd t) s = .next v.recordsRun ∧
      v.panel.discharge = false ∧ (v.pstate = if r.panel.faulty then pFAULT else pOFF) ∧
      (r.panel.cause = 3 → v.panel.retryAt = some (r.clk.now + 10000000000))) ∧
    (s.alive = true → s.pstate = pUPSEQ → s.panel.step = 4 → ∃ u, exec (.pgoodAssert t ident status) s = .next u ∧ u.panel.step = 6 ∧
      (∀ d, sbData 8 ident = some d → u.panel.ident = d) ∧ (sbData 8 ident = none → u.panel.ident = s.panel.ident) ∧
      (sbData 4 status = none → u.panel.tempFails = s.panel.tempFails) ∧ u.panel.startAt = (s.tick t).dev ∧ u.panel.waves = false ∧
      u.lanes.asked = modAt s.lanes.asked 0 (fun _ => sbRead 0x10 4)) ∧
    (s.alive = true → ¬ (s.pstate = pUPSEQ ∧ s.panel.step = 4) →
      exec (.pgoodAssert t ident status) s = .next ((s.tick t).wr F.PNL_STATUS_PGOOD 1) ∧ exec (.pgoodTimeout t) s = .next (s.tick t)) ∧
    (s.alive = true → s.pstate = pUPSEQ → s.panel.step = 4 → ∃ u, exec (.pgoodTimeout t) s = .next u ∧
      u.panel = { s.panel with tempFails := 0, frozen := false, enables := dropEnable s.panel.enables, code := 0, since := max s.clk.now t,
                               cause := 3, faulty := true }) ∧
    (s.alive = true → s.pstate = pTRAIN ∨ s.pstate = pUP → ∃ u, exec (.pgoodLost t) s = .next u ∧ u.pstate = pDOWN ∧
      u.panel.cause = 3 ∧ u.panel.faulty = true) ∧
    (s.alive = true → s.pstate ≠ pTRAIN → s.pstate ≠ pUP → exec (.pgoodLost t) s = .next ((s.tick t).wr F.PNL_STATUS_PGOOD 0))

/-- A part of `Obligations.PanelPower` (R333, R337, R338, R339, R340, R343, R346, R348). -/
def PanelGuards : Prop :=
  ∀ (s : State) (t k : Nat),
    let r := (s.tick t).recordsRun
    let d := (s.tick t).dev
    (r.panel.fast = none → ∃ v : State, exec (.vinTrip t) s = .next v.recordsRun ∧
      v.panel = { r.panel with vinRounds := 0, tempFails := 0, frozen := false, enables := 0, discharge := true, code := 0, since := r.clk.now,
                               fast := some 1, faulty := false } ∧
      (v.pstate = pDISCHARGE)) ∧
    (s.alive = true → ∀ at_, r.panel.retryAt = some at_ → r.clk.now < at_ → exec (.panelRetryWait t) s = .next r.recordsRun) ∧
    (s.alive = true → (∀ at_, r.panel.retryAt = some at_ → at_ ≤ r.clk.now) → exec (.panelRetryWait t) s = .next r.panelTry.recordsRun) ∧
    (s.alive = true → s.vrefRuns = true → s.panel.waves = true → s.rd F.PNL_VREF_STAT_POINT < k → k < 64 → s.panel.pointAt k < d + 65536 →
      ∃ u, exec (.vrefPoint t k) s = .next u ∧ u.panel = { s.panel with code := s.panel.codeAt (s.rd F.PNL_STATUS_BAND) k } ∧
        u.rd F.PNL_VREF_STAT_POINT = k) ∧
    (s.alive = true → s.vrefRuns = true → s.lock.everOpened = false → s.panel.pointAt 0 < d + 65536 → exec (.vrefPoint t 0) s = .next
      ((s.tick t).frameStart (s.panel.pointAt 0) s.cset.period (s.ownsBy s.cset))) ∧
    (s.alive = true → s.vrefRuns = false ∨ 64 ≤ k ∨ d + 65536 ≤ s.panel.pointAt k ∨ (k = 0 ∧ s.lock.everOpened = true) ∨
        (0 < k ∧ (s.panel.waves = false ∨ k ≤ s.rd F.PNL_VREF_STAT_POINT)) → exec (.vrefPoint t k) s = .next (s.tick t)) ∧
    (s.island = true → r.crackRuns = true → r.rd F.PNL_STATUS_CRACK = 0 → r.cm F.PNL_CRACK_COUNT ≤ r.panel.misses → r.cm F.PNL_CRACK_ACTION = 0 →
      exec (.crackLatch t) s = .next ((r.wr F.PNL_STATUS_CRACK 1).raise 0xE08 bPNL r.panel.misses 0).recordsRun) ∧
    (s.island = true → r.crackRuns = true → r.rd F.PNL_STATUS_CRACK = 0 → r.cm F.PNL_CRACK_COUNT ≤ r.panel.misses → r.cm F.PNL_CRACK_ACTION = 3 →
      r.panel.fast = none → ∃ v : State, exec (.crackLatch t) s = .next v.recordsRun ∧ v.panel.enables = 0 ∧ v.panel.discharge = true ∧
        v.panel.fast = some 3) ∧
    (s.island = true → r.crackRuns = false ∨ r.panel.misses < r.cm F.PNL_CRACK_COUNT → exec (.crackLatch t) s = .next r.recordsRun) ∧
    (∀ v : Word, s.alive = true → bitAt v.toNat 0 = true → exec (.crackClear t v) s = .next
      (State.panelTry (State.wr { s.tick t with panel := { s.panel with misses := 0, matched := (false, false) } } F.PNL_STATUS_CRACK 0))) ∧
    (∀ v : Word, s.alive = true → bitAt v.toNat 0 = false → exec (.crackClear t v) s = .next (s.tick t))

/-- A part of `Obligations.TowpathMessages` (R392, R396, R398, R399, R400, R402, R405). -/
def DeltasAndSeals : Prop :=
  ∀ (s : State) (t : Nat) (m : TowMsg) (c : Instr) (kind : Nat), s.alive = true →
    c = .deltaEyes t m ∧ kind = 1 ∨ c = .deltaRung t m ∧ kind = 2 ∨ c = .deltaSnapshot t m ∧ kind = 3 ∨ c = .deltaSurface t m ∧ kind = 4 →
    (s.paired = false ∨ 4 ≤ m.lane → exec c s = .next (s.tick t) ∧ exec (.towSeal t m) s = .next (s.tick t)) ∧
    (s.paired = true → m.lane < 4 → m.ok = false → exec c s = .next ((s.tick t).inc F.TOW_MSG_CNT_BAD) ∧
      exec (.towSeal t m) s = .next ((s.tick t).inc F.TOW_MSG_CNT_BAD)) ∧
    (s.paired = true → m.lane < 4 → m.ok = true → m.mtype ≠ 2 ∨ s.towUp = false ∨ beAt m.data 4 1 ≠ kind →
      exec c s = .next (State.deltaTry { s.tick t with pair := s.pair.mark m.mseq })) ∧
    (s.paired = true → m.lane < 4 → m.ok = true → m.mtype ≠ 1 ∨ s.towUp = false ∨ m.data.length < 24 →
      exec (.towSeal t m) s = .next (State.deltaTry { s.tick t with pair := s.pair.mark m.mseq })) ∧
    (s.paired = true → m.lane < 4 → m.ok = true → m.mtype = 2 → s.towUp = true → beAt m.data 4 1 = kind →
      let f : DeltaFrag := { mseq := m.mseq, kind := kind, pound := beAt m.data 0 4, frag := beAt m.data 6 2, last := bitAt (beAt m.data 5 1) 0,
                             body := m.data.drop 8 }
      let gaps := (s.pair.mark m.mseq).gaps
      let taken := fun (run : List DeltaFrag) (u : State) =>
        let body := run.flatMap DeltaFrag.body
        let src := body.take (lzSpan body.length body)
        (s.lz.queue 0).length < 16 → 0 < s.lz.queues.length → s.rd F.BASIN_STATUS_READY = 1 →
          (s.allocs cTOW (ceilDiv src.length moorSize + ceilDiv (lzMakes src.length src) moorSize)).1.isSome = true →
          ∃ j, u.lz.queue 0 = s.lz.queue 0 ++ [j] ∧ j.decode = true ∧ j.tag = .delta kind f.pound ∧ j.len = src.length
      (s.pair.frags = [] → f.frag = 0 → f.last = false → ∃ u, exec c s = .next u ∧ u.pair.frags = [f] ∧ u.lz = s.lz) ∧
      (s.pair.frags = [] → f.frag = 0 → f.last = true → ∃ u, exec c s = .next u ∧ u.pair.frags = [] ∧ taken [f] u) ∧
      (s.pair.frags = [] → f.frag ≠ 0 → ∃ u, exec c s = .next u ∧ u.lz = s.lz ∧
        u.pair.frags = if gaps.any (laterMod 24 f.mseq) then [f] else []) ∧
      (∀ a, s.pair.frags = [a] → a.kind = kind → a.pound = f.pound → gaps.any (fun q => laterMod 24 q a.mseq && laterMod 24 f.mseq q) = false →
        a.frag = 0 → a.last = false → f.frag = 1 → f.last = true → laterMod 24 f.mseq a.mseq = true →
        ∃ u, exec c s = .next u ∧ u.pair.frags = [] ∧ taken [a, f] u) ∧
      (∀ a, s.pair.frags = [a] → a.kind = kind → a.pound = f.pound → gaps.any (fun q => laterMod 24 q f.mseq && laterMod 24 a.mseq q) = false →
        f.frag = 0 → f.last = false → a.frag = 1 → a.last = true → laterMod 24 a.mseq f.mseq = true →
        ∃ u, exec c s = .next u ∧ u.pair.frags = [] ∧ taken [f, a] u)) ∧
    (s.paired = true → m.lane < 4 → m.ok = true → m.mtype = 1 → s.towUp = true → 24 ≤ m.data.length →
      ((∀ x ∈ s.pair.seals, x.pound ≠ (parseSeal m.data).pound) →
        ∃ u, exec (.towSeal t m) s = .next u ∧ u.pair.theirs.head? = some (parseSeal m.data) ∧ u.pair.seals = s.pair.seals) ∧
      (∀ a, s.pair.seals.find? (fun x => x.pound == (parseSeal m.data).pound) = some a → a.skips = false → (parseSeal m.data).skips = false →
        ∃ u, exec (.towSeal t m) s = .next u ∧
          (sealDiff a (parseSeal m.data) = 0 → u.pair.matchRun = s.pair.matchRun + 1 ∧ u.pair.missSeal = 0) ∧
          (sealDiff a (parseSeal m.data) ≠ 0 → u.pair.matchRun = 0 ∧
            (s.pair.missSeal + 1 < s.cm F.TOW_SEAL_MISMATCHES → u.pair.missSeal = s.pair.missSeal + 1))))

/-- A part of `Obligations.TowpathMessages` (R392, R396, R398, R399, R400, R402, R405). -/
def PacketRepair : Prop :=
  ∀ (s : State) (t grp chan k : Nat) (m : TowMsg), s.alive = true →
    (s.paired = false ∨ 4 ≤ m.lane → exec (.repairWant t m) s = .next (s.tick t) ∧ exec (.repairHave t m) s = .next (s.tick t) ∧
      exec (.repairNone t m) s = .next (s.tick t)) ∧
    (s.paired = true → m.lane < 4 → m.ok = true → m.mtype ≠ 3 ∨ s.towUp = false → 
      exec (.repairWant t m) s = .next (State.deltaTry { s.tick t with pair := s.pair.mark m.mseq }) ∧
      exec (.repairHave t m) s = .next (State.deltaTry { s.tick t with pair := s.pair.mark m.mseq }) ∧
      exec (.repairNone t m) s = .next (State.deltaTry { s.tick t with pair := s.pair.mark m.mseq })) ∧
    (s.paired = true → m.lane < 4 → m.ok = true → m.mtype = 3 → s.towUp = true → beAt m.data 0 1 = 1 → ∃ u, exec (.repairWant t m) s = .next u ∧
      u.strm = s.strm ∧ u.pair.take = s.pair.take ∧ (∃ l, u.pair.out = s.pair.out ++ l ∧ ∀ x ∈ l, x.mtype = 3)) ∧
    (s.paired = true → m.lane < 4 → m.ok = true → m.mtype = 3 → s.towUp = true → beAt m.data 0 1 = 2 →
      let g := beAt m.data 1 1
      let n := beAt m.data 2 2
      let q := beAt m.data 4 4
      let b := (m.data.drop 16).take (beAt m.data 10 2)
      let pk : Pkt := { seq := q, flags := beAt b 2 1, key := beAt b 3 1, data := slice b 16 (beAt b 6 2), moor := (0, 0), eaten := false }
      let v : State := (State.deltaTry { s.tick t with pair := s.pair.mark m.mseq }).modPair (fun p => p.answer g n q)
      v.wantsSeq g n q = true → 16 ≤ b.length → beAt b 4 2 = n → beAt b 8 4 = q → lzCrc (b.take 12) = beAt b 12 4 → (v.holdPacket g n pk).1 = true →
        ∀ c, chanOf (v.holdPacket g n pk).2.strm.chans g n = some c →
          exec (.repairHave t m) s = .next ((((State.putChan (v.holdPacket g n pk).2 (c.mark q)).inc F.TOW_REPAIR_CNT_REPAIRED).checkGroup g n (q / 8)).runParser g n)) ∧
    (s.paired = true → m.lane < 4 → m.ok = true → m.mtype = 3 → s.towUp = true → beAt m.data 0 1 = 2 → s.wantsSeq (beAt m.data 1 1) (beAt m.data 2 2) (beAt m.data 4 4) = false →
      ∃ u, exec (.repairHave t m) s = .next u ∧ u.strm = s.strm ∧ u.pair.wants = (s.pair.answer (beAt m.data 1 1) (beAt m.data 2 2) (beAt m.data 4 4)).wants) ∧
    (s.paired = true → m.lane < 4 → m.ok = true → m.mtype = 3 → s.towUp = true → beAt m.data 0 1 = 3 → beAt m.data 8 2 = 1 → ∃ u, exec (.repairNone t m) s = .next u ∧
      u.strm = s.strm ∧ u.pair.wants = (s.pair.answer (beAt m.data 1 1) (beAt m.data 2 2) (beAt m.data 4 4)).wants) ∧
    (∃ u, exec (.repairWaitExpiry t grp chan k) s = .next u ∧ (∀ w ∈ u.pair.wants, ¬ (w.grp = grp ∧ w.chan = chan ∧ w.k = k)) ∧
      (chanOf s.strm.chans grp chan = none → u.strm = s.strm))

/-- A part of `Obligations.HousekeepingRounds` (R79, R429, R431, R434, R435, R441, R442). -/
def HousekeepingSlots : Prop :=
  ∀ (s : State) (t n : Nat) (v : Int), s.island = true →
    let r := (s.tick t).recordsRun
    let does := amidRecords s t (.hkSlot t n v)
    (n ≤ 6 → let w := r.wr (F.HK_TEMPn_READ n) (unsigned 16 v)
      (tempInRange (w.hkRead n) = true → does (fun s => s.wr (F.HK_TEMPn_READ n) (unsigned 16 v))) ∧
      (tempInRange (w.hkRead n) = false → does (fun s => (s.wr (F.HK_TEMPn_READ n) (unsigned 16 v)).failSensor n 1))) ∧
    (7 ≤ n → n ≤ 24 → does (fun s => s.hkChan n (s.hkMv v))) ∧
    (n = 25 → does (fun s => (s.hkChan 25 (unsigned 16 v)).vrefSense v)) ∧
    (n = 26 → r.crackRuns = true → does (fun s => (s.hkChan 26 (b2n (v != 0))).crackSample (v != 0))) ∧
    (n = 26 → r.crackRuns = false → does (fun s => s)) ∧
    (n = 27 → does (fun s => (s.hkChan 27 (s.hkMv v)).vholdSense (s.hkMv v))) ∧
    (n = 28 → does (fun s => (s.hkChan 28 (s.hkMv v)).vinSense (s.hkMv v))) ∧
    (n = 29 → does (fun s => State.hkChan { s with hk := { s.hk with zeroNew := natOf v } } 29 (natOf v))) ∧
    (n = 30 → does (fun s => State.hkChan { s with hk := { s.hk with refNew := natOf v } } 30 (natOf v))) ∧
    (31 ≤ n → does (fun s => s)) ∧
    (7 ≤ n → amidRecords s t (.sensorFail t n) (fun s => s) ∧ amidRecords s t (.sensorRestore t n) (fun s => s)) ∧
    (n < 7 → tempInRange (r.hkRead n) = true → r.hk.misses.getD n 0 < 3 → amidRecords s t (.sensorFail t n) (fun s => s)) ∧
    (n < 7 → r.hkFailed n = false → tempInRange (r.hkRead n) = false ∨ 3 ≤ r.hk.misses.getD n 0 → ∃ u : State, exec (.sensorFail t n) s = .next u.recordsRun ∧
      (u.hkFailed n = true) ∧
      (r.rd F.HK_STATUS_STATE ≠ 0 → u.hk.noraise = 500 ∧ u.rd F.HK_STATUS_NORAISE = 1)) ∧
    (n < 7 → r.hkFailed n = true → 500 ≤ r.hk.goods.getD n 0 → ∃ u : State, exec (.sensorRestore t n) s = .next u.recordsRun ∧ (u.hkFailed n = false)) ∧
    (s.hk.noraise = 0 → exec (.noraiseEnd t) s = .next ((s.tick t).wr F.HK_STATUS_NORAISE 0)) ∧
    (s.hk.noraise ≠ 0 → exec (.noraiseEnd t) s = .next (s.tick t))

/-- A part of `Obligations.HousekeepingRounds` (R79, R429, R431, R434, R435, R441, R442). -/
def EvaluationAndThermalExit : Prop :=
  ∀ (s : State) (t : Nat) (status : List Byte),
    let r := (s.tick t).recordsRun
    (s.island = true → ∃ u : State, exec (.hkEvaluation t status) s = .next u.recordsRun ∧
      (u.pwr.phase = r.pwr.phase → u.img.flash = r.img.flash ∧ ∀ i, i < 7 → u.hkFailed i = false → u.hkUsed i = r.hkRead i) ∧
      (u.pwr.phase ≠ r.pwr.phase → r.running = true ∧ u.pwr.phase = .awaitCool ∧ u.img.flash = (r.img.nvmReset false).flash)) ∧
    (s.pwr.phase = .awaitCool → 8 ≤ s.hk.cool → ∃ u, exec (.thermalResetExit t) s = .next u ∧
      u.pwr.phase = (if s.pwr.rails then .awaitRails else .exitDue) ∧ u.pwr.rails = false ∧ u.hk.r = 0 ∧ u.hk.cool = 0 ∧ u.rd F.HK_STATUS_STATE = 2) ∧
    (s.pwr.phase ≠ .awaitCool ∨ s.hk.cool < 8 → exec (.thermalResetExit t) s = .next (s.tick t))

/-- A request's session: its slot, its TAG checks, and its MSEQ is acceptable, leaving `x`. -/
def inSession (s : State) (q : MgmtReq) (i : Nat) (x : Session) : Prop :=
  ∃ y, s.mgmt.slotOf q.sid = some (i, y) ∧ 16 ≤ q.tag.length ∧ q.tag = mgmtTag y.sk q.signed ∧ y.accept q.mseq = some x

/-- `s` at instant `t` with the request taken off and its session used. -/
def afterAccept (s : State) (t : Nat) (rest : List Datagram) (i : Nat) (x : Session) : State :=
  (State.setSession { s.tick t with ring := { s.ring with mgmt := rest } } i (some { x with lastUse := max s.clk.now t })).inc F.TOP_MGMT_CNT_ACCEPTED

/-- A part of `Obligations.ManagementRequests` (R447, R448, R449, R450, R451, R452, R453, R454). -/
def ManagementRefusals : Prop :=
  ∀ (s : State) (t op : Nat) (c : Instr), s.alive = true →
    (c, op) ∈ [(Instr.mgmtSession t, 1), (.mgmtRead t, 2), (.mgmtWrite t, 3), (.mgmtSubscribe t, 4), (.mgmtLog t, 5)] →
    (takeReq op s.ring.mgmt = none → exec c s = .next (s.tick t)) ∧
    (op = 5 → s.logWaits = true → exec c s = .next (s.tick t)) ∧
    (∀ q rest, takeReq op s.ring.mgmt = some (q, rest) → (op = 5 → s.logWaits = false) →
      (q.pay.length < 16 ∨ q.target ≠ s.mac → exec c s = .next { s.tick t with ring := { s.ring with mgmt := rest } }) ∧
      (16 ≤ q.pay.length → q.target = s.mac → 2 ≤ op →
        (s.mgmt.slotOf q.sid = none → exec c s = .next (State.authFail { s.tick t with ring := { s.ring with mgmt := rest } } 6 q.mseq)) ∧
        (∀ i y, s.mgmt.slotOf q.sid = some (i, y) → q.tag ≠ mgmtTag y.sk q.signed → exec c s = .next (State.authFail { s.tick t with ring := { s.ring with mgmt := rest } } 5 q.mseq)) ∧
        (∀ i y, s.mgmt.slotOf q.sid = some (i, y) → 16 ≤ q.tag.length → q.tag = mgmtTag y.sk q.signed → y.accept q.mseq = none →
          exec c s = .next { s.tick t with ring := { s.ring with mgmt := rest } })) ∧
      (16 ≤ q.pay.length → q.target = s.mac → op = 1 → s.sessionCheck q ≠ 0 →
        exec c s = .next (State.authFail { s.tick t with ring := { s.ring with mgmt := rest } } (s.sessionCheck q) q.mseq)))

/-- A part of `Obligations.ManagementRequests` (R447, R448, R449, R450, R451, R452, R453, R454). -/
def ManagementAnswers : Prop :=
  ∀ (s : State) (t i : Nat) (q : MgmtReq) (rest : List Datagram) (x : Session), s.alive = true → 16 ≤ q.pay.length → q.target = s.mac →
    let v := afterAccept s t rest i x
    let b := q.body
    (takeReq 1 s.ring.mgmt = some (q, rest) → s.sessionCheck q = 0 → s.mgmt.newSlot < s.mgmt.sessions.length → ∃ u y, exec (.mgmtSession t) s = .next u ∧
      u.mgmt.sessions.getD s.mgmt.newSlot none = some y ∧ y.sid = (if s.mgmt.lastSid = 65535 then 1 else s.mgmt.lastSid + 1) ∧ u.mgmt.lastSid = y.sid ∧
      y.winEnd = q.mseq ∧ y.mask = 0 ∧ y.lastUse = max s.clk.now t ∧ u.ring.mgmt = rest) ∧
    (inSession s q i x →
      (takeReq 2 s.ring.mgmt = some (q, rest) → q.formed 8 = true → beAt b 0 4 % 4 = 0 → 1 ≤ beAt b 4 2 → beAt b 4 2 ≤ 256 → beAt b 6 2 = 0 →
        exec (.mgmtRead t) s = .next (let r := v.readWords (beAt b 4 2) (beAt b 0 4) []
          r.1.mgmtAnswer q x.sid x.sk (if r.2.2 then 0 else 2) r.2.1)) ∧
      (takeReq 3 s.ring.mgmt = some (q, rest) → q.formed (4 + 8 * beAt b 0 2) = true → 1 ≤ beAt b 0 2 → beAt b 0 2 ≤ 64 → beAt b 2 2 = 0 →
        (∀ k a, v.firstBad 0 (writePairs b (beAt b 0 2)) = some (k, a, 2) → exec (.mgmtWrite t) s = .next (v.mgmtAnswer q x.sid x.sk 2 (beBytes 2 k))) ∧
        (∀ k a, v.firstBad 0 (writePairs b (beAt b 0 2)) = some (k, a, 3) →
          exec (.mgmtWrite t) s = .next ((v.raise 0x022 bTOP a x.sid).mgmtAnswer q x.sid x.sk 3 (beBytes 2 k))) ∧
        (∀ k e, v.firstBad 0 (writePairs b (beAt b 0 2)) = none → v.applyPairs 0 (writePairs b (beAt b 0 2)) = .inr (k, e) →
          exec (.mgmtWrite t) s = .next ((v.busyEvent e).mgmtAnswer q x.sid x.sk 4 (beBytes 2 k))) ∧
        (∀ w, v.firstBad 0 (writePairs b (beAt b 0 2)) = none → v.applyPairs 0 (writePairs b (beAt b 0 2)) = .inl w →
          exec (.mgmtWrite t) s = .next (if w.running then w.mgmtAnswer q x.sid x.sk 0 [] else w))) ∧
      (takeReq 4 s.ring.mgmt = some (q, rest) → q.formed 4 = true → beAt b 0 4 < 2 ^ 20 → i < s.mgmt.sessions.length → ∃ u y, exec (.mgmtSubscribe t) s = .next u ∧
        u.mgmt.sessions.getD i none = some y ∧ y.mask = beAt b 0 4 ∧ y.sid = x.sid ∧ (beAt b 0 4 = 0 → y.buf = [])) ∧
      (∀ d, takeReq 5 s.ring.mgmt = some (q, rest) → s.logWaits = false → q.formed 8 = true → beAt b 1 1 = 0 →
        v.logBytes (beAt b 0 1) (beAt b 2 2) (beAt b 4 4) = some d → exec (.mgmtLog t) s = .next (v.mgmtAnswer q x.sid x.sk 0 d)))

/-- The commands of the TAP. -/
def tapCommand : Instr → Bool
  | .trstAssert _ => true
  | .trstDeassert _ => true
  | .jtagBypass _ => true
  | .jtagIdcode _ => true
  | .jtagSamplePreload _ _ _ => true
  | .jtagExtest _ _ => true
  | .jtagExtestPulse _ _ => true
  | .jtagExtestTrain _ _ => true
  | .jtagClamp _ => true
  | .jtagHighz _ => true
  | _ => false

/-- The commands after which the committed set may be another: the two that can open a lock cycle, those that can reset the device, those that
load the image, and the two by which a joining device takes ownership off. -/
def movesCommitted : Instr → Bool
  | .levelReportReceived _ _ _ => true
  | .levelWindowExpiry _ => true
  | .porAssert _ => true
  | .resetTrip _ _ => true
  | .pwrResetWarm _ _ => true
  | .resetExit _ _ _ _ _ => true
  | .registerWrite _ _ _ _ => true
  | .mgmtWrite _ => true
  | .hkEvaluation _ _ => true
  | .imageHeaderRead _ _ => true
  | .imageFirstPassDone _ => true
  | .imageSecondPassDone _ _ => true
  | .joinWaitTimeout _ => true
  | .towHb _ _ => true
  | .bootFirstCloseSet _ => true
  | _ => false

/-- The commands by which a waiting image load may go on (R95), or a load that waits for the flash begin (R108). -/
def loadsOn : Instr → Bool
  | .hkSlot _ _ _ => true
  | .hkEvaluation _ _ => true
  | .sensorFail _ _ => true
  | .sensorRestore _ _ => true
  | .i2cRead _ _ => true
  | .warnTrip _ _ => true
  | .braceEnd _ => true
  | .overvoltTrip _ _ => true
  | .flightSlot _ => true
  | .domainPowerGood _ => true
  | .powerGoodTimeout _ => true
  | .domainDrained _ _ => true
  | .nvmOpDone _ _ => true
  | .nvmOpTimeout _ => true
  | .eraseSuspended _ => true
  | .panelSeqStep _ => true
  | .dischargeEnd _ => true
  | .panelRetryWait _ => true
  | .vinTrip _ => true
  | .crackLatch _ => true
  | _ => false

end Sys2Proof.Claims

section

open Sys2Proof Sys2Proof.Machine Sys2Proof.Safety Sys2Proof.Claims

/-- A management write acts on each bit by its access code; a mode write touches the tentative mode. While the device runs. REGISTER_WRITE of an address
without a register changes nothing but the clock; outside the manifest it raises event 0x022 and nothing else; where no rule holds the write back: a
register of read-only bits takes nothing; one of RWS bits (but TOP_MODE) takes the written bits that the manifest lets through into its shadow word,
or, during a lock cycle, the write waits in the hold queue; one of W1C bits (but PWR_DOM_FAIL, whose statement is its own) clears the bits written as
1. TOP_MODE_WRITE between lock cycles: the shadow mode takes the bits that the management source may write, those bits it changes are noted as
touched, and nothing changes but shadow words (none but that of TOP_MODE), the notes of the tentative mode and the events; during a lock cycle the
write joins the hold queue of 64 entries, and where it is full raises event 0x007 and nothing else. SHADOW_DISCARD without bit 0 does nothing; with it
the shadow set becomes the committed set, at once between lock cycles, and otherwise the discard is noted. (R7, R11, R13, R40, R56, R58) -/
def Obligations.LedgerWrites : Prop := Claims.RegisterWriteByAccessCode ∧ Claims.ModeAndDiscardWrites

/-- The close freezes the candidate set; each block reports once all its instances have staged. While the device runs. LOCK_CLOSE of a lock that runs,
between cycles: the phase becomes level, the frozen set holds the shadow set, its difference from the committed set is noted, a report is wanted of
every powered block with settings, and the pound numbers and the commit store stand; otherwise it does nothing. LEVEL_STAGE of an instance that can
stage notes it and, once every powered instance of the block has staged, sends the report of the block; of another it does nothing. (R34, R35, R36,
R37) -/
def Obligations.LockCloseAndLevels : Prop := Claims.LockClosePrepares ∧ Claims.LevelStageReports

/-- Level reports and the window decide the lock cycle, and the open commits all or nothing. While the device runs. LEVEL_REPORT_RECEIVED in the phase
level takes the report of its block off the wire: one without a veto whose CRC is wrong counts for nothing more; one whose CRC is right is counted
with its time; a veto, or the last good report, decides. LEVEL_WINDOW_EXPIRY in the phase level decides with the missing blocks, unless a veto stands.
At the decision the phase is opened, the pound is the next pound, the next pound follows, and the committed set is the frozen set where the outcome is
applied and the old set otherwise. A LEVEL_WINDOW_EXPIRY after a veto decided early only counts one more miss of every block without a report and
zeroes the count of the others; without one pending it does nothing. (R34, R36, R37, R38, R39, R45) -/
def Obligations.LockDecides : Prop := Claims.LevelReportCounts ∧ Claims.WindowExpiryDecides

/-- Commit tokens, the end of a lock cycle, reloads, stale barges and forced unit resets. While the device runs. COMMIT_TOKEN of a unit that is awaited
takes it off the list and marks it as acting on the open pound, and changes nothing else. LOCK_CYCLE_END, once no powered unit is awaited, returns to
idle with an empty hold queue; where that queue was empty the shadow set is the committed set if a discard waited and else stands, a discard that
waited always makes it the committed set, and the commit store stands; while a powered unit is awaited it does nothing. UNIT_RELOAD ends a reload with
event 0x004, and does nothing to a unit that is not reloading. BARGE_TAKE of an instance that is not reloading, outside DEC: a barge later than the
acted pound stays, one that the unit still has a bank for is taken, a staler one is discarded, counted and reported by event 0x006. For a powered DEC
instance the chunks of the queue that are earlier than its acted pound leave; one that has not acted, is reloading or is off leaves everything.
FORCED_UNIT_RESET that is due: for TOP, TIME, BASIN and RING it asserts FAULT_L and lowers PAIR_HB_OUT and does nothing else; for another block every
powered instance that is due is reloading after it; for blocks but DEC, SCAN and COMP nothing else happens than event 0x005, TOP_STATUS.FORCED, the
block’s misses at zero, the recovery window of event 0x001 counted from here, and the reloads. That the four blocks are those answered by FAULT_L is
the model’s reading, log entry 23. (R34, R40, R43, R44, R45, R47, R48) -/
def Obligations.TokensAndReloads : Prop := Claims.TokenAndCycleEnd ∧ Claims.ReloadAndBarge ∧ Claims.ForcedReset

/-- GPIO levels are counted per sample and accepted after 100 equal samples. With the always-on island powered and 16 counters: GPIO_SAMPLE keeps the
level of the 16 inputs and counts equal samples up to 100, from 1 again at a change, and changes nothing else (the saturation and the 16 inputs are
the model’s choice, log entry 31). GPIO_ACCEPT takes the level of every input with 100 equal samples, leaves the others, and changes nothing else.
(R58) -/
def Obligations.GpioSampleAndAccept : Prop :=
  ∀ (s : State) (t levels : Nat), s.island = true → s.lock.gpioCount.length = 16 →
    (∃ u, exec (.gpioSample t levels) s = .next u ∧
      u = { s.tick t with lock := { s.lock with gpioSeen := levels % 65536, gpioCount := u.lock.gpioCount } } ∧
      ∀ i, i < 16 → u.lock.gpioCount.getD i 0 =
        if bitAt s.lock.gpioSeen i = bitAt levels i then min 100 (s.lock.gpioCount.getD i 0 + 1) else 1) ∧
    (∃ u, exec (.gpioAccept t) s = .next u ∧
      u = { s.tick t with lock := { s.lock with gpioAcc := u.lock.gpioAcc, gpioPrev := u.lock.gpioPrev, gpioAccAt := u.lock.gpioAccAt } } ∧
      ∀ i, i < 16 → bitAt u.lock.gpioAcc i = if 100 ≤ s.lock.gpioCount.getD i 0 then bitAt s.lock.gpioSeen i else bitAt s.lock.gpioAcc i)

/-- Power-on and monitor resets: what a cold reset clears, what a warm one keeps. POR_ASSERT is a cold reset and the block is held in reset: every block
is at its reset value; the straps, the OTP, the queue and the TRST_L pin of the TAP stand; the flash is that of the reset operation and stands where
no flash operation runs; the clock moves to the instant. RESET_TRIP of the monitors 5 and 16 (VDD_AON and VDD_IO) is the same cold reset and waits for
the rails, or stays held while POR is asserted. RESET_TRIP of another monitor from running is a warm reset that waits for the rails: no lock cycle is
in progress, the TAP, the pending event slots and the housekeeping state stand, the two banks of the commit store are kept, and the flash is that of
the reset operation. While the exit of a warm reset is due, such a trip makes it wait for the rails again. (R79, R80, R81) -/
def Obligations.ResetEntries : Prop := Claims.PorColdReset ∧ Claims.ResetTrips

/-- Release of reset, reset exit, and the warm reset that management asks for. POR_DEASSERT and SEQ_CHECK_RETRY: reset exit is due where every monitored
rail is good, else PWR_RST_CAUSE.SEQ is set and the check waits; nothing else changes. MONITOR_RECOVERY of a device that waits for its rails makes
reset exit due and clears PWR_MON_LIVE.WARN. RESET_EXIT that is due: the device runs, the straps are latched, an OTP that is not blank stands, the TAP
stands, device time starts at 0, and, without TEST_EN and with no bank marked, the image load begins with the bank that the commit area and the strap
give; one that is not due does nothing. PWR_RESET_WARM with the key and bit 0 makes reset exit due after a warm reset: the TAP, the housekeeping
state, the OTP, the straps, the event ring and the accepted GPIO levels stand, the banks of the commit store are kept, the flash is that of the reset
operation and stands where no flash operation runs, no lock cycle is in progress, and the Basin and the composer are at their reset values; with
anything else it does nothing. (R70, R71, R79, R80, R90, R91) -/
def Obligations.ResetReleasesAndExits : Prop := Claims.ResetReleases ∧ Claims.ResetExits ∧ Claims.WarmResetRequests

/-- Overvoltage sets its bit and raises event 0x104, and nothing else. With the always-on island powered, OVERVOLT_TRIP of rail n sets bit n of
PWR_MON_OV and raises event 0x104 with the mask of the rail and the pound; nothing else changes but the clock. (Records of an image load that are due
by then run before and after it, as R95 has them; that is no action of the rail.) (R84) -/
def Obligations.OvervoltOnlyReports : Prop :=
  ∀ (s : State) (t n : Nat), s.island = true → n < 18 →
    amidRecords s t (.overvoltTrip t n) (fun s => (s.wr F.PWR_MON_OV_OV (orBit (s.rd F.PWR_MON_OV_OV) n)).raise 0x104 bPWR (2 ^ n) s.lock.pound) ∧
    (s.img.recs = none → exec (.overvoltTrip t n) s = .next
      (((s.tick t).wr F.PWR_MON_OV_OV (orBit (s.rd F.PWR_MON_OV_OV) n)).raise 0x104 bPWR (2 ^ n) s.lock.pound))

/-- A power warning starts a brace, which reports once and ends; PWR_DOM_FAIL bits are cleared. While the device runs. WARN_TRIP with no brace in progress
begins one of that monitor in the open pound, and marks the pound; during a brace it records the trip, and the mask of the event takes the monitor up
to 200 ns after the start while event 0x101 has not been raised; of the power state nothing else changes. BRACE_EVENT_WINDOW during a brace raises
event 0x101 with the mask once and then does nothing more; BRACE_END leaves no brace and PWR_MON_LIVE.WARN at 0. DOM_FAIL_CLEAR of word 0 to 4 clears
the bits written as 1 in that word of the live registers, and of the ledger nothing else changes; where it clears none and the power sequencer has
nothing to take, nothing else changes at all. (R77, R82, R83) -/
def Obligations.BracesAndFailClear : Prop := Claims.BraceRuns ∧ Claims.FailClear

/-- Domain power-up and power-down in flight slots. While the device runs, amid the records of an image load (R95), with a domain in the slot:
DOMAIN_POWER_GOOD of a domain going up marks it good and reloads its units, and changes nothing else. POWER_GOOD_TIMEOUT of one that is not good: the
first time it is put at the head of the power-up queue, the second time event 0x103 argument 2 is raised and its bit in PWR_DOM_FAIL is set, FAULT_L
is asserted and PAIR_HB_OUT lowered where the domain is an always-on one or one that HOLD does not need, and of the rest nothing changes. FLIGHT_SLOT
puts the domain up where it went up and was good, and down where it went down and is idle. DOMAIN_DRAINED with an empty slot, empty queues and no
brace starts the power-down of an idle domain that is up and no longer needed; of a domain that is down or needed it does nothing. The order of a
retry and which domains answer by FAULT_L are the model’s choices, log entry 128. (R51, R52, R74, R76, R77, R78) -/
def Obligations.FlightSlots : Prop :=
  ∀ (s : State) (t d : Nat) (sl : Slot), s.alive = true → 
    let r := (s.tick t).recordsRun
    (r.pwr.slot = some sl →
      (sl.up = true → sl.failed = false → ∃ u : State, exec (.domainPowerGood t) s = .next u.recordsRun ∧
        u = { r with pwr := { r.pwr with slot := some { sl with good := true } }, units := u.units } ∧
        ∀ x ∈ unitsOfDomain sl.dom, (unitOf u.units x.1 x.2).reload = true) ∧
      (sl.up = true → sl.good = false → sl.failed = false → r.pwr.retried.contains sl.dom = false → ∃ u : State, exec (.powerGoodTimeout t) s = .next u.recordsRun ∧
        u.pwr = { r.pwr with slot := some { sl with failed := true }, retried := sl.dom :: r.pwr.retried, upQ := sl.dom :: r.pwr.upQ }) ∧
      (sl.up = true → sl.good = false → sl.failed = false → r.pwr.retried.contains sl.dom = true → ∃ u : State, exec (.powerGoodTimeout t) s = .next u.recordsRun ∧
        u = { (r.raise 0x103 bPWR sl.dom 2).wrW (R.PWR_DOM_FAIL (sl.dom / 32))
                (BitVec.ofNat 32 (orBit (r.rdW (R.PWR_DOM_FAIL (sl.dom / 32))).toNat (sl.dom % 32))) with pwr := u.pwr, pair := u.pair, lock := u.lock } ∧
        u.pair = (if alwaysDomain sl.dom || noHoldDomain sl.dom then { r.pair with hbOut := false } else r.pair) ∧
        u.lock = { r.lock with recover := u.lock.recover } ∧
        u.pwr.retried = r.pwr.retried.filter (· ≠ sl.dom) ∧
        u.pwr.fault = (alwaysDomain sl.dom || noHoldDomain sl.dom || r.pwr.fault)) ∧
      (∃ u : State, exec (.flightSlot t) s = .next u.recordsRun ∧ u.pwr.up =
        if sl.up then (if sl.good then orBit r.pwr.up sl.dom else r.pwr.up) else if r.domainIdle sl.dom then clearBit r.pwr.up sl.dom else r.pwr.up)) ∧
    (r.pwr.slot = none → r.pwr.brace = none → r.pwr.upQ = [] → r.pwr.downQ = [] →
      r.domUp d = true → r.needDomain r.cset d = false → r.domainIdle d = true →
      exec (.domainDrained t d) s = .next (State.recordsRun { r with pwr := { r.pwr with
        slot := some { dom := d, up := false, good := false, failed := false } } })) ∧
    (r.domUp d = false ∨ r.needDomain r.cset d = true ∨ r.domainIdle d = false → exec (.domainDrained t d) s = .next r.recordsRun)

/-- The image header, the two passes, and the fall back to the other bank. While the device runs. IMAGE_HEADER_READ: with a good header and fewer than
two DQS failures the header is taken and the first pass begins; otherwise the other bank is tried, or, where it is the second bank or is marked, the
load fails; flash and OTP stand. IMAGE_FIRST_PASS_DONE with a good signature raises event 0x302, reaches steps 6 and 7 and applies the records: where
they end without a veto the second pass begins, with a veto or a failing record the bank fails with cause 9, and a POLL that is not met, or a DELAY,
waits until its time; with a bad signature the bank fails with the ledger banks and the manifest as at reset. While a record waits
IMAGE_SECOND_PASS_DONE does nothing; a POLL that is met, and a DELAY that has passed, let the records go on, and a POLL not met in its time fails the
bank with cause 9. IMAGE_SECOND_PASS_DONE with no record waiting, and tables and manifest that can be used: the same digest puts the tables (with the
calibration) and the manifest in use and deasserts RESET_OUT_L; another digest marks the bank and a warm reset follows. (R87, R90, R92, R93, R95, R96,
R97, R98, R99, R102, R103) -/
def Obligations.ImageLoads : Prop := Claims.ImageHeaderLoads ∧ Claims.ImagePassesEnd ∧ Claims.WaitingRecords ∧ Claims.NoRecordWaits

/-- The boot timeline: the free-run timeout, the first close and the joining of a partner. While the device runs. BOOT_FREE_RUN_TIMEOUT once a boot is
ready lets it go on without a locked time; before, it does nothing. BOOT_FIRST_CLOSE_SET at step 13 with the panel settled and the lock not running:
an unpaired device starts with pound 0, the launch time of pound 0 still to be reached by two lock cycles before it, and the commit store as it is; a
paired device that heard an owner within 10 ms adopts its pound and frame count as follower; side B that has heard nobody waits as no owner and does
not start the lock. (R102, R150, R412) -/
def Obligations.BootStepsRun : Prop :=
  ∀ (s : State) (t : Nat), s.alive = true →
    (s.img.readyAt.isSome = true → ∃ u, exec (.bootFreeRunTimeout t) s = .next u ∧ u.img.timeStep = true) ∧
    (s.img.readyAt = none → exec (.bootFreeRunTimeout t) s = .next (s.tick t)) ∧
    (s.img.panelStep = true → s.stage = 13 → s.lock.running = false → s.pstate ≠ pUPSEQ → s.pstate ≠ pTRAIN →
      (s.paired = false → ∃ u, exec (.bootFirstCloseSet t) s = .next u ∧ u.lock.running = true ∧ u.lock.nextPound = 0 ∧
        u.time.nextL = 2 ^ 32 - 2 ∧ u.scan.pre = 2 ∧ u.led.bank0 = s.led.bank0 ∧ u.led.bank1 = s.led.bank1) ∧
      (∀ h, s.paired = true → s.pair.hb = some h → bitAt h.flags 0 = true → max s.clk.now t ≤ h.at_ + 10000000 →
        ∃ u, exec (.bootFirstCloseSet t) s = .next u ∧ u.lock.running = true ∧ u.lock.nextPound = poundAdd h.pound 1 ∧
          u.pair.own = false ∧ u.scan.fcnt = h.fcnt) ∧
      (s.pwr.straps.pair = 2 → s.pair.hb = none → ∃ u, exec (.bootFirstCloseSet t) s = .next u ∧
        u.pair.joinWait = true ∧ u.pair.own = false ∧ u.lock.running = false))

/-- Update commands and data by the state of the updater. While the device runs. UPD_START in the states 0, 5, 6 with a legal length: STATE 1, OFF 0, no
bytes held, the flash as it was. UPD_VERIFY when all bytes are in the flash: STATE 2 and event 0x304. UPD_COMMIT in STATE 3: STATE 4 and a job for the
commit page, the flash as it was. UPD_ABORT in STATE 1 to 3: STATE 6, cause 14, event 0x304. Any of these in another case raises event 0x304 with the
state and FFFF_FFFF and does nothing else. UPD_DATA in STATE 1 below the length and with room appends a word and moves OFF by 4, the flash as it was;
otherwise it does nothing. UPD_LEN_WRITE sets the length in the states 0, 5, 6 only. UPD_VERIFY_DONE in STATE 2 ends as STATE 3, or as STATE 6 with
cause 12 for a read error and else the cause of the check. (R104, R105, R106) -/
def Obligations.FirmwareUpdate : Prop := Claims.UpdateCommands ∧ Claims.UpdateData

/-- Flash operations complete, are tried once more, and are suspended; the calibration save. NVM_OP_DONE of a success applies the operation to the flash
and to the OTP, and a job (not a save of the calibration) with operations left goes on with them. A first failure raises event 0x306 with kind and
address: the operation is tried again at once, or, during a brace, the job waits at the head of the queue with its retry noted; a second failure
leaves flash and OTP as they were. NVM_OP_TIMEOUT of a read does nothing; of another operation it counts as a failure in the same way, while the
device runs without a brace. While the device runs: ERASE_SUSPENDED of an erase that suspends shows it during a brace and ends the suspension after;
without one it does nothing. CAL_SAVE with bit 0 leaves the flash and, with an idle flash controller, starts a job with the contents of the
calibration for the copy that is not the latest, with the next SEQ; with the controller busy or a brace in progress it waits in the queue with these
contents; without bit 0 it does nothing. (R101, R106, R107, R108, R109) -/
def Obligations.FlashJobs : Prop := Claims.FlashOperations ∧ Claims.SuspendAndCalSave

/-- A ring frame is adopted, forwarded, stripped or discarded by its tag. While the device runs. RING_FRAME_RX on port E or W of an open weir with the
link up, of a frame whose head is readable: a tagged frame that this device originated goes no further and is delivered nowhere; one of another tag
version is forwarded unchanged to the other port, delivered nowhere and counted; one for this device or with HOP 1 goes no further; any other tagged
frame is forwarded with one hop less; a MAC control frame or an untagged frame for this device goes no further; any other untagged frame is forwarded
with the tag of this device and, where DUAL is set, copied to the port it came from. With the weir closed, the link down or another port number,
RING_FRAME_RX and TX_FRAME_BOUNDARY do nothing. (R114, R115, R116, R117, R118, R121) -/
def Obligations.RingFrames : Prop := Claims.RingFrameRows ∧ Claims.RingClosedFrames

/-- At a frame boundary one frame is taken by the rules of the insertion buffer. While the device runs, on an open weir with the link up and the
transmitter free, TX_FRAME_BOUNDARY takes what the pick of R122 to R124 and R154 gives: an own frame leaves the local queue, the arriving transit
moves behind the insertion buffer, and the wire is occupied for its length; a buffered frame leaves the insertion buffer; an arriving transit frame is
sent through; where the pick gives none nothing is on the wire. A frame leaves with its PTP residence time corrected and its FCS, stomped where it was
cut. The other port stands. (R118, R120, R122, R123, R154) -/
def Obligations.TxBoundaryPicks : Prop :=
  ∀ (s : State) (t x : Nat), s.alive = true → x < 2 → s.ring.ports.length = 2 → s.ring.weirOpen = true → (s.ring.port x).link = 2 →
    (s.ring.port x).busy ≤ max s.clk.now t → ∃ u, exec (.txFrameBoundary t x) s = .next u ∧
      let p := s.ring.port x
      let now := max s.clk.now t
      let dev := (s.tick t).dev
      let k := p.pick now dev (s.cm F.RING_FAIR_MAX_WAIT)
      u.ring.port (1 - x) = s.ring.port (1 - x) ∧
      (k = .none → u.ring.port x = { p with wire := none }) ∧
      (∀ i l, k = .own i l →
        let d := (leaving l.data l.inAt dev).1
        u.ring.port x = { p with loc := p.loc.eraseIdx i, wire := some { own := true, data := d, fcs := fcsOf d l.stomp },
                                 busy := now + wireNs l.len, ins := p.ins ++ p.arriving, arriving := [] }) ∧
      (∀ y, k = .buffer y →
        let d := (leaving y.data (some y.inAt) dev).1
        u.ring.port x = { p with ins := p.ins.drop 1, wire := some { own := false, data := d, fcs := fcsOf d y.stomp },
                                 busy := now + wireNs (d.length + 4) }) ∧
      (∀ y, k = .transit y →
        let d := (leaving y.data (some y.inAt) dev).1
        u.ring.port x = { p with arriving := p.arriving.drop 1, wire := some { own := false, data := d, fcs := fcsOf d y.stomp },
                                 busy := now + wireNs (d.length + 4) })

/-- The weir opens after a passed loopback and is retried after a failed one; links report. While the device runs. LOOPBACK_PASS in loopback training
opens the weir unless FORCE_BYPASS is 1, ends the training and its retry, and passes the boot step. LOOPBACK_TIMEOUT leaves the weir, ends the
training, notes the time for the retry and passes the boot step. Without training both do nothing. WEIR_RETRY after a failure trains again on the
eight ring lanes with LOOP_OK 0; otherwise it does nothing. LINK_UP of a port whose link is training, weir open, shows the link, raises event 0x400
with its medium, and for an optical medium changes nothing else; otherwise it does nothing. LINK_DOWN of a port shows the link as down and empties
what was arriving and on its wire, with event 0x401 where the link was up or the cause is 2; with the weir open its receivers train again; of a port
that is off it does nothing. (R124, R125, R126) -/
def Obligations.LoopbackAndLinks : Prop :=
  ∀ (s : State) (t x cause : Nat) (tr : List LinkTrain), s.alive = true →
    (∀ since, s.ring.training = some since → ∃ u, exec (.loopbackPass t) s = .next u ∧
      u.ring.weirOpen = (s.ring.weirOpen || s.cm F.RING_WEIR_FORCE_BYPASS != 1) ∧ u.ring.training = none ∧ u.ring.retryFrom = none ∧
      u.img.weirStep = true) ∧
    (∀ since, s.ring.training = some since → ∃ u, exec (.loopbackTimeout t) s = .next u ∧
      u.ring.weirOpen = s.ring.weirOpen ∧ u.ring.training = none ∧ u.ring.retryFrom = some (max s.clk.now t) ∧ u.img.weirStep = true) ∧
    (s.ring.training = none → exec (.loopbackPass t) s = .next (s.tick t) ∧ exec (.loopbackTimeout t) s = .next (s.tick t)) ∧
    (s.ring.retryFrom.isSome = true → ∃ u, exec (.weirRetry t) s = .next u ∧ u.rd F.RING_STATUS_LOOP_OK = 0 ∧
      u.ring = { s.ring with training := some (max s.clk.now t), retryFrom := none } ∧
      ∀ n, 48 ≤ n → n < 56 → (u.lanes.lane n).training = true) ∧
    (s.ring.retryFrom = none → exec (.weirRetry t) s = .next (s.tick t)) ∧
    (x < 2 → s.ring.weirOpen = true → (s.ring.port x).link = 1 →
      let media := s.cm (if x = 0 then F.RING_PORT_CFG_E_MEDIA else F.RING_PORT_CFG_W_MEDIA)
      (2 ≤ media → exec (.linkUp t ⟨x, tr⟩) s = .next
        ((((s.tick t).modPort x (fun p => { p with link := 2 })).wr (linkFld x) 1).raiseI 0x400 bRING x x media)) ∧
      ∃ u, exec (.linkUp t ⟨x, tr⟩) s = .next u ∧ u.ring = ((s.tick t).modPort x (fun p => { p with link := 2 })).ring ∧ u.rd (linkFld x) = 1 ∧
        u.evt = ((s.tick t).raiseI 0x400 bRING x x media).evt) ∧
    (x < 2 → s.ring.weirOpen = false ∨ (s.ring.port x).link ≠ 1 → exec (.linkUp t ⟨x, tr⟩) s = .next (s.tick t)) ∧
    (x < 2 → (s.ring.port x).link ≠ 0 → exec (.linkDown t x cause) s = .next
      (let v := (s.tick t).modPort x (fun p => { p with link := if s.ring.weirOpen then 1 else 0, arriving := [], wire := none, busy := 0 })
       let w := if s.ring.weirOpen then v.portRx x else v
       if (s.ring.port x).link = 2 ∨ cause = 2 then (w.wr (linkFld x) 0).raiseI 0x401 bRING x x cause else w.wr (linkFld x) 0)) ∧
    (x < 2 → (s.ring.port x).link = 0 → exec (.linkDown t x cause) s = .next (s.tick t))

/-- A Pliash packet goes by its type, after its header checks. While the device runs, PLIASH_PACKET takes the first datagram. One whose header fails a
check is discarded and counted as FORMAT. A MGMT packet is queued for management. A KEY packet for this device (or of a length that is not 344) is
queued; with 8 waiting it is refused with event 0xF01 cause 7; one for another device is discarded. DATA and PARITY are dropped and counted while the
scene is dropped. A DATA packet (encryption not required) of a known channel, not later than the window: 256 or more packets back it is late, closer
and already received it is a duplicate, each counted and nothing else. (R127, R128, R129, R134, R135) -/
def Obligations.PliashTypes : Prop :=
  ∀ (s : State) (t : Nat) (d : Datagram) (rest : List Datagram), s.alive = true → s.ring.rx = d :: rest →
    let s0 : State := { s.tick t with ring := { s.ring with rx := rest } }
    let b := d.data
    let pay := slice b 16 (beAt b 6 2)
    ((∀ ty, 1 ≤ ty → ty ≤ 4 → ¬ PliashOk d ty) → exec (.pliashPacket t) s = .next (s0.inc F.RING_RX_DISC_FORMAT)) ∧
    (PliashOk d 4 → exec (.pliashPacket t) s = .next
      { s0 with ring := { s.ring with rx := rest, mgmt := s.ring.mgmt ++ [{ d with data := b.take (16 + beAt b 6 2) }] } }) ∧
    (PliashOk d 3 → ¬ (pay.length = 344 ∧ beAt pay 4 6 ≠ s.mac) → s.sec.queue.length < 8 →
      exec (.pliashPacket t) s = .next { s0 with sec := { s.sec with queue := s.sec.queue ++ [pay] } }) ∧
    (PliashOk d 3 → ¬ (pay.length = 344 ∧ beAt pay 4 6 ≠ s.mac) → 8 ≤ s.sec.queue.length →
      exec (.pliashPacket t) s = .next ((s0.inc F.SEC_KEY_CNT_REFUSED).raise 0xF01 bSEC 7 (beAt pay 12 4))) ∧
    (PliashOk d 3 → pay.length = 344 ∧ beAt pay 4 6 ≠ s.mac → exec (.pliashPacket t) s = .next s0) ∧
    (PliashOk d 1 ∨ PliashOk d 2 → s.dropsScene = true → exec (.pliashPacket t) s = .next (s0.inc F.RING_DROP_CNT_COUNT)) ∧
    (∀ c w, PliashOk d 1 → s.dropsScene = false → s.cm F.SEC_CTRL_REQUIRE_ENC = 0 → chanOf s.strm.chans d.grp (beAt b 4 2) = some c →
      c.winEnd = some w → laterPound (beAt b 8 4) w = false →
      let back := (w + 2 ^ 32 - beAt b 8 4) % 2 ^ 32
      (256 ≤ back → exec (.pliashPacket t) s = .next (s0.inc F.RING_RX_DISC_LATE)) ∧
      (back < 256 → bitAt c.got back = true → exec (.pliashPacket t) s = .next (s0.inc F.RING_DUP_CNT_COUNT)))

/-- Parity groups time out, group queries are answered, KEY messages load keys. While the device runs. PARITY_WAIT_EXPIRY of an unknown channel or group,
or of a group that is wanted or resolved, does nothing; a waiting group with missing packets wants them from the partner where the pair can repair;
otherwise its missing packets are counted lost, the group is resolved, and the units that are whole now are parsed. IGMP_QUERY takes the first query;
with REPORT 1 it is answered on both ports by an IGMPv3 report of the IPv4 groups asked for and an MLDv2 report of the IPv6 ones, each where there is
one; otherwise nothing else happens; without a query it does nothing. KEY_MESSAGE takes the first message: the first failing check refuses it, counted
and with event 0xF01 and its cause (1 for a length that is not 344); a message that passes loads its half, leaves the others, is later than KSEQ,
which becomes its own, and sets its bit of KEY_STAT with event 0xF00; without one it does nothing. (R127, R131, R133, R134, R402) -/
def Obligations.GroupsQueriesKeys : Prop := Claims.ParityGroupWaits ∧ Claims.QueriesAnswered ∧ Claims.KeysLoad

/-- The best master is selected, without one the device runs free, and the time port moves to the ring that carries Syncs. While the device runs.
PTP_ANNOUNCE without an Announce waiting does nothing; otherwise it takes the first one: one that is not for this domain and version, is short, or
meets a closed weir does nothing more; one with a logAnnounceInterval outside -3 to 3 removes its sender from the list; one whose sequence number is
that of the last is ignored; any other enters its sender in the list, and after either change the best qualified master is selected. ANNOUNCE_TIMEOUT
without a master does nothing; otherwise the master leaves the list, the best of the others is selected, the rate is integ + ff with integ as it was,
and FREE_RUN is 1 exactly where none is left. TIME_PORT_TIMEOUT moves the time port, raises event 0x508 and forgets path, sample and requests, where
there is a master, the other port has heard its Syncs, and only the time port has been silent for three intervals; otherwise it does nothing. Which
announce counts as qualified is taken from IEEE 1588 (log entry 54). (R137, R140, R146) -/
def Obligations.MastersAndTimePort : Prop := Claims.MastersAreSelected ∧ Claims.TimePortMoves

/-- The servo of R143 and R145 from Sync, Follow_Up and Delay_Resp. While the device runs with a master whose Syncs are allowed, and the message is of
this domain, whole and from the master on the time port. PTP_SYNC of a two-step Sync keeps it; of a one-step Sync, or of the Follow_Up of the kept
one, and once a path sample is known, it runs the servo: path filter, offset with ASYM, integral and rate with their limits, runs inside and outside
LOCK_NS; an offset above STEP_US steps device time at once before the first lock cycle and is held for one after it, with the integral as it was.
PTP_DELAY_RESP to the own request gives the path sample, ends the request and takes its interval. DELAY_REQ_TIMER sends a request with the next
sequence number on both ports, or nothing where it would need an IPv4 address that is 0. The fate of the servo terms at a step is the model’s reading,
log entry 55. (R137, R141, R142, R143, R145) -/
def Obligations.ServoFollowsTheMaster : Prop :=
  ∀ (s : State) (t : Nat) (ma : Master), s.alive = true → s.time.master = some ma →
    (∀ x ∈ s.time.masters, x.portId = ma.portId → x.syncOk = true) →
    (∀ p r, takePtp isSync s.ring.ptp = some (p, r) → s.ptpOurs p.msg = true → 44 ≤ p.msg.length → ptpPort p.msg = ma.portId →
      beAt p.msg 0 1 % 16 = 0 → -7 ≤ ptpLog p.msg → ptpLog p.msg ≤ 1 → s.time.portSet = true → p.port = s.timePort →
      (bitAt (beAt p.msg 6 1) 1 = true → ∃ u, exec (.ptpSync t) s = .next u ∧ u.ring.ptp = r ∧
        u.time.pend = some { seq := beAt p.msg 30 2, t2 := p.at_, corr := ptpCorr p.msg }) ∧
      (∀ sm, bitAt (beAt p.msg 6 1) 1 = false → s.time.sm = some sm → ∃ u, exec (.ptpSync t) s = .next u ∧ u.ring.ptp = r ∧
        servoTerms (s.tick t) u ((p.at_ : Int) - ptpStamp p.msg 34 - ptpCorr p.msg) sm)) ∧
    (∀ p r w sm, takePtp isSync s.ring.ptp = some (p, r) → s.ptpOurs p.msg = true → 44 ≤ p.msg.length → ptpPort p.msg = ma.portId →
      beAt p.msg 0 1 % 16 = 8 → s.time.pend = some w → w.seq = beAt p.msg 30 2 → p.port = s.timePort → s.time.sm = some sm →
      ∃ u, exec (.ptpSync t) s = .next u ∧ u.ring.ptp = r ∧ u.time.pend = none ∧
        servoTerms (s.tick t) u (w.t2 - ptpStamp p.msg 34 - w.corr - ptpCorr p.msg) sm) ∧
    (∀ p r q t3, takePtp isDelayResp s.ring.ptp = some (p, r) → s.time.req = some q → (if s.timePort = 0 then q.t3e else q.t3w) = some t3 →
      s.ptpOurs p.msg = true → 54 ≤ p.msg.length → ptpPort p.msg = ma.portId → beAt p.msg 30 2 = q.seq →
      beAt p.msg 44 10 = clockIdentity s.mac * 65536 + (s.timePort + 1) → p.port = s.timePort →
      exec (.ptpDelayResp t) s = .next { s.tick t with
        ring := { s.ring with ptp := r },
        time := { s.time with sm := some (ptpStamp p.msg 34 - t3 - ptpCorr p.msg), req := none, reqInt := ptpLog p.msg } }) ∧
    (let q := (s.time.reqSeq + 1) % 65536
     let l := fun x => ({ LFrame.of (max s.clk.now t) 1 0 (s.delayReqFrame x q ma) with req := some q } : LFrame)
     ¬ (s.cm F.TIME_PTP_CFG_TRANSPORT = 1 ∧ s.cm F.RING_IP4_ADDR = 0) → exec (.delayReqTimer t) s = .next
       ((State.queueOn { s.tick t with time := { s.time with reqSeq := q, req := some { seq := q, t3e := none, t3w := none } } } 0 (l 0)).queueOn 1
         (l 1))) ∧
    (s.cm F.TIME_PTP_CFG_TRANSPORT = 1 → s.cm F.RING_IP4_ADDR = 0 → exec (.delayReqTimer t) s = .next (s.tick t))

/-- LOCKED is set after 16 computations inside LOCK_NS and cleared after 4 outside or on free-run. The servo counts consecutive computations inside and
outside LOCK_NS. While the device runs, TIME_LOCK_CHANGE sets LOCKED with event 0x500 after 16 inside (not in free-run; and boot goes on), clears it
with event 0x501 after 4 outside, and does nothing before. An ANNOUNCE_TIMEOUT that enters free-run clears LOCKED with event 0x501. (R144) -/
def Obligations.LockedFollowsTheRuns : Prop :=
  ∀ (s : State) (t : Nat), s.alive = true →
    (∀ (v : State) (ms sm : Int), v.time.sm = some sm →
      ((v.servo ms).time.offset.natAbs ≤ v.cm F.TIME_LOCK_LOCK_NS * 65536 → (v.servo ms).time.inRun = v.time.inRun + 1 ∧ (v.servo ms).time.outRun = 0) ∧
      (v.cm F.TIME_LOCK_LOCK_NS * 65536 < (v.servo ms).time.offset.natAbs → (v.servo ms).time.inRun = 0 ∧ (v.servo ms).time.outRun = v.time.outRun + 1)) ∧
    (s.rd F.TIME_STATUS_LOCKED = 0 → 16 ≤ s.time.inRun → s.rd F.TIME_STATUS_FREE_RUN = 0 →
      exec (.timeLockChange t) s = .next (State.bootTime
        ((((s.tick t).wr F.TIME_STATUS_LOCKED 1).wr F.TIME_STATUS_STATE 3).raise 0x500 bTIME (sat32 (sar s.time.offset 8)) (s.rd F.TIME_GM0_ID)))) ∧
    (s.rd F.TIME_STATUS_LOCKED = 1 → 4 ≤ s.time.outRun → exec (.timeLockChange t) s = .next
      ((((s.tick t).wr F.TIME_STATUS_LOCKED 0).raise 0x501 bTIME 1 (sat32 (sar s.time.offset 8))).wr F.TIME_STATUS_STATE 2)) ∧
    (s.rd F.TIME_STATUS_LOCKED = 0 → s.time.inRun < 16 ∨ s.rd F.TIME_STATUS_FREE_RUN ≠ 0 → exec (.timeLockChange t) s = .next (s.tick t)) ∧
    (s.rd F.TIME_STATUS_LOCKED = 1 → s.time.outRun < 4 → ∃ u, exec (.timeLockChange t) s = .next u ∧ u.rd F.TIME_STATUS_LOCKED = 1) ∧
    (∀ m, s.time.master = some m → (s.tick t).silent m = true → s.rd F.TIME_STATUS_LOCKED = 1 →
      ∃ u e, exec (.announceTimeout t) s = .next u ∧ u.rd F.TIME_STATUS_LOCKED = 0 ∧
        (s.evt.pending = [] → u.evt.pending.head? = some e ∧ e.code = 0x501 ∧ e.arg0 = 2))

/-- Pulse outputs, captures, the replica of device time, and timed egress. While the device runs. PPS_SECOND raises PPS_OUT for WIDTH_MS where EN is set
and device time is within 5 ns of a whole second; TIME_EVT_PERIODIC raises output n for WIDTH_US where its MODE is 2 and device time is within 5 ns of
a multiple of PERIOD_MS (its tolerance is the model’s, log entry 143); otherwise each does nothing. PULSE_WIDTH_EXPIRY lowers the pin whose width has
passed. TIME_CAPTURE of input 0 rising, or of an enabled edge of an event pin, records device time 0 to 1.6 ns (104,858 units of 2^-16 ns) after it,
for whatever value is open, with event 0x50A; of another edge it does nothing. REPLICA_REALIGN leaves the replica within 2 ns of the time base, for
whatever offset, and nothing else changes but the counter of open choices. TIMED_EGRESS_DUE marks the timed frames of a port whose time has come;
TIMED_EGRESS_DROP discards and counts those late by MAX_LATE_US and more; nothing else changes. (R148, R151, R154, R155) -/
def Obligations.PulsesAndEgress : Prop := Claims.PulseOutputs ∧ Claims.CapturesAndReplica ∧ Claims.TimedEgressRules

/-- Arming, launching, waiting for the rows of the frame before, and the panel ownership wire. While the device runs. LAUNCH_ARM does nothing where a
launch is armed, none is known, or its arming point is more than the next nanosecond away (log entry 138); otherwise it arms the next launch, and
PANEL_OWN_OUT is deasserted in STANDBY of an unpaired device, asserted for a slot of it that is not idle, and of a paired device stays only where it
owns the slot. LAUNCH_SLOT without an armed launch does nothing; while rows are being sent the slot waits; otherwise it is sent: the next launch is
that of the following pound, the slot and its kind are shown, and a slot that is not idle takes the next frame number. FRAME_ROWS_END without rows
does nothing; it ends the rows with the lanes idle, yields the panel where the device is blocked, and sends a launch that waits. (R150, R151, R153,
R301, R310, R311) -/
def Obligations.LaunchPoints : Prop :=
  ∀ (s : State) (t : Nat), s.alive = true →
    let p := s.time.nextL
    (s.time.armed = true ∨ s.launchOf p = none → exec (.launchArm t) s = .next (s.tick t)) ∧
    (∀ l, s.launchOf p = some l → ((s.tick t).dev : Int) + 65536 ≤ s.armPoint p l → exec (.launchArm t) s = .next (s.tick t)) ∧
    (∀ l, s.time.armed = false → s.launchOf p = some l → s.armPoint p l < ((s.tick t).dev : Int) + 65536 →
      ∃ u, exec (.launchArm t) s = .next u ∧
        u.time = { s.time with armed := true, armedAt := (s.tick t).dev } ∧
        (s.paired = false → has (s.slotSet p).mode mSTANDBY = true → u.scan.ownOut = false) ∧
        (s.paired = false → has (s.slotSet p).mode mSTANDBY = false → u.scan.ownOut = (s.scan.ownOut || s.slotKind p != .idle)) ∧
        (s.paired = true → u.scan.ownOut = (s.scan.ownOut && s.ownsSlot p))) ∧
    (s.time.armed = false → exec (.launchSlot t) s = .next (s.tick t)) ∧
    (s.time.armed = true → s.scan.active = true → ∃ u, exec (.launchSlot t) s = .next u ∧
      u.scan = { s.scan with waiting := some p } ∧ u.time = { s.time with heldBack := true }) ∧
    (s.time.armed = true → s.scan.active = false → ∃ u, exec (.launchSlot t) s = .next u ∧
      u.time.nextL = poundAdd p 1 ∧ u.time.armed = false ∧ u.scan.slot = p ∧ u.scan.waiting = none ∧
      u.time.launches = s.time.launches ∧ u.scan.kind = s.slotKind p ∧
      (s.slotIdle p = false → u.scan.fcnt = (s.scan.fcnt + 1) % 2 ^ 48)) ∧
    (s.scan.active = false → exec (.frameRowsEnd t) s = .next (s.tick t)) ∧
    (s.scan.active = true → s.scan.waiting = none →
      let v : State := { s.tick t with scan := { s.scan with active := false, heads := List.replicate 48 idleBlock } }
      exec (.frameRowsEnd t) s = .next (if s.scan.blocked ∧ s.scan.ownOut then v.ownYield else v)) ∧
    (∀ q, s.scan.active = true → s.scan.waiting = some q → ∃ u, exec (.frameRowsEnd t) s = .next u ∧ u.scan.slot = q ∧
      u.scan.waiting = none ∧ u.time.nextL = poundAdd q 1)

/-- Complete stream units are discarded by the header rules or act by their type. While the device runs. SCENE_UNIT, CMDLIST_UNIT, CHUNK_UNIT and MAP_UNIT
take the first complete unit of their type; with none they do nothing; a unit that breaks the header rules is taken and changes nothing else in the
stream or the decoder. A SCENE with the id and version of a header held changes no slot; one that fails a check changes no slot and raises event 0x411
with its cause; any other is the pending header of its slot, starting at the next pound where the slot was empty and its own start has passed. A
CMDLIST that is too far ahead, late, or a second one for its pound changes no slot; one that fails is noted as refused with event 0x413 and its cause;
a sound one is held with its commands. A sound MAP is held for its layer and pound in place of an earlier one; one too far ahead, late or for no layer
changes nothing. A CHUNK that fails its check changes nothing; a sound one joins the decoder queue and is noted as seen, or, after its close, changes
neither. Which of several causes is reported is the model’s order, log entry 144. (R157, R158, R159, R161, R166, R168, R179, R181) -/
def Obligations.StreamUnits : Prop := Claims.StreamUnitsParsed ∧ Claims.ScenesActed ∧ Claims.ListsActed ∧ Claims.MapsAndChunksActed

/-- Chunks are dispatched to cores, skipped, decoded and abandoned. While the device runs. CHUNK_DISPATCH: stale chunks leave and contexts are
numbered as in force; with no eligible chunk nothing else happens; otherwise the eligible chunk leaves the queue: in HOLD, for a layer without cover
or released, while its context waits for a random-access chunk and it is none, or without the key of an encrypted one, no core takes it; with
everything in order and moorings to be had, the idle core takes it with its clear bytes, its moorings and the instant, and its context is in the
cache. CHUNK_DONE of a busy core frees it, leaves the queue and the stream but for contexts whose move waits for a core; where none waits it leaves
every other context, and its own stops waiting where the chunk was a random-access one; a move goes on waiting only while a core works in a context it
touches. CHUNK_ABANDON after the deadline of a core with ABANDON_US set frees it, with every context as it was where no move waits; before, or with
ABANDON_US 0, it does nothing; on a free core both do nothing. (R43, R176, R184, R186, R187, R188, R190, R191, R192) -/
def Obligations.ChunksDecode : Prop := Claims.ChunksDispatched ∧ Claims.ChunksEnd

/-- Hogel blocks are issued, composed and written; the load estimate sets the clusters. While the device runs. BLOCK_ISSUE gives the next block of a
sound composition to the cluster that has room, and the Basin stands; with none, a bad one, no block left or no room it does nothing. BLOCK_DONE of a
cluster with a block ends it: the composed words of the block (those of a second composition with the map off, where the block is checked and the two
differ) are written to the frame buffer, and their samples to the tap where there is one, and it is counted; with the last block the composition ends;
of a bad composition nothing is written; without such a block it does nothing (while no tap is queued). LOAD_ESTIMATE_DONE with the composer running
records a number of clusters not above what is allowed and leaves the composition; otherwise it only asks again which domains are needed. (R218, R219,
R229, R243, R244) -/
def Obligations.BlocksComposed : Prop :=
  ∀ (s : State) (t k : Nat) (mismatch : Bool), s.alive = true →
    (s.comp.cur = none → exec (.blockIssue t) s = .next (s.tick t)) ∧
    (s.comp.cur = none → s.comp.taps.find? (fun b => b.role == BufRole.queued) = none → exec (.blockDone t k mismatch) s = .next (s.tick t)) ∧
    (∀ c n, s.comp.cur = some c → c.bad = false → c.next < ((s.setOf c.pound).geom).blocks → s.roomCluster c = some n →
      ∃ u e, exec (.blockIssue t) s = .next u ∧ u.comp.cur = some e ∧ e.next = c.next + 1 ∧ e.issued = c.issued ++ [(n, c.next)] ∧
        e.written = c.written ∧ u.basin = s.basin) ∧
    (∀ c, s.comp.cur = some c → c.bad = true ∨ ((s.setOf c.pound).geom).blocks ≤ c.next ∨ s.roomCluster c = none →
      exec (.blockIssue t) s = .next (s.tick t)) ∧
    (∀ c, s.comp.cur = some c → c.issued.find? (fun x => x.1 == k) = none →
      s.comp.taps.find? (fun b => b.role == BufRole.queued) = none → exec (.blockDone t k mismatch) s = .next (s.tick t)) ∧
    (∀ c b, s.comp.cur = some c → c.issued.find? (fun x => x.1 == k) = some (k, b) → c.bad = true →
      s.comp.taps.find? (fun b => b.role == BufRole.queued) = none →
      ∃ u e, exec (.blockDone t k mismatch) s = .next u ∧ u.comp.cur = some e ∧ e.issued = c.issued.erase (k, b) ∧ u.basin = s.basin) ∧
    (∀ c b, s.comp.cur = some c → c.issued.find? (fun x => x.1 == k) = some (k, b) → c.bad = false →
      c.written + 1 < ((s.setOf c.pound).geom).blocks → s.comp.taps.find? (fun b => b.role == BufRole.queued) = none →
      ∃ u e, exec (.blockDone t k mismatch) s = .next u ∧ u.comp.cur = some e ∧ e.issued = c.issued.erase (k, b) ∧ e.written = c.written + 1 ∧
        let cs := s.setOf c.pound
        let once := ((s.tick t).composeBlock cs c.stack c.eyes b).words
        let again := ((s.tick t).composeLayers cs c.stack 0 0 c.eyes b).words
        let words := if c.checks.contains b && (mismatch || again != once) then again else once
        let frame := s.basin.writeWords (bufMoors s.comp.bufs c.buf) (cs.geom.cols * cs.geom.vcols) words
        u.basin = match c.tap with
          | some i => frame.writeWords (bufMoors s.comp.taps i) cs.geom.cols (tapWords cs words)
          | none => frame) ∧
    (∀ c b, s.comp.cur = some c → c.issued.find? (fun x => x.1 == k) = some (k, b) → c.bad = false →
      c.written + 1 = ((s.setOf c.pound).geom).blocks → ∃ u, exec (.blockDone t k mismatch) s = .next u ∧ u.comp.cur = none) ∧
    (s.lock.everOpened = false ∨ s.composerRuns (s.setOf s.pound) = false → exec (.loadEstimateDone t) s = .next (s.tick t).domainsNeed) ∧
    (s.lock.everOpened = true → s.composerRuns (s.setOf s.pound) = true → ∃ u n, exec (.loadEstimateDone t) s = .next u ∧
      u.comp.counts.head? = some (s.pound, n) ∧ n ≤ s.allowedClusters ∧ u.comp.cur = s.comp.cur)

/-- Basin training, retries, self-refresh, refresh, eye tracking, scrubbing and flushes. While the device runs. BASIN_TRAIN_DONE without training does
nothing; a success leaves the Basin ready with its bytes zero, no retry due and no eye offset; a failure of a stack notes the time for the 10 s retry
and lets the boot go on. BASIN_TRAIN_RETRY 10 s after it starts training; without a failure it does nothing. SELF_REFRESH_ENTER in HOLD with scan-out
drained stops traffic; otherwise it does nothing. SELF_REFRESH_EXIT_DONE of an exit takes the results of its training: a success leaves the state of
the lock, a failure leaves the Basin not ready, HOLD set and a retry due; without an exit it does nothing. BASIN_REFRESH, BASIN_EYE_TRACK and
SCRUB_GRANULE do nothing on a Basin that is not ready. On a ready one BASIN_REFRESH counts; BASIN_EYE_TRACK changes nothing but the offsets of lanes,
which stay within 12 steps; SCRUB_GRANULE, where enabled, goes on granule by granule, counts a pass with the last, counts a corrected granule, and of
an uncorrectable one marks the mooring and sets HOLD for a held or reserved one of a class other than PACKET. BASIN_FLUSH_DONE counts (the counter is
the model’s own, log entry 85). (R264, R266, R267, R268, R269, R270, R281) -/
def Obligations.BasinTrainingAndUpkeep : Prop := Claims.BasinTrainingRuns ∧ Claims.BasinUpkeep

/-- Corrected and uncorrectable reads, quarantine and its release. While the device runs. An address from 96 GB on is the fault noSuchAddress (log
entry 13). Wrong bytes that the code does not correct, or does not find uncorrectable, make BASIN_CORRECTED_READ, or BASIN_UNCORRECTABLE_READ, count
the repeated read and the report of the stack and do nothing else. BASIN_CORRECTED_READ counts these, is counted in the register and for the pound,
with the place of the first one of the pound, and writes the corrected granule back, which leaves the contents unless the code is deceived.
BASIN_UNCORRECTABLE_READ by reader 0 leaves the contents, marks the mooring, sets HOLD for a held or reserved one of a class other than PACKET, and
quarantines a free one while fewer than 64 are; by the composer (reader 2) it makes the composition bad and leaves the decoder. QUAR_CLEAR with bit 0
returns every quarantined mooring; without it, it does nothing. (R28, R258, R259, R260, R271, R272) -/
def Obligations.BasinErrorsAndQuarantine : Prop :=
  ∀ (s : State) (t a item px : Nat) (errs : List (Nat × Nat)) (again onDie : Bool) (v : Word), s.alive = true →
    let r : BasinRead := ⟨a, errs, again, onDie⟩
    (basinSize ≤ a → exec (.basinCorrectedRead t r) s = .fault (.noSuchAddress a) ∧
      ∀ reader, exec (.basinUncorrectableRead t r reader item px) s = .fault (.noSuchAddress a)) ∧
    (a < basinSize → ((eccOutcome errs).1 ≠ 1 → exec (.basinCorrectedRead t r) s = .next ((s.tick t).countRead a again onDie)) ∧
      ((eccOutcome errs).1 ≠ 2 → ∀ reader, exec (.basinUncorrectableRead t r reader item px) s = .next ((s.tick t).countRead a again onDie))) ∧
    (a < basinSize → (eccOutcome errs).1 = 1 → ∃ u, exec (.basinCorrectedRead t r) s = .next u ∧ u.basin.moors = s.basin.moors ∧
      (s.basin.ceCount = none → u.basin.ceCount = some (s.basin.pseudo a, 1)) ∧
      (∀ p n, s.basin.ceCount = some (p, n) → u.basin.ceCount = some (p, n + 1)) ∧
      (∀ x, s.basin.stk[s.basin.pseudo a / 32]? = some x →
        u.basin.stk[s.basin.pseudo a / 32]? = some { x with retries := x.retries + b2n again, onDie := x.onDie + b2n onDie }) ∧
      u.basin.mem = (s.basin.writeBack a (eccOutcome errs).2 errs).mem ∧
      ((miscorrection errs (eccOutcome errs).2).all (· == 0) = true → u.basin.mem = s.basin.mem) ∧
      (s.rd F.BASIN_ECC_CE_COUNT < 0xFFFFFFFF → u.rd F.BASIN_ECC_CE_COUNT = s.rd F.BASIN_ECC_CE_COUNT + 1)) ∧
    (a < basinSize → (eccOutcome errs).1 = 2 → ∃ u, exec (.basinUncorrectableRead t r 0 item px) s = .next u ∧ u.basin.mem = s.basin.mem ∧
      (∀ e, s.basin.entry (a / moorSize) = some e → u.basin.entry (a / moorSize) = some { e with bad := true } ∧
        (e.cls ≠ cPACKET → e.st = .held ∨ e.st = .reserved → has u.lock.iset mHOLD = true)) ∧
      (s.basin.entry (a / moorSize) = none → s.basin.quarCount < 64 →
        ∃ e, u.basin.entry (a / moorSize) = some e ∧ e.st = .quarantined ∧ u.lock.iset = s.lock.iset)) ∧
    (∀ c, a < basinSize → (eccOutcome errs).1 = 2 → s.comp.cur = some c → ∃ u, exec (.basinUncorrectableRead t r 2 item px) s = .next u ∧
      u.comp.cur = some { c with bad := true } ∧ u.dec = s.dec) ∧
    (bitAt v.toNat 0 = true → exec (.quarClear t v) s = .next { s.tick t with basin := { s.basin with moors := s.basin.moors.filter (fun e => e.2.st ≠ .quarantined), quarFull := false } }) ∧
    (bitAt v.toNat 0 = false → exec (.quarClear t v) s = .next (s.tick t))

/-- Card updates start in order without conflict and write their pixels. While the device runs. TUG_UPDATE_START starts the next update outside HOLD while
TUG takes work and has acted on the token of the update's pound, fewer than four run and none conflicts, and leaves the Basin; otherwise it does nothing. TUG_UPDATE_DONE of a running update removes it and writes the
pixels of the region in order, for whatever the open seed is; an aborted one writes the first ones only (log entry 74) and is noted; one without its
card writes nothing; without such an update it does nothing. (R43, R285, R286, R288, R291, R292, R293, R294) -/
def Obligations.TugUpdatesRun : Prop :=
  ∀ (s : State) (t n : Nat) (abort : Option Nat), s.alive = true →
    (s.tug.queue.find? (fun j => !j.started) = none → exec (.tugUpdateStart t) s = .next (s.tick t)) ∧
    (has s.mode mHOLD = true ∨ 4 ≤ (s.tug.queue.filter TugJob.started).length → exec (.tugUpdateStart t) s = .next (s.tick t)) ∧
    (∀ j, s.tug.queue.find? (fun j => !j.started) = some j → (s.tug.queue.filter TugJob.started).any (fun r => s.tug.conflict r j) = true →
      exec (.tugUpdateStart t) s = .next (s.tick t)) ∧
    (∀ j, s.tug.queue.find? (fun j => !j.started) = some j → s.unitAt bTUG 0 j.from_ = false → exec (.tugUpdateStart t) s = .next (s.tick t)) ∧
    (∀ j, has s.mode mHOLD = false → s.tug.queue.find? (fun j => !j.started) = some j → s.unitAt bTUG 0 j.from_ = true →
      (s.tug.queue.filter TugJob.started).length < 4 →
      (∀ r ∈ s.tug.queue.filter TugJob.started, s.tug.conflict r j = false) →
      ∃ u, exec (.tugUpdateStart t) s = .next u ∧ (u.tug.queue.filter TugJob.started).length = (s.tug.queue.filter TugJob.started).length + 1 ∧
        { j with started := true } ∈ u.tug.queue ∧ u.basin = s.basin) ∧
    ((s.tug.queue.filter TugJob.started)[n]? = none → exec (.tugUpdateDone t n abort) s = .next (s.tick t)) ∧
    (∀ j, (s.tug.queue.filter TugJob.started)[n]? = some j →
      (s.tug.card j.slot j.layer = none → ∃ u, exec (.tugUpdateDone t n abort) s = .next u ∧ u.tug.queue = s.tug.queue.erase j ∧ u.basin = s.basin) ∧
      (∀ c, s.tug.card j.slot j.layer = some c → ∃ u seed, exec (.tugUpdateDone t n abort) s = .next u ∧ u.tug.queue = s.tug.queue.erase j ∧
        (let px := (s.tick t).tugPixels j c (fun k => Config.freeNat (seed + k))
         let px := match abort with | some m => px.take m | none => px
         u.basin = px.foldl (fun b p => b.putCard (c.surf j.second) c.width p.1 p.2.1 p.2.2) s.basin) ∧
        (abort.isSome = true → (j.slot, j.layer, j.tag) ∈ u.tug.aborted)))

/-- Aborted frames, end codes, guarded-region checks and the ownership wires. While the device runs. SCAN_UNDERRUN during a frame or a repeat before its
end code aborts it with cause 2, marks the slot from which its blocks are zero and the buffer it reads as aborted, and leaves the composition;
otherwise it does nothing. FRAME_END_CODE of a frame being sent ends it as committed or aborted, the panel shows the new picture on a commit and keeps
its own on an abort; a second one does nothing. SCAN_CHECK_DONE of an enabled check judges it once for the frame: on an aborted frame its last value
is forgotten and nothing else happens, otherwise, for a region inside the picture, its value is kept; another does nothing. OWN_SAMPLE shows the wire;
for the paired owner outside STANDBY that does not drive, PANEL_OWN_OUT is asserted where the wire is free and the device is blocked where it is not;
otherwise it does nothing else. OWN_IN_ASSERTED shows the wire on an unpaired device; a driving paired device is blocked by it and, with no rows being
sent, lets go at once. (R298, R299, R305, R307, R308, R309, R311) -/
def Obligations.ScanFramesAndOwnership : Prop := Claims.ScanFramesEnd ∧ Claims.PanelOwnershipWires

/-- Block lock, adaptation and the figure of merit of the receivers 48 to 60. While the device runs. BLOCK_LOCK_ACQUIRED and BLOCK_LOCK_LOST of a ring
receiver that does not hunt for blocks set and clear its LOCK; of another one that does not hunt they do nothing. A hunting receiver without lock
slips on an invalid header, counts valid ones and locks with the 64th in a row; with lock it counts headers, keeps lock through a window of 64 with up
to 15 invalid ones and loses it with 16. RX_ADAPT_DONE of a receiver that is not training does nothing; with a figure of merit of at least FOM_MIN the
adaptation is done with the best code and the taps; below it another try follows while RETRIES lasts, without a seed; after the last a towpath
receiver or the monitor fails, and a ring receiver fails the loopback or takes its link down with cause 2. FOM_MONITOR of an adapted receiver shows
the figure, with event 0xD02 (once per pound) below FOM_WARN; of another it does nothing. (R124, R319, R320, R321, R322, R323) -/
def Obligations.LaneReceivers : Prop := Claims.LaneReceivers ∧ Claims.Adaptations

/-- The sideband is polled in TRAIN and UP; training ends by its timeout. While the device runs. SIDEBAND_POLL outside TRAIN and UP does nothing; in both
it reads the requests of every chip select, and in UP it leaves scan-out, the lock cycle and the Basin. BC_TRAIN_TIMEOUT in TRAIN brings the panel UP
at step 8 with its lanes in RUN, elsewhere it does nothing. BC_REQUEST_APPLY leaves scan-out and the panel sequencer; where the waiting requests are
of their own panel lanes, receivers stand, and every request that waits is applied with its sequence number noted, but not twice within a slot that
carries rows. (R326, R327, R328, R349, R351) -/
def Obligations.BackchannelRounds : Prop :=
  ∀ (s : State) (t : Nat) (reads : List (List Byte)) (accepts : List Byte), s.alive = true →
    (s.pstate ≠ pTRAIN → s.pstate ≠ pUP → exec (.sidebandPoll t reads accepts) s = .next (s.tick t)) ∧
    (s.pstate = pUP → ∃ u, exec (.sidebandPoll t reads accepts) s = .next u ∧ u.scan = s.scan ∧ u.lock = s.lock ∧ u.basin = s.basin) ∧
    (s.pstate = pTRAIN ∨ s.pstate = pUP → ∃ u, exec (.sidebandPoll t reads accepts) s = .next u ∧
      ∀ cs, cs < 4 → cs < s.lanes.asked.length → u.lanes.asked[cs]? = some (sbRead 0x20 97)) ∧
    (s.pstate ≠ pTRAIN → exec (.bcTrainTimeout t) s = .next (s.tick t)) ∧
    (s.pstate = pTRAIN → ∃ u, exec (.bcTrainTimeout t) s = .next u ∧ (u.pstate = pUP) ∧ u.panel = { s.panel with step := 8 } ∧
      ∀ n, n < 48 → u.rd (F.LANE_n_STAT_STATE n) = 2) ∧
    (∃ u, exec (.bcRequestApply t) s = .next u ∧ u.scan = s.scan ∧ u.panel = s.panel ∧
      ((∀ m r, (s.lanes.lane m).wait = some r → m < 48 ∧ beAt r 0 1 = m) →
        (∀ n, 48 ≤ n → u.lanes.lane n = s.lanes.lane n) ∧
        ∀ n r, (s.lanes.lane n).wait = some r →
          (s.scan.kind.rows = false ∨ s.lanes.bcFrame ≠ some s.scan.start → (u.lanes.lane n).wait = none ∧ (u.lanes.lane n).lastSeq = some (beAt r 1 1)) ∧
          (s.scan.kind.rows = true → s.lanes.bcFrame = some s.scan.start → (u.lanes.lane n).wait = some r)))

/-- The monitor, its eye scan, the checkers, error insertion and unframed output. While the device runs. MON_CFG_WRITE shows EN and a LANE below 48 and
leaves the shadow set, scan-out and the lock; a write of such a LANE stops a scan. MON_EYE_SCAN starts a scan on an enabled, adapted monitor and
otherwise does nothing; MON_SCAN_DONE ends a running one with its figures and event 0xD07, and otherwise does nothing. PRBS_SYNC_CHANGE without a
pattern, of no receiver, of the monitor switched off, or framed without block lock does nothing; of an unframed checker of 48 to 59 one bit (or
symbol) more counts towards 64 (or 32) in a row that the pattern or its inverse gives, and the last of them synchronises with event 0xD05 argument 1;
a synchronised one counts a wrong one as an error, and more than 1,024 in the running 2^16 end synchronisation with event 0xD05 argument 0. That the
runs of 2^16 follow each other, and that a register of zeros synchronises to nothing, is the model’s choice, log entry 152. ERROR_INJECT of the
reserved kind, of count 0 or of no lane does nothing; on a stopped generator, or of kind 1 on an unframed one, it raises event 0xD06 only; otherwise
it arms the errors from the slot in progress. UNFRAMED_OUTPUT_IDLE in a LANE slot ends unframed output with idle blocks on these lanes; in another
slot it does nothing. (R329, R330, R333, R334, R335) -/
def Obligations.LaneTestsAndMonitor : Prop :=
  ∀ (s : State) (t n : Nat) (v : Word) (eyes : List Eyes), s.alive = true →
    (s.rd F.LANE_MON_STAT_ADAPTED = 1 → s.rd F.LANE_MON_CFG_EN = 1 → s.lanes.scan = false → exec (.monEyeScan t) s = .next
      (State.wr { s.tick t with lanes := { s.lanes with scan := true } } F.LANE_MON_CFG_SCAN 1)) ∧
    (s.rd F.LANE_MON_STAT_ADAPTED = 0 ∨ s.lanes.scan = true → exec (.monEyeScan t) s = .next (s.tick t)) ∧
    (s.lanes.scan = true → ∃ u, exec (.monScanDone t eyes) s = .next u ∧ u.lanes = { s.lanes with scan := false } ∧
      u.rd F.LANE_MON_CFG_SCAN = 0 ∧ u.rd F.LANE_MON_STAT_LANE = s.rd F.LANE_MON_CFG_LANE ∧
      u.rd F.LANE_MON_STAT_FOM = (eyes[32]?).elim 0 Eyes.fom ∧
      u.evt = ((s.tick t).raiseLane 0xD07 (s.rd F.LANE_MON_CFG_LANE) (u.rd F.LANE_MON_STAT_WIDTH * 256 + u.rd F.LANE_MON_STAT_FOM)).evt) ∧
    (s.lanes.scan = false → exec (.monScanDone t eyes) s = .next (s.tick t)) ∧
    (∀ blocks bits syms, (48 ≤ n → n < 60 → s.cm (F.LANE_n_TEST_CHK_PAT n) = 0) → (n = monLane → s.rd F.LANE_MON_CFG_EN = 0) →
      exec (.prbsSyncChange t n blocks bits syms) s = .next (s.tick t)) ∧
    (∀ blocks bits syms, 48 ≤ n → n < 60 → s.cm (F.LANE_n_TEST_CHK_FRAMED n) = 1 → s.locked n = false →
      exec (.prbsSyncChange t n blocks bits syms) s = .next (s.tick t)) ∧
    (∀ sym pat, 48 ≤ n → n < 60 → s.cm (F.LANE_n_TEST_CHK_PAT n) = pat → pat ≠ 0 → s.cm (F.LANE_n_TEST_CHK_FRAMED n) ≠ 1 →
      let unit := if pat = 7 then sym else b2n (sym == 1)
      let need := if pat = 7 then 32 else 64
      let c := (s.lanes.lane n).chk
      (s.rd (F.LANE_n_STAT_CHK_SYNC n) = 0 →
        let plain := c.plain.hunt pat (chkUnit pat false unit)
        let inv := c.inv.hunt pat (chkUnit pat true unit)
        (plain.run < need → inv.run < need → exec (.prbsSyncChange t n [] [sym == 1] [sym]) s = .next
          ((s.tick t).modLane n (fun l => { l with chk := { c with plain := plain, inv := inv } }))) ∧
        (need ≤ plain.run ∨ need ≤ inv.run → exec (.prbsSyncChange t n [] [sym == 1] [sym]) s = .next
          (((((s.tick t).modLane n (fun l => { l with chk := { plain := plain, inv := inv, seen := 0, errs := 0 } })).wr
            (F.LANE_n_STAT_CHK_SYNC n) 1).wr (F.LANE_n_STAT_INVERTED n) (b2n (decide (plain.run < need)))).raiseLane 0xD05 n 1))) ∧
      (s.rd (F.LANE_n_STAT_CHK_SYNC n) = 1 →
        let inv := s.rd (F.LANE_n_STAT_INVERTED n) == 1
        let e := (if inv then c.inv else c.plain).expect pat
        let bad := chkUnit pat inv unit != e.1
        (c.errs + b2n bad ≤ 1024 → ∃ u k, exec (.prbsSyncChange t n [] [sym == 1] [sym]) s = .next u ∧
          u = (if bad then (s.tick t).addErrors n 1 else s.tick t).modLane n (fun l => { l with chk := k }) ∧
          (if inv then k.inv else k.plain) = e.2 ∧
          (c.seen < 65535 → k.seen = c.seen + 1 ∧ k.errs = c.errs + b2n bad) ∧ (65535 ≤ c.seen → k.seen = 0 ∧ k.errs = 0)) ∧
        (1024 < c.errs + b2n bad → exec (.prbsSyncChange t n [] [sym == 1] [sym]) s = .next
          (((if bad then (s.tick t).addErrors n 1 else s.tick t).chkClear n n).raiseLane 0xD05 n 0)))) ∧
    (bitsOf v.toNat 31 30 = 3 ∨ bitsOf v.toNat 7 0 = 0 ∨ 60 ≤ n → exec (.errorInject t n v) s = .next (s.tick t)) ∧
    (n < 60 → bitsOf v.toNat 31 30 ≠ 3 → bitsOf v.toNat 7 0 ≠ 0 →
      ((s.tick t).genRuns n = false ∨ (bitsOf v.toNat 31 30 = 1 ∧ (s.tick t).genUnframed n = true) →
        exec (.errorInject t n v) s = .next ((s.tick t).raiseLane 0xD06 n s.pound)) ∧
      ((s.tick t).genRuns n = true → (bitsOf v.toNat 31 30 = 1 → (s.tick t).genUnframed n = false) →
        (n < 48 → exec (.errorInject t n v) s = .next (((s.tick t).txMark (s.tick t).slotNow).modLane n (fun l =>
          { l with inject := some (bitsOf v.toNat 31 30, bitsOf v.toNat 7 0, (s.tick t).slotNow) }))) ∧
        (48 ≤ n →
          let w := if 56 ≤ n then (s.tick t).towMark (n - 56) ((s.tick t).towSrc (n - 56)) true else s.tick t
          exec (.errorInject t n v) s = .next (w.modLane n (fun l =>
            { l with gen := l.gen.map (fun g => { g with inj := some (bitsOf v.toNat 31 30, bitsOf v.toNat 7 0, w.laneSlot n) }) }))))) ∧
    (s.scan.kind = .lane → ∃ u, exec (.unframedOutputIdle t) s = .next u ∧
      u = { s.tick t with lanes := { s.lanes with idleFrom := some (s.tick t).slotNow }, scan := { s.scan with heads := u.scan.heads }, led := u.led } ∧
      (s.pstate = pUP → ∀ k, k < 48 → u.rd (F.LANE_n_STAT_STATE k) = if u.genRuns k then 4 else 2) ∧
      ∀ k, k < 48 → u.scan.heads[k]? = some (if (s.tick t).genUnframed k then idleBlock else s.scan.heads.getD k 0)) ∧
    (s.scan.kind ≠ .lane → exec (.unframedOutputIdle t) s = .next (s.tick t)) ∧
    (∃ u, exec (.monCfgWrite t v) s = .next u ∧ u.lock = s.lock ∧ u.scan = s.scan ∧ u.led.shadow = s.led.shadow ∧
      u.rd F.LANE_MON_CFG_EN = b2n (bitAt v.toNat 8) ∧
      (bitsOf v.toNat 5 0 < 48 → u.rd F.LANE_MON_CFG_LANE = bitsOf v.toNat 5 0 ∧ (bitAt v.toNat 9 = false → u.lanes.scan = false)))

/-- The panel power sequence, its faults, the fast path, the reference points and the crack guard. PANEL_SEQ_STEP raises the next enable in steps 0 to
3 of UPSEQ and enters TRAIN at step 6, drops the enables one by one in DOWN and then starts the discharge with PGOOD 0, and in another state does
nothing. While the device runs: PGOOD_ASSERT at step 4 goes on to step 6 and keeps the identification that the sideband returns; elsewhere it only
shows PGOOD. PGOOD_TIMEOUT at step 4 powers down as a fault of cause 3, elsewhere does nothing; PGOOD_LOST in TRAIN and UP does the same, elsewhere it
only shows PGOOD 0. DISCHARGE_END of a discharge (without a fast path or a wish to power up) ends in OFF or FAULT, of cause 3 with a retry 10 s later;
without a discharge it does nothing. PANEL_RETRY_WAIT before its time does nothing, later it tries the start of the panel. VIN_TRIP drops every enable
at once into the discharge. VREF_POINT of a point after the one shown outputs its code of the band once its time has come while the waveform runs;
VREF_POINT 0 before the first open starts a frame at its time; otherwise it does nothing. CRACK_LATCH of the enabled guard below COUNT misses does
nothing; at COUNT with ACTION 0 it only sets CRACK with event 0xE08, with ACTION 3 it takes the fast path. CRACK_CLEAR with bit 0 forgets the misses,
clears CRACK and tries the start; without it, it does nothing. (R333, R337, R338, R339, R340, R343, R346, R348) -/
def Obligations.PanelPower : Prop := Claims.PanelPowerSequence ∧ Claims.PanelGuards

/-- Frame starts, lines and frame ends of a camera port. While the device runs. On a port that is off, or in HOLD, CSI_FRAME_START, CSI_LINE and
CSI_FRAME_END do nothing. A packet whose header cannot be read drops the frame of the sensor it belonged to, or of every sensor of the port, and does
nothing else; a start or end of a virtual channel with no sensor is only reported. CSI_FRAME_START of a streaming sensor with no frame begins one with
the next number, device time, the open pound and its committed set. CSI_LINE of the frame, with a right CRC, length and place, is appended, and one
with a wrong CRC drops the frame. CSI_FRAME_END of a full frame marks it ended while lines wait, and otherwise passes it on. (R356, R357, R361, R363,
R364, R366) -/
def Obligations.CameraFramesArrive : Prop :=
  ∀ (s : State) (t port : Nat) (h : List Byte) (lost : Option Nat) (d : List Byte) (crc0 crc1 : Byte), s.alive = true →
    (s.portUp port = false ∨ has s.mode mHOLD = true → exec (.csiFrameStart t port h lost) s = .next (s.tick t) ∧
      exec (.csiLine t port h lost d crc0 crc1) s = .next (s.tick t) ∧ exec (.csiFrameEnd t port h lost) s = .next (s.tick t)) ∧
    (s.portUp port = true → has s.mode mHOLD = false → csiRead h = none →
      let v := match lost with | some n => (s.tick t).dropCur n 3 | none => (s.tick t).each (s.portSensors port) (fun s n => s.dropCur n 4)
      exec (.csiFrameStart t port h lost) s = .next v ∧ exec (.csiLine t port h lost d crc0 crc1) s = .next v ∧ exec (.csiFrameEnd t port h lost) s = .next v) ∧
    (∀ c, s.portUp port = true → has s.mode mHOLD = false → csiRead h = some (c, false) → s.sensorAt port c.vc none = none →
      exec (.csiFrameStart t port h lost) s = .next ((s.tick t).csiUnknown port c.vc c.dt) ∧
      exec (.csiFrameEnd t port h lost) s = .next ((s.tick t).csiUnknown port c.vc c.dt)) ∧
    (∀ n c fixed, s.portUp port = true → has s.mode mHOLD = false → csiRead h = some (c, fixed) → n < s.cam.sensors.length →
      (s.sensorAt port c.vc none = some n → (s.sensor n).phase = .streaming → (s.sensor n).cur = none →
        ∃ u f, exec (.csiFrameStart t port h lost) s = .next u ∧ f ∈ (u.sensor n).frames ∧ f.num = (s.sensor n).next ∧ f.fsAt = (s.tick t).dev ∧
          f.pound = s.pound ∧ f.set = s.cset ∧ f.got = 0 ∧ f.ended = false ∧ (u.sensor n).next = ((s.sensor n).next + 1) % 65536) ∧
      (∀ f tab, s.sensorTab n = some tab → (s.sensor n).cur = some f → f.dropped = false →
        (∀ g ∈ (s.sensor n).frames, g.num = f.num → g = f) →
        (s.sensorAt port c.vc (some c.dt) = some n → 0x13 ≤ c.dt → s.lineFill port + d.length ≤ 1048576 →
          (csiCrc d = le [crc0, crc1] → d.length = lineBytes c.dt (camWidth tab) → f.got < camHeight tab →
            ∃ u, exec (.csiLine t port h lost d crc0 crc1) s = .next u ∧ (u.sensor n).cur = some { f with got := f.got + 1, waiting := f.waiting ++ [d] }) ∧
          (csiCrc d ≠ le [crc0, crc1] → ∃ u g, exec (.csiLine t port h lost d crc0 crc1) s = .next u ∧ (u.sensor n).cur = some g ∧
            g.num = f.num ∧ g.dropped = true)) ∧
        (s.sensorAt port c.vc none = some n → f.got = camHeight tab → (s.sensor n).stopDue = false → ∃ u, exec (.csiFrameEnd t port h lost) s = .next u ∧
          (f.waiting ≠ [] → { f with ended := true } ∈ (u.sensor n).frames) ∧
          (f.waiting = [] → ∀ g ∈ (u.sensor n).frames, g.num ≠ f.num))))

/-- Pipes take lines in turn; stereo pairs give eye reports. While the device runs. PIPE_LINE_TAKE on a port that is off, in HOLD or with no line does
nothing; otherwise the line that the round robin names moves from its buffer, unpacked, to its frame, which goes on. GLINT_PAIR with a picture missing
does nothing; with both pictures, TRACK set, HOLD clear, the tracker powered and the pair enabled it consumes them, keeps a result with the time of
the left frame and forms a report. (R362, R372, R373, R374, R375) -/
def Obligations.PipesAndGlints : Prop :=
  ∀ (s : State) (t port p : Nat), s.alive = true →
    (s.portUp port = false ∨ has s.mode mHOLD = true ∨ (s.eligibleLines port).isEmpty = true → exec (.pipeLineTake t port) s = .next (s.tick t)) ∧
    (∀ n v f tab line rest, s.portUp port = true → has s.mode mHOLD = false → (s.eligibleLines port).isEmpty = false →
      State.drr 600 (s.tick t) port = (some n, v) → (v.sensor n).frames.find? (fun f => !f.waiting.isEmpty) = some f → v.sensorTab n = some tab →
      f.waiting = line :: rest → f.ended = false → (∀ g ∈ (v.sensor n).frames, g.num = f.num → g = f) → n < v.cam.sensors.length →
      exec (.pipeLineTake t port) s = .next (v.modSensor n (fun x => x.setFrame
        { f with waiting := rest, taken := f.taken ++ [(unpackRaw (camWidth tab + 1) (camDt tab) line).take (camWidth tab)] }))) ∧
    ((∀ g, s.cam.pairs[p]? = some g → g.left = none ∨ g.right = none) → exec (.glintPair t p) s = .next (s.tick t)) ∧
    (∀ g l r tab, s.cam.pairs[p]? = some g → g.left = some l → g.right = some r → has s.mode mHOLD = false → has s.mode mTRACK = true →
      s.unitUp bTRK 0 = true → s.cm (F.TRK_PAIRp_CFG_EN p) = 1 → s.sensorTab l.sensor = some tab →
      ∃ u q, exec (.glintPair t p) s = .next u ∧ u.comp.reported = true ∧ u.cam.pairs[p]? = some q ∧ q.left = none ∧ q.right = none ∧
        (∃ eyes, q.result = some (l.fsAt, eyes)))

/-- Sensor start, control writes and delays, frame syncs and the strobe. While the device runs. CAM_SENSOR_START of a needed sensor that is off on a
powered port starts it and queues its start entries and the committed exposure; of one that is not off it does nothing. CCI_WRITE_DONE on an idle bus
does nothing; a start write with more to come is taken off and changes nothing else of the sensor; the last exposure write of a streaming sensor ends
its write, which is applied from a frame on. CCI_DELAY_EXPIRY ends a delay with writes to come, and does nothing without one. FSYNC_PULSE of an output
above 1, with MODE 0 or off the DIV does nothing; otherwise it raises its pin for its width, and where it is the strobe source counts and arms the
strobe by its DIV; STROBE_PULSE raises an armed strobe for its width and else does nothing. (R358, R359, R360, R369, R370, R371) -/
def Obligations.SensorsAndPulses : Prop :=
  ∀ (s : State) (t n port m p : Nat), s.alive = true →
    (∀ tab, s.sensorTab n = some tab → n < s.cam.sensors.length → (s.sensor n).phase = .off → s.sensorNeeded s.cset n = true → s.portUp (camPort tab) = true →
      ∃ u, exec (.camSensorStart t n) s = .next u ∧ (u.sensor n).phase = .starting ∧
        (u.sensor n).cci = seqOps tab 0 (camStartCnt tab) ++ expoOps tab (s.sensor n).setId (s.cm (F.CAM_Sn_EXP_LINES n)) (s.cm (F.CAM_Sn_EXP_GAIN n))) ∧
    ((s.sensor n).phase ≠ .off → exec (.camSensorStart t n) s = .next (s.tick t)) ∧
    (s.cam.bus.getD port none = none → ∀ ack, exec (.cciWriteDone t port ack) s = .next (s.tick t)) ∧
    (∀ op rest wire, s.cam.bus.getD port none = some (n, wire) → n < s.cam.sensors.length → (s.sensor n).cci = op :: rest → op.kind = .seq 0 → rest ≠ [] →
      ∃ u, exec (.cciWriteDone t port true) s = .next u ∧ u.sensor n = { s.sensor n with cci := rest } ∧ u.evt = s.evt) ∧
    (∀ op rest wire id w, s.cam.bus.getD port none = some (n, wire) → n < s.cam.sensors.length → (s.sensor n).cci = op :: rest → op.kind = .expo id true →
      (s.sensor n).phase = .streaming → (s.sensor n).write = some w →
      ∃ u from_, exec (.cciWriteDone t port true) s = .next u ∧ (u.sensor n).write = none ∧ (u.sensor n).applied.head? = some (w.id, from_)) ∧
    ((s.sensor n).delay = false → exec (.cciDelayExpiry t n) s = .next (s.tick t)) ∧
    (n < s.cam.sensors.length → (s.sensor n).delay = true → (s.sensor n).cci ≠ [] → ∃ u, exec (.cciDelayExpiry t n) s = .next u ∧
      u.sensor n = { s.sensor n with delay := false }) ∧
    (2 ≤ m → exec (.fsyncPulse t m p) s = .next (s.tick t)) ∧
    (m < 2 →
      let f (a b : Fld) : Nat := s.cm (if m = 0 then a else b)
      let mode := f F.CAM_FSYNC0_CFG_MODE F.CAM_FSYNC1_CFG_MODE
      let div := f F.CAM_FSYNC0_CFG_DIV F.CAM_FSYNC1_CFG_DIV
      let width := f F.CAM_FSYNC0_CFG_WIDTH_US F.CAM_FSYNC1_CFG_WIDTH_US * 1000
      (mode = 0 ∨ (mode = 1 ∧ p % max 1 div ≠ 0) → exec (.fsyncPulse t m p) s = .next (s.tick t)) ∧
      (mode ≠ 0 → (mode = 1 → p % max 1 div = 0) → s.cm F.CAM_STROBE_SRC ≠ m → exec (.fsyncPulse t m p) s = .next ((s.tick t).pulse (.fsync m) width)) ∧
      (mode ≠ 0 → (mode = 1 → p % max 1 div = 0) → s.cm F.CAM_STROBE_SRC = m → ∃ u, exec (.fsyncPulse t m p) s = .next u ∧
        (PulsePin.fsync m, max s.clk.now t + width) ∈ u.time.pulses ∧ u.cam.pulseJ = s.cam.pulseJ + 1 ∧
        u.cam.strobe = (s.cm F.CAM_STROBE_WIDTH_US != 0 && s.cam.pulseJ % max 1 (s.cm F.CAM_STROBE_DIV) == 0))) ∧
    (s.cam.strobe = true → exec (.strobePulse t) s = .next
      (State.pulse { s.tick t with cam := { s.cam with strobe := false } } .strobe (s.cm F.CAM_STROBE_WIDTH_US * 1000))) ∧
    (s.cam.strobe = false → exec (.strobePulse t) s = .next (s.tick t))

/-- Pictures start, rows are coded, abandoned pictures ask for IDR. While the device runs. ENC_IDR with bit 0 requests an IDR picture of its stream,
without it does nothing. ENC_PICTURE_START on a busy encoder, or with no picture waiting, in a mode that suspends the encoder, or before the encoder has
acted on the token of the picture's pound, does nothing; otherwise the first picture that waits starts with no row coded, as IDR where requested or due. ENC_ROW_DONE without a picture does nothing; it codes
a row, finishes with the last, or ends a stopped picture, after which an IDR picture is due and PIC has moved on (the move of PIC on an abandoned
picture is the model’s reading, log entry 113). (R43, R378, R379, R383, R384, R385) -/
def Obligations.EncoderRuns : Prop :=
  ∀ (s : State) (t k : Nat) (v : Word), s.alive = true →
    (bitAt v.toNat 0 = true → exec (.encIdr t k v) s = .next ((s.tick t).modEnc k (fun x => { x with cmdIdr := true }))) ∧
    (bitAt v.toNat 0 = false → exec (.encIdr t k v) s = .next (s.tick t)) ∧
    (s.enc.run.isSome = true ∨ (∀ n ∈ s.enc.order, (s.encStream n).wait = none) → exec (.encPictureStart t) s = .next (s.tick t)) ∧
    (∀ gone rest e, s.enc.run = none → s.enc.order = gone ++ k :: rest → (∀ n ∈ gone, (s.encStream n).wait = none) → (s.encStream k).wait = some e →
      (encRuns s.mode = false ∨ s.unitAt bENC 0 e.pound = false → exec (.encPictureStart t) s = .next (s.tick t)) ∧
      (encRuns s.mode = true → s.unitAt bENC 0 e.pound = true → ∃ u r, exec (.encPictureStart t) s = .next u ∧ u.enc.run = some r ∧ u.enc.order = rest ∧ r.stream = k ∧ r.src = e ∧ r.qps = [] ∧ r.used = 0 ∧
        ((e.idr || (s.encStream k).dueIdr) = true → r.idr = true))) ∧
    (s.enc.run = none → exec (.encRowDone t) s = .next (s.tick t)) ∧
    (∀ r c, s.enc.run = some r → r.stop = some c → ∃ u, exec (.encRowDone t) s = .next u ∧ u.enc.run = none ∧
      (r.stream < s.enc.streams.length → (u.encStream r.stream).dueIdr = true ∧ (u.encStream r.stream).pic = ((s.encStream r.stream).pic + 1) % 65536)) ∧
    (∀ r, s.enc.run = some r → r.stop = none → r.qps.length + 1 < ceilDiv (r.src.fld F.ENC_Sn_SIZE_OH r.stream) 64 →
      ∃ u q, exec (.encRowDone t) s = .next u ∧ u.enc.run = some q ∧ q.stream = r.stream ∧ q.qps.length = r.qps.length + 1) ∧
    (∀ r, s.enc.run = some r → r.stop = none → ceilDiv (r.src.fld F.ENC_Sn_SIZE_OH r.stream) 64 ≤ r.qps.length + 1 →
      ∃ u, exec (.encRowDone t) s = .next u ∧ u.enc.run = none)

/-- Heartbeats, missed heartbeats and lost towpath messages. While the device runs. An unpaired device ignores HB_TICK, TOW_HB and PAIR_HB_IN_EDGE.
HB_TICK of a paired one turns PAIR_HB_OUT (low with FAULT_L), counts a missed heartbeat or ends the count, and leaves the lock. PAIR_HB_IN_EDGE counts
as heard and changes nothing else. TOW_HB of a good heartbeat on a towpath lane counts as heard and notes pound, flags and frame count; a good message
of another type or shorter only marks its sequence number, with which a DELTA may become whole; a bad one is only counted. HB_LOST with fewer than three missed or without a lock does
nothing; of a follower that may take over it decides a takeover with cause 2 at the next commit pound. TOW_MSG_LOST of a gap counts it once with event
0xF41 (once per pound) and drops the DELTAs that lack it, of another number it does nothing. (R392, R393, R394, R396, R397, R406) -/
def Obligations.HeartbeatRules : Prop :=
  ∀ (s : State) (t q : Nat) (m : TowMsg), s.alive = true →
    (s.paired = false → exec (.hbTick t) s = .next (s.tick t) ∧ exec (.towHb t m) s = .next (s.tick t) ∧ exec (.pairHbInEdge t) s = .next (s.tick t)) ∧
    (s.paired = true → ∃ u, exec (.hbTick t) s = .next u ∧ u.pair.heard = false ∧ u.pair.hbOut = (!s.pair.hbOut && !s.pwr.fault) ∧
      u.pair.missRun = (if s.pair.heard then 0 else s.pair.missRun + 1) ∧ u.pair.sinceHb = s.pair.sinceHb + 1 ∧ u.lock = s.lock) ∧
    (s.paired = true → exec (.pairHbInEdge t) s = .next { s.tick t with pair := { s.pair with heard := true } }) ∧
    (s.paired = true → m.lane < 4 → m.ok = true → m.mtype ≠ 4 ∨ m.data.length < 24 →
      exec (.towHb t m) s = .next (State.deltaTry { s.tick t with pair := s.pair.mark m.mseq })) ∧
    (s.paired = true → m.lane < 4 → m.ok = true → m.mtype = 4 → 24 ≤ m.data.length → ∃ u, exec (.towHb t m) s = .next u ∧
      u.pair.heard = true ∧ u.pair.sinceHb = 0 ∧ ∃ h, u.pair.hb = some h ∧ h.pound = beAt m.data 0 4 ∧ h.flags = beAt m.data 4 1 ∧
        h.fcnt = beAt m.data 8 8 % 2 ^ 48 ∧ h.at_ = max s.clk.now t) ∧
    (s.paired = true → m.lane < 4 → m.ok = false → exec (.towHb t m) s = .next ((s.tick t).inc F.TOW_MSG_CNT_BAD)) ∧
    (s.lock.running = false ∨ s.pair.missRun < 3 → exec (.hbLost t) s = .next (s.tick t)) ∧
    (s.lock.running = true → 3 ≤ s.pair.missRun → s.follows = true → s.mayTake = true → s.pair.take = none →
      ∃ u k, exec (.hbLost t) s = .next u ∧ u.pair.take = some k ∧ k.cause = 2 ∧ k.t = s.commitPound ∧ k.committed = false) ∧
    (q ∉ s.pair.gaps → exec (.towMsgLost t q) s = .next (s.tick t)) ∧
    (q ∈ s.pair.gaps → exec (.towMsgLost t q) s = .next (State.deltaTry
      ((({ s.tick t with pair := { s.pair with gaps := s.pair.gaps.filter (· ≠ q), sick := true } } : State).inc F.TOW_MSG_CNT_LOST).raiseOnce 0xF41 bTOW 0 q s.pound)))

/-- Deltas, seals and packet repair over the towpath. While the device runs. An unpaired device and a lane that is no towpath lane ignore DELTA_EYES,
DELTA_RUNG, DELTA_SNAPSHOT, DELTA_SURFACE, TOW_SEAL and the REPAIR messages; a bad delta or seal is only counted; a good message of another type or
kind, or while the towpath is not up, only marks its sequence number, with which a DELTA may become whole. With no fragment held: the first of several
fragments is held and the compression engine stands; a delta of one fragment goes to the engine as a job with its own bytes; a later fragment is held
only while a message before it is missing. A delta of two fragments goes to the engine whichever of them comes first, where no message between them is
missing. TOW_SEAL without an own seal of its pound is kept and the own seals stand; compared with one, neither skipped, a match lengthens the run of
matches and a mismatch ends it and is counted. REPAIR_WANT is answered by messages of type REPAIR only, and changes neither the stream nor a takeover.
REPAIR_HAVE with the wanted packet holds it, counts it repaired, and goes on with its group and the parser; one not wanted, and REPAIR_NONE, answer
the WANT and leave the stream. REPAIR_WAIT_EXPIRY leaves no WANT of its group, and of an unknown channel the stream stands. (R392, R396, R398, R399,
R400, R402, R405) -/
def Obligations.TowpathMessages : Prop := Claims.DeltasAndSeals ∧ Claims.PacketRepair

/-- Takeover and yield, by command and by message. While the device runs. TOW_CMD_TAKE and TOW_CMD_YIELD without their key or bit do nothing; of a device
not in the role they raise event 0xF46 only; otherwise a takeover with cause 5 at the next commit pound is decided, or a yield three pounds later.
PARTNER_FAULT without FAULT_EN or a running lock does nothing; of a follower that may take over it decides a takeover with cause 1. JOIN_WAIT_TIMEOUT
without the wait does nothing; with it the device starts its lock at pound 0 and decides a takeover with cause 2. TOW_TAKE makes an owner, also one by an
own takeover that has opened, drop at T, or, where T is not ahead, at the next commit pound, and answers its YIELD of that pound; of two takeovers not
yet opened that of side A stands, and side B gives its own one up. TOW_YIELD in a hot pair with FIT, in time, is answered by a takeover with cause 4
at its T. Both otherwise, of another type, or with the towpath down, only mark their sequence number, with which a DELTA may become whole. (R401,
R406, R407, R409, R410, R411, R412) -/
def Obligations.TakesAndYields : Prop :=
  ∀ (s : State) (t : Nat) (m : TowMsg) (v : Word), s.alive = true →
    (bitsOf v.toNat 31 16 ≠ 0x544B ∨ bitAt v.toNat 0 = false → exec (.towCmdTake t v) s = .next (s.tick t)) ∧
    (bitsOf v.toNat 31 16 ≠ 0x544B ∨ bitAt v.toNat 1 = false → exec (.towCmdYield t v) s = .next (s.tick t)) ∧
    (bitsOf v.toNat 31 16 = 0x544B → bitAt v.toNat 0 = true → s.follows = false ∨ s.mayTake = false → exec (.towCmdTake t v) s = .next ((s.tick t).raise 0xF46 bTOW s.pound 3)) ∧
    (bitsOf v.toNat 31 16 = 0x544B → bitAt v.toNat 0 = true → s.follows = true → s.mayTake = true → s.pair.take = none →
      ∃ u k, exec (.towCmdTake t v) s = .next u ∧ u.pair.take = some k ∧ k.cause = 5 ∧ k.t = s.commitPound ∧ k.committed = false) ∧
    (bitsOf v.toNat 31 16 = 0x544B → bitAt v.toNat 1 = true → s.owns = false → exec (.towCmdYield t v) s = .next ((s.tick t).raise 0xF46 bTOW s.pound 3)) ∧
    (bitsOf v.toNat 31 16 = 0x544B → bitAt v.toNat 1 = true → s.owns = true → ∃ u, exec (.towCmdYield t v) s = .next u ∧ u.pair.yieldT = some (poundAdd s.pound 3)) ∧
    (s.cm F.TOW_CFG_FAULT_EN = 0 ∨ s.lock.running = false → exec (.partnerFault t) s = .next (s.tick t)) ∧
    (s.cm F.TOW_CFG_FAULT_EN = 1 → s.lock.running = true → s.follows = true → s.mayTake = true → s.pair.take = none →
      ∃ u k, exec (.partnerFault t) s = .next u ∧ u.pair.take = some k ∧ k.cause = 1 ∧ k.t = s.commitPound) ∧
    (s.pair.joinWait = false → exec (.joinWaitTimeout t) s = .next (s.tick t)) ∧
    (s.pair.joinWait = true → ∃ u k, exec (.joinWaitTimeout t) s = .next u ∧ u.pair.joinWait = false ∧ u.pair.own = false ∧ u.lock.running = true ∧
      u.lock.nextPound = 0 ∧ u.pair.take = some k ∧ k.cause = 2 ∧ k.t = 0) ∧
    (s.paired = true → m.lane < 4 → m.ok = true →
      (m.mtype ≠ 5 ∨ s.towUp = false → exec (.towTake t m) s = .next (State.deltaTry { s.tick t with pair := s.pair.mark m.mseq })) ∧
      (m.mtype ≠ 6 ∨ s.towUp = false ∨ s.hot = false ∨ s.rd F.TOW_STATUS_FIT ≠ 1 ∨ laterPound s.commitPound (beAt m.data 0 4) = true →
        exec (.towYield t m) s = .next (State.deltaTry { s.tick t with pair := s.pair.mark m.mseq }))) ∧
    (s.paired = true → m.lane < 4 → m.ok = true → m.mtype = 5 → s.towUp = true →
      ((∀ k, s.pair.take = some k → laterPound k.t s.pound = false) →
        (s.owns = true → s.pair.dropT = none → ∃ u, exec (.towTake t m) s = .next u ∧ u.pair.take = none ∧
          u.pair.dropT = some (if laterPound s.commitPound (beAt m.data 0 4) then s.commitPound else beAt m.data 0 4) ∧
          (s.pair.yieldT = some (beAt m.data 0 4) → u.pair.yieldAns = true ∧ u.pair.yieldT = s.pair.yieldT)) ∧
        (s.owns = false ∨ s.pair.dropT.isSome = true → exec (.towTake t m) s = .next (State.deltaTry { s.tick t with pair := s.pair.mark m.mseq }))) ∧
      (∀ k, s.pair.take = some k → laterPound k.t s.pound = true → s.side ≠ 2 ∨ laterPound (beAt m.data 0 4) s.pound = false →
        exec (.towTake t m) s = .next (State.deltaTry { s.tick t with pair := s.pair.mark m.mseq })) ∧
      (∀ k, s.pair.take = some k → laterPound k.t s.pound = true → s.side = 2 → laterPound (beAt m.data 0 4) s.pound = true →
        ∃ u, exec (.towTake t m) s = .next u ∧ u.pair.take = none ∧
        u.pair.dropT = if k.committed then some s.commitPound else s.pair.dropT)) ∧
    (s.paired = true → m.lane < 4 → m.ok = true → m.mtype = 6 → s.towUp = true → s.hot = true → s.rd F.TOW_STATUS_FIT = 1 → laterPound s.commitPound (beAt m.data 0 4) = false → s.follows = true → s.mayTake = true → s.pair.take = none →
        ∃ u k, exec (.towYield t m) s = .next u ∧ u.pair.take = some k ∧ k.cause = 4 ∧ k.t = beAt m.data 0 4)

/-- The compression engine takes the head job and encodes and decodes block by block. While the device runs. LZ_JOB_START with the engine busy, no job or
no ready Basin does nothing; otherwise the job that is ready leaves its queue and runs; where the context of its queue is saved it comes back with
the history it had. LZ_BLOCK_DONE without a job does nothing; an encode writes the block of the next source bytes behind the bytes made in the
destination range, and a decode the data of a good block; where the block and the next one fit, the job goes on or is set aside. A block that does
not fit stops the job FULL, a source that ends in a block SHORT, both with the context OPEN and nothing written; an abandoned job leaves it BROKEN.
(R415, R419, R420, R421, R422, R423, R424) -/
def Obligations.CompressionEngine : Prop :=
  ∀ (s : State) (t q fault : Nat), s.alive = true →
    (s.lz.run.isSome = true ∨ s.basinReady = false ∨ s.lz.ready = none → exec (.lzJobStart t) s = .next (s.tick t)) ∧
    (∀ j, s.lz.run = none → s.basinReady = true → s.lz.ready = some (q, j) → (s.lz.ctx q).st ≠ 2 → j.len ≠ 0 → j.block ≠ 0 →
      (j.decode = true ∨ j.first = true ∨ (s.lz.ctx q).st = 1) → ∃ u, exec (.lzJobStart t) s = .next u ∧ u.lz.run = some j ∧
        u.lz.queues = modAt s.lz.queues q (fun l => l.drop 1)) ∧
    (∀ j, s.lz.run = none → s.basinReady = true → s.lz.ready = some (q, j) → (s.lz.ctx q).st = 2 → ∃ u, exec (.lzJobStart t) s = .next u ∧
      u.lz.run = some j ∧ u.lz.onDie = false ∧ (u.lz.ctx q).hist = s.lzSaved q ∧ (u.lz.ctx q).saved = none ∧ (u.lz.ctx q).st ≠ 2) ∧
    (s.lz.run = none → exec (.lzBlockDone t fault) s = .next (s.tick t)) ∧
    (∀ j d hist, s.lz.run = some j → j.decode = false → fault = 0 → hist = (s.lz.ctx j.queue).hist → d = (s.lzSrc j).take j.block →
      j.used + d.length < j.len → j.queue < s.lz.queues.length → j.queue < s.lz.ctxs.length →
      let b := (lzEncode hist d (j.first && j.blocks == 0) false).1
      let e : LzJob := { j with used := j.used + d.length, made := j.made + b.length, blocks := j.blocks + 1 }
      let v : State := { s with basin := s.basin.writeList j.dstM b j.made }
      (b.length ≤ j.space - j.made →
        e.stops { st := 1, hist := lzHist (if j.first && j.blocks == 0 then [] else hist) d, saved := none } (v.lzSrc e) = false →
        ∃ u, exec (.lzBlockDone t fault) s = .next u ∧ ((u.lz.run = some e ∧ u.basin.mem = v.basin.mem) ∨ e ∈ u.lz.queue j.queue)) ∧
      (j.space - j.made < b.length → ∃ u, exec (.lzBlockDone t fault) s = .next u ∧ u.lz.run = none ∧ (u.lz.ctx j.queue).st = 1 ∧
        u.rd F.LZ_LAST_STATUS = 1)) ∧
    (∀ j used made hist, s.lz.run = some j → j.decode = true → fault = 0 → lzDecode (s.lz.ctx j.queue) (s.lzSrc j) = .block used made hist false →
      j.queue < s.lz.queues.length → j.queue < s.lz.ctxs.length →
      let e : LzJob := { j with used := j.used + used, made := j.made + made.length, blocks := j.blocks + 1 }
      let v : State := { s with basin := s.basin.writeList j.dstM made j.made }
      (made.length ≤ j.space - j.made → j.used + used < j.len → e.stops { st := 1, hist := hist, saved := none } (v.lzSrc e) = false →
        ∃ u, exec (.lzBlockDone t fault) s = .next u ∧ ((u.lz.run = some e ∧ u.basin.mem = v.basin.mem) ∨ e ∈ u.lz.queue j.queue)) ∧
      (j.space - j.made < made.length → ∃ u, exec (.lzBlockDone t fault) s = .next u ∧ u.lz.run = none ∧ (u.lz.ctx j.queue).st = 1 ∧
        u.rd F.LZ_LAST_STATUS = 1)) ∧
    (∀ j, s.lz.run = some j → j.decode = true → fault = 0 → lzDecode (s.lz.ctx j.queue) (s.lzSrc j) = .short → j.queue < s.lz.ctxs.length →
      ∃ u, exec (.lzBlockDone t fault) s = .next u ∧ u.lz.run = none ∧ (u.lz.ctx j.queue).st = 1 ∧ u.rd F.LZ_LAST_STATUS = 2) ∧
    (∀ j, s.lz.run = some j → fault = 1 → j.queue < s.lz.ctxs.length → ∃ u, exec (.lzBlockDone t fault) s = .next u ∧ u.lz.run = none ∧
      (u.lz.ctx j.queue).st = 3 ∧ u.rd F.LZ_LAST_STATUS = 5)

/-- Housekeeping slots, sensor failure and restoration, evaluation and the exit of a thermal shutdown. With the always-on island powered, amid the
records of an image load (R95). HK_SLOT 0 to 6 shows its reading and fails a sensor out of range; 7 to 24 record their channel; 25 to 30 record it and
serve the reference, the crack loop, VHOLD, VIN and the two calibration points; 31 and up record nothing. SENSOR_FAIL and SENSOR_RESTORE of no diode
do nothing; SENSOR_FAIL in range and before the third miss does nothing, otherwise it sets FAILED, and NORAISE for 500 rounds while the state is not
normal; SENSOR_RESTORE of a failed one after 500 good rounds clears it. NORAISE_END clears NORAISE once its rounds are over, and before does nothing.
HK_EVALUATION either leaves the reset phase, and then leaves the flash and uses the readings of the sensors that have not failed, or, of a running
device, resets it into the wait for cooling with the flash of the reset operation. THERMAL_RESET_EXIT after 8 cool rounds makes reset exit due, or the
wait for the rails where a rail trip came, in state recover; before, it does nothing. (R79, R429, R431, R434, R435, R441, R442) -/
def Obligations.HousekeepingRounds : Prop := Claims.HousekeepingSlots ∧ Claims.EvaluationAndThermalExit

/-- Management requests are checked, refused and answered. While the device runs, of SESSION, READ, WRITE, SUBSCRIBE and LOG. With no request of the kind
waiting, or a LOG while the log is busy, nothing happens. A request that is too short or for another device is only taken off; one without a session,
with a wrong TAG, or a SESSION that fails its check, is an authentication failure and gets no answer; a replay is only taken off. A good SESSION opens
one with the next SID, the MSEQ as its window and no mask. In a session and well formed: READ answers the words up to the first address without a
register; WRITE answers the first bad pair with its status and applies none, or the pair that is busy, or applies all (a device that this resets does
not answer); SUBSCRIBE sets the mask of the session, and 0 empties its buffer; LOG answers the bytes that SRC names. (R447, R448, R449, R450, R451,
R452, R453, R454) -/
def Obligations.ManagementRequests : Prop := Claims.ManagementRefusals ∧ Claims.ManagementAnswers

/-- Events enter the ring, go out to subscribers and into the log. While the device runs. EVENT_ACCEPT without a record does nothing; it moves the next
record into the ring of 1,024 and, where selected, to the backlog of the log. EVENTS_SEND and SESSION_IDLE_EXPIRY of no session do nothing;
EVENTS_SEND takes up to 40 records from the buffer of a session, and of an empty one does nothing; SESSION_IDLE_EXPIRY ends a session unused for IDLE_S
with event 0x020 argument 2, and before does nothing. LOG_FLUSH that is not due, or with the queue full, does nothing; when due it hands up to 2,048
records to the engine as a job in moorings of the free pool, and where the pool has none it counts that.
(R445, R449, R453, R459) -/
def Obligations.EventsReachTheRing : Prop :=
  ∀ (s : State) (t i : Nat), s.alive = true →
    (s.evt.next = none → exec (.eventAccept t) s = .next (s.tick t)) ∧
    (∀ r e, s.evt.next = some (r, e) → ∃ u, exec (.eventAccept t) s = .next u ∧ u.evt = { e with ring := lastN 1024 (e.ring ++ [r]) } ∧
      (s.logSelects r = true → u.mgmt.unlogged.getLast? = some (r, max s.clk.now t)) ∧ u.mgmt.sessions.length = s.mgmt.sessions.length) ∧
    (s.mgmt.sessions.getD i none = none → exec (.eventsSend t i) s = .next (s.tick t) ∧ exec (.sessionIdleExpiry t i) s = .next (s.tick t)) ∧
    (∀ x, s.mgmt.sessions.getD i none = some x → i < s.mgmt.sessions.length →
      (x.buf ≠ [] → ∃ u y, exec (.eventsSend t i) s = .next u ∧ u.mgmt.sessions.getD i none = some y ∧ y.buf = x.buf.drop 40 ∧ y.sid = x.sid ∧ u.evt.ring = s.evt.ring) ∧
      (x.buf = [] → exec (.eventsSend t i) s = .next (s.tick t)) ∧
      (max s.clk.now t < x.lastUse + s.cm F.TOP_MGMT_CFG_IDLE_S * 1000000000 → exec (.sessionIdleExpiry t i) s = .next (s.tick t)) ∧
      (x.lastUse + s.cm F.TOP_MGMT_CFG_IDLE_S * 1000000000 ≤ max s.clk.now t → exec (.sessionIdleExpiry t i) s = .next ((({ s.tick t with mgmt := { s.mgmt with sessions := modAt s.mgmt.sessions i (fun _ => none) } } : State)).raise 0x020 bTOP x.sid 2))) ∧
    ((s.tick t).logDue = false ∨ s.lzOpen 2 = false → exec (.logFlush t) s = .next (s.tick t)) ∧
    ((s.tick t).logDue = true → s.lzOpen 2 = true → 2 < s.lz.queues.length →
      let rs := s.mgmt.unlogged.take 2048
      let src := rs.flatMap (fun u => u.1.bytes)
      let blk := s.cm F.LZ_CTRL_LOG_KIB * 1024
      let space := src.length + 16 * ceilDiv src.length (max 1 blk)
      let got := (s.tick t).allocs (lzClass 2) (ceilDiv src.length moorSize + ceilDiv space moorSize)
      (got.1 = none → exec (.logFlush t) s = .next got.2) ∧
      (∀ l, got.1 = some l → ∃ u j, exec (.logFlush t) s = .next u ∧ u.lz.queue 2 = s.lz.queue 2 ++ [j] ∧ j.len = src.length ∧ j.srcM ++ j.dstM = l ∧
        j.space = space ∧ j.block = blk ∧ j.decode = false ∧ j.first = true ∧ j.last = true ∧ u.basin.mem = (got.2.basin.writeList j.srcM src 0).mem ∧
        u.mgmt.unlogged = s.mgmt.unlogged.drop 2048 ∧ u.mgmt.logJob = rs))

/-- The alert response and the read-only I2C target. With the always-on island powered. ALERT_RESPONSE with the line asserted returns the address and
deasserts it, otherwise nothing is returned. I2C_POINTER_WRITE of three bytes of an aligned address sets the pointer, anything else is not
acknowledged. I2C_READ returns the bytes asked for and moves the pointer by the whole words, modulo 2^24, amid the records of an image load (R95). What the target does without an asserted
line, or with a partial word, is the model’s choice, log entries 119 and 120. (R455, R456) -/
def Obligations.AlertAndTarget : Prop :=
  ∀ (s : State) (t n : Nat) (d : List Byte), s.island = true →
    (s.alertLow = true → exec (.alertResponse t) s = .next
      { s.tick t with mgmt := { s.mgmt with answered := true, i2cOut := [BitVec.ofNat 8 s.i2cAddr] } }) ∧
    (s.alertLow = false → exec (.alertResponse t) s = .next { s.tick t with mgmt := { s.mgmt with i2cOut := [] } }) ∧
    (d.length = 3 → be d % 4 = 0 → exec (.i2cPointerWrite t d) s = .next { s.tick t with mgmt := { s.mgmt with i2cPtr := be d, i2cNack := false } }) ∧
    (¬ (d.length = 3 ∧ be d % 4 = 0) → exec (.i2cPointerWrite t d) s = .next { s.tick t with mgmt := { s.mgmt with i2cNack := true } }) ∧
    (∃ v : State, exec (.i2cRead t n) s = .next v.recordsRun ∧ v.mgmt.i2cOut.length = n ∧
      ((s.tick t).recordsRun.mgmt.i2cPtr < 2 ^ 24 → v.mgmt.i2cPtr = ((s.tick t).recordsRun.mgmt.i2cPtr + 4 * (n / 4)) % 2 ^ 24))

/-- Every TAP instruction, in service and in manufacturing test. TRST_ASSERT resets the TAP; TRST_DEASSERT releases it; while it is held no instruction
acts. Released: BYPASS, IDCODE and SAMPLE/PRELOAD act always; EXTEST, EXTEST_PULSE, EXTEST_TRAIN, CLAMP and HIGHZ act in manufacturing test and
otherwise as BYPASS. Nothing but the TAP changes. That TRST selects IDCODE is taken from IEEE 1149.1 (log entry 115). (R79, R472) -/
def Obligations.TapInstructions : Prop :=
  ∀ (s : State) (t : Nat) (pins pre : List Bool),
    exec (.trstAssert t) s = .next { s.tick t with jtag := JtagSt.reset } ∧
    exec (.trstDeassert t) s = .next { s.tick t with jtag := { s.jtag with trst := false } } ∧
    (s.jtag.trst = true → ∀ c ∈ [Instr.jtagBypass t, .jtagIdcode t, .jtagSamplePreload t pins pre, .jtagExtest t pins, .jtagExtestPulse t pins,
      .jtagExtestTrain t pins, .jtagClamp t, .jtagHighz t], exec c s = .next (s.tick t)) ∧
    (s.jtag.trst = false →
      exec (.jtagBypass t) s = .next { s.tick t with jtag := { s.jtag with ir := .bypass, dr := [false] } } ∧
      exec (.jtagIdcode t) s = .next { s.tick t with jtag := { s.jtag with ir := .idcode, dr := natBits 32 jtagId } } ∧
      exec (.jtagSamplePreload t pins pre) s = .next { s.tick t with jtag := { s.jtag with ir := .sample, dr := pins, sampled := pins, preload := pre } }) ∧
    (s.jtag.trst = false → s.pwr.straps.testEn = false → ∀ c ∈ [Instr.jtagExtest t pins, .jtagExtestPulse t pins, .jtagExtestTrain t pins, .jtagClamp t,
      .jtagHighz t], exec c s = .next { s.tick t with jtag := { s.jtag with ir := .bypass, dr := [false] } }) ∧
    (s.jtag.trst = false → s.pwr.straps.testEn = true →
      exec (.jtagExtest t pins) s = .next { s.tick t with jtag := { s.jtag with ir := .extest, dr := pins } } ∧
      exec (.jtagExtestPulse t pins) s = .next { s.tick t with jtag := { s.jtag with ir := .extestPulse, dr := pins } } ∧
      exec (.jtagExtestTrain t pins) s = .next { s.tick t with jtag := { s.jtag with ir := .extestTrain, dr := pins } } ∧
      exec (.jtagClamp t) s = .next { s.tick t with jtag := { s.jtag with ir := .clamp, dr := [false] } } ∧
      exec (.jtagHighz t) s = .next { s.tick t with jtag := { s.jtag with ir := .highz, dr := [false] } })

/-- The event ring and RSEQ through warm and cold resets; the eight pending slots. Every warm reset, that of PWR_RESET_WARM and that of a rail monitor of
a running device among them, keeps the ring, RSEQ and the pending slots; every cold reset, that of POR_ASSERT among them, empties the ring with RSEQ
0. While the device is not running no record leaves its pending slot. A record raised finds a slot while fewer than 8 are pending, with the next RSEQ;
else it is dropped and counted. (R446) -/
def Obligations.EventRingThroughResets : Prop :=
  ∀ (s : State) (t : Nat),
    (∀ v : Word, s.alive = true → v.toNat >>> 16 = 0x5752 → bitAt v.toNat 0 = true → ∃ u, exec (.pwrResetWarm t v) s = .next u ∧
      u.evt.ring = s.evt.ring ∧ u.evt.rseq = s.evt.rseq ∧ u.evt.pending = s.evt.pending) ∧
    (∀ mon, mon < 18 → mon ≠ 5 → mon ≠ 16 → s.pwr.phase = .run → ∃ u, exec (.resetTrip t mon) s = .next u ∧
      u.evt.ring = s.evt.ring ∧ u.evt.rseq = s.evt.rseq ∧ u.evt.pending = s.evt.pending) ∧
    (∀ lost phase, let u := s.enterReset false lost phase; u.evt.ring = s.evt.ring ∧ u.evt.rseq = s.evt.rseq ∧ u.evt.pending = s.evt.pending) ∧
    (∀ lost phase, let u := s.enterReset true lost phase; u.evt.ring = [] ∧ u.evt.rseq = 0) ∧
    (∃ u, exec (.porAssert t) s = .next u ∧ u.evt.ring = [] ∧ u.evt.rseq = 0) ∧
    (s.alive = false → exec (.eventAccept t) s = .next (s.tick t)) ∧
    (∀ code block arg0 arg1, s.evt.pending.length < 8 → ∃ r, (s.raise code block arg0 arg1).evt.pending = s.evt.pending ++ [r] ∧ r.code = code ∧
      r.block = block ∧ r.rseq = s.evt.rseq ∧ (s.raise code block arg0 arg1).evt.rseq = (s.evt.rseq + 1) % 65536) ∧
    (∀ code block arg0 arg1, 8 ≤ s.evt.pending.length → (s.raise code block arg0 arg1).evt.pending = s.evt.pending ∧
      (s.raise code block arg0 arg1).evt.rseq = s.evt.rseq ∧ (s.raise code block arg0 arg1).evt.dropPound = s.evt.dropPound + 1)

/-- A step takes the command at the front of the queue and runs it on the rest; an empty queue idles. For every command, queue rest and state, step with
the command in front is exec of it with the rest in the queue. With an empty queue step answers the same state (idling is the model’s choice, log
entry 1). (01_flow.md, 95_what_each_step_holds.md) -/
def Obligations.StepRunsTheFrontCommand : Prop :=
  (∀ (c : Instr) (rest : List Instr) (s : State), step { s with pending := c :: rest } = exec c { s with pending := rest }) ∧
  (∀ s : State, s.pending = [] → step s = .next s)

/-- What the state right after power-on reset holds. Every word of the live ledger, the shadow set and the committed set is at its reset word; RESET_OUT_L
and FAULT_L are asserted, the device does not run, no lock cycle is in progress, the event ring is empty with RSEQ 0, the Basin holds nothing, the
weir is closed, the frame counter and the queue are empty. Reset words and values that the spec does not state are the model’s own, log entries 7, 10
and 11. (R6, R40, R79, R80, R446) -/
def Obligations.ResetState : Prop :=
  (∀ a, State.reset.led.live.word a = resetWord a ∧ State.reset.led.shadow.word a = resetWord a ∧ State.reset.cset.regs.word a = resetWord a) ∧
  State.reset.pwr.resetOut = true ∧ State.reset.pwr.fault = true ∧ State.reset.running = false ∧ State.reset.lock.phase = .idle ∧
  State.reset.lock.running = false ∧ State.reset.evt.ring = [] ∧ State.reset.evt.rseq = 0 ∧ State.reset.units = [] ∧
  State.reset.basin.mem = [] ∧ State.reset.basin.moors = [] ∧ State.reset.ring.weirOpen = false ∧ State.reset.scan.fcnt = 0 ∧ State.reset.pending = []

/-- The invariant holds at reset. The straps name a legal pair role, the OTP epoch is at most 64, and a TAP held by TRST_L is in its reset state, at
State.reset. (R71, R100, R472) -/
def Obligations.InvariantAtReset : Prop := Inv State.reset

/-- Every step keeps the invariant. For every state with a legal pair role, an OTP epoch of at most 64 and a TAP that is reset while TRST_L holds it: if
step answers a next state, the same holds of it, whatever command is at the front. (R57, R71, R79, R100, R472) -/
def Obligations.InvariantKept : Prop := ∀ s u : State, Inv s → step s = .next u → Inv u

/-- A command leaves the queue alone and moves the clock to its instant, never back. For every command and state, if exec answers a next state, its queue
is that of the state, and its clock is the later of the clock and the instant of the command (the operand is the model’s own, log entry 2).
(01_flow.md, R4) -/
def Obligations.QueueAndClock : Prop :=
  ∀ (c : Instr) (s u : State), exec c s = .next u → u.pending = s.pending ∧ u.clk.now = max s.clk.now (instant c)

/-- The straps are latched at reset exit and on no other occasion. For every command and state with a next state: a command other than RESET_EXIT leaves
the straps; RESET_EXIT that is due latches them; one that is not due leaves them. (R71) -/
def Obligations.StrapsOnlyAtResetExit : Prop :=
  ∀ (c : Instr) (s u : State), exec c s = .next u →
    ((∀ t st o z f, c ≠ .resetExit t st o z f) → u.pwr.straps = s.pwr.straps) ∧
    (∀ t st o z f, c = .resetExit t st o z f → s.pwr.phase = .exitDue → u.pwr.straps = st) ∧
    (∀ t st o z f, c = .resetExit t st o z f → s.pwr.phase ≠ .exitDue → u.pwr.straps = s.pwr.straps)

/-- The OTP epoch never falls and a revoked key stays revoked. For every command and state with a next state: an epoch of at most 64 is at least what it
was, each of the four revocation bits that was set stands, and keys, UID, MAC and device key of an OTP that is not blank stand. That a blank OTP takes
its contents at a reset exit is the model’s choice, log entry 10. (R99, R100) -/
def Obligations.OtpOnlyRises : Prop :=
  ∀ (c : Instr) (s u : State), exec c s = .next u →
    (s.img.otp.epoch ≤ 64 → s.img.otp.epoch ≤ u.img.otp.epoch) ∧
    (∀ n, n < 4 → s.img.otp.revoked.testBit n = true → u.img.otp.revoked.testBit n = true) ∧
    (s.img.otp ≠ Otp.blank → u.img.otp.slots = s.img.otp.slots ∧ u.img.otp.uid = s.img.otp.uid ∧ u.img.otp.mac = s.img.otp.mac ∧
      u.img.otp.devKey = s.img.otp.devKey)

/-- The TAP commands change the TAP alone, and only resets of the whole device change it otherwise. For every command and state with a next state: a TAP
command changes nothing but the TAP and the instant; no other command but POR_ASSERT and RESET_TRIP changes the TAP, and no command but the two of
TRST_L changes what TRST_L holds. (R79, R472) -/
def Obligations.TapIsolated : Prop :=
  ∀ (c : Instr) (s u : State), exec c s = .next u →
    (tapCommand c = true → u = { s.tick (instant c) with jtag := u.jtag }) ∧
    (tapCommand c = false → (∀ t, c ≠ .porAssert t) → (∀ t m, c ≠ .resetTrip t m) → u.jtag = s.jtag) ∧
    (tapCommand c = false → u.jtag.trst = s.jtag.trst)

/-- The committed set moves whole, and only at an open, a reset, an image load or a join. Every command but the listed ones leaves the committed set
and the index of the commit store, those during which image records may run while no record waits and an image load is not off. When the window of a
lock cycle ends, either the index and the set stand, or the index flips, the set in force is the frozen one, and the bank that was in force is
untouched. (R31, R32, R34, R79) -/
def Obligations.CommittedSetMovesOnlyAtOpens : Prop :=
  (∀ (c : Instr) (s u : State), movesCommitted c = false → (loadsOn c = true → s.img.recs = none ∧ s.img.load ≠ .off) → exec c s = .next u →
    u.cset = s.cset ∧ u.led.index = s.led.index) ∧
  (∀ (t : Nat) (s u : State), s.alive = true → s.lock.phase = .level → exec (.levelWindowExpiry t) s = .next u →
    (u.led.index = s.led.index → u.cset = s.cset) ∧
    (u.led.index = !s.led.index → u.cset = s.lock.frozen ∧
      (if s.led.index then u.led.bank1 = s.led.bank1 else u.led.bank0 = s.led.bank0)))

/-- Every encoded block decodes to its data; a block that does not shrink is stored RAW. For 1 to 65,536 bytes, any history, and any bytes that follow:
decoding the encoded block gives the data, the length consumed, the last flag, and the same history for RAW and compressed blocks; where the token
body would be as long as the data or longer, the block is RAW. The token body is an open choice of the engine and the statement holds for every one.
(R419) -/
def Obligations.LzRoundTrip : Prop :=
  ∀ (hist data rest : List Byte) (first last : Bool) (c : LzCtx), data ≠ [] → data.length ≤ 65536 →
    (first = true ∨ (c.st = 1 ∧ c.hist = hist)) →
    let h := if first then [] else hist
    let e := lzEncode hist data first last
    lzDecode c (e.1 ++ rest) = .block e.1.length data (lzHist h data) last ∧
    (data.length ≤ (Config.lzTokens h data).length → e.2 = true ∧ e.1.drop 16 = data) ∧
    (e.2 = false → e.1.drop 16 = Config.lzTokens h data ∧ e.1.length < 16 + data.length)

/-- Every well-formed command has a next state; only a Basin address from 96 GB on faults. For every well-formed command and every state exec answers a
next state. Whatever the command, a fault is noSuchAddress of a Basin address from 96 GB on and comes only from the two Basin error reports, and exec
never refuses. (R28, R260, R271) -/
def Obligations.EveryCommandCompletes : Prop :=
  ∀ (c : Instr) (s : State),
    (Sys2Proof.WellFormed.command c = true → ∃ u, exec c s = .next u) ∧
    (∀ f, exec c s = .fault f → ∃ a, basinSize ≤ a ∧ f = .noSuchAddress a ∧
      ((∃ t e y o, c = .basinCorrectedRead t ⟨a, e, y, o⟩) ∨ ∃ t r i p e y o, c = .basinUncorrectableRead t ⟨a, e, y, o⟩ r i p)) ∧
    (∀ r, exec c s ≠ .refused r)

end
end

