-- ==== Sys2Proof/Laws/Sparse.lean ====
section
/-! SUPPORT. Reading after writing in a sparse store, and that every operation on one keeps its canonical form. -/

namespace Sys2Proof.Machine

variable {α : Type}

/-- Raising the lower bound of a list of keys. -/
theorem Sparse.above_mono {lo hi : Nat} (h : lo ≤ hi) : ∀ (m : Sparse α), Sparse.above hi m = true → Sparse.above lo m = true
  | [], _ => rfl
  | (a, _) :: r, e => by
    simp only [Sparse.above, Bool.and_eq_true, decide_eq_true_eq] at e ⊢
    exact ⟨by omega, e.2⟩

theorem Sparse.find_above {lo k : Nat} (h : k ≤ lo) : ∀ (m : Sparse α), Sparse.above lo m = true → Sparse.find m k = none
  | [], _ => rfl
  | (a, v) :: r, e => by
    simp only [Sparse.above, Bool.and_eq_true, decide_eq_true_eq] at e
    have : k ≠ a := by omega
    simp only [Sparse.find, this, if_false]
    exact Sparse.find_above (by omega) r e.2

theorem Sparse.insert_above {lo k : Nat} (v : α) (h : lo < k) : ∀ (m : Sparse α), Sparse.above lo m = true → Sparse.above lo (Sparse.insert m k v) = true
  | [], _ => by simp [Sparse.insert, Sparse.above, h]
  | (a, w) :: r, e => by
    simp only [Sparse.above, Bool.and_eq_true, decide_eq_true_eq] at e
    unfold Sparse.insert
    split
    · simp [Sparse.above, *]
    · split
      · simp_all [Sparse.above]
      · simp only [Sparse.above, Bool.and_eq_true, decide_eq_true_eq]
        exact ⟨e.1, Sparse.insert_above v (by omega) r e.2⟩

theorem Sparse.erase_above {lo : Nat} (k : Nat) : ∀ (m : Sparse α), Sparse.above lo m = true → Sparse.above lo (Sparse.erase m k) = true
  | [], _ => rfl
  | (a, w) :: r, e => by
    simp only [Sparse.above, Bool.and_eq_true, decide_eq_true_eq] at e
    unfold Sparse.erase
    split
    · exact Sparse.erase_above k r (Sparse.above_mono (by omega) r e.2)
    · simp only [Sparse.above, Bool.and_eq_true, decide_eq_true_eq]
      exact ⟨e.1, Sparse.erase_above k r e.2⟩

theorem Sparse.filter_above {lo : Nat} (p : Nat × α → Bool) : ∀ (m : Sparse α), Sparse.above lo m = true → Sparse.above lo (m.filter p) = true
  | [], _ => rfl
  | (a, w) :: r, e => by
    simp only [Sparse.above, Bool.and_eq_true, decide_eq_true_eq] at e
    rw [List.filter_cons]
    split
    · simp only [Sparse.above, Bool.and_eq_true, decide_eq_true_eq]
      exact ⟨e.1, Sparse.filter_above p r e.2⟩
    · exact Sparse.above_mono (by omega) _ (Sparse.filter_above p r e.2)

theorem Sparse.sorted_of_above {lo : Nat} : ∀ (m : Sparse α), Sparse.above lo m = true → Sparse.sorted m = true
  | [], _ => rfl
  | (a, w) :: r, e => by
    simp only [Sparse.above, Bool.and_eq_true] at e
    exact e.2

theorem Sparse.insert_sorted (k : Nat) (v : α) : ∀ (m : Sparse α), Sparse.sorted m = true → Sparse.sorted (Sparse.insert m k v) = true
  | [], _ => rfl
  | (a, w) :: r, e => by
    unfold Sparse.insert
    split
    · simpa [Sparse.sorted, Sparse.above, *] using e
    · split
      · simp_all [Sparse.sorted]
      · exact Sparse.insert_above v (by omega) r e

theorem Sparse.erase_sorted (k : Nat) : ∀ (m : Sparse α), Sparse.sorted m = true → Sparse.sorted (Sparse.erase m k) = true
  | [], _ => rfl
  | (a, w) :: r, e => by
    unfold Sparse.erase
    split
    · exact Sparse.erase_sorted k r (Sparse.sorted_of_above r e)
    · exact Sparse.erase_above k r e

theorem Sparse.filter_sorted (p : Nat × α → Bool) : ∀ (m : Sparse α), Sparse.sorted m = true → Sparse.sorted (m.filter p) = true
  | [], _ => rfl
  | (a, w) :: r, e => by
    rw [List.filter_cons]
    split
    · exact Sparse.filter_above p r e
    · exact Sparse.sorted_of_above _ (Sparse.filter_above p r e)

theorem Sparse.insert_all (p : Nat × α → Bool) (k : Nat) (v : α) (h : p (k, v) = true) :
    ∀ (m : Sparse α), m.all p = true → (Sparse.insert m k v).all p = true
  | [], _ => by simp [Sparse.insert, h]
  | (a, w) :: r, e => by
    simp only [List.all_cons, Bool.and_eq_true] at e
    unfold Sparse.insert
    split
    · simp [h, e.1, e.2]
    · split
      · simp [h, e.2]
      · simp [e.1, Sparse.insert_all p k v h r e.2]

theorem Sparse.erase_all (p : Nat × α → Bool) (k : Nat) : ∀ (m : Sparse α), m.all p = true → (Sparse.erase m k).all p = true
  | [], _ => rfl
  | (a, w) :: r, e => by
    simp only [List.all_cons, Bool.and_eq_true] at e
    unfold Sparse.erase
    split
    · exact Sparse.erase_all p k r e.2
    · simp [e.1, Sparse.erase_all p k r e.2]

/-- A write keeps the canonical form. -/
theorem Sparse.set_wf [DecidableEq α] (d : Nat → α) (m : Sparse α) (k : Nat) (v : α) (h : Sparse.wf d m = true) : Sparse.wf d (Sparse.set d m k v) = true := by
  simp only [Sparse.wf, Bool.and_eq_true] at h ⊢
  unfold Sparse.set
  split
  · exact ⟨Sparse.erase_sorted k m h.1, Sparse.erase_all _ k m h.2⟩
  · exact ⟨Sparse.insert_sorted k v m h.1, Sparse.insert_all _ k v (by simpa using ‹_›) m h.2⟩

/-- A write of consecutive keys keeps the canonical form. -/
theorem Sparse.setAll_wf [DecidableEq α] (d : Nat → α) (l : List α) : ∀ (m : Sparse α) (k : Nat), Sparse.wf d m = true → Sparse.wf d (Sparse.setAll d m k l) = true := by
  induction l with
  | nil => intro m k h; exact h
  | cons v r ih => intro m k h; exact ih _ _ (Sparse.set_wf d m k v h)

/-- Clearing a span keeps the canonical form. -/
theorem Sparse.clear_wf [DecidableEq α] (d : Nat → α) (m : Sparse α) (a n : Nat) (h : Sparse.wf d m = true) : Sparse.wf d (Sparse.clear m a n) = true := by
  simp only [Sparse.wf, Bool.and_eq_true, Sparse.clear, List.all_eq_true] at h ⊢
  exact ⟨Sparse.filter_sorted _ m h.1, fun e he => h.2 e (List.mem_of_mem_filter he)⟩

theorem Sparse.find_insert_same (k : Nat) (v : α) : ∀ (m : Sparse α), Sparse.find (Sparse.insert m k v) k = some v
  | [] => by simp [Sparse.insert, Sparse.find]
  | (a, w) :: r => by
    unfold Sparse.insert
    split
    · simp [Sparse.find]
    · split
      · simp [Sparse.find]
      · next h => simp [Sparse.find, h, Sparse.find_insert_same k v r]

theorem Sparse.find_insert_other {k j : Nat} (v : α) (h : j ≠ k) : ∀ (m : Sparse α), Sparse.find (Sparse.insert m k v) j = Sparse.find m j
  | [] => by simp [Sparse.insert, Sparse.find, h]
  | (a, w) :: r => by
    unfold Sparse.insert
    split
    · simp [Sparse.find, h]
    · split
      · next e => subst e; simp [Sparse.find, h]
      · simp [Sparse.find, Sparse.find_insert_other v h r]

theorem Sparse.find_erase_same (k : Nat) : ∀ (m : Sparse α), Sparse.find (Sparse.erase m k) k = none
  | [] => rfl
  | (a, w) :: r => by
    unfold Sparse.erase
    split
    · exact Sparse.find_erase_same k r
    · next h => simp only [Sparse.find, h, if_false]; exact Sparse.find_erase_same k r

theorem Sparse.find_erase_other {k j : Nat} (h : j ≠ k) : ∀ (m : Sparse α), Sparse.find (Sparse.erase m k) j = Sparse.find m j
  | [] => rfl
  | (a, w) :: r => by
    unfold Sparse.erase
    split
    · next e => subst e; simp [Sparse.find, h, Sparse.find_erase_other h r]
    · simp [Sparse.find, Sparse.find_erase_other h r]

/-- What is written is read. -/
theorem Sparse.get_set_same [DecidableEq α] (d : Nat → α) (m : Sparse α) (k : Nat) (v : α) :
    Sparse.get d (Sparse.set d m k v) k = v := by
  unfold Sparse.get Sparse.set
  split
  · next e => rw [Sparse.find_erase_same k m]; exact e.symm
  · rw [Sparse.find_insert_same]; rfl

/-- A write leaves every other key alone. -/
theorem Sparse.get_set_other [DecidableEq α] (d : Nat → α) (m : Sparse α) {k j : Nat} (v : α) (h : j ≠ k) :
    Sparse.get d (Sparse.set d m k v) j = Sparse.get d m j := by
  unfold Sparse.get Sparse.set
  split
  · rw [Sparse.find_erase_other h]
  · rw [Sparse.find_insert_other v h]

/-- A write of consecutive keys leaves the keys outside them alone. -/
theorem Sparse.get_setAll_other [DecidableEq α] (d : Nat → α) (l : List α) :
    ∀ (m : Sparse α) (k j : Nat), j < k ∨ k + l.length ≤ j → Sparse.get d (Sparse.setAll d m k l) j = Sparse.get d m j := by
  induction l with
  | nil => intro m k j h; rfl
  | cons v r ih =>
    intro m k j h
    simp only [List.length_cons] at h
    exact (ih _ _ _ (by omega)).trans (Sparse.get_set_other d m v (by omega))

/-- A span reads as its parts. -/
theorem Sparse.getAll_append (d : Nat → α) (m : Sparse α) (b : Nat) : ∀ (a k : Nat),
    Sparse.getAll d m k (a + b) = Sparse.getAll d m k a ++ Sparse.getAll d m (k + a) b
  | 0, k => by simp [Sparse.getAll]
  | a + 1, k => by
    rw [Nat.add_right_comm]
    simp only [Sparse.getAll, List.cons_append, Sparse.getAll_append d m b a (k + 1)]
    rw [Nat.add_right_comm, Nat.add_assoc]

/-- A write leaves every span outside it. -/
theorem Sparse.getAll_setAll_other [DecidableEq α] (d : Nat → α) (m : Sparse α) (k : Nat) (l : List α) : ∀ (n j : Nat), j + n ≤ k ∨ k + l.length ≤ j →
    Sparse.getAll d (Sparse.setAll d m k l) j n = Sparse.getAll d m j n
  | 0, _, _ => rfl
  | n + 1, j, h => by
    simp only [Sparse.getAll]
    rw [Sparse.get_setAll_other d l m k j (by omega), Sparse.getAll_setAll_other d m k l n (j + 1) (by omega)]

/-- The span written reads as what was written. -/
theorem Sparse.getAll_setAll_same [DecidableEq α] (d : Nat → α) : ∀ (l : List α) (m : Sparse α) (k : Nat),
    Sparse.getAll d (Sparse.setAll d m k l) k l.length = l
  | [], _, _ => rfl
  | v :: r, m, k => by
    simp only [Sparse.setAll, List.length_cons, Sparse.getAll, Sparse.getAll_setAll_same d r]
    rw [Sparse.get_setAll_other d r _ (k + 1) k (by omega), Sparse.get_set_same]

end Sys2Proof.Machine
end

