-- ==== Sys2Proof/Laws/Memory.lean ====
section
/-! SUPPORT. The stores of the machine keep their canonical form: the flash, the Basin and the register files, under every operation that
writes them; and what each leaves alone. -/

namespace Sys2Proof.Machine

/-- Programming keeps the flash canonical. -/
theorem flashProgram_wf (m : ByteMem) (a : Nat) (d : List Byte) (h : Memory.wf flashDefault m = true) : Memory.wf flashDefault (flashProgram m a d) = true :=
  Sparse.setAll_wf _ d m a h

/-- Erasing keeps the flash canonical. -/
theorem flashErase_wf (m : ByteMem) (a n : Nat) (h : Memory.wf flashDefault m = true) : Memory.wf flashDefault (flashErase m a n) = true :=
  Sparse.clear_wf _ m a n h

/-- Every flash operation keeps the flash canonical. -/
theorem NvmOp.apply_wf (o : NvmOp) (m : ByteMem) (h : Memory.wf flashDefault m = true) : Memory.wf flashDefault (o.apply m) = true := by
  unfold NvmOp.apply
  split
  · exact flashProgram_wf _ _ _ h
  · split
    · exact flashErase_wf _ _ _ h
    · exact h

/-- A program leaves the bytes outside it alone. -/
theorem flashProgram_other (m : ByteMem) (a : Nat) (d : List Byte) (j : Nat) (h : j < a ∨ a + d.length ≤ j) :
    Sparse.get flashDefault (flashProgram m a d) j = Sparse.get flashDefault m j := Sparse.get_setAll_other _ d m a j h

/-- A Basin write keeps the Basin canonical. -/
theorem BasinSt.write_wf (b : BasinSt) (a : Nat) (d : List Byte) (h : b.memWf = true) : (b.write a d).memWf = true :=
  Sparse.setAll_wf _ d b.mem a h

/-- A Basin write leaves the bytes outside it alone. -/
theorem BasinSt.write_other (b : BasinSt) (a : Nat) (d : List Byte) (j : Nat) (h : j < a ∨ a + d.length ≤ j) :
    (b.write a d).byte j = b.byte j := Sparse.get_setAll_other _ d b.mem a j h

/-- Writing along a list of moorings keeps the Basin canonical. -/
theorem BasinSt.writeList_wf (moors : List Nat) (d : List Byte) (b : BasinSt) (f : Nat) (h : b.memWf = true) : (b.writeList moors d f).memWf = true := by
  induction d generalizing b f with
  | nil => exact h
  | cons x r ih => exact ih _ _ (BasinSt.write_wf _ _ _ h)

/-- A granule written back keeps the Basin canonical. -/
theorem BasinSt.writeBack_wf (b : BasinSt) (a i : Nat) (errs : List (Nat × Nat)) (h : b.memWf = true) : (b.writeBack a i errs).memWf = true := by
  unfold BasinSt.writeBack
  dsimp only
  split
  · exact h
  · exact BasinSt.write_wf _ _ _ h

/-- A Basin write changes nothing but the contents. -/
theorem BasinSt.write_moors (b : BasinSt) (a : Nat) (d : List Byte) : (b.write a d).moors = b.moors := rfl

/-- What was programmed reads back. -/
theorem flashBytes_program (m : ByteMem) (a : Nat) (d : List Byte) : flashBytes (flashProgram m a d) a d.length = d :=
  Sparse.getAll_setAll_same flashDefault d m a

/-- A program leaves every span outside it. -/
theorem flashBytes_program_other (m : ByteMem) (a : Nat) (d : List Byte) (j n : Nat) (h : j + n ≤ a ∨ a + d.length ≤ j) :
    flashBytes (flashProgram m a d) j n = flashBytes m j n := Sparse.getAll_setAll_other flashDefault m a d n j h

/-- A span of the flash reads as its parts. -/
theorem flashBytes_append (m : ByteMem) (k a b : Nat) : flashBytes m k (a + b) = flashBytes m k a ++ flashBytes m (k + a) b :=
  Sparse.getAll_append flashDefault m b a k

/-- A span has as many bytes as were asked for. -/
@[simp] theorem flashBytes_length (m : ByteMem) : ∀ (k n : Nat), (flashBytes m k n).length = n
  | _, 0 => rfl
  | k, n + 1 => congrArg (· + 1) (flashBytes_length m (k + 1) n)

/-- Erased flash reads as FF. -/
theorem flashBytes_erased : ∀ n k, flashBytes [] k n = List.replicate n 0xFF#8
  | 0, _ => rfl
  | n + 1, k => by
    rw [List.replicate_succ, ← flashBytes_erased n (k + 1)]
    rfl

/-- A register write keeps its file canonical. -/
theorem RegFile.setWord_wf (m : RegFile) (a : Nat) (w : Word) (h : m.wf = true) : (m.setWord a w).wf = true := Sparse.set_wf _ m a w h

/-- The word written is the word read. -/
theorem RegFile.word_setWord (m : RegFile) (a : Nat) (w : Word) : (m.setWord a w).word a = w := Sparse.get_set_same _ m a w

/-- A register write leaves the other words alone. -/
theorem RegFile.word_setWord_other (m : RegFile) (w : Word) {a b : Nat} (h : b ≠ a) : (m.setWord a w).word b = m.word b :=
  Sparse.get_set_other _ m w h

/-- A field write keeps the file canonical. -/
theorem RegFile.setFld_wf (m : RegFile) (f : Fld) (v : Nat) (h : m.wf = true) : (m.setFld f v).wf = true := RegFile.setWord_wf _ _ _ h

/-- A field write leaves the other words alone. -/
theorem RegFile.word_setFld_other (m : RegFile) (f : Fld) (v : Nat) {a : Nat} (h : a ≠ f.addr) : (m.setFld f v).word a = m.word a :=
  RegFile.word_setWord_other m _ h

/-- A field write leaves the fields of other words alone. -/
theorem RegFile.fld_setFld_other (m : RegFile) (f g : Fld) (v : Nat) (h : g.addr ≠ f.addr) : (m.setFld f v).fld g = m.fld g := by
  unfold RegFile.fld
  rw [RegFile.word_setFld_other m f v h]

/-- A context write keeps the contexts canonical. -/
theorem DecSt.setCtx_wf (d : DecSt) (n : Nat) (c : DecCtx) (h : Sparse.wf (fun _ => DecCtx.init) d.ctxs = true) :
    Sparse.wf (fun _ => DecCtx.init) (d.setCtx n c).ctxs = true := Sparse.set_wf _ d.ctxs n c h

end Sys2Proof.Machine
end

