-- ==== Sys2Proof/Laws/Fields.lean ====
section
/-! SUPPORT. Fields of words: what a field write leaves in the field, in the other fields of its word, and in the registers of the machine. -/

namespace Sys2Proof.Machine

/-- A word with a field replaced, by its three parts. -/
theorem putBits_eq (x hi lo v : Nat) :
    putBits x hi lo v = (x / 2 ^ lo / 2 ^ (hi + 1 - lo) * 2 ^ (hi + 1 - lo) + v % 2 ^ (hi + 1 - lo)) * 2 ^ lo + x % 2 ^ lo := by
  unfold putBits bitsOf
  rw [Nat.shiftRight_eq_div_pow, Nat.shiftLeft_eq, Nat.shiftLeft_eq]
  generalize hi + 1 - lo = w
  have h1 := Nat.div_add_mod x (2 ^ lo)
  have h2 := Nat.div_add_mod (x / 2 ^ lo) (2 ^ w)
  generalize x / 2 ^ lo = q at *
  generalize x % 2 ^ lo = c at *
  generalize q / 2 ^ w = a at *
  generalize q % 2 ^ w = r at *
  generalize v % 2 ^ w = u at *
  subst h2
  have e : x = a * 2 ^ w * 2 ^ lo + r * 2 ^ lo + c := by rw [← h1]; ring
  have g : (a * 2 ^ w + u) * 2 ^ lo = a * 2 ^ w * 2 ^ lo + u * 2 ^ lo := by ring
  rw [g, e]
  omega

/-- A word with a field replaced, without its bits below the field. -/
theorem putBits_div (x hi lo v : Nat) :
    putBits x hi lo v / 2 ^ lo = x / 2 ^ lo / 2 ^ (hi + 1 - lo) * 2 ^ (hi + 1 - lo) + v % 2 ^ (hi + 1 - lo) := by
  rw [putBits_eq, Nat.mul_comm, Nat.mul_add_div (Nat.two_pow_pos _), Nat.div_eq_of_lt (Nat.mod_lt _ (Nat.two_pow_pos _)), Nat.add_zero]

/-- The bits below a replaced field stand. -/
theorem putBits_mod (x hi lo v : Nat) : putBits x hi lo v % 2 ^ lo = x % 2 ^ lo := by
  rw [putBits_eq, Nat.mul_comm, Nat.mul_add_mod, Nat.mod_mod]

/-- The bits above a replaced field stand. -/
theorem putBits_high (x hi lo v : Nat) (h : lo ≤ hi + 1) : putBits x hi lo v / 2 ^ (hi + 1) = x / 2 ^ (hi + 1) := by
  have e : 2 ^ (hi + 1) = 2 ^ lo * 2 ^ (hi + 1 - lo) := by rw [← Nat.pow_add]; congr 1; omega
  rw [e, ← Nat.div_div_eq_div_mul, putBits_div, ← Nat.div_div_eq_div_mul]
  generalize 2 ^ (hi + 1 - lo) = w
  rcases Nat.eq_zero_or_pos w with h0 | h0
  · subst h0; simp
  · rw [Nat.mul_comm, Nat.mul_add_div h0, Nat.div_eq_of_lt (Nat.mod_lt _ h0), Nat.add_zero]

/-- A replaced field reads as the low bits of what was put there. -/
theorem bitsOf_putBits_same (x hi lo v : Nat) : bitsOf (putBits x hi lo v) hi lo = v % 2 ^ (hi + 1 - lo) := by
  unfold bitsOf
  rw [Nat.shiftRight_eq_div_pow, putBits_div, Nat.mul_comm, Nat.mul_add_mod, Nat.mod_mod]

/-- A field above a replaced field stands. -/
theorem bitsOf_putBits_above (x hi lo v hi' lo' : Nat) (h : lo ≤ hi + 1) (h' : hi < lo') : bitsOf (putBits x hi lo v) hi' lo' = bitsOf x hi' lo' := by
  unfold bitsOf
  rw [Nat.shiftRight_eq_div_pow, Nat.shiftRight_eq_div_pow]
  have e : 2 ^ lo' = 2 ^ (hi + 1) * 2 ^ (lo' - (hi + 1)) := by rw [← Nat.pow_add]; congr 1; omega
  rw [e, ← Nat.div_div_eq_div_mul, ← Nat.div_div_eq_div_mul, putBits_high x hi lo v h]

/-- A field below a replaced field stands. -/
theorem bitsOf_putBits_below (x hi lo v hi' lo' : Nat) (h : hi' < lo) : bitsOf (putBits x hi lo v) hi' lo' = bitsOf x hi' lo' := by
  unfold bitsOf
  rw [Nat.shiftRight_eq_div_pow, Nat.shiftRight_eq_div_pow]
  rcases Nat.lt_or_ge hi' lo' with g | g
  · have e : hi' + 1 - lo' = 0 := by omega
    rw [e]; simp [Nat.mod_one]
  · have key : ∀ y : Nat, y / 2 ^ lo' % 2 ^ (hi' + 1 - lo') = y % 2 ^ lo % 2 ^ (hi' + 1) / 2 ^ lo' := by
      intro y
      have d : 2 ^ (hi' + 1) ∣ 2 ^ lo := Nat.pow_dvd_pow 2 (by omega)
      rw [Nat.mod_mod_of_dvd _ d]
      have e : 2 ^ (hi' + 1) = 2 ^ lo' * 2 ^ (hi' + 1 - lo') := by rw [← Nat.pow_add]; congr 1; omega
      rw [e, Nat.mod_mul_right_div_self]
    rw [key, key, putBits_mod]

/-- A word stays a word. -/
theorem putBits_lt (x hi lo v : Nat) (h : lo ≤ hi + 1) (h' : hi < 32) (hx : x < 2 ^ 32) : putBits x hi lo v < 2 ^ 32 := by
  have e : 2 ^ 32 = 2 ^ (hi + 1) * 2 ^ (31 - hi) := by rw [← Nat.pow_add]; congr 1; omega
  have g : putBits x hi lo v / 2 ^ (hi + 1) < 2 ^ (31 - hi) := by
    rw [putBits_high x hi lo v h]
    exact Nat.div_lt_of_lt_mul (by rwa [e] at hx)
  rw [e]
  rw [Nat.div_lt_iff_lt_mul (Nat.two_pow_pos _)] at g
  rwa [Nat.mul_comm] at g

/-- The word after a field write. -/
theorem RegFile.word_setFld (m : RegFile) (f : Fld) (v : Nat) (h : f.lo ≤ f.hi + 1) (h' : f.hi < 32) :
    ((m.setFld f v).word f.addr).toNat = putBits (m.word f.addr).toNat f.hi f.lo v := by
  unfold RegFile.setFld
  rw [RegFile.word_setWord, BitVec.toNat_ofNat, Nat.mod_eq_of_lt (putBits_lt _ _ _ _ h h' (m.word f.addr).isLt)]

/-- A field written reads as the low bits of what was written. -/
theorem RegFile.fld_setFld (m : RegFile) (f : Fld) (v : Nat) (h : f.lo ≤ f.hi + 1) (h' : f.hi < 32) :
    (m.setFld f v).fld f = v % 2 ^ (f.hi + 1 - f.lo) := by
  unfold RegFile.fld
  rw [RegFile.word_setFld m f v h h', bitsOf_putBits_same]

/-- A field write leaves a field above or below it in its word alone. -/
theorem RegFile.fld_setFld_beside (m : RegFile) (f g : Fld) (v : Nat) (h : f.lo ≤ f.hi + 1) (h' : f.hi < 32) (ha : g.addr = f.addr)
    (hd : f.hi < g.lo ∨ g.hi < f.lo) : (m.setFld f v).fld g = m.fld g := by
  unfold RegFile.fld
  rw [ha, RegFile.word_setFld m f v h h']
  rcases hd with d | d
  · exact bitsOf_putBits_above _ _ _ _ _ _ h d
  · exact bitsOf_putBits_below _ _ _ _ _ _ d

/-- A live field written reads as the low bits of what was written. -/
theorem State.rd_wr (s : State) (f : Fld) (v : Nat) (h : f.lo ≤ f.hi + 1) (h' : f.hi < 32) : (s.wr f v).rd f = v % 2 ^ (f.hi + 1 - f.lo) :=
  RegFile.fld_setFld s.led.live f v h h'

/-- A live field write leaves the fields of other words alone. -/
theorem State.rd_wr_other (s : State) (f g : Fld) (v : Nat) (h : g.addr ≠ f.addr) : (s.wr f v).rd g = s.rd g :=
  RegFile.fld_setFld_other s.led.live f g v h

/-- A live field write leaves a field beside it in its word alone. -/
theorem State.rd_wr_beside (s : State) (f g : Fld) (v : Nat) (h : f.lo ≤ f.hi + 1) (h' : f.hi < 32) (ha : g.addr = f.addr)
    (hd : f.hi < g.lo ∨ g.hi < f.lo) : (s.wr f v).rd g = s.rd g := RegFile.fld_setFld_beside s.led.live f g v h h' ha hd

/-- A live word written is read. -/
theorem State.rdW_wrW (s : State) (a : Nat) (w : Word) : (s.wrW a w).rdW a = w := RegFile.word_setWord s.led.live a w

/-- A live word write leaves the other words alone. -/
theorem State.rdW_wrW_other (s : State) (w : Word) {a b : Nat} (h : b ≠ a) : (s.wrW a w).rdW b = s.rdW b := RegFile.word_setWord_other s.led.live w h

end Sys2Proof.Machine
end

