-- ==== Sys2Proof/Laws/Kept.lean ====
section
/-! SUPPORT. What almost no operation changes, as one record, so that one equation says it of an operation; the lemmas for the combinators. -/

namespace Sys2Proof.Machine

/-- What no command but a reset, an OTP action and the JTAG port changes: the clock's instant, the OTP, the straps, the TAP, the queue. -/
structure Base where
  now     : Nat
  otp     : Otp
  straps  : Straps
  jtag    : JtagSt
  pending : List Instr

/-- What no operation changes but those of the lock cycle and of resets: besides the base, the phase of the lock cycle, the pound numbers and the
commit store. -/
structure Kept where
  base    : Base
  phase   : Phase
  pound   : Nat
  nextP   : Nat
  index   : Bool
  bank0   : CSet
  bank1   : CSet

/-- The base of a state. -/
def State.base (s : State) : Base := { now := s.clk.now, otp := s.img.otp, straps := s.pwr.straps, jtag := s.jtag, pending := s.pending }

/-- The kept part of a state. -/
def State.kept (s : State) : Kept :=
  { base := s.base, phase := s.lock.phase, pound := s.lock.pound, nextP := s.lock.nextPound, index := s.led.index, bank0 := s.led.bank0, bank1 := s.led.bank1 }

theorem State.foldl_kept {α : Type} (l : List α) (f : State → α → State) (h : ∀ s a, (f s a).kept = s.kept) (s : State) : (l.foldl f s).kept = s.kept := by
  induction l generalizing s with
  | nil => rfl
  | cons a r ih => rw [List.foldl_cons, ih, h]
theorem State.each_kept {α : Type} (s : State) (l : List α) (f : State → α → State) (h : ∀ s a, (f s a).kept = s.kept) : (s.each l f).kept = s.kept := State.foldl_kept l f h s
theorem State.when_kept (s : State) (c : Bool) (f : State → State) (h : ∀ s, (f s).kept = s.kept) : (s.when c f).kept = s.kept := by unfold State.when; split <;> simp [h]
theorem foldl_pair_kept {α β : Type} (l : List α) (f : State × β → α → State × β) (h : ∀ a x, (f a x).1.kept = a.1.kept) (a : State × β) : (l.foldl f a).1.kept = a.1.kept := by
  induction l generalizing a with
  | nil => rfl
  | cons x r ih => rw [List.foldl_cons, ih, h]
theorem fst_ite_kept {β : Type} {c : Prop} [Decidable c] {a b : State × β} {k : Kept} (ha : a.1.kept = k) (hb : b.1.kept = k) : (if c then a else b).1.kept = k := by
  split <;> assumption
theorem State.base_of_kept {s t : State} (h : s.kept = t.kept) : s.base = t.base := congrArg Kept.base h

end Sys2Proof.Machine
end

