-- ==== Sys2Proof/Laws/KeptOps.lean ====
section
/-! SUPPORT. What the operations of Machine/Ops.lean keep: one lemma for each, `_kept` where it keeps the whole kept part, `_base` where it keeps the
base only. -/

namespace Sys2Proof.Machine

theorem State.setLive_kept (s : State) (m : RegFile) : (State.setLive s m).kept = s.kept := by
  unfold State.setLive; grind [State.kept, State.base]

theorem State.wr_kept (s : State) (f : Fld) (v : Nat) : (State.wr s f v).kept = s.kept := by
  unfold State.wr; grind [State.setLive_kept, State.kept, State.base]

theorem State.wrW_kept (s : State) (a : Nat) (w : Word) : (State.wrW s a w).kept = s.kept := by
  unfold State.wrW; grind [State.setLive_kept, State.kept, State.base]

theorem State.add_kept (s : State) (f : Fld) (n : Nat) : (State.add s f n).kept = s.kept := by
  unfold State.add; grind [State.wr_kept, State.kept, State.base]

theorem State.inc_kept (s : State) (f : Fld) : (State.inc s f).kept = s.kept := by
  unfold State.inc; grind [State.add_kept, State.kept, State.base]

theorem State.incWrap_kept (s : State) (f : Fld) : (State.incWrap s f).kept = s.kept := by
  unfold State.incWrap; grind [State.wr_kept, State.kept, State.base]

theorem State.peak_kept (s : State) (f : Fld) (v : Nat) : (State.peak s f v).kept = s.kept := by
  unfold State.peak; grind [State.wr_kept, State.kept, State.base]

theorem State.raiseI_kept (s : State) (code block inst arg0 arg1 : Nat) : (State.raiseI s code block inst arg0 arg1).kept = s.kept := by
  unfold State.raiseI; grind [State.kept, State.base]

theorem State.raise_kept (s : State) (code block arg0 arg1 : Nat) : (State.raise s code block arg0 arg1).kept = s.kept := by
  unfold State.raise; grind [State.raiseI_kept, State.kept, State.base]

theorem State.raiseOnceI_kept (s : State) (code block inst key arg0 arg1 : Nat) : (State.raiseOnceI s code block inst key arg0 arg1).kept = s.kept := by
  unfold State.raiseOnceI; grind [State.raiseI_kept, State.kept, State.base]

theorem State.raiseOnce_kept (s : State) (code block key arg0 arg1 : Nat) : (State.raiseOnce s code block key arg0 arg1).kept = s.kept := by
  unfold State.raiseOnce; grind [State.raiseOnceI_kept, State.kept, State.base]

theorem State.choose_kept (s : State) : (State.choose s).2.kept = s.kept := by
  unfold State.choose; grind [State.kept, State.base]

theorem State.chooseNat_kept (s : State) : (State.chooseNat s).2.kept = s.kept := by
  unfold State.chooseNat; grind [State.kept, State.base]

theorem State.openWindow_kept (s : State) (code : Nat) (busy : Bool) : (State.openWindow s code busy).kept = s.kept := by
  unfold State.openWindow; grind [State.kept, State.base]

theorem State.noteFaultIn_kept (s : State) (code : Nat) (busy : Bool) : (State.noteFaultIn s code busy).kept = s.kept := by
  unfold State.noteFaultIn; grind [State.openWindow_kept, State.wr_kept, State.raise_kept, State.kept, State.base]

theorem State.noteFault_kept (s : State) (code : Nat) : (State.noteFault s code).kept = s.kept := by
  unfold State.noteFault; grind [State.noteFaultIn_kept, State.kept, State.base]

theorem State.recoveryOf_kept (s : State) (code : Nat) : (State.recoveryOf s code).kept = s.kept := by
  unfold State.recoveryOf; grind [State.kept, State.base]

theorem State.alert_kept (s : State) (f : Fld) : (State.alert s f).kept = s.kept := by
  unfold State.alert; grind [State.wr_kept, State.raise_kept, State.kept, State.base]

theorem State.modUnit_kept (s : State) (block inst : Nat) (f : UnitSt → UnitSt) : (State.modUnit s block inst f).kept = s.kept := by
  unfold State.modUnit; grind [State.kept, State.base]

theorem State.pushBarge_kept (s : State) (block inst tag work : Nat) : (State.pushBarge s block inst tag work).kept = s.kept := by
  unfold State.pushBarge; grind [State.modUnit_kept, State.kept, State.base]

theorem State.faultLow_kept (s : State) : (State.faultLow s).kept = s.kept := by
  unfold State.faultLow; grind [State.kept, State.base]

end Sys2Proof.Machine
end

