-- ==== Sys2Proof/Laws/KeptNvm.lean ====
section
/-! SUPPORT. What the operations of Machine/Nvm.lean keep: one lemma for each, `_kept` where it keeps the whole kept part, `_base` where it keeps the
base only. -/

namespace Sys2Proof.Machine

theorem State.showNvm_kept (s : State) : (State.showNvm s).kept = s.kept := by
  unfold State.showNvm; grind [State.wr_kept, State.kept, State.base]

theorem State.nvmStart_kept (s : State) : (State.nvmStart s).kept = s.kept := by
  unfold State.nvmStart; grind [State.showNvm_kept, State.kept, State.base]

theorem State.nvmQueue_kept (s : State) (j : NvmJob) : (State.nvmQueue s j).kept = s.kept := by
  unfold State.nvmQueue; grind [State.nvmStart_kept, State.kept, State.base]

theorem State.updState_kept (s : State) (st arg1 : Nat) : (State.updState s st arg1).kept = s.kept := by
  unfold State.updState; grind [State.wr_kept, State.showNvm_kept, State.raise_kept, State.kept, State.base]

theorem State.updFail_kept (s : State) (cause : Nat) : (State.updFail s cause).kept = s.kept := by
  unfold State.updFail; grind [State.wr_kept, State.updState_kept, State.kept, State.base]

theorem State.nvmFinish_kept (s : State) (who : NvmWho) : (State.nvmFinish s who).kept = s.kept := by
  unfold State.nvmFinish; grind [State.raise_kept, State.wr_kept, State.updState_kept, State.inc_kept, State.kept, State.base]

theorem State.relog_kept (s : State) (j : NvmJob) (i off : Nat) : (State.relog s j i off).kept = s.kept := by
  unfold State.relog; grind [State.kept, State.base]

theorem State.nvmGiveUp_kept (s : State) (j : NvmJob) : (State.nvmGiveUp s j).kept = s.kept := by
  unfold State.nvmGiveUp; grind [State.updFail_kept, State.relog_kept, State.wr_kept, State.kept, State.base]

theorem State.nvmProgress_kept (s : State) (who : NvmWho) (o : NvmOp) : (State.nvmProgress s who o).kept = s.kept := by
  unfold State.nvmProgress; grind [State.wr_kept, State.kept, State.base]

theorem State.nvmFailed_kept (s : State) (j : NvmJob) (o : NvmOp) : (State.nvmFailed s j o).kept = s.kept := by
  unfold State.nvmFailed; grind [State.raise_kept, State.wr_kept, State.showNvm_kept, State.nvmGiveUp_kept, State.nvmStart_kept, State.kept, State.base]

theorem State.nvmBrace_kept (s : State) : (State.nvmBrace s).kept = s.kept := by
  unfold State.nvmBrace; grind [State.kept, State.base]

theorem State.nvmResume_kept (s : State) : (State.nvmResume s).kept = s.kept := by
  unfold State.nvmResume; grind [State.wr_kept, State.raise_kept, State.kept, State.base]

theorem State.nvmSuspended_kept (s : State) : (State.nvmSuspended s).kept = s.kept := by
  unfold State.nvmSuspended; grind [State.wr_kept, State.nvmResume_kept, State.kept, State.base]

theorem State.jobs_kept (s : State) (j : Option NvmJob) (q : List NvmJob) : ({ s with img := { s.img with job := j, jobs := q } } : State).kept = s.kept := rfl

/-- The end of an operation keeps all but the OTP, which takes the bit that the operation programs (R100). -/
theorem State.nvmDone_kept (s : State) (same : Bool) :
    ∃ x, (x = s.img.otp ∨ ∃ o, x = s.img.otp.program o) ∧ (State.nvmDone s same).kept = { s.kept with base := { s.base with otp := x } } := by
  have same_ : ∀ u : State, u.kept = s.kept → ∃ x, (x = s.img.otp ∨ ∃ o, x = s.img.otp.program o) ∧ u.kept = { s.kept with base := { s.base with otp := x } } :=
    fun u h => ⟨s.img.otp, .inl rfl, h⟩
  have prog : ∀ (o : NvmOp) (u : State), u.kept = State.kept { s with img := s.img.applied o } →
      ∃ x, (x = s.img.otp ∨ ∃ o, x = s.img.otp.program o) ∧ u.kept = { s.kept with base := { s.base with otp := x } } :=
    fun o u h => ⟨s.img.otp.program o, .inr ⟨o, rfl⟩, h⟩
  unfold State.nvmDone
  split
  · exact same_ _ rfl
  · split
    · exact same_ _ (by grind [State.nvmStart_kept, State.kept, State.base])
    · dsimp only
      split
      · split
        · exact prog _ _ (((State.nvmStart_kept ..).trans (State.nvmFinish_kept ..)).trans ((State.showNvm_kept ..).trans
            (((State.jobs_kept ..).trans (State.nvmProgress_kept ..)).trans (State.wr_kept ..))))
        · exact prog _ _ ((State.nvmStart_kept ..).trans ((State.showNvm_kept ..).trans
            (((State.jobs_kept ..).trans (State.nvmProgress_kept ..)).trans (State.wr_kept ..))))
      · exact same_ _ (State.nvmFailed_kept ..)

theorem State.nvmTimeout_kept (s : State) : (State.nvmTimeout s).kept = s.kept := by
  unfold State.nvmTimeout
  split
  · split
    · rfl
    · unfold State.nvmDone; split
      · rfl
      · split
        · grind [State.nvmStart_kept, State.kept, State.base]
        · exact State.nvmFailed_kept ..
  · rfl

end Sys2Proof.Machine
end

