-- ==== Sys2Proof/Laws/KeptPower.lean ====
section
/-! SUPPORT. What the operations of Machine/Power.lean keep: one lemma for each, `_kept` where it keeps the whole kept part, `_base` where it keeps the
base only. -/

namespace Sys2Proof.Machine

theorem PwrSt.reqUp_straps (p : PwrSt) (b d) : (p.reqUp b d).straps = p.straps := by unfold PwrSt.reqUp; grind

theorem PwrSt.reqDown_straps (p : PwrSt) (d) : (p.reqDown d).straps = p.straps := by unfold PwrSt.reqDown; grind

theorem PwrSt.take_straps (p : PwrSt) : p.take.straps = p.straps := by unfold PwrSt.take; grind

theorem PwrSt.markPound_straps (p : PwrSt) (n) : (p.markPound n).straps = p.straps := by unfold PwrSt.markPound; split <;> rfl

theorem State.reqUp_kept (s : State) (d : Nat) : (State.reqUp s d).kept = s.kept := by
  unfold State.reqUp; simp only [State.kept, State.base, PwrSt.reqUp_straps]

theorem State.reqDown_kept (s : State) (d : Nat) : (State.reqDown s d).kept = s.kept := by
  unfold State.reqDown
  rw [State.when_kept _ _ _ (fun _ => State.recoveryOf_kept ..)]; simp only [State.kept, State.base, PwrSt.reqDown_straps]

theorem State.flightKick_kept (s : State) : (State.flightKick s).kept = s.kept := by
  unfold State.flightKick; simp only [State.kept, State.base, PwrSt.take_straps]

theorem State.startReload_kept (s : State) (block inst : Nat) : (State.startReload s block inst).kept = s.kept := by
  unfold State.startReload; grind [State.modUnit_kept, State.kept, State.base]

theorem State.endReload_kept (s : State) (block inst : Nat) : (State.endReload s block inst).kept = s.kept := by
  unfold State.endReload; grind [State.modUnit_kept, State.raiseI_kept, State.kept, State.base]

theorem State.powerGood_kept (s : State) : (State.powerGood s).kept = s.kept := by
  unfold State.powerGood; grind [State.each_kept, State.startReload_kept, State.kept, State.base]

theorem State.powerTimeout_kept (s : State) : (State.powerTimeout s).kept = s.kept := by
  unfold State.powerTimeout; grind [State.raise_kept, State.recoveryOf_kept, State.wrW_kept, State.faultLow_kept, State.noteFaultIn_kept, State.kept, State.base]

theorem State.slotEnd_kept (s : State) : (State.slotEnd s).kept = s.kept := by
  unfold State.slotEnd; grind [State.powerTimeout_kept, State.when_kept, State.recoveryOf_kept, State.each_kept, State.endReload_kept, State.flightKick_kept, State.kept, State.base]

theorem State.warnTrip_kept (s : State) (mon : Nat) : (State.warnTrip s mon).kept = s.kept := by
  unfold State.warnTrip; grind [State.wr_kept, State.inc_kept, State.nvmBrace_kept, State.noteFaultIn_kept, State.kept, State.base]

theorem State.braceEvent_kept (s : State) : (State.braceEvent s).kept = s.kept := by
  unfold State.braceEvent; grind [State.raise_kept, State.kept, State.base]

theorem State.braceEnd_kept (s : State) : (State.braceEnd s).kept = s.kept := by
  unfold State.braceEnd; grind [State.wr_kept, State.raise_kept, State.recoveryOf_kept, State.nvmResume_kept, State.nvmStart_kept, State.flightKick_kept, State.kept, State.base]

theorem State.overvolt_kept (s : State) (mon : Nat) : (State.overvolt s mon).kept = s.kept := by
  unfold State.overvolt; grind [State.wr_kept, State.raise_kept, State.kept, State.base]

end Sys2Proof.Machine
end

