-- ==== Sys2Proof/Laws/KeptReceive.lean ====
section
/-! SUPPORT. What the operations of Machine/Receive.lean keep: one lemma for each, `_kept` where it keeps the whole kept part, `_base` where it keeps the
base only. -/

namespace Sys2Proof.Machine

theorem State.modLane_kept (s : State) (n : Nat) (f : LaneSt → LaneSt) : (State.modLane s n f).kept = s.kept := by
  unfold State.modLane; grind [State.kept, State.base]

theorem State.setLock_kept (s : State) (n v : Nat) : (State.setLock s n v).kept = s.kept := by
  unfold State.setLock; grind [State.wr_kept, State.kept, State.base]

theorem State.raiseLane_kept (s : State) (code n arg : Nat) : (State.raiseLane s code n arg).kept = s.kept := by
  unfold State.raiseLane; grind [State.raiseI_kept, State.kept, State.base]

theorem State.lockLost_kept (s : State) (n invalid : Nat) : (State.lockLost s n invalid).kept = s.kept := by
  unfold State.lockLost; grind [State.setLock_kept, State.inc_kept, State.raiseLane_kept, State.kept, State.base]

theorem State.addErrors_kept (s : State) (n k : Nat) : (State.addErrors s n k).kept = s.kept := by
  unfold State.addErrors; grind [State.wr_kept, State.kept, State.base]

theorem State.headerError_kept (s : State) (n : Nat) : (State.headerError s n).kept = s.kept := by
  unfold State.headerError; grind [State.addErrors_kept, State.kept, State.base]

theorem State.rxHeader_kept (s : State) (n : Nat) (ok : Bool) : (State.rxHeader s n ok).kept = s.kept := by
  unfold State.rxHeader; grind [State.modLane_kept, State.headerError_kept, State.lockLost_kept, State.setLock_kept, State.kept, State.base]

theorem State.rxHeaders_kept (s : State) (n : Nat) (live : Bool) (hdrs : List Bool) : (State.rxHeaders s n live hdrs).kept = s.kept := by
  unfold State.rxHeaders
  split
  · exact State.each_kept _ _ _ (fun s ok => State.rxHeader_kept s n ok)
  · split
    · exact State.setLock_kept ..
    · rfl

theorem State.showLane_kept (s : State) (n : Nat) : (State.showLane s n).kept = s.kept := by
  unfold State.showLane; grind [State.wr_kept, State.kept, State.base]

theorem State.showRx_kept (s : State) (n st fom : Nat) (e : RxEq) : (State.showRx s n st fom e).kept = s.kept := by
  unfold State.showRx; grind [State.modLane_kept, State.wr_kept, State.showLane_kept, State.kept, State.base]

theorem State.rxStart_kept (s : State) (n : Nat) : (State.rxStart s n).kept = s.kept := by
  unfold State.rxStart; grind [State.showRx_kept, State.setLock_kept, State.modLane_kept, State.kept, State.base]

theorem State.adaptRun_kept (s : State) (n : Nat) (cands : List Eyes) (eyes : Eyes) (dfe : Int) (ffe : List Int) : (State.adaptRun s n cands eyes dfe ffe).kept = s.kept := by
  unfold State.adaptRun; grind [State.modLane_kept, State.showRx_kept, State.raiseLane_kept, State.kept, State.base]

theorem State.lmsRuns_kept (s : State) (n : Nat) : (State.lmsRuns s n).kept = s.kept := by
  unfold State.lmsRuns; grind [State.modLane_kept, State.wr_kept, State.kept, State.base]

theorem State.fomMonitor_kept (s : State) (n : Nat) (eyes : Eyes) : (State.fomMonitor s n eyes).kept = s.kept := by
  unfold State.fomMonitor; grind [State.lmsRuns_kept, State.wr_kept, State.raiseOnceI_kept, State.kept, State.base]

theorem State.laneTrain_kept (s : State) (n : Nat) (l : LinkTrain) : (State.laneTrain s n l).kept = s.kept := by
  unfold State.laneTrain; grind [State.wr_kept, State.modLane_kept, State.kept, State.base]

end Sys2Proof.Machine
end

