-- ==== Sys2Proof/Laws/KeptRing.lean ====
section
/-! SUPPORT. What the operations of Machine/Ring.lean keep: one lemma for each, `_kept` where it keeps the whole kept part, `_base` where it keeps the
base only. -/

namespace Sys2Proof.Machine

theorem State.modPort_kept (s : State) (x : Nat) (f : RingPort → RingPort) : (State.modPort s x f).kept = s.kept := by
  unfold State.modPort; grind [State.kept, State.base]

theorem State.notePeak_kept (s : State) (y : Nat) : (State.notePeak s y).kept = s.kept := by
  unfold State.notePeak; grind [State.peak_kept, State.kept, State.base]

theorem State.deliverUdp_kept (s : State) (mac dst src dport sport : Nat) (d : List Byte) : (State.deliverUdp s mac dst src dport sport d).kept = s.kept := by
  unfold State.deliverUdp; (repeat' split) <;> grind [State.inc_kept, State.kept, State.base]

theorem State.deliverIp_kept (s : State) (f : Frame) : (State.deliverIp s f).kept = s.kept := by
  unfold State.deliverIp; (repeat' split) <;> grind [State.inc_kept, State.deliverUdp_kept, State.kept, State.base]

theorem State.deliver_kept (s : State) (port : Nat) (f : Frame) (inAt : Nat) : (State.deliver s port f inAt).kept = s.kept := by
  unfold State.deliver; grind [State.deliverIp_kept, State.kept, State.base]

theorem State.insert_kept (s : State) (y : Nat) (x : Transit) : (State.insert s y x).kept = s.kept := by
  unfold State.insert; grind [State.modPort_kept, State.notePeak_kept, State.kept, State.base]

theorem State.forward_kept (s : State) (y : Nat) (f : Frame) (d : List Byte) (inAt : Nat) : (State.forward s y f d inAt).kept = s.kept := by
  unfold State.forward; grind [State.inc_kept, State.modPort_kept, State.insert_kept, State.kept, State.base]

theorem State.queueOn_kept (s : State) (x : Nat) (l : LFrame) : (State.queueOn s x l).kept = s.kept := by
  unfold State.queueOn; grind [State.modPort_kept, State.kept, State.base]

theorem State.queueBoth_kept (s : State) (l : LFrame) (dst etype : Nat) (body : List Byte) : (State.queueBoth s l dst etype body).kept = s.kept := by
  unfold State.queueBoth; grind [State.queueOn_kept, State.kept, State.base]

theorem State.sendUdp_kept (s : State) (l : LFrame) (mac addr dport : Nat) (d : List Byte) : (State.sendUdp s l mac addr dport d).kept = s.kept := by
  unfold State.sendUdp; (repeat' split) <;> grind [State.queueBoth_kept, State.kept, State.base]

theorem State.dualCopy_kept (s : State) (x : Nat) (f : Frame) (inAt : Nat) : (State.dualCopy s x f inAt).kept = s.kept := by
  unfold State.dualCopy; (repeat' split) <;> grind [State.inc_kept, State.queueOn_kept, State.kept, State.base]

theorem State.untaggedRx_kept (s : State) (x : Nat) (f : Frame) : (State.untaggedRx s x f).kept = s.kept := by
  unfold State.untaggedRx; (repeat' split) <;> grind [State.deliver_kept, State.inc_kept, State.forward_kept, State.dualCopy_kept, State.kept, State.base]

theorem State.taggedRx_kept (s : State) (x : Nat) (f : Frame) : (State.taggedRx s x f).kept = s.kept := by
  unfold State.taggedRx; (repeat' split) <;> grind [State.inc_kept, State.forward_kept, State.deliver_kept, State.kept, State.base]

theorem State.frameRx_kept (s : State) (x : Nat) (f : Frame) : (State.frameRx s x f).kept = s.kept := by
  unfold State.frameRx; grind [State.add_kept, State.inc_kept, State.taggedRx_kept, State.untaggedRx_kept, State.kept, State.base]

theorem State.noteTc_kept (s : State) (y : Nat) (event done : Bool) : (State.noteTc s y event done).kept = s.kept := by
  unfold State.noteTc; grind [State.inc_kept, State.kept, State.base]

theorem State.sendTransit_kept (s : State) (y : Nat) (x : Transit) : (State.sendTransit s y x).kept = s.kept := by
  unfold State.sendTransit; grind [State.noteTc_kept, State.modPort_kept, State.kept, State.base]

theorem State.noteReq_kept (s : State) (y : Nat) (l : LFrame) : (State.noteReq s y l).kept = s.kept := by
  unfold State.noteReq; grind [State.kept, State.base]

theorem State.sendOwn_kept (s : State) (y i : Nat) (l : LFrame) : (State.sendOwn s y i l).kept = s.kept := by
  unfold State.sendOwn; grind [State.noteReq_kept, State.inc_kept, State.noteTc_kept, State.modPort_kept, State.notePeak_kept, State.kept, State.base]

theorem State.txBoundary_kept (s : State) (y : Nat) : (State.txBoundary s y).kept = s.kept := by
  unfold State.txBoundary; grind [State.modPort_kept, State.sendOwn_kept, State.sendTransit_kept, State.kept, State.base]

theorem State.egressDue_kept (s : State) (y : Nat) : (State.egressDue s y).kept = s.kept := by
  unfold State.egressDue; grind [State.modPort_kept, State.kept, State.base]

theorem State.egressDrop_kept (s : State) (y : Nat) : (State.egressDrop s y).kept = s.kept := by
  unfold State.egressDrop; grind [State.modPort_kept, State.add_kept, State.kept, State.base]

theorem State.linkUp_kept (s : State) (x : Nat) (train : List LinkTrain) : (State.linkUp s x train).kept = s.kept := by
  unfold State.linkUp; grind [State.when_kept, State.each_kept, State.laneTrain_kept, State.modPort_kept, State.wr_kept, State.raiseI_kept, State.kept, State.base]

theorem State.portRx_kept (s : State) (x : Nat) : (State.portRx s x).kept = s.kept := by
  unfold State.portRx; grind [State.each_kept, State.rxStart_kept, State.kept, State.base]

theorem State.linkDown_kept (s : State) (x cause : Nat) : (State.linkDown s x cause).kept = s.kept := by
  unfold State.linkDown; grind [State.modPort_kept, State.portRx_kept, State.wr_kept, State.raiseI_kept, State.kept, State.base]

theorem State.weirTo_kept (s : State) (isOpen : Bool) (cause : Nat) : (State.weirTo s isOpen cause).kept = s.kept := by
  unfold State.weirTo; grind [State.wr_kept, State.raise_kept, State.linkDown_kept, State.modPort_kept, State.portRx_kept, State.kept, State.base]

theorem State.loopStart_kept (s : State) : (State.loopStart s).kept = s.kept := by
  unfold State.loopStart; grind [State.portRx_kept, State.wr_kept, State.kept, State.base]

theorem State.towRx_kept (s : State) : (State.towRx s).kept = s.kept := by
  unfold State.towRx; grind [State.each_kept, State.rxStart_kept, State.modLane_kept, State.kept, State.base]

theorem State.loopPass_kept (s : State) : (State.loopPass s).kept = s.kept := by
  unfold State.loopPass; grind [State.wr_kept, State.weirTo_kept, State.kept, State.base]

theorem State.loopFail_kept (s : State) : (State.loopFail s).kept = s.kept := by
  unfold State.loopFail; grind [State.raise_kept, State.noteFault_kept, State.kept, State.base]

theorem State.loopRetry_kept (s : State) : (State.loopRetry s).kept = s.kept := by
  unfold State.loopRetry; grind [State.loopStart_kept, State.kept, State.base]

theorem State.sendReports_kept (s : State) (ty : Nat) (groups : List Nat) : (State.sendReports s ty groups).kept = s.kept := by
  unfold State.sendReports; (repeat' split) <;> grind [State.queueBoth_kept, State.kept, State.base]

theorem State.igmpQuery_kept (s : State) : (State.igmpQuery s).kept = s.kept := by
  unfold State.igmpQuery; grind [State.sendReports_kept, State.kept, State.base]

theorem State.groupReports_kept (s : State) (old : List Nat) : (State.groupReports s old).kept = s.kept := by
  unfold State.groupReports; grind [State.sendReports_kept, State.kept, State.base]

theorem State.onePerPound_kept (s : State) (code block : Nat) (l : List Nat) : (State.onePerPound s code block l).kept = s.kept := by
  unfold State.onePerPound; grind [State.raiseI_kept, State.kept, State.base]

theorem State.ringPoundReports_kept (s : State) : (State.ringPoundReports s).kept = s.kept := by
  unfold State.ringPoundReports; grind [State.each_kept, State.when_kept, State.raiseI_kept, State.onePerPound_kept, State.kept, State.base]

end Sys2Proof.Machine
end

