-- ==== Sys2Proof/Laws/KeptTime.lean ====
section
/-! SUPPORT. What the operations of Machine/Time.lean keep: one lemma for each, `_kept` where it keeps the whole kept part, `_base` where it keeps the
base only. -/

namespace Sys2Proof.Machine

theorem State.showGm_kept (s : State) (id : Nat) : (State.showGm s id).kept = s.kept := by
  unfold State.showGm; grind [State.wr_kept, State.kept, State.base]

theorem State.setRate_kept (s : State) (u : Int) : (State.setRate s u).kept = s.kept := by
  unfold State.setRate; grind [State.wr_kept, State.kept, State.base]

theorem State.unlock_kept (s : State) (cause : Nat) : (State.unlock s cause).kept = s.kept := by
  unfold State.unlock; grind [State.wr_kept, State.raise_kept, State.kept, State.base]

theorem State.enterFreeRun_kept (s : State) : (State.enterFreeRun s).kept = s.kept := by
  unfold State.enterFreeRun; grind [State.unlock_kept, State.wr_kept, State.setRate_kept, State.raise_kept, State.kept, State.base]

theorem State.firstPort_kept (s : State) (y : SyncSeen) : (State.firstPort s y).kept = s.kept := by
  unfold State.firstPort; grind [State.wr_kept, State.kept, State.base]

theorem State.selectMaster_kept (s : State) (m : Master) : (State.selectMaster s m).kept = s.kept := by
  unfold State.selectMaster; grind [State.unlock_kept, State.firstPort_kept, State.wr_kept, State.showGm_kept, State.raise_kept, State.kept, State.base]

theorem State.runBmca_kept (s : State) : (State.runBmca s).kept = s.kept := by
  unfold State.runBmca; grind [State.enterFreeRun_kept, State.showGm_kept, State.selectMaster_kept, State.kept, State.base]

theorem State.dropMaster_kept (s : State) (id : Nat) : (State.dropMaster s id).kept = s.kept := by
  unfold State.dropMaster; grind [State.kept, State.base]

theorem State.announce_kept (s : State) : (State.announce s).kept = s.kept := by
  unfold State.announce; grind [State.dropMaster_kept, State.runBmca_kept, State.kept, State.base]

theorem State.announceTimeout_kept (s : State) : (State.announceTimeout s).kept = s.kept := by
  unfold State.announceTimeout; grind [State.dropMaster_kept, State.enterFreeRun_kept, State.runBmca_kept, State.kept, State.base]

theorem State.stepClock_kept (s : State) (d : Int) : (State.stepClock s d).kept = s.kept := by
  unfold State.stepClock; grind [State.kept, State.base]

theorem State.servo_kept (s : State) (ms : Int) : (State.servo s ms).kept = s.kept := by
  unfold State.servo; grind [State.wr_kept, State.setRate_kept, State.stepClock_kept, State.kept, State.base]

theorem State.clockStep_kept (s : State) (p : Nat) : (State.clockStep s p).kept = s.kept := by
  unfold State.clockStep; grind [State.stepClock_kept, State.raise_kept, State.kept, State.base]

theorem State.movePort_kept (s : State) (x : Nat) : (State.movePort s x).kept = s.kept := by
  unfold State.movePort; grind [State.wr_kept, State.kept, State.base]

theorem State.noteSync_kept (s : State) (p : PtpMsg) : (State.noteSync s p).kept = s.kept := by
  unfold State.noteSync; grind [State.wr_kept, State.movePort_kept, State.kept, State.base]

theorem State.hearSync_kept (s : State) (p : PtpMsg) (ok : Bool) : (State.hearSync s p ok).kept = s.kept := by
  unfold State.hearSync; grind [State.runBmca_kept, State.kept, State.base]

theorem State.ptpSync_kept (s : State) : (State.ptpSync s).kept = s.kept := by
  unfold State.ptpSync; (repeat' split) <;> grind [State.hearSync_kept, State.noteSync_kept, State.servo_kept, State.kept, State.base]

theorem State.delayResp_kept (s : State) : (State.delayResp s).kept = s.kept := by
  unfold State.delayResp; grind [State.kept, State.base]

theorem State.delayReqTimer_kept (s : State) : (State.delayReqTimer s).kept = s.kept := by
  unfold State.delayReqTimer; grind [State.queueOn_kept, State.kept, State.base]

theorem State.timePortTimeout_kept (s : State) (missed : Nat) : (State.timePortTimeout s missed).kept = s.kept := by
  unfold State.timePortTimeout; grind [State.movePort_kept, State.raise_kept, State.kept, State.base]

theorem State.lockChange_kept (s : State) : (State.lockChange s).kept = s.kept := by
  unfold State.lockChange; grind [State.wr_kept, State.raise_kept, State.unlock_kept, State.kept, State.base]

theorem State.updateFf_kept (s : State) (table : List Byte) (temp : Int) : (State.updateFf s table temp).kept = s.kept := by
  unfold State.updateFf; grind [State.wr_kept, State.setRate_kept, State.kept, State.base]

theorem State.pulse_kept (s : State) (p : PulsePin) (width : Nat) : (State.pulse s p width).kept = s.kept := by
  unfold State.pulse; grind [State.kept, State.base]

theorem State.pulseEnd_kept (s : State) (p : PulsePin) : (State.pulseEnd s p).kept = s.kept := by
  unfold State.pulseEnd; grind [State.kept, State.base]

theorem State.capture_kept (s : State) (input : Nat) (rising : Bool) : (State.capture s input rising).kept = s.kept := by
  unfold State.capture; grind [State.chooseNat_kept, State.wrW_kept, State.raise_kept, State.kept, State.base]

theorem State.setLaunch_kept (s : State) (p l : Nat) : (State.setLaunch s p l).kept = s.kept := by
  unfold State.setLaunch; grind [State.kept, State.base]

end Sys2Proof.Machine
end

