-- ==== Sys2Proof/Laws/KeptBasin.lean ====
section
/-! SUPPORT. What the operations of Machine/Basin.lean keep: one lemma for each, `_kept` where it keeps the whole kept part, `_base` where it keeps the
base only. -/

namespace Sys2Proof.Machine

theorem State.noteFree_kept (s : State) : (State.noteFree s).kept = s.kept := by
  unfold State.noteFree; grind [State.wr_kept, State.kept, State.base]

theorem State.allocFail_kept (s : State) (cls : Nat) : (State.allocFail s cls).kept = s.kept := by
  unfold State.allocFail; grind [State.inc_kept, State.raiseOnce_kept, State.kept, State.base]

theorem State.alloc_kept (s : State) (cls : Nat) : (State.alloc s cls).2.kept = s.kept := by
  unfold State.alloc; grind [State.noteFree_kept, State.allocFail_kept, State.kept, State.base]

theorem State.freeMoor_kept (s : State) (wait : Bool) (m : Nat) : (State.freeMoor s wait m).kept = s.kept := by
  unfold State.freeMoor; grind [State.kept, State.base]

theorem State.putPacket_kept (s : State) (a : Nat) (d : List Byte) : (State.putPacket s a d).kept = s.kept := by
  unfold State.putPacket; grind [State.kept, State.base]

theorem State.moorPacket_kept (s : State) (d : List Byte) : (State.moorPacket s d).2.kept = s.kept := by
  unfold State.moorPacket; grind [State.insert_kept, State.putPacket_kept, State.alloc_kept, State.kept, State.base]

theorem State.packetGone_kept (s : State) (wait : Bool) (m : Nat) : (State.packetGone s wait m).kept = s.kept := by
  unfold State.packetGone; grind [State.insert_kept, State.kept, State.base]

theorem State.packetDone_kept (s : State) (a : Nat × Nat) : (State.packetDone s a).kept = s.kept := by
  unfold State.packetDone; grind [State.packetGone_kept, State.kept, State.base]

theorem State.packetsDone_kept (s : State) (l : List (Nat × Nat)) : (State.packetsDone s l).kept = s.kept := by
  unfold State.packetsDone; grind [State.each_kept, State.packetDone_kept, State.kept, State.base]

theorem State.unitDone_kept (s : State) (p : Nat) (l : List (Nat × Nat)) : (State.unitDone s p l).kept = s.kept := by
  unfold State.unitDone; grind [State.packetsDone_kept, State.kept, State.base]

theorem State.towRelease_kept (s : State) (p : Nat) : (State.towRelease s p).kept = s.kept := by
  unfold State.towRelease; grind [State.each_kept, State.packetGone_kept, State.kept, State.base]

theorem State.updateRefresh_kept (s : State) (k : Nat) (t : Int) : (State.updateRefresh s k t).kept = s.kept := by
  unfold State.updateRefresh; grind [State.wr_kept, State.raiseI_kept, State.kept, State.base]

theorem State.correctedRead_kept (s : State) (a : Nat) : (State.correctedRead s a).kept = s.kept := by
  unfold State.correctedRead; grind [State.inc_kept, State.raiseOnce_kept, State.kept, State.base]

theorem State.noteUncorrectable_kept (s : State) (a reader : Nat) : (State.noteUncorrectable s a reader).kept = s.kept := by
  unfold State.noteUncorrectable; grind [State.raiseI_kept, State.inc_kept, State.wrW_kept, State.insert_kept, State.kept, State.base]

end Sys2Proof.Machine
end

