-- ==== Sys2Proof/Laws/KeptTransport.lean ====
section
/-! SUPPORT. What the operations of Machine/Transport.lean keep: one lemma for each, `_kept` where it keeps the whole kept part, `_base` where it keeps the
base only. -/

namespace Sys2Proof.Machine

theorem State.putChan_kept (s : State) (c : Chan) : (State.putChan s c).kept = s.kept := by
  unfold State.putChan; grind [State.kept, State.base]

theorem State.withChan_kept (s : State) (grp chan : Nat) : (State.withChan s grp chan).kept = s.kept := by
  unfold State.withChan; grind [State.kept, State.base]

theorem State.unitIncomplete_kept (s : State) (c : Chan) (l : List Pkt) : (State.unitIncomplete s c l).kept = s.kept := by
  unfold State.unitIncomplete; grind [State.putChan_kept, State.inc_kept, State.packetsDone_kept, State.kept, State.base]

theorem State.unitDiscard_kept (s : State) (u : StreamUnit) (cause : Nat) : (State.unitDiscard s u cause).kept = s.kept := by
  unfold State.unitDiscard; grind [State.inc_kept, State.raiseOnce_kept, State.packetsDone_kept, State.kept, State.base]

theorem State.unitWhole_kept (s : State) (c : Chan) (p : Pkt) (l : List Pkt) : (State.unitWhole s c p l).kept = s.kept := by
  unfold State.unitWhole; grind [State.putChan_kept, State.unitDiscard_kept, State.unitIncomplete_kept, State.kept, State.base]

theorem State.parseAt_kept (s : State) (c : Chan) (p : Pkt) : ∀ u, (State.parseAt s c p) = some u → u.kept = s.kept := by
  unfold State.parseAt; grind [State.unitIncomplete_kept, State.unitWhole_kept, State.putChan_kept, State.packetDone_kept, State.inc_kept, State.kept, State.base]

theorem State.parseOne_kept (s : State) (grp chan : Nat) : ∀ u, (State.parseOne s grp chan) = some u → u.kept = s.kept := by
  unfold State.parseOne
  intro u h
  split at h
  · cases h
  · obtain ⟨p, -, hp⟩ := List.exists_of_findSome?_eq_some h
    exact State.parseAt_kept s _ p u hp

theorem State.parse_kept (s : State) (grp chan : Nat) (x0 : Nat) : (State.parse s grp chan x0).kept = s.kept := by
  induction x0 generalizing s with
  | zero => rfl
  | succ n ih =>
    unfold State.parse
    split
    · rfl
    · next u h => exact (ih u).trans (State.parseOne_kept s grp chan u h)

theorem State.runParser_kept (s : State) (grp chan : Nat) : (State.runParser s grp chan).kept = s.kept := by
  unfold State.runParser; grind [State.parse_kept, State.kept, State.base]

theorem State.countLost_kept (s : State) (c : Chan) (l : List Nat) : (State.countLost s c l).kept = s.kept := by
  unfold State.countLost; grind [State.add_kept, State.raiseOnce_kept, State.kept, State.base]

theorem State.resolveGroup_kept (s : State) (grp chan k : Nat) (final : Bool) : (State.resolveGroup s grp chan k final).kept = s.kept := by
  unfold State.resolveGroup; grind [State.putChan_kept, State.countLost_kept, State.runParser_kept, State.kept, State.base]

theorem State.holdPacket_kept (s : State) (grp chan : Nat) (p : Pkt) : (State.holdPacket s grp chan p).2.kept = s.kept := by
  unfold State.holdPacket; grind [State.moorPacket_kept, State.putChan_kept, State.kept, State.base]

theorem State.recover_kept (s : State) (grp chan : Nat) (q : Pkt) : (State.recover s grp chan q).kept = s.kept := by
  unfold State.recover; grind [State.holdPacket_kept, State.putChan_kept, State.inc_kept, State.kept, State.base]

theorem State.checkGroup_kept (s : State) (grp chan k : Nat) : (State.checkGroup s grp chan k).kept = s.kept := by
  unfold State.checkGroup; dsimp only; (repeat' split) <;> first | rfl | simp only [State.resolveGroup_kept, State.recover_kept]

theorem State.resolveOlder_kept (s : State) (grp chan k : Nat) : (State.resolveOlder s grp chan k).kept = s.kept := by
  unfold State.resolveOlder; grind [State.each_kept, State.resolveGroup_kept, State.kept, State.base]

theorem State.acceptPacket_kept (s : State) (c : Chan) (p : Pkt) : (State.acceptPacket s c p).kept = s.kept := by
  unfold State.acceptPacket; grind [State.putChan_kept, State.holdPacket_kept, State.resolveOlder_kept, State.checkGroup_kept, State.runParser_kept, State.kept, State.base]

theorem State.dataPacket_kept (s : State) (grp chan seq flags key : Nat) (data : List Byte) : (State.dataPacket s grp chan seq flags key data).kept = s.kept := by
  unfold State.dataPacket; dsimp only; (repeat' split) <;> first | rfl | simp only [State.acceptPacket_kept, State.inc_kept, State.putChan_kept]

theorem State.parityPacket_kept (s : State) (grp chan seq n : Nat) (pay : List Byte) : (State.parityPacket s grp chan seq n pay).kept = s.kept := by
  unfold State.parityPacket; grind [State.inc_kept, State.putChan_kept, State.resolveOlder_kept, State.checkGroup_kept, State.runParser_kept, State.kept, State.base]

theorem State.pliash_kept (s : State) : (State.pliash s).kept = s.kept := by
  unfold State.pliash; grind [State.inc_kept, State.raise_kept, State.raiseOnce_kept, State.withChan_kept, State.dataPacket_kept, State.parityPacket_kept, State.kept, State.base]

theorem State.parityWait_kept (s : State) (grp chan k : Nat) : (State.parityWait s grp chan k).kept = s.kept := by
  unfold State.parityWait; grind [State.resolveGroup_kept, State.kept, State.base]

theorem State.keyMessage_kept (s : State) : (State.keyMessage s).kept = s.kept := by
  unfold State.keyMessage; grind [State.inc_kept, State.raise_kept, State.wr_kept, State.kept, State.base]

end Sys2Proof.Machine
end

