-- ==== Sys2Proof/Laws/KeptScene.lean ====
section
/-! SUPPORT. What the operations of Machine/Scene.lean keep: one lemma for each, `_kept` where it keeps the whole kept part, `_base` where it keeps the
base only. -/

namespace Sys2Proof.Machine

theorem State.modSlot_kept (s : State) (k : Nat) (f : SceneSlot → SceneSlot) : (State.modSlot s k f).kept = s.kept := by
  unfold State.modSlot; grind [State.kept, State.base]

theorem State.sceneUnit_kept (s : State) : (State.sceneUnit s).kept = s.kept := by
  unfold State.sceneUnit; grind [State.unitDiscard_kept, State.unitDone_kept, State.raise_kept, State.each_kept, State.withChan_kept, State.modSlot_kept, State.kept, State.base]

theorem State.mapUnit_kept (s : State) : (State.mapUnit s).kept = s.kept := by
  unfold State.mapUnit; grind [State.unitDiscard_kept, State.unitDone_kept, State.modSlot_kept, State.kept, State.base]

theorem State.lateModes_kept (s : State) (b : List Byte) (p : Nat) : (State.lateModes s b p).kept = s.kept := by
  unfold State.lateModes; grind [State.each_kept, State.raise_kept, State.kept, State.base]

theorem State.listDiscard_kept (s : State) (k cause p : Nat) : (State.listDiscard s k cause p).kept = s.kept := by
  unfold State.listDiscard; grind [State.inc_kept, State.raise_kept, State.kept, State.base]

theorem State.checkedList_kept (s : State) (k p crc : Nat) (r : Nat ⊕ (List Cmd × List Nat)) : (State.checkedList s k p crc r).kept = s.kept := by
  unfold State.checkedList; grind [State.inc_kept, State.raise_kept, State.each_kept, State.modSlot_kept, State.kept, State.base]

theorem State.cmdlistUnit_kept (s : State) : (State.cmdlistUnit s).kept = s.kept := by
  unfold State.cmdlistUnit; dsimp only; (repeat' split) <;> (try simp only [State.unitDiscard_kept, State.unitDone_kept, State.listDiscard_kept, State.lateModes_kept, State.checkedList_kept]) <;> rfl

end Sys2Proof.Machine
end

