-- ==== Sys2Proof/Laws/KeptDecoder.lean ====
section
/-! SUPPORT. What the operations of Machine/Decoder.lean keep: one lemma for each, `_kept` where it keeps the whole kept part, `_base` where it keeps the
base only. -/

namespace Sys2Proof.Machine

theorem State.decEvent_kept (s : State) (core code key arg0 arg1 : Nat) : (State.decEvent s core code key arg0 arg1).kept = s.kept := by
  unfold State.decEvent; grind [State.raiseOnceI_kept, State.kept, State.base]

theorem State.stale_kept (s : State) (tag oldest : Nat) : (State.stale s tag oldest).kept = s.kept := by
  unfold State.stale; grind [State.inc_kept, State.raise_kept, State.kept, State.base]

theorem State.chunkUnit_kept (s : State) : (State.chunkUnit s).kept = s.kept := by
  unfold State.chunkUnit; dsimp only; (repeat' split) <;> (try simp only [State.unitDiscard_kept, State.inc_kept, State.raiseOnce_kept, State.packetsDone_kept, State.putChan_kept]) <;> rfl

theorem State.loseChunk_kept (s : State) (c : Chunk) : (State.loseChunk s c).kept = s.kept := by
  unfold State.loseChunk; grind [State.unitDone_kept, State.kept, State.base]

theorem State.skipChunk_kept (s : State) (c : Chunk) : (State.skipChunk s c).kept = s.kept := by
  unfold State.skipChunk; grind [State.loseChunk_kept, State.inc_kept, State.kept, State.base]

theorem State.renumberQueue_kept (s : State) : (State.renumberQueue s).kept = s.kept := by
  unfold State.renumberQueue; grind [State.kept, State.base]

theorem State.loadCtx_kept (s : State) (n : Nat) : (State.loadCtx s n).kept = s.kept := by
  unfold State.loadCtx; grind [State.inc_kept, State.kept, State.base]

theorem State.noMooring_kept (s : State) (core : Nat) (c : Chunk) : (State.noMooring s core c).kept = s.kept := by
  unfold State.noMooring; grind [State.inc_kept, State.decEvent_kept, State.loseChunk_kept, State.kept, State.base]

theorem State.startChunk_kept (s : State) (core : Nat) (c : Chunk) (body : List Byte) (rap : Bool) : (State.startChunk s core c body rap).kept = s.kept := by
  unfold State.startChunk; grind [State.alloc_kept, State.noMooring_kept, State.freeMoor_kept, State.loadCtx_kept, State.kept, State.base]

theorem State.planeEvents_kept (s : State) (core key arg0 : Nat) (out : HevcOut) (conc was : Bool) : (State.planeEvents s core key arg0 out conc was).kept = s.kept := by
  unfold State.planeEvents; grind [State.each_kept, State.inc_kept, State.decEvent_kept, State.recoveryOf_kept, State.noteFault_kept, State.kept, State.base]

theorem State.decodePlane_kept (s : State) (c : Chunk) (wait : Bool) (body : List Byte) (i : Nat) (cp : CtxPlane) : (State.decodePlane s c wait body i cp).1.kept = s.kept := by
  unfold State.decodePlane; grind [State.planeEvents_kept, State.decEvent_kept, State.kept, State.base]

theorem State.decodePlanes_kept (s : State) (c : Chunk) (wait : Bool) (body : List Byte) (x : DecCtx) (x0 : List Nat) : (State.decodePlanes s c wait body x x0).1.kept = s.kept := by
  induction x0 generalizing s with
  | nil => rfl
  | cons e l ih =>
    unfold State.decodePlanes
    split
    · exact (ih _).trans (State.decodePlane_kept ..)
    · exact ih _

theorem State.retireTile_kept (s : State) (c : Chunk) : (State.retireTile s c).kept = s.kept := by
  unfold State.retireTile; grind [State.each_kept, State.kept, State.base]

theorem State.showDecLoad_kept (s : State) (p : Nat) : (State.showDecLoad s p).kept = s.kept := by
  unfold State.showDecLoad; grind [State.wr_kept, State.peak_kept, State.kept, State.base]

theorem State.coreEnd_kept (s : State) (core : Nat) (j : CoreJob) : (State.coreEnd s core j).kept = s.kept := by
  unfold State.coreEnd; grind [State.showDecLoad_kept, State.kept, State.base]

theorem State.writeTile_kept (s : State) (j : CoreJob) (planes : List CtxPlane) : (State.writeTile s j planes).kept = s.kept := by
  unfold State.writeTile; grind [State.retireTile_kept, State.kept, State.base]

theorem State.cscDefault_kept (s : State) (c : Chunk) (x : DecCtx) (planes : List CtxPlane) : (State.cscDefault s c x planes).1.kept = s.kept := by
  unfold State.cscDefault; grind [State.decEvent_kept, State.kept, State.base]

theorem State.initCtx_kept (s : State) (n : Nat) : (State.initCtx s n).kept = s.kept := by
  unfold State.initCtx; grind [State.freeMoor_kept, State.kept, State.base]

theorem State.bargeDec_kept (s : State) (i : Nat) : (State.bargeDec s i).kept = s.kept := by
  unfold State.bargeDec; grind [State.each_kept, State.stale_kept, State.loseChunk_kept, State.kept, State.base]

end Sys2Proof.Machine
end

