-- ==== Sys2Proof/Laws/KeptCompose.lean ====
section
/-! SUPPORT. What the operations of Machine/Compose.lean keep: one lemma for each, `_kept` where it keeps the whole kept part, `_base` where it keeps the
base only. -/

namespace Sys2Proof.Machine

theorem State.markReady_kept (s : State) (p : Nat) : (State.markReady s p).kept = s.kept := by
  unfold State.markReady; grind [State.kept, State.base]

theorem State.layerFault_kept (s : State) (p : Nat) (ready : Option Nat) : (State.layerFault s p ready).kept = s.kept := by
  unfold State.layerFault; grind [State.recover_kept, State.noteFault_kept, State.recoveryOf_kept, State.kept, State.base]

theorem State.resolveOne_kept (s : State) (cs : CSet) (p : Nat) (e : PlanEnt) : (State.resolveOne s cs p e).1.kept = s.kept := by
  unfold State.resolveOne; grind [State.raise_kept, State.raiseOnce_kept, State.layerFault_kept, State.inc_kept, State.kept, State.base]

theorem State.takeEyes_kept (s : State) (cs : CSet) (p : Nat) : (State.takeEyes s cs p).1.kept = s.kept := by
  unfold State.takeEyes; grind [State.raise_kept, State.kept, State.base]

theorem State.enterBuf_kept (s : State) (cls : Nat) (l : List Buf) (i p : Nat) : (State.enterBuf s cls l i p).1.kept = s.kept := by
  unfold State.enterBuf; grind [State.kept, State.base]

theorem State.noteFrame_kept (s : State) (r : FrameRes) : (State.noteFrame s r).kept = s.kept := by
  unfold State.noteFrame; grind [State.kept, State.base]

theorem State.geomErrors_kept (s : State) (p : Nat) (l : StackLayer) : (State.geomErrors s p l).kept = s.kept := by
  unfold State.geomErrors; grind [State.inc_kept, State.raiseOnce_kept, State.kept, State.base]

theorem State.resolveList_kept (s : State) (cs : CSet) (p : Nat) (x0 : List PlanEnt) : (State.resolveList s cs p x0).1.kept = s.kept := by
  induction x0 generalizing s with
  | nil => rfl
  | cons e l ih => exact (ih _).trans (State.resolveOne_kept ..)

theorem State.resolveAll_kept (s : State) (cs : CSet) (p : Nat) : (State.resolveAll s cs p).1.kept = s.kept := by
  unfold State.resolveAll; grind [State.resolveList_kept, State.kept, State.base]

theorem State.turnCards_kept (s : State) (p : Nat) : (State.turnCards s p).kept = s.kept := by
  unfold State.turnCards; grind [State.each_kept, State.kept, State.base]

theorem State.setCompose_kept (s : State) (c : Option Compose) : (State.setCompose s c).kept = s.kept := by
  unfold State.setCompose; grind [State.kept, State.base]

theorem State.blockIssue_kept (s : State) : (State.blockIssue s).kept = s.kept := by
  unfold State.blockIssue; grind [State.inc_kept, State.setCompose_kept, State.kept, State.base]

theorem State.showLoad_kept (s : State) (load : Nat) (late : Bool) : (State.showLoad s load late).kept = s.kept := by
  unfold State.showLoad; grind [State.wr_kept, State.peak_kept, State.kept, State.base]

theorem State.setRes_kept (s : State) (p : Nat) (f : FrameRes → FrameRes) : (State.setRes s p f).kept = s.kept := by
  unfold State.setRes; grind [State.kept, State.base]

theorem State.dropOldBufs_kept (s : State) (atOpen : Bool) : (State.dropOldBufs s atOpen).kept = s.kept := by
  unfold State.dropOldBufs; grind [State.each_kept, State.freeMoor_kept, State.kept, State.base]

theorem State.discardFrame_kept (s : State) (c : Compose) : (State.discardFrame s c).kept = s.kept := by
  unfold State.discardFrame; grind [State.dropOldBufs_kept, State.kept, State.base]

theorem State.judgeGuard_kept (s : State) (c : Compose) (q : Guard) : (State.judgeGuard s c q).1.kept = s.kept := by
  unfold State.judgeGuard; grind [State.wr_kept, State.inc_kept, State.raise_kept, State.alert_kept, State.kept, State.base]

theorem State.judgeAll_kept (s : State) (c : Compose) (x0 : List Guard) : (State.judgeAll s c x0).1.kept = s.kept := by
  induction x0 generalizing s with
  | nil => rfl
  | cons e l ih => exact (ih _).trans (State.judgeGuard_kept ..)

theorem State.frameComplete_kept (s : State) (c : Compose) : (State.frameComplete s c).kept = s.kept := by
  unfold State.frameComplete; grind [State.setCompose_kept, State.showLoad_kept, State.setRes_kept, State.wr_kept, State.judgeAll_kept, State.discardFrame_kept, State.kept, State.base]

theorem State.blockDone_kept (s : State) (k : Nat) (mismatch : Bool) : (State.blockDone s k mismatch).kept = s.kept := by
  unfold State.blockDone; grind [State.setCompose_kept, State.add_kept, State.when_kept, State.inc_kept, State.raiseOnceI_kept, State.frameComplete_kept, State.kept, State.base]

theorem State.loseBlocks_kept (s : State) (clusters : List Nat) : (State.loseBlocks s clusters).kept = s.kept := by
  unfold State.loseBlocks; grind [State.setCompose_kept, State.kept, State.base]

theorem State.frameLate_kept (s : State) : (State.frameLate s).kept = s.kept := by
  unfold State.frameLate; grind [State.setCompose_kept, State.each_kept, State.pushBarge_kept, State.discardFrame_kept, State.raise_kept, State.noteFault_kept, State.inc_kept, State.showLoad_kept, State.setRes_kept, State.kept, State.base]

theorem State.estimate_kept (s : State) : (State.estimate s).kept = s.kept := by
  unfold State.estimate; grind [State.wr_kept, State.kept, State.base]

theorem State.ladderStep_kept (s : State) (rung gov : Nat) : (State.ladderStep s rung gov).kept = s.kept := by
  unfold State.ladderStep; grind [State.raise_kept, State.kept, State.base]

theorem State.ladder_kept (s : State) (p : Nat) : (State.ladder s p).kept = s.kept := by
  unfold State.ladder; grind [State.ladderStep_kept, State.kept, State.base]

theorem State.newBufs_kept (s : State) (cls n rsv gen : Nat) (g : Geom) (x0 : Nat) : (State.newBufs s cls n rsv gen g x0).1.kept = s.kept := by
  induction x0 generalizing s with
  | zero => rfl
  | succ k ih =>
    unfold State.newBufs
    split
    · exact (ih _).trans ((State.noteFree_kept _).trans rfl)
    · exact (ih _).trans (State.allocFail_kept ..)

theorem State.reserveBufs_kept (s : State) (c : CSet) (frames taps : Bool) : (State.reserveBufs s c frames taps).kept = s.kept := by
  unfold State.reserveBufs; grind [State.newBufs_kept, State.dropOldBufs_kept, State.kept, State.base]

theorem State.bargeAt_kept (s : State) (block inst banks : Nat) : (State.bargeAt s block inst banks).kept = s.kept := by
  unfold State.bargeAt; dsimp only; (repeat' split) <;> first | rfl | exact State.modUnit_kept .. | exact (State.stale_kept ..).trans (State.modUnit_kept ..)

end Sys2Proof.Machine
end

