-- ==== Sys2Proof/Laws/KeptTug.lean ====
section
/-! SUPPORT. What the operations of Machine/Tug.lean keep: one lemma for each, `_kept` where it keeps the whole kept part, `_base` where it keeps the
base only. -/

namespace Sys2Proof.Machine

theorem State.tugEnd_kept (s : State) (j : TugJob) (status : Nat) : (State.tugEnd s j status).kept = s.kept := by
  unfold State.tugEnd; grind [State.wr_kept, State.inc_kept, State.kept, State.base]

theorem State.tugPush_kept (s : State) (j : TugJob) : (State.tugPush s j).kept = s.kept := by
  unfold State.tugPush; grind [State.each_kept, State.tugEnd_kept, State.kept, State.base]

theorem State.takeSurfs_kept (s : State) (c : CardInst) (n : Nat) : (State.takeSurfs s c n).1.kept = s.kept := by
  unfold State.takeSurfs
  split
  · exact (State.noteFree_kept _).trans rfl
  · exact State.allocFail_kept ..

theorem State.allocCard_kept (s : State) (c : CardInst) : (State.allocCard s c).1.kept = s.kept := by
  exact State.takeSurfs_kept ..

theorem State.fillCard_kept (s : State) (c : CardInst) (p : Nat) : (State.fillCard s c p).kept = s.kept := by
  unfold State.fillCard; grind [State.tugPush_kept, State.kept, State.base]

theorem State.withCard_kept (s : State) (c : CardInst) : (State.withCard s c).kept = s.kept := by
  rfl

theorem State.addCard_kept (s : State) (c : CardInst) : (State.addCard s c).kept = s.kept := by
  exact (State.withCard_kept ..).trans (State.allocCard_kept ..)

theorem State.retryCards_kept (s : State) : (State.retryCards s).kept = s.kept := by
  unfold State.retryCards; grind [State.each_kept, State.addCard_kept, State.kept, State.base]

theorem State.beginCard_kept (s : State) (c : CardInst) (p : Nat) : (State.beginCard s c p).kept = s.kept := by
  unfold State.beginCard; grind [State.fillCard_kept, State.kept, State.base]

theorem State.pushUpdate_kept (s : State) (tag : Nat) (again : Bool) (u : Nat × Nat × Region) : (State.pushUpdate s tag again u).kept = s.kept := by
  unfold State.pushUpdate; grind [State.tugPush_kept, State.kept, State.base]

theorem State.tugQueue_kept (s : State) (p : Nat) : (State.tugQueue s p).kept = s.kept := by
  unfold State.tugQueue; grind [State.each_kept, State.addCard_kept, State.beginCard_kept, State.pushUpdate_kept, State.kept, State.base]

theorem State.tugOpen_kept (s : State) (p : Nat) : (State.tugOpen s p).kept = s.kept := by
  unfold State.tugOpen; grind [State.tugQueue_kept, State.kept, State.base]

theorem State.tugStart_kept (s : State) : (State.tugStart s).kept = s.kept := by
  unfold State.tugStart; grind [State.kept, State.base]

theorem State.tugDone_kept (s : State) (n : Nat) (abort : Option Nat) : (State.tugDone s n abort).kept = s.kept := by
  unfold State.tugDone; (repeat' split) <;> grind [State.tugEnd_kept, State.chooseNat_kept, State.add_kept, State.raise_kept, State.raiseOnce_kept, State.kept, State.base]

theorem State.tugLate_kept (s : State) (p : Nat) : (State.tugLate s p).kept = s.kept := by
  unfold State.tugLate; grind [State.each_kept, State.inc_kept, State.raiseOnce_kept, State.kept, State.base]

theorem State.endCard_kept (s : State) (slot layer u : Nat) : (State.endCard s slot layer u).kept = s.kept := by
  unfold State.endCard; grind [State.each_kept, State.tugEnd_kept, State.kept, State.base]

end Sys2Proof.Machine
end

