-- ==== Sys2Proof/Laws/KeptLanes.lean ====
section
/-! SUPPORT. What the operations of Machine/Lanes.lean keep: one lemma for each, `_kept` where it keeps the whole kept part, `_base` where it keeps the
base only. -/

namespace Sys2Proof.Machine

theorem State.applyReq_kept (s : State) (presets : Bool) (r : List Byte) : (State.applyReq s presets r).kept = s.kept := by
  unfold State.applyReq; grind [State.wr_kept, State.modLane_kept, State.kept, State.base]

theorem State.laneDone_kept (s : State) (n : Nat) : (State.laneDone s n).kept = s.kept := by
  unfold State.laneDone; grind [State.wr_kept, State.kept, State.base]

theorem State.request_kept (s : State) (train : Bool) (cs : Nat) (r : List Byte) : (State.request s train cs r).1.kept = s.kept := by
  unfold State.request; grind [State.raiseI_kept, State.wr_kept, State.laneDone_kept, State.applyReq_kept, State.modLane_kept, State.kept, State.base]

theorem State.seedTaps_kept (s : State) (n : Nat) : (State.seedTaps s n).kept = s.kept := by
  unfold State.seedTaps; grind [State.wr_kept, State.modLane_kept, State.kept, State.base]

theorem State.bcApply_kept (s : State) : (State.bcApply s).kept = s.kept := by
  unfold State.bcApply; grind [State.each_kept, State.seedTaps_kept, State.applyReq_kept, State.kept, State.base]

theorem State.openTaps_kept (s : State) : (State.openTaps s).kept = s.kept := by
  unfold State.openTaps; grind [State.each_kept, State.wr_kept, State.kept, State.base]

theorem State.scanStop_kept (s : State) : (State.scanStop s).kept = s.kept := by
  unfold State.scanStop; grind [State.wr_kept, State.kept, State.base]

theorem State.chkClear_kept (s : State) (n k : Nat) : (State.chkClear s n k).kept = s.kept := by
  unfold State.chkClear; grind [State.wr_kept, State.modLane_kept, State.kept, State.base]

theorem State.monCfg_kept (s : State) (v : Nat) (laneWritten : Bool) : (State.monCfg s v laneWritten).kept = s.kept := by
  unfold State.monCfg; grind [State.scanStop_kept, State.chkClear_kept, State.wr_kept, State.rxStart_kept, State.setLock_kept, State.modLane_kept, State.kept, State.base]

theorem State.monScan_kept (s : State) : (State.monScan s).kept = s.kept := by
  unfold State.monScan; grind [State.wr_kept, State.kept, State.base]

theorem State.monScanDone_kept (s : State) (eyes : List Eyes) : (State.monScanDone s eyes).kept = s.kept := by
  unfold State.monScanDone; grind [State.each_kept, State.wr_kept, State.raiseLane_kept, State.kept, State.base]

theorem State.txMark_kept (s : State) (k : Nat) : (State.txMark s k).kept = s.kept := by
  unfold State.txMark; grind [State.kept, State.base]

end Sys2Proof.Machine
end

