-- ==== Sys2Proof/Laws/KeptPanel.lean ====
section
/-! SUPPORT. What the operations of Machine/Panel.lean keep: one lemma for each, `_kept` where it keeps the whole kept part, `_base` where it keeps the
base only. -/

namespace Sys2Proof.Machine

theorem State.panelStart_kept (s : State) : (State.panelStart s).kept = s.kept := by
  unfold State.panelStart; grind [State.wr_kept, State.kept, State.base]

theorem State.panelTry_kept (s : State) : (State.panelTry s).kept = s.kept := by
  unfold State.panelTry; grind [State.panelStart_kept, State.kept, State.base]

theorem State.panelBoot_kept (s : State) : (State.panelBoot s).kept = s.kept := by
  unfold State.panelBoot; grind [State.panelStart_kept, State.kept, State.base]

theorem State.laneStates_kept (s : State) (v : Nat) : (State.laneStates s v).kept = s.kept := by
  unfold State.laneStates; grind [State.each_kept, State.wr_kept, State.kept, State.base]

theorem State.panelOff_kept (s : State) : (State.panelOff s).kept = s.kept := by
  unfold State.panelOff; grind [State.txMark_kept, State.laneStates_kept, State.kept, State.base]

theorem State.panelDown_kept (s : State) (cause : Nat) : (State.panelDown s cause).kept = s.kept := by
  unfold State.panelDown; grind [State.panelOff_kept, State.wr_kept, State.kept, State.base]

theorem State.trainTaps_kept (s : State) : (State.trainTaps s).kept = s.kept := by
  unfold State.trainTaps; grind [State.each_kept, State.wr_kept, State.modLane_kept, State.kept, State.base]

theorem State.panelTrain_kept (s : State) : (State.panelTrain s).kept = s.kept := by
  unfold State.panelTrain; grind [State.txMark_kept, State.wr_kept, State.trainTaps_kept, State.laneStates_kept, State.kept, State.base]

theorem State.panelUp_kept (s : State) : (State.panelUp s).kept = s.kept := by
  unfold State.panelUp; grind [State.txMark_kept, State.wr_kept, State.laneStates_kept, State.raise_kept, State.kept, State.base]

theorem State.trainCheck_kept (s : State) : (State.trainCheck s).kept = s.kept := by
  unfold State.trainCheck; grind [State.panelUp_kept, State.kept, State.base]

theorem State.trainTimeout_kept (s : State) : (State.trainTimeout s).kept = s.kept := by
  unfold State.trainTimeout; grind [State.raise_kept, State.panelUp_kept, State.kept, State.base]

theorem State.panelStep_kept (s : State) : (State.panelStep s).kept = s.kept := by
  unfold State.panelStep; grind [State.panelTrain_kept, State.wr_kept, State.kept, State.base]

theorem State.dischargeEnd_kept (s : State) : (State.dischargeEnd s).kept = s.kept := by
  unfold State.dischargeEnd; grind [State.wr_kept, State.raise_kept, State.panelTry_kept, State.kept, State.base]

theorem State.fastReport_kept (s : State) : (State.fastReport s).kept = s.kept := by
  unfold State.fastReport; grind [State.raise_kept, State.kept, State.base]

theorem State.panelFast_kept (s : State) (trigger : Nat) : (State.panelFast s trigger).kept = s.kept := by
  unfold State.panelFast; grind [State.panelOff_kept, State.wr_kept, State.kept, State.base]

theorem State.vinTrip_kept (s : State) : (State.vinTrip s).kept = s.kept := by
  unfold State.vinTrip; grind [State.panelFast_kept, State.wr_kept, State.kept, State.base]

theorem State.panelRetry_kept (s : State) : (State.panelRetry s).kept = s.kept := by
  unfold State.panelRetry; grind [State.panelTry_kept, State.kept, State.base]

theorem State.vrefOut_kept (s : State) (k : Nat) : (State.vrefOut s k).kept = s.kept := by
  unfold State.vrefOut; grind [State.wr_kept, State.kept, State.base]

theorem State.frameStart_kept (s : State) (at_ period : Nat) (owns : Bool) : (State.frameStart s at_ period owns).kept = s.kept := by
  unfold State.frameStart; grind [State.wr_kept, State.raise_kept, State.vrefOut_kept, State.kept, State.base]

theorem State.vrefPoint_kept (s : State) (k : Nat) : (State.vrefPoint s k).kept = s.kept := by
  unfold State.vrefPoint; grind [State.frameStart_kept, State.vrefOut_kept, State.kept, State.base]

theorem State.sbFail_kept (s : State) (cs addr : Nat) : (State.sbFail s cs addr).kept = s.kept := by
  unfold State.sbFail; grind [State.inc_kept, State.raiseOnce_kept, State.kept, State.base]

theorem State.sbOk_kept (s : State) : (State.sbOk s).kept = s.kept := by
  unfold State.sbOk; grind [State.inc_kept, State.kept, State.base]

theorem State.sbAsk_kept (s : State) (cs addr len : Nat) : (State.sbAsk s cs addr len).kept = s.kept := by
  unfold State.sbAsk; grind [State.kept, State.base]

theorem State.panelStatus_kept (s : State) (round : Bool) (status : List Byte) : (State.panelStatus s round status).kept = s.kept := by
  unfold State.panelStatus; grind [State.sbAsk_kept, State.sbOk_kept, State.wr_kept, State.raise_kept, State.sbFail_kept, State.kept, State.base]

theorem State.roundStatus_kept (s : State) (status : List Byte) : (State.roundStatus s status).kept = s.kept := by
  unfold State.roundStatus; grind [State.panelStatus_kept, State.kept, State.base]

theorem State.pgoodAssert_kept (s : State) (ident status : List Byte) : (State.pgoodAssert s ident status).kept = s.kept := by
  unfold State.pgoodAssert; grind [State.wr_kept, State.sbAsk_kept, State.sbOk_kept, State.sbFail_kept, State.panelStatus_kept, State.kept, State.base]

theorem State.pgoodTimeout_kept (s : State) : (State.pgoodTimeout s).kept = s.kept := by
  unfold State.pgoodTimeout; grind [State.raise_kept, State.panelDown_kept, State.kept, State.base]

theorem State.pgoodLost_kept (s : State) : (State.pgoodLost s).kept = s.kept := by
  unfold State.pgoodLost; grind [State.wr_kept, State.raise_kept, State.panelDown_kept, State.kept, State.base]

theorem State.vrefSense_kept (s : State) (code : Int) : (State.vrefSense s code).kept = s.kept := by
  unfold State.vrefSense; grind [State.raise_kept, State.alert_kept, State.kept, State.base]

theorem State.vholdSense_kept (s : State) (mv : Nat) : (State.vholdSense s mv).kept = s.kept := by
  unfold State.vholdSense; grind [State.wr_kept, State.raise_kept, State.kept, State.base]

theorem State.vinSense_kept (s : State) (mv : Nat) : (State.vinSense s mv).kept = s.kept := by
  unfold State.vinSense; grind [State.wr_kept, State.kept, State.base]

theorem State.crackSample_kept (s : State) (level : Bool) : (State.crackSample s level).kept = s.kept := by
  unfold State.crackSample; grind [State.kept, State.base]

theorem State.crackLatch_kept (s : State) : (State.crackLatch s).kept = s.kept := by
  unfold State.crackLatch; grind [State.wr_kept, State.raise_kept, State.alert_kept, State.panelDown_kept, State.panelFast_kept, State.kept, State.base]

theorem State.crackClear_kept (s : State) (v : Nat) : (State.crackClear s v).kept = s.kept := by
  unfold State.crackClear; grind [State.panelTry_kept, State.wr_kept, State.kept, State.base]

theorem State.requests_kept (s : State) (train : Bool) (cs : Nat) (x0 : List (List Byte)) : (State.requests s train cs x0).1.kept = s.kept := by
  induction x0 generalizing s with
  | nil => rfl
  | cons e l ih => exact (ih _).trans (State.request_kept ..)

theorem State.blinkSlot_kept (s : State) (cs : CSet) : (State.blinkSlot s cs).2.kept = s.kept := by
  unfold State.blinkSlot; grind [State.kept, State.base]

theorem State.panelOpen_kept (s : State) : (State.panelOpen s).kept = s.kept := by
  unfold State.panelOpen; grind [State.panelDown_kept, State.panelTry_kept, State.kept, State.base]

theorem State.panelReset_kept (s : State) : (State.panelReset s).kept = s.kept := by
  unfold State.panelReset; grind [State.panelDown_kept, State.wr_kept, State.kept, State.base]

end Sys2Proof.Machine
end

