-- ==== Sys2Proof/Laws/KeptLz.lean ====
section
/-! SUPPORT. What the operations of Machine/Lz.lean keep: one lemma for each, `_kept` where it keeps the whole kept part, `_base` where it keeps the
base only. -/

namespace Sys2Proof.Machine

theorem State.allocs_kept (s : State) (cls n : Nat) : (State.allocs s cls n).2.kept = s.kept := by
  unfold State.allocs; split
  · exact (State.noteFree_kept _).trans rfl
  · exact State.allocFail_kept ..

theorem State.lzQueue_kept (s : State) (j : LzJob) (src : List Byte) (l : List Nat) : (State.lzQueue s j src l).kept = s.kept := by
  unfold State.lzQueue; simp only [State.kept, State.base]

theorem State.lzSubmit_kept (s : State) (j : LzJob) (src : List Byte) : (State.lzSubmit s j src).2.kept = s.kept := by
  unfold State.lzSubmit
  split
  · rfl
  · have h := State.allocs_kept s (lzClass j.queue) (ceilDiv src.length moorSize + ceilDiv j.space moorSize)
    split <;> rename_i e <;> rw [e] at h
    · exact h
    · exact (State.lzQueue_kept ..).trans h

theorem State.lzFree_kept (s : State) (j : LzJob) : (State.lzFree s j).kept = s.kept := by
  unfold State.lzFree; grind [State.each_kept, State.freeMoor_kept, State.kept, State.base]

theorem State.lzEnd_kept (s : State) (j : LzJob) (status : Nat) : (State.lzEnd s j status).1.kept = s.kept := by
  unfold State.lzEnd; grind [State.wr_kept, State.inc_kept, State.lzFree_kept, State.kept, State.base]

theorem State.lzFreeScratch_kept (s : State) : (State.lzFreeScratch s).kept = s.kept := by
  unfold State.lzFreeScratch; grind [State.freeMoor_kept, State.kept, State.base]

theorem State.lzStart_kept (s : State) : (State.lzStart s).1.kept = s.kept := by
  unfold State.lzStart; grind [State.lzFreeScratch_kept, State.lzEnd_kept, State.kept, State.base]

theorem State.lzSave_kept (s : State) (q m : Nat) : (State.lzSave s q m).kept = s.kept := by
  unfold State.lzSave; grind [State.chooseNat_kept, State.kept, State.base]

theorem State.lzContinue_kept (s : State) (j : LzJob) : (State.lzContinue s j).1.kept = s.kept := by
  unfold State.lzContinue; grind [State.inc_kept, State.lzEnd_kept, State.lzSave_kept, State.alloc_kept, State.kept, State.base]

theorem State.lzCount_kept (s : State) (inn out : Nat) : (State.lzCount s inn out).kept = s.kept := by
  unfold State.lzCount; grind [State.add_kept, State.kept, State.base]

theorem State.lzPut_kept (s : State) (j : LzJob) (used : Nat) (d : List Byte) : (State.lzPut s j used d).1.kept = s.kept := by
  unfold State.lzPut; grind [State.kept, State.base]

theorem State.lzEncodeBlock_kept (s : State) (j : LzJob) (verifyBad : Bool) : (State.lzEncodeBlock s j verifyBad).1.kept = s.kept := by
  unfold State.lzEncodeBlock; grind [State.raise_kept, State.lzEnd_kept, State.inc_kept, State.lzCount_kept, State.lzPut_kept, State.lzContinue_kept, State.kept, State.base]

theorem State.lzDecodeBlock_kept (s : State) (j : LzJob) : (State.lzDecodeBlock s j).1.kept = s.kept := by
  unfold State.lzDecodeBlock; grind [State.lzEnd_kept, State.raise_kept, State.lzPut_kept, State.lzContinue_kept, State.kept, State.base]

theorem State.lzBlockDone_kept (s : State) (fault : Nat) : (State.lzBlockDone s fault).1.kept = s.kept := by
  unfold State.lzBlockDone; grind [State.raise_kept, State.lzEnd_kept, State.lzDecodeBlock_kept, State.lzEncodeBlock_kept, State.kept, State.base]

end Sys2Proof.Machine
end

