-- ==== Sys2Proof/Laws/KeptTransmit.lean ====
section
/-! SUPPORT. What the operations of Machine/Transmit.lean keep: one lemma for each, `_kept` where it keeps the whole kept part, `_base` where it keeps the
base only. -/

namespace Sys2Proof.Machine

theorem State.towMark_kept (s : State) (n : Nat) (x : TowSrc) (keep : Bool) : (State.towMark s n x keep).kept = s.kept := by
  unfold State.towMark; grind [State.kept, State.base]

theorem State.genStart_kept (s : State) (n : Nat) (c : GenRun) : (State.genStart s n c).kept = s.kept := by
  unfold State.genStart; grind [State.when_kept, State.towMark_kept, State.modLane_kept, State.rxStart_kept, State.kept, State.base]

theorem State.genUpdate_kept (s : State) (n : Nat) : (State.genUpdate s n).kept = s.kept := by
  unfold State.genUpdate; grind [State.when_kept, State.towMark_kept, State.modLane_kept, State.rxStart_kept, State.showLane_kept, State.genStart_kept, State.kept, State.base]

theorem State.gensFollow_kept (s : State) : (State.gensFollow s).kept = s.kept := by
  unfold State.gensFollow; grind [State.each_kept, State.genUpdate_kept, State.kept, State.base]

theorem State.inject_kept (s : State) (n v : Nat) : (State.inject s n v).kept = s.kept := by
  unfold State.inject; grind [State.raiseLane_kept, State.txMark_kept, State.modLane_kept, State.when_kept, State.towMark_kept, State.kept, State.base]

theorem State.showGens_kept (s : State) : (State.showGens s).kept = s.kept := by
  unfold State.showGens; grind [State.each_kept, State.wr_kept, State.kept, State.base]

theorem State.unframedIdle_kept (s : State) : (State.unframedIdle s).kept = s.kept := by
  unfold State.unframedIdle; grind [State.showGens_kept, State.kept, State.base]

theorem State.chkTake_kept (s : State) (n k pat v : Nat) : (State.chkTake s n k pat v).kept = s.kept := by
  unfold State.chkTake; grind [State.modLane_kept, State.addErrors_kept, State.chkClear_kept, State.raiseLane_kept, State.wr_kept, State.kept, State.base]

theorem State.prbsTake_kept (s : State) (n : Nat) (blocks : List Nat) (bits : List Bool) (syms : List Nat) : (State.prbsTake s n blocks bits syms).kept = s.kept := by
  unfold State.prbsTake; grind [State.each_kept, State.chkTake_kept, State.kept, State.base]

theorem State.checksFollow_kept (s : State) (old : CSet) : (State.checksFollow s old).kept = s.kept := by
  unfold State.checksFollow; grind [State.each_kept, State.chkClear_kept, State.kept, State.base]

theorem State.towCfg_kept (s : State) (old : CSet) : (State.towCfg s old).kept = s.kept := by
  unfold State.towCfg; grind [State.each_kept, State.towMark_kept, State.kept, State.base]

end Sys2Proof.Machine
end

