-- ==== Sys2Proof/Laws/KeptScan.lean ====
section
/-! SUPPORT. What the operations of Machine/Scan.lean keep: one lemma for each, `_kept` where it keeps the whole kept part, `_base` where it keeps the
base only. -/

namespace Sys2Proof.Machine

theorem State.moveBufs_kept (s : State) (p : Nat) (k : Kind) : (State.moveBufs s p k).kept = s.kept := by
  unfold State.moveBufs; grind [State.dropOldBufs_kept, State.kept, State.base]

theorem State.setFlip_kept (s : State) (x : Nat) : (State.setFlip s x).kept = s.kept := by
  unfold State.setFlip; grind [State.wr_kept, State.kept, State.base]

theorem State.countSlot_kept (s : State) (sent : Kind) (shown point : Nat) : (State.countSlot s sent shown point).kept = s.kept := by
  unfold State.countSlot; grind [State.setFlip_kept, State.wr_kept, State.kept, State.base]

theorem State.fixFcnt_kept (s : State) : (State.fixFcnt s).kept = s.kept := by
  unfold State.fixFcnt; grind [State.raise_kept, State.kept, State.base]

theorem State.dropExits_kept (s : State) (p : Nat) : (State.dropExits s p).kept = s.kept := by
  unfold State.dropExits; grind [State.kept, State.base]

theorem State.holdExitSlot_kept (s : State) (p : Nat) (k : Kind) : (State.holdExitSlot s p k).1.kept = s.kept := by
  unfold State.holdExitSlot; grind [State.dropExits_kept, State.wr_kept, State.raise_kept, State.inc_kept, State.kept, State.base]

theorem State.ownAssert_kept (s : State) : (State.ownAssert s).kept = s.kept := by
  unfold State.ownAssert; grind [State.wr_kept, State.kept, State.base]

theorem State.launchArm_kept (s : State) : (State.launchArm s).kept = s.kept := by
  unfold State.launchArm; grind [State.raise_kept, State.wr_kept, State.ownAssert_kept, State.kept, State.base]

theorem State.slotFrame_kept (s : State) (p : Nat) : (State.slotFrame s p).kept = s.kept := by
  unfold State.slotFrame; grind [State.frameStart_kept, State.kept, State.base]

theorem State.ownYield_kept (s : State) : (State.ownYield s).kept = s.kept := by
  unfold State.ownYield; grind [State.txMark_kept, State.raise_kept, State.showGens_kept, State.wr_kept, State.kept, State.base]

theorem State.frameEndCode_kept (s : State) : (State.frameEndCode s).kept = s.kept := by
  unfold State.frameEndCode; grind [State.kept, State.base]

theorem State.markAborted_kept (s : State) : (State.markAborted s).kept = s.kept := by
  unfold State.markAborted; grind [State.wr_kept, State.kept, State.base]

theorem State.abortFrame_kept (s : State) (cause lane : Nat) : (State.abortFrame s cause lane).kept = s.kept := by
  unfold State.abortFrame; grind [State.markAborted_kept, State.inc_kept, State.raise_kept, State.noteFault_kept, State.kept, State.base]

theorem State.scanUnderrun_kept (s : State) (lane : Nat) : (State.scanUnderrun s lane).kept = s.kept := by
  unfold State.scanUnderrun; grind [State.abortFrame_kept, State.kept, State.base]

theorem State.quarterReset_kept (s : State) : (State.quarterReset s).kept = s.kept := by
  unfold State.quarterReset; (repeat' split) <;> grind [State.markAborted_kept, State.chooseNat_kept, State.abortFrame_kept, State.wr_kept, State.kept, State.base]

theorem State.scanUncorrectable_kept (s : State) (moor lane : Nat) : (State.scanUncorrectable s moor lane).kept = s.kept := by
  unfold State.scanUncorrectable; grind [State.abortFrame_kept, State.kept, State.base]

theorem State.checkDone_kept (s : State) (n : Nat) : (State.checkDone s n).kept = s.kept := by
  unfold State.checkDone; grind [State.wr_kept, State.inc_kept, State.raise_kept, State.alert_kept, State.kept, State.base]

end Sys2Proof.Machine
end

