-- ==== Sys2Proof/Laws/KeptPair.lean ====
section
/-! SUPPORT. What the operations of Machine/Pair.lean keep: one lemma for each, `_kept` where it keeps the whole kept part, `_base` where it keeps the
base only. -/

namespace Sys2Proof.Machine

theorem State.modPair_kept (s : State) (f : PairSt → PairSt) : (State.modPair s f).kept = s.kept := by
  unfold State.modPair; grind [State.kept, State.base]

theorem State.sendOn_kept (s : State) (n mtype : Nat) (data : List Byte) : (State.sendOn s n mtype data).kept = s.kept := by
  unfold State.sendOn; grind [State.towMark_kept, State.modPair_kept, State.kept, State.base]

theorem State.sendTow_kept (s : State) (mtype : Nat) (data : List Byte) : (State.sendTow s mtype data).kept = s.kept := by
  unfold State.sendTow; grind [State.sendOn_kept, State.kept, State.base]

theorem State.unfit_kept (s : State) (cause : Nat) : (State.unfit s cause).kept = s.kept := by
  unfold State.unfit; grind [State.modPair_kept, State.wr_kept, State.raise_kept, State.kept, State.base]

theorem State.fitCheck_kept (s : State) : (State.fitCheck s).kept = s.kept := by
  unfold State.fitCheck; grind [State.wr_kept, State.raise_kept, State.kept, State.base]

theorem State.laneUse_kept (s : State) (lost : Bool) : (State.laneUse s lost).kept = s.kept := by
  unfold State.laneUse; grind [State.wr_kept, State.raise_kept, State.modPair_kept, State.when_kept, State.unfit_kept, State.fitCheck_kept, State.kept, State.base]

theorem State.laneCheck_kept (s : State) : (State.laneCheck s).kept = s.kept := by
  unfold State.laneCheck; grind [State.laneUse_kept, State.kept, State.base]

theorem State.towLock_kept (s : State) (n : Nat) (locked : Bool) : (State.towLock s n locked).kept = s.kept := by
  unfold State.towLock; grind [State.laneUse_kept, State.modPair_kept, State.kept, State.base]

theorem State.decodeDelta_kept (s : State) (kind : Nat) (run : List DeltaFrag) : (State.decodeDelta s kind run).kept = s.kept := by
  unfold State.decodeDelta; grind [State.lzSubmit_kept, State.kept, State.base]

theorem State.deltaTryKind_kept (s : State) (kind : Nat) : (State.deltaTryKind s kind).kept = s.kept := by
  unfold State.deltaTryKind; grind [State.modPair_kept, State.each_kept, State.decodeDelta_kept, State.kept, State.base]

theorem State.deltaTry_kept (s : State) : (State.deltaTry s).kept = s.kept := by
  unfold State.deltaTry; grind [State.each_kept, State.deltaTryKind_kept, State.kept, State.base]

theorem State.receive_kept (s : State) (mtype : Nat) (m : TowMsg) : (State.receive s mtype m).2.kept = s.kept := by
  unfold State.receive; grind [State.inc_kept, State.modPair_kept, State.deltaTry_kept, State.kept, State.base]

theorem State.msgLost_kept (s : State) (q : Nat) : (State.msgLost s q).kept = s.kept := by
  unfold State.msgLost; grind [State.modPair_kept, State.deltaTry_kept, State.inc_kept, State.raiseOnce_kept, State.kept, State.base]

theorem State.repeatTake_kept (s : State) : (State.repeatTake s).kept = s.kept := by
  unfold State.repeatTake; grind [State.sendTow_kept, State.kept, State.base]

theorem State.sendDelta_kept (s : State) (kind pound : Nat) (body : List Byte) : (State.sendDelta s kind pound body).2.kept = s.kept := by
  unfold State.sendDelta; grind [State.lzSubmit_kept, State.kept, State.base]

theorem State.sendFragments_kept (s : State) (kind pound : Nat) (x0 : Nat) (x1 : Nat) (x2 : List Byte) : (State.sendFragments s kind pound x0 x1 x2).kept = s.kept := by
  induction x0 generalizing s x1 x2 with
  | zero => rfl
  | succ k ih =>
    unfold State.sendFragments
    dsimp only
    split
    · exact State.sendTow_kept ..
    · exact (ih _ _ _).trans (State.sendTow_kept ..)

theorem State.seeJoining_kept (s : State) (joining : Bool) : (State.seeJoining s joining).kept = s.kept := by
  unfold State.seeJoining; grind [State.modPair_kept, State.sendDelta_kept, State.kept, State.base]

theorem State.sendSurface_kept (s : State) (j : Nat) (x : Nat × Nat) : (State.sendSurface s j x).2.kept = s.kept := by
  unfold State.sendSurface; split
  · rfl
  · exact State.sendDelta_kept ..

theorem State.putSurfaces_kept (s : State) (j : Nat) (l : List (Nat × Nat)) : (State.putSurfaces s j l).kept = s.kept := by
  induction l generalizing s with
  | nil => exact State.modPair_kept ..
  | cons x r ih =>
    have h := State.sendSurface_kept s j x
    unfold State.putSurfaces
    split <;> rename_i e <;> rw [e] at h
    · exact (ih _).trans h
    · exact (State.modPair_kept ..).trans h

theorem State.moreSurfaces_kept (s : State) : (State.moreSurfaces s).kept = s.kept := by
  unfold State.moreSurfaces; (repeat' split) <;> first | exact State.modPair_kept .. | exact State.putSurfaces_kept .. | rfl

theorem State.sendSurfaces_kept (s : State) : (State.sendSurfaces s).kept = s.kept := by
  unfold State.sendSurfaces; (repeat' split) <;> first | exact State.modPair_kept .. | rfl

theorem State.hbTick_kept (s : State) : (State.hbTick s).kept = s.kept := by
  unfold State.hbTick; grind [State.modPair_kept, State.inc_kept, State.raiseOnce_kept, State.wr_kept, State.laneCheck_kept, State.each_kept, State.sendOn_kept, State.repeatTake_kept, State.sendSurfaces_kept, State.moreSurfaces_kept, State.kept, State.base]

theorem State.hbEdge_kept (s : State) : (State.hbEdge s).kept = s.kept := by
  unfold State.hbEdge; grind [State.modPair_kept, State.kept, State.base]

theorem State.decideTake_kept (s : State) (cause t : Nat) : (State.decideTake s cause t).kept = s.kept := by
  unfold State.decideTake; grind [State.modPair_kept, State.raise_kept, State.noteFaultIn_kept, State.sendTow_kept, State.kept, State.base]

theorem State.takeOver_kept (s : State) (cause t : Nat) : (State.takeOver s cause t).kept = s.kept := by
  unfold State.takeOver; grind [State.decideTake_kept, State.kept, State.base]

theorem State.hbLost_kept (s : State) : (State.hbLost s).kept = s.kept := by
  unfold State.hbLost; grind [State.takeOver_kept, State.kept, State.base]

theorem State.partnerFault_kept (s : State) : (State.partnerFault s).kept = s.kept := by
  unfold State.partnerFault; grind [State.takeOver_kept, State.kept, State.base]

theorem State.applyDelta_kept (s : State) (kind pound : Nat) (b : List Byte) : (State.applyDelta s kind pound b).kept = s.kept := by
  unfold State.applyDelta; grind [State.modPair_kept, State.kept, State.base]

theorem State.deltaIn_kept (s : State) (kind : Nat) (m : TowMsg) : (State.deltaIn s kind m).kept = s.kept := by
  unfold State.deltaIn; grind [State.receive_kept, State.deltaTry_kept, State.modPair_kept, State.kept, State.base]

theorem State.pairDeliver_kept (s : State) (r : LzRec) : (State.pairDeliver s r).kept = s.kept := by
  unfold State.pairDeliver; grind [State.sendFragments_kept, State.moreSurfaces_kept, State.applyDelta_kept, State.kept, State.base]

theorem State.sendWants_kept (s : State) : (State.sendWants s).kept = s.kept := by
  unfold State.sendWants; grind [State.each_kept, State.modPair_kept, State.sendTow_kept, State.kept, State.base]

theorem State.repairWant_kept (s : State) (m : TowMsg) : (State.repairWant s m).kept = s.kept := by
  unfold State.repairWant; grind [State.receive_kept, State.each_kept, State.sendTow_kept, State.kept, State.base]

theorem State.repairHave_kept (s : State) (m : TowMsg) : (State.repairHave s m).kept = s.kept := by
  unfold State.repairHave; grind [State.receive_kept, State.modPair_kept, State.holdPacket_kept, State.putChan_kept, State.inc_kept, State.checkGroup_kept, State.runParser_kept, State.kept, State.base]

theorem State.repairNone_kept (s : State) (m : TowMsg) : (State.repairNone s m).kept = s.kept := by
  unfold State.repairNone; grind [State.receive_kept, State.each_kept, State.modPair_kept, State.kept, State.base]

theorem State.repairExpiry_kept (s : State) (grp chan k : Nat) : (State.repairExpiry s grp chan k).kept = s.kept := by
  unfold State.repairExpiry; grind [State.each_kept, State.inc_kept, State.raiseOnce_kept, State.modPair_kept, State.resolveGroup_kept, State.kept, State.base]

theorem State.sealPolicy_kept (s : State) : (State.sealPolicy s).kept = s.kept := by
  unfold State.sealPolicy; grind [State.unfit_kept, State.modPair_kept, State.takeOver_kept, State.kept, State.base]

theorem State.compareSeal_kept (s : State) (p : Nat) : (State.compareSeal s p).kept = s.kept := by
  unfold State.compareSeal; grind [State.modPair_kept, State.wr_kept, State.fitCheck_kept, State.inc_kept, State.raise_kept, State.sealPolicy_kept, State.kept, State.base]

theorem State.towSeal_kept (s : State) (m : TowMsg) : (State.towSeal s m).kept = s.kept := by
  unfold State.towSeal; grind [State.receive_kept, State.compareSeal_kept, State.modPair_kept, State.kept, State.base]

theorem State.dropOwn_kept (s : State) (t : Nat) : (State.dropOwn s t).kept = s.kept := by
  unfold State.dropOwn; grind [State.modPair_kept, State.raise_kept, State.kept, State.base]

theorem State.withdraw_kept (s : State) (k : Takeover) : (State.withdraw s k).kept = s.kept := by
  unfold State.withdraw; grind [State.modPair_kept, State.raise_kept, State.recoveryOf_kept, State.kept, State.base]

theorem State.answerTake_kept (s : State) (t : Nat) : (State.answerTake s t).kept = s.kept := by
  unfold State.answerTake
  (repeat' split) <;> first | exact State.dropOwn_kept .. | exact State.withdraw_kept .. | rfl

theorem State.towTake_kept (s : State) (m : TowMsg) : (State.towTake s m).kept = s.kept := by
  unfold State.towTake
  have h := State.receive_kept s 5 m
  split
  rename_i e
  rw [e] at h
  split
  · exact (State.answerTake_kept ..).trans h
  · exact h

theorem State.towYield_kept (s : State) (m : TowMsg) : (State.towYield s m).kept = s.kept := by
  unfold State.towYield; grind [State.receive_kept, State.takeOver_kept, State.kept, State.base]

theorem State.cmdYield_kept (s : State) (v : Nat) : (State.cmdYield s v).kept = s.kept := by
  unfold State.cmdYield; grind [State.raise_kept, State.modPair_kept, State.sendTow_kept, State.kept, State.base]

theorem State.cmdTake_kept (s : State) (v : Nat) : (State.cmdTake s v).kept = s.kept := by
  unfold State.cmdTake; grind [State.raise_kept, State.takeOver_kept, State.kept, State.base]

theorem State.towCmd_kept (s : State) (v : Nat) : (State.towCmd s v).kept = s.kept := by
  unfold State.towCmd; grind [State.cmdYield_kept, State.cmdTake_kept, State.kept, State.base]

theorem State.startPounds_base (s : State) : (State.startPounds s).base = s.base := by
  unfold State.startPounds
  dsimp only
  generalize h1 : s.setLaunch _ _ = u
  have k1 : u.base = s.base := h1 ▸ State.base_of_kept (State.setLaunch_kept ..)
  generalize h2 : u.setLaunch _ _ = v
  have k2 : v.base = u.base := h2 ▸ State.base_of_kept (State.setLaunch_kept ..)
  generalize h3 : v.setLaunch _ _ = w
  have k3 : w.base = v.base := h3 ▸ State.base_of_kept (State.setLaunch_kept ..)
  exact (k3.trans k2).trans k1

theorem State.joinPounds_base (s : State) (h : PartnerHb) : (State.joinPounds s h).base = s.base := by
  unfold State.joinPounds
  dsimp only
  generalize h1 : s.setLaunch _ _ = u
  have k1 : u.base = s.base := h1 ▸ State.base_of_kept (State.setLaunch_kept ..)
  generalize h2 : u.setLaunch _ _ = v
  have k2 : v.base = u.base := h2 ▸ State.base_of_kept (State.setLaunch_kept ..)
  generalize h3 : v.setLaunch _ _ = w
  have k3 : w.base = v.base := h3 ▸ State.base_of_kept (State.setLaunch_kept ..)
  refine (State.base_of_kept (State.raise_kept ..)).trans ((State.base_of_kept (State.wr_kept ..)).trans ((State.base_of_kept (State.unfit_kept ..)).trans ?_))
  exact (k3.trans k2).trans k1

theorem State.bootPounds_base (s : State) : (State.bootPounds s).base = s.base := by
  unfold State.bootPounds; grind [State.startPounds_base, State.joinPounds_base, State.modPair_kept, State.kept, State.base]

theorem State.joinTimeout_base (s : State) : (State.joinTimeout s).base = s.base := by
  unfold State.joinTimeout
  dsimp only
  split
  · rfl
  · refine (State.base_of_kept (State.decideTake_kept ..)).trans ?_
    generalize h1 : State.startPounds _ = u
    have k1 : u.base = s.base := h1 ▸ (State.startPounds_base _).trans rfl
    exact k1

theorem State.towHb_base (s : State) (m : TowMsg) : (State.towHb s m).base = s.base := by
  unfold State.towHb; grind [State.receive_kept, State.modPair_kept, State.wr_kept, State.unfit_kept, State.laneCheck_kept, State.seeJoining_kept, State.joinPounds_base, State.fitCheck_kept, State.kept, State.base]

theorem State.closeTake_kept (s : State) (p kind : Nat) : (State.closeTake s p kind).kept = s.kept := by
  unfold State.closeTake; grind [State.repeatTake_kept, State.modPair_kept, State.kept, State.base]

theorem State.closeYield_kept (s : State) (p : Nat) : (State.closeYield s p).kept = s.kept := by
  unfold State.closeYield; grind [State.modPair_kept, State.raise_kept, State.kept, State.base]

theorem State.pairClose_kept (s : State) (p : Nat) : (State.pairClose s p).1.kept = s.kept := by
  unfold State.pairClose
  split
  · rfl
  · exact (State.closeYield_kept ..).trans ((State.when_kept _ _ _ (fun _ => (State.recoveryOf_kept ..).trans (State.modPair_kept ..))).trans
      ((State.when_kept _ _ _ (fun _ => State.modPair_kept ..)).trans (State.when_kept _ _ _ (fun _ => State.closeTake_kept ..))))

theorem State.sendSeal_kept (s : State) (p : Nat) : (State.sendSeal s p).kept = s.kept := by
  unfold State.sendSeal; grind [State.modPair_kept, State.sendTow_kept, State.compareSeal_kept, State.kept, State.base]

theorem State.noteSched_kept (s : State) (crc : Nat) : (State.noteSched s crc).kept = s.kept := by
  unfold State.noteSched; grind [State.modPair_kept, State.raise_kept, State.kept, State.base]

theorem State.withSnap_kept (s : State) (c : CSet) (h : List LayerHist) (p : Nat) : (State.withSnap s c h p).kept = s.kept := by
  rfl

theorem State.takeSnap_kept (s : State) (p h : Nat) (b : List Byte) : (State.takeSnap s p h b).kept = s.kept := by
  exact State.withSnap_kept ..

theorem State.mergeSnap_kept (s : State) (p : Nat) (b : List Byte) (n : Nat) : (State.mergeSnap s p b n).kept = s.kept := by
  exact (State.noteSched_kept ..).trans (State.takeSnap_kept ..)

theorem State.joinMerge_kept (s : State) (p : Nat) : (State.joinMerge s p).kept = s.kept := by
  unfold State.joinMerge; grind [State.mergeSnap_kept, State.modPair_kept, State.kept, State.base]

theorem State.installSurface_kept (s : State) (b : List Byte) : (State.installSurface s b).kept = s.kept := by
  unfold State.installSurface; grind [State.kept, State.base]

theorem State.joinOpen_kept (s : State) (p : Nat) : (State.joinOpen s p).kept = s.kept := by
  unfold State.joinOpen; grind [State.each_kept, State.installSurface_kept, State.modPair_kept, State.wr_kept, State.kept, State.base]

theorem State.pairOpen_kept (s : State) (p : Nat) (was : Bool) : (State.pairOpen s p was).kept = s.kept := by
  unfold State.pairOpen; grind [State.wr_kept, State.modPair_kept, State.recoveryOf_kept, State.joinOpen_kept, State.fitCheck_kept, State.kept, State.base]

theorem State.checkSides_kept (s : State) (t : Nat) (sides : List (List Byte)) : (State.checkSides s t sides).kept = s.kept := by
  unfold State.checkSides; grind [State.each_kept, State.sbOk_kept, State.sbFail_kept, State.raise_kept, State.alert_kept, State.kept, State.base]

theorem State.ownSample_kept (s : State) (level : Bool) (sides : List (List Byte)) : (State.ownSample s level sides).kept = s.kept := by
  unfold State.ownSample; grind [State.wr_kept, State.raise_kept, State.modPair_kept, State.checkSides_kept, State.recoveryOf_kept, State.kept, State.base]

theorem State.ownInAsserted_kept (s : State) : (State.ownInAsserted s).kept = s.kept := by
  unfold State.ownInAsserted; grind [State.wr_kept, State.ownYield_kept, State.kept, State.base]

end Sys2Proof.Machine
end

