-- ==== Sys2Proof/Laws/KeptBasinRun.lean ====
section
/-! SUPPORT. What the operations of Machine/BasinRun.lean keep: one lemma for each, `_kept` where it keeps the whole kept part, `_base` where it keeps the
base only. -/

namespace Sys2Proof.Machine

theorem State.trainStart_kept (s : State) (seeded : Bool) : (State.trainStart s seeded).kept = s.kept := by
  unfold State.trainStart; grind [State.each_kept, State.wr_kept, State.kept, State.base]

theorem State.trainStack_kept (s : State) (k : Nat) (seed : List Byte) (exit : Bool) (r : TrainRes) : (State.trainStack s k seed exit r).kept = s.kept := by
  unfold State.trainStack; grind [State.wr_kept, State.raiseI_kept, State.noteFault_kept, State.kept, State.base]

theorem State.trainAll_kept (s : State) (exit : Bool) (rs : List TrainRes) : (State.trainAll s exit rs).kept = s.kept := by
  unfold State.trainAll; grind [State.each_kept, State.trainStack_kept, State.kept, State.base]

theorem State.trainDone_kept (s : State) (rs : List TrainRes) : (State.trainDone s rs).kept = s.kept := by
  unfold State.trainDone; grind [State.trainAll_kept, State.wr_kept, State.kept, State.base]

theorem State.trainRetry_kept (s : State) : (State.trainRetry s).kept = s.kept := by
  unfold State.trainRetry; grind [State.trainStart_kept, State.kept, State.base]

theorem State.eyeMove_kept (s : State) (k lane : Nat) (dir : Int) : (State.eyeMove s k lane dir).kept = s.kept := by
  unfold State.eyeMove; grind [State.raiseI_kept, State.kept, State.base]

theorem State.eyeTrack_kept (s : State) (moves : List (Nat × Nat × Int)) : (State.eyeTrack s moves).kept = s.kept := by
  unfold State.eyeTrack; grind [State.each_kept, State.eyeMove_kept, State.kept, State.base]

theorem State.refresh_kept (s : State) (k : Nat) : (State.refresh s k).kept = s.kept := by
  unfold State.refresh; grind [State.kept, State.base]

theorem State.flushDone_kept (s : State) (source : Nat) : (State.flushDone s source).kept = s.kept := by
  unfold State.flushDone; grind [State.kept, State.base]

theorem State.selfEnter_kept (s : State) : (State.selfEnter s).kept = s.kept := by
  unfold State.selfEnter; grind [State.wr_kept, State.raise_kept, State.each_kept, State.reqDown_kept, State.flightKick_kept, State.kept, State.base]

theorem State.selfExitStart_kept (s : State) : (State.selfExitStart s).kept = s.kept := by
  unfold State.selfExitStart; grind [State.kept, State.base]

theorem State.isetHold_kept (s : State) : (State.isetHold s).kept = s.kept := by
  unfold State.isetHold; grind [State.kept, State.base]

theorem State.selfExitDone_kept (s : State) (rs : List TrainRes) : (State.selfExitDone s rs).kept = s.kept := by
  unfold State.selfExitDone; grind [State.wr_kept, State.trainAll_kept, State.isetHold_kept, State.raise_kept, State.kept, State.base]

theorem State.scrub_kept (s : State) (errs : List (Nat × Nat)) : (State.scrub s errs).kept = s.kept := by
  unfold State.scrub; grind [State.correctedRead_kept, State.noteUncorrectable_kept, State.isetHold_kept, State.raise_kept, State.kept, State.base]

theorem State.losePart_kept (s : State) (grp chan : Nat) (p : Pkt) : (State.losePart s grp chan p).kept = s.kept := by
  unfold State.losePart; grind [State.putChan_kept, State.when_kept, State.inc_kept, State.packetsDone_kept, State.runParser_kept, State.kept, State.base]

theorem State.losePacket_kept (s : State) (a : Nat) : (State.losePacket s a).kept = s.kept := by
  unfold State.losePacket; grind [State.each_kept, State.loseChunk_kept, State.inc_kept, State.packetsDone_kept, State.losePart_kept, State.kept, State.base]

theorem State.quarClear_kept (s : State) (v : Nat) : (State.quarClear s v).kept = s.kept := by
  unfold State.quarClear; grind [State.kept, State.base]

end Sys2Proof.Machine
end

