-- ==== Sys2Proof/Laws/KeptEncode.lean ====
section
/-! SUPPORT. What the operations of Machine/Encode.lean keep: one lemma for each, `_kept` where it keeps the whole kept part, `_base` where it keeps the
base only. -/

namespace Sys2Proof.Machine

theorem State.modEnc_kept (s : State) (k : Nat) (f : EncStream → EncStream) : (State.modEnc s k f).kept = s.kept := by
  unfold State.modEnc; grind [State.kept, State.base]

theorem State.camSweep_kept (s : State) (atOpen : Bool) : (State.camSweep s atOpen).kept = s.kept := by
  unfold State.camSweep; grind [State.each_kept, State.freeMoor_kept, State.kept, State.base]

theorem State.encRelease_kept (s : State) (atOpen : Bool) : (State.encRelease s atOpen).kept = s.kept := by
  unfold State.encRelease; grind [State.dropOldBufs_kept, State.camSweep_kept, State.kept, State.base]

theorem State.encOffer_kept (s : State) (k : Nat) (e : EncPic) : (State.encOffer s k e).kept = s.kept := by
  unfold State.encOffer; grind [State.modEnc_kept, State.inc_kept, State.raiseOnce_kept, State.kept, State.base]

theorem State.encCamera_kept (s : State) (e : EncPic) : (State.encCamera s e).kept = s.kept := by
  unfold State.encCamera; grind [State.each_kept, State.when_kept, State.encOffer_kept, State.kept, State.base]

theorem State.encTap_kept (s : State) : (State.encTap s).kept = s.kept := by
  unfold State.encTap; grind [State.each_kept, State.when_kept, State.encOffer_kept, State.encRelease_kept, State.kept, State.base]

theorem State.encStart_kept (s : State) : (State.encStart s).kept = s.kept := by
  unfold State.encStart; grind [State.modEnc_kept, State.kept, State.base]

theorem State.encQueue_kept (s : State) (r : EncRun) (n : Nat) (d : List Byte) : (State.encQueue s r n d).kept = s.kept := by
  unfold State.encQueue; grind [State.sendUdp_kept, State.kept, State.base]

theorem State.withEnc_kept (s : State) (e : EncSt) : ({ s with enc := e } : State).kept = s.kept := rfl

theorem State.encClose_kept (s : State) (r : EncRun) (c : EncChan) : (State.encClose s r c).1.kept = s.kept := by
  unfold State.encClose; split
  · exact State.withEnc_kept ..
  · exact (State.encQueue_kept ..).trans (State.withEnc_kept ..)

theorem State.encPacket_kept (s : State) (r : EncRun) (flags : Nat) (d : List Byte) (close : Bool) : (State.encPacket s r flags d close).1.kept = s.kept := by
  unfold State.encPacket
  exact fst_ite_kept ((State.encClose_kept ..).trans (State.encQueue_kept ..)) ((State.withEnc_kept ..).trans (State.encQueue_kept ..))

theorem State.encSend_kept (x0 : Nat) (x1 : State) (x2 : EncRun) (x3 : Nat) (x4 : Bool) (x5 : Bool) (x6 : List Byte) : (State.encSend x0 x1 x2 x3 x4 x5 x6).1.kept = x1.kept := by
  induction x0 generalizing x1 x2 x4 x6 with
  | zero => rfl
  | succ k ih =>
    unfold State.encSend
    dsimp only
    split
    · exact State.encPacket_kept ..
    · exact (ih ..).trans (State.encPacket_kept ..)

theorem State.encSlice_kept (s : State) (r : EncRun) (row last : Nat) (fin : Bool) : (State.encSlice s r row last fin).1.kept = s.kept := by
  unfold State.encSlice; grind [State.encSend_kept, State.kept, State.base]

theorem State.encOne_kept (s : State) (r : EncRun) (row total c : Nat) : (State.encOne s r row total c).1.kept = s.kept := by
  unfold State.encOne
  exact fst_ite_kept (State.encSlice_kept ..) rfl

theorem State.encCtus_kept (s : State) (r : EncRun) (row total : Nat) (l : List Nat) : (State.encCtus s r row total l).1.kept = s.kept := by
  induction l generalizing s r with
  | nil => rfl
  | cons b l ih => exact (ih ..).trans (State.encOne_kept ..)

theorem State.encFree_kept (s : State) (atOpen : Bool) (k : Nat) : (State.encFree s atOpen k).kept = s.kept := by
  unfold State.encFree; grind [State.each_kept, State.freeMoor_kept, State.modEnc_kept, State.kept, State.base]

theorem State.encSent_kept (s : State) (atOpen : Bool) (k : Nat) : (State.encSent s atOpen k).kept = s.kept := by
  unfold State.encSent; grind [State.encFree_kept, State.modEnc_kept, State.kept, State.base]

theorem State.encLeave_kept (s : State) (k : Nat) : (State.encLeave s k).kept = s.kept := by
  unfold State.encLeave; grind [State.encRelease_kept, State.encSent_kept, State.kept, State.base]

theorem State.encFinish_kept (s : State) (r : EncRun) : (State.encFinish s r).kept = s.kept := by
  unfold State.encFinish; grind [State.wr_kept, State.inc_kept, State.raise_kept, State.modEnc_kept, State.encLeave_kept, State.kept, State.base]

theorem State.encAbandon_kept (s : State) (r : EncRun) (cause : Nat) : (State.encAbandon s r cause).kept = s.kept := by
  unfold State.encAbandon; grind [State.inc_kept, State.raise_kept, State.encClose_kept, State.modEnc_kept, State.encLeave_kept, State.kept, State.base]

theorem State.encRow_kept (s : State) : (State.encRow s).kept = s.kept := by
  unfold State.encRow; grind [State.encAbandon_kept, State.encCtus_kept, State.encSlice_kept, State.encFinish_kept, State.kept, State.base]

theorem State.encIdr_kept (s : State) (k v : Nat) : (State.encIdr s k v).kept = s.kept := by
  unfold State.encIdr; grind [State.modEnc_kept, State.kept, State.base]

theorem State.encStop_kept (s : State) (cause : Nat) : (State.encStop s cause).kept = s.kept := by
  unfold State.encStop; grind [State.kept, State.base]

theorem State.encAlloc_kept (s : State) (p k n : Nat) : (State.encAlloc s p k n).kept = s.kept := by
  unfold State.encAlloc; grind [State.noteFree_kept, State.modEnc_kept, State.allocFail_kept, State.raise_kept, State.kept, State.base]

theorem State.encNewRate_kept (s : State) (k : Nat) : (State.encNewRate s k).kept = s.kept := by
  unfold State.encNewRate; grind [State.modEnc_kept, State.wr_kept, State.kept, State.base]

theorem State.encStreamOpen_kept (s : State) (old : CSet) (first : Bool) (p k : Nat) : (State.encStreamOpen s old first p k).kept = s.kept := by
  unfold State.encStreamOpen
  refine (State.encSent_kept ..).trans ?_
  refine (State.when_kept _ _ _ (fun _ => State.modEnc_kept ..)).trans ?_
  refine (State.when_kept _ _ _ (fun _ => State.modEnc_kept ..)).trans ?_
  refine (State.when_kept _ _ _ (fun _ => State.encNewRate_kept ..)).trans ?_
  refine (State.when_kept _ _ _ (fun _ => State.modEnc_kept ..)).trans ?_
  refine (State.when_kept _ _ _ (fun _ => (State.modEnc_kept ..).trans (State.encAlloc_kept ..))).trans ?_
  refine (State.when_kept _ _ _ (fun _ => (State.modEnc_kept ..).trans (State.encFree_kept ..))).trans ?_
  exact State.when_kept _ _ _ (fun _ => State.modEnc_kept ..)

theorem State.encPurge_kept (s : State) : (State.encPurge s).kept = s.kept := by
  unfold State.encPurge; grind [State.kept, State.base]

theorem State.encOpen_kept (s : State) (old : CSet) (first : Bool) (p : Nat) : (State.encOpen s old first p).kept = s.kept := by
  unfold State.encOpen; grind [State.when_kept, State.encStop_kept, State.encPurge_kept, State.each_kept, State.encStreamOpen_kept, State.encRelease_kept, State.kept, State.base]

end Sys2Proof.Machine
end

