-- ==== Sys2Proof/Laws/KeptCamera.lean ====
section
/-! SUPPORT. What the operations of Machine/Camera.lean keep: one lemma for each, `_kept` where it keeps the whole kept part, `_base` where it keeps the
base only. -/

namespace Sys2Proof.Machine

theorem State.modSensor_kept (s : State) (n : Nat) (f : SensorSt → SensorSt) : (State.modSensor s n f).kept = s.kept := by
  unfold State.modSensor; grind [State.kept, State.base]

theorem State.freeOuts_kept (s : State) (n : Nat) (l : List (Nat × Nat)) : (State.freeOuts s n l).kept = s.kept := by
  unfold State.freeOuts; grind [State.each_kept, State.modSensor_kept, State.kept, State.base]

theorem State.dropCam_kept (s : State) (n num cause : Nat) : (State.dropCam s n num cause).kept = s.kept := by
  unfold State.dropCam; grind [State.freeOuts_kept, State.modSensor_kept, State.camSweep_kept, State.inc_kept, State.raiseOnceI_kept, State.kept, State.base]

theorem State.dropCur_kept (s : State) (n cause : Nat) : (State.dropCur s n cause).kept = s.kept := by
  unfold State.dropCur; grind [State.dropCam_kept, State.kept, State.base]

theorem State.csiUnknown_kept (s : State) (port vc dt : Nat) : (State.csiUnknown s port vc dt).kept = s.kept := by
  unfold State.csiUnknown; grind [State.inc_kept, State.raiseOnceI_kept, State.kept, State.base]

theorem State.cciKick_kept (s : State) (port : Nat) : (State.cciKick s port).kept = s.kept := by
  unfold State.cciKick; grind [State.kept, State.base]

theorem State.cciEnd_kept (s : State) (n : Nat) : (State.cciEnd s n).kept = s.kept := by
  unfold State.cciEnd; grind [State.modSensor_kept, State.wr_kept, State.kept, State.base]

theorem State.sensorStart_kept (s : State) (n : Nat) : (State.sensorStart s n).kept = s.kept := by
  unfold State.sensorStart; grind [State.modSensor_kept, State.cciKick_kept, State.kept, State.base]

theorem State.sensorStop_kept (s : State) (n : Nat) : (State.sensorStop s n).kept = s.kept := by
  unfold State.sensorStop; grind [State.modSensor_kept, State.cciKick_kept, State.cciEnd_kept, State.kept, State.base]

theorem State.expoDone_kept (s : State) (n : Nat) (w : ExpoWrite) : (State.expoDone s n w).kept = s.kept := by
  unfold State.expoDone; grind [State.raiseI_kept, State.modSensor_kept, State.wr_kept, State.kept, State.base]

theorem State.expoFail_kept (s : State) (n reg : Nat) (w : ExpoWrite) : (State.expoFail s n reg w).kept = s.kept := by
  unfold State.expoFail; grind [State.modSensor_kept, State.raiseI_kept, State.wr_kept, State.kept, State.base]

theorem State.cciWritten_kept (s : State) (n : Nat) (op : CciOp) (ack : Bool) (write : Option ExpoWrite) (starting : Bool) : (State.cciWritten s n op ack write starting).kept = s.kept := by
  unfold State.cciWritten; grind [State.raiseI_kept, State.modSensor_kept, State.expoDone_kept, State.expoFail_kept, State.kept, State.base]

theorem State.cciDone_kept (s : State) (port : Nat) (ack : Bool) : (State.cciDone s port ack).kept = s.kept := by
  unfold State.cciDone; grind [State.cciKick_kept, State.modSensor_kept, State.cciWritten_kept, State.cciEnd_kept, State.kept, State.base]

theorem State.cciDelay_kept (s : State) (n : Nat) : (State.cciDelay s n).kept = s.kept := by
  unfold State.cciDelay; grind [State.modSensor_kept, State.cciEnd_kept, State.cciKick_kept, State.kept, State.base]

theorem State.takeOut_kept (s : State) (n o : Nat) : (State.takeOut s n o).1.kept = s.kept := by
  unfold State.takeOut; grind [State.modSensor_kept, State.raiseOnceI_kept, State.kept, State.base]

theorem State.takeOuts_kept (s : State) (n : Nat) : (State.takeOuts s n).1.kept = s.kept := by
  unfold State.takeOuts; grind [State.takeOut_kept, State.kept, State.base]

theorem State.expoAt_kept (s : State) (n num : Nat) : (State.expoAt s n num).kept = s.kept := by
  unfold State.expoAt; grind [State.modSensor_kept, State.cciKick_kept, State.kept, State.base]

theorem State.makeRoom_kept (x0 : Nat) (x1 : State) (x2 : Nat) (x3 : Nat) (x4 : Nat) : (State.makeRoom x0 x1 x2 x3 x4).kept = x1.kept := by
  induction x0 generalizing x1 with
  | zero => rfl
  | succ k ih =>
    unfold State.makeRoom
    dsimp only
    (repeat' split) <;> first | rfl | exact (ih _).trans (State.dropCam_kept ..)

theorem State.putPair_kept (s : State) (p : Nat) (g : PairGlint) : (State.putPair s p g).kept = s.kept := by
  unfold State.putPair; grind [State.kept, State.base]

theorem State.pairTake_kept (s : State) (p : Nat) (right : Bool) (q : PairPic) (lit : Bool) : (State.pairTake s p right q lit).kept = s.kept := by
  unfold State.pairTake; grind [State.putPair_kept, State.inc_kept, State.kept, State.base]

theorem State.glintTake_kept (s : State) (q : PairPic) (lit : Bool) : (State.glintTake s q lit).kept = s.kept := by
  unfold State.glintTake; grind [State.each_kept, State.when_kept, State.pairTake_kept, State.kept, State.base]

theorem State.publish_kept (s : State) (n : Nat) (f : CamFrame) : (State.publish s n f).kept = s.kept := by
  unfold State.publish; grind [State.wr_kept, State.inc_kept, State.modSensor_kept, State.each_kept, State.encCamera_kept, State.glintTake_kept, State.kept, State.base]

theorem State.tryPublish_kept (s : State) (n num : Nat) : (State.tryPublish s n num).kept = s.kept := by
  unfold State.tryPublish; grind [State.publish_kept, State.camSweep_kept, State.kept, State.base]

theorem State.withCam_kept (s : State) (c : CamSt) : ({ s with cam := c } : State).kept = s.kept := rfl

theorem State.drr_kept (x0 : Nat) (x1 : State) (x2 : Nat) : (State.drr x0 x1 x2).2.kept = x1.kept := by
  induction x0 generalizing x1 with
  | zero => rfl
  | succ k ih =>
    unfold State.drr
    dsimp only
    (repeat' split) <;> first
      | rfl
      | exact State.modSensor_kept _ _ _
      | exact (ih _).trans ((State.withCam_kept _ _).trans (State.modSensor_kept _ _ _))
      | exact (ih _).trans ((State.withCam_kept _ _).trans ((State.modSensor_kept _ _ _).trans (State.modSensor_kept _ _ _)))

theorem State.lineTake_kept (s : State) (port : Nat) : (State.lineTake s port).kept = s.kept := by
  unfold State.lineTake; grind [State.drr_kept, State.modSensor_kept, State.tryPublish_kept, State.kept, State.base]

theorem State.sideGlints_kept (s : State) (q : PairPic) : (State.sideGlints s q).1.kept = s.kept := by
  unfold State.sideGlints; grind [State.raiseI_kept, State.kept, State.base]

theorem State.formReport_kept (s : State) : (State.formReport s).kept = s.kept := by
  unfold State.formReport; grind [State.wrW_kept, State.wr_kept, State.each_kept, State.raiseOnce_kept, State.kept, State.base]

theorem State.glintPair_kept (s : State) (p : Nat) : (State.glintPair s p).kept = s.kept := by
  unfold State.glintPair; (repeat' split) <;> grind [State.camSweep_kept, State.sideGlints_kept, State.add_kept, State.formReport_kept, State.kept, State.base]

theorem State.glintAbandon_kept (s : State) (p : Nat) : (State.glintAbandon s p).kept = s.kept := by
  unfold State.glintAbandon; grind [State.kept, State.base]

theorem State.fsync_kept (s : State) (m p : Nat) : (State.fsync s m p).kept = s.kept := by
  unfold State.fsync; grind [State.pulse_kept, State.kept, State.base]

theorem State.strobePulse_kept (s : State) : (State.strobePulse s).kept = s.kept := by
  unfold State.strobePulse; grind [State.pulse_kept, State.kept, State.base]

theorem State.setOut_kept (s : State) (n o : Nat) (b : List CamBuf) (off : Bool) : (State.setOut s n o b off).kept = s.kept := by
  unfold State.setOut; grind [State.modSensor_kept, State.kept, State.base]

theorem State.outAlloc_kept (s : State) (p n o per k ow oh : Nat) : (State.outAlloc s p n o per k ow oh).kept = s.kept := by
  unfold State.outAlloc
  split
  · exact (State.setOut_kept ..).trans ((State.noteFree_kept _).trans rfl)
  · exact (State.raiseI_kept ..).trans ((State.setOut_kept ..).trans (State.allocFail_kept ..))

theorem State.camOutOpen_kept (s : State) (old : CSet) (first : Bool) (p n o : Nat) : (State.camOutOpen s old first p n o).kept = s.kept := by
  unfold State.camOutOpen; grind [State.setOut_kept, State.outAlloc_kept, State.kept, State.base]

theorem State.expoReplace_kept (s : State) (n id lines gain : Nat) : (State.expoReplace s n id lines gain).kept = s.kept := by
  unfold State.expoReplace; grind [State.modSensor_kept, State.kept, State.base]

theorem State.sensorOpen_kept (s : State) (old : CSet) (first : Bool) (p n : Nat) : (State.sensorOpen s old first p n).kept = s.kept := by
  unfold State.sensorOpen; grind [State.each_kept, State.camOutOpen_kept, State.modSensor_kept, State.expoReplace_kept, State.when_kept, State.dropCam_kept, State.sensorStop_kept, State.kept, State.base]

theorem State.camOpen_kept (s : State) (old : CSet) (first : Bool) (p : Nat) : (State.camOpen s old first p).kept = s.kept := by
  unfold State.camOpen; grind [State.each_kept, State.sensorOpen_kept, State.when_kept, State.glintAbandon_kept, State.camSweep_kept, State.kept, State.base]

end Sys2Proof.Machine
end

