-- ==== Sys2Proof/Laws/KeptDomains.lean ====
section
/-! SUPPORT. What the operations of Machine/Domains.lean keep: one lemma for each, `_kept` where it keeps the whole kept part, `_base` where it keeps the
base only. -/

namespace Sys2Proof.Machine

theorem State.domainsNeed_kept (s : State) : (State.domainsNeed s).kept = s.kept := by
  unfold State.domainsNeed; grind [State.each_kept, State.reqDown_kept, State.reqUp_kept, State.flightKick_kept, State.kept, State.base]

theorem State.domainDrained_kept (s : State) (d : Nat) : (State.domainDrained s d).kept = s.kept := by
  unfold State.domainDrained; grind [State.reqDown_kept, State.flightKick_kept, State.kept, State.base]

theorem State.domFailClear_kept (s : State) (k : Nat) (v : Word) : (State.domFailClear s k v).kept = s.kept := by
  unfold State.domFailClear; grind [State.wrW_kept, State.each_kept, State.reqUp_kept, State.flightKick_kept, State.kept, State.base]

end Sys2Proof.Machine
end

