-- ==== Sys2Proof/Laws/KeptReset.lean ====
section
/-! SUPPORT. What the operations of Machine/Reset.lean keep: one lemma for each, `_kept` where it keeps the whole kept part, `_base` where it keeps the
base only. -/

namespace Sys2Proof.Machine

theorem State.resetCause_kept (s : State) (f : Fld) : (State.resetCause s f).kept = s.kept := by
  unfold State.resetCause; grind [State.wr_kept, State.kept, State.base]

theorem State.railCheck_kept (s : State) (below : Nat) : (State.railCheck s below).kept = s.kept := by
  unfold State.railCheck; grind [State.resetCause_kept, State.kept, State.base]

theorem State.porDeassert_kept (s : State) (below : Nat) : (State.porDeassert s below).kept = s.kept := by
  unfold State.porDeassert; grind [State.railCheck_kept, State.kept, State.base]

theorem State.seqRetry_kept (s : State) (below : Nat) : (State.seqRetry s below).kept = s.kept := by
  unfold State.seqRetry; grind [State.railCheck_kept, State.kept, State.base]

theorem State.withTripped_base (s : State) (n : Nat) : ({ s with pwr := { s.pwr with tripped := n } } : State).base = s.base := rfl

theorem State.withPhase_base (s : State) (p : ResetPhase) : ({ s with pwr := { s.pwr with phase := p } } : State).base = s.base := rfl

theorem State.panelFastWhen_base (s t : State) (p : Prop) [Decidable p] (h : s.base = t.base) : (if p then s.panelFast 2 else s).base = t.base := by
  split
  · exact (State.base_of_kept (State.panelFast_kept ..)).trans h
  · exact h

theorem State.monitorRecovery_kept (s : State) : (State.monitorRecovery s).kept = s.kept := by
  unfold State.monitorRecovery; grind [State.wr_kept, State.kept, State.base]

end Sys2Proof.Machine
end

