-- ==== Sys2Proof/Laws/KeptLedgerRead.lean ====
section
/-! SUPPORT. What the operations of Machine/LedgerRead.lean keep: one lemma for each, `_kept` where it keeps the whole kept part, `_base` where it keeps the
base only. -/

namespace Sys2Proof.Machine

theorem State.clearRc_kept (s : State) (a : Nat) : (State.clearRc s a).kept = s.kept := by
  unfold State.clearRc; grind [State.wr_kept, State.wrW_kept, State.kept, State.base]

theorem State.ringRead_kept (s : State) (a : Nat) : (State.ringRead s a).2.kept = s.kept := by
  unfold State.ringRead; grind [State.clearRc_kept, State.each_kept, State.kept, State.base]

theorem State.i2cReadWord_kept (s : State) (a : Nat) : (State.i2cReadWord s a).2.kept = s.kept := by
  unfold State.i2cReadWord; grind [State.kept, State.base]

end Sys2Proof.Machine
end

