-- ==== Sys2Proof/Laws/KeptLedgerWrite.lean ====
section
/-! SUPPORT. What the operations of Machine/LedgerWrite.lean keep: one lemma for each, `_kept` where it keeps the whole kept part, `_base` where it keeps the
base only. -/

namespace Sys2Proof.Machine

@[simp] theorem LedSt.discard_index (l : LedSt) : l.discard.index = l.index := rfl
@[simp] theorem LedSt.discard_bank0 (l : LedSt) : l.discard.bank0 = l.bank0 := rfl
@[simp] theorem LedSt.discard_bank1 (l : LedSt) : l.discard.bank1 = l.bank1 := rfl

theorem State.withDiscard_kept (s : State) : ({ s with led := s.led.discard } : State).kept = s.kept := rfl

theorem LedSt.shadowWrite_index (l : LedSt) (a v m) : (l.shadowWrite a v m).index = l.index := rfl

theorem LedSt.shadowWrite_bank0 (l : LedSt) (a v m) : (l.shadowWrite a v m).bank0 = l.bank0 := rfl

theorem LedSt.shadowWrite_bank1 (l : LedSt) (a v m) : (l.shadowWrite a v m).bank1 = l.bank1 := rfl

theorem State.shadowDiscard_kept (s : State) (v : Nat) : (State.shadowDiscard s v).kept = s.kept := by
  unfold State.shadowDiscard; dsimp only; (repeat' split) <;> rfl

theorem State.modeWrite_kept (s : State) (v : Word) (mask : Nat) : (State.modeWrite s v mask).kept = s.kept := by
  unfold State.modeWrite; dsimp only; split
  · rfl
  · exact (State.raise_kept ..).trans rfl

theorem State.shadowWrite_kept (s : State) (a : Nat) (v : Word) (mask : Nat) : (State.shadowWrite s a v mask).kept = s.kept := by
  unfold State.shadowWrite; split
  · exact State.modeWrite_kept ..
  · rfl

theorem State.drainHold_kept (s : State) : (State.drainHold s).kept = s.kept := by
  unfold State.drainHold; dsimp only; split
  · exact (State.withDiscard_kept _).trans ((State.each_kept _ _ _ (fun _ _ => State.shadowWrite_kept ..)).trans rfl)
  · exact (State.each_kept _ _ _ (fun _ _ => State.shadowWrite_kept ..)).trans rfl

theorem State.rwsWrite_kept (s : State) (a : Nat) (v : Word) (mask : Nat) : (State.rwsWrite s a v mask).kept = s.kept := by
  unfold State.rwsWrite; grind [State.shadowWrite_kept, State.kept, State.base]

theorem State.updStart_kept (s : State) : (State.updStart s).kept = s.kept := by
  unfold State.updStart; grind [State.wr_kept, State.updState_kept, State.nvmStart_kept, State.kept, State.base]

theorem State.updVerify_kept (s : State) : (State.updVerify s).kept = s.kept := by
  unfold State.updVerify; grind [State.updState_kept, State.kept, State.base]

theorem State.updCommit_kept (s : State) : (State.updCommit s).kept = s.kept := by
  unfold State.updCommit; grind [State.updState_kept, State.nvmQueue_kept, State.kept, State.base]

theorem State.updAbort_kept (s : State) : (State.updAbort s).kept = s.kept := by
  unfold State.updAbort; grind [State.updFail_kept, State.kept, State.base]

theorem State.updCmd_kept (s : State) (cmd : Nat) : (State.updCmd s cmd).kept = s.kept := by
  unfold State.updCmd; grind [State.raise_kept, State.updStart_kept, State.updVerify_kept, State.updCommit_kept, State.updAbort_kept, State.kept, State.base]

theorem State.updData_kept (s : State) (v : Word) : (State.updData s v).kept = s.kept := by
  unfold State.updData; grind [State.wr_kept, State.nvmStart_kept, State.kept, State.base]

theorem State.updLen_kept (s : State) (v : Word) (mask : Nat) : (State.updLen s v mask).kept = s.kept := by
  unfold State.updLen; grind [State.wrW_kept, State.kept, State.base]

theorem State.calSave_kept (s : State) (v : Nat) : (State.calSave s v).kept = s.kept := by
  unfold State.calSave; grind [State.chooseNat_kept, State.nvmQueue_kept, State.kept, State.base]

theorem State.w1cWrite_kept (s : State) (a : Nat) (v : Word) : (State.w1cWrite s a v).kept = s.kept := by
  unfold State.w1cWrite; grind [State.domFailClear_kept, State.wrW_kept, State.kept, State.base]

theorem State.rwWrite_kept (s : State) (a : Nat) (v : Word) (mask : Nat) : (State.rwWrite s a v mask).kept = s.kept := by
  unfold State.rwWrite; grind [State.updLen_kept, State.monCfg_kept, State.monScan_kept, State.kept, State.base]

theorem State.busyEvent_kept (s : State) (e : Nat × Nat × Nat) : (State.busyEvent s e).kept = s.kept := by
  unfold State.busyEvent; grind [State.raise_kept, State.kept, State.base]

theorem State.imageRws_base (s : State) (a : Nat) (v : Word) : (State.imageRws s a v).base = s.base := by
  unfold State.imageRws; dsimp only; split <;> rfl

end Sys2Proof.Machine
end

