-- ==== Sys2Proof/Laws/KeptManage.lean ====
section
/-! SUPPORT. What the operations of Machine/Manage.lean keep: one lemma for each, `_kept` where it keeps the whole kept part, `_base` where it keeps the
base only. -/

namespace Sys2Proof.Machine

theorem State.withMgmt_kept (s : State) (l : List Datagram) : ({ s with ring := { s.ring with mgmt := l } } : State).kept = s.kept := rfl

theorem State.mgmtSend_kept (s : State) (mac addr port : Nat) (d : List Byte) : (State.mgmtSend s mac addr port d).kept = s.kept := by
  unfold State.mgmtSend; grind [State.sendUdp_kept, State.kept, State.base]

theorem State.mgmtAnswer_kept (s : State) (q : MgmtReq) (sid : Nat) (sk : List Byte) (status : Nat) (body : List Byte) : (State.mgmtAnswer s q sid sk status body).kept = s.kept := by
  unfold State.mgmtAnswer; grind [State.inc_kept, State.mgmtSend_kept, State.kept, State.base]

theorem State.authFail_kept (s : State) (cause mseq : Nat) : (State.authFail s cause mseq).kept = s.kept := by
  unfold State.authFail; grind [State.inc_kept, State.raiseOnce_kept, State.kept, State.base]

theorem State.setSession_kept (s : State) (i : Nat) (x : Option Session) : (State.setSession s i x).kept = s.kept := by
  unfold State.setSession; grind [State.kept, State.base]

theorem State.sessionOpen_kept (s : State) (q : MgmtReq) : (State.sessionOpen s q).kept = s.kept := by
  unfold State.sessionOpen; grind [State.wr_kept, State.inc_kept, State.raise_kept, State.setSession_kept, State.mgmtAnswer_kept, State.kept, State.base]

theorem State.sessionReq_kept (s : State) (q : MgmtReq) : (State.sessionReq s q).kept = s.kept := by
  unfold State.sessionReq; grind [State.sessionOpen_kept, State.authFail_kept, State.kept, State.base]

theorem State.sessionDo_base (s : State) (q : MgmtReq) (f : State → Nat → Session → State) (h : ∀ t i x, (f t i x).base = t.base) :
    (s.sessionDo q f).base = s.base := by
  unfold State.sessionDo
  (repeat' split) <;> first
    | rfl
    | exact State.base_of_kept (State.authFail_kept ..)
    | exact (h _ _ _).trans (State.base_of_kept ((State.inc_kept ..).trans (State.setSession_kept ..)))

theorem State.sessionDo_kept (s : State) (q : MgmtReq) (f : State → Nat → Session → State) (h : ∀ t i x, (f t i x).kept = t.kept) :
    (s.sessionDo q f).kept = s.kept := by
  unfold State.sessionDo
  (repeat' split) <;> first
    | rfl
    | exact State.authFail_kept ..
    | exact (h _ _ _).trans ((State.inc_kept ..).trans (State.setSession_kept ..))

theorem State.mgmtTake_base (s : State) (op : Nat) (f : State → MgmtReq → State) (h : ∀ t q, (f t q).base = t.base) :
    (s.mgmtTake op f).base = s.base := by
  unfold State.mgmtTake
  dsimp only
  split
  · rfl
  · split
    · rfl
    · exact (h _ _).trans (State.base_of_kept (State.withMgmt_kept _ _))

theorem State.mgmtTake_kept (s : State) (op : Nat) (f : State → MgmtReq → State) (h : ∀ t q, (f t q).kept = t.kept) :
    (s.mgmtTake op f).kept = s.kept := by
  unfold State.mgmtTake
  dsimp only
  split
  · rfl
  · split
    · rfl
    · exact (h _ _).trans (State.withMgmt_kept _ _)

theorem State.readWords_kept (s : State) (x0 : Nat) (x1 : Nat) (x2 : List Byte) : (State.readWords s x0 x1 x2).1.kept = s.kept := by
  induction x0 generalizing s x1 x2 with
  | zero => rfl
  | succ k ih =>
    unfold State.readWords
    split
    · exact (ih _ _ _).trans (State.ringRead_kept ..)
    · rfl

theorem State.readReq_kept (s : State) (q : MgmtReq) : (State.readReq s q).kept = s.kept := by
  unfold State.readReq; grind [State.sessionDo_kept, State.mgmtAnswer_kept, State.readWords_kept, State.kept, State.base]

theorem State.subscribeReq_kept (s : State) (q : MgmtReq) : (State.subscribeReq s q).kept = s.kept := by
  unfold State.subscribeReq; grind [State.sessionDo_kept, State.mgmtAnswer_kept, State.setSession_kept, State.kept, State.base]

theorem State.logReq_kept (s : State) (q : MgmtReq) : (State.logReq s q).kept = s.kept := by
  unfold State.logReq; grind [State.sessionDo_kept, State.mgmtAnswer_kept, State.kept, State.base]

theorem State.mgmtLog_kept (s : State) : (State.mgmtLog s).kept = s.kept := by
  unfold State.mgmtLog; grind [State.mgmtTake_kept, State.logReq_kept, State.kept, State.base]

theorem State.eventsSend_kept (s : State) (i : Nat) : (State.eventsSend s i).kept = s.kept := by
  unfold State.eventsSend; grind [State.chooseNat_kept, State.setSession_kept, State.mgmtSend_kept, State.kept, State.base]

theorem State.sessionExpire_kept (s : State) (i : Nat) : (State.sessionExpire s i).kept = s.kept := by
  unfold State.sessionExpire; grind [State.setSession_kept, State.raise_kept, State.kept, State.base]

theorem State.logLost_kept (s : State) (n : Nat) : (State.logLost s n).kept = s.kept := by
  unfold State.logLost; grind [State.add_kept, State.kept, State.base]

theorem State.eventAccept_kept (s : State) : (State.eventAccept s).kept = s.kept := by
  unfold State.eventAccept; grind [State.logLost_kept, State.kept, State.base]

theorem State.alertResponse_kept (s : State) : (State.alertResponse s).kept = s.kept := by
  unfold State.alertResponse; grind [State.kept, State.base]

theorem State.i2cPointerWrite_kept (s : State) (d : List Byte) : (State.i2cPointerWrite s d).kept = s.kept := by
  unfold State.i2cPointerWrite; grind [State.kept, State.base]

theorem State.i2cWord_kept (s : State) (a : Nat) : (State.i2cWord s a).2.kept = s.kept := by
  unfold State.i2cWord; grind [State.i2cReadWord_kept, State.kept, State.base]

theorem State.i2cBytes_kept (s : State) (x0 : Nat) (x1 : List Byte) : (State.i2cBytes s x0 x1).1.kept = s.kept := by
  induction x0 generalizing s x1 with
  | zero => rfl
  | succ k ih => exact (ih _ _).trans (State.i2cWord_kept ..)

theorem State.i2cRead_kept (s : State) (n : Nat) : (State.i2cRead s n).kept = s.kept := by
  unfold State.i2cRead; grind [State.i2cBytes_kept, State.i2cWord_kept, State.kept, State.base]

theorem State.logFlush_kept (s : State) : (State.logFlush s).kept = s.kept := by
  unfold State.logFlush; grind [State.lzSubmit_kept, State.kept, State.base]

theorem State.logEncoded_kept (s : State) (first count status : Nat) (d : List Byte) : (State.logEncoded s first count status d).kept = s.kept := by
  unfold State.logEncoded; grind [State.nvmQueue_kept, State.logLost_kept, State.kept, State.base]

end Sys2Proof.Machine
end

