-- ==== Sys2Proof/Laws/KeptMerge.lean ====
section
/-! SUPPORT. What the operations of Machine/Merge.lean keep: one lemma for each, `_kept` where it keeps the whole kept part, `_base` where it keeps the
base only. -/

namespace Sys2Proof.Machine

theorem State.markRelease_kept (s : State) (k l p : Nat) : (State.markRelease s k l p).kept = s.kept := by
  unfold State.markRelease; grind [State.kept, State.base]

theorem State.planCtx_kept (s : State) (q : CtxPlan) : (State.planCtx s q).kept = s.kept := by
  unfold State.planCtx; grind [State.kept, State.base]

theorem State.closeChans_kept (s : State) (atOpen : Bool) (l : List (Nat × Nat)) : (State.closeChans s atOpen l).kept = s.kept := by
  unfold State.closeChans; grind [State.each_kept, State.packetGone_kept, State.kept, State.base]

theorem State.putScene_kept (s : State) (atOpen : Bool) (k p : Nat) (c : Scene) (pend : Option Scene) : (State.putScene s atOpen k p c pend).kept = s.kept := by
  unfold State.putScene; grind [State.each_kept, State.markRelease_kept, State.planCtx_kept, State.closeChans_kept, State.modSlot_kept, State.raise_kept, State.kept, State.base]

theorem State.applyHeader_kept (s : State) (k p : Nat) : (State.applyHeader s k p).kept = s.kept := by
  unfold State.applyHeader
  split
  · split
    · rfl
    · exact State.putScene_kept ..
  · rfl

theorem State.emptySlots_kept (s : State) (p : Nat) (g : Geom) : (State.emptySlots s p g).kept = s.kept := by
  unfold State.emptySlots; grind [State.each_kept, State.putScene_kept, State.modSlot_kept, State.closeChans_kept, State.raise_kept, State.kept, State.base]

theorem State.mergeCmd_kept (s : State) (k p : Nat) (c : Cmd) : (State.mergeCmd s k p c).kept = s.kept := by
  unfold State.mergeCmd; grind [State.modSlot_kept, State.each_kept, State.raise_kept, State.markRelease_kept, State.planCtx_kept, State.kept, State.base]

theorem State.mergeList_kept (s : State) (k p : Nat) : (State.mergeList s k p).kept = s.kept := by
  unfold State.mergeList; grind [State.modSlot_kept, State.each_kept, State.mergeCmd_kept, State.wr_kept, State.inc_kept, State.raise_kept, State.kept, State.base]

theorem State.makePlan_kept (s : State) (p : Nat) : (State.makePlan s p).kept = s.kept := by
  unfold State.makePlan; grind [State.kept, State.base]

theorem State.streamLaunch_kept (s : State) (p : Nat) : (State.streamLaunch s p).1.kept = s.kept := by
  unfold State.streamLaunch; grind [State.raise_kept, State.kept, State.base]

theorem State.fixLaunch_kept (s : State) (p : Nat) : (State.fixLaunch s p).kept = s.kept := by
  unfold State.fixLaunch; grind [State.streamLaunch_kept, State.setLaunch_kept, State.raise_kept, State.inc_kept, State.kept, State.base]

theorem State.mergeScene_kept (s : State) (p : Nat) : (State.mergeScene s p).kept = s.kept := by
  unfold State.mergeScene; grind [State.applyHeader_kept, State.mergeList_kept, State.makePlan_kept, State.fixLaunch_kept, State.kept, State.base]

theorem State.pruneStream_kept (s : State) (p : Nat) : (State.pruneStream s p).kept = s.kept := by
  unfold State.pruneStream; grind [State.each_kept, State.modSlot_kept, State.kept, State.base]

theorem State.moveCtxs_kept (s : State) (moves : List (Nat × Nat)) : (State.moveCtxs s moves).kept = s.kept := by
  unfold State.moveCtxs; grind [State.kept, State.base]

theorem State.unrap_kept (s : State) (l : List Nat) : (State.unrap s l).kept = s.kept := by
  unfold State.unrap; grind [State.kept, State.base]

theorem State.stepCtx_kept (s : State) (q : CtxPlan) : (State.stepCtx s q).kept = s.kept := by
  unfold State.stepCtx; grind [State.each_kept, State.initCtx_kept, State.unrap_kept, State.moveCtxs_kept, State.kept, State.base]

theorem State.stepCtxs_kept (s : State) (l : List CtxPlan) : (State.stepCtxs s l).kept = s.kept := by
  induction l generalizing s with
  | nil => rfl
  | cons q r ih =>
    unfold State.stepCtxs
    split
    · rfl
    · exact (ih _).trans (State.stepCtx_kept ..)

theorem State.lateCtxs_kept (s : State) : (State.lateCtxs s).kept = s.kept := State.stepCtxs_kept ..

theorem State.ctxPlan_kept (s : State) : (State.ctxPlan s).kept = s.kept := by
  unfold State.ctxPlan; grind [State.lateCtxs_kept, State.kept, State.base]

theorem State.endReleased_kept (s : State) (p : Nat) : (State.endReleased s p).kept = s.kept := by
  unfold State.endReleased; grind [State.each_kept, State.kept, State.base]

theorem State.endCards_kept (s : State) (p : Nat) : (State.endCards s p).kept = s.kept := by
  unfold State.endCards; grind [State.each_kept, State.endCard_kept, State.kept, State.base]

end Sys2Proof.Machine
end

