-- ==== Sys2Proof/Laws/KeptImage.lean ====
section
/-! SUPPORT. What the operations of Machine/Image.lean keep: one lemma for each, `_kept` where it keeps the whole kept part, `_base` where it keeps the
base only. -/

namespace Sys2Proof.Machine

theorem State.bootStep_kept (s : State) (k : Nat) : (State.bootStep s k).kept = s.kept := by
  unfold State.bootStep; grind [State.wr_kept, State.raise_kept, State.kept, State.base]

theorem State.imageFail_kept (s : State) : (State.imageFail s).kept = s.kept := by
  unfold State.imageFail; grind [State.showNvm_kept, State.kept, State.base]

theorem State.unload_base (s : State) : (State.unload s).base = s.base := by
  rfl

theorem State.noteFail_kept (s : State) (bank cause : Nat) : (State.noteFail s bank cause).kept = s.kept := by
  unfold State.noteFail; grind [State.wr_kept, State.raise_kept, State.kept, State.base]

theorem State.secondBank_kept (s : State) : (State.secondBank s).kept = s.kept := by
  unfold State.secondBank; grind [State.wr_kept, State.noteFail_kept, State.imageFail_kept, State.kept, State.base]

theorem State.failBank_base (s : State) (cause : Nat) : (State.failBank s cause).base = s.base := by
  unfold State.failBank; grind [State.unload_base, State.noteFail_kept, State.imageFail_kept, State.secondBank_kept, State.kept, State.base]

theorem State.chooseBank_base (s : State) : (State.chooseBank s).base = s.base := by
  unfold State.chooseBank; grind [State.wr_kept, State.raise_kept, State.failBank_base, State.kept, State.base]

theorem State.redoErase_kept (s : State) : (State.redoErase s).kept = s.kept := by
  unfold State.redoErase; grind [State.raise_kept, State.wr_kept, State.nvmQueue_kept, State.kept, State.base]

theorem State.flightBegin_kept (s : State) : (State.flightBegin s).kept = s.kept := by
  exact (State.flightKick_kept _).trans (State.each_kept _ _ _ (fun _ _ => State.reqUp_kept ..))

theorem State.takeHeader_kept (s : State) (h : ImgHeader) (dqsFails : Nat) : (State.takeHeader s h dqsFails).kept = s.kept := by
  unfold State.takeHeader; grind [State.kept, State.base]

theorem State.headerChecked_base (s : State) (cause : Nat) (h : ImgHeader) (dqsFails : Nat) : (State.headerChecked s cause h dqsFails).base = s.base := by
  unfold State.headerChecked; grind [State.failBank_base, State.takeHeader_kept, State.bootStep_kept, State.flightBegin_kept, State.kept, State.base]

theorem State.headerRead_base (s : State) (dqsFails : Nat) : (State.headerRead s dqsFails).base = s.base := by
  unfold State.headerRead; grind [State.bootStep_kept, State.headerChecked_base, State.kept, State.base]

theorem State.withBankTables_kept (s : State) : (State.withBankTables s).kept = s.kept := by
  unfold State.withBankTables; grind [State.kept, State.base]

theorem State.recordsEnd_base (s : State) (e : RecEnd) : (State.recordsEnd s e).base = s.base := by
  unfold State.recordsEnd; grind [State.failBank_base, State.kept, State.base]

theorem State.withImage_kept (s : State) (tables : List ((Nat × Nat) × List Byte)) (man : List (Nat × Nat)) : (State.withImage s tables man).kept = s.kept := by
  rfl

theorem State.withPanelTables_kept (s : State) (bounds : List Int) (codes : List (List Nat)) (card : List Byte) : (State.withPanelTables s bounds codes card).kept = s.kept := by
  unfold State.withPanelTables; grind [State.wr_kept, State.kept, State.base]

theorem State.panelTables_kept (s : State) : (State.panelTables s).kept = s.kept := by
  exact State.withPanelTables_kept ..

theorem State.showImage_kept (s : State) (used : Bool) : (State.showImage s used).kept = s.kept := by
  unfold State.showImage; grind [State.wr_kept, State.kept, State.base]

theorem State.acceptImage_kept (s : State) (tables : List ((Nat × Nat) × List Byte)) (man : List (Nat × Nat)) : (State.acceptImage s tables man).kept = s.kept := by
  unfold State.acceptImage; grind [State.withImage_kept, State.panelTables_kept, State.showImage_kept, State.bootStep_kept, State.trainStart_kept, State.loopStart_kept, State.towRx_kept, State.gensFollow_kept, State.kept, State.base]

theorem State.bootPanel_kept (s : State) : (State.bootPanel s).kept = s.kept := by
  have img (u : State) (h : u.kept = s.kept) : State.kept { u with img := { u.img with panelStep := true } } = s.kept := h
  have lanes (u : State) (x : LanesSt) (n : Nat) (h : u.kept = s.kept) : State.kept { u with lanes := x, choices := n } = s.kept := h
  exact img _ ((State.panelBoot_kept _).trans (lanes (s.bootStep 13) _ _ (State.bootStep_kept s 13)))

theorem State.bootAdvance_kept (s : State) : (State.bootAdvance s).kept = s.kept := by
  unfold State.bootAdvance
  split
  · rfl
  · exact (State.when_kept _ _ _ (fun _ => State.bootPanel_kept _)).trans ((State.when_kept _ _ _ (fun _ => State.bootStep_kept ..)).trans
      ((State.when_kept _ _ _ (fun _ => State.bootStep_kept ..)).trans (State.when_kept _ _ _ (fun _ => State.bootStep_kept ..))))

theorem State.bootTrained_kept (s : State) : (State.bootTrained s).kept = s.kept := by
  unfold State.bootTrained; grind [State.bootAdvance_kept, State.kept, State.base]

theorem State.bootWeir_kept (s : State) : (State.bootWeir s).kept = s.kept := by
  unfold State.bootWeir; grind [State.bootAdvance_kept, State.kept, State.base]

theorem State.bootTime_kept (s : State) : (State.bootTime s).kept = s.kept := by
  unfold State.bootTime; grind [State.bootAdvance_kept, State.kept, State.base]

theorem State.freeRunTimeout_kept (s : State) : (State.freeRunTimeout s).kept = s.kept := by
  unfold State.freeRunTimeout; grind [State.bootTime_kept, State.kept, State.base]

theorem State.firstCloseSet_base (s : State) : (State.firstCloseSet s).base = s.base := by
  unfold State.firstCloseSet; grind [State.bootStep_kept, State.bootPounds_base, State.kept, State.base]

theorem State.verifyDone_kept (s : State) (readErr : Bool) : (State.verifyDone s readErr).kept = s.kept := by
  unfold State.verifyDone; grind [State.updState_kept, State.updFail_kept, State.kept, State.base]

end Sys2Proof.Machine
end

