-- ==== Sys2Proof/Laws/KeptJtag.lean ====
section
/-! SUPPORT. What the operations of Machine/Jtag.lean keep: one lemma for each, `_kept` where it keeps the whole kept part, `_base` where it keeps the
base only. -/

namespace Sys2Proof.Machine



end Sys2Proof.Machine
end

