-- ==== Sys2Proof/Laws/KeptLock.lean ====
section
/-! SUPPORT. What the operations of Machine/Lock.lean keep: one lemma for each, `_kept` where it keeps the whole kept part, `_base` where it keeps the
base only. -/

namespace Sys2Proof.Machine

theorem State.permit_kept (s : State) (src allow : Nat) (e : Nat × Nat) : (State.permit s src allow e).1.kept = s.kept := by
  unfold State.permit; grind [State.raise_kept, State.kept, State.base]

theorem State.gather_kept (s : State) (src allow : Nat) (l : List (Nat × Nat)) : (State.gather s src allow l).1.kept = s.kept := by
  unfold State.gather
  refine foldl_pair_kept l _ (fun a x => ?_) (s, (0, 0))
  exact State.permit_kept a.1 src allow x

theorem State.gpioLevels_kept (s : State) : (State.gpioLevels s).1.kept = s.kept := by
  unfold State.gpioLevels
  refine foldl_pair_kept _ _ (fun a x => ?_) _
  dsimp only
  split
  · exact State.choose_kept ..
  · rfl

theorem State.mergeModes_kept (s : State) (p : Nat) : (State.mergeModes s p).1.kept = s.kept := by
  unfold State.mergeModes; grind [State.gather_kept, State.gpioLevels_kept, State.wr_kept, State.kept, State.base]

theorem State.faultRelease_kept (s : State) : (State.faultRelease s).kept = s.kept := by
  unfold State.faultRelease; grind [State.kept, State.base]

theorem State.closeStart_base (s : State) : (State.closeStart s).base = s.base := by
  unfold State.closeStart; grind [State.when_kept, State.wr_kept, State.faultRelease_kept, State.kept, State.base]

theorem State.ladderAt_kept (s : State) (p : Nat) : (State.ladderAt s p).kept = s.kept := by
  unfold State.ladderAt; grind [State.ladder_kept, State.sendDelta_kept, State.kept, State.base]

theorem State.deadlines_kept (s : State) (p : Nat) : (State.deadlines s p).kept = s.kept := by
  unfold State.deadlines; grind [State.markReady_kept, State.tugLate_kept, State.retryCards_kept, State.showDecLoad_kept, State.sendSeal_kept, State.kept, State.base]

theorem State.freeze_kept (s : State) (p : Nat) (mode : BitVec 8) (own : Bool) : (State.freeze s p mode own).kept = s.kept := by
  unfold State.freeze; grind [State.kept, State.base]

theorem State.lockClose_base (s : State) : (State.lockClose s).base = s.base := by
  unfold State.lockClose; grind [State.closeStart_base, State.frameLate_kept, State.ladderAt_kept, State.pairClose_kept, State.joinMerge_kept, State.deadlines_kept, State.mergeScene_kept, State.mergeModes_kept, State.freeze_kept, State.kept, State.base]

theorem State.levelStage_kept (s : State) (block inst : Nat) : (State.levelStage s block inst).kept = s.kept := by
  unfold State.levelStage; grind [State.kept, State.base]

theorem State.noteMiss_kept (s : State) (fresh : Bool) : (State.noteMiss s fresh).kept = s.kept := by
  unfold State.noteMiss; grind [State.noteFault_kept, State.recoveryOf_kept, State.kept, State.base]

theorem State.countMisses_kept (s : State) (miss : Nat) : (State.countMisses s miss).kept = s.kept := by
  unfold State.countMisses; grind [State.kept, State.base]

theorem State.rejectSet_kept (s : State) (veto : Nat) : (State.rejectSet s veto).kept = s.kept := by
  unfold State.rejectSet; (repeat' split) <;> grind [State.wr_kept, State.raise_kept, State.inc_kept, State.kept, State.base, LedSt.discard_index, LedSt.discard_bank0, LedSt.discard_bank1]

theorem State.takeMisses_kept (s : State) (miss : Nat) : (State.takeMisses s miss).kept = s.kept := by
  unfold State.takeMisses; grind [State.when_kept, State.noteMiss_kept, State.countMisses_kept, State.kept, State.base]

theorem State.lateMisses_kept (s : State) : (State.lateMisses s).kept = s.kept := by
  unfold State.lateMisses; grind [State.wr_kept, State.takeMisses_kept, State.kept, State.base]

theorem State.lockDecide_kept (s : State) (expired : Bool) : (State.lockDecide s expired).kept = s.kept := by
  unfold State.lockDecide; grind [State.wr_kept, State.peak_kept, State.raise_kept, State.rejectSet_kept, State.takeMisses_kept, State.kept, State.base]

theorem State.takeReport_kept (s : State) (block flip : Nat) : (State.takeReport s block flip).1.kept = s.kept := by
  unfold State.takeReport; grind [State.kept, State.base]

theorem State.commitToken_kept (s : State) (block inst : Nat) : (State.commitToken s block inst).kept = s.kept := by
  unfold State.commitToken; grind [State.modUnit_kept, State.kept, State.base]

theorem State.cycleEnd_base (s : State) : (State.cycleEnd s).base = s.base := by
  unfold State.cycleEnd; grind [State.drainHold_kept, State.kept, State.base]

theorem State.bargeTake_kept (s : State) (block inst : Nat) : (State.bargeTake s block inst).kept = s.kept := by
  unfold State.bargeTake; grind [State.bargeDec_kept, State.bargeAt_kept, State.kept, State.base]

end Sys2Proof.Machine
end

