-- ==== Sys2Proof/Laws/KeptHk.lean ====
section
/-! SUPPORT. What the operations of Machine/Hk.lean keep: one lemma for each, `_kept` where it keeps the whole kept part, `_base` where it keeps the
base only. -/

namespace Sys2Proof.Machine

theorem State.hkChan_kept (s : State) (c : Nat) (v : Nat) : (State.hkChan s c v).kept = s.kept := by
  unfold State.hkChan; grind [State.wr_kept, State.kept, State.base]

theorem State.failSensor_kept (s : State) (i cause : Nat) : (State.failSensor s i cause).kept = s.kept := by
  unfold State.failSensor; grind [State.wr_kept, State.raiseI_kept, State.kept, State.base]

theorem State.sensorFail_kept (s : State) (i : Nat) : (State.sensorFail s i).kept = s.kept := by
  unfold State.sensorFail; grind [State.failSensor_kept, State.kept, State.base]

theorem State.crossCheck_kept (s : State) : (State.crossCheck s).kept = s.kept := by
  unfold State.crossCheck; grind [State.failSensor_kept, State.kept, State.base]

theorem State.countGoods_kept (s : State) (est : Option (List Int)) : (State.countGoods s est).kept = s.kept := by
  unfold State.countGoods; grind [State.kept, State.base]

theorem State.sensorRestore_kept (s : State) (i : Nat) : (State.sensorRestore s i).kept = s.kept := by
  unfold State.sensorRestore; grind [State.wr_kept, State.raiseI_kept, State.kept, State.base]

theorem State.showEst_kept (s : State) (est : Option (List Int)) : (State.showEst s est).kept = s.kept := by
  unfold State.showEst; grind [State.each_kept, State.wr_kept, State.kept, State.base]

theorem State.exhaustion_kept (s : State) : (State.exhaustion s).kept = s.kept := by
  unfold State.exhaustion; grind [State.wr_kept, State.raise_kept, State.kept, State.base]

theorem State.warnLevel_kept (s : State) (hot : Int) : (State.warnLevel s hot).kept = s.kept := by
  unfold State.warnLevel; grind [State.wr_kept, State.raise_kept, State.kept, State.base]

theorem State.capStep_kept (s : State) (cap : Nat) (hot : Int) (up : Bool) : (State.capStep s cap hot up).kept = s.kept := by
  unfold State.capStep; grind [State.wr_kept, State.raise_kept, State.inc_kept, State.kept, State.base]

theorem State.enterThrottle_kept (s : State) : (State.enterThrottle s).kept = s.kept := by
  unfold State.enterThrottle; grind [State.wr_kept, State.kept, State.base]

theorem State.throttle_kept (s : State) (hot : Int) : (State.throttle s hot).kept = s.kept := by
  unfold State.throttle; grind [State.wr_kept, State.enterThrottle_kept, State.capStep_kept, State.kept, State.base]

theorem State.adoptRef_kept (s : State) : (State.adoptRef s).kept = s.kept := by
  unfold State.adoptRef; grind [State.raiseOnce_kept, State.kept, State.base]

theorem State.modelAbsent_kept (s : State) : (State.modelAbsent s).kept = s.kept := by
  unfold State.modelAbsent; grind [State.raise_kept, State.kept, State.base]

theorem State.thermOut_kept (s : State) (before : Nat) : (State.thermOut s before).kept = s.kept := by
  unfold State.thermOut; grind [State.wr_kept, State.domainsNeed_kept, State.kept, State.base]

theorem State.thermUsers_kept (s : State) (status : List Byte) : (State.thermUsers s status).kept = s.kept := by
  unfold State.thermUsers; grind [State.each_kept, State.updateRefresh_kept, State.updateFf_kept, State.roundStatus_kept, State.panelTry_kept, State.kept, State.base]

theorem State.hkTemps_kept (s : State) : (State.hkTemps s).1.kept = s.kept := by
  unfold State.hkTemps; grind [State.each_kept, State.failSensor_kept, State.crossCheck_kept, State.countGoods_kept, State.showEst_kept, State.wr_kept, State.kept, State.base]

theorem State.noraiseEnd_kept (s : State) : (State.noraiseEnd s).kept = s.kept := by
  unfold State.noraiseEnd; grind [State.wr_kept, State.kept, State.base]

theorem State.thermalExit_kept (s : State) : (State.thermalExit s).kept = s.kept := by
  unfold State.thermalExit; grind [State.wr_kept, State.thermOut_kept, State.kept, State.base]

end Sys2Proof.Machine
end

