-- ==== Sys2Proof/Laws/KeptOpen.lean ====
section
/-! SUPPORT. What the operations of Machine/Open.lean keep: one lemma for each, `_kept` where it keeps the whole kept part, `_base` where it keeps the
base only. -/

namespace Sys2Proof.Machine

theorem State.withCommit_base (s : State) : ({ s with led := s.led.commit s.lock.frozen } : State).base = s.base := rfl

theorem State.withRung_base (s : State) (b : Bool) : ({ s with comp := { s.comp with rungDue := b } } : State).base = s.base := rfl

theorem State.commitSet_base (s : State) : (State.commitSet s).base = s.base := by
  exact State.base_of_kept (State.wr_kept ..) |>.trans ((State.base_of_kept (State.incWrap_kept ..)).trans (State.withCommit_base s))

theorem State.applySet_base (s : State) : (State.applySet s).base = s.base := by
  exact (State.withRung_base _ _).trans (State.commitSet_base s)

theorem State.openWith_base (s : State) (l : LockSt) (p : Nat) : ({ s with lock := l, pwr := s.pwr.markPound p } : State).base = s.base := by
  unfold State.base
  simp only [PwrSt.markPound_straps]

theorem State.openLock_base (s : State) (applied : Bool) : (s.openLock applied).base = s.base := by
  have h : (s.when applied State.applySet).base = s.base := by
    unfold State.when; split
    · exact State.applySet_base s
    · rfl
  exact (State.openWith_base _ _ _).trans h

theorem State.dropReport_kept (s : State) (about : Nat) : (State.dropReport s about).kept = s.kept := by
  unfold State.dropReport; grind [State.kept, State.base]

theorem State.otpAct_kept (s : State) : (State.otpAct s).kept = s.kept := by
  unfold State.otpAct; grind [State.nvmQueue_kept, State.kept, State.base]

theorem State.holdStart_kept (s : State) (p : Nat) : (State.holdStart s p).kept = s.kept := by
  unfold State.holdStart; grind [State.each_kept, State.planCtx_kept, State.ctxPlan_kept, State.endCard_kept, State.recoveryOf_kept, State.wr_kept, State.kept, State.base]

theorem State.holdEnd_kept (s : State) (p : Nat) : (State.holdEnd s p).kept = s.kept := by
  unfold State.holdEnd; grind [State.wr_kept, State.kept, State.base]

theorem State.newGeometry_kept (s : State) (p : Nat) : (State.newGeometry s p).kept = s.kept := by
  unfold State.newGeometry; grind [State.emptySlots_kept, State.raise_kept, State.kept, State.base]

theorem State.sendEyes_kept (s : State) (p : Nat) : (State.sendEyes s p).kept = s.kept := by
  unfold State.sendEyes; grind [State.sendDelta_kept, State.kept, State.base]

theorem State.correctionReport_kept (s : State) : (State.correctionReport s).kept = s.kept := by
  unfold State.correctionReport; grind [State.raiseI_kept, State.kept, State.base]

theorem State.openMoors_kept (s : State) (p : Nat) : (State.openMoors s p).kept = s.kept := by
  unfold State.openMoors; grind [State.correctionReport_kept, State.kept, State.base]

theorem State.bypassChange_kept (s : State) (old : CSet) : (State.bypassChange s old).kept = s.kept := by
  unfold State.bypassChange; grind [State.weirTo_kept, State.portRx_kept, State.loopStart_kept, State.kept, State.base]

theorem State.bandwidths_kept (s : State) : (State.bandwidths s).kept = s.kept := by
  unfold State.bandwidths; grind [State.kept, State.base]

theorem State.lostReport_kept (s : State) (about : Nat) : (State.lostReport s about).kept = s.kept := by
  unfold State.lostReport; grind [State.raise_kept, State.kept, State.base]

theorem State.pruneReleased_kept (s : State) (p : Nat) : (State.pruneReleased s p).kept = s.kept := by
  unfold State.pruneReleased; grind [State.kept, State.base]

theorem State.openReports_kept (s : State) (old : CSet) (first : Bool) (prev : Nat) : (State.openReports s old first prev).kept = s.kept := by
  unfold State.openReports; grind [State.dropReport_kept, State.raise_kept, State.lostReport_kept, State.ringPoundReports_kept, State.otpAct_kept, State.clockStep_kept, State.kept, State.base]

theorem State.openUnits_kept (s : State) (old : CSet) (first : Bool) : (State.openUnits s old first).kept = s.kept := by
  unfold State.openUnits; grind [State.pairOpen_kept, State.tugOpen_kept, State.pruneReleased_kept, State.pruneStream_kept, State.openTaps_kept, State.bypassChange_kept, State.gensFollow_kept, State.checksFollow_kept, State.towCfg_kept, State.groupReports_kept, State.bandwidths_kept, State.panelOpen_kept, State.camOpen_kept, State.encOpen_kept, State.domainsNeed_kept, State.kept, State.base]

end Sys2Proof.Machine
end

