-- ==== Sys2Proof/Laws/State.lean ====
section
/-! SUPPORT. What the shared updates of the state leave alone: one lemma for each field and update, so that no later proof unfolds a record
update. -/

namespace Sys2Proof.Machine

variable (s : State)

@[simp] theorem State.tick_led (t : Nat) : (s.tick t).led = s.led := rfl
@[simp] theorem State.tick_evt (t : Nat) : (s.tick t).evt = s.evt := rfl
@[simp] theorem State.tick_lock (t : Nat) : (s.tick t).lock = s.lock := rfl
@[simp] theorem State.tick_units (t : Nat) : (s.tick t).units = s.units := rfl
@[simp] theorem State.tick_pwr (t : Nat) : (s.tick t).pwr = s.pwr := rfl
@[simp] theorem State.tick_img (t : Nat) : (s.tick t).img = s.img := rfl
@[simp] theorem State.tick_ring (t : Nat) : (s.tick t).ring = s.ring := rfl
@[simp] theorem State.tick_time (t : Nat) : (s.tick t).time = s.time := rfl
@[simp] theorem State.tick_strm (t : Nat) : (s.tick t).strm = s.strm := rfl
@[simp] theorem State.tick_sec (t : Nat) : (s.tick t).sec = s.sec := rfl
@[simp] theorem State.tick_dec (t : Nat) : (s.tick t).dec = s.dec := rfl
@[simp] theorem State.tick_comp (t : Nat) : (s.tick t).comp = s.comp := rfl
@[simp] theorem State.tick_tug (t : Nat) : (s.tick t).tug = s.tug := rfl
@[simp] theorem State.tick_scan (t : Nat) : (s.tick t).scan = s.scan := rfl
@[simp] theorem State.tick_basin (t : Nat) : (s.tick t).basin = s.basin := rfl
@[simp] theorem State.tick_lanes (t : Nat) : (s.tick t).lanes = s.lanes := rfl
@[simp] theorem State.tick_panel (t : Nat) : (s.tick t).panel = s.panel := rfl
@[simp] theorem State.tick_hk (t : Nat) : (s.tick t).hk = s.hk := rfl
@[simp] theorem State.tick_cam (t : Nat) : (s.tick t).cam = s.cam := rfl
@[simp] theorem State.tick_enc (t : Nat) : (s.tick t).enc = s.enc := rfl
@[simp] theorem State.tick_pair (t : Nat) : (s.tick t).pair = s.pair := rfl
@[simp] theorem State.tick_lz (t : Nat) : (s.tick t).lz = s.lz := rfl
@[simp] theorem State.tick_tx (t : Nat) : (s.tick t).tx = s.tx := rfl
@[simp] theorem State.tick_mgmt (t : Nat) : (s.tick t).mgmt = s.mgmt := rfl
@[simp] theorem State.tick_jtag (t : Nat) : (s.tick t).jtag = s.jtag := rfl
@[simp] theorem State.tick_choices (t : Nat) : (s.tick t).choices = s.choices := rfl
@[simp] theorem State.tick_pending (t : Nat) : (s.tick t).pending = s.pending := rfl

@[simp] theorem State.setLive_clk (m : RegFile) : (s.setLive m).clk = s.clk := rfl
@[simp] theorem State.setLive_evt (m : RegFile) : (s.setLive m).evt = s.evt := rfl
@[simp] theorem State.setLive_lock (m : RegFile) : (s.setLive m).lock = s.lock := rfl
@[simp] theorem State.setLive_units (m : RegFile) : (s.setLive m).units = s.units := rfl
@[simp] theorem State.setLive_pwr (m : RegFile) : (s.setLive m).pwr = s.pwr := rfl
@[simp] theorem State.setLive_img (m : RegFile) : (s.setLive m).img = s.img := rfl
@[simp] theorem State.setLive_ring (m : RegFile) : (s.setLive m).ring = s.ring := rfl
@[simp] theorem State.setLive_time (m : RegFile) : (s.setLive m).time = s.time := rfl
@[simp] theorem State.setLive_strm (m : RegFile) : (s.setLive m).strm = s.strm := rfl
@[simp] theorem State.setLive_sec (m : RegFile) : (s.setLive m).sec = s.sec := rfl
@[simp] theorem State.setLive_dec (m : RegFile) : (s.setLive m).dec = s.dec := rfl
@[simp] theorem State.setLive_comp (m : RegFile) : (s.setLive m).comp = s.comp := rfl
@[simp] theorem State.setLive_tug (m : RegFile) : (s.setLive m).tug = s.tug := rfl
@[simp] theorem State.setLive_scan (m : RegFile) : (s.setLive m).scan = s.scan := rfl
@[simp] theorem State.setLive_basin (m : RegFile) : (s.setLive m).basin = s.basin := rfl
@[simp] theorem State.setLive_lanes (m : RegFile) : (s.setLive m).lanes = s.lanes := rfl
@[simp] theorem State.setLive_panel (m : RegFile) : (s.setLive m).panel = s.panel := rfl
@[simp] theorem State.setLive_hk (m : RegFile) : (s.setLive m).hk = s.hk := rfl
@[simp] theorem State.setLive_cam (m : RegFile) : (s.setLive m).cam = s.cam := rfl
@[simp] theorem State.setLive_enc (m : RegFile) : (s.setLive m).enc = s.enc := rfl
@[simp] theorem State.setLive_pair (m : RegFile) : (s.setLive m).pair = s.pair := rfl
@[simp] theorem State.setLive_lz (m : RegFile) : (s.setLive m).lz = s.lz := rfl
@[simp] theorem State.setLive_tx (m : RegFile) : (s.setLive m).tx = s.tx := rfl
@[simp] theorem State.setLive_mgmt (m : RegFile) : (s.setLive m).mgmt = s.mgmt := rfl
@[simp] theorem State.setLive_jtag (m : RegFile) : (s.setLive m).jtag = s.jtag := rfl
@[simp] theorem State.setLive_choices (m : RegFile) : (s.setLive m).choices = s.choices := rfl
@[simp] theorem State.setLive_pending (m : RegFile) : (s.setLive m).pending = s.pending := rfl

@[simp] theorem State.wr_clk (f : Fld) (v : Nat) : (s.wr f v).clk = s.clk := rfl
@[simp] theorem State.wr_evt (f : Fld) (v : Nat) : (s.wr f v).evt = s.evt := rfl
@[simp] theorem State.wr_lock (f : Fld) (v : Nat) : (s.wr f v).lock = s.lock := rfl
@[simp] theorem State.wr_units (f : Fld) (v : Nat) : (s.wr f v).units = s.units := rfl
@[simp] theorem State.wr_pwr (f : Fld) (v : Nat) : (s.wr f v).pwr = s.pwr := rfl
@[simp] theorem State.wr_img (f : Fld) (v : Nat) : (s.wr f v).img = s.img := rfl
@[simp] theorem State.wr_ring (f : Fld) (v : Nat) : (s.wr f v).ring = s.ring := rfl
@[simp] theorem State.wr_time (f : Fld) (v : Nat) : (s.wr f v).time = s.time := rfl
@[simp] theorem State.wr_strm (f : Fld) (v : Nat) : (s.wr f v).strm = s.strm := rfl
@[simp] theorem State.wr_sec (f : Fld) (v : Nat) : (s.wr f v).sec = s.sec := rfl
@[simp] theorem State.wr_dec (f : Fld) (v : Nat) : (s.wr f v).dec = s.dec := rfl
@[simp] theorem State.wr_comp (f : Fld) (v : Nat) : (s.wr f v).comp = s.comp := rfl
@[simp] theorem State.wr_tug (f : Fld) (v : Nat) : (s.wr f v).tug = s.tug := rfl
@[simp] theorem State.wr_scan (f : Fld) (v : Nat) : (s.wr f v).scan = s.scan := rfl
@[simp] theorem State.wr_basin (f : Fld) (v : Nat) : (s.wr f v).basin = s.basin := rfl
@[simp] theorem State.wr_lanes (f : Fld) (v : Nat) : (s.wr f v).lanes = s.lanes := rfl
@[simp] theorem State.wr_panel (f : Fld) (v : Nat) : (s.wr f v).panel = s.panel := rfl
@[simp] theorem State.wr_hk (f : Fld) (v : Nat) : (s.wr f v).hk = s.hk := rfl
@[simp] theorem State.wr_cam (f : Fld) (v : Nat) : (s.wr f v).cam = s.cam := rfl
@[simp] theorem State.wr_enc (f : Fld) (v : Nat) : (s.wr f v).enc = s.enc := rfl
@[simp] theorem State.wr_pair (f : Fld) (v : Nat) : (s.wr f v).pair = s.pair := rfl
@[simp] theorem State.wr_lz (f : Fld) (v : Nat) : (s.wr f v).lz = s.lz := rfl
@[simp] theorem State.wr_tx (f : Fld) (v : Nat) : (s.wr f v).tx = s.tx := rfl
@[simp] theorem State.wr_mgmt (f : Fld) (v : Nat) : (s.wr f v).mgmt = s.mgmt := rfl
@[simp] theorem State.wr_jtag (f : Fld) (v : Nat) : (s.wr f v).jtag = s.jtag := rfl
@[simp] theorem State.wr_choices (f : Fld) (v : Nat) : (s.wr f v).choices = s.choices := rfl
@[simp] theorem State.wr_pending (f : Fld) (v : Nat) : (s.wr f v).pending = s.pending := rfl

@[simp] theorem State.wrW_clk (a : Nat) (w : Word) : (s.wrW a w).clk = s.clk := rfl
@[simp] theorem State.wrW_evt (a : Nat) (w : Word) : (s.wrW a w).evt = s.evt := rfl
@[simp] theorem State.wrW_lock (a : Nat) (w : Word) : (s.wrW a w).lock = s.lock := rfl
@[simp] theorem State.wrW_units (a : Nat) (w : Word) : (s.wrW a w).units = s.units := rfl
@[simp] theorem State.wrW_pwr (a : Nat) (w : Word) : (s.wrW a w).pwr = s.pwr := rfl
@[simp] theorem State.wrW_img (a : Nat) (w : Word) : (s.wrW a w).img = s.img := rfl
@[simp] theorem State.wrW_ring (a : Nat) (w : Word) : (s.wrW a w).ring = s.ring := rfl
@[simp] theorem State.wrW_time (a : Nat) (w : Word) : (s.wrW a w).time = s.time := rfl
@[simp] theorem State.wrW_strm (a : Nat) (w : Word) : (s.wrW a w).strm = s.strm := rfl
@[simp] theorem State.wrW_sec (a : Nat) (w : Word) : (s.wrW a w).sec = s.sec := rfl
@[simp] theorem State.wrW_dec (a : Nat) (w : Word) : (s.wrW a w).dec = s.dec := rfl
@[simp] theorem State.wrW_comp (a : Nat) (w : Word) : (s.wrW a w).comp = s.comp := rfl
@[simp] theorem State.wrW_tug (a : Nat) (w : Word) : (s.wrW a w).tug = s.tug := rfl
@[simp] theorem State.wrW_scan (a : Nat) (w : Word) : (s.wrW a w).scan = s.scan := rfl
@[simp] theorem State.wrW_basin (a : Nat) (w : Word) : (s.wrW a w).basin = s.basin := rfl
@[simp] theorem State.wrW_lanes (a : Nat) (w : Word) : (s.wrW a w).lanes = s.lanes := rfl
@[simp] theorem State.wrW_panel (a : Nat) (w : Word) : (s.wrW a w).panel = s.panel := rfl
@[simp] theorem State.wrW_hk (a : Nat) (w : Word) : (s.wrW a w).hk = s.hk := rfl
@[simp] theorem State.wrW_cam (a : Nat) (w : Word) : (s.wrW a w).cam = s.cam := rfl
@[simp] theorem State.wrW_enc (a : Nat) (w : Word) : (s.wrW a w).enc = s.enc := rfl
@[simp] theorem State.wrW_pair (a : Nat) (w : Word) : (s.wrW a w).pair = s.pair := rfl
@[simp] theorem State.wrW_lz (a : Nat) (w : Word) : (s.wrW a w).lz = s.lz := rfl
@[simp] theorem State.wrW_tx (a : Nat) (w : Word) : (s.wrW a w).tx = s.tx := rfl
@[simp] theorem State.wrW_mgmt (a : Nat) (w : Word) : (s.wrW a w).mgmt = s.mgmt := rfl
@[simp] theorem State.wrW_jtag (a : Nat) (w : Word) : (s.wrW a w).jtag = s.jtag := rfl
@[simp] theorem State.wrW_choices (a : Nat) (w : Word) : (s.wrW a w).choices = s.choices := rfl
@[simp] theorem State.wrW_pending (a : Nat) (w : Word) : (s.wrW a w).pending = s.pending := rfl

@[simp] theorem State.add_clk (f : Fld) (n : Nat) : (s.add f n).clk = s.clk := rfl
@[simp] theorem State.add_evt (f : Fld) (n : Nat) : (s.add f n).evt = s.evt := rfl
@[simp] theorem State.add_lock (f : Fld) (n : Nat) : (s.add f n).lock = s.lock := rfl
@[simp] theorem State.add_units (f : Fld) (n : Nat) : (s.add f n).units = s.units := rfl
@[simp] theorem State.add_pwr (f : Fld) (n : Nat) : (s.add f n).pwr = s.pwr := rfl
@[simp] theorem State.add_img (f : Fld) (n : Nat) : (s.add f n).img = s.img := rfl
@[simp] theorem State.add_ring (f : Fld) (n : Nat) : (s.add f n).ring = s.ring := rfl
@[simp] theorem State.add_time (f : Fld) (n : Nat) : (s.add f n).time = s.time := rfl
@[simp] theorem State.add_strm (f : Fld) (n : Nat) : (s.add f n).strm = s.strm := rfl
@[simp] theorem State.add_sec (f : Fld) (n : Nat) : (s.add f n).sec = s.sec := rfl
@[simp] theorem State.add_dec (f : Fld) (n : Nat) : (s.add f n).dec = s.dec := rfl
@[simp] theorem State.add_comp (f : Fld) (n : Nat) : (s.add f n).comp = s.comp := rfl
@[simp] theorem State.add_tug (f : Fld) (n : Nat) : (s.add f n).tug = s.tug := rfl
@[simp] theorem State.add_scan (f : Fld) (n : Nat) : (s.add f n).scan = s.scan := rfl
@[simp] theorem State.add_basin (f : Fld) (n : Nat) : (s.add f n).basin = s.basin := rfl
@[simp] theorem State.add_lanes (f : Fld) (n : Nat) : (s.add f n).lanes = s.lanes := rfl
@[simp] theorem State.add_panel (f : Fld) (n : Nat) : (s.add f n).panel = s.panel := rfl
@[simp] theorem State.add_hk (f : Fld) (n : Nat) : (s.add f n).hk = s.hk := rfl
@[simp] theorem State.add_cam (f : Fld) (n : Nat) : (s.add f n).cam = s.cam := rfl
@[simp] theorem State.add_enc (f : Fld) (n : Nat) : (s.add f n).enc = s.enc := rfl
@[simp] theorem State.add_pair (f : Fld) (n : Nat) : (s.add f n).pair = s.pair := rfl
@[simp] theorem State.add_lz (f : Fld) (n : Nat) : (s.add f n).lz = s.lz := rfl
@[simp] theorem State.add_tx (f : Fld) (n : Nat) : (s.add f n).tx = s.tx := rfl
@[simp] theorem State.add_mgmt (f : Fld) (n : Nat) : (s.add f n).mgmt = s.mgmt := rfl
@[simp] theorem State.add_jtag (f : Fld) (n : Nat) : (s.add f n).jtag = s.jtag := rfl
@[simp] theorem State.add_choices (f : Fld) (n : Nat) : (s.add f n).choices = s.choices := rfl
@[simp] theorem State.add_pending (f : Fld) (n : Nat) : (s.add f n).pending = s.pending := rfl

@[simp] theorem State.inc_clk (f : Fld) : (s.inc f).clk = s.clk := rfl
@[simp] theorem State.inc_evt (f : Fld) : (s.inc f).evt = s.evt := rfl
@[simp] theorem State.inc_lock (f : Fld) : (s.inc f).lock = s.lock := rfl
@[simp] theorem State.inc_units (f : Fld) : (s.inc f).units = s.units := rfl
@[simp] theorem State.inc_pwr (f : Fld) : (s.inc f).pwr = s.pwr := rfl
@[simp] theorem State.inc_img (f : Fld) : (s.inc f).img = s.img := rfl
@[simp] theorem State.inc_ring (f : Fld) : (s.inc f).ring = s.ring := rfl
@[simp] theorem State.inc_time (f : Fld) : (s.inc f).time = s.time := rfl
@[simp] theorem State.inc_strm (f : Fld) : (s.inc f).strm = s.strm := rfl
@[simp] theorem State.inc_sec (f : Fld) : (s.inc f).sec = s.sec := rfl
@[simp] theorem State.inc_dec (f : Fld) : (s.inc f).dec = s.dec := rfl
@[simp] theorem State.inc_comp (f : Fld) : (s.inc f).comp = s.comp := rfl
@[simp] theorem State.inc_tug (f : Fld) : (s.inc f).tug = s.tug := rfl
@[simp] theorem State.inc_scan (f : Fld) : (s.inc f).scan = s.scan := rfl
@[simp] theorem State.inc_basin (f : Fld) : (s.inc f).basin = s.basin := rfl
@[simp] theorem State.inc_lanes (f : Fld) : (s.inc f).lanes = s.lanes := rfl
@[simp] theorem State.inc_panel (f : Fld) : (s.inc f).panel = s.panel := rfl
@[simp] theorem State.inc_hk (f : Fld) : (s.inc f).hk = s.hk := rfl
@[simp] theorem State.inc_cam (f : Fld) : (s.inc f).cam = s.cam := rfl
@[simp] theorem State.inc_enc (f : Fld) : (s.inc f).enc = s.enc := rfl
@[simp] theorem State.inc_pair (f : Fld) : (s.inc f).pair = s.pair := rfl
@[simp] theorem State.inc_lz (f : Fld) : (s.inc f).lz = s.lz := rfl
@[simp] theorem State.inc_tx (f : Fld) : (s.inc f).tx = s.tx := rfl
@[simp] theorem State.inc_mgmt (f : Fld) : (s.inc f).mgmt = s.mgmt := rfl
@[simp] theorem State.inc_jtag (f : Fld) : (s.inc f).jtag = s.jtag := rfl
@[simp] theorem State.inc_choices (f : Fld) : (s.inc f).choices = s.choices := rfl
@[simp] theorem State.inc_pending (f : Fld) : (s.inc f).pending = s.pending := rfl

@[simp] theorem State.incWrap_clk (f : Fld) : (s.incWrap f).clk = s.clk := rfl
@[simp] theorem State.incWrap_evt (f : Fld) : (s.incWrap f).evt = s.evt := rfl
@[simp] theorem State.incWrap_lock (f : Fld) : (s.incWrap f).lock = s.lock := rfl
@[simp] theorem State.incWrap_units (f : Fld) : (s.incWrap f).units = s.units := rfl
@[simp] theorem State.incWrap_pwr (f : Fld) : (s.incWrap f).pwr = s.pwr := rfl
@[simp] theorem State.incWrap_img (f : Fld) : (s.incWrap f).img = s.img := rfl
@[simp] theorem State.incWrap_ring (f : Fld) : (s.incWrap f).ring = s.ring := rfl
@[simp] theorem State.incWrap_time (f : Fld) : (s.incWrap f).time = s.time := rfl
@[simp] theorem State.incWrap_strm (f : Fld) : (s.incWrap f).strm = s.strm := rfl
@[simp] theorem State.incWrap_sec (f : Fld) : (s.incWrap f).sec = s.sec := rfl
@[simp] theorem State.incWrap_dec (f : Fld) : (s.incWrap f).dec = s.dec := rfl
@[simp] theorem State.incWrap_comp (f : Fld) : (s.incWrap f).comp = s.comp := rfl
@[simp] theorem State.incWrap_tug (f : Fld) : (s.incWrap f).tug = s.tug := rfl
@[simp] theorem State.incWrap_scan (f : Fld) : (s.incWrap f).scan = s.scan := rfl
@[simp] theorem State.incWrap_basin (f : Fld) : (s.incWrap f).basin = s.basin := rfl
@[simp] theorem State.incWrap_lanes (f : Fld) : (s.incWrap f).lanes = s.lanes := rfl
@[simp] theorem State.incWrap_panel (f : Fld) : (s.incWrap f).panel = s.panel := rfl
@[simp] theorem State.incWrap_hk (f : Fld) : (s.incWrap f).hk = s.hk := rfl
@[simp] theorem State.incWrap_cam (f : Fld) : (s.incWrap f).cam = s.cam := rfl
@[simp] theorem State.incWrap_enc (f : Fld) : (s.incWrap f).enc = s.enc := rfl
@[simp] theorem State.incWrap_pair (f : Fld) : (s.incWrap f).pair = s.pair := rfl
@[simp] theorem State.incWrap_lz (f : Fld) : (s.incWrap f).lz = s.lz := rfl
@[simp] theorem State.incWrap_tx (f : Fld) : (s.incWrap f).tx = s.tx := rfl
@[simp] theorem State.incWrap_mgmt (f : Fld) : (s.incWrap f).mgmt = s.mgmt := rfl
@[simp] theorem State.incWrap_jtag (f : Fld) : (s.incWrap f).jtag = s.jtag := rfl
@[simp] theorem State.incWrap_choices (f : Fld) : (s.incWrap f).choices = s.choices := rfl
@[simp] theorem State.incWrap_pending (f : Fld) : (s.incWrap f).pending = s.pending := rfl

@[simp] theorem State.peak_clk (f : Fld) (v : Nat) : (s.peak f v).clk = s.clk := rfl
@[simp] theorem State.peak_evt (f : Fld) (v : Nat) : (s.peak f v).evt = s.evt := rfl
@[simp] theorem State.peak_lock (f : Fld) (v : Nat) : (s.peak f v).lock = s.lock := rfl
@[simp] theorem State.peak_units (f : Fld) (v : Nat) : (s.peak f v).units = s.units := rfl
@[simp] theorem State.peak_pwr (f : Fld) (v : Nat) : (s.peak f v).pwr = s.pwr := rfl
@[simp] theorem State.peak_img (f : Fld) (v : Nat) : (s.peak f v).img = s.img := rfl
@[simp] theorem State.peak_ring (f : Fld) (v : Nat) : (s.peak f v).ring = s.ring := rfl
@[simp] theorem State.peak_time (f : Fld) (v : Nat) : (s.peak f v).time = s.time := rfl
@[simp] theorem State.peak_strm (f : Fld) (v : Nat) : (s.peak f v).strm = s.strm := rfl
@[simp] theorem State.peak_sec (f : Fld) (v : Nat) : (s.peak f v).sec = s.sec := rfl
@[simp] theorem State.peak_dec (f : Fld) (v : Nat) : (s.peak f v).dec = s.dec := rfl
@[simp] theorem State.peak_comp (f : Fld) (v : Nat) : (s.peak f v).comp = s.comp := rfl
@[simp] theorem State.peak_tug (f : Fld) (v : Nat) : (s.peak f v).tug = s.tug := rfl
@[simp] theorem State.peak_scan (f : Fld) (v : Nat) : (s.peak f v).scan = s.scan := rfl
@[simp] theorem State.peak_basin (f : Fld) (v : Nat) : (s.peak f v).basin = s.basin := rfl
@[simp] theorem State.peak_lanes (f : Fld) (v : Nat) : (s.peak f v).lanes = s.lanes := rfl
@[simp] theorem State.peak_panel (f : Fld) (v : Nat) : (s.peak f v).panel = s.panel := rfl
@[simp] theorem State.peak_hk (f : Fld) (v : Nat) : (s.peak f v).hk = s.hk := rfl
@[simp] theorem State.peak_cam (f : Fld) (v : Nat) : (s.peak f v).cam = s.cam := rfl
@[simp] theorem State.peak_enc (f : Fld) (v : Nat) : (s.peak f v).enc = s.enc := rfl
@[simp] theorem State.peak_pair (f : Fld) (v : Nat) : (s.peak f v).pair = s.pair := rfl
@[simp] theorem State.peak_lz (f : Fld) (v : Nat) : (s.peak f v).lz = s.lz := rfl
@[simp] theorem State.peak_tx (f : Fld) (v : Nat) : (s.peak f v).tx = s.tx := rfl
@[simp] theorem State.peak_mgmt (f : Fld) (v : Nat) : (s.peak f v).mgmt = s.mgmt := rfl
@[simp] theorem State.peak_jtag (f : Fld) (v : Nat) : (s.peak f v).jtag = s.jtag := rfl
@[simp] theorem State.peak_choices (f : Fld) (v : Nat) : (s.peak f v).choices = s.choices := rfl
@[simp] theorem State.peak_pending (f : Fld) (v : Nat) : (s.peak f v).pending = s.pending := rfl

@[simp] theorem State.raiseI_clk (code block inst arg0 arg1 : Nat) : (s.raiseI code block inst arg0 arg1).clk = s.clk := rfl
@[simp] theorem State.raiseI_led (code block inst arg0 arg1 : Nat) : (s.raiseI code block inst arg0 arg1).led = s.led := rfl
@[simp] theorem State.raiseI_lock (code block inst arg0 arg1 : Nat) : (s.raiseI code block inst arg0 arg1).lock = s.lock := rfl
@[simp] theorem State.raiseI_units (code block inst arg0 arg1 : Nat) : (s.raiseI code block inst arg0 arg1).units = s.units := rfl
@[simp] theorem State.raiseI_pwr (code block inst arg0 arg1 : Nat) : (s.raiseI code block inst arg0 arg1).pwr = s.pwr := rfl
@[simp] theorem State.raiseI_img (code block inst arg0 arg1 : Nat) : (s.raiseI code block inst arg0 arg1).img = s.img := rfl
@[simp] theorem State.raiseI_ring (code block inst arg0 arg1 : Nat) : (s.raiseI code block inst arg0 arg1).ring = s.ring := rfl
@[simp] theorem State.raiseI_time (code block inst arg0 arg1 : Nat) : (s.raiseI code block inst arg0 arg1).time = s.time := rfl
@[simp] theorem State.raiseI_strm (code block inst arg0 arg1 : Nat) : (s.raiseI code block inst arg0 arg1).strm = s.strm := rfl
@[simp] theorem State.raiseI_sec (code block inst arg0 arg1 : Nat) : (s.raiseI code block inst arg0 arg1).sec = s.sec := rfl
@[simp] theorem State.raiseI_dec (code block inst arg0 arg1 : Nat) : (s.raiseI code block inst arg0 arg1).dec = s.dec := rfl
@[simp] theorem State.raiseI_comp (code block inst arg0 arg1 : Nat) : (s.raiseI code block inst arg0 arg1).comp = s.comp := rfl
@[simp] theorem State.raiseI_tug (code block inst arg0 arg1 : Nat) : (s.raiseI code block inst arg0 arg1).tug = s.tug := rfl
@[simp] theorem State.raiseI_scan (code block inst arg0 arg1 : Nat) : (s.raiseI code block inst arg0 arg1).scan = s.scan := rfl
@[simp] theorem State.raiseI_basin (code block inst arg0 arg1 : Nat) : (s.raiseI code block inst arg0 arg1).basin = s.basin := rfl
@[simp] theorem State.raiseI_lanes (code block inst arg0 arg1 : Nat) : (s.raiseI code block inst arg0 arg1).lanes = s.lanes := rfl
@[simp] theorem State.raiseI_panel (code block inst arg0 arg1 : Nat) : (s.raiseI code block inst arg0 arg1).panel = s.panel := rfl
@[simp] theorem State.raiseI_hk (code block inst arg0 arg1 : Nat) : (s.raiseI code block inst arg0 arg1).hk = s.hk := rfl
@[simp] theorem State.raiseI_cam (code block inst arg0 arg1 : Nat) : (s.raiseI code block inst arg0 arg1).cam = s.cam := rfl
@[simp] theorem State.raiseI_enc (code block inst arg0 arg1 : Nat) : (s.raiseI code block inst arg0 arg1).enc = s.enc := rfl
@[simp] theorem State.raiseI_pair (code block inst arg0 arg1 : Nat) : (s.raiseI code block inst arg0 arg1).pair = s.pair := rfl
@[simp] theorem State.raiseI_lz (code block inst arg0 arg1 : Nat) : (s.raiseI code block inst arg0 arg1).lz = s.lz := rfl
@[simp] theorem State.raiseI_tx (code block inst arg0 arg1 : Nat) : (s.raiseI code block inst arg0 arg1).tx = s.tx := rfl
@[simp] theorem State.raiseI_mgmt (code block inst arg0 arg1 : Nat) : (s.raiseI code block inst arg0 arg1).mgmt = s.mgmt := rfl
@[simp] theorem State.raiseI_jtag (code block inst arg0 arg1 : Nat) : (s.raiseI code block inst arg0 arg1).jtag = s.jtag := rfl
@[simp] theorem State.raiseI_choices (code block inst arg0 arg1 : Nat) : (s.raiseI code block inst arg0 arg1).choices = s.choices := rfl
@[simp] theorem State.raiseI_pending (code block inst arg0 arg1 : Nat) : (s.raiseI code block inst arg0 arg1).pending = s.pending := rfl

@[simp] theorem State.raise_clk (code block arg0 arg1 : Nat) : (s.raise code block arg0 arg1).clk = s.clk := rfl
@[simp] theorem State.raise_led (code block arg0 arg1 : Nat) : (s.raise code block arg0 arg1).led = s.led := rfl
@[simp] theorem State.raise_lock (code block arg0 arg1 : Nat) : (s.raise code block arg0 arg1).lock = s.lock := rfl
@[simp] theorem State.raise_units (code block arg0 arg1 : Nat) : (s.raise code block arg0 arg1).units = s.units := rfl
@[simp] theorem State.raise_pwr (code block arg0 arg1 : Nat) : (s.raise code block arg0 arg1).pwr = s.pwr := rfl
@[simp] theorem State.raise_img (code block arg0 arg1 : Nat) : (s.raise code block arg0 arg1).img = s.img := rfl
@[simp] theorem State.raise_ring (code block arg0 arg1 : Nat) : (s.raise code block arg0 arg1).ring = s.ring := rfl
@[simp] theorem State.raise_time (code block arg0 arg1 : Nat) : (s.raise code block arg0 arg1).time = s.time := rfl
@[simp] theorem State.raise_strm (code block arg0 arg1 : Nat) : (s.raise code block arg0 arg1).strm = s.strm := rfl
@[simp] theorem State.raise_sec (code block arg0 arg1 : Nat) : (s.raise code block arg0 arg1).sec = s.sec := rfl
@[simp] theorem State.raise_dec (code block arg0 arg1 : Nat) : (s.raise code block arg0 arg1).dec = s.dec := rfl
@[simp] theorem State.raise_comp (code block arg0 arg1 : Nat) : (s.raise code block arg0 arg1).comp = s.comp := rfl
@[simp] theorem State.raise_tug (code block arg0 arg1 : Nat) : (s.raise code block arg0 arg1).tug = s.tug := rfl
@[simp] theorem State.raise_scan (code block arg0 arg1 : Nat) : (s.raise code block arg0 arg1).scan = s.scan := rfl
@[simp] theorem State.raise_basin (code block arg0 arg1 : Nat) : (s.raise code block arg0 arg1).basin = s.basin := rfl
@[simp] theorem State.raise_lanes (code block arg0 arg1 : Nat) : (s.raise code block arg0 arg1).lanes = s.lanes := rfl
@[simp] theorem State.raise_panel (code block arg0 arg1 : Nat) : (s.raise code block arg0 arg1).panel = s.panel := rfl
@[simp] theorem State.raise_hk (code block arg0 arg1 : Nat) : (s.raise code block arg0 arg1).hk = s.hk := rfl
@[simp] theorem State.raise_cam (code block arg0 arg1 : Nat) : (s.raise code block arg0 arg1).cam = s.cam := rfl
@[simp] theorem State.raise_enc (code block arg0 arg1 : Nat) : (s.raise code block arg0 arg1).enc = s.enc := rfl
@[simp] theorem State.raise_pair (code block arg0 arg1 : Nat) : (s.raise code block arg0 arg1).pair = s.pair := rfl
@[simp] theorem State.raise_lz (code block arg0 arg1 : Nat) : (s.raise code block arg0 arg1).lz = s.lz := rfl
@[simp] theorem State.raise_tx (code block arg0 arg1 : Nat) : (s.raise code block arg0 arg1).tx = s.tx := rfl
@[simp] theorem State.raise_mgmt (code block arg0 arg1 : Nat) : (s.raise code block arg0 arg1).mgmt = s.mgmt := rfl
@[simp] theorem State.raise_jtag (code block arg0 arg1 : Nat) : (s.raise code block arg0 arg1).jtag = s.jtag := rfl
@[simp] theorem State.raise_choices (code block arg0 arg1 : Nat) : (s.raise code block arg0 arg1).choices = s.choices := rfl
@[simp] theorem State.raise_pending (code block arg0 arg1 : Nat) : (s.raise code block arg0 arg1).pending = s.pending := rfl

@[simp] theorem State.choose_clk : s.choose.2.clk = s.clk := rfl
@[simp] theorem State.choose_led : s.choose.2.led = s.led := rfl
@[simp] theorem State.choose_evt : s.choose.2.evt = s.evt := rfl
@[simp] theorem State.choose_lock : s.choose.2.lock = s.lock := rfl
@[simp] theorem State.choose_units : s.choose.2.units = s.units := rfl
@[simp] theorem State.choose_pwr : s.choose.2.pwr = s.pwr := rfl
@[simp] theorem State.choose_img : s.choose.2.img = s.img := rfl
@[simp] theorem State.choose_ring : s.choose.2.ring = s.ring := rfl
@[simp] theorem State.choose_time : s.choose.2.time = s.time := rfl
@[simp] theorem State.choose_strm : s.choose.2.strm = s.strm := rfl
@[simp] theorem State.choose_sec : s.choose.2.sec = s.sec := rfl
@[simp] theorem State.choose_dec : s.choose.2.dec = s.dec := rfl
@[simp] theorem State.choose_comp : s.choose.2.comp = s.comp := rfl
@[simp] theorem State.choose_tug : s.choose.2.tug = s.tug := rfl
@[simp] theorem State.choose_scan : s.choose.2.scan = s.scan := rfl
@[simp] theorem State.choose_basin : s.choose.2.basin = s.basin := rfl
@[simp] theorem State.choose_lanes : s.choose.2.lanes = s.lanes := rfl
@[simp] theorem State.choose_panel : s.choose.2.panel = s.panel := rfl
@[simp] theorem State.choose_hk : s.choose.2.hk = s.hk := rfl
@[simp] theorem State.choose_cam : s.choose.2.cam = s.cam := rfl
@[simp] theorem State.choose_enc : s.choose.2.enc = s.enc := rfl
@[simp] theorem State.choose_pair : s.choose.2.pair = s.pair := rfl
@[simp] theorem State.choose_lz : s.choose.2.lz = s.lz := rfl
@[simp] theorem State.choose_tx : s.choose.2.tx = s.tx := rfl
@[simp] theorem State.choose_mgmt : s.choose.2.mgmt = s.mgmt := rfl
@[simp] theorem State.choose_jtag : s.choose.2.jtag = s.jtag := rfl
@[simp] theorem State.choose_pending : s.choose.2.pending = s.pending := rfl

@[simp] theorem State.chooseNat_clk : s.chooseNat.2.clk = s.clk := rfl
@[simp] theorem State.chooseNat_led : s.chooseNat.2.led = s.led := rfl
@[simp] theorem State.chooseNat_evt : s.chooseNat.2.evt = s.evt := rfl
@[simp] theorem State.chooseNat_lock : s.chooseNat.2.lock = s.lock := rfl
@[simp] theorem State.chooseNat_units : s.chooseNat.2.units = s.units := rfl
@[simp] theorem State.chooseNat_pwr : s.chooseNat.2.pwr = s.pwr := rfl
@[simp] theorem State.chooseNat_img : s.chooseNat.2.img = s.img := rfl
@[simp] theorem State.chooseNat_ring : s.chooseNat.2.ring = s.ring := rfl
@[simp] theorem State.chooseNat_time : s.chooseNat.2.time = s.time := rfl
@[simp] theorem State.chooseNat_strm : s.chooseNat.2.strm = s.strm := rfl
@[simp] theorem State.chooseNat_sec : s.chooseNat.2.sec = s.sec := rfl
@[simp] theorem State.chooseNat_dec : s.chooseNat.2.dec = s.dec := rfl
@[simp] theorem State.chooseNat_comp : s.chooseNat.2.comp = s.comp := rfl
@[simp] theorem State.chooseNat_tug : s.chooseNat.2.tug = s.tug := rfl
@[simp] theorem State.chooseNat_scan : s.chooseNat.2.scan = s.scan := rfl
@[simp] theorem State.chooseNat_basin : s.chooseNat.2.basin = s.basin := rfl
@[simp] theorem State.chooseNat_lanes : s.chooseNat.2.lanes = s.lanes := rfl
@[simp] theorem State.chooseNat_panel : s.chooseNat.2.panel = s.panel := rfl
@[simp] theorem State.chooseNat_hk : s.chooseNat.2.hk = s.hk := rfl
@[simp] theorem State.chooseNat_cam : s.chooseNat.2.cam = s.cam := rfl
@[simp] theorem State.chooseNat_enc : s.chooseNat.2.enc = s.enc := rfl
@[simp] theorem State.chooseNat_pair : s.chooseNat.2.pair = s.pair := rfl
@[simp] theorem State.chooseNat_lz : s.chooseNat.2.lz = s.lz := rfl
@[simp] theorem State.chooseNat_tx : s.chooseNat.2.tx = s.tx := rfl
@[simp] theorem State.chooseNat_mgmt : s.chooseNat.2.mgmt = s.mgmt := rfl
@[simp] theorem State.chooseNat_jtag : s.chooseNat.2.jtag = s.jtag := rfl
@[simp] theorem State.chooseNat_pending : s.chooseNat.2.pending = s.pending := rfl

@[simp] theorem State.modUnit_clk (block inst : Nat) (f : UnitSt → UnitSt) : (s.modUnit block inst f).clk = s.clk := rfl
@[simp] theorem State.modUnit_led (block inst : Nat) (f : UnitSt → UnitSt) : (s.modUnit block inst f).led = s.led := rfl
@[simp] theorem State.modUnit_evt (block inst : Nat) (f : UnitSt → UnitSt) : (s.modUnit block inst f).evt = s.evt := rfl
@[simp] theorem State.modUnit_lock (block inst : Nat) (f : UnitSt → UnitSt) : (s.modUnit block inst f).lock = s.lock := rfl
@[simp] theorem State.modUnit_pwr (block inst : Nat) (f : UnitSt → UnitSt) : (s.modUnit block inst f).pwr = s.pwr := rfl
@[simp] theorem State.modUnit_img (block inst : Nat) (f : UnitSt → UnitSt) : (s.modUnit block inst f).img = s.img := rfl
@[simp] theorem State.modUnit_ring (block inst : Nat) (f : UnitSt → UnitSt) : (s.modUnit block inst f).ring = s.ring := rfl
@[simp] theorem State.modUnit_time (block inst : Nat) (f : UnitSt → UnitSt) : (s.modUnit block inst f).time = s.time := rfl
@[simp] theorem State.modUnit_strm (block inst : Nat) (f : UnitSt → UnitSt) : (s.modUnit block inst f).strm = s.strm := rfl
@[simp] theorem State.modUnit_sec (block inst : Nat) (f : UnitSt → UnitSt) : (s.modUnit block inst f).sec = s.sec := rfl
@[simp] theorem State.modUnit_dec (block inst : Nat) (f : UnitSt → UnitSt) : (s.modUnit block inst f).dec = s.dec := rfl
@[simp] theorem State.modUnit_comp (block inst : Nat) (f : UnitSt → UnitSt) : (s.modUnit block inst f).comp = s.comp := rfl
@[simp] theorem State.modUnit_tug (block inst : Nat) (f : UnitSt → UnitSt) : (s.modUnit block inst f).tug = s.tug := rfl
@[simp] theorem State.modUnit_scan (block inst : Nat) (f : UnitSt → UnitSt) : (s.modUnit block inst f).scan = s.scan := rfl
@[simp] theorem State.modUnit_basin (block inst : Nat) (f : UnitSt → UnitSt) : (s.modUnit block inst f).basin = s.basin := rfl
@[simp] theorem State.modUnit_lanes (block inst : Nat) (f : UnitSt → UnitSt) : (s.modUnit block inst f).lanes = s.lanes := rfl
@[simp] theorem State.modUnit_panel (block inst : Nat) (f : UnitSt → UnitSt) : (s.modUnit block inst f).panel = s.panel := rfl
@[simp] theorem State.modUnit_hk (block inst : Nat) (f : UnitSt → UnitSt) : (s.modUnit block inst f).hk = s.hk := rfl
@[simp] theorem State.modUnit_cam (block inst : Nat) (f : UnitSt → UnitSt) : (s.modUnit block inst f).cam = s.cam := rfl
@[simp] theorem State.modUnit_enc (block inst : Nat) (f : UnitSt → UnitSt) : (s.modUnit block inst f).enc = s.enc := rfl
@[simp] theorem State.modUnit_pair (block inst : Nat) (f : UnitSt → UnitSt) : (s.modUnit block inst f).pair = s.pair := rfl
@[simp] theorem State.modUnit_lz (block inst : Nat) (f : UnitSt → UnitSt) : (s.modUnit block inst f).lz = s.lz := rfl
@[simp] theorem State.modUnit_tx (block inst : Nat) (f : UnitSt → UnitSt) : (s.modUnit block inst f).tx = s.tx := rfl
@[simp] theorem State.modUnit_mgmt (block inst : Nat) (f : UnitSt → UnitSt) : (s.modUnit block inst f).mgmt = s.mgmt := rfl
@[simp] theorem State.modUnit_jtag (block inst : Nat) (f : UnitSt → UnitSt) : (s.modUnit block inst f).jtag = s.jtag := rfl
@[simp] theorem State.modUnit_choices (block inst : Nat) (f : UnitSt → UnitSt) : (s.modUnit block inst f).choices = s.choices := rfl
@[simp] theorem State.modUnit_pending (block inst : Nat) (f : UnitSt → UnitSt) : (s.modUnit block inst f).pending = s.pending := rfl

@[simp] theorem State.setLive_live (m : RegFile) : (s.setLive m).led.live = m := rfl
@[simp] theorem State.setLive_shadow (m : RegFile) : (s.setLive m).led.shadow = s.led.shadow := rfl
@[simp] theorem State.wr_shadow (f : Fld) (v : Nat) : (s.wr f v).led.shadow = s.led.shadow := rfl
@[simp] theorem State.wr_live (f : Fld) (v : Nat) : (s.wr f v).led.live = s.led.live.setFld f v := rfl
@[simp] theorem State.wrW_live (a : Nat) (w : Word) : (s.wrW a w).led.live = s.led.live.setWord a w := rfl
@[simp] theorem State.wrW_shadow (a : Nat) (w : Word) : (s.wrW a w).led.shadow = s.led.shadow := rfl
@[simp] theorem State.wr_cset (f : Fld) (v : Nat) : (s.wr f v).cset = s.cset := rfl
@[simp] theorem State.wrW_cset (a : Nat) (w : Word) : (s.wrW a w).cset = s.cset := rfl
@[simp] theorem State.raiseI_cset (code block inst arg0 arg1 : Nat) : (s.raiseI code block inst arg0 arg1).cset = s.cset := rfl
@[simp] theorem State.raise_cset (code block arg0 arg1 : Nat) : (s.raise code block arg0 arg1).cset = s.cset := rfl
@[simp] theorem State.tick_cset (t : Nat) : (s.tick t).cset = s.cset := rfl
@[simp] theorem State.tick_running (t : Nat) : (s.tick t).running = s.running := rfl
@[simp] theorem State.wr_running (f : Fld) (v : Nat) : (s.wr f v).running = s.running := rfl
@[simp] theorem State.raise_running (code block arg0 arg1 : Nat) : (s.raise code block arg0 arg1).running = s.running := rfl

/-- The clock never runs back. -/
theorem State.tick_now (t : Nat) : (s.tick t).clk.now = max s.clk.now t := by
  unfold State.tick Clk.tick
  dsimp only
  split
  · omega
  · dsimp only; omega

end Sys2Proof.Machine
end

