-- ==== Sys2Proof/Machine/Package.lean ====
section
/-! DEFINITION. The package and the figures of chapter 24 that fix no step of the machine: the names and nets of the balls (R476 to R479), the
reset state of the pins (R465), the ratings, currents and powers (R460 to R463, R473), the characteristics of pins, clocks, transmitters and
channels (R464, R466 to R469), the dimensions, handling and marking (R475, R481, R482) and the ordering codes (R461, R480). -/

namespace Sys2Proof.Machine

/-- The ordering codes (R461, R480). -/
inductive OrderCode where
  /-- RLM-9600-C -/
  | commercial
  /-- RLM-9600-I -/
  | industrial
  deriving DecidableEq, Repr

/-- Lowest and highest junction temperature of an ordering code, in °C (R461). -/
def OrderCode.junction : OrderCode → Int × Int
  | .commercial => (0, 100)
  | .industrial => (-20, 105)

/-- The highest HK_THR_A.THROT that an image for the code may set (R461). -/
def OrderCode.throtMax (code : OrderCode) : Int := code.junction.2

/-- What a ball is connected to: a supply, ground, a sense ball, nothing, one leg of a pair, or a single signal by its place in a row of
R478. -/
inductive Net where
  | vddCore | vddSram | vddAon | vddHbm | vddqHbm | vppHbm | vddSd | vddaSd | vddCsi | vddIo | vddPnla | vhold
  | vss | coreSense | vssSense | reserved
  /-- A leg of pair `n` of a group; `dm` for the _DM leg. -/
  | pair (group : String) (n : Nat) (dm : Bool)
  /-- A single signal. -/
  | sig (name : String)
  deriving DecidableEq, Repr

/-- The letters of row names, in order (R476). -/
def rowLetters : List Char :=
  ['A', 'B', 'C', 'D', 'E', 'F', 'G', 'H', 'J', 'K', 'L', 'M', 'N', 'P', 'T', 'U', 'V', 'W', 'Y']

/-- Position of a letter in the set, 1 to 19 (R476). -/
def letterPos (c : Char) : Nat := rowLetters.findIdx (· == c) + 1

/-- Index of a row by its name (R476). -/
def rowIndex : List Char → Nat
  | [a] => letterPos a
  | a :: b :: _ => 19 * letterPos a + letterPos b
  | [] => 0

/-- Pair `n` of `count` from column `base` in steps of `step`: the leg at a column, if one is there (R478). -/
def pairAt (group : String) (count base step col : Nat) : Option Net :=
  if col < base then none
  else
    let n := (col - base) / step
    let k := (col - base) % step
    if n < count ∧ k < 2 then some (.pair group n (k == 1)) else none

/-- The signal at a column of a run of single signals from column `base` (R478). -/
def runAt (base : Nat) (names : List String) (col : Nat) : Option Net :=
  if col < base then none else (names[col - base]?).map .sig

/-- The panel pairs of one row: transmitter 12 q + k at column 8 + 5 k (R478). -/
def panelPair (q col : Nat) : Option Net :=
  match pairAt "PANEL_TX" 12 8 5 col with
  | some (.pair g k dm) => some (.pair g (12 * q + k) dm)
  | _ => none

/-- First of the two that is there. -/
def orNet (a : Option Net) (b : Unit → Option Net) : Option Net := match a with | some n => some n | none => b ()

/-- The signals of the rows that carry any (R478). -/
def signalAt (row col : Nat) : Option Net :=
  if row = 2 then
    orNet (runAt 1 ["PSB_CK", "PSB_DO", "PSB_DI", "PSB_CS0_L", "PSB_CS1_L", "PSB_CS2_L"] col) fun _ => panelPair 0 col
  else if row = 4 then runAt 1 ["PSB_CS3_L", "PNL_EN0", "PNL_EN1", "PNL_EN2", "PNL_EN3", "PNL_PGOOD"] col
  else if row = 5 then panelPair 1 col
  else if row = 6 then
    runAt 1 ["PNL_VREF_OUT", "PNL_VREF_SENSE", "PNL_DISCHARGE", "PNL_CRACK_OUT", "PNL_CRACK_IN", "VIN_PANEL_SENSE"] col
  else if row = 8 then panelPair 2 col
  else if row = 11 then panelPair 3 col
  else if row = 58 then
    orNet (runAt 2 ["XSPI_CK", "XSPI_CS_L", "XSPI_DQS", "XSPI_DQ0", "XSPI_DQ1", "XSPI_DQ2", "XSPI_DQ3", "XSPI_DQ4", "XSPI_DQ5", "XSPI_DQ6",
      "XSPI_DQ7", "XSPI_RESET_L"] col) fun _ =>
    orNet (runAt 16 ["MGMT_SCL", "MGMT_SDA", "MGMT_ALERT_L"] col) fun _ =>
    orNet (runAt 21 ["PPS_OUT", "PPS_IN", "TIME_EVT0", "TIME_EVT1"] col) fun _ =>
    orNet (runAt 27 ["PAIR_ROLE", "PAIR_HB_OUT", "PAIR_HB_IN", "PANEL_OWN_OUT", "PANEL_OWN_IN"] col) fun _ =>
    orNet (runAt 34 ["CAM0_SCL", "CAM0_SDA", "CAM1_SCL", "CAM1_SDA", "CAM_FSYNC0", "CAM_FSYNC1", "CAM_IR_STROBE"] col) fun _ =>
    orNet (runAt 43 ["TCK", "TMS", "TDI", "TDO", "TRST_L"] col) fun _ =>
    orNet (pairAt "REFCLK_SD" 1 50 2 col) fun _ => runAt 53 ["REFCLK_SYS"] col
  else if row = 59 then
    orNet (runAt 2 ["GPIO00", "GPIO01", "GPIO02", "GPIO03", "GPIO04", "GPIO05", "GPIO06", "GPIO07", "GPIO08", "GPIO09", "GPIO10", "GPIO11",
      "GPIO12", "GPIO13", "GPIO14", "GPIO15"] col) fun _ =>
    runAt 20 ["POR_L", "RESET_OUT_L", "FAULT_L", "THERM_L", "BOOT_BANK", "MGMT_ADDR0", "MGMT_ADDR1", "TEST_EN"] col
  else if row = 60 then
    orNet (pairAt "CSI0_D" 4 10 3 col) fun _ => orNet (pairAt "CSI0_CK" 1 22 2 col) fun _ =>
    orNet (pairAt "CSI1_D" 4 30 3 col) fun _ => pairAt "CSI1_CK" 1 42 2 col
  else if row = 64 then
    orNet (pairAt "RING_E_RX" 4 10 4 col) fun _ => orNet (pairAt "RING_W_RX" 4 30 4 col) fun _ => pairAt "TOW_RX" 4 50 4 col
  else if row = 66 then
    orNet (pairAt "RING_E_TX" 4 10 4 col) fun _ => orNet (pairAt "RING_W_TX" 4 30 4 col) fun _ => pairAt "TOW_TX" 4 50 4 col
  else none

/-- Parity of a ball: odd (R476). -/
def ballOdd (row col : Nat) : Bool := (row + col) % 2 == 1

/-- What the band of a ball gives one that no signal table names (R477). -/
def bandNet (row col : Nat) : Net :=
  let odd (n : Net) : Net := if ballOdd row col then n else .vss
  if row ≤ 12 then
    if (row = 10 ∨ row = 12) ∧ col ≤ 4 then .vddPnla else if row = 9 ∧ col ≤ 2 then .vhold else .vss
  else if row ≤ 15 ∨ (54 ≤ row ∧ row ≤ 56) then if col ≤ 34 then .vddSd else .vddaSd
  else if row ≤ 53 then
    if col ≤ 2 ∨ 67 ≤ col then odd .vppHbm
    else if col ≤ 7 ∨ 62 ≤ col then odd .vddHbm
    else if col ≤ 12 ∨ 57 ≤ col then odd .vddqHbm
    else if col ≤ 16 ∨ 53 ≤ col then odd .vddSram
    else if row = 29 ∧ col = 34 then .coreSense
    else if row = 29 ∧ col = 35 then .vssSense
    else odd .vddCore
  else if row = 61 ∧ 2 ≤ col ∧ col ≤ 24 then .reserved
  else if row = 62 then
    if col ≤ 24 then .vddIo else if col ≤ 32 then .vddAon else if col ≤ 40 then .vddCsi else .vss
  else .vss

/-- What ball `col` of row `row` is connected to (R477, R478). -/
def ballNet (row col : Nat) : Net := match signalAt row col with | some n => n | none => bandNet row col

/-- Balls of the grid whose net is as asked (R479). -/
def ballCount (p : Net → Bool) : Nat :=
  (List.range 68).foldl (fun t r => (List.range 68).foldl (fun t c => if p (ballNet (r + 1) (c + 1)) then t + 1 else t) t) 0

/-- A ball of a signal: a single one or a leg of a pair. -/
def Net.isSignal : Net → Bool
  | .sig _ => true
  | .pair .. => true
  | _ => false

/-- What a pin is in reset (R465). -/
inductive PinReset where
  | highZ | pullUp | pullDown | released | low | high | input
  deriving DecidableEq, Repr

/-- The reset state of the pins by group (R465): THERM_L high after a cold reset, the pulls of the TAP's inputs. -/
def pinResets : List (List String × PinReset) :=
  [(["XSPI_CK", "XSPI_DQS", "XSPI_DQ0", "XSPI_DQ1", "XSPI_DQ2", "XSPI_DQ3", "XSPI_DQ4", "XSPI_DQ5", "XSPI_DQ6", "XSPI_DQ7"], .highZ),
   (["XSPI_CS_L", "XSPI_RESET_L"], .pullUp),
   (["MGMT_SCL", "CAM0_SCL", "CAM1_SCL", "MGMT_SDA", "CAM0_SDA", "CAM1_SDA", "MGMT_ALERT_L"], .released),
   (["PSB_CK", "PSB_DO"], .low),
   (["PSB_CS0_L", "PSB_CS1_L", "PSB_CS2_L", "PSB_CS3_L"], .high),
   (["PSB_DI", "PPS_IN", "PAIR_HB_IN", "PANEL_OWN_IN", "POR_L", "REFCLK_SYS"], .input),
   (["PPS_OUT", "CAM_FSYNC0", "CAM_FSYNC1", "CAM_IR_STROBE", "PAIR_HB_OUT", "PANEL_OWN_OUT"], .low),
   (["TIME_EVT0", "TIME_EVT1", "GPIO00", "GPIO01", "GPIO02", "GPIO03", "GPIO04", "GPIO05", "GPIO06", "GPIO07", "GPIO08", "GPIO09", "GPIO10",
     "GPIO11", "GPIO12", "GPIO13", "GPIO14", "GPIO15"], .input),
   (["RESET_OUT_L", "FAULT_L"], .low),
   (["THERM_L"], .high),
   (["TCK", "TMS", "TDI"], .pullUp),
   (["TRST_L"], .pullDown),
   (["TDO"], .highZ),
   (["PNL_EN0", "PNL_EN1", "PNL_EN2", "PNL_EN3", "PNL_CRACK_OUT"], .low),
   (["PNL_PGOOD", "PNL_CRACK_IN"], .input)]

/-- Absolute limits of the supplies in mV: lowest and highest (R460). -/
def supplyLimits : List (String × Int × Int) :=
  [("VDD_CORE", -300, 900), ("VDD_AON", -300, 900), ("VDD_SRAM", -300, 1000), ("VDD_SD", -300, 950), ("VDDA_SD", -300, 1400),
   ("VDD_CSI", -300, 1400), ("VDD_HBM", -300, 1300), ("VDDQ_HBM", -300, 550), ("VPP_HBM", -300, 2100), ("VDD_IO", -300, 2100),
   ("VDD_PNLA", -300, 3800), ("VHOLD", -300, 20000)]

/-- Highest current of each supply in mA (R462). -/
def supplyCurrents : List (String × Nat) :=
  [("VDD_CORE", 95000), ("VDD_SRAM", 8000), ("VDD_AON", 500), ("VDD_HBM", 19000), ("VDDQ_HBM", 12000), ("VPP_HBM", 2000),
   ("VDD_SD", 14000), ("VDDA_SD", 9000), ("VDD_CSI", 300), ("VDD_IO", 600), ("VDD_PNLA", 200)]

/-- Device power in W by operating state: typical and highest (R463). -/
def statePower : List (String × Nat × Nat) :=
  [("Full load", 104, 120), ("Follower in hot pairing", 96, 112), ("Follower in warm pairing", 60, 70), ("HOLD", 9, 12),
   ("Basin failed", 18, 24), ("Image-fail", 5, 8), ("Cold or warm reset", 4, 6)]

/-- Of a die: thermal resistance to the centre of the lid in m°C/W and power at full load in mW (R473). -/
def dieThermal : List (String × Nat × Nat) :=
  [("Main die", 160, 62000), ("HBM3 stack", 1600, 7500), ("Panel I/O die", 900, 14000), ("Ring I/O die", 1100, 10000)]

/-- Rise of a die above the lid in m°C at a power in mW (R473). -/
def dieRise (res mw : Nat) : Nat := res * mw / 1000

/-- Highest lid temperature that cooling must hold, in °C (R474). -/
def OrderCode.lidMax (code : OrderCode) : Int := code.junction.2 - 13

/-- DC levels of the 1.8 V pins at a supply VDD_IO in mV: highest input low, lowest input high, highest output low and lowest output high of
a push-pull output, all in mV (R464). -/
def ioLevels (vddIo : Nat) : Nat × Nat × Nat × Nat := (vddIo * 35 / 100, vddIo * 65 / 100, 450, vddIo - 450)

/-- DC levels of the 3.3 V pins in the same order, in mV (R464). -/
def pnlLevels : Nat × Nat × Nat × Nat := (800, 2000, 400, 2900)

/-- The other figures of the 1.8 V pins (R464): open-drain low in mV, hysteresis in mV, leakage in µA, pull in kΩ, capacitance in pF. -/
def ioPinFigures : List (String × Nat) :=
  [("open-drain output low", 400), ("input hysteresis", 100), ("input leakage", 10), ("internal pull resistor", 50), ("pin capacitance", 5)]

/-- The pins with input hysteresis (R464). -/
def hysteresisPins : List String :=
  ["POR_L", "PAIR_HB_IN", "PANEL_OWN_IN", "PPS_IN", "TIME_EVT0", "TIME_EVT1", "GPIO00", "GPIO01", "GPIO02", "GPIO03", "GPIO04", "GPIO05",
   "GPIO06", "GPIO07", "GPIO08", "GPIO09", "GPIO10", "GPIO11", "GPIO12", "GPIO13", "GPIO14", "GPIO15"]

/-- Errors of the analog pins of panel care (R466): INL of PNL_VREF_OUT and error of PNL_VREF_SENSE in codes; the trip of R346 lies within
1 % and 5 mV of THR_MV. -/
def vrefInl : Nat := 2

/-- Error of PNL_VREF_SENSE in codes (R466). -/
def vrefSenseError : Nat := 4

/-- Lowest and highest level of VIN_PANEL_SENSE, in 10 µV, at which the trip of R346 lies for a threshold in mV (R466). -/
def vinTripBand (thrMv : Nat) : Nat × Nat := (99 * thrMv - 500, 101 * thrMv + 500)

/-- Lowest level of PNL_DISCHARGE when asserted, in mV, at a level of VHOLD in mV (R466). -/
def dischargeDrive (vhold : Nat) : Nat := min (vhold - 500) 10000

/-- Highest level of PNL_DISCHARGE when deasserted, in mV (R466). -/
def dischargeLow : Nat := 300

/-- A reference clock (R467): frequency in kHz, tolerance in ppm, jitter in fs rms. -/
def refClocks : List (String × Nat × Nat × Nat) := [("REFCLK_SD", 156250, 50, 100), ("REFCLK_SYS", 25000, 100, 20000)]

/-- Timing of the low-speed interfaces in ps: lowest and highest (R468); a parameter with a lower bound alone has no highest. -/
def lowSpeedTiming : List (String × Int × Option Int) :=
  [("XSPI_CS_L before the first and after the last XSPI_CK edge", 3000, none), ("written DQ about the centre of the half-period", -500, some 500),
   ("read DQ skew to XSPI_DQS at 200 MHz", -450, some 450), ("PSB_DO after the falling edge of PSB_CK", 0, some 8000),
   ("PSB_DI setup about the rising edge of PSB_CK", 5000, none), ("PSB_DI hold about the rising edge of PSB_CK", 2000, none),
   ("PSB_CSc_L before the first PSB_CK edge", 20000, none), ("I2C data hold", 0, some 450000), ("I2C spikes suppressed", 0, some 50000),
   ("rise and fall of PPS_OUT, TIME_EVTn, CAM_FSYNCn and CAM_IR_STROBE", 0, some 2000), ("PSB_DI path out and back", 0, some 27000)]

/-- Swing of a lane transmitter by TXCFG.SWING, in mV differential peak-to-peak (R469). -/
def laneSwing (code : Nat) : Nat :=
  match code % 4 with
  | 0 => 500
  | 1 => 650
  | 2 => 800
  | _ => 950

/-- The other figures of a lane transmitter (R469): impedance in Ω and its tolerance in percent, SNDR in tenths of dB, level separation
mismatch ratio in hundredths, common-mode output in mV, and the loss of a panel or towpath channel at 28.875 GHz in tenths of dB. -/
def laneFigures : List (String × Nat × Nat) :=
  [("differential impedance and tolerance", 100, 10), ("SNDR at least", 325, 0), ("level separation mismatch ratio at least", 95, 0),
   ("common-mode output", 400, 550), ("channel loss at most", 240, 0)]

/-- The dimensions of the package in µm: nominal and tolerance (R475). -/
def packageDims : List (String × Nat × Nat) :=
  [("body edge", 82500, 100), ("lid flat edge", 78000, 0), ("lid flatness", 100, 0), ("seating plane to lid top", 5350, 250),
   ("ball diameter", 600, 0), ("ball pitch", 1200, 0), ("array span", 80400, 0), ("coplanarity", 200, 0)]

/-- A die of the package, as its placement names it (R475). -/
inductive DiePlace where
  | panelIo | ringIo | stackLow | stackHigh
  deriving DecidableEq, Repr

/-- The die other than the main die that lies over a ball: the I/O dice over rows, the stacks over columns (R475). -/
def dieOver (row col : Nat) : Option DiePlace :=
  if row ≤ 12 then some .panelIo
  else if 63 ≤ row then some .ringIo
  else if col ≤ 12 then some .stackLow
  else if 57 ≤ col then some .stackHigh
  else none

/-- The ordering code as it is written (R480). -/
def OrderCode.name : OrderCode → String
  | .commercial => "RLM-9600-C"
  | .industrial => "RLM-9600-I"

/-- The four lines of the lid's marking for a date code and a lot code (R481). -/
def lidMarking (code : OrderCode) (date lot : String) : List String := ["TORDASK", code.name, "B0 " ++ date, lot]

/-- Handling (R482): moisture level, floor life in hours, relative humidity in percent, peak reflow in °C, reflows, hours and °C of baking. -/
def handling : List (String × Nat) :=
  [("MSL", 3), ("floor life", 168), ("relative humidity", 60), ("peak reflow temperature", 245), ("reflows", 3), ("bake hours", 24),
   ("bake temperature", 125)]

end Sys2Proof.Machine
end

