-- ==== Sys2Proof/Tests/Slice0.lean ====
section
/-! SUPPORT. Small tests: the refusals of WellFormed, values that the spec prints, and for each statement states and operands that meet its
hypotheses, clause by clause, at boundary values. The states are made from the state after reset by a few fields. -/

set_option Elab.async false

namespace Sys2Proof.Tests

open Sys2Proof.Machine Sys2Proof.Safety Sys2Proof.Claims

/-- A running device with every domain up. -/
def up : State := { State.reset with pwr := { PwrSt.reset with phase := .run, porLow := false, up := 2 ^ 159 - 1 } }

/-- A field of the committed set. -/
def cmt (s : State) (f : Fld) (v : Nat) : State :=
  { s with led := { s.led with bank0 := { s.led.bank0 with regs := s.led.bank0.regs.setFld f v } } }

/-- A mode in the committed set. -/
def inMode (s : State) (m : BitVec 8) : State := { s with led := { s.led with bank0 := { s.led.bank0 with mode := m } } }

/-- The straps with the samples of PAIR_ROLE on a side. -/
def sideStraps (side : Nat) : Straps := { Straps.reset with pairUp := side != 0, pairDown := side == 1 }

/-- A running device in a pair, on a side. -/
def pairUp (side : Nat) : State := { up with pwr := { up.pwr with straps := sideStraps side } }

/-- A lock cycle in a phase. -/
def cyc (p : Phase) : State := { up with lock := { LockSt.reset with running := true, phase := p } }

/-- A state after the records of an image load that are due at instant `t`. -/
def ran (s : State) (t : Nat) : State := (s.tick t).recordsRun

/-- Clauses of RegisterWriteByAccessCode: no register at the last word of the ledger; a register outside the manifest; a read-only one, one of
RWS in both phases, and one of W1C, each with a manifest entry; the words on either side of PWR_DOM_FAIL. -/
theorem witness_RegisterWriteByAccessCode :
    (up.alive = true ∧ hasReg 0x13FFFC = false ∧ hasReg R.TOP_LOCK_TIME = true ∧ up.img.manifestMask R.TOP_LOCK_TIME = none) ∧
    (let s := { up with img := { up.img with manifest := [(R.TOP_POUND, 0xFFFFFFFF), (R.TOP_LOCK_TIME, 0xFFFFFFFF), (R.TOP_STATUS, 3)] } }
     (hasReg R.TOP_POUND = true ∧ s.img.manifestMask R.TOP_POUND = some 0xFFFFFFFF ∧ (s.tick 0).writeBusy R.TOP_POUND 0#32 0xFFFFFFFF = none ∧
       accessMasks R.TOP_POUND = (0, 0, 0, 0)) ∧
     (s.img.manifestMask R.TOP_LOCK_TIME = some 0xFFFFFFFF ∧ (s.tick 0).writeBusy R.TOP_LOCK_TIME 0#32 0xFFFFFFFF = none ∧
       accessMasks R.TOP_LOCK_TIME = (0, 0x0FFF0FFF, 0, 0)) ∧
     (s.img.manifestMask R.TOP_STATUS = some 3 ∧ (s.tick 0).writeBusy R.TOP_STATUS 0#32 3 = none ∧ accessMasks R.TOP_STATUS = (0, 0, 3, 0) ∧
       ¬ (R.PWR_DOM_FAIL 0 ≤ R.TOP_STATUS ∧ R.TOP_STATUS ≤ R.PWR_DOM_FAIL 4))) ∧
    R.TOP_LOCK_TIME ≠ R.TOP_MODE := by
  decide +kernel

/-- Clauses of ModeAndDiscardWrites: an idle lock-keeper, a cycle with 63 writes held, and one with 64. -/
theorem witness_ModeAndDiscardWrites :
    (up.alive = true ∧ up.lock.phase = .idle) ∧
    ((cyc .level).alive = true ∧ (cyc .level).lock.phase ≠ .idle ∧ (cyc .level).lock.holdQ.length < 64) ∧
    (let q := List.replicate 64 ({ addr := 0, value := 0#32, mask := 0 } : HeldWrite)
     (List.drop 1 q).length = 63 ∧ ¬ q.length < 64) := by decide +kernel

/-- Clauses of LockClosePrepares. -/
theorem witness_LockClosePrepares :
    ((cyc .idle).alive = true ∧ (cyc .idle).lock.running = true ∧ (cyc .idle).lock.phase = .idle) ∧
    (up.alive = true ∧ up.lock.running = false) ∧ (cyc .opened).lock.phase ≠ .idle := by decide +kernel

/-- Clauses of LevelStageReports: a block that is wanted, and one that is not. -/
theorem witness_LevelStageReports :
    (let s := { cyc .level with lock := { (cyc .level).lock with want := 2 } }
     s.alive = true ∧ s.canStage 1 0 = true ∧ s.canStage 19 0 = false ∧ s.canStage 1 1 = false) := by decide +kernel

/-- A level report of PWR in flight. -/
def reported (veto crc want : Nat) : State :=
  { cyc .level with lock := { (cyc .level).lock with want := want, sent := [{ block := 1, veto := veto, first := 0, crc := crc }] } }

/-- Clauses of LevelReportCounts: a wrong CRC, a right one with and without another report to come, and a veto. -/
theorem witness_LevelReportCounts :
    (let c := CSet.reset.stagedCrc 1
     ((reported 0 c 6).alive = true ∧ (reported 0 c 6).lock.phase = .level ∧
       (reported 0 c 6).lock.sent.find? (fun x => x.block == 1) = some { block := 1, veto := 0, first := 0, crc := c }) ∧
     c ^^^ (1 % 65536) ≠ (reported 0 c 6).lock.frozen.stagedCrc 1 ∧
     (c ^^^ (0 % 65536) = (reported 0 c 6).lock.frozen.stagedCrc 1 ∧ orBit (reported 0 c 6).lock.got 1 ≠ (reported 0 c 6).lock.want) ∧
     orBit (reported 0 c 2).lock.got 1 = (reported 0 c 2).lock.want ∧
     (reported 2 0 6).lock.sent.find? (fun x => x.block == 1) = some { block := 1, veto := 2, first := 0, crc := 0 }) := by decide +kernel

/-- Clauses of WindowExpiryDecides. -/
theorem witness_WindowExpiryDecides :
    (cyc .level).alive = true ∧ (cyc .level).lock.phase = .level ∧ (up.lock.phase ≠ .level ∧ up.lock.missDue = false) ∧
    (let s := { cyc .opened with lock := { (cyc .opened).lock with missDue := true } }
     s.alive = true ∧ s.lock.phase ≠ .level ∧ s.lock.missDue = true) := by decide +kernel

/-- A cycle after its open, with the units that have not acknowledged the token. -/
def opened (await : List (Nat × Nat)) (discard : Bool) : State :=
  { cyc .opened with lock := { (cyc .opened).lock with await := await, discardReq := discard } }

/-- Clauses of TokenAndCycleEnd. -/
theorem witness_TokenAndCycleEnd :
    ((opened [(1, 0)] false).alive = true ∧ (opened [(1, 0)] false).lock.phase = .opened ∧ (1, 0) ∈ (opened [(1, 0)] false).lock.await ∧
      ∃ x ∈ (opened [(1, 0)] false).lock.await, (opened [(1, 0)] false).unitUp x.1 x.2 = true) ∧
    ((∀ x ∈ (opened [] true).lock.await, (opened [] true).unitUp x.1 x.2 = false) ∧ (opened [] true).lock.discardReq = true ∧
      (opened [] true).lock.holdQ = []) := by decide +kernel

/-- A unit that acted on pound 0, with a barge waiting. -/
def unitAt (block tag : Nat) (reload : Bool) : State :=
  { up with units := [{ block := block, inst := 0, acted := some 0, reload := reload, inq := [{ tag := tag, work := 0 }] }] }

/-- Clauses of ReloadAndBarge: a reload, none, and barges of the next pound, of the unit's pound, of the oldest pound with a bank and of the one
before it (the pounds wrap); a DEC instance that has acted, one that reloads, one that has not acted and one that is off. -/
theorem witness_ReloadAndBarge :
    ((unitAt bCOMP 0 true).alive = true ∧ (unitOf (unitAt bCOMP 0 true).units bCOMP 0).reload = true) ∧
    (unitOf up.units bCOMP 0).reload = false ∧
    (bCOMP ≠ bDEC ∧ (unitOf (unitAt bCOMP 1 false).units bCOMP 0).inq = [{ tag := 1, work := 0 }] ∧
      (unitOf (unitAt bCOMP 1 false).units bCOMP 0).acted = some 0 ∧ laterPound 1 0 = true) ∧
    (laterPound 0 0 = false ∧ laterPound (poundSub 0 (bankCount bCOMP - 1)) 0 = false) ∧
    (laterPound 0xFFFFFFFF 0 = false ∧ laterPound (poundSub 0 (bankCount bCOMP - 1)) 0xFFFFFFFF = false) ∧
    (laterPound 0xFFFFFFFE 0 = false ∧ laterPound (poundSub 0 (bankCount bCOMP - 1)) 0xFFFFFFFE = true) ∧
    ((unitOf (unitAt bDEC 0 false).units bDEC 0).acted = some 0 ∧ (unitOf (unitAt bDEC 0 false).units bDEC 0).reload = false ∧
      (unitAt bDEC 0 false).unitUp bDEC 0 = true) ∧
    ((unitOf (unitAt bDEC 0 true).units bDEC 0).reload = true ∧ (unitOf up.units bDEC 0).acted = none ∧ State.reset.unitUp bDEC 0 = false) := by
  decide +kernel

/-- A forced reset due. -/
def forced (b : Nat) : State := { up with lock := { up.lock with forceDue := [(b, [0])] } }

/-- Clauses of ForcedReset. -/
theorem witness_ForcedReset :
    (∀ b ∈ [bTOP, bTIME, bBASIN, bRING, bCOMP, bTUG], (forced b).alive = true ∧ (forced b).lock.forceDue.find? (fun e => e.1 == b) = some (b, [0])) ∧
    (∀ b ∈ [bCOMP, bTUG], ¬ (b = bTOP ∨ b = bTIME ∨ b = bBASIN ∨ b = bRING) ∧ b < 20) ∧ 0 ∈ [0] ∧
    bTUG ≠ bDEC ∧ bTUG ≠ bSCAN ∧ bTUG ≠ bCOMP := by decide +kernel

/-- Hypotheses of GpioSampleAndAccept, with counts 99 and 100. -/
theorem witness_GpioSampleAndAccept :
    (let s := { up with lock := { up.lock with gpioCount := 99 :: 100 :: List.replicate 14 0 } }
     s.island = true ∧ s.lock.gpioCount.length = 16 ∧ ¬ 100 ≤ s.lock.gpioCount.getD 0 0 ∧ 100 ≤ s.lock.gpioCount.getD 1 0) := by decide +kernel

/-- A device at a point between reset and its exit. -/
def at_ (p : ResetPhase) (porLow : Bool) : State := { State.reset with pwr := { PwrSt.reset with phase := p, porLow := porLow, cold := false } }

/-- Clauses of ResetTrips: both monitors of a cold reset, and others of a running device and of one about to leave reset. -/
theorem witness_ResetTrips :
    (5 < 18 ∧ 16 < 18 ∧ 17 < 18 ∧ 17 ≠ 5 ∧ 17 ≠ 16 ∧ 0 ≠ 5) ∧ up.pwr.phase = .run ∧
    ((at_ .exitDue false).pwr.phase = .exitDue ∧ (at_ .exitDue false).pwr.cold = false) := by decide +kernel

/-- Clauses of ResetReleases: no rail low, and the highest one low. -/
theorem witness_ResetReleases :
    (State.reset.pwr.porLow = true ∧ State.reset.pwr.phase = .porHeld) ∧ (at_ .seqCheck false).pwr.phase = .seqCheck ∧
    ((at_ .awaitRails false).pwr.phase = .awaitRails ∧ (at_ .awaitRails false).pwr.porLow = false) ∧
    0 % 2 ^ 18 = 0 ∧ 2 ^ 18 % 2 ^ 18 = 0 ∧ (2 ^ 17) % 2 ^ 18 ≠ 0 := by decide +kernel

/-- Clauses of ResetExits. -/
theorem witness_ResetExits :
    ((at_ .exitDue false).pwr.phase = .exitDue ∧ (at_ .exitDue false).img.otp = Otp.blank ∧ (at_ .exitDue false).img.marks = 0) ∧
    ({ Otp.blank with mac := 1 } : Otp) ≠ Otp.blank ∧ Straps.reset.testEn = false ∧ ({ Straps.reset with testEn := true } : Straps).testEn = true ∧
    up.pwr.phase ≠ .exitDue := by decide +kernel

/-- Clauses of WarmResetRequests: the key with bit 0, without it, and another key. -/
theorem witness_WarmResetRequests :
    up.alive = true ∧ ((0x57520001#32).toNat >>> 16 = 0x5752 ∧ bitAt (0x57520001#32).toNat 0 = true) ∧
    ¬ ((0x57520000#32).toNat >>> 16 = 0x5752 ∧ bitAt (0x57520000#32).toNat 0 = true) ∧
    ¬ ((0x57530001#32).toNat >>> 16 = 0x5752 ∧ bitAt (0x57530001#32).toNat 0 = true) := by decide +kernel

/-- Hypotheses of OvervoltOnlyReports at the first and the last rail. -/
theorem witness_OvervoltOnlyReports : up.island = true ∧ 0 < 18 ∧ 17 < 18 ∧ up.img.recs = none := by decide +kernel

/-- Clauses of BraceRuns: no brace, and braces before and after their event. -/
theorem witness_BraceRuns :
    (17 < 18 ∧ up.island = true ∧ up.pwr.phase = .run ∧ up.pwr.brace = none) ∧
    (∀ r ∈ [true, false], (let s := { up with pwr := { up.pwr with brace := some { since := 0, mask := 1, trips := 1, raised := r, pounds := [0] } } }
      s.alive = true ∧ s.island = true ∧ s.pwr.phase = .run ∧
        s.pwr.brace = some { since := 0, mask := 1, trips := 1, raised := r, pounds := [0] })) := by decide +kernel

/-- Clauses of FailClear. -/
theorem witness_FailClear :
    up.alive = true ∧ 4 < 5 ∧ up.rdW (R.PWR_DOM_FAIL 4) &&& 0xFFFFFFFF#32 = 0#32 ∧ up.pwr.upQ = [] ∧ up.pwr.downQ = [] := by decide +kernel

/-- A flight slot of domain 120. -/
def flight (u good failed again : Bool) : State :=
  { up with pwr := { up.pwr with slot := some { dom := 120, up := u, good := good, failed := failed }, retried := if again then [120] else [] } }

/-- Clauses of FlightSlots: the first and the second time-out, slots up and down, and a domain that can be drained, one that is down and one that is
needed. -/
theorem witness_FlightSlots :
    ((flight true false false false).alive = true ∧
      (ran (flight true false false false) 0).pwr.slot = some { dom := 120, up := true, good := false, failed := false } ∧
      (ran (flight true false false false) 0).pwr.retried.contains 120 = false ∧ (ran (flight true false false true) 0).pwr.retried.contains 120 = true) ∧
    ((ran (flight false false false false) 0).pwr.slot.isSome = true ∧ (ran (flight true true false false) 0).pwr.slot.isSome = true) ∧
    (let r := ran up 0
     r.pwr.slot = none ∧ r.pwr.brace = none ∧ r.pwr.upQ = [] ∧ r.pwr.downQ = [] ∧ r.domUp 158 = true ∧ r.needDomain r.cset 158 = false ∧ r.domainIdle 158 = true) ∧
    (ran { up with pwr := { up.pwr with up := 0 } } 0).domUp 158 = false ∧ (ran up 0).needDomain (ran up 0).cset 0 = true := by decide +kernel
/-- A sound header (R93): records of 16 bytes, no tables, no manifest, a length of 1,024 bytes. -/
def header : List Byte :=
  let h := leBytes 4 0x494D4C52 ++ leBytes 2 1 ++ leBytes 2 256 ++ leBytes 2 0x9600 ++ [0xB0#8, 0#8] ++ leBytes 4 1024 ++ leBytes 4 1 ++ leBytes 2 0 ++
    leBytes 2 0 ++ leBytes 4 256 ++ leBytes 4 16 ++ leBytes 4 0 ++ leBytes 4 0 ++ leBytes 4 0 ++ leBytes 4 0 ++ leBytes 4 832 ++ leBytes 2 200 ++
    [4#8, 0#8] ++ leBytes 2 1 ++ leBytes 2 1 ++ leBytes 2 1 ++ leBytes 2 1 ++ List.replicate 188 0#8
  h ++ leBytes 4 (crc32c h).toNat

/-- A device that loads its image. -/
def loading (p : LoadPhase) (second : Bool) (flash : ByteMem) : State :=
  { up with img := { up.img with load := p, second := second, flash := flash } }

set_option maxRecDepth 100000 in
/-- The sound header as it is read. -/
theorem header_fields : header.length = 256 ∧ headerCause header = 0 ∧ (parseHeader header).sigOff = 832 ∧ (parseHeader header).keySlot = 0 ∧
    (parseHeader header).epoch = 0 ∧ (parseHeader header).recOff = 256 ∧ (parseHeader header).recLen = 16 ∧ (parseHeader header).tblCnt = 0 ∧
    (parseHeader header).manCnt = 0 ∧ areasOk (parseHeader header).areas 832 = true := by decide +kernel

/-- What is programmed at the start of a span reads back. -/
theorem flash_reads (m : ByteMem) (a n : Nat) (d : List Byte) (h : d.length = n) : flashBytes (flashProgram m a d) a n = d := by
  rw [← h, flashBytes_program]

set_option maxRecDepth 100000 in
/-- Clauses of ImageHeaderLoads: a sound header, an erased one, and 1 and 2 failed DQS checks, on both banks. -/
theorem witness_ImageHeaderLoads :
    ((loading .header false []).alive = true ∧ (loading .header false []).img.load = .header) ∧
    (headerCause (flashBytes (loading .header false (flashProgram [] (bankBase 0) header)).img.flash (bankBase 0) 256) = 0 ∧ 1 < 2) ∧
    (headerCause (flashBytes (loading .header false []).img.flash (bankBase 0) 256) ≠ 0 ∧ (loading .header false []).img.second = false ∧
      (loading .header true []).img.second = true) := by
  refine ⟨by decide +kernel, ⟨?_, by decide⟩, by decide +kernel⟩
  rw [show (loading .header false (flashProgram [] (bankBase 0) header)).img.flash = flashProgram [] (bankBase 0) header from rfl,
    flash_reads _ _ _ _ header_fields.1]
  exact header_fields.2.1

/-- Clauses of ImagePassesEnd but for a signature that verifies: an empty key slot, and the second pass of a bank without tables. -/
theorem witness_ImagePassesEnd :
    ((loading .pass1 false []).alive = true ∧ (loading .pass1 false []).img.load = .pass1 ∧
      (loading .pass1 false []).img.signatureCause 0 (loading .pass1 false []).img.hdr ≠ 0) ∧
    ((loading .pass2 false []).img.load = .pass2 ∧ (loading .pass2 false []).img.recs = none ∧
      (loading .pass2 false []).img.bankTables 0 (loading .pass2 false []).img.hdr = some [] ∧
      (loading .pass2 false []).cset.camShare [] = false ∧ (loading .pass2 false []).img.bankManifest 0 (loading .pass2 false []).img.hdr = some []) := by
  decide +kernel

/-- The public key of the private key 1, which is the base point of P-384, and its digest as a key slot holds it (computed outside the model). -/
def key1 : List Byte := beBytes 48 p384Gx ++ beBytes 48 p384Gy

def slot1 : List Byte := beBytes 48 0x8c4f262412b7f9ed867606705a130de5212fd048fbaf8c3842f4a240f4b45ba0c90f82194ccdda3ed89c96b0afe1d51d

/-- A signature of the empty text by the private key 1, computed outside the model. -/
def sigEmpty : List Byte := beBytes 96 0x2ca8c560f92280756d4d4e5903043a370532b246669e6110b033f9ab150d51863208e24bd70ce3738d027638bbd54cd28036b6a815078fc4c6dc61858c2146efd14f0c4ebf63d267609cb9545a549a13a047d2a0c447938b934ba767f0ebd4ea

theorem signed_length : (key1 ++ sigEmpty).length = 192 := by decide +kernel

/-- The flash with records `recs` and a signed, empty head in bank A. -/
def keyedFlash (recs : List Byte) : ByteMem := flashProgram (flashProgram [] (bankBase 0 + 256) recs) (bankBase 0) (key1 ++ sigEmpty)

theorem keyedFlash_signature (recs : List Byte) : flashBytes (keyedFlash recs) (bankBase 0) 192 = key1 ++ sigEmpty := flash_reads _ _ _ _ signed_length

theorem keyedFlash_records (recs : List Byte) : flashBytes (keyedFlash recs) (bankBase 0 + 256) recs.length = recs := by
  rw [keyedFlash, flashBytes_program_other _ _ _ _ _ (Or.inr (by rw [signed_length]; omega)), flashBytes_program]

/-- A device whose first key slot holds the digest of key 1, with an image of the records `recs`, signed with it. -/
def keyed (recs : List Byte) : State :=
  let s := loading .pass1 false (keyedFlash recs)
  { s with img := { s.img with otp := { Otp.blank with slots := [slot1, [], [], []] },
                               hdr := { ImgHeader.reset with recOff := 256, recLen := recs.length } } }

theorem keyed_img (recs : List Byte) : (keyed recs).img.bank = 0 ∧ (keyed recs).img.flash = keyedFlash recs ∧ (keyed recs).img.hdr.recOff = 256 ∧
    (keyed recs).img.hdr.recLen = recs.length ∧ (keyed recs).img.hdr.version = 0 ∧ (keyed recs).img.hdr.sigOff = 0 :=
  ⟨rfl, by simp only [keyed, loading], rfl, by simp only [keyed, loading], rfl, rfl⟩

/-- A record of an operation, a count, an address and two words, and END. -/
def recd (op count a x y : Nat) : List Byte := leBytes 1 op ++ leBytes 1 0 ++ leBytes 2 count ++ leBytes 4 a ++ leBytes 4 x ++ leBytes 4 y

def recEnd : List Byte := recd 7 0 0 0 0

theorem recEnd_length : recEnd.length = 16 := by decide +kernel

set_option maxRecDepth 100000 in
/-- The signature of `keyed` verifies. -/
theorem witness_ImagePassesEnd_signed :
    (keyed recEnd).alive = true ∧ (keyed recEnd).img.load = .pass1 ∧
    (keyed recEnd).img.signatureCause (keyed recEnd).img.bank (keyed recEnd).img.hdr = 0 := by
  refine ⟨by decide +kernel, by decide +kernel, ?_⟩
  obtain ⟨h1, h2, -, -, -, h6⟩ := keyed_img recEnd
  simp only [ImgSt.signatureCause, h1, h2, h6, Nat.add_zero, keyedFlash_signature]
  decide +kernel

/-- Where the records of `keyed` end. -/
def recsOf (recs : List Byte) : State × RecEnd :=
  let s := keyed recs
  let b := flashBytes s.img.flash (bankBase s.img.bank + s.img.hdr.recOff) s.img.hdr.recLen
  let v := (((s.tick 0).bootStep 6).raise 0x302 bIMG s.img.bank s.img.hdr.version).bootStep 7
  State.records (b.length / 16 + 1) b v.clk.now { v with led := { v.led with kept := none }, img := { v.img with load := .pass1, recs := none } }

/-- The records read back as they are. -/
theorem recsOf_read (recs : List Byte) : recsOf recs =
    (let v := ((((keyed recs).tick 0).bootStep 6).raise 0x302 bIMG 0 0).bootStep 7
     State.records (recs.length / 16 + 1) recs v.clk.now { v with led := { v.led with kept := none }, img := { v.img with load := .pass1, recs := none } }) := by
  obtain ⟨h1, h2, h3, h4, h5, -⟩ := keyed_img recs
  simp only [recsOf, h1, h2, h3, h4, h5, keyedFlash_records]

set_option maxRecDepth 100000 in
/-- The clauses of ImagePassesEnd by its records: END, a window below its range, an operation there is none of, a POLL that is not met, a DELAY,
and a write that resets the device. -/
theorem witness_ImagePassesEnd_records :
    ((recsOf recEnd).2 = .done ∧ (recsOf recEnd).1.loadVetoes = false) ∧
    ((recsOf (recd 1 0 R.TOP_LOCK_TIME 49 0 ++ recEnd)).2 = .done ∧ (recsOf (recd 1 0 R.TOP_LOCK_TIME 49 0 ++ recEnd)).1.loadVetoes = true) ∧
    (recsOf (recd 8 0 0 0 0)).2 = .fail ∧
    (recsOf (recd 6 5 R.TOP_POUND 1 1 ++ recEnd)).2 = .wait (recd 6 5 R.TOP_POUND 1 1 ++ recEnd) 5000000 true ∧
    (recsOf (recd 5 0 0 3 0 ++ recEnd)).2 = .wait recEnd 3000 false ∧
    (recsOf (recd 1 0 R.PWR_RESET 0x57520001 0 ++ recEnd)).2 = .gone := by
  simp only [recsOf_read]
  decide +kernel

/-- An image load in which a record waits until `till`. -/
def waits (b : List Byte) (till : Nat) (poll : Bool) : State :=
  { loading .pass2 false [] with img := { (loading .pass2 false []).img with recs := some (b, till, poll) } }

/-- Clauses of WaitingRecords: a POLL that is not met and one that is, a DELAY, before the instant, at it and after it. -/
theorem witness_WaitingRecords :
    let off := recd 6 5 R.TOP_POUND 1 1
    let met := recd 6 5 R.TOP_POUND 0 0
    (∀ p ∈ [true, false], (waits off 5 p).alive = true ∧ (waits off 5 p).img.load = .pass2 ∧ (waits off 5 p).img.recs = some (off, 5, p)) ∧
    (((waits off 5 true).tick 5).pollMet off = false ∧ ((waits met 5 true).tick 5).pollMet met = true) ∧
    max (waits off 5 true).clk.now 5 ≤ 5 ∧ 5 < max (waits off 5 true).clk.now 6 ∧ max (waits off 5 true).clk.now 4 < 5 := by decide +kernel

/-- An update at a state, an offset and a length. -/
def updAt (st off len : Nat) : State := ((up.wr F.IMG_UPD_STAT_STATE st).wr F.IMG_UPD_OFF_OFF off).wr F.IMG_UPD_LEN_LENGTH len

/-- Clauses of UpdateCommands: each state, the shortest and the longest length, and one below. -/
theorem witness_UpdateCommands :
    ((updAt 0 0 1024).alive = true ∧ (updAt 0 0 1024).rd F.IMG_UPD_STAT_STATE = 0 ∧ updLenOk ((updAt 0 0 1024).rd F.IMG_UPD_LEN_LENGTH) = true ∧
      updLenOk ((updAt 6 0 16777216).rd F.IMG_UPD_LEN_LENGTH) = true ∧ updLenOk ((updAt 5 0 1008).rd F.IMG_UPD_LEN_LENGTH) = false) ∧
    ((updAt 1 1024 1024).rd F.IMG_UPD_STAT_STATE = 1 ∧
      (updAt 1 1024 1024).rd F.IMG_UPD_OFF_OFF = (updAt 1 1024 1024).rd F.IMG_UPD_LEN_LENGTH ∧ (updAt 1 1024 1024).img.updBuf = []) ∧
    (updAt 2 0 1024).rd F.IMG_UPD_STAT_STATE = 2 ∧ (updAt 3 0 1024).rd F.IMG_UPD_STAT_STATE = 3 ∧
    ¬ ((updAt 4 0 1024).rd F.IMG_UPD_STAT_STATE = 1 ∨ (updAt 4 0 1024).rd F.IMG_UPD_STAT_STATE = 2 ∨ (updAt 4 0 1024).rd F.IMG_UPD_STAT_STATE = 3) := by
  decide +kernel

set_option maxRecDepth 100000 in
/-- Clauses of UpdateData: the last word of the length and one past it, a read error, and a bank that fails the check. -/
theorem witness_UpdateData :
    ((updAt 1 1020 1024).alive = true ∧ (updAt 1 1020 1024).rd F.IMG_UPD_STAT_STATE = 1 ∧
      (updAt 1 1020 1024).rd F.IMG_UPD_OFF_OFF < (updAt 1 1020 1024).rd F.IMG_UPD_LEN_LENGTH ∧ (updAt 1 1020 1024).img.updBuf.length + 4 ≤ 65536) ∧
    ((updAt 1 1024 1024).rd F.IMG_UPD_LEN_LENGTH ≤ (updAt 1 1024 1024).rd F.IMG_UPD_OFF_OFF) ∧
    ((updAt 2 1024 1024).rd F.IMG_UPD_STAT_STATE = 2 ∧ (updAt 2 1024 1024).verifyCause ≠ 0) := by decide +kernel

/-- A signature of the sound image by the private key 1, computed outside the model. -/
def sigImage : List Byte := beBytes 96 0x2ca8c560f92280756d4d4e5903043a370532b246669e6110b033f9ab150d51863208e24bd70ce3738d027638bbd54cd2977cfa4cc9268046134d3c7f6d5d5897a3b2670b354ae4e6c685a2b22987dd4f0bd7816e3e5022fd3e94ee9e97b7a022

/-- The flash with a sound, signed image in bank B. -/
def signedFlash : ByteMem := flashProgram (flashProgram [] (bankBase 1) (header ++ recEnd)) (bankBase 1 + 832) (key1 ++ sigImage)

theorem signedFlash_header : flashBytes signedFlash (bankBase 1) 256 = header := by
  have h := header_fields.1
  rw [signedFlash, flashBytes_program_other _ _ _ _ _ (Or.inl (by omega))]
  have e := flash_reads [] (bankBase 1) (256 + 16) (header ++ recEnd) (by rw [List.length_append, h, recEnd_length])
  rw [flashBytes_append] at e
  exact (List.append_inj e (by rw [h]; exact flashBytes_length _ _ _)).1

theorem signedFlash_rest : flashBytes signedFlash (bankBase 1 + 256) 16 = recEnd := by
  have h := header_fields.1
  rw [signedFlash, flashBytes_program_other _ _ _ _ _ (Or.inl (by omega))]
  have e := flash_reads [] (bankBase 1) (256 + 16) (header ++ recEnd) (by rw [List.length_append, h, recEnd_length])
  rw [flashBytes_append] at e
  exact (List.append_inj e (by rw [h]; exact flashBytes_length _ _ _)).2

theorem signedFlash_signed : flashBytes signedFlash (bankBase 1) 832 = header ++ recEnd ++ List.replicate 560 0xFF#8 := by
  have h := header_fields.1
  have hl : (header ++ recEnd).length = 272 := by rw [List.length_append, h, recEnd_length]
  rw [show 832 = 256 + 16 + 560 from rfl, flashBytes_append, flashBytes_append, signedFlash_header, signedFlash_rest, signedFlash,
    flashBytes_program_other _ _ _ _ _ (Or.inl (by omega)), flashBytes_program_other _ _ _ _ _ (Or.inr (by omega)), flashBytes_erased]

theorem signedFlash_signature : flashBytes signedFlash (bankBase 1 + 832) 192 = key1 ++ sigImage := flash_reads _ _ _ _ (by decide +kernel)

/-- A sound, signed image in bank B, read back. -/
def verified : State :=
  let s := updAt 2 1024 1024
  { s with img := { s.img with otp := { Otp.blank with slots := [slot1, [], [], []] }, flash := signedFlash } }

set_option maxRecDepth 100000 in
theorem signedFlash_cause : verified.img.signatureCause 1 (parseHeader header) = 0 := by
  obtain ⟨-, -, h1, h2, h3, -⟩ := header_fields
  simp only [ImgSt.signatureCause, h1, h2, h3]
  rw [show verified.img.flash = signedFlash from rfl, signedFlash_signature, signedFlash_signed]
  decide +kernel

set_option maxRecDepth 100000 in
/-- The passing check of UpdateData. -/
theorem witness_UpdateData_signed : verified.alive = true ∧ verified.rd F.IMG_UPD_STAT_STATE = 2 ∧ verified.verifyCause = 0 := by
  refine ⟨by decide +kernel, by decide +kernel, ?_⟩
  obtain ⟨-, h0, h1, -, -, h4, h5, h6, h7, h8⟩ := header_fields
  have hb : verified.inactiveBank = 1 := by decide +kernel
  simp only [State.verifyCause, hb]
  rw [show verified.img.flash = signedFlash from rfl, signedFlash_header]
  simp only [h0, signedFlash_cause, h4, h5, signedFlash_rest, ne_eq, not_true, if_false]
  simp only [ImgSt.bankTables, ImgSt.bankManifest, h6, h7]
  simp only [tableDir, flashBytes, Sparse.getAll, manifestEnts, loadTables, List.range_zero, List.map_nil, List.append_nil, h1, h8, if_true]
  decide +kernel

/-- A flash operation in progress, of a kind, at its first or second try. -/
def programming (kind : Nat) (retry : Bool) : State :=
  { up with img := { up.img with job := some { who := .redo, ops := [{ kind := kind, addr := 0, data := [] }, { kind := 2, addr := 0, data := [0#8] }],
                                               retry := retry, data := [] } } }

/-- A power warning in progress. -/
def braced (s : State) : State := { s with pwr := { s.pwr with brace := some { since := 0, mask := 1, trips := 1, raised := false, pounds := [] } } }

/-- Clauses of FlashOperations: a read and an erase, at both tries, with an operation to follow, without and with a brace. -/
theorem witness_FlashOperations :
    (∀ kind ∈ [1, 3], ∀ retry ∈ [true, false], ∃ j o rest, (programming kind retry).img.job = some j ∧ j.ops = o :: rest ∧ rest ≠ [] ∧ j.who ≠ .save ∧
      o.kind = kind ∧ j.retry = retry) ∧
    ((programming 3 false).pwr.brace = none ∧ (programming 3 false).pwr.phase = .run ∧ (braced (programming 3 false)).pwr.brace.isSome = true ∧
      (braced (programming 3 false)).img.job = (programming 3 false).img.job) := by
  refine ⟨?_, by decide +kernel⟩
  intro kind _ retry _
  exact ⟨_, _, _, rfl, rfl, by simp, by simp, rfl, rfl⟩

/-- Clauses of SuspendAndCalSave: a suspension without and with a brace, none, the bit and not, and a flash controller at rest, with a job, and in a
brace. -/
theorem witness_SuspendAndCalSave :
    (let s := { up with img := { up.img with suspend := true } }
     (s.alive = true ∧ s.img.suspend = true ∧ s.pwr.brace = none) ∧
       ((braced s).alive = true ∧ (braced s).img.suspend = true ∧ (braced s).pwr.brace.isSome = true)) ∧
    up.img.suspend = false ∧ bitAt (1#32).toNat 0 = true ∧ bitAt (0xFFFFFFFE#32).toNat 0 = false ∧
    (up.img.job = none ∧ up.img.jobs = [] ∧ up.pwr.brace = none ∧ up.img.load ≠ .imageFail) ∧ (programming 3 false).img.job.isSome = true := by
  decide +kernel


/-- A device that waits for its first close. -/
def firstClose (side : Nat) (hb : Option PartnerHb) : State :=
  let s := (pairUp side).wr F.IMG_STATUS_STAGE 13
  { s with img := { s.img with panelStep := true }, pair := { s.pair with hb := hb } }

/-- Clauses of BootStepsRun: an image that is ready and none; a device by itself, one whose partner runs its lock cycle with a heartbeat of 10 ms ago, and
side 2 without a partner. -/
theorem witness_BootStepsRun :
    (({ up with img := { up.img with readyAt := some 0 } } : State).img.readyAt.isSome = true ∧ up.img.readyAt = none) ∧
    (∀ side ∈ [0, 1, 2], let s := firstClose side none
      s.alive = true ∧ s.img.panelStep = true ∧ s.stage = 13 ∧ s.lock.running = false ∧ s.pstate ≠ pUPSEQ ∧ s.pstate ≠ pTRAIN) ∧
    ((firstClose 0 none).paired = false ∧ (firstClose 2 none).pwr.straps.pair = 2 ∧ (firstClose 2 none).pair.hb = none) ∧
    (let h : PartnerHb := { pound := 0xFFFFFFFF, flags := 1, lock := 0, fcnt := 0, closeS := 0, closeNs := 0, at_ := 0 }
     (firstClose 1 (some h)).paired = true ∧ (firstClose 1 (some h)).pair.hb = some h ∧ bitAt h.flags 0 = true ∧
       max (firstClose 1 (some h)).clk.now 10000000 ≤ h.at_ + 10000000) := by decide +kernel
/-- Both ring ports up behind an open weir, with a port's queues. -/
def ringUp (p : RingPort) : State := { up with ring := { RingSt.reset with weirOpen := true, ports := [{ p with link := 2 }, { RingPort.reset with link := 2 }] } }

/-- A frame with a given type word and the bytes after it. -/
def frame (dst ty : Nat) (rest : List Byte) : Frame :=
  { data := beBytes 6 dst ++ beBytes 6 7 ++ beBytes 2 ty ++ rest ++ List.replicate 60 0#8, fcs := 0, corr := 0, unc := 0, headBad := false }

/-- What follows the type of a ring tag: version, HOP and originator. -/
def tagRest (ver hop origin : Nat) : List Byte := beBytes 1 (16 * ver) ++ beBytes 1 hop ++ beBytes 6 origin

/-- Clauses of RingFrameRows: a tag of the device, of the versions beside 1, the HOPs 0, 1 and 2, a tagged frame for the device, a MAC control
frame, an untagged frame for the device, and one for another. -/
theorem witness_RingFrameRows :
    ((ringUp RingPort.reset).alive = true ∧ (ringUp RingPort.reset).ring.weirOpen = true ∧ ((ringUp RingPort.reset).ring.port 0).link = 2 ∧
      ((ringUp RingPort.reset).ring.port 1).link = 2 ∧ (ringUp RingPort.reset).mac = 0) ∧
    ((frame 9 0x88B5 (tagRest 1 2 0)).tagged = true ∧ (frame 9 0x88B5 (tagRest 1 2 0)).origin = 0 ∧ (frame 9 0x88B5 (tagRest 1 2 0)).headBad = false) ∧
    (∀ ver ∈ [0, 2], let f := frame 9 0x88B5 (tagRest ver 2 5)
      f.tagged = true ∧ f.origin ≠ 0 ∧ f.tagVer ≠ 1) ∧
    (∀ hop ∈ [0, 1, 2], let f := frame 9 0x88B5 (tagRest 1 hop 5)
      f.tagged = true ∧ f.origin ≠ 0 ∧ f.tagVer = 1 ∧ f.dst ≠ 0 ∧ f.hop = hop) ∧
    (frame 0 0x88B5 (tagRest 1 2 5)).dst = 0 ∧
    ((frame 9 0x8808 []).tagged = false ∧ (frame 9 0x8808 []).type12 = 0x8808) ∧
    ((frame 0 0x800 []).tagged = false ∧ (frame 0 0x800 []).dst = 0) ∧
    ((frame 9 0x800 []).tagged = false ∧ (frame 9 0x800 []).type12 ≠ 0x8808 ∧ (frame 9 0x800 []).dst ≠ 0) := by decide +kernel

/-- Clauses of RingClosedFrames: a closed weir, and a port without link. -/
theorem witness_RingClosedFrames : up.alive = true ∧ up.ring.weirOpen = false ∧ (up.ring.port 0).link ≠ 2 := by decide +kernel

/-- A frame in transit. -/
def transit : Transit := { data := (frame 9 0x800 []).data, stomp := false, inAt := 0 }

/-- A local frame of class 3. -/
def local3 : LFrame := LFrame.of 0 3 0 (frame 9 0x800 []).data

/-- Clauses of TxBoundaryPicks: each of the four picks on a free transmitter. -/
theorem witness_TxBoundaryPicks :
    (let s := ringUp RingPort.reset
     s.alive = true ∧ s.ring.ports.length = 2 ∧ s.ring.weirOpen = true ∧ (s.ring.port 0).link = 2 ∧ (s.ring.port 0).busy ≤ max s.clk.now 0) ∧
    RingPort.reset.pick 0 0 0 = .none ∧
    ({ RingPort.reset with loc := [local3] } : RingPort).pick 0 0 0 = .own 0 local3 ∧
    ({ RingPort.reset with ins := [transit] } : RingPort).pick 0 0 0 = .buffer transit ∧
    ({ RingPort.reset with arriving := [transit] } : RingPort).pick 0 0 0 = .transit transit := by decide +kernel

/-- Clauses of LoopbackAndLinks: training, not training, a retry that waits and none, links off, training and up behind an open weir, a closed
one, and the media on either side of the optical ones. -/
theorem witness_LoopbackAndLinks :
    (let s := { up with ring := { up.ring with training := some 0 } }
     s.alive = true ∧ s.ring.training = some 0) ∧ up.ring.training = none ∧ up.ring.retryFrom = none ∧
    ({ up with ring := { up.ring with retryFrom := some 0 } } : State).ring.retryFrom.isSome = true ∧
    (let s := { up with ring := { up.ring with weirOpen := true, ports := [{ RingPort.reset with link := 1 }, RingPort.reset] } }
     s.ring.weirOpen = true ∧ (s.ring.port 0).link = 1 ∧ (s.ring.port 1).link = 0 ∧ (s.ring.port 1).link ≠ 1) ∧ up.ring.weirOpen = false ∧
    ((cmt up F.RING_PORT_CFG_E_MEDIA 1).cm F.RING_PORT_CFG_E_MEDIA = 1 ∧ (cmt up F.RING_PORT_CFG_W_MEDIA 2).cm F.RING_PORT_CFG_W_MEDIA = 2) := by
  decide +kernel

/-- A Pliash packet with a sound header (R128). -/
def pliash (ty flags parm chan seq : Nat) (pay : List Byte) : List Byte :=
  let h := beBytes 1 1 ++ beBytes 1 ty ++ beBytes 1 flags ++ beBytes 1 parm ++ beBytes 2 chan ++ beBytes 2 pay.length ++ beBytes 4 seq
  h ++ beBytes 4 (crc32c h).toNat ++ pay

/-- A datagram of group entry 0. -/
def datagram (l : List Byte) : Datagram := { grp := 0, mac := 0, src := 0, sport := 0, data := l }

/-- A device with a ready Basin and a channel whose window ends at SEQ 300, which has been received. -/
def streaming : State :=
  { cmt (up.wr F.BASIN_STATUS_READY 1) F.SEC_CTRL_REQUIRE_ENC 0 with strm := { StrmSt.reset with
      chans := [{ grp := 0, chan := 7, winEnd := some 300, got := 1, groups := [], lastP := none, counted := false }] } }

/-- A sound packet of each type (R128). -/
theorem witness_PliashTypes_header :
    PliashOk (datagram (pliash 1 0 0 7 300 [])) 1 ∧ PliashOk (datagram (pliash 2 0 8 7 300 [])) 2 ∧ PliashOk (datagram (pliash 3 0 0 0 0 [])) 3 ∧
    PliashOk (datagram (pliash 4 6 0 0 0 [])) 4 := by
  refine ⟨⟨?_, ?_, ?_, ?_, ?_, ?_, ?_, Or.inl ?_, ?_⟩, ⟨?_, ?_, ?_, ?_, ?_, ?_, ?_, Or.inl ?_, ?_⟩, ⟨?_, ?_, ?_, ?_, ?_, ?_, ?_, Or.inl ?_, ?_⟩,
    ⟨?_, ?_, ?_, ?_, ?_, ?_, ?_, Or.inl ?_, ?_⟩⟩ <;> decide +kernel

/-- Clauses of PliashTypes: an empty packet, each type, a KEY payload of 344 bytes for another device and for this one, a full key queue, HOLD, a Basin not ready, a duplicate at the window's end, and the latest
late packet. -/
theorem witness_PliashTypes :
    (({ up with ring := { up.ring with rx := [datagram []] } } : State).alive = true ∧
      ({ up with ring := { up.ring with rx := [datagram []] } } : State).ring.rx = [datagram []] ∧ ([] : List Byte).length < 16) ∧
    up.sec.queue.length < 8 ∧ 8 ≤ (List.replicate 8 ([] : List Byte)).length ∧ ¬ (([] : List Byte).length = 344 ∧ beAt [] 4 6 ≠ up.mac) ∧
    (let pay := List.replicate 5 0#8 ++ List.replicate 339 1#8
     pay.length = 344 ∧ beAt pay 4 6 ≠ up.mac) ∧ ¬ ((List.replicate 344 0#8).length = 344 ∧ beAt (List.replicate 344 0#8) 4 6 ≠ up.mac) ∧
    up.dropsScene = true ∧ (inMode streaming 0x80#8).dropsScene = true ∧
    (streaming.alive = true ∧ streaming.dropsScene = false ∧ streaming.cm F.SEC_CTRL_REQUIRE_ENC = 0 ∧
      chanOf streaming.strm.chans 0 7 = some { grp := 0, chan := 7, winEnd := some 300, got := 1, groups := [], lastP := none, counted := false } ∧
      laterPound 300 300 = false ∧ (300 + 2 ^ 32 - 300) % 2 ^ 32 < 256 ∧ bitAt 1 0 = true ∧
      laterPound 44 300 = false ∧ 256 ≤ (300 + 2 ^ 32 - 44) % 2 ^ 32) := by decide +kernel
/-- A parity group of one held packet of two, in a state. -/
def group (st : Nat) : PGroup :=
  { k := 0, firstAt := 0, parity := some (2, []), st := st, pkts := [{ seq := 1, flags := 0, key := 0, data := [], moor := 0, eaten := false }], wanted := [] }

/-- A paired device with a usable towpath, or none, and a channel with one group. -/
def grouped (side st : Nat) : State :=
  { (pairUp side).wr F.TOW_STATUS_UP 1 with strm := { StrmSt.reset with
      chans := [{ grp := 0, chan := 7, winEnd := some 1, got := 1, groups := [group st], lastP := none, counted := false }] } }

/-- Clauses of ParityGroupWaits: no channel, no group, groups waiting, wanted and resolved, with and without a partner, with and without a missing
packet. -/
theorem witness_ParityGroupWaits :
    (∀ st ∈ [0, 1, 2], ∀ side ∈ [0, 1], (grouped side st).alive = true ∧
      ((chanOf (grouped side st).strm.chans 0 7).bind (fun c => c.group 0)) = some (group st)) ∧
    chanOf up.strm.chans 0 7 = none ∧ ((chanOf (grouped 0 0).strm.chans 0 7).bind (fun c => c.group 1)) = none ∧
    (group 0).missing ≠ [] ∧ ({ group 0 with parity := none, pkts := (group 0).pkts.map (fun p => { p with seq := 0 }) } : PGroup).missing = [] ∧ (grouped 1 0).repairs = true ∧ (grouped 0 0).repairs = false := by
  decide +kernel

/-- Clauses of QueriesAnswered: no query, one, reports off and on. -/
theorem witness_QueriesAnswered :
    (up.alive = true ∧ up.ring.queries = []) ∧ ({ up with ring := { up.ring with queries := [(true, 0)] } } : State).ring.queries = [(true, 0)] ∧
    (cmt up F.RING_IP_CFG_REPORT 0).cm F.RING_IP_CFG_REPORT ≠ 1 ∧ (cmt up F.RING_IP_CFG_REPORT 1).cm F.RING_IP_CFG_REPORT = 1 := by decide +kernel

/-- A KEY message of half 0 of slot 0 with KSEQ 1 for a device of MAC 0, made outside the model: ephemeral private key 3, device private key 2, source
private key 1, the key 00 to 0F and the IV 10 to 1F. -/
def keyMsg : List Byte := beBytes 344 0x00101000000000000000000000000001077a41d4606ffa1464793c7e5fdc7d98cb9d3910202dcd06bea4f240d3566da6b408bbae5026580d02d7e5c70500c831c995f7ca0b0c42837d0bbe9602a9fc998520b41c85115aa5f7684c0edc111eacc24abd6be4b5d298b65f28600a2f1df1211d2dbf0bfa110d22353cf932c63682c8e73afb502161752a68ef67b4cb6d8832a7764f568c81c2aa87ca22be8b05378eb1c71ef320ad746e1d3b628ba79b9859f741e082542a385502f25dbf55296c3a545e3872760ab73617de4a96262c6f5d9e98bf9292dc29f8f41dbd289a147ce9da3113b5f0b8c00a60b1ce1d7e819d7a431d7c90ea0e5f2ca8c560f92280756d4d4e5903043a370532b246669e6110b033f9ab150d51863208e24bd70ce3738d027638bbd54cd2c517f4dfac726049e86c8acd4b745e60b31ad1aae59e6bdd5048ce658986f235282081f5a190d4f35cdb4c6f1fab9bdf

/-- A device with that private key and the digest of that source, with the message queued. -/
def sourced : State :=
  let regs := (List.range 12).foldl (fun r i => r.setWord (R.SEC_SRC_HASH i) (BitVec.ofNat 32 (beAt slot1 (44 - 4 * i) 4))) up.led.bank0.regs
  { up with led := { up.led with bank0 := { up.led.bank0 with regs := regs } }, sec := { up.sec with queue := [keyMsg] },
            img := { up.img with otp := { up.img.otp with devKey := beBytes 48 2 } } }

/-- Clauses of KeysLoad: none, and a short message. -/
theorem witness_KeysLoad :
    (up.alive = true ∧ up.sec.queue = []) ∧ (({ up with sec := { up.sec with queue := [[]] } } : State).sec.queue = [[]] ∧ up.keyCheck [] = .inl 1) := by
  decide +kernel

set_option maxRecDepth 100000 in
/-- The passing message of KeysLoad. -/
theorem witness_KeysLoad_pass :
    (sourced.alive = true ∧ sourced.sec.queue.length = 1) ∧
      sourced.keyCheck keyMsg = .inr { slot := 0, gen := 0, key := beBytes 16 0x000102030405060708090a0b0c0d0e0f,
                                       iv := beBytes 16 0x101112131415161718191a1b1c1d1e1f, crypt := 1, skip := 0 } := by
  decide +kernel

theorem witness_KeysLoad_queue : sourced.sec.queue = [keyMsg] := by simp only [sourced]

/-- A PTP message of a type from port identity 1, with a flag byte. -/
def ptp (ty flags : Nat) : PtpMsg :=
  { port := 0, hop := 1, at_ := 0, src := 1, mac := 2,
    msg := [BitVec.ofNat 8 ty, 2#8] ++ List.replicate 4 0#8 ++ beBytes 1 flags ++ List.replicate 13 0#8 ++ beBytes 10 1 ++ List.replicate 34 0#8 }

/-- A master of port identity 1, heard twice within an interval or once. -/
def master (prev : Option Nat) : Master :=
  { portId := 1, gmId := 1, rank := [0], logInt := 0, lastSeq := 1, lastAt := 0, prevAt := prev, addr := 1, mac := 2, syncOk := true, sync := none }

/-- A device with queued PTP messages and a master. -/
def timed (l : List PtpMsg) (m : Option Master) : State :=
  { up with ring := { RingSt.reset with weirOpen := true, ptp := l },
            time := { TimeSt.reset with master := m, masters := m.toList, portSet := true, sm := some 0, pend := some { seq := 0, t2 := 0, corr := 0 },
                                        req := some { seq := 0, t3e := some 0, t3w := some 0 }, syncHop := [0, 1] } }

/-- An Announce with a logAnnounceInterval. -/
def announced (log : Int) : PtpMsg := { ptp 11 0 with msg := ((ptp 11 0).msg.take 33) ++ beBytes 1 (unsigned 8 log) ++ (ptp 11 0).msg.drop 34 }

/-- Clauses of MastersAreSelected: no Announce, one of a new sequence and one of the last, of a short message, of a closed weir, of the intervals at
the ends of -3 to 3 and beyond, no master, and a last and a next best one. -/
theorem witness_MastersAreSelected :
    (up.alive = true ∧ takePtp isAnnounce up.ring.ptp = none ∧ up.time.master = none) ∧
    (let s := timed [ptp 11 0] (some (master none))
     s.alive = true ∧ takePtp isAnnounce s.ring.ptp = some (ptp 11 0, []) ∧ s.ptpOurs (ptp 11 0).msg = true ∧ 64 ≤ (ptp 11 0).msg.length ∧
       s.ring.weirOpen = true ∧ s.time.masters.find? (fun y => y.portId == ptpPort (ptp 11 0).msg) = some (master none) ∧
       (master none).lastSeq ≠ beAt (ptp 11 0).msg 30 2 ∧ ({ master none with lastSeq := 0 } : Master).lastSeq = beAt (ptp 11 0).msg 30 2 ∧
       s.time.master = some (master none)) ∧
    (∀ log ∈ [(-3 : Int), 0, 3], (timed [] none).ptpOurs (announced log).msg = true ∧ 64 ≤ (announced log).msg.length ∧ ptpLog (announced log).msg = log) ∧
    (∀ log ∈ [(-4 : Int), 4], (timed [] none).ptpOurs (announced log).msg = true ∧ 64 ≤ (announced log).msg.length ∧ ptpLog (announced log).msg = log) ∧
    ((ptp 11 0).msg.take 63).length < 64 ∧ up.ptpOurs [] = false ∧ up.ring.weirOpen = false ∧
    bestMaster [master none] 0 none = none ∧ bestMaster [master (some 0)] 4000000000 none = some (master (some 0)) ∧
      bestMaster [master (some 0)] 4000000001 none = none ∧ bestMaster [master none] 0 (some 1) = some (master none) := by decide +kernel

/-- Clauses of TimePortMoves: the time port silent for 3 intervals and for less, the other one heard within 3 and not, and no Syncs on it. -/
theorem witness_TimePortMoves :
    (let s := { timed [] (some (master none)) with time := { (timed [] (some (master none))).time with syncAt := [0, 1], syncInt := 0 } }
     s.alive = true ∧ s.time.master.isSome = true ∧ s.time.syncHop.getD (1 - s.timePort) 0 ≠ 0 ∧ s.timePort = 0 ∧
       3 ≤ (s.tick 3000000000).syncGap 0 ∧ (s.tick 3000000000).syncGap 1 < 3 ∧ (s.tick 2999999999).syncGap 0 < 3 ∧ 3 ≤ (s.tick 3000000001).syncGap 1) ∧
    up.time.master = none ∧ up.time.syncHop.getD (1 - up.timePort) 0 = 0 := by decide +kernel

/-- A Delay_Resp that answers request 0 of the device on the east port. -/
def delayResp : PtpMsg := { ptp 9 0 with msg := ((ptp 9 0).msg.take 44) ++ beBytes 10 (clockIdentity 0 * 65536 + 1) ++ List.replicate 10 0#8 }

/-- Clauses of ServoFollowsTheMaster: a two-step and a one-step Sync, a Follow_Up and a Delay_Resp, the offsets at LOCK_NS and at STEP_US and beyond
each, and a request that can be sent and one that cannot. -/
theorem witness_ServoFollowsTheMaster :
    (let s := fun l => timed l (some (master none))
     ((s []).alive = true ∧ (s []).time.master = some (master none) ∧ (s []).time.portSet = true ∧ (s []).timePort = 0 ∧ (s []).time.sm = some 0 ∧ (s []).mac = 0 ∧
       (∀ x ∈ (s []).time.masters, x.portId = (master none).portId → x.syncOk = true)) ∧
     (∀ m ∈ [ptp 0 2, ptp 0 0, ptp 8 0], takePtp isSync (s [m]).ring.ptp = some (m, []) ∧ (s []).ptpOurs m.msg = true ∧ 44 ≤ m.msg.length ∧
       ptpPort m.msg = (master none).portId ∧ m.port = 0 ∧ -7 ≤ ptpLog m.msg ∧ ptpLog m.msg ≤ 1 ∧ beAt m.msg 30 2 = 0) ∧
     beAt (ptp 0 2).msg 0 1 % 16 = 0 ∧ bitAt (beAt (ptp 0 2).msg 6 1) 1 = true ∧ bitAt (beAt (ptp 0 0).msg 6 1) 1 = false ∧ beAt (ptp 8 0).msg 0 1 % 16 = 8 ∧
     (takePtp isDelayResp (s [delayResp]).ring.ptp = some (delayResp, []) ∧ (s []).ptpOurs delayResp.msg = true ∧ 54 ≤ delayResp.msg.length ∧
       ptpPort delayResp.msg = (master none).portId ∧ beAt delayResp.msg 30 2 = 0 ∧
       beAt delayResp.msg 44 10 = clockIdentity (s []).mac * 65536 + ((s []).timePort + 1))) ∧
    (∀ o ∈ [up.cm F.TIME_LOCK_LOCK_NS * 65536, up.cm F.TIME_LOCK_LOCK_NS * 65536 + 1, up.cm F.TIME_LOCK_STEP_US * 65536000, up.cm F.TIME_LOCK_STEP_US * 65536000 + 1],
      ∀ ever ∈ [true, false], ({ timed [] (some (master none)) with lock := { up.lock with everOpened := ever } } : State).lock.everOpened = ever ∧ (o : Int).natAbs = o) ∧
    ((cmt up F.TIME_PTP_CFG_TRANSPORT 1).cm F.TIME_PTP_CFG_TRANSPORT = 1 ∧ (cmt up F.TIME_PTP_CFG_TRANSPORT 1).cm F.RING_IP4_ADDR = 0) ∧
    ¬ ((cmt up F.TIME_PTP_CFG_TRANSPORT 0).cm F.TIME_PTP_CFG_TRANSPORT = 1 ∧ (cmt up F.TIME_PTP_CFG_TRANSPORT 0).cm F.RING_IP4_ADDR = 0) := by decide +kernel

/-- Runs of servo computations, with LOCKED. -/
def runs (locked inRun outRun : Nat) : State :=
  { timed [] (some (master none)) with led := ((up.wr F.TIME_STATUS_LOCKED locked).wr F.TIME_STATUS_FREE_RUN 0).led, time := { (timed [] (some (master none))).time with inRun := inRun, outRun := outRun } }

/-- Clauses of LockedFollowsTheRuns: 15 and 16 inside, 3 and 4 outside, free-run, and a loss of the master. -/
theorem witness_LockedFollowsTheRuns :
    ((runs 0 16 0).alive = true ∧ (runs 0 16 0).rd F.TIME_STATUS_LOCKED = 0 ∧ 16 ≤ (runs 0 16 0).time.inRun ∧ (runs 0 16 0).rd F.TIME_STATUS_FREE_RUN = 0) ∧
    (runs 0 15 0).time.inRun < 16 ∧
    ((runs 1 0 4).rd F.TIME_STATUS_LOCKED = 1 ∧ 4 ≤ (runs 1 0 4).time.outRun) ∧ (runs 1 0 3).time.outRun < 4 ∧
    ((runs 1 0 0).time.master = some (master none) ∧ (runs 1 0 0).evt.pending = []) ∧
    ((runs 0 16 0).wr F.TIME_STATUS_FREE_RUN 1).rd F.TIME_STATUS_FREE_RUN ≠ 0 := by
  decide +kernel

/-- Clauses of PulseOutputs: the output enabled and not, at the ends of the 5 ns about a second and beyond, and an event output at and beside its
period. -/
theorem witness_PulseOutputs :
    ((cmt up F.TIME_PPS_EN 1).alive = true ∧ (cmt up F.TIME_PPS_EN 1).cm F.TIME_PPS_EN = 1 ∧ (cmt up F.TIME_PPS_EN 0).cm F.TIME_PPS_EN ≠ 1) ∧
    (1 < 2 ∧ (cmt up (evtMode 1) 2).cm (evtMode 1) = 2 ∧ (cmt up (evtMode 1) 1).cm (evtMode 1) ≠ 2) ∧
    (∀ r ∈ [0, 5 * 65536, 999999995 * 65536], ({ up with clk := { up.clk with devFine := r * 1000000000 } } : State).nearMultiple 1000000000 = true) ∧
    (∀ r ∈ [5 * 65536 + 1, 999999995 * 65536 - 1], ({ up with clk := { up.clk with devFine := r * 1000000000 } } : State).nearMultiple 1000000000 = false) := by
  decide +kernel

/-- Clauses of CapturesAndReplica: input 0 rising and falling, an enabled event pin at its edge and at the other, and one that is off. -/
theorem witness_CapturesAndReplica :
    up.alive = true ∧
    (let s := cmt (cmt up (evtMode 1) 1) (evtEdge 1) 1
     s.alive = true ∧ 0 < 2 ∧ 2 < 3 ∧ s.cm (evtMode (2 - 1)) = 1 ∧ s.cm (evtEdge (2 - 1)) = (if false = true then 0 else 1) ∧
       ¬ s.cm (evtEdge (2 - 1)) = (if true = true then 0 else 1)) ∧ ¬ ((0 : Nat) = 0 ∧ false = true) ∧ ¬ up.cm (evtMode 0) = 1 := by decide +kernel

/-- Clauses of TimedEgressRules: no late frame, and one. -/
theorem witness_TimedEgressRules :
    (let p := { RingPort.reset with loc := [{ local3 with cls := 0 }] }
     let late := fun (s : State) (l : LFrame) => l.cls == 0 && decide (l.e + s.cm F.TIME_EGRESS_MAX_LATE_US * 65536000 ≤ (s.tick 10000000000).dev)
     (ringUp p).alive = true ∧ (((ringUp p).ring.port 0).loc.filter (late (ringUp p))).length = 1 ∧
       (((ringUp p).ring.port 1).loc.filter (late (ringUp p))).length = 0) := by decide +kernel

/-- A device with a launch time for pound 5. -/
def launching (armed active : Bool) (waiting : Option Nat) : State :=
  { up.wr F.PNL_STATUS_STATE pUP with
      time := { TimeSt.reset with armed := armed, nextL := 5, launches := [(5, 10000000)] }, scan := { ScanSt.reset with active := active, waiting := waiting } }

/-- Clauses of LaunchPoints: armed and not, no launch time, an arming point at the next nanosecond and beyond it, rows being sent or not, waiting or
not, STANDBY, an idle slot, and a paired device. -/
theorem witness_LaunchPoints :
    ((launching true false none).alive = true ∧ (launching true false none).time.armed = true ∧ (launching true false none).scan.active = false) ∧
    ((launching false false none).time.armed = false ∧ (launching false false none).launchOf (launching false false none).time.nextL = some 10000000 ∧
      (launching false false none).paired = false) ∧
    (let s := launching false false none
     let p := s.armPoint 5 10000000
     ¬ (p - 65535 + 65536 ≤ p) ∧ (p - 65536 + 65536 ≤ p) ∧ p < ((s.tick 1000000).dev : Int) + 65536 ∧
       (((launching false false none).tick 0).dev : Int) + 65536 ≤ (cmt s F.TIME_LAUNCH_ARM_US 1).armPoint 5 100000000) ∧
    up.launchOf up.time.nextL = none ∧
    (has ((inMode (launching false false none) 0x20#8).slotSet 5).mode mSTANDBY = true ∧ (pairUp 1).paired = true ∧
      has ((launching false false none).slotSet 5).mode mSTANDBY = false) ∧
    ((launching true true none).scan.active = true ∧ (launching true true none).slotIdle 5 = false) ∧
    ((launching true true none).scan.waiting = none ∧ (launching true true none).scan.blocked = false ∧
      (launching true true (some 5)).scan.waiting = some 5) ∧ up.slotIdle 5 = true := by decide +kernel
/-- A stream unit of a type on a channel. -/
def unit (ty chan : Nat) (rest : List Byte) : StreamUnit :=
  { grp := 0, chan := chan, bytes := [BitVec.ofNat 8 ty, 0#8, 0#8, 0#8] ++ rest, enc := some (false, 0), moors := [] }

/-- Hypotheses of StreamUnitsParsed: no unit, and a unit of each type with a byte that must be 0. -/
theorem witness_StreamUnitsParsed :
    (up.alive = true ∧ takeUnit 1 up.strm.ready = none) ∧
    (∀ ty ∈ [1, 2, 3, 4], (let u := { unit ty 0 [] with bytes := [BitVec.ofNat 8 ty, 0#8, 0#8, 1#8] }
      unitCause u = some 6 ∧ takeUnit ty [u] = some (u, []))) := by decide +kernel

/-- A PLANAR layer 0 of one tile on channel 7. -/
def layer : Desc :=
  { layer := 0, ty := 1, planes := 1, profile := 0, policy := 0, chan := 7, tilesX := 1, tilesY := 1, width := 512, height := 512, orgX := 0, orgY := 0,
    stepX := 256, stepY := 256, disp := 0, relief := 0, zkey := 0, patId := 0, patArg := 0 }

/-- A scene with that layer. -/
def scene : Scene := { id := 1, ver := 0, start := 0, grp := 0, cols := 8, rows := 8, vcols := 8, vrows := 8, chans := [7], descs := [layer] }

/-- A device before its first close with a scene in slot 0 and a unit that waits. -/
def scened (u : StreamUnit) : State :=
  { up with strm := { StrmSt.reset with ready := [u], slots := [{ SceneSlot.reset with cur := some scene }, SceneSlot.reset],
                                        chans := [{ grp := 0, chan := 7, winEnd := none, got := 0, groups := [], lastP := none, counted := false }] } }

/-- A SCENE unit without layers, of the committed geometry, with START 5. -/
def sceneBytes : StreamUnit :=
  let g := up.cset.geom
  unit 1 0 (beBytes 4 5 ++ List.replicate 16 0#8 ++ beBytes 2 g.cols ++ beBytes 2 g.rows ++ beBytes 1 g.vcols ++ beBytes 1 g.vrows ++ [0#8, 0#8])

/-- A CHUNK of pound 0 for that layer, colour only, of 4 bytes. -/
def chunkBytes : StreamUnit :=
  unit 3 7 (List.replicate 12 0#8 ++ [0#8, 0#8, 1#8, 0#8] ++ beBytes 4 4 ++ List.replicate 12 0#8 ++ List.replicate 4 0#8)

/-- Clauses of ScenesActed: the header that is in force, one too short, and a sound one for an empty slot whose START is ahead or has passed. -/
theorem witness_ScenesActed :
    (let s := { up with strm := { up.strm with ready := [sceneBytes] } }
     s.alive = true ∧ unitCause sceneBytes = none ∧ takeUnit 1 s.strm.ready = some (sceneBytes, []) ∧ beAt sceneBytes.bytes 1 1 < s.strm.slots.length ∧
       (s.strm.slot 0).cur = none ∧ (s.strm.slot 0).pend = none ∧ s.sceneCause sceneBytes 0 (parseScene sceneBytes) = none ∧
       laterPound (parseScene sceneBytes).start s.currentPound = true ∧
       laterPound (parseScene sceneBytes).start ({ s with lock := { s.lock with pound := 5, nextPound := 6 } } : State).currentPound = false) ∧
    (let s := { scened sceneBytes with strm := { (scened sceneBytes).strm with slots := [{ SceneSlot.reset with cur := some (parseScene sceneBytes) }, SceneSlot.reset] } }
     ((s.strm.slot 0).cur).map (fun y => y.id == (parseScene sceneBytes).id && y.ver == (parseScene sceneBytes).ver) = some true) ∧
    (let u := unit 1 0 (List.replicate 8 0#8)
     unitCause u = none ∧ (scened u).sceneCause u 0 (parseScene u) ≠ none) := by decide +kernel

/-- Clauses of ListsActed: an empty list, one too short, one for a pound that has a list, that is closed, and that is too far ahead. -/
theorem witness_ListsActed :
    (let u := unit 2 0 (List.replicate 16 0#8)
     let s := scened u
     s.alive = true ∧ unitCause u = none ∧ takeUnit 2 s.strm.ready = some (u, []) ∧ beAt u.bytes 1 1 < s.strm.slots.length ∧ s.tooFar 0 = false ∧
       s.isClosed 0 = false ∧ (s.strm.slot 0).firstList 0 = none ∧
       checkList u.bytes ((s.strm.slot 0).listDesc 0) (s.panelOf ((s.strm.slot 0).governs 0)) s.cset.clipBad = .inr ([], [])) ∧
    (let u := unit 2 0 (List.replicate 12 0#8)
     let s := scened u
     unitCause u = none ∧ takeUnit 2 s.strm.ready = some (u, []) ∧
       checkList u.bytes ((s.strm.slot 0).listDesc 0) (s.panelOf ((s.strm.slot 0).governs 0)) s.cset.clipBad = .inl 1) ∧
    ({ SceneSlot.reset with lists := [{ pound := 0, crc := 1, cmds := [] }] } : SceneSlot).firstList 0 ≠ none ∧ up.tooFar 0x7FFFFFFF = true ∧
    (let s := { up with lock := { (cyc .opened).lock with everOpened := true } }
     s.isClosed 0 = true) := by decide +kernel

/-- Clauses of MapsAndChunksActed: a MAP of one tile, one for a layer that no header has, a CHUNK that passes, one that is too short, and one after
its close. -/
theorem witness_MapsAndChunksActed :
    (let u := unit 4 0 (List.replicate 28 0#8)
     let s := scened u
     s.alive = true ∧ unitCause u = none ∧ takeUnit 4 s.strm.ready = some (u, []) ∧ beAt u.bytes 1 1 < s.strm.slots.length ∧ s.tooFar 0 = false ∧
       s.isClosed 0 = false ∧ (s.strm.slot 0).descFor 0 0 = some (scene, layer) ∧ layer.tiled = true ∧
       u.bytes.length = 16 + 16 * (layer.tilesX * layer.tilesY) ∧ (mapCells u.bytes).any cellsClash = false ∧ (s.strm.slot 0).descFor 0 1 = none) ∧
    (unitCause chunkBytes = none ∧ takeUnit 3 (scened chunkBytes).strm.ready = some (chunkBytes, []) ∧
      (scened chunkBytes).chunkCheck chunkBytes = .inr (parseChunk chunkBytes scene 0 layer) ∧ (scened chunkBytes).isClosed (poundAdd 0 1) = false) ∧
    (let u := unit 3 7 (List.replicate 12 0#8)
     unitCause u = none ∧ takeUnit 3 (scened u).strm.ready = some (u, []) ∧ ∃ c, (scened u).chunkCheck u = .inl c) ∧
    (let s := { scened chunkBytes with lock := { (cyc .opened).lock with pound := 1, everOpened := true } }
     s.isClosed (poundAdd 0 1) = true ∧ s.chunkCheck chunkBytes = .inr (parseChunk chunkBytes scene 0 layer)) := by
  refine ⟨by decide +kernel, by decide +kernel, ⟨by decide +kernel, by decide +kernel, ?_⟩, by decide +kernel⟩
  exact ⟨6, by decide +kernel⟩

/-- The same chunk in the clear. -/
def chunk : Chunk := parseChunk chunkBytes scene 0 layer

/-- A device in pound 0 whose core 0 acted on its token, with the chunk waiting and FIELD set. -/
def decoding (mode : BitVec 8) (waitRap : Bool) (released : List (Nat × Nat × Nat)) : State :=
  let s := inMode (scened chunkBytes) mode
  { s with lock := { s.lock with running := true, everOpened := true },
           strm := { s.strm with released := released },
           units := [{ block := bDEC, inst := 0, acted := some 0, reload := false, inq := [] }],
           dec := { s.dec with queue := [chunk], ctxs := [(chunk.ctx, { DecCtx.init with waitRap := waitRap })] } }

/-- Clauses of ChunksDispatched: an empty queue, HOLD, a released layer, a context that waits, and a chunk that goes to core 0 with its moorings. -/
theorem witness_ChunksDispatched :
    (takeChunk ((up.tick 0).dropStaleChunks.renumberQueue).eligible ((up.tick 0).dropStaleChunks.renumberQueue).dec.queue = none) ∧
    (let s := decoding 1#8 false []
     let v := (s.tick 0).dropStaleChunks.renumberQueue
     s.alive = true ∧ takeChunk v.eligible v.dec.queue = some (chunk, []) ∧ v.idleCore chunk.pound = some 0 ∧ has (s.setOf chunk.pound).mode mHOLD = false ∧
       s.descOf chunk.slot chunk.layer chunk.pound = some layer ∧ srcOn (s.setOf chunk.pound).mode layer.ty = true ∧
       s.releasedAt chunk.slot chunk.layer chunk.pound = false ∧ s.uncovered chunk = false ∧ (s.dec.ctx chunk.ctx).waitRap = false ∧ chunk.enc = false ∧
       ((v.alloc cTEXEL).1).isSome = true ∧ ((v.alloc cTEXEL).2.alloc cREF).1.isSome = true) ∧
    chunk.rap = false ∧
    has ((decoding 0x81#8 false []).setOf chunk.pound).mode mHOLD = true ∧ (decoding 1#8 false [(0, 0, 0)]).releasedAt chunk.slot chunk.layer chunk.pound = true ∧
    ((decoding 1#8 true []).dec.ctx chunk.ctx).waitRap = true := by decide +kernel

/-- A core that decodes the chunk; `us` is ABANDON_US. -/
def coreBusy (us : Nat) (closed : Bool) : State :=
  let s := cmt (decoding 1#8 false []) F.DEC_CTRL_ABANDON_US us
  { s with lock := { s.lock with pound := if closed then 1 else 0 },
           dec := { s.dec with cores := some { chunk := chunk, body := [], since := 0, rap := true, tex := 0, ref := 1, last := none } :: List.replicate 15 none } }

/-- Clauses of ChunksEnd: an idle core, and a busy one with abandoning off, before and after its deadline, while no move
waits. -/
theorem witness_ChunksEnd :
    (up.alive = true ∧ (up.dec.cores[15]?).getD none = none) ∧
    ((coreBusy 1 true).alive = true ∧ ((coreBusy 1 true).dec.cores[0]?).getD none = some { chunk := chunk, body := [], since := 0, rap := true, tex := 0, ref := 1, last := none } ∧
      (coreBusy 1 true).strm.late = [] ∧
      ((coreBusy 1 true).setOf chunk.pound).fld F.DEC_CTRL_ABANDON_US ≠ 0 ∧ (coreBusy 1 true).isClosed (poundAdd chunk.pound 1) = true) ∧
    ((coreBusy 0 true).setOf chunk.pound).fld F.DEC_CTRL_ABANDON_US = 0 ∧ (coreBusy 1 false).isClosed (poundAdd chunk.pound 1) = false := by decide +kernel

/-- A composition in progress, before its last block. -/
def composing (issued : List (Nat × Nat)) : Compose :=
  { pound := 0, stack := [], capped := 0, eyes := { cause := 0, eyes := [] }, buf := 0, tap := none, next := issued.length, issued := issued, checks := [], written := 0,
    bad := false, allowed := 1, clusters := 1, busy := 0, since := [], skip := 0, occ := 0, eterm := 0, conc := 0, lit := 0 }

/-- A device of 8 × 8 hogels that composes in FIELD. -/
def composer (c : Option Compose) : State :=
  let s := cmt (cmt (inMode up 1#8) F.COMP_PANEL_HOG_COLS 64) F.COMP_PANEL_HOG_ROWS 64
  { s with comp := { s.comp with cur := c }, lock := { s.lock with everOpened := true } }

/-- Clauses of BlocksComposed: no composition, a cluster with room, none, a bad composition, no block left, a block issued and not, the last one, and
the estimate before and after the first open. -/
theorem witness_BlocksComposed :
    (up.alive = true ∧ up.comp.cur = none ∧ up.comp.taps.find? (fun b => b.role == BufRole.queued) = none ∧ up.lock.everOpened = false) ∧
    ((composer (some (composing []))).alive = true ∧ (composing []).bad = false ∧
      (composing []).next < (((composer (some (composing []))).setOf 0).geom).blocks ∧ (composer (some (composing []))).roomCluster (composing []) = some 0 ∧
      (composing []).issued.find? (fun x => x.1 == 0) = none) ∧
    (({ composer none with pwr := { up.pwr with up := 0 } } : State).roomCluster (composing []) = none) ∧
    ((composing [(0, 0)]).issued.find? (fun x => x.1 == 0) = some (0, 0) ∧ (composing [(0, 0)]).tap = none ∧
      (composing [(0, 0)]).written + 1 < (((composer (some (composing [(0, 0)]))).setOf 0).geom).blocks) ∧
    (let n := ((composer none).setOf 0).geom.blocks
     n ≤ ({ composing [] with next := n } : Compose).next ∧ ({ composing [(0, 0)] with written := n - 1 } : Compose).written + 1 = n) ∧
    ({ composing [(0, 0)] with bad := true } : Compose).bad = true ∧
    ((composer none).lock.everOpened = true ∧ (composer none).composerRuns ((composer none).setOf (composer none).pound) = true) := by decide +kernel


/-- What training finds in a stack: eyes that a seeded sweep sees whole, but for lane 0 and its spare, which pass nowhere. -/
def trained (ok : Bool) : TrainRes :=
  let e : LaneEyes := { rd1 := (50, 76), rdRef := (125, 130), rd2 := (50, 76), wr1 := (50, 76), wrRef := (125, 130), wr2 := (50, 76) }
  let bad := { e with rd1 := (1, 0) }
  { lanes := (if ok then e else bad) :: List.replicate 159 e, spares := [(0, bad)] }

/-- A device that leaves self-refresh with the results of a training that found those eyes. -/
def leaving : State :=
  let l := ((trained true).courses [] false).map Prod.fst
  { up with basin := { up.basin with exitFrom := some 0, stk := List.replicate 4 { StackSt.reset with seed := seedTable 0 l } } }

set_option maxRecDepth 100000 in
/-- Clauses of BasinTrainingRuns: not training, training with and without a failure, the last instant before a retry and the retry, and an exit from
self-refresh with and without a failure. -/
theorem witness_BasinTrainingRuns :
    (up.alive = true ∧ up.training = false ∧ up.basin.retryFrom = none ∧ up.basin.exitFrom = none ∧ up.basin.stk[3]? = some StackSt.reset) ∧
    (let s := up.wr (F.BASIN_TRAINs_STATE 0) 1
     s.alive = true ∧ s.training = true ∧ ((s.tick 0).trainAll false [trained false]).rd F.BASIN_STATUS_FAIL ≠ 0 ∧
       ((s.tick 0).trainAll false []).rd F.BASIN_STATUS_FAIL = 0) ∧
    (let s := { up with basin := { up.basin with retryFrom := some 0 } }
     s.basin.retryFrom = some 0 ∧ 0 + 10000000000 ≤ max s.clk.now 10000000000 ∧ s.rd F.BASIN_STATUS_READY = 0 ∧ s.training = false) ∧
    (let s := leaving
     let w : State := { s.tick 0 with basin := { s.basin with selfref := false, exitFrom := none } }
     s.basin.exitFrom = some 0 ∧
       (((({ w with basin := { w.basin with stk := up.basin.stk } } : State).wr F.BASIN_STATUS_SELFREF 0).wr F.TOP_HOLD_STAT_SELFREF 0).trainAll true []).rd F.BASIN_STATUS_FAIL ≠ 0 ∧
       (((w.wr F.BASIN_STATUS_SELFREF 0).wr F.TOP_HOLD_STAT_SELFREF 0).trainAll true (List.replicate 4 (trained true))).rd F.BASIN_STATUS_FAIL = 0) := by decide +kernel

/-- A device with a ready Basin, the scrubber at a granule. -/
def scrubbing (g : Nat) : State :=
  let s := cmt (up.wr F.BASIN_STATUS_READY 1) F.BASIN_SCRUB_EN 1
  { s with basin := { s.basin with scrubAt := g } }

/-- Clauses of BasinUpkeep: a Basin that is ready and one that is not, HOLD drained and not, the scrubber off, the last granule and the one before, no
wrong byte, one and two, a held mooring, and the last lane of the last stack. -/
theorem witness_BasinUpkeep :
    ((scrubbing 0).alive = true ∧ (scrubbing 0).basinReady = true ∧ (scrubbing 0).cm F.BASIN_SCRUB_EN ≠ 0 ∧ up.basinReady = false ∧
      (cmt up F.BASIN_SCRUB_EN 0).cm F.BASIN_SCRUB_EN = 0) ∧
    (has (inMode (scrubbing 0) 0x80#8).mode mHOLD = true ∧ (inMode (scrubbing 0) 0x80#8).scanDrained = true ∧ has up.mode mHOLD = false) ∧
    ((scrubbing (granules - 2)).basin.scrubAt + 1 ≠ granules ∧ (scrubbing (granules - 1)).basin.scrubAt + 1 = granules) ∧
    ((eccOutcome []).1 = 0 ∧ (eccOutcome [(0, 1)]).1 = 1 ∧ (eccOutcome [(0, 1), (1, 1)]).1 = 2) ∧
    (3 < 4 ∧ 159 < 160 ∧ (scrubbing 0).basin.stk[3]? = some StackSt.reset) := by decide +kernel

/-- A mooring of a class that is held. -/
def held (cls : Nat) : Mooring := { cls := cls, order := 0, st := .held, count := 0, last := none, bad := false }

/-- Clauses of BasinErrorsAndQuarantine: the last address of the Basin and the first beyond it, no wrong byte, one and two at the ends of a codeword,
held and reserved moorings of FRAME and PACKET, and a free one. -/
theorem witness_BasinErrorsAndQuarantine :
    (up.alive = true ∧ basinSize ≤ 96 * 2 ^ 30 ∧ 96 * 2 ^ 30 - 1 < basinSize ∧ up.rd F.BASIN_ECC_CE_COUNT < 0xFFFFFFFF) ∧
    ((eccOutcome []).1 ≠ 1 ∧ (eccOutcome []).1 ≠ 2 ∧ (eccOutcome [(63, 255)]).1 = 1 ∧ (miscorrection [(63, 255)] (eccOutcome [(63, 255)]).2).all (· == 0) = true ∧
      (eccOutcome [(0, 1), (71, 255)]).1 = 2) ∧
    (let s := { up with basin := { up.basin with moors := [(0, held cFRAME), (1, held cPACKET), (2, { held cFRAME with st := .reserved })] } }
     s.basin.entry (0 / moorSize) = some (held cFRAME) ∧ (held cFRAME).cls ≠ cPACKET ∧ (held cFRAME).st = .held ∧
       s.basin.entry (2 * moorSize / moorSize) = some { held cFRAME with st := .reserved } ∧
       s.basin.entry (moorSize / moorSize) = some (held cPACKET) ∧ s.basin.entry ((96 * 2 ^ 30 - 1) / moorSize) = none ∧ s.basin.quarCount < 64) ∧
    (composer (some (composing []))).comp.cur = some (composing []) ∧ bitAt (1#32).toNat 0 = true ∧ bitAt (2#32).toNat 0 = false := by decide +kernel

/-- A fill of a card. -/
def fill (second started : Bool) : TugJob := { tag := 0, again := false, slot := 0, layer := 1, second := second, source := false, region := none, started := started }

/-- A card of 2 × 2 pixels. -/
def card : CardInst :=
  { slot := 0, layer := 1, width := 2, height := 2, surf0 := [0], surf1 := [1], front := false, held := true, filled := true, mark0 := false, mark1 := false, ready := true }

/-- A tug with jobs and cards that has acted on the token of pound 0. -/
def tugging (q : List TugJob) (cards : List CardInst) : State :=
  { up with tug := { up.tug with queue := q, cards := cards }, units := [{ block := bTUG, inst := 0, acted := some 0, reload := false, inq := [] }] }

/-- Clauses of TugUpdatesRun: nothing to start, HOLD, a token not yet acted on, four running, three running and one without a conflict, one with it, and
updates with and without their card. -/
theorem witness_TugUpdatesRun :
    (up.alive = true ∧ up.tug.queue.find? (fun j => !j.started) = none ∧ (up.tug.queue.filter TugJob.started)[0]? = none) ∧
    has (inMode up 0x80#8).mode mHOLD = true ∧ has up.mode mHOLD = false ∧
    4 ≤ ((tugging (List.replicate 4 (fill false true)) []).tug.queue.filter TugJob.started).length ∧
    (let s := tugging (List.replicate 3 (fill false true) ++ [fill true false]) [card]
     s.alive = true ∧ s.tug.queue.find? (fun j => !j.started) = some (fill true false) ∧ (s.tug.queue.filter TugJob.started).length < 4 ∧
       s.unitAt bTUG 0 (fill true false).from_ = true ∧ ({ s with units := [] } : State).unitAt bTUG 0 (fill true false).from_ = false ∧
       (∀ r ∈ s.tug.queue.filter TugJob.started, s.tug.conflict r (fill true false) = false) ∧
       (s.tug.queue.filter TugJob.started)[2]? = some (fill false true) ∧ s.tug.card 0 1 = some card) ∧
    (let s := tugging [fill false true, fill false false] [card]
     s.tug.queue.find? (fun j => !j.started) = some (fill false false) ∧
       (s.tug.queue.filter TugJob.started).any (fun r => s.tug.conflict r (fill false false)) = true) ∧
    (tugging [fill false true] []).tug.card 0 1 = none := by decide +kernel

/-- Scan-out at a point of its frame. -/
def scanning (abort : Option Nat) (endCode : Option Bool) (judged : List Nat) : State :=
  let s := cmt (cmt (cmt up (F.SCAN_CHKn_CFG_MODE 7) 1) F.COMP_PANEL_HOG_COLS 64) F.COMP_PANEL_HOG_ROWS 64
  { s with scan := { s.scan with kind := .frame, active := true, abort := abort, endCode := endCode, judged := judged } }

/-- Clauses of ScanFramesEnd: rows being read, aborted and ended, no rows, a follower's buffer read without being sent, and the last check, off, judged and
due. -/
theorem witness_ScanFramesEnd :
    (let s := scanning none none []
     s.alive = true ∧ s.scan.active = true ∧ s.scan.abort = none ∧ s.scan.endCode = none ∧ s.scan.kind = .frame ∧ 8 ≤ 8 ∧
       7 < 8 ∧ s.scan.judged.contains 7 = false ∧ (s.setOf s.scan.slot).fld (F.SCAN_CHKn_CFG_MODE 7) ≠ 0 ∧
       (s.setOf s.scan.slot).fld (F.SCAN_CHKn_CFG_MODE 6) = 0 ∧
       (s.setOf s.scan.slot).fld (F.SCAN_CHKn_X1_X 7) < s.sentGeom.cols * s.sentGeom.vcols ∧
       (s.setOf s.scan.slot).fld (F.SCAN_CHKn_Y_Y1 7) < s.sentGeom.rows * s.sentGeom.vrows) ∧
    (∀ k ∈ [Kind.frame, Kind.repeated], ({ up with scan := { up.scan with shadow := k } } : State).scan.shadow = k) ∧
    ¬ (up.scan.shadow = .frame ∨ up.scan.shadow = .repeated) ∧ ¬ ((scanning none none []).scan.shadow = .frame ∨ (scanning none none []).scan.shadow = .repeated) ∧
    (scanning (some 1) none []).scan.abort.isSome = true ∧ (scanning none (some true) []).scan.endCode.isSome = true ∧
    (scanning none none [7]).scan.judged.contains 7 = true ∧ up.scan.active = false ∧
    (up.scan.kind ≠ .frame ∧ up.scan.kind ≠ .repeated) := by decide +kernel

/-- Clauses of PanelOwnershipWires: unpaired, an owner that does not drive, one in STANDBY, a device that does not own, and a driving device with and
without rows. -/
theorem witness_PanelOwnershipWires :
    (up.alive = true ∧ up.paired = false) ∧
    ((pairUp 1).paired = true ∧ (pairUp 1).ownsSlot (pairUp 1).time.nextL = true ∧ has ((pairUp 1).slotSet (pairUp 1).time.nextL).mode mSTANDBY = false ∧
      (pairUp 1).scan.ownOut = false) ∧
    (let s := inMode (pairUp 1) 0x20#8
     has (s.slotSet s.time.nextL).mode mSTANDBY = true) ∧
    (let s := { pairUp 1 with led := { (pairUp 1).led with bank0 := { (pairUp 1).led.bank0 with own := false } } }
     s.ownsSlot s.time.nextL = false) ∧
    (∀ a ∈ [true, false], (let s := { pairUp 1 with scan := { (pairUp 1).scan with ownOut := true, active := a } }
      s.alive = true ∧ s.paired = true ∧ s.scan.ownOut = true ∧ s.scan.active = a)) := by decide +kernel
/-- A receiver of lane `n` at a point of its search for blocks. -/
def hunting (n : Nat) (lock : Bool) (r : RxLock) : State :=
  (up.wr (F.LANE_n_STAT_LOCK n) (b2n lock)).modLane n (fun l => { l with rx := r })

/-- Clauses of LaneReceivers: a live ring receiver, a ring receiver in loopback, the first and the last towpath receiver and the monitor on and off; the
63rd header of a run, the last of a window, with 14 and 15 invalid ones before it. -/
theorem witness_LaneReceivers :
    (up.alive = true ∧ 48 ≤ 48 ∧ 48 < 56 ∧ 60 ≤ monLane ∧ 55 < 56 ∧ up.huntsBlocks 48 = false ∧ up.huntsBlocks 60 = false ∧ 56 ≤ 60) ∧
    (({ up with ring := { up.ring with training := some 0 } } : State).huntsBlocks 55 = true ∧ (up.wr F.LANE_MON_CFG_EN 1).huntsBlocks 60 = true) ∧
    (∀ n ∈ [56, 59], (hunting n false RxLock.reset).huntsBlocks n = true ∧ (hunting n false RxLock.reset).locked n = false ∧
      ((hunting n false { RxLock.reset with run := 62 }).lanes.lane n).rx.run + 1 < 64 ∧ ((hunting n false { RxLock.reset with run := 63 }).lanes.lane n).rx.run < 64) ∧
    (∀ bad ∈ [14, 15], let s := hunting 56 true { RxLock.reset with seen := 63, bad := bad }
      s.huntsBlocks 56 = true ∧ s.locked 56 = true ∧ (s.lanes.lane 56).rx.seen = 63 ∧ (s.lanes.lane 56).rx.bad = bad) ∧
    ((hunting 56 true { RxLock.reset with seen := 62 }).lanes.lane 56).rx.seen + 1 < 64 := by decide +kernel

/-- Eyes of a height: that many steps pass upwards. -/
def eyesOf (h : Nat) : Eyes :=
  let e : EyeMeas := { up := List.replicate h 0, down := [] }
  { upper := e, middle := e, lower := e }

/-- Clauses of Adaptations: a receiver that trains and one that does not, a figure of merit at and below each limit, with retries left and used up, of a
ring receiver in loopback and on its link, a towpath receiver and the monitor; an adapted receiver and one that is not. -/
theorem witness_Adaptations :
    (let s := cmt (cmt (cmt up F.LANE_ADAPT_FOM_MIN 10) F.LANE_ADAPT_FOM_WARN 10) F.LANE_ADAPT_RETRIES 1
     let on := fun (n tries : Nat) => s.modLane n (fun l => { l with training := true, tries := tries })
     (s.alive = true ∧ (s.lanes.lane 48).training = false ∧ (eyesOf 10).fom = 10 ∧ (eyesOf 9).fom = 9 ∧ s.cm F.LANE_ADAPT_FOM_MIN = 10 ∧
       s.cm F.LANE_ADAPT_FOM_WARN = 10) ∧
     (∀ n ∈ [48, 55, 56, 60], ((on n 0).lanes.lane n).training = true ∧ ((on n 0).lanes.lane n).tries + 1 ≤ (on n 0).cm F.LANE_ADAPT_RETRIES ∧
       (on n 1).cm F.LANE_ADAPT_RETRIES < ((on n 1).lanes.lane n).tries + 1) ∧ 48 ≤ 48 ∧ 60 ≤ monLane ∧ 59 < monLane) ∧
    (∀ n ∈ [48, 59, 60], ((up.modLane n (fun l => { l with rxSt := 2 })).lanes.lane n).rxSt = 2 ∧ (up.lanes.lane n).rxSt ≠ 2 ∧ (up.lanes.lane n).gen = none) := by decide +kernel

/-- A panel in a state. -/
def panelIn (p : Nat) (q : PanelSt) : State := { up.wr F.PNL_STATUS_STATE p with panel := q }

/-- Clauses of BackchannelRounds: each panel state. -/
theorem witness_BackchannelRounds :
    (∀ p ∈ [pOFF, pUPSEQ, pTRAIN, pUP], (panelIn p PanelSt.reset).alive = true ∧ (panelIn p PanelSt.reset).pstate = p) ∧ pTRAIN ≠ pUP ∧ pOFF ≠ pTRAIN ∧ pOFF ≠ pUP ∧
    (∀ m ∈ [48, 60], (up.lanes.lane m).wait = none) ∧ 3 < up.lanes.asked.length := by decide +kernel

/-- The hypothesis on all lanes of BackchannelRounds, with a request that waits on lane 47. -/
def asking : State := up.modLane 47 (fun l => { l with wait := some (beBytes 1 47 ++ beBytes 1 1) })

theorem witness_BackchannelRounds_wait :
    (∀ m r, (asking.lanes.lane m).wait = some r → m < 48 ∧ beAt r 0 1 = m) ∧ (asking.lanes.lane 47).wait = some (beBytes 1 47 ++ beBytes 1 1) ∧
    asking.scan.kind.rows = false ∧
    (let s := { asking with scan := { asking.scan with kind := .frame }, lanes := { asking.lanes with bcFrame := some asking.scan.start } }
     s.scan.kind.rows = true ∧ s.lanes.bcFrame = some s.scan.start) := by
  refine ⟨?_, by decide +kernel, by decide +kernel, by decide +kernel⟩
  intro m r h
  by_cases e : m = 47
  · subst e
    have : (asking.lanes.lane 47).wait = some (beBytes 1 47 ++ beBytes 1 1) := by decide +kernel
    rw [this] at h
    cases h
    decide
  · exfalso
    have : (asking.lanes.lane m).wait = none := by
      simp only [asking, State.modLane, LanesSt.lane]
      rw [Sparse.get_set_other _ _ _ e]
      rfl
    rw [this] at h
    cases h

/-- A checker of PRBS7 (of PRBS13Q for pattern 7), unframed, that has taken `run` bits (or symbols) in a row, or is synchronised with so many errors. -/
def checking (n pat sync errs seen run : Nat) : State :=
  let r : PrbsReg := { reg := 1, have_ := 13, run := run }
  let s := cmt (cmt up (F.LANE_n_TEST_CHK_PAT n) pat) (F.LANE_n_TEST_CHK_FRAMED n) 0
  (s.wr (F.LANE_n_STAT_CHK_SYNC n) sync).modLane n (fun l =>
    { l with chk := { plain := r, inv := { r with reg := 2, run := 0 }, seen := seen, errs := errs } })

/-- Clauses of the checkers in LaneTestsAndMonitor: off, of the monitor switched off, framed without lock; the bit before the last of a run and the last, in a
row and not; a synchronised one with a right and a wrong bit, at 1,024 errors and one more, at the last bit of a window and before. -/
theorem witness_LaneTestsAndMonitor_checkers :
    (up.cm (F.LANE_n_TEST_CHK_PAT 48) = 0 ∧ up.rd F.LANE_MON_CFG_EN = 0) ∧
    (let s := cmt (cmt up (F.LANE_n_TEST_CHK_PAT 59) 1) (F.LANE_n_TEST_CHK_FRAMED 59) 1
     s.cm (F.LANE_n_TEST_CHK_FRAMED 59) = 1 ∧ s.locked 59 = false ∧ (s.wr (F.LANE_n_STAT_LOCK 59) 1).locked 59 = true) ∧
    (∀ p ∈ [(1, 64), (7, 32)], (∀ sync ∈ [0, 1], (checking 48 p.1 sync 0 0 0).cm (F.LANE_n_TEST_CHK_PAT 48) = p.1 ∧
        (checking 48 p.1 sync 0 0 0).cm (F.LANE_n_TEST_CHK_FRAMED 48) ≠ 1 ∧ (checking 48 p.1 sync 0 0 0).rd (F.LANE_n_STAT_CHK_SYNC 48) = sync) ∧
      (let hunt := fun (run sym : Nat) => ((checking 48 p.1 0 0 0 run).lanes.lane 48).chk.plain.hunt p.1 (chkUnit p.1 false sym)
       ∃ sym ∈ (if p.1 = 7 then [0, 1, 2, 3] else [0, 1]), (hunt (p.2 - 1) sym).run = p.2 ∧ (hunt (p.2 - 2) sym).run < p.2 ∧
         (hunt (p.2 - 1) (1 - sym)).run < p.2)) ∧
    (let e := (((checking 48 1 1 1024 65535 0).lanes.lane 48).chk.plain.expect 1)
     (∃ sym ∈ [0, 1], (chkUnit 1 false sym != e.1) = false) ∧ (∃ sym ∈ [0, 1], (chkUnit 1 false sym != e.1) = true) ∧
       ((checking 48 1 1 1024 65535 0).lanes.lane 48).chk.errs + b2n false ≤ 1024 ∧ 1024 < ((checking 48 1 1 1024 65535 0).lanes.lane 48).chk.errs + b2n true ∧
       65535 ≤ ((checking 48 1 1 1024 65535 0).lanes.lane 48).chk.seen ∧ ((checking 48 1 1 0 65534 0).lanes.lane 48).chk.seen < 65535) := by decide +kernel

/-- A generator's run on lane `n`. -/
def generating (n : Nat) (framed : Bool) : State :=
  up.modLane n (fun l => { l with gen := some { pat := 1, framed := framed, start := 0, rate := 0, kind := 0, sent := 0, inj := none } })

/-- Clauses of LaneTestsAndMonitor: the monitor adapted or not, scanning or not; error insertions ignored, stopped and running. -/
theorem witness_LaneTestsAndMonitor :
    (let s := (up.wr F.LANE_MON_STAT_ADAPTED 1).wr F.LANE_MON_CFG_EN 1
     s.alive = true ∧ s.rd F.LANE_MON_STAT_ADAPTED = 1 ∧ s.rd F.LANE_MON_CFG_EN = 1 ∧ s.lanes.scan = false) ∧
    (up.rd F.LANE_MON_STAT_ADAPTED = 0 ∧ up.lanes.scan = false ∧ ({ up with lanes := { up.lanes with scan := true } } : State).lanes.scan = true) ∧
    (bitsOf (0xC0000001#32).toNat 31 30 = 3 ∧ bitsOf (0x40000000#32).toNat 7 0 = 0 ∧ bitsOf (0x80000001#32).toNat 31 30 = 2 ∧
      bitsOf (0x80000001#32).toNat 7 0 ≠ 0) ∧
    ((∀ n ∈ [0, 48, 59], (up.tick 0).genRuns n = false) ∧ ((panelIn pTRAIN PanelSt.reset).tick 0).genRuns 47 = true ∧
      ((panelIn pTRAIN PanelSt.reset).tick 0).genUnframed 47 = false ∧
      (∀ n ∈ [48, 59], ∀ f ∈ [true, false], ((generating n f).tick 0).genRuns n = true ∧ ((generating n f).tick 0).genUnframed n = !f) ∧
      bitsOf (0x40000001#32).toNat 31 30 = 1 ∧ 60 ≤ 60 ∧ 59 < 60) ∧
    (({ up with scan := { up.scan with kind := .lane } } : State).scan.kind = .lane ∧ up.scan.kind ≠ .lane ∧
      ({ panelIn pUP PanelSt.reset with scan := { up.scan with kind := .lane } } : State).pstate = pUP) ∧
    bitsOf (0x2F#32).toNat 5 0 < 48 ∧ bitAt (0x2F#32).toNat 9 = false := by decide +kernel

/-- Clauses of PanelPowerSequence: the last step up, the one after it and the last of all, down with the highest enable and with none, a discharge and none. -/
theorem witness_PanelPowerSequence :
    (let s := ran (panelIn pUPSEQ { PanelSt.reset with step := 3 }) 0
     s.pstate = pUPSEQ ∧ s.panel.step < 4) ∧
    (let s := panelIn pUPSEQ { PanelSt.reset with step := 4 }
     s.alive = true ∧ s.pstate = pUPSEQ ∧ s.panel.step = 4) ∧
    ((ran (panelIn pUPSEQ { PanelSt.reset with step := 6 }) 0).pstate = pUPSEQ ∧ (ran (panelIn pUPSEQ { PanelSt.reset with step := 6 }) 0).panel.step = 6) ∧
    ((ran up 0).pstate ≠ pUPSEQ ∧ (ran up 0).pstate ≠ pDOWN) ∧ sbData 4 [] = none ∧ (sbData 8 (List.replicate 8 0#8 ++ beBytes 2 (crc16 (List.replicate 8 0#8)).toNat)).isSome = true ∧ sbData 8 [] = none ∧
    ((ran (panelIn pDOWN { PanelSt.reset with enables := 8 }) 0).pstate = pDOWN ∧ (ran (panelIn pDOWN { PanelSt.reset with enables := 8 }) 0).panel.enables ≠ 0 ∧
      (ran (panelIn pDOWN PanelSt.reset) 0).panel.enables = 0) ∧
    (∀ f ∈ [true, false], (let s := ran (panelIn pDISCHARGE { PanelSt.reset with discharge := true, faulty := f, cause := 3 }) 0
      s.panel.discharge = true ∧ s.panel.fast = none ∧ s.panel.wanted = false ∧ s.panel.cause = 3)) ∧
    (ran up 0).panel.discharge = false ∧
    (∀ p ∈ [pTRAIN, pUP], (panelIn p PanelSt.reset).alive = true ∧ (panelIn p PanelSt.reset).pstate = p) := by decide +kernel

/-- A committed crack guard of COUNT 3 with an action. -/
def cracking (action misses : Nat) : State :=
  cmt (cmt (cmt (panelIn pUP { PanelSt.reset with crackOn := true, misses := misses }) F.PNL_CRACK_EN 1) F.PNL_CRACK_COUNT 3) F.PNL_CRACK_ACTION action

/-- A panel whose references run, at a point of a frame of 64 µs that began at 0. -/
def waving (waves : Bool) (point : Nat) : State :=
  (panelIn pUP { PanelSt.reset with waves := waves, startAt := 0, period := 65536 * 64000 }).wr F.PNL_VREF_STAT_POINT point

/-- Clauses of PanelGuards: no retry, a retry before and at its instant, reference points where they run and not, at the bounds of their number and of their
time, before the first open and after, and the crack guard below and at its count with both actions. -/
theorem witness_PanelGuards :
    ((ran up 0).panel.fast = none ∧ up.alive = true ∧ up.vrefRuns = false ∧ (ran up 0).panel.retryAt = none) ∧
    (let s := panelIn pFAULT { PanelSt.reset with retryAt := some 10 }
     (ran s 9).panel.retryAt = some 10 ∧ (ran s 9).clk.now < 10 ∧ 10 ≤ (ran s 10).clk.now) ∧
    (let s := waving true 62
     s.alive = true ∧ s.vrefRuns = true ∧ s.panel.waves = true ∧ s.rd F.PNL_VREF_STAT_POINT < 63 ∧ 63 < 64 ∧ s.panel.pointAt 63 < (s.tick 63000).dev + 65536 ∧
       (s.tick 62998).dev + 65536 ≤ s.panel.pointAt 63 ∧ 62 ≤ s.rd F.PNL_VREF_STAT_POINT ∧ s.lock.everOpened = false ∧
       s.panel.pointAt 0 < (s.tick 64000).dev + 65536) ∧
    ((waving false 0).panel.waves = false ∧ ({ waving true 0 with lock := { up.lock with everOpened := true } } : State).lock.everOpened = true) ∧
    (∀ a ∈ [0, 3], let r := ran (cracking a 3) 0
      (cracking a 3).island = true ∧ r.crackRuns = true ∧ r.rd F.PNL_STATUS_CRACK = 0 ∧ r.cm F.PNL_CRACK_COUNT ≤ r.panel.misses ∧
        r.cm F.PNL_CRACK_ACTION = a ∧ r.panel.fast = none) ∧
    (ran (cracking 0 2) 0).panel.misses < (ran (cracking 0 2) 0).cm F.PNL_CRACK_COUNT ∧ (ran up 0).crackRuns = false ∧
    bitAt (1#32).toNat 0 = true ∧ bitAt (2#32).toNat 0 = false := by decide +kernel

/-- A sensor table: port 0, virtual channel 0, RAW8 (0x2A), width and height of 4 and 2, one start entry. -/
def sensTab : List Byte :=
  [0#8, 0#8, 0#8, 0#8, 0x2A#8, 0#8, 1#8, 0#8, 4#8, 0#8, 2#8, 0#8, 1#8, 0#8] ++ List.replicate 226 0#8 ++ [1#8, 0#8, 0#8, 0#8] ++ List.replicate 268 0#8

/-- A camera with sensor 0 in a phase, with frames, and a mode with TRACK. -/
def camera (p : SensorPhase) (frames : List CamFrame) (cci : List CciOp) (delay : Bool) : State :=
  let s := cmt (inMode up (BitVec.ofNat 8 (2 ^ mTRACK))) (F.CAM_Sn_CTRL_EN 0) 1
  { s with img := { s.img with tables := [((5, 0), sensTab)] },
           cam := { s.cam with sensors := { SensorSt.reset with phase := p, frames := frames, cci := cci, delay := delay } :: List.replicate 7 SensorSt.reset,
                               bus := [some (0, []), none] } }

/-- A frame of which some lines have come. -/
def camFrame (got : Nat) (waiting : List (List Byte)) : CamFrame :=
  { num := 0, fsAt := 0, pound := 0, set := CSet.reset, lit := false, outs := [], got := got, waiting := waiting, taken := [], ended := false, dropped := false }

/-- The header of a packet of virtual channel 0. -/
def csiHead (dt wc : Nat) : List Byte := leBytes 1 dt ++ leBytes 2 wc ++ leBytes 1 (csiEcc (dt + 256 * wc))

/-- Clauses of CameraFramesArrive: headers whole, mended, of no enabled sensor and beyond repair; a line whose checksum holds and one whose does not;
a port that is down, a sensor without a frame, a frame that takes its last line, and a frame that ends. -/
theorem witness_CameraFramesArrive :
    (csiRead (csiHead 0 5) = some ({ vc := 0, dt := 0, wc := 5 }, false) ∧ csiRead (csiHead 0x2A 4) = some ({ vc := 0, dt := 0x2A, wc := 4 }, false) ∧
      csiRead (csiHead 0 0 |>.set 0 1#8) = some ({ vc := 0, dt := 0, wc := 0 }, true) ∧ csiRead [1#8, 1#8, 0#8, 0#8] = none ∧ up.sensorAt 0 0 none = none) ∧
    (State.reset.portUp 0 = false ∧ has (inMode up 0x80#8).mode mHOLD = true) ∧
    (let s := camera .streaming [] [] false
     s.alive = true ∧ s.portUp 0 = true ∧ has s.mode mHOLD = false ∧ 0 < s.cam.sensors.length ∧ s.sensorAt 0 0 none = some 0 ∧ (s.sensor 0).phase = .streaming ∧
       (s.sensor 0).cur = none) ∧
    (let f := camFrame 1 []
     let s := camera .streaming [f] [] false
     s.sensorTab 0 = some sensTab ∧ (s.sensor 0).cur = some f ∧ f.dropped = false ∧ (∀ g ∈ (s.sensor 0).frames, g.num = f.num → g = f) ∧
       s.sensorAt 0 0 (some 0x2A) = some 0 ∧ 0x13 ≤ 0x2A ∧ s.lineFill 0 + 4 ≤ 1048576 ∧ 4 = lineBytes 0x2A (camWidth sensTab) ∧ f.got < camHeight sensTab ∧
       (let d : List Byte := [1#8, 2#8, 3#8, 4#8]
        csiCrc d = le [BitVec.ofNat 8 (csiCrc d % 256), BitVec.ofNat 8 (csiCrc d / 256)] ∧ csiCrc d ≠ le [0#8, 0#8])) ∧
    (let f := camFrame 2 [[0#8, 0#8, 0#8, 0#8]]
     let s := camera .streaming [f] [] false
     (s.sensor 0).cur = some f ∧ s.sensorAt 0 0 none = some 0 ∧ f.got = camHeight sensTab ∧ f.waiting ≠ [] ∧ (s.sensor 0).stopDue = false) := by decide +kernel

/-- A stereo pair whose pictures wait. -/
def pairPic : PairPic := { sensor := 0, out := 0, buf := 0, num := 0, fsAt := 0, prev := none }

/-- Clauses of PipesAndGlints: nothing to take, a line to take, and a pair with both pictures. -/
theorem witness_PipesAndGlints :
    (up.alive = true ∧ (up.eligibleLines 0).isEmpty = true ∧ (∀ g, up.cam.pairs[3]? = some g → g.left = none ∨ g.right = none)) ∧
    (let f := camFrame 1 [[0#8, 0#8, 0#8, 0#8]]
     let s := camera .streaming [f] [] false
     let v := (State.drr 600 (s.tick 0) 0).2
     s.alive = true ∧ s.portUp 0 = true ∧ has s.mode mHOLD = false ∧ (s.eligibleLines 0).isEmpty = false ∧ (State.drr 600 (s.tick 0) 0).1 = some 0 ∧
       (v.sensor 0).frames.find? (fun g => !g.waiting.isEmpty) = some f ∧ v.sensorTab 0 = some sensTab ∧ f.ended = false ∧
       (∀ g ∈ (v.sensor 0).frames, g.num = f.num → g = f) ∧ 0 < v.cam.sensors.length) ∧
    (let c := cmt (camera .streaming [] [] false) (F.TRK_PAIRp_CFG_EN 3) 1
     let g : PairGlint := { left := some pairPic, right := some pairPic, unlitL := none, unlitR := none, result := none }
     let s := { c with cam := { c.cam with pairs := List.replicate 4 g } }
     s.alive = true ∧ s.cam.pairs[3]? = some g ∧ has s.mode mHOLD = false ∧ has s.mode mTRACK = true ∧ s.unitUp bTRK 0 = true ∧
       s.cm (F.TRK_PAIRp_CFG_EN 3) = 1 ∧ s.sensorTab pairPic.sensor = some sensTab) := by decide +kernel

/-- A register write of a start entry. -/
def startOp : CciOp := { reg := 0, bytes := [0#8], kind := .seq 0 }

/-- Clauses of SensorsAndPulses: a sensor that starts and one that is not off, a free and a busy CCI, a delay and none, each mode of the frame syncs. -/
theorem witness_SensorsAndPulses :
    (let s := camera .off [] [] false
     s.alive = true ∧ s.sensorTab 0 = some sensTab ∧ 0 < s.cam.sensors.length ∧ (s.sensor 0).phase = .off ∧ s.sensorNeeded s.cset 0 = true ∧ s.portUp (camPort sensTab) = true) ∧
    ((camera .starting [] [] false).sensor 0).phase ≠ .off ∧ up.cam.bus.getD 0 none = none ∧
    (let s := camera .starting [] [startOp, startOp] true
     s.cam.bus.getD 0 none = some (0, []) ∧ (s.sensor 0).cci = [startOp, startOp] ∧ startOp.kind = .seq 0 ∧ (s.sensor 0).delay = true) ∧
    (let o : CciOp := { startOp with kind := .expo 1 true }
     let w : ExpoWrite := { id := 1, lines := 1, gain := 1, frame := 0, retry := false }
     let s := (camera .streaming [] [o] false).modSensor 0 (fun x => { x with write := some w })
     s.cam.bus.getD 0 none = some (0, []) ∧ 0 < s.cam.sensors.length ∧ (s.sensor 0).cci = o :: [] ∧ o.kind = .expo 1 true ∧ (s.sensor 0).phase = .streaming ∧
       (s.sensor 0).write = some w) ∧ 2 ≤ 2 ∧ 1 < 2 ∧
    (up.sensor 0).delay = false ∧ up.cm F.CAM_FSYNC0_CFG_MODE = 0 ∧
    (let s := cmt (cmt (cmt up F.CAM_FSYNC0_CFG_MODE 1) F.CAM_FSYNC1_CFG_MODE 1) F.CAM_STROBE_SRC 1
     s.cm F.CAM_FSYNC0_CFG_MODE = 1 ∧ 0 % max 1 (s.cm F.CAM_FSYNC0_CFG_DIV) = 0 ∧ s.cm F.CAM_STROBE_SRC ≠ 0 ∧
       s.cm F.CAM_FSYNC1_CFG_MODE = 1 ∧ 0 % max 1 (s.cm F.CAM_FSYNC1_CFG_DIV) = 0 ∧ s.cm F.CAM_STROBE_SRC = 1) ∧
    ({ up with cam := { up.cam with strobe := true } } : State).cam.strobe = true ∧ up.cam.strobe = false := by decide +kernel

/-- A source picture. -/
def encPic (idr : Bool) (s : State) : EncPic :=
  { tap := true, sensor := 0, out := 0, buf := 0, width := 64, height := 64, pound := 0, tref := 0, set := s.cset, idr := idr }

/-- A picture being coded, of 128 rows of samples. -/
def encRun (n : Nat) (stop : Option Nat) (s : State) : EncRun :=
  { stream := 3, src := encPic false s, idr := false, pixels := [], qps := List.replicate n 0, qp := 0, coast := none, used := 0, budget := 0, bp := 0, ctus := [], done := 0,
    ctu := 0, row0 := 0, conc := false, packets := 0, stop := stop }

/-- A device that talks, with a stream 3 of 128 lines. -/
def talker : State :=
  { cmt (inMode up (BitVec.ofNat 8 (2 ^ mTALK))) (F.ENC_Sn_SIZE_OH 3) 128 with
      units := [{ block := bENC, inst := 0, acted := some 0, reload := false, inq := [] }] }

/-- Clauses of EncoderRuns: commands with and without their bit, no picture and a waiting one behind one that was taken back, an encoder that has not acted on
its pound, a mode without TALK, a stopped picture, its last row but one and its last row. -/
theorem witness_EncoderRuns :
    (up.alive = true ∧ bitAt (1#32).toNat 0 = true ∧ bitAt (2#32).toNat 0 = false ∧ up.enc.run = none ∧ (∀ n ∈ up.enc.order, (up.encStream n).wait = none) ∧
      ({ up with enc := { up.enc with run := some (encRun 0 none up) } } : State).enc.run.isSome = true ∧ encRuns up.mode = false) ∧
    (let s := { talker with enc := { talker.enc with order := [2, 3], streams := List.replicate 3 EncStream.reset ++ [{ EncStream.reset with wait := some (encPic true talker) }] } }
     s.alive = true ∧ s.enc.run = none ∧ s.enc.order = [2] ++ 3 :: [] ∧ (∀ n ∈ [2], (s.encStream n).wait = none) ∧ (s.encStream 3).wait = some (encPic true talker) ∧ encRuns s.mode = true ∧
       s.unitAt bENC 0 (encPic true talker).pound = true ∧ ({ s with units := [] } : State).unitAt bENC 0 (encPic true talker).pound = false) ∧
    (let s := fun n c => ({ talker with enc := { talker.enc with run := some (encRun n c talker) } } : State)
     (s 0 (some 3)).enc.run = some (encRun 0 (some 3) talker) ∧ (encRun 0 (some 3) talker).stream < (s 0 (some 3)).enc.streams.length ∧
       (encRun 0 none talker).qps.length + 1 < ceilDiv ((encRun 0 none talker).src.fld F.ENC_Sn_SIZE_OH 3) 64 ∧
       ceilDiv ((encRun 1 none talker).src.fld F.ENC_Sn_SIZE_OH 3) 64 ≤ (encRun 1 none talker).qps.length + 1) := by decide +kernel

/-- A device of a pair with a usable towpath and a ready Basin; it owns the panel or follows. -/
def partner (side : Nat) (own : Bool) : State :=
  let s := ((pairUp side).wr F.TOW_STATUS_UP 1).wr F.BASIN_STATUS_READY 1
  { s with led := { s.led with bank0 := { s.led.bank0 with own := own } }, lock := { s.lock with running := true }, pwr := { s.pwr with fault := false } }

/-- A device whose towpath is down. -/
def cut : State := (partner 2 false).wr F.TOW_STATUS_UP 0

/-- A towpath message with a wrong END block. -/
def badMsg : TowMsg := { towMsg 3 4 0 [] with stop := 0 }

/-- The clauses' conditions on a sound message of a type. -/
def sound (s : State) (ty : Nat) (m : TowMsg) : Bool := s.alive && s.paired && decide (m.lane < 4) && m.ok && m.mtype == ty && s.towUp

/-- Clauses of HeartbeatRules: unpaired, sound heartbeats, one of another type, one too short and a bad one, 2 and 3 missed, and a gap that is and is
not awaited. -/
theorem witness_HeartbeatRules :
    (up.alive = true ∧ up.paired = false ∧ (partner 1 false).alive = true ∧ (partner 1 false).paired = true) ∧
    (sound (partner 1 false) 4 (towMsg 3 4 9 (List.replicate 24 0#8)) = true ∧ 24 ≤ (towMsg 3 4 9 (List.replicate 24 0#8)).data.length ∧
      (towMsg 3 4 9 (List.replicate 24 0#8)).mseq = 9 ∧ sound (partner 1 false) 5 (towMsg 3 5 0 (List.replicate 8 0#8)) = true ∧
      sound (partner 1 false) 4 (towMsg 0 4 0 (List.replicate 16 0#8)) = true ∧ (towMsg 0 4 0 (List.replicate 16 0#8)).data.length < 24 ∧
      badMsg.lane < 4 ∧ badMsg.ok = false) ∧
    (let s := { partner 2 false with pair := { PairSt.reset with missRun := 3, gaps := [7] } }
     s.lock.running = true ∧ 3 ≤ s.pair.missRun ∧ s.follows = true ∧ s.mayTake = true ∧ s.pair.take = none ∧ 7 ∈ s.pair.gaps ∧ 8 ∉ s.pair.gaps) ∧
    (up.lock.running = false ∧ ({ partner 2 false with pair := { PairSt.reset with missRun := 2 } } : State).pair.missRun < 3) := by decide +kernel

/-- A DELTA of a kind: pound 5, flags (bit 0: last), fragment, which is its sequence number too. -/
def delta (kind flags frag : Nat) : TowMsg := towMsg 0 2 frag (beBytes 4 5 ++ beBytes 1 kind ++ beBytes 1 flags ++ beBytes 2 frag)

/-- Fragment 0 or 1 of a DELTA of two; after fragment 1 the message before it is missing. -/
def part (kind frag : Nat) : DeltaFrag := { mseq := frag, kind := kind, pound := 5, frag := frag, last := frag == 1, body := [] }

/-- A DELTA of which that fragment has come. -/
def halfDelta (kind frag : Nat) : PairSt := { PairSt.reset with frags := [part kind frag], rxSeq := some frag, gaps := if frag = 1 then [0] else [] }

set_option maxRecDepth 4000 in
/-- Clauses of DeltasAndSeals: each kind; unpaired, no such lane, a bad message, another type, another kind and a towpath that is down; a first
fragment, a whole delta, the second fragment after the first and before it; and a seal of an unknown pound, one that agrees and one that does not. -/
theorem witness_DeltasAndSeals :
    (up.paired = false ∧ 4 ≤ (towMsg 4 2 0 []).lane ∧ badMsg.ok = false ∧ cut.paired = true ∧ cut.towUp = false ∧ (delta 1 0 0).mtype ≠ 1 ∧
      beAt (delta 1 0 0).data 4 1 ≠ 2 ∧ (delta 1 0 0).data.length < 24) ∧
    (∀ k ∈ [1, 2, 3, 4], ∀ f ∈ [0, 1], ∀ g ∈ [0, 1], sound (partner 1 true) 2 (delta k f g) = true ∧ beAt (delta k f g).data 4 1 = k ∧
      bitAt (beAt (delta k f g).data 5 1) 0 = (f == 1) ∧ beAt (delta k f g).data 6 2 = g) ∧
    (∀ k ∈ [1, 2, 3, 4],
      (let gaps := ((halfDelta k 0).mark (delta k 1 1).mseq).gaps
       (halfDelta k 0).frags = [part k 0] ∧ (part k 0).pound = beAt (delta k 1 1).data 0 4 ∧ laterMod 24 (delta k 1 1).mseq (part k 0).mseq = true ∧
         gaps.any (fun q => laterMod 24 q (part k 0).mseq && laterMod 24 (delta k 1 1).mseq q) = false) ∧
      (let gaps := ((halfDelta k 1).mark (delta k 0 0).mseq).gaps
       (halfDelta k 1).frags = [part k 1] ∧ (part k 1).last = true ∧ laterMod 24 (part k 1).mseq (delta k 0 0).mseq = true ∧
         gaps.any (fun q => laterMod 24 q (delta k 0 0).mseq && laterMod 24 (part k 1).mseq q) = false)) ∧
    (((partner 1 true).lz.queue 0).length < 16 ∧ 0 < (partner 1 true).lz.queues.length ∧ (partner 1 true).pair.frags = [] ∧
      (partner 1 true).rd F.BASIN_STATUS_READY = 1 ∧ ((partner 1 true).allocs cTOW 1).1.isSome = true) ∧
    (sound (partner 1 true) 1 (towMsg 3 1 0 (List.replicate 24 0#8)) = true ∧ 24 ≤ (towMsg 3 1 0 (List.replicate 24 0#8)).data.length ∧
      (∀ x ∈ (partner 1 true).pair.seals, x.pound ≠ (parseSeal (List.replicate 24 0#8)).pound)) ∧
    (let a := parseSeal (List.replicate 24 0#8)
     let b := parseSeal (List.replicate 8 0#8 ++ List.replicate 16 1#8)
     [a].find? (fun x => x.pound == a.pound) = some a ∧ a.skips = false ∧ sealDiff a a = 0 ∧ b.pound = a.pound ∧ sealDiff a b ≠ 0 ∧ b.skips = false) := by decide +kernel

/-- A REPAIR of a kind for group 0, channel 7, SEQ or group 1, with a count. -/
def repair (kind n : Nat) (rest : List Byte) : TowMsg :=
  towMsg 1 3 0 (beBytes 1 kind ++ beBytes 1 0 ++ beBytes 2 7 ++ beBytes 4 1 ++ beBytes 2 n ++ beBytes 2 rest.length ++ List.replicate 4 0#8 ++ rest)

/-- A stream packet of channel 7, SEQ 1, without data. -/
def havePkt : List Byte :=
  let h : List Byte := List.replicate 4 0#8 ++ beBytes 2 7 ++ beBytes 2 0 ++ beBytes 4 1
  h ++ beBytes 4 (lzCrc h)

/-- Clauses of PacketRepair: a WANT, a HAVE that nothing waits for and its packet, a NONE, another type, a towpath that is down, and no channel. -/
theorem witness_PacketRepair :
    (up.alive = true ∧ up.paired = false ∧ cut.towUp = false ∧ (delta 1 0 0).mtype ≠ 3) ∧
    (∀ k ∈ [1, 2, 3], sound (partner 2 false) 3 (repair k 1 havePkt) = true ∧ beAt (repair k 1 havePkt).data 0 1 = k ∧ beAt (repair k 1 havePkt).data 8 2 = 1) ∧
    (let b := ((repair 2 1 havePkt).data.drop 16).take (beAt (repair 2 1 havePkt).data 10 2)
     b = havePkt ∧ 16 ≤ b.length ∧ beAt b 4 2 = beAt (repair 2 1 havePkt).data 2 2 ∧ beAt b 8 4 = beAt (repair 2 1 havePkt).data 4 4 ∧
       lzCrc (b.take 12) = beAt b 12 4) ∧
    ((partner 2 false).wantsSeq 0 7 1 = false ∧ chanOf up.strm.chans 0 7 = none) := by decide +kernel

/-- A takeover at pound 2 of a follower on side 2. -/
def taking (committed : Bool) : State :=
  let k : Takeover := { cause := 1, kind := 0, t := 2, committed := committed }
  { partner 2 false with pair := { PairSt.reset with take := some k } }

/-- Clauses of TakesAndYields: keys, an owner and a follower of either side, each cause, messages of another type, a towpath that is down, TAKE to an owner
by itself and by a takeover that has opened, and to either side that takes over itself, for a pound to come and for one that is open, and YIELD in time, late,
of a hot pair and of one that is not. -/
theorem witness_TakesAndYields :
    (bitsOf (0x544A0001#32).toNat 31 16 ≠ 0x544B ∧ bitsOf (0x544B0003#32).toNat 31 16 = 0x544B ∧ bitAt (0x544B0003#32).toNat 0 = true ∧
      bitAt (0x544B0003#32).toNat 1 = true) ∧
    (let s := cmt (partner 2 false) F.TOW_CFG_FAULT_EN 1
     s.alive = true ∧ s.follows = true ∧ s.mayTake = true ∧ s.pair.take = none ∧ s.owns = false ∧ s.cm F.TOW_CFG_FAULT_EN = 1 ∧ s.lock.running = true) ∧
    ((partner 1 true).owns = true ∧ (partner 1 true).follows = false ∧ (cmt up F.TOW_CFG_FAULT_EN 0).cm F.TOW_CFG_FAULT_EN = 0 ∧ up.pair.joinWait = false ∧
      ({ up with pair := { up.pair with joinWait := true } } : State).pair.joinWait = true) ∧
    (let m := towMsg 0 5 0 (List.replicate 8 0#8)
     sound (partner 1 true) 5 m = true ∧ (partner 1 true).pair.take = none ∧ (partner 1 true).pair.dropT = none ∧ (delta 1 0 0).mtype ≠ 5 ∧
       (delta 1 0 0).mtype ≠ 6 ∧ cut.towUp = false ∧
       (∀ b ∈ [true, false], sound (taking b) 5 m = true ∧ (taking b).side = 2 ∧ laterPound 2 (taking b).pound = true ∧ ∃ k, (taking b).pair.take = some k ∧
         k.committed = b ∧ k.t = 2)) ∧
    (laterPound (beAt (towMsg 0 5 0 (beBytes 4 3 ++ List.replicate 4 0#8)).data 0 4) (taking false).pound = true ∧
      laterPound (beAt (towMsg 0 5 0 (List.replicate 8 0#8)).data 0 4) (taking false).pound = false ∧ (partner 1 false).side ≠ 2 ∧
      (let s := { partner 2 true with pair := { PairSt.reset with take := some { cause := 1, kind := 0, t := 0, committed := true }, yieldT := some 0 } }
       s.owns = true ∧ s.pair.dropT = none ∧ laterPound 0 s.pound = false) ∧
      ({ partner 2 true with pair := { PairSt.reset with dropT := some 0 } } : State).pair.dropT.isSome = true ∧ (partner 2 false).owns = false) ∧
    (laterPound (partner 2 false).commitPound (beAt (towMsg 0 6 0 (List.replicate 8 0xFF#8)).data 0 4) = true ∧
      ((partner 2 false).wr F.TOW_STATUS_HOT 1).hot = true ∧ ((partner 2 false).wr F.TOW_STATUS_HOT 1).rd F.TOW_STATUS_FIT ≠ 1) ∧
    (let m := towMsg 0 6 0 (List.replicate 8 0#8)
     let s := ((partner 2 false).wr F.TOW_STATUS_HOT 1).wr F.TOW_STATUS_FIT 1
     sound s 6 m = true ∧ s.hot = true ∧ s.rd F.TOW_STATUS_FIT = 1 ∧ laterPound s.commitPound (beAt m.data 0 4) = false ∧ s.follows = true ∧
       s.mayTake = true ∧ s.pair.take = none ∧ (partner 1 true).hot = false) := by
  refine ⟨by decide +kernel, by decide +kernel, by decide +kernel, ⟨by decide +kernel, by decide +kernel, by decide +kernel, by decide +kernel,
    by decide +kernel, by decide +kernel, ?_⟩, by decide +kernel, by decide +kernel, by decide +kernel⟩
  intro b hb
  simp only [List.mem_cons, List.not_mem_nil, or_false] at hb
  rcases hb with rfl | rfl <;> exact ⟨by decide +kernel, by decide +kernel, by decide +kernel, _, rfl, rfl, rfl⟩

/-- A job of queue 2 whose source is mooring 0 and whose destination is mooring 1. -/
def lzJob (dec : Bool) (len space : Nat) : LzJob :=
  { queue := 2, decode := dec, first := true, last := false, block := 1, srcM := [0], len := len, dstM := [1], space := space, used := 0, made := 0, blocks := 0,
    tag := .log 0 0 }

/-- An engine that runs the job on source bytes. -/
def lzRuns (dec : Bool) (src : List Byte) (space : Nat) : State :=
  let s := up.wr F.BASIN_STATUS_READY 1
  { s with basin := s.basin.writeList [0] src 0, lz := { s.lz with run := some (lzJob dec src.length space) } }

/-- Two raw blocks of two bytes. -/
def twoBlocks : List Byte :=
  let raw := fun (flags : Nat) (d : List Byte) => leBytes 4 flags ++ leBytes 4 d.length ++ leBytes 4 d.length ++ leBytes 4 (lzCrc d) ++ d
  raw 3 [0#8, 1#8] ++ raw 1 [2#8, 3#8]

/-- `leBytes` gives as many bytes as it is asked for. -/
theorem leBytes_length : ∀ n v : Nat, (leBytes n v).length = n
  | 0, _ => rfl
  | n + 1, v => congrArg (· + 1) (leBytes_length n (v / 256))

/-- A block is no longer than its header and its data. -/
theorem lzEncode_le (h d : List Byte) (f l : Bool) : (lzEncode h d f l).1.length ≤ 16 + d.length ∧ 16 ≤ (lzEncode h d f l).1.length := by
  have k : ∀ (c : Bool) (a b : List Byte), (if (decide (a.length < b.length) && c) = true then a else b).length ≤ b.length := by
    intro c a b
    split
    · rename_i e
      exact Nat.le_of_lt (of_decide_eq_true (Bool.and_eq_true_iff.mp e).1)
    · exact Nat.le_refl _
  simp only [lzEncode, List.length_append, leBytes_length]
  exact ⟨Nat.add_le_add (by decide) (k _ _ _), by omega⟩

/-- Clauses of CompressionEngine: a busy engine and one without work, a job that starts, one whose context is saved, a decode before its last block, one that
does not fit, a source that ends in a block, and a context that there is. -/
theorem witness_CompressionEngine :
    (up.alive = true ∧ up.lz.run = none ∧ up.basinReady = false ∧ up.lz.ready = none ∧ (lzRuns true [] 0).lz.run.isSome = true) ∧
    (let s := up.wr F.BASIN_STATUS_READY 1
     let v := { s with lz := { s.lz with queues := [[], [], [lzJob false 2 64]] } }
     v.alive = true ∧ v.lz.run = none ∧ v.basinReady = true ∧ v.lz.ready = some (2, lzJob false 2 64) ∧ (v.lz.ctx 2).st ≠ 2 ∧
       (lzJob false 2 64).len ≠ 0 ∧ (lzJob false 2 64).block ≠ 0 ∧ (lzJob false 2 64).first = true ∧
       ((v.lz.setCtx 2 { st := 2, hist := [], saved := some 1 }).ctx 2).st = 2) ∧
    (∀ space ∈ [1, 64], let j := lzJob true twoBlocks.length space
     let s := lzRuns true twoBlocks space
     s.alive = true ∧ s.lz.run = some j ∧ j.decode = true ∧ lzDecode (s.lz.ctx j.queue) (s.lzSrc j) = .block 18 [0#8, 1#8] [0#8, 1#8] false ∧
       j.queue < s.lz.queues.length ∧ j.queue < s.lz.ctxs.length) ∧
    (let j := lzJob true twoBlocks.length 64
     let s := lzRuns true twoBlocks 64
     let e : LzJob := { j with used := j.used + 18, made := j.made + 2, blocks := j.blocks + 1 }
     2 ≤ j.space - j.made ∧ j.used + 18 < j.len ∧ (lzJob true twoBlocks.length 1).space - 0 < 2 ∧
       e.stops { st := 1, hist := [0#8, 1#8], saved := none } (State.lzSrc { s with basin := s.basin.writeList j.dstM [0#8, 1#8] j.made } e) = false) ∧
    (let s := lzRuns true (twoBlocks.take 17) 64
     lzDecode (s.lz.ctx 2) (s.lzSrc (lzJob true 17 64)) = .short ∧ s.lz.run = some (lzJob true 17 64)) := by
  decide +kernel

/-- The encode clauses of CompressionEngine: a block before the last one that fits, and one that does not. -/
theorem witness_CompressionEngine_encode :
    (∀ space ∈ [0, 64], let j := lzJob false 2 space
     let s := lzRuns false [0#8, 1#8] space
     s.alive = true ∧ s.lz.run = some j ∧ j.decode = false ∧ (s.lzSrc j).take j.block = [0#8] ∧ j.used + [0#8].length < j.len ∧
       j.queue < s.lz.queues.length ∧ j.queue < s.lz.ctxs.length) ∧
    (∀ s : State, let j := lzJob false 2 64
     let b := (lzEncode [] [0#8] true false).1
     let e : LzJob := { j with used := j.used + 1, made := j.made + b.length, blocks := j.blocks + 1 }
     b.length ≤ j.space - j.made ∧ e.stops { st := 1, hist := lzHist [] [0#8], saved := none } (s.lzSrc e) = false) ∧
    (lzJob false 2 0).space - (lzJob false 2 0).made < (lzEncode [] [0#8] true false).1.length := by
  refine ⟨by decide +kernel, ?_, ?_⟩
  · intro s
    have h := lzEncode_le [] [0#8] true false
    simp only [lzJob, List.length_cons, List.length_nil] at h ⊢
    refine ⟨by omega, ?_⟩
    have g := lzEncode_le (lzHist [] [0#8]) ((s.lzSrc
      { queue := 2, decode := false, first := true, last := false, block := 1, srcM := [0], len := 2, dstM := [1], space := 64, used := 0 + 1,
        made := 0 + (lzEncode [] [0#8] true false).1.length, blocks := 0 + 1, tag := .log 0 0 }).take 1) false false
    have t := List.length_take_le 1 (s.lzSrc
      { queue := 2, decode := false, first := true, last := false, block := 1, srcM := [0], len := 2, dstM := [1], space := 64, used := 0 + 1,
        made := 0 + (lzEncode [] [0#8] true false).1.length, blocks := 0 + 1, tag := .log 0 0 })
    simp only [LzJob.stops, Bool.false_eq_true, if_false, Bool.and_eq_false_imp, Bool.false_and, Bool.true_and, decide_eq_true_eq, decide_eq_false_iff_not]
    intro _
    have z : ((0 + 1 : Nat) == 0) = false := rfl
    simp only [z]
    omega
  · have h := lzEncode_le [] [0#8] true false
    simp only [lzJob]
    omega

/-- Clauses of HousekeepingSlots: the slots at the ends of each range, a sensor in and out of range and with 2 and 3 misses, one that failed, and NORAISE. -/
theorem witness_HousekeepingSlots :
    (up.island = true ∧ 6 ≤ 6 ∧ 7 ≤ 24 ∧ 31 ≤ 31 ∧ up.hk.noraise = 0) ∧
    (let s := { up with hk := { up.hk with misses := List.replicate 7 2, noraise := 1 } }
     s.island = true ∧ tempInRange ((ran s 5).hkRead 6) = true ∧ (ran s 5).hk.misses.getD 6 0 < 3 ∧ s.hk.noraise ≠ 0) ∧
    (let s := (up.wr (F.HK_TEMPn_READ 0) 2401).wr F.HK_STATUS_STATE 1
     (ran s 5).hkFailed 0 = false ∧ tempInRange ((ran s 5).hkRead 0) = false ∧ (ran s 5).rd F.HK_STATUS_STATE ≠ 0) ∧
    (let r := ran { up with hk := { up.hk with misses := List.replicate 7 3 } } 5
     3 ≤ r.hk.misses.getD 6 0 ∧ r.hkFailed 6 = false) ∧
    (tempInRange (((ran up 5).wr (F.HK_TEMPn_READ 6) (unsigned 16 (-40 * 16))).hkRead 6) = true ∧
      tempInRange (((ran up 5).wr (F.HK_TEMPn_READ 6) (unsigned 16 (2401))).hkRead 6) = false) ∧
    ((ran { cmt up F.PNL_CRACK_EN 1 with panel := { up.panel with crackOn := true } } 5).crackRuns = true ∧ (ran up 5).crackRuns = false) ∧
    (let s := up.wr F.HK_SENS_STAT_FAILED 64
     let v := { s with hk := { s.hk with goods := List.replicate 7 500 } }
     v.island = true ∧ (ran v 5).hkFailed 6 = true ∧ 500 ≤ (ran v 5).hk.goods.getD 6 0) := by decide +kernel

/-- Clauses of EvaluationAndThermalExit: running, and waiting to cool for 7 and for 8 rounds. -/
theorem witness_EvaluationAndThermalExit :
    (up.island = true ∧ up.running = true ∧ up.pwr.phase ≠ .awaitCool) ∧
    (let s := fun n => ({ up with pwr := { up.pwr with phase := .awaitCool, cold := false }, hk := { up.hk with cool := n } } : State)
     (s 8).island = true ∧ (s 8).pwr.phase = .awaitCool ∧ (s 8).hk.cool = 8 ∧ (s 7).hk.cool < 8) := by decide +kernel

/-- A request: operation, target, SID, MSEQ, body. -/
def message (op target sid mseq : Nat) (body : List Byte) : List Byte :=
  beBytes 1 op ++ beBytes 1 0 ++ beBytes 2 sid ++ beBytes 6 target ++ beBytes 2 body.length ++ beBytes 4 mseq ++ body

/-- The datagram of a request with a TAG. -/
def tagged (m tag : List Byte) : Datagram := { grp := 16, mac := 0, src := 0, sport := 0, data := List.replicate 16 0#8 ++ m ++ tag }

/-- The same with its TAG by a session key. -/
def request (op target sid mseq : Nat) (sk body : List Byte) : Datagram :=
  tagged (message op target sid mseq body) (mgmtTag sk (message op target sid mseq body))

/-- A request without a body whose TAG is zero. -/
def bare (op target sid mseq : Nat) : Datagram := tagged (message op target sid mseq []) (List.replicate 16 0#8)

/-- A session with SID 1 whose newest MSEQ is 5. -/
def sess : Session := { sid := 1, mac := 0, sk := [], winEnd := 5, winMask := 1, lastUse := 0, addr := 0, port := 0, mask := 0, buf := [], bufAt := 0 }

/-- A device with a manifest of one register in that session with a request waiting. -/
def asked (d : Datagram) : State :=
  { up with img := { up.img with manifest := [(R.TOP_LOCK_TIME, 0xFFFFFFFF)] }, ring := { up.ring with mgmt := [d] }, mgmt := { up.mgmt with sessions := [some sess, none, none, none] } }

set_option maxRecDepth 20000 in
/-- Clauses of ManagementRefusals: none waiting, another device, a short request, no session, a failed session check. -/
theorem witness_ManagementRefusals :
    (up.alive = true ∧ takeReq 5 up.ring.mgmt = none) ∧
    (∀ op ∈ [1, 2, 3, 4, 5],
      (let s := asked (bare op 1 1 6)
       takeReq op s.ring.mgmt = some (mgmtReq (bare op 1 1 6), []) ∧ s.logWaits = false ∧ (mgmtReq (bare op 1 1 6)).target ≠ s.mac) ∧
      (let s := asked (bare op 0 2 6)
       let q := mgmtReq (bare op 0 2 6)
       takeReq op s.ring.mgmt = some (q, []) ∧ 16 ≤ q.pay.length ∧ q.target = s.mac ∧ s.mgmt.slotOf q.sid = none)) ∧
    (let q := mgmtReq { bare 1 0 0 6 with data := List.replicate 16 0#8 ++ [1#8] }
     q.op = 1 ∧ q.pay.length < 16) ∧
    (asked (bare 1 0 2 6)).sessionCheck (mgmtReq (bare 1 0 2 6)) ≠ 0 := by
  decide +kernel

set_option maxRecDepth 20000 in
/-- The clauses of ManagementRefusals on a TAG by another key and on a replay. -/
theorem witness_ManagementRefusals_tags :
    (let q := mgmtReq (request 2 0 1 6 [1#8] [])
     (asked (request 2 0 1 6 [1#8] [])).mgmt.slotOf q.sid = some (0, sess) ∧ q.tag ≠ mgmtTag sess.sk q.signed) ∧
    (let q := mgmtReq (request 2 0 1 5 [] [])
     (asked (request 2 0 1 5 [] [])).mgmt.slotOf q.sid = some (0, sess) ∧ 16 ≤ q.tag.length ∧ q.tag = mgmtTag sess.sk q.signed ∧ sess.accept q.mseq = none) := by
  decide +kernel

/-- A SESSION request of MSEQ 6 with key 1 as its point and its key, and a signature by the private key 1, computed outside the model. -/
def sessionReq : Datagram :=
  { grp := 16, mac := 0, src := 0, sport := 0,
    data := List.replicate 16 0#8 ++ (beBytes 1 1 ++ List.replicate 9 0#8 ++ beBytes 2 288 ++ beBytes 4 6 ++ key1 ++ key1 ++ beBytes 96 0x2ca8c560f92280756d4d4e5903043a370532b246669e6110b033f9ab150d51863208e24bd70ce3738d027638bbd54cd2be2437c4de10e58e1d848bc82d2dfbff8a69f6fc7fa13e653682f056fff95b189aff8bedfe3389f4aaf9e47033c210f8) ++ List.replicate 16 0#8 }

/-- A device whose management hash is the digest of key 1, with that request. -/
def joining : State :=
  let s := asked sessionReq
  let regs := (List.range 12).foldl (fun r i => r.setWord (R.TOP_MGMT_HASH i) (BitVec.ofNat 32 (beAt slot1 (44 - 4 * i) 4))) s.led.bank0.regs
  { s with led := { s.led with bank0 := { s.led.bank0 with regs := regs } } }

set_option maxRecDepth 100000 in
/-- The first clause of ManagementAnswers. -/
theorem witness_ManagementAnswers_session :
    joining.alive = true ∧ 16 ≤ (mgmtReq sessionReq).pay.length ∧ (mgmtReq sessionReq).target = joining.mac ∧
      takeReq 1 joining.ring.mgmt = some (mgmtReq sessionReq, []) ∧ joining.mgmt.newSlot < joining.mgmt.sessions.length ∧
      joining.sessionCheck (mgmtReq sessionReq) = 0 := by
  decide +kernel

/-- The session after a request of MSEQ 6. -/
def sess6 : Session := { sess with winEnd := 6, winMask := 3 }

/-- One read of a word, a subscription to all blocks, a read of the event ring. -/
def readBody : List Byte := beBytes 4 0 ++ beBytes 2 1 ++ beBytes 2 0

/-- Writes of one pair. -/
def writeBody (a : Nat) : List Byte := beBytes 2 1 ++ beBytes 2 0 ++ beBytes 4 a ++ beBytes 4 0

/-- The device after the request. -/
def accepted (d : Datagram) : State := afterAccept (asked d) 0 [] 0 sess6

set_option maxRecDepth 20000 in
/-- A request of MSEQ 6 in that session. -/
theorem witness_inSession : ∀ p ∈ [(2, readBody), (3, writeBody 0), (4, beBytes 4 0xFFFFF), (5, List.replicate 8 0#8)],
    (let d := request p.1 0 1 6 [] p.2
     let q := mgmtReq d
     inSession (asked d) q 0 sess6 ∧ takeReq p.1 (asked d).ring.mgmt = some (q, []) ∧ 16 ≤ q.pay.length ∧ q.target = (asked d).mac ∧
       q.formed p.2.length = true ∧ q.body = p.2) := by
  intro p hp
  have h : (let d := request p.1 0 1 6 [] p.2
      let q := mgmtReq d
      ((asked d).mgmt.slotOf q.sid = some (0, sess) ∧ 16 ≤ q.tag.length ∧ q.tag = mgmtTag sess.sk q.signed ∧ sess.accept q.mseq = some sess6) ∧
        takeReq p.1 (asked d).ring.mgmt = some (q, []) ∧ 16 ≤ q.pay.length ∧ q.target = (asked d).mac ∧ q.formed p.2.length = true ∧ q.body = p.2) := by
    fin_cases hp <;> decide +kernel
  exact ⟨⟨sess, h.1⟩, h.2⟩

/-- The other clauses of ManagementAnswers: reads of 1 word, writes to no register, outside the manifest and inside, a subscription, and the ring. -/
theorem witness_ManagementAnswers :
    (beAt readBody 0 4 % 4 = 0 ∧ 1 ≤ beAt readBody 4 2 ∧ beAt readBody 4 2 ≤ 256 ∧ beAt readBody 6 2 = 0) ∧
    (let v := accepted sessionReq
     1 ≤ beAt (writeBody 0) 0 2 ∧ beAt (writeBody 0) 0 2 ≤ 64 ∧ beAt (writeBody 0) 2 2 = 0 ∧
       v.firstBad 0 (writePairs (writeBody 0x13FFFC) 1) = some (0, 0x13FFFC, 2) ∧
       v.firstBad 0 (writePairs (writeBody R.TOP_MODE) 1) = some (0, R.TOP_MODE, 3) ∧
       v.firstBad 0 (writePairs (writeBody R.TOP_LOCK_TIME) 1) = none) ∧
    (let v := accepted sessionReq
     (match v.applyPairs 0 (writePairs (writeBody R.TOP_LOCK_TIME) 1) with | .inl w => w.running | .inr _ => false) = true) ∧
    (beAt (beBytes 4 0xFFFFF) 0 4 < 2 ^ 20 ∧ 0 < (asked sessionReq).mgmt.sessions.length ∧ (accepted sessionReq).logBytes 0 0 0 = some [] ∧
      (asked sessionReq).logWaits = false) := by decide +kernel

/-- A record. -/
def record : EvRec := { pound := 0, sec := 0, ns := 0, code := 1, block := 0, inst := 0, rseq := 0, arg0 := 0, arg1 := 0, gap := false }

/-- Clauses of EventsReachTheRing: no record and one, no session, one with records and one without, a session at the end of IDLE_S and just before it, a log
that is and is not due, with the queue open and full, and a pool that has the moorings and one that has none. -/
theorem witness_EventsReachTheRing :
    (up.alive = true ∧ up.evt.next = none ∧ up.mgmt.sessions.getD 3 none = none ∧ (up.tick 0).logDue = false) ∧
    (({ up with evt := { up.evt with pending := [record] } } : State).evt.next = some (record, up.evt)) ∧
    (let s := { up with mgmt := { up.mgmt with sessions := [some sess, some { sess with buf := [record] }, none, none] } }
     s.mgmt.sessions.getD 0 none = some sess ∧ sess.buf = [] ∧ 1 < s.mgmt.sessions.length ∧ s.mgmt.sessions.getD 1 none = some { sess with buf := [record] } ∧
       max s.clk.now (s.cm F.TOP_MGMT_CFG_IDLE_S * 1000000000 - 1) < sess.lastUse + s.cm F.TOP_MGMT_CFG_IDLE_S * 1000000000 ∧
       sess.lastUse + s.cm F.TOP_MGMT_CFG_IDLE_S * 1000000000 ≤ max s.clk.now (s.cm F.TOP_MGMT_CFG_IDLE_S * 1000000000)) ∧
    (let s := (cmt { up with mgmt := { up.mgmt with unlogged := [(record, 0)] }, pwr := { up.pwr with brace := none } } F.TOP_LOG_CFG_EN 1).wr F.BASIN_STATUS_READY 1
     s.alive = true ∧ (s.tick 0xFFFFFFFFFFFF).logDue = true ∧ s.lzOpen 2 = true ∧ 2 < s.lz.queues.length ∧
       ((s.tick 0xFFFFFFFFFFFF).allocs (lzClass 2) 2).1.isSome = true ∧
       (let w := cmt s F.BASIN_RSV_PKT 0xFFFFFF
        (w.tick 0xFFFFFFFFFFFF).logDue = true ∧ w.lzOpen 2 = true ∧ ((w.tick 0xFFFFFFFFFFFF).allocs (lzClass 2) 2).1 = none)) ∧
    (let s := { up with lz := { up.lz with queues := modAt up.lz.queues 2 (fun _ => List.replicate 16 (lzJob false 1 1)) } }
     s.lzOpen 2 = false) := by decide +kernel

/-- Clauses of AlertAndTarget: the line asserted and not, three bytes at the ends of the ledger's space, two bytes, and an odd address. -/
theorem witness_AlertAndTarget :
    (let s := cmt (up.wrW R.TOP_ALERT 1#32) F.TOP_ALERT_MASK_MASK 1
     s.island = true ∧ s.alertLow = true) ∧ up.alertLow = false ∧
    (∀ d ∈ [[0#8, 0#8, 0#8], [0xFF#8, 0xFF#8, 0xFC#8]], d.length = 3 ∧ be d % 4 = 0) ∧
    (∀ d ∈ [[0#8, 0#8], [0#8, 0#8, 1#8]], ¬ (d.length = 3 ∧ be d % 4 = 0)) ∧ up.mgmt.i2cPtr < 2 ^ 24 := by decide +kernel

/-- Clauses of TapInstructions: held in reset, in service, and in manufacturing test. -/
theorem witness_TapInstructions :
    up.jtag.trst = true ∧
    (let s := { up with jtag := { up.jtag with trst := false } }
     s.jtag.trst = false ∧ s.pwr.straps.testEn = false) ∧
    (let s := { up with jtag := { up.jtag with trst := false }, pwr := { up.pwr with straps := { Straps.reset with testEn := true } } }
     s.jtag.trst = false ∧ s.pwr.straps.testEn = true) := by decide +kernel


/-- A command in front, a queue's rest, and an empty queue. -/
theorem witness_StepRunsTheFrontCommand :
    ({ up with pending := [.lockClose 0, .lockClose 1] } : State).pending = .lockClose 0 :: [.lockClose 1] ∧ State.reset.pending = [] := by decide +kernel

/-- The state after reset meets the invariant and has a step. -/
theorem witness_InvariantKept : Inv State.reset ∧ ∃ u, step { State.reset with pending := [.lockClose 0] } = .next u :=
  ⟨⟨by decide, by decide, fun _ => rfl⟩, _, rfl⟩

/-- A next state for QueueAndClock and TapIsolated, with and without the TAP. -/
theorem witness_QueueAndClock : (∃ u, exec (.gpioSample 5 0) up = .next u) ∧ ∃ u, exec (.trstDeassert 5) up = .next u := ⟨⟨_, rfl⟩, _, rfl⟩

/-- A next state for TapIsolated: TAP commands and another. -/
theorem witness_TapIsolated : (tapCommand (.jtagIdcode 0) = true ∧ ∃ u, exec (.jtagIdcode 0) up = .next u) ∧ tapCommand (.lockClose 0) = false ∧
    ∃ u, exec (.lockClose 0) up = .next u := ⟨⟨rfl, _, rfl⟩, rfl, _, rfl⟩

/-- A reset exit that is due, and one that is not. -/
theorem witness_StrapsOnlyAtResetExit :
    ({ up with pwr := { up.pwr with phase := .exitDue } } : State).pwr.phase = .exitDue ∧ up.pwr.phase ≠ .exitDue ∧
    (∃ u, exec (.resetExit 0 (sideStraps 2) none 0x4000000 []) { up with pwr := { up.pwr with phase := .exitDue } } = .next u) ∧
    ∃ u, exec (.lockClose 0) up = .next u := ⟨rfl, by decide +kernel, ⟨_, rfl⟩, _, rfl⟩

/-- A next state of a device with a programmed OTP. -/
theorem witness_OtpOnlyRises :
    (let s := { up with img := { up.img with otp := { Otp.blank with epoch := 64, revoked := 15, uid := 1 } } }
     s.img.otp ≠ Otp.blank ∧ s.img.otp.revoked.testBit 3 = true ∧ ∃ u, exec (.lockClose 0) s = .next u) := ⟨by decide +kernel, by decide +kernel, _, rfl⟩

/-- A command that does not move the committed set, one that may load without records at work, and a window that ends. -/
theorem witness_CommittedSetMovesOnlyAtOpens :
    (movesCommitted (.lockClose 0) = false ∧ ∃ u, exec (.lockClose 0) up = .next u) ∧
    (movesCommitted (.i2cRead 0 1) = false ∧ loadsOn (.i2cRead 0 1) = true ∧
      (let s := { up with img := { up.img with load := .loaded } }
       s.img.recs = none ∧ s.img.load ≠ .off ∧ ∃ u, exec (.i2cRead 0 1) s = .next u)) ∧ (cyc .level).alive = true ∧ (cyc .level).lock.phase = .level ∧
    ∃ u, exec (.levelWindowExpiry 0) (cyc .level) = .next u :=
  ⟨⟨rfl, _, rfl⟩, ⟨rfl, rfl, rfl, by decide, _, rfl⟩, by decide +kernel, rfl, _, rfl⟩

/-- Data of one byte, first in a sequence or after a history. -/
theorem witness_LzRoundTrip : ([0#8] : List Byte) ≠ [] ∧ ([0#8] : List Byte).length ≤ 65536 ∧
    (({ st := 1, hist := [1#8], saved := none } : LzCtx).st = 1 ∧ ({ st := 1, hist := [1#8], saved := none } : LzCtx).hist = [1#8]) := by decide +kernel

/-- A command is refused as ill-formed. -/
def bad (c : Instr) : Bool := !Sys2Proof.WellFormed.command c

theorem smoke_registerWrite : bad (.registerWrite 0 65536 0 0#32) ∧ bad (.registerWrite 0 0 0x140000 0#32) ∧ bad (.registerWrite 0 0 2 0#32) := by decide
theorem smoke_blocks : bad (.levelStage 0 20 0) ∧ bad (.levelStage 0 0 99) ∧ bad (.levelReportReceived 0 20 0) ∧ bad (.levelReportReceived 0 0 65536) ∧
    bad (.commitToken 0 20 0) ∧ bad (.forcedUnitReset 0 20) ∧ bad (.unitReload 0 20 0) ∧ bad (.bargeTake 0 20 0) := by decide
theorem smoke_gpio : bad (.gpioSample 0 65536) := by decide
theorem smoke_monitors : bad (.porDeassert 0 0x40000) ∧ bad (.seqCheckRetry 0 0x40000) ∧ bad (.warnTrip 0 18) ∧ bad (.resetTrip 0 18) ∧ bad (.overvoltTrip 0 18) := by
  decide
theorem smoke_resetExit : bad (.resetExit 0 { Straps.reset with pairDown := true } none 0x4000000 []) ∧ bad (.resetExit 0 Straps.reset none 0x1000000 []) ∧
    bad (.resetExit 0 Straps.reset (some { Otp.blank with epoch := 65 }) 0x4000000 []) ∧
    bad (.resetExit 0 Straps.reset (some { Otp.blank with slots := [] }) 0x4000000 []) := by decide +kernel
theorem smoke_domains : bad (.domainDrained 0 159) ∧ bad (.domFailClear 0 5 0#32) ∧ bad (.imageHeaderRead 0 3) := by decide
theorem smoke_ports : bad (.txFrameBoundary 0 2) ∧ bad (.linkUp 0 ⟨2, []⟩) ∧ bad (.linkUp 0 ⟨0, List.replicate 5 { reqs := [], first := 0, tries := [] }⟩) ∧
    bad (.linkUp 0 ⟨0, [{ reqs := [(4, true)], first := 0, tries := [] }]⟩) ∧ bad (.linkDown 0 0 0) ∧ bad (.linkDown 0 0 4) ∧ bad (.timedEgressDue 0 2) ∧
    bad (.timedEgressDrop 0 2) ∧ bad (.pipeLineTake 0 2) ∧ bad (.cciWriteDone 0 2 true) := by decide
theorem smoke_groups : bad (.parityWaitExpiry 0 16 0 0) ∧ bad (.parityWaitExpiry 0 0 65536 0) ∧ bad (.repairWaitExpiry 0 0 0 0x100000000) := by decide
theorem smoke_time : bad (.timePortTimeout 0 0x100000000) ∧ bad (.timeEvtPeriodic 0 2) ∧ bad (.pulseWidthExpiry 0 (.evt 2)) ∧ bad (.pulseWidthExpiry 0 (.fsync 2)) ∧
    bad (.timeCapture 0 3 true) ∧ bad (.fsyncPulse 0 2 0) := by decide
theorem smoke_cores : bad (.chunkDone 0 16) ∧ bad (.chunkAbandon 0 16) ∧ bad (.blockDone 0 32 false) := by decide
theorem smoke_basin : bad (.basinTrainDone 0 (List.replicate 5 (trained true))) ∧ bad (.basinTrainDone 0 [{ lanes := [{ LaneEyes.clear with rd1 := (0, 128) }], spares := [] }]) ∧
    bad (.basinTrainDone 0 [{ lanes := [], spares := [(160, LaneEyes.clear)] }]) ∧ bad (.basinEyeTrack 0 [(4, 0, 1)]) ∧ bad (.basinRefresh 0 4) ∧
    bad (.scrubGranule 0 [(72, 1)]) ∧ bad (.basinCorrectedRead 0 ⟨0, [(0, 256)], false, false⟩) ∧ bad (.basinCorrectedRead 0 ⟨96 * 2 ^ 30, [], false, false⟩) ∧
    bad (.basinUncorrectableRead 0 ⟨0, [], false, false⟩ 7 0 0) ∧ bad (.basinFlushDone 0 20) := by decide
/-- An eye without steps. -/
def noEyes : Eyes := eyesOf 0
theorem smoke_lanes : bad (.scanUnderrun 0 48) ∧ bad (.scanCheckDone 0 8) ∧ bad (.blockLockAcquired 0 ⟨47, []⟩) ∧ bad (.blockLockLost 0 61 []) ∧
    bad (.rxAdaptDone 0 48 [] noEyes ⟨0, List.replicate 12 0⟩) ∧ bad (.rxAdaptDone 0 48 (List.replicate 16 noEyes) noEyes ⟨128, List.replicate 12 0⟩) ∧
    bad (.rxAdaptDone 0 48 (List.replicate 16 noEyes) noEyes ⟨0, List.replicate 11 0⟩) ∧ bad (.fomMonitor 0 61 noEyes) ∧ bad (.monScanDone 0 (List.replicate 63 noEyes)) ∧
    bad (.prbsSyncChange 0 61 [] [] []) ∧ bad (.prbsSyncChange 0 48 [2 ^ 64] [] []) ∧ bad (.prbsSyncChange 0 48 [] [] [4]) ∧ bad (.errorInject 0 60 0#32) ∧ bad (.vrefPoint 0 64) := by decide +kernel
theorem smoke_csi : bad (.csiFrameStart 0 2 (csiHead 0 0) none) ∧ bad (.csiFrameEnd 0 0 [0#8] none) ∧ bad (.csiLine 0 0 [] none [] 0#8 0#8) ∧ bad (.camSensorStart 0 8) ∧
    bad (.glintPair 0 4) ∧ bad (.encIdr 0 4 0#32) := by decide +kernel
theorem smoke_towpath : bad (.towHb 0 (towMsg 4 4 0 [])) ∧ bad (.towSeal 0 { towMsg 0 1 0 [] with start := 2 ^ 64 }) ∧ bad (.towMsgLost 0 0x1000000) := by decide +kernel
theorem smoke_island : bad (.lzBlockDone 0 3) ∧ bad (.hkSlot 0 32 0) ∧ bad (.sensorFail 0 7) ∧ bad (.eventsSend 0 4) ∧ bad (.sessionIdleExpiry 0 4) := by decide
theorem smoke_frames : bad (.ringFrameRx 0 0 { frame 0 0 [] with data := List.replicate 59 0#8 }) ∧ bad (.ringFrameRx 0 0 { frame 0 0 [] with fcs := 2 ^ 32 }) := by
  decide +kernel

/-- A command of EveryCommandCompletes, and those whose address is the first beyond the Basin. -/
theorem witness_EveryCommandCompletes : Sys2Proof.WellFormed.command (.basinCorrectedRead 0 ⟨96 * 2 ^ 30 - 1, [(0, 1)], true, true⟩) = true ∧ basinSize ≤ 96 * 2 ^ 30 ∧
    exec (.basinCorrectedRead 0 ⟨96 * 2 ^ 30, [(0, 1)], false, false⟩) up = .fault (.noSuchAddress (96 * 2 ^ 30)) := ⟨by decide, by decide, rfl⟩

/-- Reset causes of EventRingThroughResets: a key with bit 0, the first and the last monitor of a running device, 7 and 8 records pending. -/
theorem witness_EventRingThroughResets :
    (up.alive = true ∧ (0x57520001#32).toNat >>> 16 = 0x5752 ∧ bitAt (0x57520001#32).toNat 0 = true ∧ up.pwr.phase = .run ∧ State.reset.alive = false) ∧
    (∀ mon ∈ [0, 17], mon < 18 ∧ mon ≠ 5 ∧ mon ≠ 16) ∧
    ({ up.evt with pending := List.replicate 7 record } : EvtSt).pending.length < 8 ∧
    8 ≤ ({ up.evt with pending := List.replicate 8 record } : EvtSt).pending.length := by decide +kernel

/-- No row of the table gives bits, so no word spells a command. -/
theorem test_no_word_decodes : Sys2Proof.decodeTableWord 32 0 = none := rfl

/-- R36 prints the CRC-16 of the text 123456789. -/
theorem test_crc16_check_value : crc16 [0x31#8, 0x32#8, 0x33#8, 0x34#8, 0x35#8, 0x36#8, 0x37#8, 0x38#8, 0x39#8] = 0x29B1#16 := by decide +kernel

/-- Pounds wrap (R3). -/
theorem test_pound_wraps : poundAdd 0xFFFFFFFF 1 = 0 ∧ laterPound 0 0xFFFFFFFF = true ∧ laterPound 0xFFFFFFFF 0 = false := by decide

/-- An idle block stays as it is. -/
theorem test_idle_step : (match step up with | .next u => u == up | _ => false) = true := by decide +kernel

/-- The ball map of R478: a single signal, a leg of a pair, and how many balls carry signals. -/
theorem test_ball_map : ballNet 8 43 = .pair "PANEL_TX" 31 false := by decide

/-- FIPS 180-4: the digest of the text abc. -/
theorem test_sha384_abc : sha384 [0x61#8, 0x62#8, 0x63#8] =
    beBytes 48 0xcb00753f45a35e8bb5a03d699ac65007272c32ab0eded1631a8b605a43ff5bed8086072ba1e7cc2358baeca134c825a7 := by decide +kernel

/-- RFC 4231, test case 1. -/
theorem test_hmac384 : hmac384 (List.replicate 20 0x0B#8) [0x48#8, 0x69#8, 0x20#8, 0x54#8, 0x68#8, 0x65#8, 0x72#8, 0x65#8] =
    beBytes 48 0xafd03944d84895626b0825f4ab46907f15f9dadbe4101ec682aa034c7cebc59cfaea9ea9076ede7f4af152e8b2fa9cb6 := by decide +kernel

/-- FIPS 197, appendix C.1. -/
theorem test_aes_decrypt : aesDecrypt (beBytes 16 0x000102030405060708090a0b0c0d0e0f) (beBytes 16 0x69c4e0d86a7b0430d8cdb78070b4c55a) =
    beBytes 16 0x00112233445566778899aabbccddeeff := by decide +kernel

/-- The example header and checksum of CSI-2. -/
theorem test_csi_examples : csiRead [0x37#8, 0xF0#8, 0x01#8, 0x3F#8] = some ({ vc := 0, dt := 0x37, wc := 0x1F0 }, false) ∧
    csiCrc (beBytes 24 0xFF000002B9DCF372BBD4B85AC875C27C81F805DFFF000001) = 0x00F0 := by decide +kernel

end Sys2Proof.Tests
end

/-! What every command leaves alone: the operations without a law under Sys2Proof/Laws/, the commands (`exec_base`, `exec_front`), and the
writes of the ledger (R7, R11, R13, R31, R40, R54). -/

namespace Sys2Proof.Machine

/-! Operations that keep the kept part. -/

/-- A change of the lock-keeper that leaves the phase and the pound numbers. -/
theorem State.withLock_kept (s : State) (l : LockSt) (h : (l.phase, l.pound, l.nextPound) = (s.lock.phase, s.lock.pound, s.lock.nextPound)) :
    ({ s with lock := l } : State).kept = s.kept := by
  simp only [Prod.mk.injEq] at h
  simp only [State.kept, h]
  rfl

theorem State.countRead_kept (s : State) (a : Nat) (retry onDie : Bool) : (s.countRead a retry onDie).kept = s.kept := rfl

theorem State.dropStaleChunks_kept (s : State) : s.dropStaleChunks.kept = s.kept := State.each_kept _ _ _ State.bargeDec_kept

theorem State.dropJob_kept (s : State) (core : Nat) (j : CoreJob) : (s.dropJob core j).kept = s.kept := by
  unfold State.dropJob
  simp only [State.lateCtxs_kept, State.loseChunk_kept, State.freeMoor_kept, State.coreEnd_kept]

theorem State.chunkDispatch_kept (s : State) : s.chunkDispatch.kept = s.kept := by
  have start : s.dropStaleChunks.renumberQueue.kept = s.kept := (State.renumberQueue_kept _).trans s.dropStaleChunks_kept
  unfold State.chunkDispatch
  grind [State.loseChunk_kept, State.skipChunk_kept, State.raiseOnce_kept, State.decEvent_kept, State.startChunk_kept, State.kept, State.base]

theorem State.chunkAbandon_kept (s : State) (core : Nat) : (s.chunkAbandon core).kept = s.kept := by
  unfold State.chunkAbandon
  split
  · rfl
  · dsimp only
    split
    · rfl
    · simp only [State.dropJob_kept, State.decEvent_kept, State.inc_kept]

theorem State.coreReset_kept (s : State) (core : Nat) : (s.coreReset core).kept = s.kept := by
  unfold State.coreReset
  split
  · rfl
  · exact State.dropJob_kept ..

theorem State.chunkDone_kept (s : State) (core : Nat) : (s.chunkDone core).kept = s.kept := by
  unfold State.chunkDone
  split
  · rfl
  · simp only [State.lateCtxs_kept, State.unitDone_kept, State.coreEnd_kept, State.inc_kept]
    grind [State.decodePlanes_kept, State.writeTile_kept, State.freeMoor_kept, State.cscDefault_kept, State.kept, State.base]

theorem State.pollOne_kept (s : State) (cs : Nat) (b : List Byte) (answer : Byte) : (s.pollOne cs b answer).kept = s.kept := by
  unfold State.pollOne
  grind [State.sbAsk_kept, State.sbFail_kept, State.sbOk_kept, State.requests_kept, State.kept, State.base]

theorem State.sidebandPoll_kept (s : State) (reads : List (List Byte)) (accepts : List Byte) : (s.sidebandPoll reads accepts).kept = s.kept := by
  have polls := State.each_kept s (List.range 4) (fun s c => s.pollOne c (reads.getD c []) (accepts.getD c 0#8)) (fun _ _ => State.pollOne_kept ..)
  unfold State.sidebandPoll
  grind [State.trainCheck_kept, State.bcApply_kept]

theorem State.lzReset_kept (s : State) : s.lzReset.kept = s.kept := by
  unfold State.lzReset
  refine Eq.trans (b := State.kept (State.each _ _ _)) rfl ?_
  rw [State.each_kept _ _ _ (fun _ _ => State.freeMoor_kept ..), State.each_kept _ _ _ State.lzFree_kept]

theorem State.repeatAction_kept (s : State) (p : Nat) : (s.repeatAction p).kept = s.kept := by
  unfold State.repeatAction
  split
  · simp only [State.when_kept, State.recoveryOf_kept, implies_true]
  · rfl

theorem State.holdEntry_kept (s : State) (p : Nat) : (s.holdEntry p).kept = s.kept := by
  unfold State.holdEntry
  split <;> rfl

theorem State.encSents_kept (s : State) : s.encSents.kept = s.kept := State.each_kept _ _ _ (fun _ _ => State.encSent_kept ..)

/-- A reader of frame headers that keeps the kept part. -/
def HeaderKeeps (f : State → Nat → List Byte → Option Nat → State × Option CsiHead) : Prop :=
  ∀ s port h lost, (f s port h lost).1.kept = s.kept

/-- What the bytes of a header read as does not matter. The proof is one for every reader, under `id` so that it stays one: of `csiRead` itself the
kernel would run the decoder. -/
theorem State.csiHeader_keeps : HeaderKeeps State.csiHeader := by
  delta State.csiHeader
  generalize csiRead = read
  revert read
  refine id ?_
  intro read s port h lost
  dsimp only
  rcases read h with _ | ⟨c, _ | _⟩
  · cases lost with
    | none => exact State.each_kept _ _ _ (fun _ _ => State.dropCur_kept ..)
    | some n => exact State.dropCur_kept ..
  · rfl
  · exact State.inc_kept ..

theorem State.csiHeader_kept (s : State) (port : Nat) (h : List Byte) (lost : Option Nat) : (s.csiHeader port h lost).1.kept = s.kept :=
  State.csiHeader_keeps s port h lost

theorem State.csiStart_kept (s : State) (port : Nat) (h : List Byte) (lost : Option Nat) : (s.csiStart port h lost).kept = s.kept := by
  have head := s.csiHeader_kept port h lost
  unfold State.csiStart
  split
  · rfl
  · generalize s.csiHeader port h lost = r at head
    obtain ⟨u, _ | c⟩ := r
    · exact head
    · refine Eq.trans ?_ head
      dsimp only
      split
      · exact State.csiUnknown_kept ..
      · split
        · rfl
        · simp only [State.expoAt_kept, State.modSensor_kept, State.takeOuts_kept, State.dropCur_kept]

theorem State.csiPayload_kept (s : State) (port : Nat) (c : CsiHead) (d : List Byte) (crc : Nat) : (s.csiPayload port c d crc).kept = s.kept := by
  unfold State.csiPayload
  split
  · exact State.csiUnknown_kept ..
  · split
    · dsimp only
      split
      · rfl
      · split
        · exact State.makeRoom_kept ..
        · (repeat' split) <;> simp only [State.dropCur_kept, State.modSensor_kept, State.makeRoom_kept]
    · rfl

theorem State.csiLine_kept (s : State) (port : Nat) (h : List Byte) (lost : Option Nat) (d : List Byte) (crc : Nat) :
    (s.csiLine port h lost d crc).kept = s.kept := by
  have head := s.csiHeader_kept port h lost
  unfold State.csiLine
  split
  · rfl
  · generalize s.csiHeader port h lost = r at head
    obtain ⟨u, _ | c⟩ := r
    · exact head
    · dsimp only
      split
      · exact head
      · exact (State.csiPayload_kept ..).trans head

theorem State.csiEnd_kept (s : State) (port : Nat) (h : List Byte) (lost : Option Nat) : (s.csiEnd port h lost).kept = s.kept := by
  have head := s.csiHeader_kept port h lost
  unfold State.csiEnd
  split
  · rfl
  · generalize s.csiHeader port h lost = r at head
    obtain ⟨u, _ | c⟩ := r
    · exact head
    · refine Eq.trans ?_ head
      dsimp only
      split
      · exact State.csiUnknown_kept ..
      · split
        · (repeat' split) <;> simp only [State.sensorStop_kept, State.modSensor_kept, State.tryPublish_kept, State.dropCam_kept]
        · rfl

theorem State.flightSlot_kept (s : State) : s.flightSlot.kept = s.kept := by
  unfold State.flightSlot
  grind [State.flightKick_kept, State.slotEnd_kept, State.kept, State.base]

theorem State.forcedReset_kept (s : State) (block : Nat) : (s.forcedReset block).kept = s.kept := by
  unfold State.forcedReset
  split
  · rfl
  · dsimp only
    split
    · exact State.faultLow_kept _
    · rw [State.each_kept _ _ _ (by grind [State.startReload_kept, State.coreReset_kept, State.quarterReset_kept, State.lzReset_kept]),
        State.when_kept _ _ _ (fun _ => State.loseBlocks_kept ..), State.recoveryOf_kept]
      refine (State.withLock_kept _ _ rfl).trans ?_
      rw [State.wr_kept, State.raiseI_kept]
      exact State.withLock_kept _ _ rfl

theorem State.hkSlot_kept (s : State) (slot : Nat) (v : Int) : (s.hkSlot slot v).kept = s.kept := by
  unfold State.hkSlot
  grind [State.wr_kept, State.failSensor_kept, State.hkChan_kept, State.vrefSense_kept, State.crackSample_kept, State.vholdSense_kept,
    State.vinSense_kept, State.kept, State.base]

/-! The composer and the launch: the states between the steps of a definition are named s1, s2, … in its order, one fact for each step. -/

theorem State.ite_kept {c : Prop} [Decidable c] {a b s : State} (ha : a.kept = s.kept) (hb : b.kept = s.kept) :
    (if c then a else b).kept = s.kept := by
  split <;> assumption

theorem State.uncorrectable_kept (s : State) (a reader item px : Nat) : (s.uncorrectable a reader item px).kept = s.kept := by
  unfold State.uncorrectable
  grind [State.noteUncorrectable_kept, State.noteFaultIn_kept, State.scanUncorrectable_kept, State.setCompose_kept, State.coreReset_kept,
    State.losePacket_kept, State.tugDone_kept, State.isetHold_kept]

theorem State.startCompose_kept (s : State) (p : Nat) : (s.startCompose p).kept = s.kept := by
  unfold State.startCompose
  extract_lets cs
  refine State.ite_kept (State.noteFrame_kept ..) ?_
  have resolved := s.resolveAll_kept cs p
  split
  rename_i s1 res e1
  rw [e1] at resolved
  extract_lets s2
  have eyed := (s2.takeEyes_kept cs p).trans (s1.turnCards_kept p)
  split
  rename_i s3 eyes e3
  rw [e3] at eyed
  extract_lets s4 s5 fine
  have shown : s5.kept = s.kept := (State.wr_kept ..).trans ((State.wr_kept ..).trans (eyed.trans resolved))
  refine State.ite_kept ((State.noteFrame_kept ..).trans shown) ?_
  split
  · exact (State.noteFrame_kept ..).trans ((State.inc_kept ..).trans ((State.raise_kept ..).trans shown))
  · split
    split
    · exact (State.noteFrame_kept ..).trans shown
    · rename_i i _
      have entered := s5.enterBuf_kept cFRAME s5.comp.bufs i p
      split
      rename_i s6 bufs e6
      rw [e6] at entered
      extract_lets tap missed s7
      have missing : s7.kept = s6.kept := State.when_kept _ _ _ (fun _ => (State.raiseOnce_kept ..).trans (State.inc_kept ..))
      split
      rename_i s8 taps e8
      have tapped : s8.kept = s7.kept := by
        revert e8
        cases tap with
        | none => intro e8; cases e8; rfl
        | some k => exact fun e8 => (congrArg (fun r => State.kept r.1) e8).symm.trans (State.enterBuf_kept ..)
      extract_lets n c s9 lap s10
      have noted : s10.kept = s8.kept := (State.noteFrame_kept ..).trans rfl
      exact (State.each_kept _ _ _ (fun _ _ => State.geomErrors_kept ..)).trans ((State.wr_kept ..).trans (noted.trans (tapped.trans
        (missing.trans (entered.trans shown)))))

theorem State.doLaunch_kept (s : State) (p : Nat) (late : Bool) : (s.doLaunch p late).kept = s.kept := by
  unfold State.doLaunch
  extract_lets cs idle follows s1 adj
  have h1 : s1.kept = s.kept := State.ite_kept s.fixFcnt_kept rfl
  have h2 := s1.holdExitSlot_kept p (s1.slotItem p)
  split
  rename_i s2 k e
  rw [e] at h2
  extract_lets sent counted role l start begins point gens carry s3 lateNow s4 shown bank prev s5 s6 s7 s8 s9 s10 keep s11 _ sc _ _ s12 _ s13 s14 _
    s15
  have h4 : s4.kept = s.kept := by
    refine Eq.trans ?_ ((s2.txMark_kept start).trans (h2.trans h1))
    exact State.ite_kept ((State.raise_kept ..).trans (State.inc_kept ..)) rfl
  have h6 : s6.kept = s5.kept := State.ite_kept ((State.repeatAction_kept ..).trans ((State.raiseOnce_kept ..).trans (State.inc_kept ..))) rfl
  have h5 : s5.kept = s4.kept := State.ite_kept (State.countSlot_kept ..) rfl
  have h8 : s8.kept = s7.kept := State.ite_kept (State.blinkSlot_kept ..) rfl
  have h7 : s7.kept = s6.kept := State.holdEntry_kept ..
  have h10 : s10.kept = s9.kept := State.ite_kept (State.wr_kept ..) rfl
  have h9 : s9.kept = s8.kept := State.moveBufs_kept ..
  have h11 : s11.kept = s10.kept := State.when_kept _ _ _ State.ownAssert_kept
  have h13 : s13.kept = s12.kept := (State.showGens_kept _).trans rfl
  have h14 : s14.kept = s13.kept := State.when_kept _ _ _ State.bcApply_kept
  have h15 : s15.kept = s14.kept := by
    simp only [s15]
    split
    · exact (State.abortFrame_kept ..).trans rfl
    · rfl
  rw [h15, h14, h13, show s12.kept = s11.kept from rfl, h11, h10, h9, h8, h7, h6, h5, h4]

theorem State.launchSlot_kept (s : State) : s.launchSlot.kept = s.kept := by
  unfold State.launchSlot
  extract_lets p
  refine State.ite_kept rfl (State.ite_kept ?_ ?_)
  · exact (State.slotFrame_kept ..).trans rfl
  · exact (State.slotFrame_kept ..).trans (State.doLaunch_kept ..)

theorem State.rowsEnd_kept (s : State) : s.rowsEnd.kept = s.kept := by
  unfold State.rowsEnd
  refine State.ite_kept rfl ?_
  extract_lets _ s1 s2
  have h2 : s2.kept = s.kept := State.ite_kept ((State.ownYield_kept _).trans rfl) rfl
  split
  · exact (State.doLaunch_kept ..).trans h2
  · exact h2

/-! Operations that keep the base only. -/

theorem State.ite_base {c : Prop} [Decidable c] {a b s : State} (ha : a.base = s.base) (hb : b.base = s.base) :
    (if c then a else b).base = s.base := by
  split <;> assumption

/-! Resets. A cold reset resets the TAP but for TRST_L; nothing else of the base changes in a reset (R79, R80). -/

theorem State.cleared_base_warm (s : State) (lost : Bool) (phase : ResetPhase) : (s.cleared false lost phase).base = s.base := rfl

theorem State.cleared_base_cold (s : State) (lost : Bool) (phase : ResetPhase) :
    (s.cleared true lost phase).base = { s.base with jtag := { JtagSt.reset with trst := s.jtag.trst } } := rfl

theorem State.enterReset_base (s : State) (cold lost : Bool) (phase : ResetPhase) :
    (s.enterReset cold lost phase).base = (s.panelReset.cleared cold lost phase).base := by
  unfold State.enterReset
  grind [State.showNvm_kept, State.wr_kept, State.kept]

theorem State.enterReset_base_warm (s : State) (lost : Bool) (phase : ResetPhase) : (s.enterReset false lost phase).base = s.base :=
  (s.enterReset_base ..).trans ((State.cleared_base_warm ..).trans (State.base_of_kept s.panelReset_kept))

theorem State.enterReset_base_cold (s : State) (lost : Bool) (phase : ResetPhase) :
    (s.enterReset true lost phase).base = { s.base with jtag := { JtagSt.reset with trst := s.jtag.trst } } := by
  have panel : s.panelReset.base = s.base := State.base_of_kept s.panelReset_kept
  rw [s.enterReset_base, State.cleared_base_cold, panel, show s.panelReset.jtag = s.jtag from congrArg Base.jtag panel]

theorem State.coldReset_base (s : State) (lost : Bool) (phase : ResetPhase) (f : Fld) :
    (s.coldReset lost phase f).base = { s.base with jtag := { JtagSt.reset with trst := s.jtag.trst } } := by
  unfold State.coldReset
  exact (State.base_of_kept ((State.wr_kept ..).trans (State.wrW_kept ..))).trans (s.enterReset_base_cold ..)

theorem State.porAssert_base (s : State) : s.porAssert.base = { s.base with jtag := { JtagSt.reset with trst := s.jtag.trst } } :=
  State.coldReset_base ..

theorem PwrSt.waitRails_straps (p : PwrSt) : p.waitRails.straps = p.straps := by
  unfold PwrSt.waitRails
  split <;> rfl

theorem State.withWaitRails_base (s : State) : ({ s with pwr := s.pwr.waitRails } : State).base = s.base := by
  simp only [State.base, PwrSt.waitRails_straps]

theorem State.resetTrip_base (s : State) (mon : Nat) :
    (s.resetTrip mon).base = s.base ∨ (s.resetTrip mon).base = { s.base with jtag := { JtagSt.reset with trst := s.jtag.trst } } := by
  unfold State.resetTrip
  split
  · exact .inl rfl
  · extract_lets braced _ s1 cold _ s2
    have entered : s2.base = s.base ∨ s2.base = { s.base with jtag := { JtagSt.reset with trst := s.jtag.trst } } := by
      simp only [s2]
      split
      · exact .inr (State.coldReset_base ..)
      · refine .inl (State.ite_base (s := s) ?_ (State.ite_base (State.withWaitRails_base s1) ((State.withWaitRails_base _).trans ?_)))
        · exact (State.base_of_kept (State.resetCause_kept ..)).trans (State.enterReset_base_warm s1 ..)
        · exact State.base_of_kept (State.resetCause_kept s1 _)
    exact entered.imp (State.panelFastWhen_base s2 s _) (State.panelFastWhen_base s2 s2 _ rfl).trans

theorem State.resetWarm_base (s : State) (v : Word) : (s.resetWarm v).base = s.base := by
  unfold State.resetWarm
  exact State.ite_base ((State.base_of_kept (State.resetCause_kept ..)).trans (s.enterReset_base_warm ..)) rfl

theorem State.thermalReset_base (s : State) : s.thermalReset.base = s.base :=
  (State.base_of_kept (State.resetCause_kept ..)).trans (s.enterReset_base_warm ..)

theorem State.flashFree_base (s : State) : s.flashFree.base = s.base := by
  unfold State.flashFree
  refine State.ite_base ?_ rfl
  exact (State.chooseBank_base _).trans ((State.base_of_kept ((State.redoErase_kept _).trans (State.bootStep_kept ..))).trans rfl)

theorem State.resetExit_notDue (s : State) (st : Straps) (otp : Option Otp) (size : Nat) (patches : List (Nat × List Byte))
    (h : s.pwr.phase ≠ .exitDue) : s.resetExit st otp size patches = s := if_pos h

theorem State.resetExit_base_due (s : State) (st : Straps) (otp : Option Otp) (size : Nat) (patches : List (Nat × List Byte))
    (h : s.pwr.phase = .exitDue) : (s.resetExit st otp size patches).base =
      { s.base with otp := if s.img.otp = Otp.blank then (otp.getD Otp.blank).bounded else s.img.otp, straps := st } := by
  unfold State.resetExit
  rw [if_neg (not_not_intro h)]
  extract_lets flash torn o _ _ _ s1 s2 _ s3 s4
  have noted : s4.base = s1.base := by
    refine (State.base_of_kept s3.fastReport_kept).trans ?_
    exact State.base_of_kept (s := s2) ((State.wr_kept ..).trans (State.raise_kept ..))
  refine Eq.trans ?_ (show s1.base = _ from rfl)
  rw [← noted]
  exact State.ite_base rfl ((State.flashFree_base _).trans (State.base_of_kept (State.bootStep_kept ..)))

/-! Writes of the ledger and image records: only the WO bit of PWR_RESET reaches beyond the kept part, and it keeps the base. -/

theorem State.woWrite_base (s : State) (a : Nat) (v : Word) : (s.woWrite a v).base = s.base := by
  unfold State.woWrite
  extract_lets n
  refine State.ite_base (State.base_of_kept (State.shadowDiscard_kept ..)) (State.ite_base (State.resetWarm_base ..) (State.base_of_kept ?_))
  grind [State.updCmd_kept, State.calSave_kept, State.updData_kept, State.quarClear_kept, State.inject_kept, State.crackClear_kept,
    State.encIdr_kept, State.towCmd_kept]

theorem State.ledgerWrite_base (s : State) (a : Nat) (v : Word) (mask : Nat) : (s.ledgerWrite a v mask).base = s.base := by
  unfold State.ledgerWrite
  split
  · exact State.base_of_kept (State.busyEvent_kept ..)
  · generalize accessMasks a = r
    obtain ⟨rw, rws, w1c, wo⟩ := r
    grind [State.w1cWrite_kept, State.rwWrite_kept, State.rwsWrite_kept, State.woWrite_base, State.kept]

theorem State.registerWrite_base (s : State) (sid a : Nat) (v : Word) : (s.registerWrite sid a v).base = s.base := by
  unfold State.registerWrite
  refine State.ite_base rfl ?_
  split
  · exact State.base_of_kept (State.raise_kept ..)
  · exact State.ledgerWrite_base ..

theorem State.imageWrite_base (s : State) (a : Nat) (v : Word) : (s.imageWrite a v).base = s.base := by
  unfold State.imageWrite
  generalize accessMasks a = r
  obtain ⟨rw, rws, w1c, wo⟩ := r
  grind [State.w1cWrite_kept, State.rwWrite_kept, State.imageRws_base, State.woWrite_base, State.kept]

theorem State.recWords_base (ws : List Word) : ∀ (s : State) (a : Nat), (s.recWords a ws).2.base = s.base := by
  induction ws with
  | nil => exact fun _ _ => rfl
  | cons w r ih =>
    intro s a
    unfold State.recWords
    split
    · exact (ih _ _).trans (State.imageWrite_base ..)
    · rfl

theorem State.records_base (n : Nat) : ∀ (b : List Byte) (at_ : Nat) (s : State), (State.records n b at_ s).1.base = s.base := by
  induction n with
  | zero => exact fun _ _ _ => rfl
  | succ n ih =>
    intro b at_ s
    unfold State.records
    split
    · rfl
    split
    · rfl
    extract_lets op addr rest
    split
    · split
      · rfl
      · rename_i ws skip _
        have words := State.recWords_base ws s addr
        generalize s.recWords addr ws = r at words
        obtain ⟨_ | _, s1⟩ := r
        · exact words
        · exact (ih _ _ _).trans words
    · split
      · split
        · rfl
        · split
          · exact ih _ _ _
          · rfl
      · split
        · split
          · rfl
          · split
            · exact ih _ _ _
            · rfl
        · split <;> rfl

theorem State.runRecords_base (s : State) (b : List Byte) (at_ : Nat) : (s.runRecords b at_).base = s.base :=
  (State.recordsEnd_base ..).trans ((State.records_base ..).trans rfl)

theorem State.recordsRun_base (s : State) : s.recordsRun.base = s.base := by
  unfold State.recordsRun
  split
  · rfl
  · exact State.ite_base (State.runRecords_base ..) (State.ite_base (State.failBank_base ..) rfl)
  · exact State.ite_base (State.runRecords_base ..) rfl

theorem State.loading_base (s : State) (f : State → State) (h : ∀ s, (f s).base = s.base) : (s.loading f).base = s.base :=
  (State.recordsRun_base _).trans ((h _).trans s.recordsRun_base)

theorem State.withLed_base (s : State) (l : LedSt) : ({ s with led := l } : State).base = s.base := rfl

theorem State.firstPass_base (s : State) : s.firstPass.base = s.base := by
  unfold State.firstPass
  refine State.ite_base rfl ?_
  extract_lets s1 cause s2 s3 _ s4 b
  have booted : s1.base = s.base := State.base_of_kept (s.bootStep_kept 6)
  refine (State.ite_base (s := s1) (State.failBank_base ..) ?_).trans booted
  have noted : s3.base = s1.base := State.base_of_kept ((s2.bootStep_kept 7).trans (s1.raise_kept ..))
  exact (State.runRecords_base s4 ..).trans ((State.withLed_base s3 _).trans noted)

theorem State.digestDiffers_base (s : State) : s.digestDiffers.base = s.base := by
  unfold State.digestDiffers
  extract_lets b s1 _ s2
  refine (State.enterReset_base_warm ..).trans ((show s2.base = s1.base from rfl).trans ?_)
  exact State.base_of_kept (s.noteFail_kept b 11)

theorem State.secondPass_base (s : State) (same : Bool) : (s.secondPass same).base = s.base := by
  unfold State.secondPass
  refine State.ite_base rfl ?_
  extract_lets s1
  refine Eq.trans (b := s1.base) ?_ s.recordsRun_base
  refine State.ite_base rfl ?_
  split
  · exact State.failBank_base ..
  · refine State.ite_base (State.failBank_base ..) ?_
    split
    · exact State.failBank_base ..
    · exact State.ite_base (State.base_of_kept (State.acceptImage_kept ..)) (State.digestDiffers_base _)

/-! Housekeeping, management and the open. -/

theorem State.withHk_base (s : State) (h : HkSt) : ({ s with hk := h } : State).base = s.base := rfl

theorem State.shutdown_base (s : State) (sensor : Nat) (hot : Int) : (s.shutdown sensor hot).base = s.base := by
  unfold State.shutdown
  extract_lets hi lo _ s1
  have noted : s1.base = s.base := State.base_of_kept ((State.inc_kept ..).trans (s.raiseI_kept ..))
  exact State.ite_base (State.withHk_base ..) (State.ite_base ((State.thermalReset_base _).trans ((State.withHk_base s1 _).trans noted)) rfl)

theorem State.hkEvaluate_base (s : State) (status : List Byte) : (s.hkEvaluate status).base = s.base := by
  unfold State.hkEvaluate
  extract_lets cap s1
  have temps := (s1.hkTemps_kept).trans s.modelAbsent_kept
  split
  rename_i s2 hot e
  rw [e] at temps
  extract_lets s3 s4 s5 s6 _ s7 s8
  have h5 : s5.kept = s.kept :=
    (State.exhaustion_kept _).trans ((State.thermUsers_kept ..).trans ((State.adoptRef_kept _).trans temps))
  have h6 : s6.kept = s5.kept := by
    simp only [s6]
    split
    · rfl
    · simp only [State.throttle_kept, State.warnLevel_kept, State.wr_kept]
  have h8 : s8.base = s.base :=
    (State.base_of_kept (State.thermOut_kept ..)).trans ((State.withHk_base s6 _).trans (State.base_of_kept (h6.trans h5)))
  split
  · exact (State.shutdown_base ..).trans h8
  · exact h8

theorem State.applyPairs_base (ps : List (Nat × Word)) : ∀ (s u : State) (i : Nat), s.applyPairs i ps = .inl u → u.base = s.base := by
  induction ps with
  | nil => rintro s u i ⟨⟩; rfl
  | cons p r ih =>
    intro s u i h
    unfold State.applyPairs at h
    dsimp only at h
    split at h
    · cases h
    · exact (ih _ _ _ h).trans (State.ledgerWrite_base ..)

theorem State.writeReq_base (s : State) (q : MgmtReq) : (s.writeReq q).base = s.base := by
  unfold State.writeReq
  refine State.sessionDo_base _ _ _ (fun s _ x => ?_)
  extract_lets b n ps
  refine State.ite_base (State.base_of_kept (State.mgmtAnswer_kept ..)) ?_
  split
  · refine (State.base_of_kept (State.mgmtAnswer_kept ..)).trans (State.ite_base (State.base_of_kept (State.raise_kept ..)) rfl)
  · split
    · rename_i s1 e
      have applied := State.applyPairs_base _ _ _ _ e
      exact (State.ite_base (State.base_of_kept (State.mgmtAnswer_kept ..)) rfl).trans applied
    · exact State.base_of_kept ((State.mgmtAnswer_kept ..).trans (State.busyEvent_kept ..))

theorem State.openScene_kept (s : State) (old : CSet) (first : Bool) (prev : Nat) : (s.openScene old first prev).kept = s.kept := by
  unfold State.openScene
  extract_lets p now reg moved _ s1 s2 s3 s4 s5 s6 s7 frames taps s8
  have h2 : s2.kept = s1.kept := State.when_kept _ _ _ (fun _ => (State.sendEyes_kept ..).trans (State.startCompose_kept ..))
  have h3 : s3.kept = s2.kept := State.when_kept _ _ _ (fun _ => State.newGeometry_kept ..)
  have h4 : s4.kept = s3.kept := (State.ctxPlan_kept _).trans ((State.endCards_kept ..).trans (State.endReleased_kept ..))
  have h5 : s5.kept = s4.kept := State.when_kept _ _ _ (fun _ => State.holdStart_kept ..)
  have h6 : s6.kept = s5.kept := State.when_kept _ _ _ (fun _ => State.holdEnd_kept ..)
  have h7 : s7.kept = s6.kept := State.when_kept _ _ _ (fun _ => rfl)
  have h8 : s8.kept = s7.kept := State.when_kept _ _ _ (fun _ => State.reserveBufs_kept ..)
  rw [State.towRelease_kept, State.openMoors_kept, h8, h7, h6, h5, h4, h3, h2]
  rfl

theorem State.lockOpen_base (s : State) : s.lockOpen.base = s.base := by
  unfold State.lockOpen
  extract_lets old first prev s1 s2 s3 s4
  have h1 : s1.base = s.base := State.base_of_kept (State.when_kept _ _ _ (fun _ => State.txMark_kept ..))
  have h2 : s2.base = s1.base := State.openLock_base ..
  exact (State.base_of_kept ((State.openUnits_kept ..).trans ((State.openScene_kept ..).trans (State.openReports_kept ..)))).trans (h2.trans h1)

theorem State.decideOpen_base (s : State) (expired : Bool) : (s.decideOpen expired).base = s.base :=
  (State.lockOpen_base _).trans (State.base_of_kept (State.lockDecide_kept ..))

theorem State.reportReceived_base (s : State) (block flip : Nat) : (s.reportReceived block flip).base = s.base := by
  have taken := State.base_of_kept (s.takeReport_kept block flip)
  unfold State.reportReceived
  split
  rename_i s1 done e
  rw [e] at taken
  exact (State.ite_base (State.decideOpen_base ..) rfl).trans taken

theorem State.windowExpiry_base (s : State) : s.windowExpiry.base = s.base := by
  unfold State.windowExpiry
  exact State.ite_base (State.decideOpen_base ..) (State.base_of_kept s.lateMisses_kept)

/-! What the commands themselves add (Machine/Cmd*.lean). -/

theorem State.lzDeliver_kept (s : State) (r : Option LzRec) : (s.lzDeliver r).kept = s.kept := by
  unfold State.lzDeliver
  (repeat' split)
  · rfl
  · exact State.pairDeliver_kept ..
  · exact State.logEncoded_kept ..

theorem State.lzTake_kept (s : State) : s.lzTake.kept = s.kept := (State.lzDeliver_kept ..).trans s.lzStart_kept

theorem State.lzBlock_kept (s : State) (fault : Nat) : (s.lzBlock fault).kept = s.kept := (State.lzDeliver_kept ..).trans (s.lzBlockDone_kept fault)

theorem State.uncorrectableRead_kept (s : State) (a reader item px : Nat) : (s.uncorrectableRead a reader item px).kept = s.kept := by
  unfold State.uncorrectableRead
  extract_lets s1
  refine Eq.trans (b := s1.kept) ?_ (s.uncorrectable_kept a reader item px)
  refine State.ite_kept rfl (State.ite_kept (State.encStop_kept ..) (State.ite_kept ?_ ?_))
  · exact (State.camSweep_kept ..).trans (State.glintAbandon_kept ..)
  · exact State.ite_kept (State.modPair_kept ..) (State.lzBlock_kept ..)

theorem State.readCorrected_kept (s : State) (a : Nat) (errs : List (Nat × Nat)) : (s.readCorrected a errs).kept = s.kept :=
  Eq.trans rfl (s.correctedRead_kept a)

theorem State.gpioSample_kept (s : State) (levels : Nat) : (s.gpioSample levels).kept = s.kept := rfl

theorem State.gpioAccept_kept (s : State) : s.gpioAccept.kept = s.kept := rfl

theorem State.laneHeaders_kept (s : State) (n : Nat) (live : Bool) (hdrs : List Bool) : (s.laneHeaders n live hdrs).kept = s.kept := by
  unfold State.laneHeaders
  exact (State.ite_kept rfl (State.towLock_kept ..)).trans (s.rxHeaders_kept n live hdrs)

theorem State.adaptDone_kept (s : State) (n : Nat) (cands : List Eyes) (eyes : Eyes) (dfe : Int) (ffe : List Int) :
    (s.adaptDone n cands eyes dfe ffe).kept = s.kept := by
  unfold State.adaptDone
  refine State.ite_kept rfl ((State.ite_kept (State.ite_kept ?_ (State.linkDown_kept ..)) rfl).trans (s.adaptRun_kept n cands eyes dfe ffe))
  exact (State.gensFollow_kept _).trans (State.loopFail_kept _)

theorem State.realign_kept (s : State) : s.realign.kept = s.kept := rfl

theorem State.ppsSecond_kept (s : State) : s.ppsSecond.kept = s.kept := by
  unfold State.ppsSecond
  exact State.ite_kept (State.pulse_kept ..) rfl

theorem State.evtPeriodic_kept (s : State) (n : Nat) : (s.evtPeriodic n).kept = s.kept := by
  unfold State.evtPeriodic
  exact State.ite_kept (State.pulse_kept ..) rfl

theorem State.stepFifteen_kept (s : State) (p : Nat) (sent : Bool) : (s.stepFifteen p sent).kept = s.kept := by
  unfold State.stepFifteen
  exact State.ite_kept (State.bootStep_kept ..) rfl

theorem State.launchPointAt_kept (s : State) : s.launchPointAt.kept = s.kept := (State.stepFifteen_kept ..).trans s.launchSlot_kept

theorem State.rowsEndAt_kept (s : State) : s.rowsEndAt.kept = s.kept := (State.stepFifteen_kept ..).trans s.rowsEnd_kept

theorem State.lockChanged_kept (s : State) : s.lockChanged.kept = s.kept := by
  unfold State.lockChanged
  exact (State.ite_kept (State.bootTime_kept _) rfl).trans s.lockChange_kept

/-! What a command keeps follows from what its effect keeps, whatever part takes it (Machine/Live.lean). -/

theorem State.at_base {s : State} {t : Nat} {c : State → Bool} {f : State → State} (h : ∀ s, (f s).base = s.base) :
    (s.at_ t c f).base = (s.tick t).base :=
  State.ite_base (h _) rfl

section
variable {s u : State} {t a : Nat} {f : State → State}

theorem State.live_base (h : ∀ s, (f s).base = s.base) (e : s.live t f = .next u) : u.base = (s.tick t).base := by
  cases e; exact State.at_base h

theorem State.isle_base (h : ∀ s, (f s).base = s.base) (e : s.isle t f = .next u) : u.base = (s.tick t).base := by
  cases e; exact State.at_base h

theorem State.always_base (h : ∀ s, (f s).base = s.base) (e : s.always t f = .next u) : u.base = (s.tick t).base := by
  cases e; exact h _

theorem State.live_base_of_kept (h : ∀ s, (f s).kept = s.kept) : s.live t f = .next u → u.base = (s.tick t).base :=
  State.live_base fun s => State.base_of_kept (h s)

theorem State.isle_base_of_kept (h : ∀ s, (f s).kept = s.kept) : s.isle t f = .next u → u.base = (s.tick t).base :=
  State.isle_base fun s => State.base_of_kept (h s)

theorem State.always_base_of_kept (h : ∀ s, (f s).kept = s.kept) : s.always t f = .next u → u.base = (s.tick t).base :=
  State.always_base fun s => State.base_of_kept (h s)

theorem State.liveAt_base_of_kept (h : ∀ s, (f s).kept = s.kept) (e : s.liveAt t a f = .next u) : u.base = (s.tick t).base := by
  unfold State.liveAt at e
  split at e
  · exact State.live_base_of_kept h e
  · cases e

end

open Safety Claims

/-- The commands that may change the OTP, the straps or the TAP: the commands of the TAP, cold resets, the reset exit (R71, R100) and the end of
an operation of the NVM sequencer (R100). -/
def changesBase : Instr → Bool
  | .porAssert _ | .resetTrip _ _ | .resetExit _ _ _ _ _ | .nvmOpDone _ _ => true
  | c => tapCommand c

/-- A command other than those keeps the base: nothing but the clock moves. -/
theorem exec_base {c : Instr} {s u : State} (other : changesBase c = false) (e : exec c s = .next u) : u.base = (s.tick (instant c)).base := by
  cases c with
  | registerWrite _ sid addr value => exact State.live_base (fun s => s.registerWrite_base sid addr value) e
  | lockClose _ => exact State.live_base State.lockClose_base e
  | levelStage _ block inst => exact State.live_base_of_kept (fun s => s.levelStage_kept block inst) e
  | levelReportReceived _ block crcFlip => exact State.live_base (fun s => s.reportReceived_base block crcFlip) e
  | levelWindowExpiry _ => exact State.live_base State.windowExpiry_base e
  | commitToken _ block inst => exact State.live_base_of_kept (fun s => s.commitToken_kept block inst) e
  | lockCycleEnd _ => exact State.live_base State.cycleEnd_base e
  | forcedUnitReset _ block => exact State.live_base_of_kept (fun s => s.forcedReset_kept block) e
  | unitReload _ block inst => exact State.live_base_of_kept (fun s => s.endReload_kept block inst) e
  | bargeTake _ block inst => exact State.live_base_of_kept (fun s => s.bargeTake_kept block inst) e
  | shadowDiscard _ value => exact State.live_base_of_kept (fun s => s.shadowDiscard_kept value.toNat) e
  | topModeWrite _ value => exact State.live_base (fun s => s.ledgerWrite_base R.TOP_MODE value 0xFFFFFFFF) e
  | gpioSample _ levels => exact State.isle_base_of_kept (fun s => s.gpioSample_kept levels) e
  | gpioAccept _ => exact State.isle_base_of_kept State.gpioAccept_kept e
  | porDeassert _ below => exact State.always_base_of_kept (fun s => s.porDeassert_kept below) e
  | seqCheckRetry _ below => exact State.always_base_of_kept (fun s => s.seqRetry_kept below) e
  | warnTrip _ mon => exact State.isle_base (fun s => s.loading_base _ (fun s => State.base_of_kept (s.warnTrip_kept mon))) e
  | braceEventWindow _ => exact State.live_base_of_kept State.braceEvent_kept e
  | braceEnd _ => exact State.live_base (fun s => s.loading_base _ (fun s => State.base_of_kept (s.braceEnd_kept))) e
  | overvoltTrip _ mon => exact State.isle_base (fun s => s.loading_base _ (fun s => State.base_of_kept (s.overvolt_kept mon))) e
  | pwrResetWarm _ value => exact State.live_base (fun s => s.resetWarm_base value) e
  | flightSlot _ =>
    exact State.live_base (fun s => s.loading_base _ (fun s => State.base_of_kept ((State.selfExitStart_kept _).trans s.flightSlot_kept))) e
  | domainPowerGood _ => exact State.live_base (fun s => s.loading_base _ (fun s => State.base_of_kept (s.powerGood_kept))) e
  | powerGoodTimeout _ => exact State.live_base (fun s => s.loading_base _ (fun s => State.base_of_kept (s.powerTimeout_kept))) e
  | domainDrained _ dom => exact State.live_base (fun s => s.loading_base _ (fun s => State.base_of_kept (s.domainDrained_kept dom))) e
  | domFailClear _ k value => exact State.live_base_of_kept (fun s => s.domFailClear_kept k value) e
  | imageHeaderRead _ dqsFails => exact State.live_base (fun s => s.headerRead_base dqsFails) e
  | imageFirstPassDone _ => exact State.live_base State.firstPass_base e
  | imageSecondPassDone _ sameDigest => exact State.live_base (fun s => s.secondPass_base sameDigest) e
  | bootFreeRunTimeout _ => exact State.live_base_of_kept State.freeRunTimeout_kept e
  | bootFirstCloseSet _ => exact State.live_base State.firstCloseSet_base e
  | updStart _ => exact State.live_base_of_kept (fun s => s.updCmd_kept 1) e
  | updVerify _ => exact State.live_base_of_kept (fun s => s.updCmd_kept 2) e
  | updCommit _ => exact State.live_base_of_kept (fun s => s.updCmd_kept 3) e
  | updAbort _ => exact State.live_base_of_kept (fun s => s.updCmd_kept 4) e
  | updData _ value => exact State.live_base_of_kept (fun s => s.updData_kept value) e
  | updLenWrite _ value => exact State.live_base_of_kept (fun s => s.updLen_kept value 0xFFFFFFFF) e
  | updVerifyDone _ readErr => exact State.live_base_of_kept (fun s => s.verifyDone_kept readErr) e
  | calSave _ value => exact State.live_base_of_kept (fun s => s.calSave_kept value.toNat) e
  | nvmOpTimeout _ =>
    exact State.always_base (fun s => (State.flashFree_base _).trans (s.loading_base _ (fun s => State.base_of_kept s.nvmTimeout_kept))) e
  | eraseSuspended _ => exact State.live_base (fun s => s.loading_base _ (fun s => State.base_of_kept s.nvmSuspended_kept)) e
  | ringFrameRx _ port f => exact State.live_base_of_kept (fun s => s.frameRx_kept port f) e
  | txFrameBoundary _ port => exact State.live_base_of_kept (fun s => State.ite_kept ((State.encSents_kept _).trans (s.txBoundary_kept port)) rfl) e
  | loopbackPass _ =>
    exact State.live_base_of_kept (fun s =>
      State.ite_kept ((State.bootWeir_kept _).trans ((State.gensFollow_kept _).trans s.loopPass_kept)) rfl) e
  | loopbackTimeout _ =>
    exact State.live_base_of_kept (fun s =>
      State.ite_kept ((State.bootWeir_kept _).trans ((State.gensFollow_kept _).trans s.loopFail_kept)) rfl) e
  | weirRetry _ => exact State.live_base_of_kept (fun s => State.ite_kept ((State.gensFollow_kept _).trans s.loopRetry_kept) rfl) e
  | linkUp _ link => exact State.live_base_of_kept (fun s => State.ite_kept (s.linkUp_kept link.port link.train) rfl) e
  | linkDown _ port cause => exact State.live_base_of_kept (fun s => State.ite_kept (s.linkDown_kept port cause) rfl) e
  | pliashPacket _ => exact State.live_base_of_kept State.pliash_kept e
  | parityWaitExpiry _ grp chan k => exact State.live_base_of_kept (fun s => s.parityWait_kept grp chan k) e
  | igmpQuery _ => exact State.live_base_of_kept State.igmpQuery_kept e
  | keyMessage _ => exact State.live_base_of_kept State.keyMessage_kept e
  | ptpAnnounce _ => exact State.live_base_of_kept State.announce_kept e
  | ptpSync _ => exact State.live_base_of_kept State.ptpSync_kept e
  | ptpDelayResp _ => exact State.live_base_of_kept State.delayResp_kept e
  | delayReqTimer _ => exact State.live_base_of_kept State.delayReqTimer_kept e
  | timePortTimeout _ missed => exact State.live_base_of_kept (fun s => s.timePortTimeout_kept missed) e
  | announceTimeout _ => exact State.live_base_of_kept State.announceTimeout_kept e
  | timeLockChange _ => exact State.live_base_of_kept State.lockChanged_kept e
  | ppsSecond _ => exact State.live_base_of_kept State.ppsSecond_kept e
  | timeEvtPeriodic _ n => exact State.live_base_of_kept (fun s => s.evtPeriodic_kept n) e
  | pulseWidthExpiry _ pin => exact State.live_base_of_kept (fun s => s.pulseEnd_kept pin) e
  | timeCapture _ input rising => exact State.live_base_of_kept (fun s => s.capture_kept input rising) e
  | replicaRealign _ => exact State.live_base_of_kept State.realign_kept e
  | launchArm _ => exact State.live_base_of_kept State.launchArm_kept e
  | launchSlot _ => exact State.live_base_of_kept State.launchPointAt_kept e
  | timedEgressDue _ port => exact State.live_base_of_kept (fun s => State.ite_kept (s.egressDue_kept port) rfl) e
  | timedEgressDrop _ port => exact State.live_base_of_kept (fun s => State.ite_kept ((State.encSents_kept _).trans (s.egressDrop_kept port)) rfl) e
  | sceneUnit _ => exact State.live_base_of_kept State.sceneUnit_kept e
  | cmdlistUnit _ => exact State.live_base_of_kept State.cmdlistUnit_kept e
  | mapUnit _ => exact State.live_base_of_kept State.mapUnit_kept e
  | chunkUnit _ => exact State.live_base_of_kept State.chunkUnit_kept e
  | chunkDispatch _ => exact State.live_base_of_kept State.chunkDispatch_kept e
  | chunkDone _ core => exact State.live_base_of_kept (fun s => (State.fitCheck_kept _).trans (s.chunkDone_kept core)) e
  | chunkAbandon _ core => exact State.live_base_of_kept (fun s => s.chunkAbandon_kept core) e
  | loadEstimateDone _ => exact State.live_base_of_kept (fun s => (State.domainsNeed_kept _).trans s.estimate_kept) e
  | blockIssue _ => exact State.live_base_of_kept State.blockIssue_kept e
  | blockDone _ cluster mismatch => exact State.live_base_of_kept (fun s => (State.encTap_kept _).trans (s.blockDone_kept cluster mismatch)) e
  | basinTrainDone _ rs => exact State.live_base_of_kept (fun s => State.ite_kept ((State.bootTrained_kept _).trans (s.trainDone_kept rs)) rfl) e
  | basinTrainRetry _ => exact State.live_base_of_kept State.trainRetry_kept e
  | basinEyeTrack _ moves => exact State.live_base_of_kept (fun s => s.eyeTrack_kept moves) e
  | basinRefresh _ stack => exact State.live_base_of_kept (fun s => s.refresh_kept stack) e
  | selfRefreshEnter _ => exact State.live_base_of_kept State.selfEnter_kept e
  | selfRefreshExitDone _ rs => exact State.live_base_of_kept (fun s => s.selfExitDone_kept rs) e
  | scrubGranule _ errs => exact State.live_base_of_kept (fun s => s.scrub_kept errs) e
  | basinCorrectedRead _ _ =>
    exact State.liveAt_base_of_kept (fun s => (State.ite_kept (State.readCorrected_kept ..) rfl).trans (s.countRead_kept ..)) e
  | basinUncorrectableRead _ _ _ _ _ =>
    exact State.liveAt_base_of_kept (fun s => (State.ite_kept (State.uncorrectableRead_kept ..) rfl).trans (s.countRead_kept ..)) e
  | basinFlushDone _ source => exact State.live_base_of_kept (fun s => s.flushDone_kept source) e
  | quarClear _ value => exact State.live_base_of_kept (fun s => s.quarClear_kept value.toNat) e
  | tugUpdateStart _ => exact State.live_base_of_kept State.tugStart_kept e
  | tugUpdateDone _ n abort => exact State.live_base_of_kept (fun s => s.tugDone_kept n abort) e
  | scanUnderrun _ lane => exact State.live_base_of_kept (fun s => s.scanUnderrun_kept lane) e
  | frameEndCode _ => exact State.live_base_of_kept State.frameEndCode_kept e
  | scanCheckDone _ n => exact State.live_base_of_kept (fun s => s.checkDone_kept n) e
  | ownSample _ level sides => exact State.live_base_of_kept (fun s => s.ownSample_kept level sides) e
  | ownInAsserted _ => exact State.live_base_of_kept State.ownInAsserted_kept e
  | blockLockAcquired _ hd => exact State.live_base_of_kept (fun s => s.laneHeaders_kept hd.lane true hd.heads) e
  | blockLockLost _ n hdrs => exact State.live_base_of_kept (fun s => s.laneHeaders_kept n false hdrs) e
  | rxAdaptDone _ n cands eyes taps => exact State.live_base_of_kept (fun s => s.adaptDone_kept n cands eyes taps.dfe taps.ffe) e
  | fomMonitor _ n eyes => exact State.live_base_of_kept (fun s => s.fomMonitor_kept n eyes) e
  | sidebandPoll _ reads accepts => exact State.live_base_of_kept (fun s => s.sidebandPoll_kept reads accepts) e
  | bcRequestApply _ => exact State.live_base_of_kept State.bcApply_kept e
  | bcTrainTimeout _ => exact State.live_base_of_kept State.trainTimeout_kept e
  | monCfgWrite _ value => exact State.live_base (fun s => s.ledgerWrite_base R.LANE_MON_CFG value 0xFFFFFFFF) e
  | monEyeScan _ => exact State.live_base_of_kept State.monScan_kept e
  | monScanDone _ eyes => exact State.live_base_of_kept (fun s => s.monScanDone_kept eyes) e
  | prbsSyncChange _ n blocks bits symbols => exact State.live_base_of_kept (fun s => s.prbsTake_kept n blocks bits symbols) e
  | errorInject _ n value => exact State.live_base_of_kept (fun s => s.inject_kept n value.toNat) e
  | panelSeqStep _ => exact State.always_base (fun s => s.loading_base _ (fun s => State.base_of_kept s.panelStep_kept)) e
  | pgoodAssert _ ident status => exact State.live_base_of_kept (fun s => s.pgoodAssert_kept ident status) e
  | pgoodTimeout _ => exact State.live_base_of_kept State.pgoodTimeout_kept e
  | pgoodLost _ => exact State.live_base_of_kept State.pgoodLost_kept e
  | dischargeEnd _ => exact State.always_base (fun s => s.loading_base _ (fun s => State.base_of_kept s.dischargeEnd_kept)) e
  | panelRetryWait _ => exact State.live_base (fun s => s.loading_base _ (fun s => State.base_of_kept s.panelRetry_kept)) e
  | vrefPoint _ k => exact State.live_base_of_kept (fun s => s.vrefPoint_kept k) e
  | vinTrip _ => exact State.always_base (fun s => s.loading_base _ (fun s => State.base_of_kept s.vinTrip_kept)) e
  | crackLatch _ => exact State.isle_base (fun s => s.loading_base _ (fun s => State.base_of_kept s.crackLatch_kept)) e
  | crackClear _ value => exact State.live_base_of_kept (fun s => s.crackClear_kept value.toNat) e
  | csiFrameStart _ port hdr lost => exact State.live_base_of_kept (fun s => s.csiStart_kept port hdr lost) e
  | csiLine _ port hdr lost data crc0 crc1 => exact State.live_base_of_kept (fun s => s.csiLine_kept port hdr lost data (le [crc0, crc1])) e
  | csiFrameEnd _ port hdr lost => exact State.live_base_of_kept (fun s => s.csiEnd_kept port hdr lost) e
  | pipeLineTake _ port => exact State.live_base_of_kept (fun s => s.lineTake_kept port) e
  | camSensorStart _ n => exact State.live_base_of_kept (fun s => s.sensorStart_kept n) e
  | cciWriteDone _ port ack => exact State.live_base_of_kept (fun s => s.cciDone_kept port ack) e
  | cciDelayExpiry _ n => exact State.live_base_of_kept (fun s => s.cciDelay_kept n) e
  | fsyncPulse _ m p => exact State.live_base_of_kept (fun s => s.fsync_kept m p) e
  | strobePulse _ => exact State.live_base_of_kept State.strobePulse_kept e
  | glintPair _ p => exact State.live_base_of_kept (fun s => s.glintPair_kept p) e
  | encPictureStart _ => exact State.live_base_of_kept State.encStart_kept e
  | encRowDone _ => exact State.live_base_of_kept State.encRow_kept e
  | encIdr _ stream value => exact State.live_base_of_kept (fun s => s.encIdr_kept stream value.toNat) e
  | hbTick _ => exact State.live_base_of_kept State.hbTick_kept e
  | hbLost _ => exact State.live_base_of_kept State.hbLost_kept e
  | towHb _ m => exact State.live_base (fun s => s.towHb_base m) e
  | towSeal _ m => exact State.live_base_of_kept (fun s => s.towSeal_kept m) e
  | deltaEyes _ m => exact State.live_base_of_kept (fun s => s.deltaIn_kept 1 m) e
  | deltaRung _ m => exact State.live_base_of_kept (fun s => s.deltaIn_kept 2 m) e
  | deltaSnapshot _ m => exact State.live_base_of_kept (fun s => s.deltaIn_kept 3 m) e
  | deltaSurface _ m => exact State.live_base_of_kept (fun s => s.deltaIn_kept 4 m) e
  | repairWant _ m => exact State.live_base_of_kept (fun s => s.repairWant_kept m) e
  | repairHave _ m => exact State.live_base_of_kept (fun s => s.repairHave_kept m) e
  | repairNone _ m => exact State.live_base_of_kept (fun s => s.repairNone_kept m) e
  | repairWaitExpiry _ grp chan k => exact State.live_base_of_kept (fun s => s.repairExpiry_kept grp chan k) e
  | towMsgLost _ mseq => exact State.live_base_of_kept (fun s => s.msgLost_kept mseq) e
  | towTake _ m => exact State.live_base_of_kept (fun s => s.towTake_kept m) e
  | towYield _ m => exact State.live_base_of_kept (fun s => s.towYield_kept m) e
  | partnerFault _ => exact State.live_base_of_kept State.partnerFault_kept e
  | towCmdTake _ value => exact State.live_base_of_kept (fun s => s.cmdTake_kept value.toNat) e
  | towCmdYield _ value => exact State.live_base_of_kept (fun s => s.cmdYield_kept value.toNat) e
  | joinWaitTimeout _ => exact State.live_base State.joinTimeout_base e
  | lzJobStart _ => exact State.live_base_of_kept State.lzTake_kept e
  | lzBlockDone _ fault => exact State.live_base_of_kept (fun s => s.lzBlock_kept fault) e
  | hkSlot _ slot v => exact State.isle_base (fun s => s.loading_base _ (fun s => State.base_of_kept (s.hkSlot_kept slot v))) e
  | hkEvaluation _ status => exact State.isle_base (fun s => s.loading_base _ (fun s => s.hkEvaluate_base status)) e
  | sensorFail _ sensor => exact State.isle_base (fun s => s.loading_base _ (fun s => State.base_of_kept (s.sensorFail_kept sensor))) e
  | sensorRestore _ sensor => exact State.isle_base (fun s => s.loading_base _ (fun s => State.base_of_kept (s.sensorRestore_kept sensor))) e
  | noraiseEnd _ => exact State.isle_base_of_kept State.noraiseEnd_kept e
  | thermalResetExit _ => exact State.always_base_of_kept State.thermalExit_kept e
  | mgmtSession _ => exact State.live_base_of_kept (fun s => s.mgmtTake_kept 1 _ State.sessionReq_kept) e
  | mgmtRead _ => exact State.live_base_of_kept (fun s => s.mgmtTake_kept 2 _ State.readReq_kept) e
  | mgmtWrite _ => exact State.live_base (fun s => s.mgmtTake_base 3 _ State.writeReq_base) e
  | mgmtSubscribe _ => exact State.live_base_of_kept (fun s => s.mgmtTake_kept 4 _ State.subscribeReq_kept) e
  | mgmtLog _ => exact State.live_base_of_kept State.mgmtLog_kept e
  | eventsSend _ slot => exact State.live_base_of_kept (fun s => s.eventsSend_kept slot) e
  | sessionIdleExpiry _ slot => exact State.live_base_of_kept (fun s => s.sessionExpire_kept slot) e
  | eventAccept _ => exact State.live_base_of_kept State.eventAccept_kept e
  | alertResponse _ => exact State.isle_base_of_kept State.alertResponse_kept e
  | i2cPointerWrite _ data => exact State.isle_base_of_kept (fun s => s.i2cPointerWrite_kept data) e
  | i2cRead _ count => exact State.isle_base (fun s => s.loading_base _ (fun s => State.base_of_kept (s.i2cRead_kept count))) e
  | logFlush _ => exact State.live_base_of_kept State.logFlush_kept e
  | monitorRecovery _ => exact State.always_base_of_kept State.monitorRecovery_kept e
  | pairHbInEdge _ => exact State.live_base_of_kept State.hbEdge_kept e
  | frameRowsEnd _ => exact State.live_base_of_kept State.rowsEndAt_kept e
  | unframedOutputIdle _ => exact State.live_base_of_kept State.unframedIdle_kept e
  | porAssert _ | resetExit _ _ _ _ _ | resetTrip _ _ | trstAssert _ | nvmOpDone _ _ | jtagBypass _ | jtagIdcode _ | jtagSamplePreload _ _ _
  | jtagExtest _ _ | jtagExtestPulse _ _ | jtagExtestTrain _ _ | jtagClamp _ | jtagHighz _ | trstDeassert _ => cases other

/-! The queue and the clock, which the remaining commands leave too. -/

/-- The clock's instant and the queue. -/
def State.front (s : State) : Nat × List Instr := (s.clk.now, s.pending)

theorem State.front_of_base {s t : State} (h : s.base = t.base) : s.front = t.front := congrArg (fun b => (b.now, b.pending)) h

/-- What the reset of the TAP, a bit of the OTP and the latched straps leave of the base. -/
theorem State.front_of_base_with {s t : State} {o : Otp} {st : Straps} {j : JtagSt}
    (h : s.base = { t.base with otp := o, straps := st, jtag := j }) : s.front = t.front := congrArg (fun b => (b.now, b.pending)) h

theorem State.loading_front (s : State) (f : State → State) (h : ∀ s, (f s).front = s.front) : (s.loading f).front = s.front :=
  (State.front_of_base (State.recordsRun_base _)).trans ((h _).trans (State.front_of_base s.recordsRun_base))

theorem State.nvmDone_front (s : State) (same : Bool) : (s.nvmDone same).front = s.front := by
  obtain ⟨o, -, h⟩ := s.nvmDone_kept same
  exact State.front_of_base_with (congrArg Kept.base h)

theorem State.resetTrip_front (s : State) (mon : Nat) : (s.resetTrip mon).front = s.front :=
  (s.resetTrip_base mon).elim State.front_of_base State.front_of_base_with

theorem State.resetExit_front (s : State) (st : Straps) (otp : Option Otp) (size : Nat) (patches : List (Nat × List Byte)) :
    (s.resetExit st otp size patches).front = s.front := by
  by_cases due : s.pwr.phase = .exitDue
  · exact State.front_of_base_with (s.resetExit_base_due st otp size patches due)
  · rw [s.resetExit_notDue st otp size patches due]

theorem State.jtagTest_front (s : State) (ir : JtagIr) (dr : List Bool) : (s.jtagTest ir dr).front = s.front := by
  unfold State.jtagTest
  (repeat' split) <;> rfl

theorem State.jtagBypass_front (s : State) : s.jtagBypass.front = s.front := by
  unfold State.jtagBypass
  split <;> rfl

theorem State.jtagIdcode_front (s : State) : s.jtagIdcode.front = s.front := by
  unfold State.jtagIdcode
  split <;> rfl

theorem State.jtagSample_front (s : State) (pins preload : List Bool) : (s.jtagSample pins preload).front = s.front := by
  unfold State.jtagSample
  split <;> rfl

theorem State.always_front {s u : State} {t : Nat} {f : State → State} (h : ∀ s, (f s).front = s.front) (e : s.always t f = .next u) :
    u.front = (s.tick t).front := by
  cases e; exact h _

/-- Every command leaves the queue and moves the clock to its instant. -/
theorem exec_front {c : Instr} {s u : State} (e : exec c s = .next u) : u.front = (s.tick (instant c)).front := by
  cases other : changesBase c with
  | false => exact State.front_of_base (exec_base other e)
  | true =>
    cases c with
    | porAssert t => exact State.always_front (fun s => State.front_of_base_with s.porAssert_base) e
    | resetTrip t mon => exact State.always_front (fun s => s.resetTrip_front mon) e
    | resetExit t straps otp flashSize flash => exact State.always_front (fun s => s.resetExit_front straps otp flashSize flash) e
    | nvmOpDone t same =>
      exact State.always_front (fun s => (State.front_of_base (State.flashFree_base _)).trans (s.loading_front _ (fun s => s.nvmDone_front same))) e
    | trstAssert t => exact State.always_front (f := State.trstAssert) (fun _ => rfl) e
    | trstDeassert t => exact State.always_front (f := State.trstDeassert) (fun _ => rfl) e
    | jtagBypass t => exact State.always_front State.jtagBypass_front e
    | jtagIdcode t => exact State.always_front State.jtagIdcode_front e
    | jtagSamplePreload t pins preload => exact State.always_front (fun s => s.jtagSample_front pins preload) e
    | jtagExtest t pins => exact State.always_front (fun s => s.jtagTest_front .extest pins) e
    | jtagExtestPulse t pins => exact State.always_front (fun s => s.jtagTest_front .extestPulse pins) e
    | jtagExtestTrain t pins => exact State.always_front (fun s => s.jtagTest_front .extestTrain pins) e
    | jtagClamp t => exact State.always_front (fun s => s.jtagTest_front .clamp [false]) e
    | jtagHighz t => exact State.always_front (fun s => s.jtagTest_front .highz [false]) e
    | _ => cases other

/-! When a command acts, and where the access codes lead a management write. -/

/-- A command of the running device acts at its instant. -/
theorem State.live_alive {s : State} (t : Nat) (f : State → State) (h : s.alive = true) : s.live t f = .next (f (s.tick t)) := by
  unfold State.live State.at_
  exact congrArg _ (if_pos h)

theorem exec_registerWrite {s : State} (t sid a : Nat) (v : Word) (h : s.alive = true) :
    exec (.registerWrite t sid a v) s = .next ((s.tick t).registerWrite sid a v) :=
  State.live_alive t (fun s => s.registerWrite sid a v) h

theorem exec_topModeWrite {s : State} (t : Nat) (v : Word) (h : s.alive = true) :
    exec (.topModeWrite t v) s = .next ((s.tick t).ledgerWrite R.TOP_MODE v 0xFFFFFFFF) :=
  State.live_alive t (fun s => s.ledgerWrite R.TOP_MODE v 0xFFFFFFFF) h

theorem exec_shadowDiscard {s : State} (t : Nat) (v : Word) (h : s.alive = true) :
    exec (.shadowDiscard t v) s = .next ((s.tick t).shadowDiscard v.toNat) :=
  State.live_alive t (fun s => s.shadowDiscard v.toNat) h

section
variable {s : State} {sid a mask : Nat} {v : Word}

theorem State.registerWrite_noReg (h : hasReg a = false) : s.registerWrite sid a v = s := by
  unfold State.registerWrite
  rw [h]
  rfl

theorem State.registerWrite_unlisted (h : hasReg a = true) (hm : s.img.manifestMask a = none) :
    s.registerWrite sid a v = s.raise 0x022 bTOP a sid := by
  unfold State.registerWrite
  rw [h, hm]
  rfl

theorem State.registerWrite_listed (h : hasReg a = true) (hm : s.img.manifestMask a = some mask) :
    s.registerWrite sid a v = s.ledgerWrite a v mask := by
  unfold State.registerWrite
  rw [h, hm]
  rfl

/-- The RWS bits are the second of the access masks. -/
theorem rwsMask_eq (a : Nat) : rwsMask a = (accessMasks a).2.1 := by
  cases row : rowOf a with
  | none => simp only [rwsMask, accessMasks, row]
  | some r => simp only [rwsMask, accessMasks, row]

theorem State.ledgerWrite_busy {e : Nat × Nat × Nat} (h : s.writeBusy a v mask = some e) : s.ledgerWrite a v mask = s.busyEvent e := by
  unfold State.ledgerWrite
  rw [h]

theorem State.ledgerWrite_ro (h : s.writeBusy a v mask = none) (hm : accessMasks a = (0, 0, 0, 0)) : s.ledgerWrite a v mask = s := by
  unfold State.ledgerWrite
  rw [h, hm]
  rfl

theorem State.ledgerWrite_rws {rws : Nat} (h : s.writeBusy a v mask = none) (hm : accessMasks a = (0, rws, 0, 0)) (hr : rws ≠ 0) :
    s.ledgerWrite a v mask = s.rwsWrite a v mask := by
  unfold State.ledgerWrite
  rw [h, hm]
  exact if_neg hr

theorem State.ledgerWrite_w1c {w1c : Nat} (h : s.writeBusy a v mask = none) (hm : accessMasks a = (0, 0, w1c, 0)) (hw : w1c ≠ 0) :
    s.ledgerWrite a v mask = s.w1cWrite a (v &&& BitVec.ofNat 32 mask &&& BitVec.ofNat 32 w1c) := by
  unfold State.ledgerWrite
  rw [h, hm]
  exact if_neg hw

theorem State.rwsWrite_idle (h : s.lock.phase = .idle) : s.rwsWrite a v mask = s.shadowWrite a v mask := if_pos h

theorem State.rwsWrite_held (h : s.lock.phase ≠ .idle) :
    s.rwsWrite a v mask = { s with lock := { s.lock with holdQ := s.lock.holdQ ++ [{ addr := a, value := v, mask := mask }] } } := if_neg h

theorem State.shadowWrite_mode : s.shadowWrite R.TOP_MODE v mask = s.modeWrite v mask := if_pos rfl

theorem State.shadowWrite_other (h : a ≠ R.TOP_MODE) : s.shadowWrite a v mask =
    { s with led := { s.led with shadow := s.led.shadow.setWord a (maskedWord (s.led.shadow.word a) v (mask &&& rwsMask a)) } } := if_neg h

theorem State.w1cWrite_other (h : ¬ (R.PWR_DOM_FAIL 0 ≤ a ∧ a ≤ R.PWR_DOM_FAIL 4)) :
    s.w1cWrite a v = s.wrW a (s.led.live.word a &&& ~~~v) := if_neg h

theorem State.shadowDiscard_eq (n : Nat) : s.shadowDiscard n =
    if bitAt n 0 = false then s
    else if s.lock.phase = .idle then { s with led := { s.led with shadow := s.cset.regs } }
    else { s with lock := { s.lock with discardReq := true } } := by
  unfold State.shadowDiscard
  cases bitAt n 0 <;> rfl

end

/-! TOP_MODE (R54). -/

theorem accessMasks_topMode : accessMasks R.TOP_MODE = (0, 0xFF, 0, 0) := rfl

/-- A write of TOP_MODE is held back by a full hold queue alone (R40). -/
theorem State.writeBusy_topMode (s : State) (v : Word) (mask : Nat) : s.writeBusy R.TOP_MODE v mask =
    if s.lock.phase ≠ .idle ∧ 64 ≤ s.lock.holdQ.length then some (0x007, R.TOP_MODE, s.lock.pound) else none := by
  unfold State.writeBusy
  rw [rwsMask_eq, accessMasks_topMode]
  by_cases full : s.lock.phase ≠ .idle ∧ 64 ≤ s.lock.holdQ.length
  · rw [if_pos full, if_pos ⟨by decide, full⟩]
    rfl
  · rw [if_neg full, if_neg (fun h => full h.2), if_neg (fun h => absurd h.1 (by decide)), if_neg (fun h => absurd h.1 (by decide))]

theorem bitAt_eq_testBit (x i : Nat) : bitAt x i = x.testBit i := by
  unfold bitAt
  rw [Nat.testBit_eq_decide_div_mod_eq, Nat.shiftRight_eq_div_pow]
  rfl

theorem maskedWord_getLsbD (old v : Word) (mask n : Nat) (h : n < 32) :
    (maskedWord old v mask).getLsbD n = if mask.testBit n then v.getLsbD n else old.getLsbD n := by
  simp only [maskedWord, BitVec.getLsbD_or, BitVec.getLsbD_and, BitVec.getLsbD_not, BitVec.getLsbD_ofNat, h]
  cases mask.testBit n <;> simp

/-- The flags that a write of TOP_MODE changes: those that it would and the management source may. -/
def State.modeAct (s : State) (v : Word) : Nat :=
  ((s.led.shadow.word R.TOP_MODE).toNat ^^^ (maskedWord (s.led.shadow.word R.TOP_MODE) v 0xFF).toNat) &&& 0xFF &&& s.srcMask F.TOP_MODE_SRC_MGMT

theorem State.modeAct_testBit (s : State) (v : Word) (n : Nat) (h : n < 8) : (s.modeAct v).testBit n =
    (((s.led.shadow.word R.TOP_MODE).getLsbD n ^^ v.getLsbD n) && bitAt (s.srcMask F.TOP_MODE_SRC_MGMT) n) := by
  have low : Nat.testBit 0xFF n = true := by interval_cases n <;> rfl
  rw [State.modeAct, Nat.testBit_and, Nat.testBit_and, Nat.testBit_xor, BitVec.testBit_toNat, BitVec.testBit_toNat,
    maskedWord_getLsbD _ _ _ _ (by omega), low, bitAt_eq_testBit]
  simp

/-- The shadow mode with those flags changed. -/
def State.modeWord (s : State) (v : Word) : Word := BitVec.ofNat 32 ((s.led.shadow.word R.TOP_MODE).toNat ^^^ s.modeAct v)

theorem State.modeWord_getLsbD (s : State) (v : Word) (n : Nat) (h : n < 8) : (s.modeWord v).getLsbD n =
    if bitAt (s.srcMask F.TOP_MODE_SRC_MGMT) n then v.getLsbD n else (s.led.shadow.word R.TOP_MODE).getLsbD n := by
  rw [State.modeWord, BitVec.getLsbD_ofNat, Nat.testBit_xor, BitVec.testBit_toNat, s.modeAct_testBit v n h, decide_eq_true (show n < 32 by omega)]
  cases bitAt (s.srcMask F.TOP_MODE_SRC_MGMT) n <;> simp

/-- The marks of the flags touched, with those flags added. -/
theorem State.touched_getLsbD (s : State) (v : Word) (n : Nat) (h : n < 8) :
    (s.lock.touched ||| BitVec.ofNat 8 (s.modeAct v)).getLsbD n = (s.lock.touched.getLsbD n ||
      (bitAt (s.srcMask F.TOP_MODE_SRC_MGMT) n && v.getLsbD n != (s.led.shadow.word R.TOP_MODE).getLsbD n)) := by
  rw [BitVec.getLsbD_or, BitVec.getLsbD_ofNat, s.modeAct_testBit v n h, decide_eq_true h, Bool.true_and, Bool.and_comm, Bool.xor_comm]

/-- What a management write of TOP_MODE makes of the state, but for the event of the flags it may not change. -/
def State.modeTaken (s : State) (v : Word) : State :=
  { s with led := { s.led with shadow := s.led.shadow.setWord R.TOP_MODE (s.modeWord v) },
           lock := { s.lock with touched := s.lock.touched ||| BitVec.ofNat 8 (s.modeAct v),
                                 originTent := setOrigin s.lock.originTent (s.modeAct v) 3 } }

theorem State.modeWrite_eq (s : State) (v : Word) : ∃ e, s.modeWrite v 0xFFFFFFFF = { s.modeTaken v with evt := e } := by
  unfold State.modeWrite
  extract_lets old want diff allow kept act _ _ s1
  by_cases h : kept = 0
  · exact ⟨s1.evt, (if_pos h).trans rfl⟩
  · exact ⟨(s1.raise 0x00B bTOP 3 kept).evt, (if_neg h).trans rfl⟩

end Sys2Proof.Machine

namespace Sys2Proof.Proofs

open Machine Safety

/-- Settles O54: no effect of a command reaches the queue or the instant (`exec_front`), and the tick moves the instant forward only. -/
theorem queueAndClock : Obligations.QueueAndClock := by
  intro c s u e
  obtain ⟨now, queue⟩ := Prod.mk.inj (exec_front e)
  exact ⟨queue, now.trans (s.tick_now _)⟩

/-- A part of `ledgerWrites`: the access masks of the register say which operation the write is. -/
theorem registerWriteByAccessCode : Claims.RegisterWriteByAccessCode := by
  intro s t sid a v alive
  rw [exec_registerWrite t sid a v alive]
  refine ⟨fun h => ?_, fun h hm => ?_, fun mask h hm busy => ?_⟩
  · rw [State.registerWrite_noReg (s := s.tick t) h]
  · rw [State.registerWrite_unlisted (s := s.tick t) h hm]
  rw [State.registerWrite_listed (s := s.tick t) h hm]
  refine ⟨fun ha => ?_, fun rws ha hr mode => ?_, fun w1c ha hw notFail => ?_⟩
  · rw [State.ledgerWrite_ro busy ha]
  · rw [State.ledgerWrite_rws busy ha hr]
    split
    · rename_i idle
      rw [State.rwsWrite_idle (s := s.tick t) idle, State.shadowWrite_other mode, rwsMask_eq, ha]
      rfl
    · rename_i held
      rw [State.rwsWrite_held (s := s.tick t) held]
      rfl
  · rw [State.ledgerWrite_w1c busy ha hw, State.w1cWrite_other notFail]
    rfl

/-- A part of `ledgerWrites`: a write of TOP_MODE meets the hold queue or the shadow mode (`State.modeWrite_eq`), a discard the shadow set. -/
theorem modeAndDiscardWrites : Claims.ModeAndDiscardWrites := by
  intro s t v alive
  rw [exec_topModeWrite t v alive, exec_shadowDiscard t v alive, State.shadowDiscard_eq]
  have busy := (s.tick t).writeBusy_topMode v 0xFFFFFFFF
  refine ⟨fun idle => ?_, fun held room => ?_, fun held full => ?_, ?_⟩
  · rw [if_neg (fun h => absurd idle h.1)] at busy
    obtain ⟨e, taken⟩ := (s.tick t).modeWrite_eq v
    rw [State.ledgerWrite_rws busy accessMasks_topMode (by decide), State.rwsWrite_idle (s := s.tick t) idle, State.shadowWrite_mode, taken]
    refine ⟨_, rfl, rfl, fun a other => RegFile.word_setWord_other _ _ other, fun n hn => ?_, fun n hn => ?_⟩
    · exact (congrArg (BitVec.getLsbD · n) (RegFile.word_setWord ..)).trans ((s.tick t).modeWord_getLsbD v n hn)
    · exact (s.tick t).touched_getLsbD v n hn
  · rw [if_neg (fun h => absurd h.2 (Nat.not_le.mpr room))] at busy
    rw [State.ledgerWrite_rws busy accessMasks_topMode (by decide), State.rwsWrite_held (s := s.tick t) held]
    rfl
  · rw [if_pos ⟨held, full⟩] at busy
    rw [State.ledgerWrite_busy busy]
    rfl
  · rfl

/-- Settles O1. -/
theorem ledgerWrites : Obligations.LedgerWrites := ⟨registerWriteByAccessCode, modeAndDiscardWrites⟩

/-- Settles O51: the state after a power-on reset is a literal whose register files list no word. -/
theorem resetState : Obligations.ResetState :=
  ⟨fun _ => ⟨rfl, rfl, rfl⟩, rfl, rfl, rfl, rfl, rfl, rfl, rfl, rfl, rfl, rfl, rfl, rfl, rfl⟩

end Sys2Proof.Proofs

/-! Which commands complete: all of them but a Basin error report of an address beyond the Basin (R28, R260, R271). -/

namespace Sys2Proof.Machine

section
variable {t a : Nat} {f : State → State}

theorem State.liveAt_inside (s : State) (h : a < basinSize) : s.liveAt t a f = s.live t f := if_pos h

theorem State.liveAt_beyond (s : State) (h : basinSize ≤ a) : s.liveAt t a f = .fault (.noSuchAddress a) := if_neg (Nat.not_lt.mpr h)

/-- A command that names a Basin address has a next state, or the address lies beyond the Basin. -/
theorem State.liveAt_outcome (s : State) (t a : Nat) (f : State → State) :
    (∃ u, s.liveAt t a f = .next u) ∨ (basinSize ≤ a ∧ s.liveAt t a f = .fault (.noSuchAddress a)) := by
  by_cases h : a < basinSize
  · exact .inl ⟨_, s.liveAt_inside h⟩
  · exact .inr ⟨Nat.not_lt.mp h, s.liveAt_beyond (Nat.not_lt.mp h)⟩

end

/-- The command is a Basin error report of address `a`. -/
def ReportsBasin (c : Instr) (a : Nat) : Prop :=
  (∃ t e y o, c = .basinCorrectedRead t ⟨a, e, y, o⟩) ∨ ∃ t r i p e y o, c = .basinUncorrectableRead t ⟨a, e, y, o⟩ r i p

/-- Every command has a next state, but a Basin error report of an address beyond the Basin, which is the fault of that address: only these two go
through `State.liveAt`. -/
theorem exec_outcome (c : Instr) (s : State) :
    (∃ u, exec c s = .next u) ∨ ∃ a, ReportsBasin c a ∧ basinSize ≤ a ∧ exec c s = .fault (.noSuchAddress a) := by
  cases c with
  | basinCorrectedRead t r => exact (s.liveAt_outcome t r.addr _).imp_right fun h => ⟨r.addr, .inl ⟨_, _, _, _, rfl⟩, h⟩
  | basinUncorrectableRead t r reader item px =>
    exact (s.liveAt_outcome t r.addr _).imp_right fun h => ⟨r.addr, .inr ⟨_, _, _, _, _, _, _, rfl⟩, h⟩
  | _ => exact .inl ⟨_, rfl⟩

/-- The address of a well-formed Basin error report lies inside the 96 GB of R28. -/
theorem basinAddr_lt_of_wellFormed {c : Instr} {a : Nat} (h : WellFormed.command c = true) (names : ReportsBasin c a) : a < basinSize := by
  rcases names with ⟨t, e, y, o, rfl⟩ | ⟨t, r, i, p, e, y, o, rfl⟩ <;>
    simp only [WellFormed.command, WellFormed.basinOk, Bool.and_eq_true, decide_eq_true_eq] at h
  · exact h.1
  · exact h.1.1

end Sys2Proof.Machine

namespace Sys2Proof.Proofs

open Machine

/-- Settles O60: `exec_outcome` says how a command can end, and a well-formed one names no address beyond the Basin. -/
theorem everyCommandCompletes : Obligations.EveryCommandCompletes := by
  intro c s
  rcases exec_outcome c s with ⟨u, done⟩ | ⟨a, names, beyond, stops⟩
  · rw [done]
    exact ⟨fun _ => ⟨u, rfl⟩, nofun, nofun⟩
  · rw [stops]
    refine ⟨fun wf => ?_, fun g e => ?_, nofun⟩
    · exact absurd (basinAddr_lt_of_wellFormed wf names) (Nat.not_lt.mpr beyond)
    · cases e
      exact ⟨a, beyond, rfl, names⟩

end Sys2Proof.Proofs

/-! Errors of the Basin (R258 to R260, R271, R272): what a read counts, the write-back of a corrected granule, the record of an uncorrectable one. -/

namespace Sys2Proof.Machine

/-! The commands at their instant. -/

section
variable {s : State} (t : Nat) {r : BasinRead}

theorem exec_basinCorrectedRead_beyond (h : basinSize ≤ r.addr) : exec (.basinCorrectedRead t r) s = .fault (.noSuchAddress r.addr) :=
  s.liveAt_beyond h

theorem exec_basinUncorrectableRead_beyond (reader item px : Nat) (h : basinSize ≤ r.addr) :
    exec (.basinUncorrectableRead t r reader item px) s = .fault (.noSuchAddress r.addr) :=
  s.liveAt_beyond h

variable (alive : s.alive = true) (inside : r.addr < basinSize)
include alive inside

theorem exec_basinCorrectedRead : exec (.basinCorrectedRead t r) s = .next
    (let u := (s.tick t).countRead r.addr r.retry r.onDie; if (eccOutcome r.errs).1 = 1 then u.readCorrected r.addr r.errs else u) :=
  (s.liveAt_inside inside).trans (State.live_alive t _ alive)

theorem exec_basinUncorrectableRead (reader item px : Nat) : exec (.basinUncorrectableRead t r reader item px) s = .next
    (let u := (s.tick t).countRead r.addr r.retry r.onDie; if (eccOutcome r.errs).1 = 2 then u.uncorrectableRead r.addr reader item px else u) :=
  (s.liveAt_inside inside).trans (State.live_alive t _ alive)

end

theorem exec_quarClear {s : State} (t : Nat) (v : Word) (h : s.alive = true) : exec (.quarClear t v) s = .next ((s.tick t).quarClear v.toNat) :=
  State.live_alive t (fun s => s.quarClear v.toNat) h

/-! What a read counts, and a corrected one. -/

theorem getElem?_modAt {α : Type} (f : α → α) : ∀ (l : List α) (i : Nat), (modAt l i f)[i]? = l[i]?.map f
  | [], _ => rfl
  | _ :: _, 0 => rfl
  | _ :: r, i + 1 => getElem?_modAt f r i

/-- A saturating counter of a field below its largest value counts. -/
theorem State.rd_inc (s : State) (f : Fld) (h : f.lo ≤ f.hi + 1) (h' : f.hi < 32) (room : s.rd f < f.max) : (s.inc f).rd f = s.rd f + 1 := by
  have fits : s.rd f + 1 < 2 ^ (f.hi + 1 - f.lo) := by unfold Fld.max at room; omega
  have counted : satN f.max (s.rd f + 1) = s.rd f + 1 := if_neg (Nat.not_lt.mpr room)
  unfold State.inc State.add
  rw [counted, s.rd_wr f _ h h', Nat.mod_eq_of_lt fits]

theorem BasinSt.writeBack_eq (b : BasinSt) (a i : Nat) (errs : List (Nat × Nat)) :
    b.writeBack a i errs = { b with mem := (b.writeBack a i errs).mem } := by
  unfold BasinSt.writeBack
  dsimp only
  split <;> rfl

/-- What is written back depends on the contents alone. -/
theorem BasinSt.writeBack_mem_congr {b c : BasinSt} (h : b.mem = c.mem) (a i : Nat) (errs : List (Nat × Nat)) :
    (b.writeBack a i errs).mem = (c.writeBack a i errs).mem := by
  unfold BasinSt.writeBack BasinSt.write BasinSt.read
  dsimp only
  split
  · exact h
  · rw [h]

theorem BasinSt.writeBack_exact (b : BasinSt) (a i : Nat) {errs : List (Nat × Nat)} (h : (miscorrection errs i).all (· == 0) = true) :
    b.writeBack a i errs = b := if_pos h

theorem State.readCorrected_basin (s : State) (a : Nat) (errs : List (Nat × Nat)) : (s.readCorrected a errs).basin =
    { s.basin with ceCount := some ((s.basin.ceCount.getD (s.basin.pseudo a, 0)).1, (s.basin.ceCount.getD (s.basin.pseudo a, 0)).2 + 1),
                   mem := (s.basin.writeBack a (eccOutcome errs).2 errs).mem } := by
  have counted : (s.correctedRead a).basin = { s.basin with
    ceCount := some ((s.basin.ceCount.getD (s.basin.pseudo a, 0)).1, (s.basin.ceCount.getD (s.basin.pseudo a, 0)).2 + 1) } := rfl
  have contents : (s.correctedRead a).basin.mem = s.basin.mem := rfl
  show (s.correctedRead a).basin.writeBack a _ errs = _
  rw [BasinSt.writeBack_eq, BasinSt.writeBack_mem_congr contents, counted]

section
variable (s : State) {a : Nat} {errs : List (Nat × Nat)}

theorem State.readCorrected_moors : (s.readCorrected a errs).basin.moors = s.basin.moors := by rw [State.readCorrected_basin]

theorem State.readCorrected_stk : (s.readCorrected a errs).basin.stk = s.basin.stk := by rw [State.readCorrected_basin]

theorem State.readCorrected_mem : (s.readCorrected a errs).basin.mem = (s.basin.writeBack a (eccOutcome errs).2 errs).mem := by
  rw [State.readCorrected_basin]

theorem State.readCorrected_ceCount_first (h : s.basin.ceCount = none) :
    (s.readCorrected a errs).basin.ceCount = some (s.basin.pseudo a, 1) := by
  rw [State.readCorrected_basin, h]
  rfl

theorem State.readCorrected_ceCount_later {p n : Nat} (h : s.basin.ceCount = some (p, n)) :
    (s.readCorrected a errs).basin.ceCount = some (p, n + 1) := by
  rw [State.readCorrected_basin, h]
  rfl

end

theorem State.rd_readCorrected_count (s : State) (a : Nat) (errs : List (Nat × Nat)) (room : s.rd F.BASIN_ECC_CE_COUNT < 0xFFFFFFFF) :
    (s.readCorrected a errs).rd F.BASIN_ECC_CE_COUNT = s.rd F.BASIN_ECC_CE_COUNT + 1 :=
  State.rd_inc { s with basin := _ } F.BASIN_ECC_CE_COUNT (by decide) (by decide) room

/-! The record of an uncorrectable read. -/

/-- What the record of an uncorrectable read makes of the Basin: the address and source are taken, the mooring is marked, a free one is
quarantined while fewer than 64 are (R271). -/
def BasinSt.marked (b : BasinSt) (m : Nat) : BasinSt :=
  match b.entry m with
  | some e => { b with ueAddr := true, ueSrc := true, moors := Sparse.insert b.moors m { e with bad := true } }
  | none =>
    if b.quarCount < 64 then
      { b with ueAddr := true, ueSrc := true,
               moors := Sparse.insert b.moors m { cls := 0, order := 0, st := .quarantined, count := 0, last := none, bad := true } }
    else { b with ueAddr := true, ueSrc := true, quarFull := true }

theorem BasinSt.marked_mem (b : BasinSt) (m : Nat) : (b.marked m).mem = b.mem := by
  unfold BasinSt.marked
  split
  · rfl
  · split <;> rfl

theorem BasinSt.marked_entry {b : BasinSt} {m : Nat} {e : Mooring} (h : b.entry m = some e) :
    (b.marked m).entry m = some { e with bad := true } := by
  unfold BasinSt.marked
  rw [h]
  exact Sparse.find_insert_same ..

theorem BasinSt.marked_free {b : BasinSt} {m : Nat} (h : b.entry m = none) (room : b.quarCount < 64) :
    ∃ e, (b.marked m).entry m = some e ∧ e.st = .quarantined := by
  unfold BasinSt.marked
  rw [h, if_pos room]
  exact ⟨_, Sparse.find_insert_same .., rfl⟩

/-- Besides the Basin the record reaches the ledger and the events only. -/
theorem State.noteUncorrectable_eq (s : State) (a reader : Nat) :
    ∃ led evt, s.noteUncorrectable a reader = { s with led := led, evt := evt, basin := s.basin.marked (a / moorSize) } := by
  unfold State.noteUncorrectable
  extract_lets m cls s1 s2 s3 s4 b4 s5 b5 e
  have h3 : s3 = { s2 with led := s3.led } := by
    simp only [s3]
    split <;> rfl
  have h4 : s4 = { s3 with led := s4.led } := by
    simp only [s4]
    split <;> rfl
  have h5 : s5 = { s with led := s4.led, evt := s1.evt, basin := { s.basin with ueAddr := true, ueSrc := true } } := by
    simp only [s5, b4]
    rw [h4, h3]
    rfl
  clear_value s5
  have moors : s5.basin.moors = s.basin.moors := by rw [h5]
  have entry : s5.basin.entry m = s.basin.entry m := congrArg (Sparse.find · m) moors
  have count : s5.basin.quarCount = s.basin.quarCount := by unfold BasinSt.quarCount; rw [moors]
  refine ⟨s4.led, s1.evt, ?_⟩
  unfold BasinSt.marked
  rw [entry, count]
  cases s.basin.entry m with
  | some x => subst h5; rfl
  | none =>
    subst h5
    by_cases room : s.basin.quarCount < 64
    · rw [if_pos room, if_pos room]
    · rw [if_neg room, if_neg room]

/-- A fault noted reaches the ledger, the events and the recovery windows only (R48). -/
theorem State.noteFaultIn_eq (s : State) (code : Nat) (busy : Bool) :
    ∃ led evt recover, s.noteFaultIn code busy = { s with led := led, evt := evt, lock := { s.lock with recover := recover } } := by
  unfold State.noteFaultIn
  split
  · exact ⟨s.led, s.evt, _, rfl⟩
  · exact ⟨_, _, _, rfl⟩

theorem State.holdsOn_of_entry {s : State} {a : Nat} {e : Mooring} (h : s.basin.entry (a / moorSize) = some e) (other : e.cls ≠ cPACKET)
    (kept : e.st = .held ∨ e.st = .reserved) : s.holdsOn a = true := by
  unfold State.holdsOn
  rw [h]
  rcases kept with k | k <;> simp [k, other]

theorem State.holdsOn_free {s : State} {a : Nat} (h : s.basin.entry (a / moorSize) = none) : s.holdsOn a = false := by
  unfold State.holdsOn
  rw [h]

theorem State.isetHold_hold (s : State) : has s.isetHold.lock.iset mHOLD = true := by
  show (s.lock.iset ||| 0x80#8).getLsbD 7 = true
  simp

/-- An uncorrectable read noted as a fault, before its reader loses anything (R48, R271). -/
def State.faultNoted (s : State) (a reader : Nat) : State :=
  (s.noteUncorrectable a reader).noteFaultIn 0xA03 (s.holdsOn a && !has s.mode mHOLD)

theorem State.faultNoted_eq (s : State) (a reader : Nat) : ∃ led evt recover, s.faultNoted a reader =
    { s with led := led, evt := evt, lock := { s.lock with recover := recover }, basin := s.basin.marked (a / moorSize) } := by
  obtain ⟨led, evt, marked⟩ := s.noteUncorrectable_eq a reader
  obtain ⟨led', evt', recover, noted⟩ := (s.noteUncorrectable a reader).noteFaultIn_eq 0xA03 (s.holdsOn a && !has s.mode mHOLD)
  refine ⟨led', evt', recover, noted.trans ?_⟩
  rw [marked]

/-- HOLD set where `c` holds changes the lock-keeper only. -/
theorem State.when_isetHold_eq (s : State) (c : Bool) : ∃ lock, s.when c State.isetHold = { s with lock := lock } := by
  cases c
  · exact ⟨s.lock, rfl⟩
  · exact ⟨_, rfl⟩

/-- Reader 0 loses nothing of its own (R272). -/
theorem State.uncorrectableRead_zero (s : State) (a item px : Nat) :
    s.uncorrectableRead a 0 item px = (s.faultNoted a 0).when (s.holdsOn a) State.isetHold := rfl

/-- The composition in progress is bad (R245). -/
def State.composeBad (s : State) : State :=
  match s.comp.cur with
  | some c => s.setCompose (some { c with bad := true })
  | none => s

theorem State.composeBad_of_cur {s : State} {c : Compose} (h : s.comp.cur = some c) : s.composeBad = s.setCompose (some { c with bad := true }) := by
  unfold State.composeBad
  rw [h]

/-- The composer, reader 2, loses its composition (R245, R272). -/
theorem State.uncorrectableRead_composer (s : State) (a item px : Nat) :
    s.uncorrectableRead a 2 item px = (s.faultNoted a 2).composeBad.when (s.holdsOn a) State.isetHold := rfl

section
variable (s : State) (a item px : Nat)

theorem State.uncorrectableRead_zero_basin : (s.uncorrectableRead a 0 item px).basin = s.basin.marked (a / moorSize) := by
  obtain ⟨led, evt, recover, noted⟩ := s.faultNoted_eq a 0
  obtain ⟨lock, e⟩ := (s.faultNoted a 0).when_isetHold_eq (s.holdsOn a)
  rw [State.uncorrectableRead_zero, e, noted]

theorem State.uncorrectableRead_zero_hold (h : s.holdsOn a = true) : has (s.uncorrectableRead a 0 item px).lock.iset mHOLD = true := by
  rw [State.uncorrectableRead_zero, h]
  exact State.isetHold_hold _

theorem State.uncorrectableRead_zero_mem : (s.uncorrectableRead a 0 item px).basin.mem = s.basin.mem := by
  rw [State.uncorrectableRead_zero_basin, BasinSt.marked_mem]

theorem State.uncorrectableRead_zero_entry {e : Mooring} (h : s.basin.entry (a / moorSize) = some e) :
    (s.uncorrectableRead a 0 item px).basin.entry (a / moorSize) = some { e with bad := true } := by
  rw [State.uncorrectableRead_zero_basin, BasinSt.marked_entry h]

theorem State.uncorrectableRead_zero_iset (h : s.holdsOn a = false) : (s.uncorrectableRead a 0 item px).lock.iset = s.lock.iset := by
  obtain ⟨led, evt, recover, noted⟩ := s.faultNoted_eq a 0
  rw [State.uncorrectableRead_zero, h, noted]
  rfl

theorem State.uncorrectableRead_zero_free (free : s.basin.entry (a / moorSize) = none) (room : s.basin.quarCount < 64) :
    ∃ e, (s.uncorrectableRead a 0 item px).basin.entry (a / moorSize) = some e ∧ e.st = .quarantined ∧
      (s.uncorrectableRead a 0 item px).lock.iset = s.lock.iset := by
  obtain ⟨e, entry, quarantined⟩ := BasinSt.marked_free free room
  rw [State.uncorrectableRead_zero_basin]
  exact ⟨e, entry, quarantined, s.uncorrectableRead_zero_iset a item px (State.holdsOn_free free)⟩

theorem State.uncorrectableRead_composer_eq {c : Compose} (h : s.comp.cur = some c) :
    (s.uncorrectableRead a 2 item px).comp.cur = some { c with bad := true } ∧ (s.uncorrectableRead a 2 item px).dec = s.dec := by
  obtain ⟨led, evt, recover, noted⟩ := s.faultNoted_eq a 2
  have cur : (s.faultNoted a 2).comp.cur = some c := by rw [noted]; exact h
  obtain ⟨lock, e⟩ := (s.faultNoted a 2).composeBad.when_isetHold_eq (s.holdsOn a)
  rw [State.uncorrectableRead_composer, e, State.composeBad_of_cur cur, noted]
  exact ⟨rfl, rfl⟩

end

end Sys2Proof.Machine

namespace Sys2Proof.Proofs

open Machine

/-- Settles O29. What a read counts, `u`, stands beside the moorings and the contents, so that the laws of the write-back and of the record apply
to the state that has counted. -/
theorem basinErrorsAndQuarantine : Obligations.BasinErrorsAndQuarantine := by
  intro s t a item px errs again onDie v alive r
  let u := (s.tick t).countRead a again onDie
  refine ⟨fun beyond => ?_, fun inside => ⟨fun other => ?_, fun other reader => ?_⟩, fun inside corrected => ?_, fun inside lost => ?_,
    fun c inside lost cur => ?_, fun clear => ?_, fun idle => ?_⟩
  · exact ⟨exec_basinCorrectedRead_beyond t beyond, fun reader => exec_basinUncorrectableRead_beyond t reader item px beyond⟩
  · exact (exec_basinCorrectedRead t alive inside).trans (congrArg _ (if_neg other))
  · exact (exec_basinUncorrectableRead t alive inside reader item px).trans (congrArg _ (if_neg other))
  · have contents : (u.readCorrected a errs).basin.mem = (s.basin.writeBack a (eccOutcome errs).2 errs).mem :=
      u.readCorrected_mem.trans (BasinSt.writeBack_mem_congr (b := u.basin) (c := s.basin) rfl ..)
    refine ⟨u.readCorrected a errs, (exec_basinCorrectedRead t alive inside).trans (congrArg _ (if_pos corrected)), u.readCorrected_moors,
      u.readCorrected_ceCount_first, fun _ _ => u.readCorrected_ceCount_later, fun x stack => ?_, contents, fun undeceived => ?_,
      u.rd_readCorrected_count a errs⟩
    · calc (u.readCorrected a errs).basin.stk[s.basin.pseudo a / 32]?
        _ = u.basin.stk[s.basin.pseudo a / 32]? := by rw [u.readCorrected_stk]
        _ = s.basin.stk[s.basin.pseudo a / 32]?.map _ := getElem?_modAt ..
        _ = _ := congrArg _ stack
    · exact contents.trans (congrArg _ (BasinSt.writeBack_exact _ _ _ undeceived))
  · exact ⟨u.uncorrectableRead a 0 item px, (exec_basinUncorrectableRead t alive inside 0 item px).trans (congrArg _ (if_pos lost)),
      u.uncorrectableRead_zero_mem a item px,
      fun e listed => ⟨u.uncorrectableRead_zero_entry a item px listed,
        fun other kept => u.uncorrectableRead_zero_hold a item px (State.holdsOn_of_entry listed other kept)⟩,
      u.uncorrectableRead_zero_free a item px⟩
  · exact ⟨u.uncorrectableRead a 2 item px, (exec_basinUncorrectableRead t alive inside 2 item px).trans (congrArg _ (if_pos lost)),
      u.uncorrectableRead_composer_eq a item px cur⟩
  · exact (exec_quarClear t v alive).trans (congrArg _ (if_pos clear))
  · exact (exec_quarClear t v alive).trans (congrArg _ (if_neg (Bool.eq_false_iff.mp idle)))

end Sys2Proof.Proofs

namespace Sys2Proof.Machine

open Safety Claims

/-! The lock cycle (R34 to R45): its commands at their instant, the close and the level reports. -/

section
variable {s : State} (t : Nat) (alive : s.alive = true)
include alive

theorem exec_lockClose : exec (.lockClose t) s = .next (s.tick t).lockClose := State.live_alive t State.lockClose alive

theorem exec_levelStage (b i : Nat) : exec (.levelStage t b i) s = .next ((s.tick t).levelStage b i) :=
  State.live_alive t (fun s => s.levelStage b i) alive

end

/-- The close begins the phase level and keeps the rest of the kept part (R34 step 1). -/
theorem State.closeStart_kept (s : State) : s.closeStart.kept = { s.kept with phase := .level } := by
  have begun : (s.when (!s.lock.everOpened) (fun s => s.wr F.IMG_BOOT_TIME_MS s.bootMs)).faultRelease.kept = s.kept :=
    (State.faultRelease_kept _).trans (State.when_kept _ _ _ (fun _ => State.wr_kept ..))
  exact congrArg (fun k => ({ k with phase := .level } : Kept)) begun

/-- A close that takes place ends with the freeze of a state that is in the phase level and keeps the rest of the kept part. -/
theorem State.lockClose_eq (s : State) (running : s.lock.running = true) (idle : s.lock.phase = .idle) :
    ∃ (v : State) (p : Nat) (mode : BitVec 8) (own : Bool), s.lockClose = v.freeze p mode own ∧ v.kept = { s.kept with phase := .level } := by
  unfold State.lockClose
  rw [if_neg (by simp [running, idle])]
  extract_lets p s1 s2
  have h2 : s2.kept = { s.kept with phase := .level } := (State.ladderAt_kept ..).trans ((State.frameLate_kept _).trans s.closeStart_kept)
  have paired := s2.pairClose_kept p
  split
  rename_i s3 m e
  rw [e] at paired
  extract_lets s4 s5 s6
  have h6 : s6.kept = s3.kept := (State.mergeScene_kept ..).trans ((State.deadlines_kept ..).trans ((State.joinMerge_kept ..).trans
    (State.withLock_kept _ _ rfl)))
  have merged := s6.mergeModes_kept p
  split
  rename_i s7 mode e7
  rw [e7] at merged
  exact ⟨s7, p, _, _, rfl, merged.trans (h6.trans (paired.trans h2))⟩

theorem State.lockClose_off (s : State) (h : s.lock.running = false ∨ s.lock.phase ≠ .idle) : s.lockClose = s := by
  unfold State.lockClose
  rw [if_pos (by simpa using h)]

/-- An instance that can stage notes it, and its block reports once every powered instance has (R36). -/
theorem State.levelStage_can (s : State) (b i : Nat) (h : s.canStage b i = true) : s.levelStage b i = { s with lock := { s.lock with
    stagedBy := (b, i) :: s.lock.stagedBy,
    sent := if ∀ j ∈ s.upInsts b, (b, j) ∈ (b, i) :: s.lock.stagedBy then s.lock.sent ++ [s.levelReport b] else s.lock.sent } } := by
  unfold State.levelStage
  rw [if_neg (by simp [h])]
  simp only [List.all_eq_true, List.contains_iff_mem]

theorem State.levelStage_cannot (s : State) (b i : Nat) (h : s.canStage b i = false) : s.levelStage b i = s := by
  unfold State.levelStage
  rw [if_pos (by simp [h])]

end Sys2Proof.Machine

namespace Sys2Proof.Proofs

open Machine Safety Claims

/-- A part of `lockCloseAndLevels`: the close ends with the freeze, before which nothing of the kept part but the phase has moved. -/
theorem lockClosePrepares : Claims.LockClosePrepares := by
  intro s t alive
  rw [exec_lockClose t alive]
  refine ⟨fun running idle => ?_, fun off => congrArg _ ((s.tick t).lockClose_off off)⟩
  obtain ⟨v, p, mode, own, closed, kept⟩ := (s.tick t).lockClose_eq running idle
  rw [closed]
  exact ⟨_, rfl, congrArg Kept.phase kept, congrArg Kept.pound kept, congrArg Kept.nextP kept, congrArg Kept.index kept, congrArg Kept.bank0 kept,
    congrArg Kept.bank1 kept, rfl, rfl, rfl⟩

/-- A part of `lockCloseAndLevels`. -/
theorem levelStageReports : Claims.LevelStageReports := by
  intro s t b i alive
  rw [exec_levelStage t alive]
  exact ⟨fun can => congrArg _ ((s.tick t).levelStage_can b i can), fun cannot => congrArg _ ((s.tick t).levelStage_cannot b i cannot)⟩

/-- Settles O2. -/
theorem lockCloseAndLevels : Obligations.LockCloseAndLevels := ⟨lockClosePrepares, levelStageReports⟩

end Sys2Proof.Proofs

namespace Sys2Proof.Machine

open Safety Claims

/-! The decision and the open (R32, R34, R38, R45): what they make of the kept part. -/

/-- The kept part with `c` committed: the index flips and the bank that was in force stands (R32). -/
def Kept.commit (k : Kept) (c : CSet) : Kept :=
  if k.index then { k with bank0 := c, index := false } else { k with bank1 := c, index := true }

/-- The kept part with the next pound open (R34 step 4). -/
def Kept.opens (k : Kept) : Kept := { k with phase := .opened, pound := k.nextP, nextP := poundAdd k.nextP 1 }

/-- The committed set of a kept part. -/
def Kept.cset (k : Kept) : CSet := if k.index then k.bank1 else k.bank0

theorem State.cset_kept (s : State) : s.cset = s.kept.cset := rfl

theorem Kept.cset_commit (k : Kept) (c : CSet) : (k.commit c).cset = c := by
  unfold Kept.commit
  split <;> rfl

theorem Kept.commit_nextP (k : Kept) (c : CSet) : (k.commit c).nextP = k.nextP := by
  unfold Kept.commit
  split <;> rfl

theorem State.withCommit_kept (s : State) (c : CSet) : ({ s with led := s.led.commit c } : State).kept = s.kept.commit c := by
  unfold LedSt.commit Kept.commit
  cases h : s.led.index <;> simp [State.kept, State.base, h]

theorem State.commitSet_kept (s : State) : s.commitSet.kept = s.kept.commit s.lock.frozen :=
  (State.wr_kept ..).trans ((State.incWrap_kept ..).trans (s.withCommit_kept _))

theorem State.withRung_kept (s : State) (b : Bool) : ({ s with comp := { s.comp with rungDue := b } } : State).kept = s.kept := rfl

theorem State.applySet_kept (s : State) : s.applySet.kept = s.kept.commit s.lock.frozen := (State.withRung_kept ..).trans s.commitSet_kept

theorem State.withOpens_kept (s : State) (m : BitVec 8) (units : List (Nat × Nat)) (c : CSet) (p : PwrSt) (h : p.straps = s.pwr.straps) :
    ({ s with lock := s.lock.opens s.lock.nextPound m units c, pwr := p } : State).kept = s.kept.opens := by
  simp only [State.kept, State.base, h]
  unfold LockSt.opens LockSt.countRecover LockSt.meet
  split <;> rfl

/-- The lock-keeper at the open: the candidate set is committed where it is applied, and the next pound is open. -/
theorem State.openLock_kept (s : State) (applied : Bool) :
    (s.openLock applied).kept = (if applied then s.kept.commit s.lock.frozen else s.kept).opens := by
  cases applied with
  | false => exact s.withOpens_kept _ _ _ _ (PwrSt.markPound_straps ..)
  | true => exact (s.applySet.withOpens_kept _ _ _ _ (PwrSt.markPound_straps ..)).trans (congrArg Kept.opens s.applySet_kept)

/-- What follows the lock-keeper at the open keeps the kept part (R34 step 4). -/
theorem State.lockOpen_kept (s : State) : s.lockOpen.kept = (if s.lock.apply then s.kept.commit s.lock.frozen else s.kept).opens := by
  unfold State.lockOpen
  extract_lets old first prev s1 s2 s3 s4
  have h1 : s1.kept = s.kept := State.when_kept _ _ _ (fun _ => State.txMark_kept ..)
  have lock : s1.lock = s.lock := by
    simp only [s1, State.when, State.txMark]
    (repeat' split) <;> rfl
  rw [State.openUnits_kept, State.openScene_kept, State.openReports_kept, State.openLock_kept, h1, lock]

/-- The outcome of the lock cycle, decided after WINDOW where `expired` (R38). -/
def State.outcome (s : State) (expired : Bool) : LockOutcome :=
  outcomeOf s.lock.changed s.lock.veto
    (if expired ∧ s.lock.veto = 0 then maskOf ((maskBits 20 s.lock.want).filter (fun b => !bitAt s.lock.got b)) else 0)
    s.lock.retry (s.cm F.TOP_LOCK_RETRY_RETRIES)

/-- What the decision leaves to the open: the candidate set and whether it is applied. -/
def LockSt.verdict (l : LockSt) : CSet × Bool := (l.frozen, l.apply)

/-- A miss noted reaches the ledger, the events and the recovery windows only (R48). -/
theorem State.noteMiss_eq (s : State) (fresh : Bool) :
    ∃ led evt recover, s.noteMiss fresh = { s with led := led, evt := evt, lock := { s.lock with recover := recover } } := by
  unfold State.noteMiss
  split
  · exact s.noteFaultIn_eq 0x001 false
  · exact ⟨s.led, s.evt, _, rfl⟩

/-- Misses taken are noted and counted (R45). -/
theorem State.takeMisses_eq (s : State) (miss : Nat) : ∃ led evt recover, s.takeMisses miss =
    State.countMisses { s with led := led, evt := evt, lock := { s.lock with recover := recover } } miss := by
  unfold State.takeMisses State.when
  extract_lets fresh
  split
  · obtain ⟨led, evt, recover, noted⟩ := s.noteMiss_eq fresh
    exact ⟨led, evt, recover, congrArg (State.countMisses · miss) noted⟩
  · exact ⟨s.led, s.evt, s.lock.recover, rfl⟩

theorem State.takeMisses_verdict (s : State) (miss : Nat) : (s.takeMisses miss).lock.verdict = s.lock.verdict := by
  obtain ⟨led, evt, recover, taken⟩ := s.takeMisses_eq miss
  rw [taken]
  rfl

theorem State.rejectSet_lock (s : State) (veto : Nat) : (s.rejectSet veto).lock = s.lock := by
  unfold State.rejectSet
  simp only [apply_ite State.lock, State.raise_lock, State.inc_lock, State.wr_lock, ite_self]

theorem State.lockDecide_verdict (s : State) (expired : Bool) :
    (s.lockDecide expired).lock.verdict = (s.lock.frozen, s.outcome expired == .applied) := by
  unfold State.lockDecide
  extract_lets veto miss out retry last s1 _ s2 s3 s4
  have h3 : s3.lock = s2.lock := by simp only [s3, apply_ite State.lock, State.raise_lock, ite_self]
  have h4 : s4.lock = s3.lock := by simp only [s4, apply_ite State.lock, State.rejectSet_lock, ite_self]
  refine Eq.trans (b := s4.lock.verdict) ?_ (by rw [h4, h3]; rfl)
  split
  · rfl
  · exact State.takeMisses_verdict ..

/-- A decided cycle opens the next pound, with the frozen set committed where the outcome is that it is applied (R34, R38). -/
theorem State.decideOpen_kept (s : State) (expired : Bool) :
    (s.decideOpen expired).kept = (if s.outcome expired = .applied then s.kept.commit s.lock.frozen else s.kept).opens := by
  obtain ⟨frozen, apply⟩ := Prod.mk.inj (s.lockDecide_verdict expired)
  refine (State.lockOpen_kept _).trans ?_
  rw [frozen, apply, State.lockDecide_kept]
  simp only [beq_iff_eq]

/-- The pound opens (R34). -/
theorem State.decideOpen_opens (s : State) (expired : Bool) : (s.decideOpen expired).lock.phase = .opened ∧
    (s.decideOpen expired).lock.pound = s.lock.nextPound ∧ (s.decideOpen expired).lock.nextPound = poundAdd s.lock.nextPound 1 := by
  have opened := s.decideOpen_kept expired
  have pound : (s.decideOpen expired).lock.pound = _ := congrArg Kept.pound opened
  have next : (s.decideOpen expired).lock.nextPound = _ := congrArg Kept.nextP opened
  refine ⟨congrArg Kept.phase opened, pound.trans ?_, next.trans ?_⟩ <;> split <;> simp only [Kept.opens, Kept.commit_nextP] <;> rfl

theorem State.decideOpen_cset (s : State) (expired : Bool) :
    (s.decideOpen expired).cset = if s.outcome expired = .applied then s.lock.frozen else s.cset := by
  rw [State.cset_kept, State.decideOpen_kept, State.cset_kept]
  split
  · exact Kept.cset_commit ..
  · rfl

end Sys2Proof.Machine

namespace Sys2Proof.Machine

open Safety Claims

/-! Level reports and the end of WINDOW (R34 steps 3 and 4, R36, R45). -/

section
variable {s : State} (t : Nat) (alive : s.alive = true)
include alive

theorem exec_levelReportReceived (b flip : Nat) : exec (.levelReportReceived t b flip) s = .next ((s.tick t).reportReceived b flip) :=
  State.live_alive t (fun s => s.reportReceived b flip) alive

theorem exec_levelWindowExpiry : exec (.levelWindowExpiry t) s = .next (s.tick t).windowExpiry := State.live_alive t State.windowExpiry alive

end

/-- The report of block `b` is taken off the wire. -/
def State.reportTaken (s : State) (b : Nat) : State := { s with lock := { s.lock with sent := s.lock.sent.filter (fun x => x.block ≠ b) } }

/-- A report with a veto, taken (R37). -/
def State.vetoTaken (s : State) (b : Nat) (r : LevelReport) : State :=
  let u := s.reportTaken b
  { u with lock := { u.lock with veto := s.lock.veto ||| r.veto,
                                 vetoFirst := if s.lock.veto = 0 then r.first else min r.first s.lock.vetoFirst } }

/-- A report without a veto whose CRC is right, taken: it is counted with its time (R36). -/
def State.goodTaken (s : State) (b : Nat) : State :=
  let u := s.reportTaken b
  { u with lock := { u.lock with got := orBit s.lock.got b, lastNs := (s.dev - s.lock.closeAt) / 65536 } }

theorem State.reportReceived_of_take {s v : State} {b flip : Nat} {done : Bool} (h : s.takeReport b flip = (v, done)) :
    s.reportReceived b flip = if done then v.decideOpen false else v := by
  unfold State.reportReceived
  rw [h]

section
variable {s : State} {b flip : Nat} {r : LevelReport} (level : s.lock.phase = .level) (sent : s.lock.sent.find? (fun x => x.block == b) = some r)
include level sent

/-- What taking a level report in the phase level does, and whether the cycle is then decided. -/
theorem State.takeReport_level : s.takeReport b flip =
    if r.veto ≠ 0 then (s.vetoTaken b r, true)
    else if r.crc ^^^ (flip % 65536) = s.lock.frozen.stagedCrc b then (s.goodTaken b, decide (orBit s.lock.got b = s.lock.want))
    else (s.reportTaken b, false) := by
  have inLevel : ¬ (s.lock.phase ≠ .level ∧ ¬ s.lock.missDue) := fun h => h.1 level
  unfold State.takeReport
  rw [sent]
  exact (if_neg inLevel).trans (if_neg (not_not_intro level))

theorem State.reportReceived_wrong (veto : r.veto = 0) (crc : r.crc ^^^ (flip % 65536) ≠ s.lock.frozen.stagedCrc b) :
    s.reportReceived b flip = s.reportTaken b := by
  have taken := State.takeReport_level (flip := flip) level sent
  rw [if_neg (not_not_intro veto), if_neg crc] at taken
  exact State.reportReceived_of_take taken

theorem State.reportReceived_good (veto : r.veto = 0) (crc : r.crc ^^^ (flip % 65536) = s.lock.frozen.stagedCrc b) :
    s.reportReceived b flip = if orBit s.lock.got b = s.lock.want then (s.goodTaken b).decideOpen false else s.goodTaken b := by
  have taken := State.takeReport_level (flip := flip) level sent
  rw [if_neg (not_not_intro veto), if_pos crc] at taken
  rw [State.reportReceived_of_take taken]
  simp only [decide_eq_true_eq]

theorem State.reportReceived_veto (veto : r.veto ≠ 0) : s.reportReceived b flip = (s.vetoTaken b r).decideOpen false := by
  have taken := State.takeReport_level (flip := flip) level sent
  rw [if_pos veto] at taken
  exact State.reportReceived_of_take taken

/-- A veto, or the last good report, decides: the state that decides has the vetoes of the report and stands otherwise where the decision and the open
look. -/
theorem State.reportReceived_decides
    (h : r.veto ≠ 0 ∨ (r.crc ^^^ (flip % 65536) = s.lock.frozen.stagedCrc b ∧ orBit s.lock.got b = s.lock.want)) :
    ∃ v : State, s.reportReceived b flip = v.decideOpen false ∧ v.kept = s.kept ∧ v.lock.frozen = s.lock.frozen ∧
      v.outcome false = outcomeOf s.lock.changed (s.lock.veto ||| r.veto) 0 s.lock.retry (s.cm F.TOP_LOCK_RETRY_RETRIES) := by
  by_cases veto : r.veto = 0
  · obtain ⟨crc, last⟩ := h.resolve_left (not_not_intro veto)
    refine ⟨s.goodTaken b, (State.reportReceived_good level sent veto crc).trans (if_pos last), rfl, rfl, ?_⟩
    rw [veto, Nat.or_zero]
    rfl
  · exact ⟨s.vetoTaken b r, State.reportReceived_veto level sent veto, rfl, rfl, rfl⟩

end

theorem State.windowExpiry_level {s : State} (level : s.lock.phase = .level) : s.windowExpiry = s.decideOpen true := if_pos level

theorem State.windowExpiry_late {s : State} (other : s.lock.phase ≠ .level) : s.windowExpiry = s.lateMisses := if_neg other

theorem State.lateMisses_off {s : State} (off : s.lock.missDue = false) : s.lateMisses = s := if_pos (by simp [off])

/-! The misses of the blocks (R45). -/

theorem testBit_orBit (x n i : Nat) : (orBit x n).testBit i = (x.testBit i || decide (i = n)) := by
  unfold orBit
  rw [Nat.testBit_or, Nat.shiftLeft_eq, Nat.one_mul, Nat.testBit_two_pow]
  simp only [eq_comm]

/-- A bit of a mask is set where its number is listed. -/
theorem bitAt_maskOf (l : List Nat) (i : Nat) : bitAt (maskOf l) i = decide (i ∈ l) := by
  have folded : ∀ (l : List Nat) (x : Nat), (l.foldl orBit x).testBit i = (x.testBit i || decide (i ∈ l)) := by
    intro l
    induction l with
    | nil => simp
    | cons a r ih =>
      intro x
      rw [List.foldl_cons, ih, testBit_orBit, Bool.or_assoc]
      simp only [List.mem_cons, Bool.decide_or]
  rw [bitAt_eq_testBit, maskOf, folded, Nat.zero_testBit, Bool.false_or]

theorem bitAt_maskOf_maskBits (n m : Nat) (p : Nat → Bool) (i : Nat) (h : i < n) :
    bitAt (maskOf ((maskBits n m).filter p)) i = (bitAt m i && p i) := by
  rw [bitAt_maskOf]
  simp [maskBits, h, Bool.and_comm]

theorem State.countMisses_misses (s : State) (miss b : Nat) (h : b < 20) :
    (s.countMisses miss).lock.misses.getD b 0 = if bitAt miss b then s.lock.misses.getD b 0 + 1 else 0 := by
  have listed : (s.countMisses miss).lock.misses = (List.range 20).map (fun b => if bitAt miss b then s.lock.misses.getD b 0 + 1 else 0) := rfl
  rw [listed, List.getD_eq_getElem _ _ (by simpa using h), List.getElem_map, List.getElem_range]

theorem State.takeMisses_misses (s : State) (miss b : Nat) (h : b < 20) :
    (s.takeMisses miss).lock.misses.getD b 0 = if bitAt miss b then s.lock.misses.getD b 0 + 1 else 0 := by
  obtain ⟨led, evt, recover, taken⟩ := s.takeMisses_eq miss
  rw [taken, State.countMisses_misses _ _ _ h]

theorem State.takeMisses_missDue (s : State) (miss : Nat) : (s.takeMisses miss).lock.missDue = s.lock.missDue := by
  obtain ⟨led, evt, recover, taken⟩ := s.takeMisses_eq miss
  rw [taken]
  rfl

/-- The blocks that have missed at the end of WINDOW of a cycle that a veto decided (R45). -/
def LockSt.lateMask (l : LockSt) : Nat := maskOf ((maskBits 20 l.want).filter (fun b => !bitAt l.got b && !bitAt l.veto b))

theorem State.lateMisses_due {s : State} (due : s.lock.missDue = true) : s.lateMisses =
    (State.wr { s with lock := { s.lock with missDue := false } } F.TOP_LEVEL_MISS_MISS s.lock.lateMask).takeMisses s.lock.lateMask :=
  if_neg (by simp [due])

end Sys2Proof.Machine

namespace Sys2Proof.Proofs

open Machine Safety Claims

/-- A part of `lockDecides`. -/
theorem levelReportCounts : Claims.LevelReportCounts := by
  intro s t b flip r alive level sent rest
  rw [exec_levelReportReceived t alive]
  refine ⟨fun veto crc => ?_, fun veto crc early => ?_, fun h => ?_⟩
  · exact congrArg _ (State.reportReceived_wrong (s := s.tick t) level sent veto crc)
  · exact congrArg _ ((State.reportReceived_good (s := s.tick t) level sent veto crc).trans (if_neg early))
  · obtain ⟨v, decides, kept, frozen, outcome⟩ := State.reportReceived_decides (s := s.tick t) level sent h
    obtain ⟨phase, pound, next⟩ := v.decideOpen_opens false
    have nextP : v.lock.nextPound = s.lock.nextPound := congrArg Kept.nextP kept
    have cset : v.cset = s.cset := congrArg Kept.cset kept
    rw [decides]
    refine ⟨_, rfl, phase, pound.trans nextP, next.trans (congrArg (poundAdd · 1) nextP), ?_⟩
    rw [State.decideOpen_cset, outcome, frozen, cset]
    rfl

/-- A part of `lockDecides`. -/
theorem windowExpiryDecides : Claims.WindowExpiryDecides := by
  intro s t alive
  rw [exec_levelWindowExpiry t alive]
  refine ⟨fun level => ?_, fun other off => ?_, fun other due => ?_⟩
  · rw [State.windowExpiry_level (s := s.tick t) level]
    obtain ⟨phase, pound, next⟩ := (s.tick t).decideOpen_opens true
    refine ⟨_, rfl, phase, pound, next, ?_⟩
    rw [State.decideOpen_cset]
    unfold State.outcome
    simp only [true_and]
    rfl
  · exact congrArg _ ((State.windowExpiry_late (s := s.tick t) other).trans (State.lateMisses_off off))
  · rw [State.windowExpiry_late (s := s.tick t) other]
    have kept := (s.tick t).lateMisses_kept
    refine ⟨_, rfl, ?_, congrArg Kept.phase kept, congrArg Kept.index kept, congrArg Kept.bank0 kept, congrArg Kept.bank1 kept, fun b hb => ?_⟩
    · rw [State.lateMisses_due (s := s.tick t) due, State.takeMisses_missDue]
      rfl
    · rw [State.lateMisses_due (s := s.tick t) due, State.takeMisses_misses _ _ _ hb, LockSt.lateMask, bitAt_maskOf_maskBits _ _ _ _ hb]
      simp only [Bool.and_assoc]
      rfl

/-- Settles O3. -/
theorem lockDecides : Obligations.LockDecides := ⟨levelReportCounts, windowExpiryDecides⟩

end Sys2Proof.Proofs

namespace Sys2Proof.Machine

open Safety Claims

/-! Unit instances (R43, R44). -/

theorem unitOf_block (l : List UnitSt) (b i : Nat) : (unitOf l b i).block = b ∧ (unitOf l b i).inst = i := by
  unfold unitOf
  cases h : l.find? (fun u => u.block == b && u.inst == i) with
  | none => exact ⟨rfl, rfl⟩
  | some u => simpa using List.find?_some h

theorem unitOf_setUnit_same {u : UnitSt} {b i : Nat} (hb : u.block = b) (hi : u.inst = i) : ∀ l : List UnitSt, unitOf (setUnit l u) b i = u
  | [] => by simp [setUnit, unitOf, hb, hi]
  | v :: r => by
    unfold setUnit
    split
    · simp [unitOf, hb, hi]
    · rename_i other
      have ih := unitOf_setUnit_same hb hi r
      unfold unitOf at ih ⊢
      rw [List.find?_cons_of_neg (by simpa [hb, hi] using other), ih]

theorem unitOf_setUnit_other (u : UnitSt) {b i : Nat} (h : ¬ (b = u.block ∧ i = u.inst)) :
    ∀ l : List UnitSt, unitOf (setUnit l u) b i = unitOf l b i
  | [] => by
    have differs : ¬ (u.block = b ∧ u.inst = i) := fun e => h ⟨e.1.symm, e.2.symm⟩
    simp [setUnit, unitOf, differs]
  | v :: r => by
    have differs : ¬ (u.block = b ∧ u.inst = i) := fun e => h ⟨e.1.symm, e.2.symm⟩
    have ih := unitOf_setUnit_other u h r
    unfold setUnit
    unfold unitOf at ih ⊢
    split
    · rename_i same
      rw [List.find?_cons_of_neg (by simpa using differs), List.find?_cons_of_neg (by simpa [same.1, same.2] using differs)]
    · rw [List.find?_cons, List.find?_cons]
      split
      · rfl
      · exact ih

theorem State.startReload_reload (s : State) (b i : Nat) : (unitOf (s.startReload b i).units b i).reload = true := by
  obtain ⟨block, inst⟩ := unitOf_block s.units b i
  exact congrArg UnitSt.reload (unitOf_setUnit_same (u := { unitOf s.units b i with reload := true }) block inst s.units)

theorem State.startReload_keeps_reload (s : State) (b i j : Nat) (h : (unitOf s.units b i).reload = true) :
    (unitOf (s.startReload b j).units b i).reload = true := by
  by_cases e : i = j
  · rw [e]
    exact s.startReload_reload b j
  · have other := unitOf_setUnit_other { unitOf s.units b j with reload := true } (b := b) (i := i)
      (fun h => e (h.2.trans (unitOf_block s.units b j).2)) s.units
    exact (congrArg UnitSt.reload other).trans h

/-- An operation for each element of a list keeps what it keeps for one element. -/
theorem State.each_proj {α β : Type} (p : State → β) (f : State → α → State) (h : ∀ s a, p (f s a) = p s) (l : List α) (s : State) :
    p (s.each l f) = p s := by
  induction l generalizing s with
  | nil => rfl
  | cons a r ih => exact (ih (f s a)).trans (h s a)

/-- Every instance of a list is reloading after a reload of each, where what follows each start leaves the units (R44). -/
theorem State.each_startReload (b : Nat) (f : State → Nat → State) (h : ∀ s i, (f s i).units = s.units) :
    ∀ (l : List Nat) (s : State), ∀ i, i ∈ l ∨ (unitOf s.units b i).reload = true →
      (unitOf (s.each l (fun s i => f (s.startReload b i) i)).units b i).reload = true
  | [], _, _, m => m.resolve_left List.not_mem_nil
  | j :: r, s, i, m => by
    refine State.each_startReload b f h r (f (s.startReload b j) j) i ?_
    rw [h]
    rcases m with m | m
    · rcases List.mem_cons.mp m with e | m
      · rw [e]
        exact .inr (s.startReload_reload b j)
      · exact .inl m
    · exact .inr (s.startReload_keeps_reload b i j m)

/-! What the end of a chunk leaves alone (R43, R186, R190). -/

/-- What the loss of a chunk leaves: all but the live registers, the events, the Basin and the pair. -/
def State.offMoors (s : State) : State :=
  { s with led := { s.led with live := [] }, evt := EvtSt.reset, basin := BasinSt.reset, pair := PairSt.reset }

theorem State.packetGone_offMoors (s : State) (wait : Bool) (m : Nat) : (s.packetGone wait m).offMoors = s.offMoors := by
  unfold State.packetGone
  split
  · rfl
  · split
    · rfl
    · extract_lets filling b
      split <;> rfl

theorem State.loseChunk_offMoors (s : State) (c : Chunk) : (s.loseChunk c).offMoors = s.offMoors := by
  unfold State.loseChunk State.unitDone
  split
  · rfl
  · exact State.each_proj State.offMoors State.packetDone (fun s a => s.packetGone_offMoors false _) c.moors s

theorem State.stale_offMoors (s : State) (tag oldest : Nat) : (s.stale tag oldest).offMoors = s.offMoors := rfl

/-- The decoders without their contexts and the cache of these. -/
def DecSt.offCtxs (d : DecSt) : DecSt := { d with ctxs := [], cache := [] }

/-- What a change of contexts leaves besides: all but the contexts, their cache and the changes that wait. -/
def State.offCtxs (s : State) : State :=
  { s.offMoors with dec := s.dec.offCtxs, strm := { s.strm with late := [] } }

theorem State.offCtxs_of_offMoors {s t : State} (h : s.offMoors = t.offMoors) : s.offCtxs = t.offCtxs :=
  show s.offMoors.offCtxs = t.offMoors.offCtxs from congrArg State.offCtxs h

theorem State.initCtx_offCtxs (s : State) (n : Nat) : (s.initCtx n).offCtxs = s.offCtxs := by
  unfold State.initCtx
  split <;> rfl

theorem DecSt.foldl_setCtx_offCtxs (l : List (Nat × DecCtx)) (d : DecSt) : (l.foldl (fun d e => d.setCtx e.1 e.2) d).offCtxs = d.offCtxs := by
  induction l generalizing d with
  | nil => rfl
  | cons e r ih => exact (ih (d.setCtx e.1 e.2)).trans rfl

theorem State.moveCtxs_offCtxs (s : State) (moves : List (Nat × Nat)) : (s.moveCtxs moves).offCtxs = s.offCtxs := by
  unfold State.moveCtxs
  extract_lets held src num ctxs _ d
  have moved : d.offCtxs = s.dec.offCtxs := DecSt.foldl_setCtx_offCtxs held _
  exact congrArg (fun d => ({ s.offCtxs with dec := d } : State)) moved

theorem State.stepCtx_offCtxs (s : State) (q : CtxPlan) : (s.stepCtx q).offCtxs = s.offCtxs := by
  unfold State.stepCtx
  extract_lets s1
  have gone : s1.offCtxs = s.offCtxs := (State.each_proj State.offCtxs _ State.initCtx_offCtxs q.gone s)
  have cleared := State.each_proj State.offCtxs _ State.initCtx_offCtxs q.clears (s1.moveCtxs q.moves)
  exact cleared.trans ((s1.moveCtxs_offCtxs q.moves).trans gone)

theorem State.stepCtxs_offCtxs (l : List CtxPlan) : ∀ s : State, (s.stepCtxs l).offCtxs = s.offCtxs := by
  induction l with
  | nil => exact fun _ => rfl
  | cons q r ih =>
    intro s
    unfold State.stepCtxs
    split
    · rfl
    · exact (ih _).trans (s.stepCtx_offCtxs q)

theorem State.lateCtxs_offCtxs (s : State) : s.lateCtxs.offCtxs = s.offCtxs := State.stepCtxs_offCtxs s.strm.late s

/-- A core that ends is free; besides that the end reaches the time of the pound and the live registers (R189). -/
theorem State.coreEnd_offCtxs (s : State) (core : Nat) (j : CoreJob) : ∃ x, (s.coreEnd core j).offCtxs =
    { s.offCtxs with dec := { s.offCtxs.dec with cores := modAt s.dec.cores core (fun _ => none), time := x } } := by
  unfold State.coreEnd
  extract_lets d s1
  refine ⟨(d.addTime j.chunk.pound (s.clk.now - j.since)).time, ?_⟩
  split <;> rfl

/-- A core that loses its chunk is free (R190, R202). -/
theorem State.dropJob_offCtxs (s : State) (core : Nat) (j : CoreJob) : ∃ x, (s.dropJob core j).offCtxs =
    { s.offCtxs with dec := { s.offCtxs.dec with cores := modAt s.dec.cores core (fun _ => none), time := x } } := by
  obtain ⟨x, ended⟩ := s.coreEnd_offCtxs core j
  refine ⟨x, Eq.trans ?_ ended⟩
  exact (State.lateCtxs_offCtxs _).trans (State.offCtxs_of_offMoors (State.loseChunk_offMoors ..))

theorem State.coreReset_units (s : State) (core : Nat) : (s.coreReset core).units = s.units := by
  unfold State.coreReset
  split
  · rfl
  · rename_i j _
    obtain ⟨x, dropped⟩ := s.dropJob_offCtxs core j
    have units := congrArg State.units dropped
    exact units

end Sys2Proof.Machine

namespace Sys2Proof.Machine

open Safety Claims

/-! Tokens, the end of a cycle, reloads, stale barges and forced resets (R39 to R45). -/

section
variable {s : State} (t : Nat) (alive : s.alive = true)
include alive

theorem exec_commitToken (b i : Nat) : exec (.commitToken t b i) s = .next ((s.tick t).commitToken b i) :=
  State.live_alive t (fun s => s.commitToken b i) alive

theorem exec_lockCycleEnd : exec (.lockCycleEnd t) s = .next (s.tick t).cycleEnd := State.live_alive t State.cycleEnd alive

theorem exec_unitReload (b i : Nat) : exec (.unitReload t b i) s = .next ((s.tick t).endReload b i) :=
  State.live_alive t (fun s => s.endReload b i) alive

theorem exec_bargeTake (b i : Nat) : exec (.bargeTake t b i) s = .next ((s.tick t).bargeTake b i) :=
  State.live_alive t (fun s => s.bargeTake b i) alive

theorem exec_forcedUnitReset (b : Nat) : exec (.forcedUnitReset t b) s = .next ((s.tick t).forcedReset b) :=
  State.live_alive t (fun s => s.forcedReset b) alive

end

theorem State.commitToken_awaited {s : State} {b i : Nat} (opened : s.lock.phase = .opened) (awaited : (b, i) ∈ s.lock.await) :
    s.commitToken b i = { s with lock := { s.lock with await := s.lock.await.filter (· ≠ (b, i)) },
                                 units := setUnit s.units { unitOf s.units b i with acted := some s.lock.pound } } := by
  unfold State.commitToken
  exact if_neg (by simp [opened, awaited])

/-! The end of a cycle (R34 step 6, R40). -/

/-- A write that reaches the shadow leaves the hold queue and a waiting discard. -/
theorem State.shadowWrite_holds (s : State) (a : Nat) (v : Word) (mask : Nat) :
    ((s.shadowWrite a v mask).lock.holdQ, (s.shadowWrite a v mask).lock.discardReq) = (s.lock.holdQ, s.lock.discardReq) := by
  unfold State.shadowWrite
  split
  · unfold State.modeWrite
    extract_lets
    split <;> rfl
  · rfl

/-- The hold queue written into the shadow, in order. -/
def State.holdWritten (s : State) : State :=
  State.each { s with lock := { s.lock with holdQ := [], discardReq := false } } s.lock.holdQ (fun s w => s.shadowWrite w.addr w.value w.mask)

theorem State.holdWritten_holds (s : State) : (s.holdWritten.lock.holdQ, s.holdWritten.lock.discardReq) = ([], false) :=
  State.each_proj (fun s => (s.lock.holdQ, s.lock.discardReq)) _ (fun s w => s.shadowWrite_holds w.addr w.value w.mask) s.lock.holdQ _

theorem State.holdWritten_kept (s : State) : s.holdWritten.kept = s.kept :=
  (State.each_kept _ _ _ (fun _ _ => State.shadowWrite_kept ..)).trans rfl

theorem State.drainHold_eq (s : State) :
    s.drainHold = if s.lock.discardReq then { s.holdWritten with led := s.holdWritten.led.discard } else s.holdWritten := rfl

theorem State.drainHold_holds (s : State) : (s.drainHold.lock.holdQ, s.drainHold.lock.discardReq) = ([], false) := by
  rw [State.drainHold_eq]
  split <;> exact s.holdWritten_holds

/-- A discard that waited makes the shadow set the committed set (R31). -/
theorem State.drainHold_shadow_discard {s : State} (h : s.lock.discardReq = true) : s.drainHold.led.shadow = s.cset.regs := by
  rw [State.drainHold_eq, if_pos h]
  exact congrArg (fun k : Kept => k.cset.regs) s.holdWritten_kept

theorem State.drainHold_shadow_empty {s : State} (empty : s.lock.holdQ = []) (h : s.lock.discardReq = false) :
    s.drainHold.led.shadow = s.led.shadow := by
  rw [State.drainHold_eq, h, State.holdWritten, empty]
  rfl

/-- The cycle that ends: the hold queue drains, and the moorings freed at the open are free. -/
def State.cycleEnded (s : State) : State :=
  { s.drainHold with lock := { s.drainHold.lock with phase := .idle, await := [] }, basin := s.drainHold.basin.settle }

theorem State.cycleEnd_acknowledged {s : State} (opened : s.lock.phase = .opened) (off : ∀ x ∈ s.lock.await, s.unitUp x.1 x.2 = false) :
    s.cycleEnd = s.cycleEnded := by
  have acknowledged : ¬ (s.lock.phase ≠ .opened ∨ s.lock.await.any (fun u => s.unitUp u.1 u.2)) := by
    simp only [opened, ne_eq, not_true_eq_false, false_or, List.any_eq_true, not_exists, not_and]
    exact fun x hx => Bool.eq_false_iff.mp (off x hx)
  exact if_neg acknowledged

theorem State.cycleEnd_awaiting {s : State} (waits : ∃ x ∈ s.lock.await, s.unitUp x.1 x.2 = true) : s.cycleEnd = s :=
  if_pos (.inr (List.any_eq_true.mpr waits))

/-! Reloads and barges (R43, R44). -/

section
variable {s : State} {b i : Nat}

theorem State.endReload_off (h : (unitOf s.units b i).reload = false) : s.endReload b i = s := if_neg (by simp [h])

theorem State.endReload_on (h : (unitOf s.units b i).reload = true) : s.endReload b i =
    ({ s with units := setUnit s.units { unitOf s.units b i with
        reload := false, acted := if s.lock.everOpened then some s.lock.pound else (unitOf s.units b i).acted } } : State).raiseI
      0x004 bTOP i b s.lock.pound := by
  unfold State.endReload State.modUnit
  rw [if_pos h]
  simp only [State.pound]

variable {x : Barge} {r : List Barge} {a banks : Nat} (queued : (unitOf s.units b i).inq = x :: r) (loaded : (unitOf s.units b i).reload = false)
  (acted : (unitOf s.units b i).acted = some a)
include queued loaded acted

/-- What a unit that is not reloading does with the barge at the head of its crossing. -/
theorem State.bargeAt_head : s.bargeAt b i banks =
    if laterPound x.tag a then s
    else if laterPound (poundSub a (banks - 1)) x.tag then
      (s.modUnit b i (fun u => { u with inq := r })).stale x.tag (poundSub a (banks - 1))
    else s.modUnit b i (fun u => { u with inq := r }) := by
  unfold State.bargeAt
  simp only [queued, loaded, acted, Bool.false_eq_true, if_false]

end

theorem State.bargeTake_other {s : State} {b i : Nat} (h : b ≠ bDEC) : s.bargeTake b i = s.bargeAt b i (bankCount b) := if_neg h

/-- The chunks that are earlier than what the core has acted on leave the queue (R43, R190). -/
theorem State.bargeDec_on {s : State} {i a : Nat} (acted : (unitOf s.units bDEC i).acted = some a) (loaded : (unitOf s.units bDEC i).reload = false)
    (up : s.unitUp bDEC i = true) : (s.bargeDec i).offMoors =
      { s.offMoors with dec := { s.dec with queue := s.dec.queue.filter (fun c => !laterPound a c.pound) } } := by
  unfold State.bargeDec
  simp only [acted, loaded, up, not_true_eq_false, Bool.false_eq_true, or_self, if_false]
  exact State.each_proj State.offMoors _ (fun s (c : Chunk) => (State.loseChunk_offMoors ..).trans (s.stale_offMoors c.pound a)) _ _

theorem State.bargeDec_off {s : State} {i : Nat}
    (h : (unitOf s.units bDEC i).acted = none ∨ (unitOf s.units bDEC i).reload = true ∨ s.unitUp bDEC i = false) : s.bargeDec i = s := by
  unfold State.bargeDec
  extract_lets u
  split
  · rfl
  · rename_i a acted
    exact if_pos (by simpa [u, acted, or_comm] using h)

/-! Forced resets (R45). -/

section
variable {s : State} {b : Nat} {insts : List Nat} (due : s.lock.forceDue.find? (fun e => e.1 == b) = some (b, insts))
include due

theorem State.forcedReset_fault (four : b = bTOP ∨ b = bTIME ∨ b = bBASIN ∨ b = bRING) : s.forcedReset b =
    State.faultLow { s with lock := { s.lock with forceDue := s.lock.forceDue.filter (fun e => e.1 ≠ b) } } := by
  unfold State.forcedReset
  rw [due]
  exact if_pos four

end

/-- What a reset of an instance of block `b` does after its reload has begun (R45). -/
def State.unitReset (s : State) (b i : Nat) : State :=
  if b = bDEC then s.coreReset i else if b = bSCAN then s.quarterReset else if b = bLZ then s.lzReset else s

theorem State.unitReset_plain {s : State} {b i : Nat} (dec : b ≠ bDEC) (scan : b ≠ bSCAN) (lz : b ≠ bLZ) : s.unitReset b i = s := by
  unfold State.unitReset
  rw [if_neg dec, if_neg scan, if_neg lz]

/-- The forced reset of a block before its instances are reset: event 0x005, the misses at zero, the recovery window counted from here (R45, R47). -/
def State.forceNoted (s : State) (b : Nat) (insts : List Nat) : State :=
  { ((s.raiseI 0x005 bTOP (if insts.length = 1 then insts.getD 0 0xFF else 0xFF) b (s.lock.misses.getD b 0)).wr F.TOP_STATUS_FORCED 1) with
    lock := { s.lock with forceDue := s.lock.forceDue.filter (fun e => e.1 ≠ b), misses := modAt s.lock.misses b (fun _ => 0),
                          recover := s.lock.recover.map (fun r => if r.code = 0x001 then { r with left := s.lock.windowOpens, busy := false } else r) } }

/-- A forced reset of another block than the four resets each instance that is due. -/
theorem State.forcedReset_instances {s : State} {b : Nat} {insts : List Nat} (due : s.lock.forceDue.find? (fun e => e.1 == b) = some (b, insts))
    (other : ¬ (b = bTOP ∨ b = bTIME ∨ b = bBASIN ∨ b = bRING)) : s.forcedReset b =
      ((s.forceNoted b insts).when (b = bCOMP) (fun s => s.loseBlocks insts)).each insts (fun s i => (s.startReload b i).unitReset b i) := by
  unfold State.forcedReset
  rw [due]
  exact (if_neg other).trans rfl

theorem State.noteFault_units (s : State) (code : Nat) : (s.noteFault code).units = s.units := by
  obtain ⟨led, evt, recover, noted⟩ := s.noteFaultIn_eq code false
  have units := congrArg State.units noted
  exact units

theorem State.markAborted_units (s : State) : s.markAborted.units = s.units := rfl

theorem State.abortFrame_units (s : State) (cause lane : Nat) : (s.abortFrame cause lane).units = s.units := by
  unfold State.abortFrame
  simp only [apply_ite State.units, State.noteFault_units, State.raise_units, State.inc_units, State.markAborted_units, ite_self]

theorem State.quarterReset_units (s : State) : s.quarterReset.units = s.units := by
  unfold State.quarterReset
  split
  · split
    · exact (State.abortFrame_units ..).trans rfl
    · rfl
  · rfl

theorem State.freeMoor_units (s : State) (wait : Bool) (m : Nat) : (s.freeMoor wait m).units = s.units := rfl

theorem State.lzFree_units (s : State) (j : LzJob) : (s.lzFree j).units = s.units :=
  State.each_proj State.units _ (fun s m => s.freeMoor_units false m) _ s

theorem State.lzReset_units (s : State) : s.lzReset.units = s.units := by
  unfold State.lzReset
  extract_lets jobs s1
  have freed : s1.units = s.units := (State.each_proj State.units _ (fun s m => s.freeMoor_units false m) _ _).trans
    (State.each_proj State.units _ State.lzFree_units jobs s)
  exact freed

theorem State.unitReset_units (s : State) (b i : Nat) : (s.unitReset b i).units = s.units := by
  unfold State.unitReset
  split
  · exact s.coreReset_units i
  · split
    · exact s.quarterReset_units
    · split
      · exact s.lzReset_units
      · rfl

/-- A reset engine runs nothing, holds no job, and its contexts are EMPTY. -/
theorem State.lzReset_lz (s : State) : s.lzReset.lz.run = none ∧ (∀ q, s.lzReset.lz.queue q = []) ∧ ∀ q, (s.lzReset.lz.ctx q).st = 0 := by
  have queues : s.lzReset.lz.queues = [[], [], []] := rfl
  have ctxs : s.lzReset.lz.ctxs = List.replicate 3 { st := 0, hist := [], saved := none } := rfl
  refine ⟨rfl, fun q => ?_, fun q => ?_⟩
  · unfold LzSt.queue
    rw [queues]
    match q with
    | 0 | 1 | 2 => rfl
    | n + 3 => rfl
  · unfold LzSt.ctx
    rw [ctxs, List.getElem?_replicate]
    split <;> rfl

/-- The engine is reset by the last of its instances that is due. -/
theorem State.each_lzReset (f : State → Nat → State) {l : List Nat} (h : l ≠ []) (s : State) :
    ∃ v : State, s.each l (fun s i => (f s i).lzReset) = v.lzReset := by
  obtain ⟨r, i, rfl⟩ := l.eq_nil_or_concat.resolve_left h
  refine ⟨f (s.each r (fun s i => (f s i).lzReset)) i, ?_⟩
  unfold State.each
  rw [List.concat_eq_append, List.foldl_append]
  rfl

end Sys2Proof.Machine

namespace Sys2Proof.Proofs

open Machine Safety Claims

/-- A part of `tokensAndReloads`. -/
theorem tokenAndCycleEnd : Claims.TokenAndCycleEnd := by
  intro s t b i alive
  rw [exec_commitToken t alive, exec_lockCycleEnd t alive]
  refine ⟨fun opened awaited => congrArg _ (State.commitToken_awaited (s := s.tick t) opened awaited), fun opened off => ?_,
    fun opened waits => congrArg _ (State.cycleEnd_awaiting (s := s.tick t) waits)⟩
  rw [State.cycleEnd_acknowledged (s := s.tick t) opened off]
  obtain ⟨holdQ, discardReq⟩ := Prod.mk.inj (s.tick t).drainHold_holds
  have kept := (s.tick t).drainHold_kept
  refine ⟨_, rfl, rfl, holdQ, discardReq, rfl, congrArg Kept.index kept, congrArg Kept.bank0 kept, congrArg Kept.bank1 kept, fun empty => ?_,
    fun waited => State.drainHold_shadow_discard (s := s.tick t) waited⟩
  split
  · rename_i waited
    exact State.drainHold_shadow_discard (s := s.tick t) waited
  · rename_i noDiscard
    exact State.drainHold_shadow_empty (s := s.tick t) empty (Bool.eq_false_iff.mpr noDiscard)

/-- A part of `tokensAndReloads`. -/
theorem reloadAndBarge : Claims.ReloadAndBarge := by
  intro s t b i alive
  rw [exec_unitReload t alive, exec_bargeTake t alive, exec_bargeTake t alive]
  refine ⟨fun on => congrArg _ (State.endReload_on (s := s.tick t) on), fun off => congrArg _ (State.endReload_off (s := s.tick t) off),
    fun x r a other queued loaded acted => ?_, fun a acted loaded up => ?_, fun off => congrArg _ (State.bargeDec_off (s := s.tick t) off)⟩
  · rw [State.bargeTake_other other, State.bargeAt_head (s := s.tick t) queued loaded acted]
    refine ⟨fun later => ?_, fun reached held => ?_, fun reached gone => ?_⟩
    · rw [if_pos later]
    · rw [if_neg (by simp [reached]), if_neg (by simp [held])]
      rfl
    · rw [if_neg (by simp [reached]), if_pos gone]
      rfl
  · have left := congrArg (fun u : State => u.dec.queue) (State.bargeDec_on (s := s.tick t) acted loaded up)
    exact ⟨_, rfl, left⟩

/-- A part of `tokensAndReloads`: each instance that is due begins its reload, and its reset leaves the units. -/
theorem forcedReset : Claims.ForcedReset := by
  intro s t b insts alive due
  rw [exec_forcedUnitReset t alive]
  refine ⟨fun four => ?_, fun other dec scan comp lz => ?_, fun i member _ other => ?_, fun lz present => ?_⟩
  · rw [State.forcedReset_fault (s := s.tick t) due four]
    rfl
  · rw [State.forcedReset_instances (s := s.tick t) due other]
    simp only [State.unitReset_plain dec scan lz, comp, decide_false]
    rfl
  · refine ⟨_, rfl, ?_⟩
    rw [State.forcedReset_instances (s := s.tick t) due other]
    exact State.each_startReload b _ (fun s i => s.unitReset_units b i) insts _ i (.inl member)
  · rw [State.forcedReset_instances (s := s.tick t) due (by subst lz; decide)]
    subst lz
    obtain ⟨v, reset⟩ := State.each_lzReset (fun s i => s.startReload bLZ i) present (((s.tick t).forceNoted bLZ insts).when (bLZ = bCOMP) (fun s => s.loseBlocks insts))
    exact ⟨_, congrArg _ reset, v.lzReset_lz⟩

/-- Settles O4. -/
theorem tokensAndReloads : Obligations.TokensAndReloads := ⟨tokenAndCycleEnd, reloadAndBarge, forcedReset⟩

end Sys2Proof.Proofs

namespace Sys2Proof.Machine

open Safety Claims

/-! The capture encoder (R378 to R386). -/

section
variable {s : State} (t : Nat) (alive : s.alive = true)
include alive

theorem exec_encIdr (k : Nat) (v : Word) : exec (.encIdr t k v) s = .next ((s.tick t).encIdr k v.toNat) :=
  State.live_alive t (fun s => s.encIdr k v.toNat) alive

theorem exec_encPictureStart : exec (.encPictureStart t) s = .next (s.tick t).encStart := State.live_alive t State.encStart alive

theorem exec_encRowDone : exec (.encRowDone t) s = .next (s.tick t).encRow := State.live_alive t State.encRow alive

end

/-! The start of a picture. -/

section
variable {s : State}

theorem State.encOrder_none (h : ∀ n ∈ s.enc.order, (s.encStream n).wait = none) : s.encOrder = [] :=
  List.dropWhile_eq_nil_iff.mpr (fun n m => by simp [h n m])

/-- The streams whose pictures have been taken back leave the order. -/
theorem State.encOrder_first {gone rest : List Nat} {k : Nat} {e : EncPic} (order : s.enc.order = gone ++ k :: rest)
    (taken : ∀ n ∈ gone, (s.encStream n).wait = none) (waits : (s.encStream k).wait = some e) : s.encOrder = k :: rest := by
  unfold State.encOrder
  rw [order, List.dropWhile_append_of_pos (fun n m => by simp [taken n m]), List.dropWhile_cons_of_neg (by simp [waits])]

theorem State.encStart_busy (h : s.enc.run.isSome = true ∨ ∀ n ∈ s.enc.order, (s.encStream n).wait = none) : s.encStart = s := by
  unfold State.encStart
  split
  · rename_i k rest idle order
    rcases h with busy | none
    · simp [idle] at busy
    · cases (State.encOrder_none none).symm.trans order
  · rfl

variable {k : Nat} {rest : List Nat} {e : EncPic} (idle : s.enc.run = none) (order : s.encOrder = k :: rest) (waits : (s.encStream k).wait = some e)
include idle order waits

theorem State.encStart_held (h : encRuns s.mode = false ∨ s.unitAt bENC 0 e.pound = false) : s.encStart = s := by
  unfold State.encStart
  simp only [idle, order, waits]
  exact if_pos (by simpa using h)

/-- The first picture that waits starts with no row coded, as IDR where requested or due (R378, R383). -/
theorem State.encStart_starts (runs : encRuns s.mode = true) (acted : s.unitAt bENC 0 e.pound = true) :
    ∃ r, s.encStart.enc.run = some r ∧ s.encStart.enc.order = rest ∧ r.stream = k ∧ r.src = e ∧ r.qps = [] ∧ r.used = 0 ∧
      ((e.idr || (s.encStream k).dueIdr) = true → r.idr = true) := by
  unfold State.encStart
  simp only [idle, order, waits]
  rw [if_neg (by simp [runs, acted])]
  exact ⟨_, rfl, rfl, rfl, rfl, rfl, rfl, fun h => by simp [h]⟩

end

/-! The coding of a row: of the run it leaves the stream and the rows before. -/

/-- What packets and slices leave of a run: the stream and the QP of the rows. -/
def EncRun.rows (r : EncRun) : Nat × List Nat := (r.stream, r.qps)

theorem State.encClose_rows (s : State) (r : EncRun) (c : EncChan) : (s.encClose r c).2.rows = r.rows := by
  unfold State.encClose
  extract_lets
  split <;> rfl

theorem State.encPacket_rows (s : State) (r : EncRun) (flags : Nat) (d : List Byte) (close : Bool) : (s.encPacket r flags d close).2.rows = r.rows := by
  unfold State.encPacket
  extract_lets
  split
  · exact State.encClose_rows ..
  · rfl

theorem State.encSend_rows (fuel : Nat) : ∀ (s : State) (r : EncRun) (n : Nat) (first last : Bool) (d : List Byte),
    (State.encSend fuel s r n first last d).2.rows = r.rows := by
  induction fuel with
  | zero => exact fun _ _ _ _ _ _ => rfl
  | succ fuel ih =>
    intro s r n first last d
    unfold State.encSend
    extract_lets fin
    have sent := s.encPacket_rows r (b2n first * 2 + b2n fin * 4) (d.take n) (fin && last)
    generalize s.encPacket r (b2n first * 2 + b2n fin * 4) (d.take n) (fin && last) = p at sent
    dsimp only
    split
    · exact sent
    · exact (ih ..).trans sent

theorem State.encSlice_rows (s : State) (r : EncRun) (row last : Nat) (fin : Bool) : (s.encSlice r row last fin).2.rows = r.rows := by
  unfold State.encSlice
  extract_lets x nal flags ns u
  exact State.encSend_rows (u.length + 1) s r (max 1 (r.src.fld F.ENC_Sn_PKT_MAX_LEN r.stream)) true fin u

theorem State.encOne_rows (s : State) (r : EncRun) (row total c : Nat) : (s.encOne r row total c).2.rows = r.rows := by
  unfold State.encOne
  extract_lets
  split
  · exact State.encSlice_rows ..
  · rfl

theorem State.encCtus_rows (row total : Nat) (l : List Nat) : ∀ (s : State) (r : EncRun), (s.encCtus r row total l).2.rows = r.rows := by
  induction l with
  | nil => exact fun _ _ => rfl
  | cons c l ih => exact fun s r => (ih _ _).trans (s.encOne_rows r row total c)

/-! A picture that leaves the encoder. -/

/-- What the release of a picture leaves of the encoder: whether it runs, and of each stream whether an IDR picture is due and PIC. -/
def State.encMarks (s : State) : Option EncRun × List (Bool × Nat) := (s.enc.run, s.enc.streams.map (fun x => (x.dueIdr, x.pic)))

theorem State.encMarks_run (s : State) : s.encMarks.1 = s.enc.run := rfl

theorem State.encMarks_streams (s : State) : s.encMarks.2 = s.enc.streams.map (fun x => (x.dueIdr, x.pic)) := rfl

theorem map_modAt {α β : Type} (g : α → β) (f : α → α) (h : ∀ a, g (f a) = g a) : ∀ (l : List α) (i : Nat), (modAt l i f).map g = l.map g
  | [], _ => rfl
  | a :: r, 0 => by simp only [modAt, List.map_cons, h]
  | a :: r, i + 1 => by simp only [modAt, List.map_cons, map_modAt g f h r i]

theorem State.modEnc_stream (s : State) (k : Nat) (f : EncStream → EncStream) : (s.modEnc k f).enc.streams[k]? = s.enc.streams[k]?.map f :=
  getElem?_modAt f s.enc.streams k

theorem State.modEnc_marks (s : State) (k : Nat) (f : EncStream → EncStream) (h : ∀ x, ((f x).dueIdr, (f x).pic) = (x.dueIdr, x.pic)) :
    (s.modEnc k f).encMarks = s.encMarks :=
  congrArg (Prod.mk s.enc.run) (map_modAt (fun x => (x.dueIdr, x.pic)) f h s.enc.streams k)

theorem State.freeMoor_enc (s : State) (wait : Bool) (m : Nat) : (s.freeMoor wait m).enc = s.enc := rfl

theorem State.encFree_marks (s : State) (atOpen : Bool) (k : Nat) : (s.encFree atOpen k).encMarks = s.encMarks := by
  unfold State.encFree
  split
  · rfl
  · rename_i l _
    have freed := State.each_proj State.enc _ (fun s m => s.freeMoor_enc atOpen m) l s
    refine (State.modEnc_marks _ k (fun x => { x with moors := none }) (fun _ => rfl)).trans ?_
    unfold State.encMarks
    rw [freed]

theorem State.encSent_marks (s : State) (atOpen : Bool) (k : Nat) : (s.encSent atOpen k).encMarks = s.encMarks := by
  unfold State.encSent
  split
  · exact (State.modEnc_marks _ k (fun x => { x with closing := false }) (fun _ => rfl)).trans (s.encFree_marks atOpen k)
  · rfl

theorem State.dropOldBufs_enc (s : State) (atOpen : Bool) : (s.dropOldBufs atOpen).enc = s.enc :=
  State.each_proj State.enc _ (fun s m => s.freeMoor_enc atOpen m) _ s

theorem State.camSweep_enc (s : State) (atOpen : Bool) : (s.camSweep atOpen).enc = s.enc := by
  refine State.each_proj State.enc _ (fun s q => ?_) s.deadBufs s
  exact State.each_proj State.enc _ (fun s m => s.freeMoor_enc atOpen m) _ s

theorem State.encRelease_enc (s : State) (atOpen : Bool) : (s.encRelease atOpen).enc = s.enc :=
  (State.camSweep_enc ..).trans (State.dropOldBufs_enc ..)

theorem State.encLeave_marks (s : State) (k : Nat) : (s.encLeave k).encMarks = (none, s.encMarks.2) := by
  unfold State.encLeave
  refine (State.encSent_marks ..).trans ?_
  unfold State.encMarks
  rw [State.encRelease_enc]

theorem State.encLeave_run (s : State) (k : Nat) : (s.encLeave k).enc.run = none := by
  rw [← State.encMarks_run, State.encLeave_marks]

/-- Whether an IDR picture of a stream is due, and its PIC, are the marks of the stream. -/
theorem State.encStream_marks {s : State} {k : Nat} {marks : Bool × Nat} (h : s.encMarks.2[k]? = some marks) :
    ((s.encStream k).dueIdr, (s.encStream k).pic) = marks := by
  have listed : s.enc.streams[k]?.map (fun x => (x.dueIdr, x.pic)) = some marks := by rw [← List.getElem?_map]; exact h
  obtain ⟨x, found, mark⟩ := Option.map_eq_some_iff.mp listed
  have stream : s.encStream k = x := by rw [State.encStream, List.getD_eq_getElem?_getD, found, Option.getD_some]
  rw [stream]
  exact mark

theorem State.sendUdp_enc (s : State) (l : LFrame) (mac addr dport : Nat) (d : List Byte) : (s.sendUdp l mac addr dport d).enc = s.enc := by
  unfold State.sendUdp
  split <;> rfl

theorem State.encQueue_enc (s : State) (r : EncRun) (n : Nat) (d : List Byte) : (s.encQueue r n d).enc = s.enc := State.sendUdp_enc ..

theorem State.encClose_marks (s : State) (r : EncRun) (c : EncChan) : (s.encClose r c).1.encMarks = s.encMarks := by
  unfold State.encClose
  extract_lets s1
  split
  · rfl
  · unfold State.encMarks
    rw [State.encQueue_enc]
    rfl

/-- The picture stopped ends: its stream is due an IDR picture and its PIC has moved on (R385). -/
theorem State.encAbandon_run (s : State) (r : EncRun) (cause : Nat) : (s.encAbandon r cause).enc.run = none := by
  unfold State.encAbandon
  extract_lets
  exact State.encLeave_run ..

theorem State.encAbandon_stream (s : State) (r : EncRun) (cause : Nat) (listed : r.stream < s.enc.streams.length) :
    ((s.encAbandon r cause).encStream r.stream).dueIdr = true ∧
      ((s.encAbandon r cause).encStream r.stream).pic = ((s.encStream r.stream).pic + 1) % 65536 := by
  have marks : (s.encAbandon r cause).encMarks.2[r.stream]? = some (true, ((s.encStream r.stream).pic + 1) % 65536) := by
    unfold State.encAbandon
    extract_lets k s1 c s2
    have h2 : s2.encMarks = s.encMarks := by
      simp only [s2]
      split
      · rfl
      · exact (State.encClose_marks ..).trans rfl
    rw [State.encLeave_marks, State.encMarks_streams]
    have same : s2.enc.streams[k]?.map (fun x => (x.dueIdr, x.pic)) = s.enc.streams[k]?.map (fun x => (x.dueIdr, x.pic)) := by
      rw [← List.getElem?_map, ← List.getElem?_map, ← State.encMarks_streams, h2, State.encMarks_streams]
    rw [List.getElem?_eq_getElem listed, Option.map_some] at same
    obtain ⟨y, found, mark⟩ := Option.map_eq_some_iff.mp same
    have pic : y.pic = (s.encStream k).pic := by
      rw [State.encStream, List.getD_eq_getElem _ _ listed]
      exact (Prod.mk.inj mark).2
    rw [List.getElem?_map, State.modEnc_stream, found, Option.map_some, Option.map_some, pic]
  exact Prod.mk.inj (State.encStream_marks marks)

theorem State.encFinish_run (s : State) (r : EncRun) : (s.encFinish r).enc.run = none := by
  unfold State.encFinish
  extract_lets
  exact State.encLeave_run ..

/-! Rows. -/

theorem State.encRow_idle {s : State} (h : s.enc.run = none) : s.encRow = s := by
  unfold State.encRow
  rw [h]

theorem State.encRow_stopped {s : State} {r : EncRun} {c : Nat} (h : s.enc.run = some r) (stop : r.stop = some c) : s.encRow = s.encAbandon r c := by
  unfold State.encRow
  simp only [h, stop]

/-- A row coded is the next row of a run that has finished with the last row, and goes on before it. -/
theorem State.encRow_codes {s : State} {r : EncRun} (h : s.enc.run = some r) (on : r.stop = none) : ∃ (v : State) (q : EncRun) (qp : Nat),
    q.rows = (r.stream, r.qps ++ [qp]) ∧ s.encRow = if ceilDiv (r.src.fld F.ENC_Sn_SIZE_OH r.stream) 64 ≤ r.qps.length + 1 then v.encFinish q
      else { v with enc := { v.enc with run := some q } } := by
  unfold State.encRow
  split
  · rename_i idle
    cases h.symm.trans idle
  rename_i r' run
  cases h.symm.trans run
  split
  · rename_i c stop
    cases on.symm.trans stop
  extract_lets k e per rows row r1 fin mode
  have coded := State.encCtus_rows row (per * rows) ((List.range per).map (row * per + ·)) s r1
  split
  rename_i s2 r2 e2
  rw [e2] at coded
  extract_lets r3 due
  have h3 : r3.rows = r2.rows := by
    simp only [r3]
    split <;> rfl
  have sliced := s2.encSlice_rows r3 row ((row + 1) * per - 1) fin
  split
  rename_i s4 r4 e4
  have h4 : r4.rows = r3.rows := by
    split at e4 <;> cases e4
    · exact sliced
    · rfl
  extract_lets plan r5 r6
  have h5 : r5.rows = r4.rows := by
    simp only [r5]
    split <;> rfl
  have h6 : r6.rows = r5.rows := by
    simp only [r6]
    split <;> rfl
  refine ⟨s4, r6, _, h6.trans (h5.trans (h4.trans (h3.trans coded))), ?_⟩
  simp only [fin, decide_eq_true_eq]
  rfl

theorem State.encRow_last {s : State} {r : EncRun} (h : s.enc.run = some r) (on : r.stop = none)
    (last : ceilDiv (r.src.fld F.ENC_Sn_SIZE_OH r.stream) 64 ≤ r.qps.length + 1) : s.encRow.enc.run = none := by
  obtain ⟨v, q, qp, -, coded⟩ := State.encRow_codes h on
  rw [coded, if_pos last]
  exact v.encFinish_run q

theorem State.encRow_goesOn {s : State} {r : EncRun} (h : s.enc.run = some r) (on : r.stop = none)
    (more : r.qps.length + 1 < ceilDiv (r.src.fld F.ENC_Sn_SIZE_OH r.stream) 64) :
    ∃ q, s.encRow.enc.run = some q ∧ q.stream = r.stream ∧ q.qps.length = r.qps.length + 1 := by
  obtain ⟨v, q, qp, rows, coded⟩ := State.encRow_codes h on
  obtain ⟨stream, qps⟩ := Prod.mk.inj rows
  rw [coded, if_neg (Nat.not_le.mpr more)]
  exact ⟨q, rfl, stream, by rw [qps, List.length_append]; rfl⟩

end Sys2Proof.Machine

namespace Sys2Proof.Proofs

open Machine Safety Claims

/-- Settles O39. -/
theorem encoderRuns : Obligations.EncoderRuns := by
  intro s t k v alive
  rw [exec_encIdr t alive, exec_encPictureStart t alive, exec_encRowDone t alive]
  refine ⟨fun set => congrArg _ (if_pos set), fun clear => congrArg _ (if_neg (Bool.eq_false_iff.mp clear)),
    fun h => congrArg _ (State.encStart_busy (s := s.tick t) h), fun gone rest e idle order taken waits => ?_,
    fun idle => congrArg _ (State.encRow_idle (s := s.tick t) idle), fun r c run stop => ?_, fun r run on more => ?_, fun r run on last => ?_⟩
  · have first := State.encOrder_first (s := s.tick t) order taken waits
    refine ⟨fun held => congrArg _ (State.encStart_held (s := s.tick t) idle first waits held), fun runs acted => ?_⟩
    obtain ⟨r, started⟩ := State.encStart_starts (s := s.tick t) idle first waits runs acted
    exact ⟨_, r, rfl, started⟩
  · rw [State.encRow_stopped (s := s.tick t) run stop]
    exact ⟨_, rfl, State.encAbandon_run .., State.encAbandon_stream (s.tick t) r c⟩
  · obtain ⟨q, coded⟩ := State.encRow_goesOn (s := s.tick t) run on more
    exact ⟨_, q, rfl, coded⟩
  · exact ⟨_, rfl, State.encRow_last (s := s.tick t) run on last⟩

end Sys2Proof.Proofs

namespace Sys2Proof.Machine

open Safety Claims

/-! The tug (R285 to R295). -/

section
variable {s : State} (t : Nat) (alive : s.alive = true)
include alive

theorem exec_tugUpdateStart : exec (.tugUpdateStart t) s = .next (s.tick t).tugStart := State.live_alive t State.tugStart alive

theorem exec_tugUpdateDone (n : Nat) (abort : Option Nat) : exec (.tugUpdateDone t n abort) s = .next ((s.tick t).tugDone n abort) :=
  State.live_alive t (fun s => s.tugDone n abort) alive

end

/-! The start of an update (R291). -/

/-- A queue in which an update has started that had not. -/
def startIn (q : List TugJob) (j : TugJob) : List TugJob := q.takeWhile (fun x => decide (x ≠ j)) ++ { j with started := true } :: after q j

theorem queue_around {q : List TugJob} {j : TugJob} (h : j ∈ q) : q.takeWhile (fun x => decide (x ≠ j)) ++ j :: after q j = q := by
  induction q with
  | nil => cases h
  | cons a r ih =>
    by_cases e : a = j
    · subst e
      simp [after]
    · have rest := ih ((List.mem_cons.mp h).resolve_left (fun h => e h.symm))
      simpa [after, e] using rest

theorem startIn_running {q : List TugJob} {j : TugJob} (h : j ∈ q) (waits : j.started = false) :
    ((startIn q j).filter TugJob.started).length = (q.filter TugJob.started).length + 1 := by
  conv_rhs => rw [← queue_around h]
  simp [startIn, waits]
  omega

section
variable {s : State}

theorem State.tugStart_none (h : s.tug.queue.find? (fun j => !j.started) = none) : s.tugStart = s := by
  unfold State.tugStart
  extract_lets
  rw [h]

variable {j : TugJob}

/-- What keeps the next update from starting. -/
def State.tugHeld (s : State) (j : TugJob) : Prop :=
  has s.mode mHOLD = true ∨ s.unitAt bTUG 0 j.from_ = false ∨ 4 ≤ (s.tug.queue.filter TugJob.started).length ∨
    (s.tug.queue.filter TugJob.started).any (fun r => s.tug.conflict r j) = true

theorem State.tugStart_held (next : s.tug.queue.find? (fun j => !j.started) = some j) (held : s.tugHeld j) : s.tugStart = s := by
  unfold State.tugStart
  extract_lets q running
  rw [next]
  exact if_pos (by simpa [State.tugHeld, q, running] using held)

theorem State.tugStart_starts (next : s.tug.queue.find? (fun j => !j.started) = some j) (free : ¬ s.tugHeld j) :
    s.tugStart = { s with tug := { s.tug with queue := startIn s.tug.queue j } } := by
  unfold State.tugStart
  extract_lets q running
  rw [next]
  exact if_neg (by simpa [State.tugHeld, q, running] using free)

end

/-! The end of an update (R292 to R295). -/

theorem State.tugEnd_tug (s : State) (j : TugJob) (status : Nat) : (s.tugEnd j status).tug = s.tug := by
  unfold State.tugEnd
  simp only [apply_ite State.tug, State.inc_tug, State.wr_tug, ite_self]

theorem State.tugEnd_basin (s : State) (j : TugJob) (status : Nat) : (s.tugEnd j status).basin = s.basin := by
  unfold State.tugEnd
  simp only [apply_ite State.basin, State.inc_basin, State.wr_basin, ite_self]

theorem State.raiseOnce_tug (s : State) (code block key arg0 arg1 : Nat) : (s.raiseOnce code block key arg0 arg1).tug = s.tug := by
  unfold State.raiseOnce State.raiseOnceI
  split <;> rfl

theorem State.raiseOnce_basin (s : State) (code block key arg0 arg1 : Nat) : (s.raiseOnce code block key arg0 arg1).basin = s.basin := by
  unfold State.raiseOnce State.raiseOnceI
  split <;> rfl

section
variable {s : State} {n : Nat} {abort : Option Nat}

theorem State.tugDone_none (h : (s.tug.queue.filter TugJob.started)[n]? = none) : s.tugDone n abort = s := by
  unfold State.tugDone
  rw [h]

/-- The update has left the queue. -/
def State.tugTaken (s : State) (j : TugJob) : State := { s with tug := { s.tug with queue := s.tug.queue.erase j } }

/-- An update of which the first pixels only were written, when it was aborted (R295). -/
def abortedAt (abort : Option Nat) (px : List (Nat × Nat × Nat)) : List (Nat × Nat × Nat) := match abort with | some m => px.take m | none => px

/-- The pixels that an update writes with an open seed. -/
def State.pixelsDone (s : State) (j : TugJob) (c : CardInst) (abort : Option Nat) (seed : Nat) : List (Nat × Nat × Nat) :=
  abortedAt abort (s.tugPixels j c (fun k => Config.freeNat (seed + k)))

/-- The pixels of an update, written and counted. -/
def State.writePixels (s : State) (j : TugJob) (c : CardInst) (px : List (Nat × Nat × Nat)) : State :=
  let total := s.tug.px + px.length
  { s with basin := px.foldl (fun b (p : Nat × Nat × Nat) => b.putCard (c.surf j.second) c.width p.1 p.2.1 p.2.2) s.basin,
           tug := { s.tug with px := total % 256 } }.add F.TUG_PX_CNT_COUNT (total / 256)

theorem State.writePixels_basin (s : State) (j : TugJob) (c : CardInst) (px : List (Nat × Nat × Nat)) :
    (s.writePixels j c px).basin = px.foldl (fun b (p : Nat × Nat × Nat) => b.putCard (c.surf j.second) c.width p.1 p.2.1 p.2.2) s.basin := by
  unfold State.writePixels
  rw [State.add_basin]

theorem State.writePixels_queue (s : State) (j : TugJob) (c : CardInst) (px : List (Nat × Nat × Nat)) :
    (s.writePixels j c px).tug.queue = s.tug.queue := by
  unfold State.writePixels
  rw [State.add_tug]

/-- An update noted as aborted, for a second UPDATE_ABORT (R295). -/
def State.noteAborted (s : State) (j : TugJob) : State := { s with tug := { s.tug with aborted := (j.slot, j.layer, j.tag) :: s.tug.aborted } }

/-- The mark that a region with overlapping pieces leaves on the surface of the update (R292). -/
def State.markLap (s : State) (j : TugJob) (c : CardInst) : State :=
  { s with tug := s.tug.setCard (if j.second then { c with mark1 := true } else { c with mark0 := true }) }

/-- The pieces of the region of an update overlap (R292). -/
def laps (j : TugJob) : Bool := match j.region with | some r => r.overlaps | none => false

/-- The answer to an update whose pixels are written: aborted, overlapping or good (R292, R293, R295). -/
def State.tugAnswer (s : State) (j : TugJob) (c : CardInst) (abort : Option Nat) : State :=
  match abort with
  | some _ => ((s.noteAborted j).tugEnd j 3).raise 0xB01 bTUG (j.layer + 256 * j.slot) j.tag
  | none => if laps j then ((s.markLap j c).tugEnd j 1).raiseOnce 0xB00 bTUG 0 (j.layer + 256 * j.slot) j.tag else s.tugEnd j 0

theorem State.tugAnswer_basin (s : State) (j : TugJob) (c : CardInst) (abort : Option Nat) : (s.tugAnswer j c abort).basin = s.basin := by
  unfold State.tugAnswer
  split
  · rw [State.raise_basin, State.tugEnd_basin]
    rfl
  · simp only [apply_ite State.basin, State.raiseOnce_basin, State.tugEnd_basin]
    exact ite_self _

theorem State.tugAnswer_queue (s : State) (j : TugJob) (c : CardInst) (abort : Option Nat) : (s.tugAnswer j c abort).tug.queue = s.tug.queue := by
  unfold State.tugAnswer
  split
  · rw [State.raise_tug, State.tugEnd_tug]
    rfl
  · simp only [apply_ite State.tug, State.raiseOnce_tug, State.tugEnd_tug]
    split <;> rfl

theorem State.tugAnswer_aborted (s : State) (j : TugJob) (c : CardInst) (m : Nat) :
    (s.tugAnswer j c (some m)).tug.aborted = (j.slot, j.layer, j.tag) :: s.tug.aborted := by
  unfold State.tugAnswer
  rw [State.raise_tug, State.tugEnd_tug]
  rfl

variable {j : TugJob} (running : (s.tug.queue.filter TugJob.started)[n]? = some j)
include running

theorem State.tugDone_cardless (h : s.tug.card j.slot j.layer = none) : s.tugDone n abort = (s.tugTaken j).tugEnd j 4 := by
  unfold State.tugDone
  split
  · rename_i off
    cases running.symm.trans off
  · rename_i j' on
    cases running.symm.trans on
    extract_lets s1
    split
    · rfl
    · rename_i c on
      cases h.symm.trans on

theorem State.tugDone_card {c : CardInst} (h : s.tug.card j.slot j.layer = some c) :
    s.tugDone n abort =
      ((s.tugTaken j).chooseNat.2.writePixels j c (s.pixelsDone j c abort (Config.freeNat s.choices))).tugAnswer j c abort := by
  unfold State.tugDone
  split
  · rename_i off
    cases running.symm.trans off
  rename_i j' on
  cases running.symm.trans on
  extract_lets s1
  split
  · rename_i off
    cases h.symm.trans off
  rename_i c' on
  cases h.symm.trans on
  unfold State.pixelsDone abortedAt State.writePixels State.tugAnswer
  cases abort with
  | some m => rfl
  | none => rfl

end

end Sys2Proof.Machine

namespace Sys2Proof.Proofs

open Machine Safety Claims

/-- Settles O30. -/
theorem tugUpdatesRun : Obligations.TugUpdatesRun := by
  intro s t n abort alive
  rw [exec_tugUpdateStart t alive, exec_tugUpdateDone t alive]
  refine ⟨fun none => congrArg _ (State.tugStart_none (s := s.tick t) none), fun held => ?_, fun j next conflict => ?_, fun j next unready => ?_,
    fun j outside next ready few apart => ?_, fun none => congrArg _ (State.tugDone_none (s := s.tick t) none), fun j running => ⟨fun card => ?_, fun c card => ?_⟩⟩
  · cases next : s.tug.queue.find? (fun j => !j.started) with
    | none => exact congrArg _ (State.tugStart_none (s := s.tick t) next)
    | some j => exact congrArg _ (State.tugStart_held (s := s.tick t) next (held.imp_right (fun four => .inr (.inl four))))
  · exact congrArg _ (State.tugStart_held (s := s.tick t) next (.inr (.inr (.inr conflict))))
  · exact congrArg _ (State.tugStart_held (s := s.tick t) next (.inr (.inl unready)))
  · have free : ¬ (s.tick t).tugHeld j := by
      have apart' : ¬ (s.tug.queue.filter TugJob.started).any (fun r => s.tug.conflict r j) = true := by simpa using apart
      rintro (hold | unready | four | conflict)
      · exact absurd (outside.symm.trans hold) (by decide)
      · exact absurd (unready.symm.trans ready) (by decide)
      · exact absurd four (Nat.not_le.mpr few)
      · exact apart' conflict
    rw [State.tugStart_starts (s := s.tick t) next free]
    have listed : j ∈ s.tug.queue := List.mem_of_find?_eq_some next
    have waits : j.started = false := by simpa using List.find?_some next
    exact ⟨_, rfl, startIn_running listed waits, List.mem_append_right _ List.mem_cons_self, rfl⟩
  · rw [State.tugDone_cardless (s := s.tick t) running card]
    refine ⟨_, rfl, ?_, ?_⟩
    · rw [State.tugEnd_tug]
      rfl
    · rw [State.tugEnd_basin]
      rfl
  · rw [State.tugDone_card (s := s.tick t) running card]
    refine ⟨_, Config.freeNat (s.tick t).choices, rfl, ?_, ?_, ?_⟩
    · rw [State.tugAnswer_queue, State.writePixels_queue]
      rfl
    · rw [State.tugAnswer_basin, State.writePixels_basin]
      unfold State.pixelsDone abortedAt
      cases abort <;> rfl
    · intro aborts
      obtain ⟨m, rfl⟩ := Option.isSome_iff_exists.mp aborts
      rw [State.tugAnswer_aborted]
      exact List.mem_cons_self

end Sys2Proof.Proofs

namespace Sys2Proof.Machine

open Safety Claims

/-! How far the image load has come: what no operation changes but those of the load and of resets (R95, R108). -/

/-- The records that wait and the phase of the load. -/
def State.loadAt (s : State) : Option (List Byte × Nat × Bool) × LoadPhase := (s.img.recs, s.img.load)

theorem State.each_loadAt {α : Type} (s : State) (l : List α) (f : State → α → State) (h : ∀ s a, (f s a).loadAt = s.loadAt) :
    (s.each l f).loadAt = s.loadAt :=
  State.each_proj State.loadAt f h l s

theorem State.when_loadAt (s : State) (c : Bool) (f : State → State) (h : ∀ s, (f s).loadAt = s.loadAt) : (s.when c f).loadAt = s.loadAt := by
  unfold State.when
  split
  · exact h s
  · rfl

theorem State.wr_loadAt (s : State) (f : Fld) (v : Nat) : (s.wr f v).loadAt = s.loadAt := rfl
theorem State.wrW_loadAt (s : State) (a : Nat) (w : Word) : (s.wrW a w).loadAt = s.loadAt := rfl
theorem State.inc_loadAt (s : State) (f : Fld) : (s.inc f).loadAt = s.loadAt := rfl
theorem State.raise_loadAt (s : State) (code block arg0 arg1 : Nat) : (s.raise code block arg0 arg1).loadAt = s.loadAt := rfl
theorem State.raiseI_loadAt (s : State) (code block inst arg0 arg1 : Nat) : (s.raiseI code block inst arg0 arg1).loadAt = s.loadAt := rfl
theorem State.modUnit_loadAt (s : State) (block inst : Nat) (f : UnitSt → UnitSt) : (s.modUnit block inst f).loadAt = s.loadAt := rfl

theorem State.faultLow_loadAt (s : State) : s.faultLow.loadAt = s.loadAt := by
  unfold State.faultLow
  grind [State.loadAt]

theorem State.recoveryOf_loadAt (s : State) (code : Nat) : (s.recoveryOf code).loadAt = s.loadAt := by
  unfold State.recoveryOf
  grind [State.loadAt]

theorem State.openWindow_loadAt (s : State) (code : Nat) (busy : Bool) : (s.openWindow code busy).loadAt = s.loadAt := by
  unfold State.openWindow
  grind [State.loadAt]

theorem State.noteFaultIn_loadAt (s : State) (code : Nat) (busy : Bool) : (s.noteFaultIn code busy).loadAt = s.loadAt := by
  unfold State.noteFaultIn
  grind [State.openWindow_loadAt, State.wr_loadAt, State.raise_loadAt, State.loadAt]

theorem State.alert_loadAt (s : State) (f : Fld) : (s.alert f).loadAt = s.loadAt := by
  unfold State.alert
  grind [State.wr_loadAt, State.raise_loadAt, State.loadAt]

theorem State.flightKick_loadAt (s : State) : s.flightKick.loadAt = s.loadAt := rfl

theorem State.startReload_loadAt (s : State) (block inst : Nat) : (s.startReload block inst).loadAt = s.loadAt := by
  unfold State.startReload
  grind [State.modUnit_loadAt, State.loadAt]

theorem State.endReload_loadAt (s : State) (block inst : Nat) : (s.endReload block inst).loadAt = s.loadAt := by
  unfold State.endReload
  grind [State.modUnit_loadAt, State.raiseI_loadAt, State.loadAt]

/-! The NVM sequencer (R104 to R108). -/

theorem State.showNvm_loadAt (s : State) : s.showNvm.loadAt = s.loadAt := by
  unfold State.showNvm
  grind [State.wr_loadAt, State.loadAt]

theorem State.nvmStart_loadAt (s : State) : s.nvmStart.loadAt = s.loadAt := by
  unfold State.nvmStart
  grind [State.showNvm_loadAt, State.loadAt]

theorem State.updState_loadAt (s : State) (st arg1 : Nat) : (s.updState st arg1).loadAt = s.loadAt := by
  unfold State.updState
  grind [State.wr_loadAt, State.showNvm_loadAt, State.raise_loadAt, State.loadAt]

theorem State.updFail_loadAt (s : State) (cause : Nat) : (s.updFail cause).loadAt = s.loadAt := by
  unfold State.updFail
  grind [State.wr_loadAt, State.updState_loadAt, State.loadAt]

theorem State.nvmFinish_loadAt (s : State) (who : NvmWho) : (s.nvmFinish who).loadAt = s.loadAt := by
  unfold State.nvmFinish
  grind [State.raise_loadAt, State.wr_loadAt, State.updState_loadAt, State.inc_loadAt, State.loadAt]

theorem State.relog_loadAt (s : State) (j : NvmJob) (i off : Nat) : (s.relog j i off).loadAt = s.loadAt := by
  unfold State.relog
  grind [State.loadAt]

theorem State.nvmGiveUp_loadAt (s : State) (j : NvmJob) : (s.nvmGiveUp j).loadAt = s.loadAt := by
  unfold State.nvmGiveUp
  grind [State.updFail_loadAt, State.relog_loadAt, State.wr_loadAt, State.loadAt]

theorem State.nvmProgress_loadAt (s : State) (who : NvmWho) (o : NvmOp) : (s.nvmProgress who o).loadAt = s.loadAt := by
  unfold State.nvmProgress
  grind [State.wr_loadAt, State.loadAt]

theorem State.nvmFailed_loadAt (s : State) (j : NvmJob) (o : NvmOp) : (s.nvmFailed j o).loadAt = s.loadAt := by
  unfold State.nvmFailed
  grind [State.raise_loadAt, State.wr_loadAt, State.showNvm_loadAt, State.nvmGiveUp_loadAt, State.nvmStart_loadAt, State.loadAt]

theorem State.nvmDone_loadAt (s : State) (same : Bool) : (s.nvmDone same).loadAt = s.loadAt := by
  unfold State.nvmDone
  grind [State.nvmStart_loadAt, State.wr_loadAt, State.nvmProgress_loadAt, State.showNvm_loadAt, State.nvmFinish_loadAt, State.nvmFailed_loadAt,
    ImgSt.applied, State.loadAt]

theorem State.nvmTimeout_loadAt (s : State) : s.nvmTimeout.loadAt = s.loadAt := by
  unfold State.nvmTimeout
  grind [State.nvmDone_loadAt]

theorem State.nvmBrace_loadAt (s : State) : s.nvmBrace.loadAt = s.loadAt := by
  unfold State.nvmBrace
  grind [State.loadAt]

theorem State.nvmResume_loadAt (s : State) : s.nvmResume.loadAt = s.loadAt := by
  unfold State.nvmResume
  grind [State.wr_loadAt, State.raise_loadAt, State.loadAt]

theorem State.nvmSuspended_loadAt (s : State) : s.nvmSuspended.loadAt = s.loadAt := by
  unfold State.nvmSuspended
  grind [State.wr_loadAt, State.nvmResume_loadAt, State.loadAt]

/-! The power flight and braces (R74 to R85). -/

theorem State.reqDown_loadAt (s : State) (d : Nat) : (s.reqDown d).loadAt = s.loadAt := by
  unfold State.reqDown
  exact State.when_loadAt _ _ _ (fun _ => State.recoveryOf_loadAt ..)

theorem State.domainDrained_loadAt (s : State) (d : Nat) : (s.domainDrained d).loadAt = s.loadAt := by
  unfold State.domainDrained
  grind [State.reqDown_loadAt, State.flightKick_loadAt, State.loadAt]

theorem State.powerGood_loadAt (s : State) : s.powerGood.loadAt = s.loadAt := by
  unfold State.powerGood
  grind [State.each_loadAt, State.startReload_loadAt, State.loadAt]

theorem State.powerTimeout_loadAt (s : State) : s.powerTimeout.loadAt = s.loadAt := by
  unfold State.powerTimeout
  grind [State.raise_loadAt, State.recoveryOf_loadAt, State.wrW_loadAt, State.faultLow_loadAt, State.noteFaultIn_loadAt, State.loadAt]

theorem State.slotEnd_loadAt (s : State) : s.slotEnd.loadAt = s.loadAt := by
  unfold State.slotEnd
  grind [State.powerTimeout_loadAt, State.when_loadAt, State.recoveryOf_loadAt, State.each_loadAt, State.endReload_loadAt,
    State.flightKick_loadAt, State.loadAt]

theorem State.selfExitStart_loadAt (s : State) : s.selfExitStart.loadAt = s.loadAt := by
  unfold State.selfExitStart
  grind [State.loadAt]

theorem State.flightSlot_loadAt (s : State) : s.flightSlot.loadAt = s.loadAt := by
  unfold State.flightSlot
  grind [State.flightKick_loadAt, State.slotEnd_loadAt, State.loadAt]

theorem State.warnTrip_loadAt (s : State) (mon : Nat) : (s.warnTrip mon).loadAt = s.loadAt := by
  unfold State.warnTrip
  grind [State.wr_loadAt, State.inc_loadAt, State.nvmBrace_loadAt, State.noteFaultIn_loadAt, State.loadAt]

theorem State.braceEnd_loadAt (s : State) : s.braceEnd.loadAt = s.loadAt := by
  unfold State.braceEnd
  grind [State.wr_loadAt, State.raise_loadAt, State.recoveryOf_loadAt, State.nvmResume_loadAt, State.nvmStart_loadAt, State.flightKick_loadAt, State.loadAt]

theorem State.overvolt_loadAt (s : State) (mon : Nat) : (s.overvolt mon).loadAt = s.loadAt := by
  unfold State.overvolt
  grind [State.wr_loadAt, State.raise_loadAt, State.loadAt]

/-! Panel care (R339 to R349). -/

theorem State.modLane_loadAt (s : State) (n : Nat) (f : LaneSt → LaneSt) : (s.modLane n f).loadAt = s.loadAt := by
  unfold State.modLane
  grind [State.loadAt]

theorem State.laneStates_loadAt (s : State) (v : Nat) : (s.laneStates v).loadAt = s.loadAt := by
  unfold State.laneStates
  grind [State.each_loadAt, State.wr_loadAt, State.loadAt]

theorem State.txMark_loadAt (s : State) (k : Nat) : (s.txMark k).loadAt = s.loadAt := by
  unfold State.txMark
  grind [State.loadAt]

theorem State.panelStart_loadAt (s : State) : s.panelStart.loadAt = s.loadAt := by
  unfold State.panelStart
  grind [State.wr_loadAt, State.loadAt]

theorem State.panelTry_loadAt (s : State) : s.panelTry.loadAt = s.loadAt := by
  unfold State.panelTry
  grind [State.panelStart_loadAt, State.loadAt]

theorem State.panelOff_loadAt (s : State) : s.panelOff.loadAt = s.loadAt := by
  unfold State.panelOff
  grind [State.txMark_loadAt, State.laneStates_loadAt, State.loadAt]

theorem State.panelDown_loadAt (s : State) (cause : Nat) : (s.panelDown cause).loadAt = s.loadAt := by
  unfold State.panelDown
  grind [State.panelOff_loadAt, State.wr_loadAt, State.loadAt]

theorem State.trainTaps_loadAt (s : State) : s.trainTaps.loadAt = s.loadAt := by
  unfold State.trainTaps
  grind [State.each_loadAt, State.wr_loadAt, State.modLane_loadAt, State.loadAt]

theorem State.panelTrain_loadAt (s : State) : s.panelTrain.loadAt = s.loadAt := by
  unfold State.panelTrain
  grind [State.txMark_loadAt, State.wr_loadAt, State.trainTaps_loadAt, State.laneStates_loadAt, State.loadAt]

theorem State.panelStep_loadAt (s : State) : s.panelStep.loadAt = s.loadAt := by
  unfold State.panelStep
  grind [State.panelTrain_loadAt, State.wr_loadAt, State.loadAt]

theorem State.dischargeEnd_loadAt (s : State) : s.dischargeEnd.loadAt = s.loadAt := by
  unfold State.dischargeEnd
  grind [State.wr_loadAt, State.raise_loadAt, State.panelTry_loadAt, State.loadAt]

theorem State.panelFast_loadAt (s : State) (trigger : Nat) : (s.panelFast trigger).loadAt = s.loadAt := by
  unfold State.panelFast
  grind [State.panelOff_loadAt, State.wr_loadAt, State.loadAt]

theorem State.vinTrip_loadAt (s : State) : s.vinTrip.loadAt = s.loadAt := by
  unfold State.vinTrip
  grind [State.panelFast_loadAt, State.wr_loadAt, State.loadAt]

theorem State.panelRetry_loadAt (s : State) : s.panelRetry.loadAt = s.loadAt := by
  unfold State.panelRetry
  grind [State.panelTry_loadAt, State.loadAt]

theorem State.vrefSense_loadAt (s : State) (code : Int) : (s.vrefSense code).loadAt = s.loadAt := by
  unfold State.vrefSense
  grind [State.raise_loadAt, State.alert_loadAt, State.loadAt]

theorem State.vholdSense_loadAt (s : State) (mv : Nat) : (s.vholdSense mv).loadAt = s.loadAt := by
  unfold State.vholdSense
  grind [State.wr_loadAt, State.raise_loadAt, State.loadAt]

theorem State.vinSense_loadAt (s : State) (mv : Nat) : (s.vinSense mv).loadAt = s.loadAt := by
  unfold State.vinSense
  grind [State.wr_loadAt, State.loadAt]

theorem State.crackSample_loadAt (s : State) (level : Bool) : (s.crackSample level).loadAt = s.loadAt := by
  unfold State.crackSample
  grind [State.loadAt]

theorem State.crackLatch_loadAt (s : State) : s.crackLatch.loadAt = s.loadAt := by
  unfold State.crackLatch
  grind [State.wr_loadAt, State.raise_loadAt, State.alert_loadAt, State.panelDown_loadAt, State.panelFast_loadAt, State.loadAt]

/-! Housekeeping and the I2C target (R430 to R435, R455). -/

theorem State.hkChan_loadAt (s : State) (c : Nat) (v : Nat) : (s.hkChan c v).loadAt = s.loadAt := by
  unfold State.hkChan
  grind [State.wr_loadAt, State.loadAt]

theorem State.failSensor_loadAt (s : State) (i cause : Nat) : (s.failSensor i cause).loadAt = s.loadAt := by
  unfold State.failSensor
  grind [State.wr_loadAt, State.raiseI_loadAt, State.loadAt]

theorem State.hkSlot_loadAt (s : State) (slot : Nat) (v : Int) : (s.hkSlot slot v).loadAt = s.loadAt := by
  unfold State.hkSlot
  grind [State.wr_loadAt, State.failSensor_loadAt, State.hkChan_loadAt, State.vrefSense_loadAt, State.crackSample_loadAt, State.vholdSense_loadAt,
    State.vinSense_loadAt, State.loadAt]

theorem State.sensorFail_loadAt (s : State) (i : Nat) : (s.sensorFail i).loadAt = s.loadAt := by
  unfold State.sensorFail
  grind [State.failSensor_loadAt, State.loadAt]

theorem State.sensorRestore_loadAt (s : State) (i : Nat) : (s.sensorRestore i).loadAt = s.loadAt := by
  unfold State.sensorRestore
  grind [State.wr_loadAt, State.raiseI_loadAt, State.loadAt]

theorem State.i2cReadWord_loadAt (s : State) (a : Nat) : (s.i2cReadWord a).2.loadAt = s.loadAt := by
  unfold State.i2cReadWord
  grind [State.loadAt]

theorem State.i2cWord_loadAt (s : State) (a : Nat) : (s.i2cWord a).2.loadAt = s.loadAt := by
  unfold State.i2cWord
  grind [State.i2cReadWord_loadAt, State.loadAt]

theorem State.i2cBytes_loadAt (s : State) (x0 : Nat) (x1 : List Byte) : (s.i2cBytes x0 x1).1.loadAt = s.loadAt := by
  induction x0 generalizing s x1 with
  | zero => rfl
  | succ k ih => exact (ih _ _).trans (State.i2cWord_loadAt ..)

theorem State.i2cRead_loadAt (s : State) (n : Nat) : (s.i2cRead n).loadAt = s.loadAt := by
  unfold State.i2cRead
  grind [State.i2cBytes_loadAt, State.i2cWord_loadAt, State.loadAt]

end Sys2Proof.Machine

namespace Sys2Proof.Machine

open Safety Claims

/-! The committed set and the index of the commit store (R31, R32). -/

/-- The committed set and the index of the commit store. -/
def State.store (s : State) : CSet × Bool := (s.cset, s.led.index)

theorem State.store_of_kept {s v : State} (h : v.kept = s.kept) : v.store = s.store := congrArg (fun k => (k.cset, k.index)) h

/-- Nothing that moves a phase or the OTP reaches the commit store. -/
theorem State.store_of_kept_but {s v : State} {b : Base} {p : Phase} (h : v.kept = { s.kept with base := b, phase := p }) : v.store = s.store :=
  congrArg (fun k => (k.cset, k.index)) h

theorem State.lockClose_store (s : State) : s.lockClose.store = s.store := by
  by_cases closes : s.lock.running = true ∧ s.lock.phase = .idle
  · obtain ⟨v, p, mode, own, frozen, begun⟩ := s.lockClose_eq closes.1 closes.2
    rw [frozen]
    exact State.store_of_kept_but ((v.freeze_kept p mode own).trans begun)
  · rw [s.lockClose_off (by simpa [-not_and, Decidable.not_and_iff_or_not] using closes)]

theorem State.cycleEnd_store (s : State) : s.cycleEnd.store = s.store := by
  unfold State.cycleEnd
  split
  · rfl
  · exact (show _ = s.drainHold.store from rfl).trans (State.store_of_kept s.drainHold_kept)

theorem State.ledgerWrite_kept {a rw rws : Nat} (masks : accessMasks a = (rw, rws, 0, 0)) (s : State) (v : Word) (mask : Nat) :
    (s.ledgerWrite a v mask).kept = s.kept := by
  unfold State.ledgerWrite
  split
  · exact State.busyEvent_kept ..
  · rw [masks]
    exact (State.ite_kept rfl (State.rwsWrite_kept ..)).trans (State.ite_kept rfl (State.rwWrite_kept ..))

theorem accessMasks_monCfg : accessMasks R.LANE_MON_CFG = (831, 0, 0, 0) := rfl

theorem State.jtagTest_store (s : State) (ir : JtagIr) (dr : List Bool) : (s.jtagTest ir dr).store = s.store := by
  unfold State.jtagTest
  (repeat' split) <;> rfl

theorem State.jtagBypass_store (s : State) : s.jtagBypass.store = s.store := by
  unfold State.jtagBypass
  split <;> rfl

theorem State.jtagIdcode_store (s : State) : s.jtagIdcode.store = s.store := by
  unfold State.jtagIdcode
  split <;> rfl

theorem State.jtagSample_store (s : State) (pins preload : List Bool) : (s.jtagSample pins preload).store = s.store := by
  unfold State.jtagSample
  split <;> rfl

/-! A command by which a waiting load may go on adds nothing while no record waits and the load is not off (R95, R108). -/

theorem State.recordsRun_none {s : State} (none : s.img.recs = none) : s.recordsRun = s := by
  unfold State.recordsRun
  rw [none]

theorem State.flashFree_on {s : State} (on : s.img.load ≠ .off) : s.flashFree = s := if_neg (fun h => on h.2.1)

theorem State.loading_none {s : State} {f : State → State} (none : s.img.recs = none) (loadAt : (f s).loadAt = s.loadAt) : s.loading f = f s := by
  unfold State.loading
  rw [State.recordsRun_none none, State.recordsRun_none ((congrArg Prod.fst loadAt).trans none)]

section
variable {s u : State} {t a : Nat} {f : State → State}

theorem State.at_store {c : State → Bool} (h : ∀ s, (f s).store = s.store) : (s.at_ t c f).store = s.store := by
  unfold State.at_
  extract_lets v
  split
  · exact h v
  · rfl

theorem State.live_store (h : ∀ s, (f s).store = s.store) (e : s.live t f = .next u) : u.store = s.store := by
  cases e
  exact State.at_store h

theorem State.live_store_of_kept (h : ∀ s, (f s).kept = s.kept) (e : s.live t f = .next u) : u.store = s.store :=
  State.live_store (fun s => State.store_of_kept (h s)) e

theorem State.liveAt_store_of_kept (h : ∀ s, (f s).kept = s.kept) (e : s.liveAt t a f = .next u) : u.store = s.store := by
  unfold State.liveAt at e
  split at e
  · exact State.live_store_of_kept h e
  · cases e

theorem State.isle_store_of_kept (h : ∀ s, (f s).kept = s.kept) (e : s.isle t f = .next u) : u.store = s.store := by
  cases e
  exact State.at_store (fun s => State.store_of_kept (h s))

theorem State.always_store (h : ∀ s, (f s).store = s.store) (e : s.always t f = .next u) : u.store = s.store := by
  cases e
  exact h (s.tick t)

theorem State.always_store_of_kept (h : ∀ s, (f s).kept = s.kept) (e : s.always t f = .next u) : u.store = s.store :=
  State.always_store (fun s => State.store_of_kept (h s)) e

variable (loads : s.img.recs = none ∧ s.img.load ≠ .off) (loadAt : ∀ s, (f s).loadAt = s.loadAt)
include loads loadAt

theorem State.loading_tick : (s.tick t).loading f = f (s.tick t) := State.loading_none (s := s.tick t) loads.1 (loadAt _)

theorem State.at_loading (c : State → Bool) : s.at_ t c (fun s => s.loading f) = s.at_ t c f := by
  unfold State.at_
  dsimp only
  rw [State.loading_tick loads loadAt]

theorem State.flash_tick : ((s.tick t).loading f).flashFree = f (s.tick t) := by
  rw [State.loading_tick loads loadAt]
  exact State.flashFree_on (fun off => loads.2 ((congrArg Prod.snd (loadAt (s.tick t))).symm.trans off))

theorem State.always_flash (h : ∀ s, (f s).store = s.store) (e : s.always t (fun s => (s.loading f).flashFree) = .next u) : u.store = s.store := by
  cases e
  exact (congrArg State.store (State.flash_tick loads loadAt)).trans (h (s.tick t))

variable (h : ∀ s, (f s).kept = s.kept)
include h

theorem State.live_loading (e : s.live t (fun s => s.loading f) = .next u) : u.store = s.store :=
  State.live_store_of_kept h ((congrArg Host.Outcome.next (State.at_loading loads loadAt State.alive)).symm.trans e)

theorem State.isle_loading (e : s.isle t (fun s => s.loading f) = .next u) : u.store = s.store :=
  State.isle_store_of_kept h ((congrArg Host.Outcome.next (State.at_loading loads loadAt State.island)).symm.trans e)

theorem State.always_loading (e : s.always t (fun s => s.loading f) = .next u) : u.store = s.store :=
  State.always_store_of_kept h ((congrArg Host.Outcome.next (State.loading_tick loads loadAt)).symm.trans e)

end

theorem State.nvmDone_store (s : State) (same : Bool) : (s.nvmDone same).store = s.store := by
  obtain ⟨o, -, kept⟩ := s.nvmDone_kept same
  exact State.store_of_kept_but kept

/-- A command other than the listed ones leaves the committed set and the index of the commit store. -/
theorem exec_store {c : Instr} {s u : State} (other : movesCommitted c = false) (load : loadsOn c = true → s.img.recs = none ∧ s.img.load ≠ .off)
    (e : exec c s = .next u) : u.store = s.store := by
  cases c with
  | lockClose _ => exact State.live_store State.lockClose_store e
  | levelStage _ block inst => exact State.live_store_of_kept (fun s => s.levelStage_kept block inst) e
  | commitToken _ block inst => exact State.live_store_of_kept (fun s => s.commitToken_kept block inst) e
  | lockCycleEnd _ => exact State.live_store State.cycleEnd_store e
  | forcedUnitReset _ block => exact State.live_store_of_kept (fun s => s.forcedReset_kept block) e
  | unitReload _ block inst => exact State.live_store_of_kept (fun s => s.endReload_kept block inst) e
  | bargeTake _ block inst => exact State.live_store_of_kept (fun s => s.bargeTake_kept block inst) e
  | shadowDiscard _ value => exact State.live_store_of_kept (fun s => s.shadowDiscard_kept value.toNat) e
  | topModeWrite _ value => exact State.live_store_of_kept (fun s => State.ledgerWrite_kept accessMasks_topMode s value _) e
  | gpioSample _ levels => exact State.isle_store_of_kept (fun s => s.gpioSample_kept levels) e
  | gpioAccept _ => exact State.isle_store_of_kept State.gpioAccept_kept e
  | porDeassert _ below => exact State.always_store_of_kept (fun s => s.porDeassert_kept below) e
  | seqCheckRetry _ below => exact State.always_store_of_kept (fun s => s.seqRetry_kept below) e
  | warnTrip _ mon => exact State.isle_loading (load rfl) (fun s => s.warnTrip_loadAt mon) (fun s => s.warnTrip_kept mon) e
  | braceEventWindow _ => exact State.live_store_of_kept State.braceEvent_kept e
  | braceEnd _ => exact State.live_loading (load rfl) State.braceEnd_loadAt State.braceEnd_kept e
  | overvoltTrip _ mon => exact State.isle_loading (load rfl) (fun s => s.overvolt_loadAt mon) (fun s => s.overvolt_kept mon) e
  | flightSlot _ =>
    exact State.live_loading (load rfl)
      (fun s => (State.selfExitStart_loadAt _).trans s.flightSlot_loadAt) (fun s => (State.selfExitStart_kept _).trans s.flightSlot_kept) e
  | domainPowerGood _ => exact State.live_loading (load rfl) State.powerGood_loadAt State.powerGood_kept e
  | powerGoodTimeout _ => exact State.live_loading (load rfl) State.powerTimeout_loadAt State.powerTimeout_kept e
  | domainDrained _ dom => exact State.live_loading (load rfl) (fun s => s.domainDrained_loadAt dom) (fun s => s.domainDrained_kept dom) e
  | domFailClear _ k value => exact State.live_store_of_kept (fun s => s.domFailClear_kept k value) e
  | bootFreeRunTimeout _ => exact State.live_store_of_kept State.freeRunTimeout_kept e
  | updStart _ => exact State.live_store_of_kept (fun s => s.updCmd_kept 1) e
  | updVerify _ => exact State.live_store_of_kept (fun s => s.updCmd_kept 2) e
  | updCommit _ => exact State.live_store_of_kept (fun s => s.updCmd_kept 3) e
  | updAbort _ => exact State.live_store_of_kept (fun s => s.updCmd_kept 4) e
  | updData _ value => exact State.live_store_of_kept (fun s => s.updData_kept value) e
  | updLenWrite _ value => exact State.live_store_of_kept (fun s => s.updLen_kept value 0xFFFFFFFF) e
  | updVerifyDone _ readErr => exact State.live_store_of_kept (fun s => s.verifyDone_kept readErr) e
  | calSave _ value => exact State.live_store_of_kept (fun s => s.calSave_kept value.toNat) e
  | nvmOpTimeout _ => exact State.always_flash (load rfl) State.nvmTimeout_loadAt (fun s => State.store_of_kept s.nvmTimeout_kept) e
  | eraseSuspended _ => exact State.live_loading (load rfl) State.nvmSuspended_loadAt State.nvmSuspended_kept e
  | ringFrameRx _ port f => exact State.live_store_of_kept (fun s => s.frameRx_kept port f) e
  | txFrameBoundary _ port => exact State.live_store_of_kept (fun s => State.ite_kept ((State.encSents_kept _).trans (s.txBoundary_kept port)) rfl) e
  | loopbackPass _ =>
    exact State.live_store_of_kept (fun s =>
      State.ite_kept ((State.bootWeir_kept _).trans ((State.gensFollow_kept _).trans s.loopPass_kept)) rfl) e
  | loopbackTimeout _ =>
    exact State.live_store_of_kept (fun s =>
      State.ite_kept ((State.bootWeir_kept _).trans ((State.gensFollow_kept _).trans s.loopFail_kept)) rfl) e
  | weirRetry _ => exact State.live_store_of_kept (fun s => State.ite_kept ((State.gensFollow_kept _).trans s.loopRetry_kept) rfl) e
  | linkUp _ link => exact State.live_store_of_kept (fun s => State.ite_kept (s.linkUp_kept link.port link.train) rfl) e
  | linkDown _ port cause => exact State.live_store_of_kept (fun s => State.ite_kept (s.linkDown_kept port cause) rfl) e
  | pliashPacket _ => exact State.live_store_of_kept State.pliash_kept e
  | parityWaitExpiry _ grp chan k => exact State.live_store_of_kept (fun s => s.parityWait_kept grp chan k) e
  | igmpQuery _ => exact State.live_store_of_kept State.igmpQuery_kept e
  | keyMessage _ => exact State.live_store_of_kept State.keyMessage_kept e
  | ptpAnnounce _ => exact State.live_store_of_kept State.announce_kept e
  | ptpSync _ => exact State.live_store_of_kept State.ptpSync_kept e
  | ptpDelayResp _ => exact State.live_store_of_kept State.delayResp_kept e
  | delayReqTimer _ => exact State.live_store_of_kept State.delayReqTimer_kept e
  | timePortTimeout _ missed => exact State.live_store_of_kept (fun s => s.timePortTimeout_kept missed) e
  | announceTimeout _ => exact State.live_store_of_kept State.announceTimeout_kept e
  | timeLockChange _ => exact State.live_store_of_kept State.lockChanged_kept e
  | ppsSecond _ => exact State.live_store_of_kept State.ppsSecond_kept e
  | timeEvtPeriodic _ n => exact State.live_store_of_kept (fun s => s.evtPeriodic_kept n) e
  | pulseWidthExpiry _ pin => exact State.live_store_of_kept (fun s => s.pulseEnd_kept pin) e
  | timeCapture _ input rising => exact State.live_store_of_kept (fun s => s.capture_kept input rising) e
  | replicaRealign _ => exact State.live_store_of_kept State.realign_kept e
  | launchArm _ => exact State.live_store_of_kept State.launchArm_kept e
  | launchSlot _ => exact State.live_store_of_kept State.launchPointAt_kept e
  | timedEgressDue _ port => exact State.live_store_of_kept (fun s => State.ite_kept (s.egressDue_kept port) rfl) e
  | timedEgressDrop _ port => exact State.live_store_of_kept (fun s => State.ite_kept ((State.encSents_kept _).trans (s.egressDrop_kept port)) rfl) e
  | sceneUnit _ => exact State.live_store_of_kept State.sceneUnit_kept e
  | cmdlistUnit _ => exact State.live_store_of_kept State.cmdlistUnit_kept e
  | mapUnit _ => exact State.live_store_of_kept State.mapUnit_kept e
  | chunkUnit _ => exact State.live_store_of_kept State.chunkUnit_kept e
  | chunkDispatch _ => exact State.live_store_of_kept State.chunkDispatch_kept e
  | chunkDone _ core => exact State.live_store_of_kept (fun s => (State.fitCheck_kept _).trans (s.chunkDone_kept core)) e
  | chunkAbandon _ core => exact State.live_store_of_kept (fun s => s.chunkAbandon_kept core) e
  | loadEstimateDone _ => exact State.live_store_of_kept (fun s => (State.domainsNeed_kept _).trans s.estimate_kept) e
  | blockIssue _ => exact State.live_store_of_kept State.blockIssue_kept e
  | blockDone _ cluster mismatch => exact State.live_store_of_kept (fun s => (State.encTap_kept _).trans (s.blockDone_kept cluster mismatch)) e
  | basinTrainDone _ rs => exact State.live_store_of_kept (fun s => State.ite_kept ((State.bootTrained_kept _).trans (s.trainDone_kept rs)) rfl) e
  | basinTrainRetry _ => exact State.live_store_of_kept State.trainRetry_kept e
  | basinEyeTrack _ moves => exact State.live_store_of_kept (fun s => s.eyeTrack_kept moves) e
  | basinRefresh _ stack => exact State.live_store_of_kept (fun s => s.refresh_kept stack) e
  | selfRefreshEnter _ => exact State.live_store_of_kept State.selfEnter_kept e
  | selfRefreshExitDone _ rs => exact State.live_store_of_kept (fun s => s.selfExitDone_kept rs) e
  | scrubGranule _ errs => exact State.live_store_of_kept (fun s => s.scrub_kept errs) e
  | basinCorrectedRead _ _ =>
    exact State.liveAt_store_of_kept (fun s => (State.ite_kept (State.readCorrected_kept ..) rfl).trans (s.countRead_kept ..)) e
  | basinUncorrectableRead _ _ _ _ _ =>
    exact State.liveAt_store_of_kept (fun s => (State.ite_kept (State.uncorrectableRead_kept ..) rfl).trans (s.countRead_kept ..)) e
  | basinFlushDone _ source => exact State.live_store_of_kept (fun s => s.flushDone_kept source) e
  | quarClear _ value => exact State.live_store_of_kept (fun s => s.quarClear_kept value.toNat) e
  | tugUpdateStart _ => exact State.live_store_of_kept State.tugStart_kept e
  | tugUpdateDone _ n abort => exact State.live_store_of_kept (fun s => s.tugDone_kept n abort) e
  | scanUnderrun _ lane => exact State.live_store_of_kept (fun s => s.scanUnderrun_kept lane) e
  | frameEndCode _ => exact State.live_store_of_kept State.frameEndCode_kept e
  | scanCheckDone _ n => exact State.live_store_of_kept (fun s => s.checkDone_kept n) e
  | ownSample _ level sides => exact State.live_store_of_kept (fun s => s.ownSample_kept level sides) e
  | ownInAsserted _ => exact State.live_store_of_kept State.ownInAsserted_kept e
  | blockLockAcquired _ hd => exact State.live_store_of_kept (fun s => s.laneHeaders_kept hd.lane true hd.heads) e
  | blockLockLost _ n hdrs => exact State.live_store_of_kept (fun s => s.laneHeaders_kept n false hdrs) e
  | rxAdaptDone _ n cands eyes taps => exact State.live_store_of_kept (fun s => s.adaptDone_kept n cands eyes taps.dfe taps.ffe) e
  | fomMonitor _ n eyes => exact State.live_store_of_kept (fun s => s.fomMonitor_kept n eyes) e
  | sidebandPoll _ reads accepts => exact State.live_store_of_kept (fun s => s.sidebandPoll_kept reads accepts) e
  | bcRequestApply _ => exact State.live_store_of_kept State.bcApply_kept e
  | bcTrainTimeout _ => exact State.live_store_of_kept State.trainTimeout_kept e
  | monCfgWrite _ value => exact State.live_store_of_kept (fun s => State.ledgerWrite_kept accessMasks_monCfg s value _) e
  | monEyeScan _ => exact State.live_store_of_kept State.monScan_kept e
  | monScanDone _ eyes => exact State.live_store_of_kept (fun s => s.monScanDone_kept eyes) e
  | prbsSyncChange _ n blocks bits symbols => exact State.live_store_of_kept (fun s => s.prbsTake_kept n blocks bits symbols) e
  | errorInject _ n value => exact State.live_store_of_kept (fun s => s.inject_kept n value.toNat) e
  | panelSeqStep _ => exact State.always_loading (load rfl) State.panelStep_loadAt State.panelStep_kept e
  | pgoodAssert _ ident status => exact State.live_store_of_kept (fun s => s.pgoodAssert_kept ident status) e
  | pgoodTimeout _ => exact State.live_store_of_kept State.pgoodTimeout_kept e
  | pgoodLost _ => exact State.live_store_of_kept State.pgoodLost_kept e
  | dischargeEnd _ => exact State.always_loading (load rfl) State.dischargeEnd_loadAt State.dischargeEnd_kept e
  | panelRetryWait _ => exact State.live_loading (load rfl) State.panelRetry_loadAt State.panelRetry_kept e
  | vrefPoint _ k => exact State.live_store_of_kept (fun s => s.vrefPoint_kept k) e
  | vinTrip _ => exact State.always_loading (load rfl) State.vinTrip_loadAt State.vinTrip_kept e
  | crackLatch _ => exact State.isle_loading (load rfl) State.crackLatch_loadAt State.crackLatch_kept e
  | crackClear _ value => exact State.live_store_of_kept (fun s => s.crackClear_kept value.toNat) e
  | csiFrameStart _ port hdr lost => exact State.live_store_of_kept (fun s => s.csiStart_kept port hdr lost) e
  | csiLine _ port hdr lost data crc0 crc1 => exact State.live_store_of_kept (fun s => s.csiLine_kept port hdr lost data (le [crc0, crc1])) e
  | csiFrameEnd _ port hdr lost => exact State.live_store_of_kept (fun s => s.csiEnd_kept port hdr lost) e
  | pipeLineTake _ port => exact State.live_store_of_kept (fun s => s.lineTake_kept port) e
  | camSensorStart _ n => exact State.live_store_of_kept (fun s => s.sensorStart_kept n) e
  | cciWriteDone _ port ack => exact State.live_store_of_kept (fun s => s.cciDone_kept port ack) e
  | cciDelayExpiry _ n => exact State.live_store_of_kept (fun s => s.cciDelay_kept n) e
  | fsyncPulse _ m p => exact State.live_store_of_kept (fun s => s.fsync_kept m p) e
  | strobePulse _ => exact State.live_store_of_kept State.strobePulse_kept e
  | glintPair _ p => exact State.live_store_of_kept (fun s => s.glintPair_kept p) e
  | encPictureStart _ => exact State.live_store_of_kept State.encStart_kept e
  | encRowDone _ => exact State.live_store_of_kept State.encRow_kept e
  | encIdr _ stream value => exact State.live_store_of_kept (fun s => s.encIdr_kept stream value.toNat) e
  | hbTick _ => exact State.live_store_of_kept State.hbTick_kept e
  | hbLost _ => exact State.live_store_of_kept State.hbLost_kept e
  | towSeal _ m => exact State.live_store_of_kept (fun s => s.towSeal_kept m) e
  | deltaEyes _ m => exact State.live_store_of_kept (fun s => s.deltaIn_kept 1 m) e
  | deltaRung _ m => exact State.live_store_of_kept (fun s => s.deltaIn_kept 2 m) e
  | deltaSnapshot _ m => exact State.live_store_of_kept (fun s => s.deltaIn_kept 3 m) e
  | deltaSurface _ m => exact State.live_store_of_kept (fun s => s.deltaIn_kept 4 m) e
  | repairWant _ m => exact State.live_store_of_kept (fun s => s.repairWant_kept m) e
  | repairHave _ m => exact State.live_store_of_kept (fun s => s.repairHave_kept m) e
  | repairNone _ m => exact State.live_store_of_kept (fun s => s.repairNone_kept m) e
  | repairWaitExpiry _ grp chan k => exact State.live_store_of_kept (fun s => s.repairExpiry_kept grp chan k) e
  | towMsgLost _ mseq => exact State.live_store_of_kept (fun s => s.msgLost_kept mseq) e
  | towTake _ m => exact State.live_store_of_kept (fun s => s.towTake_kept m) e
  | towYield _ m => exact State.live_store_of_kept (fun s => s.towYield_kept m) e
  | partnerFault _ => exact State.live_store_of_kept State.partnerFault_kept e
  | towCmdTake _ value => exact State.live_store_of_kept (fun s => s.cmdTake_kept value.toNat) e
  | towCmdYield _ value => exact State.live_store_of_kept (fun s => s.cmdYield_kept value.toNat) e
  | lzJobStart _ => exact State.live_store_of_kept State.lzTake_kept e
  | lzBlockDone _ fault => exact State.live_store_of_kept (fun s => s.lzBlock_kept fault) e
  | hkSlot _ slot v => exact State.isle_loading (load rfl) (fun s => s.hkSlot_loadAt slot v) (fun s => s.hkSlot_kept slot v) e
  | sensorFail _ sensor => exact State.isle_loading (load rfl) (fun s => s.sensorFail_loadAt sensor) (fun s => s.sensorFail_kept sensor) e
  | sensorRestore _ sensor => exact State.isle_loading (load rfl) (fun s => s.sensorRestore_loadAt sensor) (fun s => s.sensorRestore_kept sensor) e
  | noraiseEnd _ => exact State.isle_store_of_kept State.noraiseEnd_kept e
  | thermalResetExit _ => exact State.always_store_of_kept State.thermalExit_kept e
  | mgmtSession _ => exact State.live_store_of_kept (fun s => s.mgmtTake_kept 1 _ State.sessionReq_kept) e
  | mgmtRead _ => exact State.live_store_of_kept (fun s => s.mgmtTake_kept 2 _ State.readReq_kept) e
  | mgmtSubscribe _ => exact State.live_store_of_kept (fun s => s.mgmtTake_kept 4 _ State.subscribeReq_kept) e
  | mgmtLog _ => exact State.live_store_of_kept State.mgmtLog_kept e
  | eventsSend _ slot => exact State.live_store_of_kept (fun s => s.eventsSend_kept slot) e
  | sessionIdleExpiry _ slot => exact State.live_store_of_kept (fun s => s.sessionExpire_kept slot) e
  | eventAccept _ => exact State.live_store_of_kept State.eventAccept_kept e
  | alertResponse _ => exact State.isle_store_of_kept State.alertResponse_kept e
  | i2cPointerWrite _ data => exact State.isle_store_of_kept (fun s => s.i2cPointerWrite_kept data) e
  | i2cRead _ count => exact State.isle_loading (load rfl) (fun s => s.i2cRead_loadAt count) (fun s => s.i2cRead_kept count) e
  | logFlush _ => exact State.live_store_of_kept State.logFlush_kept e
  | monitorRecovery _ => exact State.always_store_of_kept State.monitorRecovery_kept e
  | pairHbInEdge _ => exact State.live_store_of_kept State.hbEdge_kept e
  | frameRowsEnd _ => exact State.live_store_of_kept State.rowsEndAt_kept e
  | unframedOutputIdle _ => exact State.live_store_of_kept State.unframedIdle_kept e
  | nvmOpDone _ same => exact State.always_flash (load rfl) (fun s => s.nvmDone_loadAt same) (fun s => s.nvmDone_store same) e
  | trstAssert _ => exact State.always_store (f := State.trstAssert) (fun _ => rfl) e
  | trstDeassert _ => exact State.always_store (f := State.trstDeassert) (fun _ => rfl) e
  | jtagBypass _ => exact State.always_store State.jtagBypass_store e
  | jtagIdcode _ => exact State.always_store State.jtagIdcode_store e
  | jtagSamplePreload _ pins preload => exact State.always_store (fun s => s.jtagSample_store pins preload) e
  | jtagExtest _ pins => exact State.always_store (fun s => s.jtagTest_store .extest pins) e
  | jtagExtestPulse _ pins => exact State.always_store (fun s => s.jtagTest_store .extestPulse pins) e
  | jtagExtestTrain _ pins => exact State.always_store (fun s => s.jtagTest_store .extestTrain pins) e
  | jtagClamp _ => exact State.always_store (fun s => s.jtagTest_store .clamp [false]) e
  | jtagHighz _ => exact State.always_store (fun s => s.jtagTest_store .highz [false]) e
  | registerWrite _ _ _ _ | levelReportReceived _ _ _ | levelWindowExpiry _ | porAssert _ | resetTrip _ _ | pwrResetWarm _ _
  | resetExit _ _ _ _ _ | mgmtWrite _ | hkEvaluation _ _ | imageHeaderRead _ _ | imageFirstPassDone _ | imageSecondPassDone _ _
  | joinWaitTimeout _ | towHb _ _ | bootFirstCloseSet _ => cases other

/-! The open moves the set whole. -/

theorem Kept.commit_index (k : Kept) (c : CSet) : (k.commit c).index = !k.index := by
  unfold Kept.commit
  cases h : k.index <;> simp

/-- The bank that was in force stays. -/
theorem Kept.commit_bank (k : Kept) (c : CSet) : if k.index then (k.commit c).bank1 = k.bank1 else (k.commit c).bank0 = k.bank0 := by
  unfold Kept.commit
  split <;> rfl

end Sys2Proof.Machine

namespace Sys2Proof.Proofs

open Machine Safety Claims

/-- Settles O58. -/
theorem committedSetMovesOnlyAtOpens : Obligations.CommittedSetMovesOnlyAtOpens := by
  refine ⟨fun c s u other load e => Prod.mk.inj (exec_store other load e), fun t s u alive level e => ?_⟩
  rw [exec_levelWindowExpiry t alive, State.windowExpiry_level (s := s.tick t) level] at e
  cases e
  have opened := (s.tick t).decideOpen_kept true
  have index := congrArg Kept.index opened
  have cset := congrArg Kept.cset opened
  split at opened
  · rename_i applied
    rw [if_pos applied] at index cset
    refine ⟨fun stands => ((Bool.eq_not_self _).mp (stands.symm.trans (index.trans (Kept.commit_index ..)))).elim,
      fun _ => ⟨cset.trans (Kept.cset_commit ..), ?_⟩⟩
    have bank := (s.tick t).kept.commit_bank (s.tick t).lock.frozen
    split
    · rename_i one
      exact (congrArg Kept.bank1 opened).trans ((if_pos one).mp bank)
    · rename_i zero
      exact (congrArg Kept.bank0 opened).trans ((if_neg zero).mp bank)
  · rename_i kept
    rw [if_neg kept] at index cset
    exact ⟨fun _ => cset, fun flips => ((Bool.eq_not_self _).mp (index.symm.trans flips)).elim⟩

end Sys2Proof.Proofs

namespace Sys2Proof.Machine

open Safety Claims

/-! The end of a chunk lets a follower become FIT (R405). -/

theorem exec_chunkDone {s : State} (t core : Nat) (alive : s.alive = true) : exec (.chunkDone t core) s = .next ((s.tick t).chunkDone core).fitCheck :=
  State.live_alive t (fun s => (s.chunkDone core).fitCheck) alive

theorem State.chunkDone_free {s : State} {core : Nat} (free : (s.dec.cores[core]?).getD none = none) : s.chunkDone core = s := by
  unfold State.chunkDone
  rw [free]

/-- A running follower, hot and with the towpath up, for which every condition of R405 holds and FIT reads 0; its decoders are idle. -/
def fitFollower : State :=
  State.wr (State.wr { State.reset with pwr := { PwrSt.reset with phase := .run, straps := { Straps.reset with pairUp := true } }
                                        led := { LedSt.reset with bank0 := { LedSt.reset.bank0 with own := false } }
                                        pair := { PairSt.reset with matchRun := State.reset.cm F.TOW_SEAL_MATCH_RUN } }
    F.TOW_STATUS_HOT 1) F.TOW_STATUS_UP 1

theorem fitFollower_alive : fitFollower.alive = true := by decide

theorem fitFollower_free : (fitFollower.dec.cores[0]?).getD none = none := by decide

theorem fitFollower_unfit : (fitFollower.tick 0).rd F.TOW_STATUS_FIT = 0 := by decide

theorem fitFollower_fit : (fitFollower.tick 0).fitCheck.rd F.TOW_STATUS_FIT = 1 := by decide

end Sys2Proof.Machine

namespace Sys2Proof.Proofs

open Machine Safety Claims

/-- Refutes O26: CHUNK_DONE of a free core does something where a follower meets every condition of R405 and is not FIT yet: it becomes FIT. -/
theorem not_chunksDecode : ¬ Obligations.ChunksDecode := by
  rintro ⟨-, ends⟩
  have still := ((ends fitFollower 0 0 fitFollower_alive).1 fitFollower_free).1
  rw [exec_chunkDone 0 0 fitFollower_alive, State.chunkDone_free (s := fitFollower.tick 0) fitFollower_free] at still
  have same := congrArg (State.rd · F.TOW_STATUS_FIT) (Host.Outcome.next.inj still)
  exact absurd (fitFollower_fit.symm.trans (same.trans fitFollower_unfit)) (by decide)

end Sys2Proof.Proofs

namespace Sys2Proof.Machine

open Safety Claims

/-! The invariant (R71, R79, R100, R472): it reads the base alone, so only the commands of `changesBase` have to be looked at. -/

/-- The invariant as the base shows it. -/
def Base.Sound (b : Base) : Prop := b.straps.pair < 3 ∧ b.otp.epoch ≤ 64 ∧ (b.jtag.trst = true → b.jtag = JtagSt.reset)

theorem inv_iff_sound (s : State) : Inv s ↔ s.base.Sound := Iff.rfl

/-- A tick moves none of what the invariant reads. -/
theorem State.tick_sound (s : State) (t : Nat) : (s.tick t).base.Sound ↔ s.base.Sound := Iff.rfl

theorem Straps.pair_lt (p : Straps) : p.pair < 3 := by
  unfold Straps.pair b2n
  repeat' split
  all_goals decide

theorem Otp.bounded_epoch (o : Otp) : o.bounded.epoch ≤ 64 := Nat.min_le_left ..

/-- A programmed bit keeps the epoch at 64 at most (R100). -/
theorem Otp.program_epoch {x : Otp} (h : x.epoch ≤ 64) (o : NvmOp) : (x.program o).epoch ≤ 64 := by
  unfold Otp.program
  split
  · exact h
  · split
    · exact Nat.min_le_left ..
    · exact h

section
variable {b : Base} (sound : b.Sound)
include sound

theorem Base.Sound.withOtp {o : Otp} (h : o.epoch ≤ 64) : Base.Sound { b with otp := o } := ⟨sound.1, h, sound.2.2⟩

/-- A TAP that TRST_L does not hold may be in any state. -/
theorem Base.Sound.withFreeTap {j : JtagSt} (free : j.trst = false) : Base.Sound { b with jtag := j } :=
  ⟨sound.1, sound.2.1, fun held => absurd (free.symm.trans held) Bool.false_ne_true⟩

/-- The reset of the TAP by a cold reset leaves TRST_L as it is (R79). -/
theorem Base.Sound.withTapReset (held : Bool) : Base.Sound { b with jtag := { JtagSt.reset with trst := held } } :=
  ⟨sound.1, sound.2.1, fun h => congrArg (fun t => { JtagSt.reset with trst := t }) h⟩

end

/-- A command of the TAP acts while TRST_L does not hold it, and leaves the pin. -/
theorem State.tap_sound {s : State} {j : JtagSt} (sound : s.base.Sound) (keeps : j.trst = s.jtag.trst) :
    (if s.jtag.trst then s else { s with jtag := j }).base.Sound := by
  split
  · exact sound
  · rename_i free
    exact Base.Sound.withFreeTap sound (keeps.trans (Bool.eq_false_iff.mpr free))

theorem State.jtagTest_sound {s : State} (sound : s.base.Sound) (ir : JtagIr) (dr : List Bool) : (s.jtagTest ir dr).base.Sound := by
  have test := State.tap_sound (j := { s.jtag with ir := ir, dr := dr }) sound rfl
  have bypass := State.tap_sound (j := s.jtag.bypass) sound rfl
  unfold State.jtagTest
  split
  · exact sound
  · rename_i free
    rw [if_neg free] at test bypass
    split
    · exact test
    · exact bypass

theorem State.resetTrip_sound {s : State} (sound : s.base.Sound) (mon : Nat) : (s.resetTrip mon).base.Sound := by
  rcases s.resetTrip_base mon with kept | cold
  · rwa [kept]
  · rw [cold]
    exact sound.withTapReset s.jtag.trst

/-- The exit latches the straps; an OTP that it takes is bounded (R71, R100). -/
theorem State.resetExit_sound {s : State} (sound : s.base.Sound) (st : Straps) (otp : Option Otp) (size : Nat) (patches : List (Nat × List Byte)) :
    (s.resetExit st otp size patches).base.Sound := by
  by_cases due : s.pwr.phase = .exitDue
  · rw [s.resetExit_base_due st otp size patches due]
    refine ⟨st.pair_lt, ?_, sound.2.2⟩
    show Otp.epoch (if _ then _ else _) ≤ 64
    split
    · exact Otp.bounded_epoch _
    · exact sound.2.1
  · rwa [s.resetExit_notDue st otp size patches due]

/-- The end of an operation of the NVM sequencer programs at most one bit of the OTP (R100). -/
theorem State.nvmDone_sound {s : State} (sound : s.base.Sound) (same : Bool) : (s.nvmDone same).base.Sound := by
  obtain ⟨x, otp, kept⟩ := s.nvmDone_kept same
  have bounded : x.epoch ≤ 64 := by
    rcases otp with rfl | ⟨o, rfl⟩
    · exact sound.2.1
    · exact Otp.program_epoch sound.2.1 o
  rw [show (s.nvmDone same).base = _ from congrArg Kept.base kept]
  exact sound.withOtp bounded

theorem State.loading_sound {s : State} {f : State → State} (h : ∀ s : State, s.base.Sound → (f s).base.Sound) (sound : s.base.Sound) :
    (s.loading f).base.Sound := by
  unfold State.loading
  rw [State.recordsRun_base]
  exact h _ (by rwa [State.recordsRun_base])

theorem State.always_sound {s u : State} {t : Nat} {f : State → State} (h : ∀ s : State, s.base.Sound → (f s).base.Sound)
    (sound : s.base.Sound) (e : s.always t f = .next u) : u.base.Sound := by
  cases e
  exact h _ ((s.tick_sound t).mpr sound)

/-- Every command keeps the invariant. -/
theorem exec_sound {c : Instr} {s u : State} (sound : s.base.Sound) (e : exec c s = .next u) : u.base.Sound := by
  cases other : changesBase c with
  | false =>
    rw [exec_base other e]
    exact (s.tick_sound _).mpr sound
  | true =>
    cases c with
    | porAssert t =>
      refine State.always_sound (f := State.porAssert) (fun s sound => ?_) sound e
      rw [s.porAssert_base]
      exact sound.withTapReset s.jtag.trst
    | resetTrip t mon => exact State.always_sound (fun _ sound => State.resetTrip_sound sound mon) sound e
    | resetExit t straps otp flashSize flash =>
      exact State.always_sound (fun _ sound => State.resetExit_sound sound straps otp flashSize flash) sound e
    | nvmOpDone t same =>
      refine State.always_sound (f := fun s => (s.loading (fun s => s.nvmDone same)).flashFree) (fun s sound => ?_) sound e
      rw [State.flashFree_base]
      exact State.loading_sound (fun _ sound => State.nvmDone_sound sound same) sound
    | trstAssert t => exact State.always_sound (f := State.trstAssert) (fun _ sound => sound.withTapReset true) sound e
    | trstDeassert t => exact State.always_sound (f := State.trstDeassert) (fun _ sound => sound.withFreeTap rfl) sound e
    | jtagBypass t => exact State.always_sound (f := State.jtagBypass) (fun _ sound => State.tap_sound sound rfl) sound e
    | jtagIdcode t => exact State.always_sound (f := State.jtagIdcode) (fun _ sound => State.tap_sound sound rfl) sound e
    | jtagSamplePreload t pins preload =>
      exact State.always_sound (f := fun s => s.jtagSample pins preload) (fun _ sound => State.tap_sound sound rfl) sound e
    | jtagExtest t pins => exact State.always_sound (fun _ sound => State.jtagTest_sound sound .extest pins) sound e
    | jtagExtestPulse t pins => exact State.always_sound (fun _ sound => State.jtagTest_sound sound .extestPulse pins) sound e
    | jtagExtestTrain t pins => exact State.always_sound (fun _ sound => State.jtagTest_sound sound .extestTrain pins) sound e
    | jtagClamp t => exact State.always_sound (fun _ sound => State.jtagTest_sound sound .clamp [false]) sound e
    | jtagHighz t => exact State.always_sound (fun _ sound => State.jtagTest_sound sound .highz [false]) sound e
    | _ => cases other

end Sys2Proof.Machine

namespace Sys2Proof.Proofs

open Machine Safety Claims

/-- Settles O53: a step is the front command on the rest of the queue, and the base that the invariant reads stays sound under it (`exec_sound`). -/
theorem invariantKept : Obligations.InvariantKept := by
  intro s u inv e
  rw [inv_iff_sound] at inv ⊢
  unfold step at e
  split at e
  · cases e
    exact inv
  · rename_i c rest _
    exact exec_sound (s := { s with pending := rest }) inv e

end Sys2Proof.Proofs

namespace Sys2Proof.Machine

open Safety Claims

/-! The GPIO inputs (R56, R58). -/

/-- A bit that replaces one bit of a word is read there; the others stand. -/
theorem bitAt_putBits_bit (x i j : Nat) (b : Bool) : bitAt (putBits x i i (b2n b)) j = if j = i then b else bitAt x j := by
  have read : ∀ y k, bitAt y k = (bitsOf y k k == 1) := fun y k => by simp [bitAt, bitsOf]
  rw [read, read]
  rcases Nat.lt_trichotomy j i with below | same | above
  · rw [if_neg (by omega), bitsOf_putBits_below _ _ _ _ _ _ below]
  · rw [if_pos same, same, bitsOf_putBits_same]
    cases b <;> simp [b2n]
  · rw [if_neg (by omega), bitsOf_putBits_above _ _ _ _ _ _ (by omega) above]

/-- A bit of each position of a list replaced from another word. -/
theorem bitAt_putBits_each (y j : Nat) (l : List Nat) (x : Nat) :
    bitAt (l.foldl (fun a i => putBits a i i (b2n (bitAt y i))) x) j = if j ∈ l then bitAt y j else bitAt x j := by
  induction l generalizing x with
  | nil => rfl
  | cons i r ih =>
    rw [List.foldl_cons, ih, bitAt_putBits_bit]
    by_cases here : j = i <;> simp [here]

section
variable {s : State} (t : Nat) (island : s.island = true)
include island

theorem exec_gpioSample (levels : Nat) : exec (.gpioSample t levels) s = .next ((s.tick t).gpioSample levels) := congrArg _ (if_pos island)

theorem exec_gpioAccept : exec (.gpioAccept t) s = .next (s.tick t).gpioAccept := congrArg _ (if_pos island)

end

/-- The count of an input after a sample (R56). -/
theorem State.gpioSample_count {s : State} {i : Nat} (h : i < s.lock.gpioCount.length) (levels : Nat) :
    (s.gpioSample levels).lock.gpioCount.getD i 0 =
      if bitAt s.lock.gpioSeen i = bitAt levels i then min 100 (s.lock.gpioCount.getD i 0 + 1) else 1 := by
  have run : (s.gpioSample levels).lock.gpioCount.getD i 0 = gpioRun s.lock.gpioSeen levels (s.lock.gpioCount.getD i 0) i := by
    simp [State.gpioSample, List.getD_eq_getElem?_getD, h]
  rw [run]
  unfold gpioRun satN
  simp only [beq_iff_eq]
  split
  · split <;> omega
  · rfl

/-- The accepted level of an input: that of 100 equal samples, which is the one before where the two agree (R56). -/
theorem State.gpioAccept_level (s : State) {i : Nat} (h : i < 16) : bitAt s.gpioAccept.lock.gpioAcc i =
    if 100 ≤ s.lock.gpioCount.getD i 0 then bitAt s.lock.gpioSeen i else bitAt s.lock.gpioAcc i := by
  refine (bitAt_putBits_each s.lock.gpioSeen i _ _).trans ?_
  simp only [List.mem_filter, List.mem_range, h, true_and, LockSt.gpioDue, Bool.and_eq_true, decide_eq_true_eq, bne_iff_ne]
  by_cases long : 100 ≤ s.lock.gpioCount.getD i 0
  · by_cases same : bitAt s.lock.gpioSeen i = bitAt s.lock.gpioAcc i
    · rw [if_neg (fun due => due.2 same), if_pos long, same]
    · rw [if_pos ⟨long, same⟩, if_pos long]
  · rw [if_neg (fun due => long due.1), if_neg long]

end Sys2Proof.Machine

namespace Sys2Proof.Proofs

open Machine Safety Claims

/-- Settles O5: the count of each input after a sample (`State.gpioSample_count`), its level after an acceptance (`State.gpioAccept_level`). -/
theorem gpioSampleAndAccept : Obligations.GpioSampleAndAccept := by
  intro s t levels island inputs
  refine ⟨⟨_, exec_gpioSample t island levels, rfl, fun i hi => ?_⟩, _, exec_gpioAccept t island, rfl, fun i hi => ?_⟩
  · exact State.gpioSample_count (s := s.tick t) (by rwa [State.tick_lock, inputs]) levels
  · exact (s.tick t).gpioAccept_level hi

end Sys2Proof.Proofs

namespace Sys2Proof.Machine

open Safety Claims

/-! Flight slots (R74 to R77). -/

/-- A command of the running device amid the records of an image load (R95). -/
theorem State.live_amidRecords {s : State} (t : Nat) (f : State → State) (alive : s.alive = true) :
    s.live t (fun s => s.loading f) = .next (f (s.tick t).recordsRun).recordsRun := State.live_alive t (fun s => s.loading f) alive

section
variable {s : State} (t : Nat) (alive : s.alive = true)
include alive

theorem exec_flightSlot : exec (.flightSlot t) s = .next (s.tick t).recordsRun.flightSlot.selfExitStart.recordsRun :=
  State.live_amidRecords t (fun s => s.flightSlot.selfExitStart) alive

theorem exec_domainPowerGood : exec (.domainPowerGood t) s = .next (s.tick t).recordsRun.powerGood.recordsRun :=
  State.live_amidRecords t State.powerGood alive

theorem exec_powerGoodTimeout : exec (.powerGoodTimeout t) s = .next (s.tick t).recordsRun.powerTimeout.recordsRun :=
  State.live_amidRecords t State.powerTimeout alive

theorem exec_domainDrained (d : Nat) : exec (.domainDrained t d) s = .next ((s.tick t).recordsRun.domainDrained d).recordsRun :=
  State.live_amidRecords t (fun s => s.domainDrained d) alive

end

/-! Power-good: the units of the domain reload (R44, R74). -/

/-- A unit that is reloading is so after any reload has started. -/
theorem State.startReload_keeps (s : State) {b i : Nat} (c j : Nat) (h : (unitOf s.units b i).reload = true) :
    (unitOf (s.startReload c j).units b i).reload = true := by
  by_cases same : b = c ∧ i = j
  · obtain ⟨rfl, rfl⟩ := same
    exact s.startReload_reload b i
  · obtain ⟨block, inst⟩ := unitOf_block s.units c j
    have other := unitOf_setUnit_other { unitOf s.units c j with reload := true } (b := b) (i := i)
      (fun e => same ⟨e.1.trans block, e.2.trans inst⟩) s.units
    exact (congrArg UnitSt.reload other).trans h

/-- Every unit of a list is reloading after a reload of each (R44). -/
theorem State.startReloads_reload {x : Nat × Nat} : ∀ (l : List (Nat × Nat)) (s : State), x ∈ l ∨ (unitOf s.units x.1 x.2).reload = true →
    (unitOf (s.each l (fun s u => s.startReload u.1 u.2)).units x.1 x.2).reload = true
  | [], _, m => m.resolve_left List.not_mem_nil
  | y :: r, s, m => by
    refine State.startReloads_reload r (s.startReload y.1 y.2) ?_
    rcases m with m | m
    · rcases List.mem_cons.mp m with rfl | m
      · exact .inr (s.startReload_reload x.1 x.2)
      · exact .inl m
    · exact .inr (s.startReload_keeps y.1 y.2 m)

/-- Reloads change the units alone. -/
theorem State.startReloads_eq (s : State) (l : List (Nat × Nat)) : s.each l (fun s u => s.startReload u.1 u.2) =
    { s with units := (s.each l (fun s u => s.startReload u.1 u.2)).units } := by
  have rest := State.each_proj (fun v : State => { v with units := [] }) (fun s (u : Nat × Nat) => s.startReload u.1 u.2) (fun _ _ => rfl) l s
  exact congrArg (fun v : State => { v with units := (s.each l (fun s u => s.startReload u.1 u.2)).units }) rest

section
variable {s : State} {sl : Slot} (slot : s.pwr.slot = some sl)
include slot

theorem State.powerGood_eq (goesUp : sl.up = true) (tries : sl.failed = false) :
    s.powerGood = State.each { s with pwr := { s.pwr with slot := some { sl with good := true } } } (unitsOfDomain sl.dom)
      (fun s u => s.startReload u.1 u.2) := by
  unfold State.powerGood
  simp only [slot, goesUp, tries]
  rfl

end

/-! A time-out (R77). -/

theorem State.noteFaultIn_pwr (s : State) (code : Nat) (busy : Bool) : (s.noteFaultIn code busy).pwr = s.pwr := by
  unfold State.noteFaultIn
  split <;> rfl

/-- The state after a second time-out, before FAULT_L is considered: the event, the recovery window and the bit of PWR_DOM_FAIL (R77). -/
def State.heldOff (s : State) (sl : Slot) : State :=
  let s1 := State.recoveryOf (State.raise { s with pwr := { s.pwr with slot := some { sl with failed := true } } } 0x103 bPWR sl.dom 2) 0x103
  State.wrW { s1 with pwr := { s1.pwr with retried := s1.pwr.retried.filter (· ≠ sl.dom) } } (R.PWR_DOM_FAIL (sl.dom / 32))
    (BitVec.ofNat 32 (orBit (s.rdW (R.PWR_DOM_FAIL (sl.dom / 32))).toNat (sl.dom % 32)))

section
variable {s : State} {sl : Slot} (slot : s.pwr.slot = some sl) (goesUp : sl.up = true) (notGood : sl.good = false) (tries : sl.failed = false)
include slot

/-- A slot that goes down, is good or has failed has no time-out. -/
theorem State.powerTimeout_none (none : ¬ (sl.up = true ∧ ¬ sl.good = true ∧ ¬ sl.failed = true)) : s.powerTimeout = s := by
  unfold State.powerTimeout
  simp only [slot]
  exact if_neg none

include goesUp notGood tries

/-- The first time-out: the domain is first in the queue again. -/
theorem State.powerTimeout_first (first : s.pwr.retried.contains sl.dom = false) : s.powerTimeout.pwr =
    { s.pwr with slot := some { sl with failed := true }, retried := sl.dom :: s.pwr.retried, upQ := sl.dom :: s.pwr.upQ } := by
  unfold State.powerTimeout
  simp only [slot]
  rw [if_pos (by simp [goesUp, notGood, tries]), if_neg (by rw [first]; decide)]
  simp only [State.noteFaultIn_pwr, State.raise_pwr]

theorem State.powerTimeout_again (again : s.pwr.retried.contains sl.dom = true) : s.powerTimeout =
    if alwaysDomain sl.dom || noHoldDomain sl.dom then (s.heldOff sl).faultLow else s.heldOff sl := by
  unfold State.powerTimeout
  simp only [slot]
  rw [if_pos (by simp [goesUp, notGood, tries]), if_pos again]
  simp only [Bool.or_eq_true]
  rfl

end

/-! The end of a slot (R74). -/

theorem PwrSt.take_up (p : PwrSt) : p.take.up = p.up := by
  unfold PwrSt.take
  (repeat' split) <;> rfl

theorem State.flightKick_up (s : State) : s.flightKick.pwr.up = s.pwr.up := s.pwr.take_up

theorem State.recoveryOf_pwr (s : State) (code : Nat) : (s.recoveryOf code).pwr = s.pwr := rfl

theorem State.endReload_pwr (s : State) (b i : Nat) : (s.endReload b i).pwr = s.pwr := by
  unfold State.endReload
  split <;> rfl

theorem State.selfExitStart_pwr (s : State) : s.selfExitStart.pwr = s.pwr := by
  unfold State.selfExitStart
  split <;> rfl

/-- A time-out switches no domain and marks the slot failed at most. -/
theorem State.powerTimeout_slot {s : State} {sl : Slot} (slot : s.pwr.slot = some sl) :
    ∃ failed, s.powerTimeout.pwr.slot = some { sl with failed := failed } ∧ s.powerTimeout.pwr.up = s.pwr.up := by
  by_cases due : sl.up = true ∧ ¬ sl.good = true ∧ ¬ sl.failed = true
  · obtain ⟨goesUp, notGood, tries⟩ := due
    rw [Bool.not_eq_true] at notGood tries
    refine ⟨true, ?_⟩
    cases retried : s.pwr.retried.contains sl.dom with
    | false =>
      rw [State.powerTimeout_first slot goesUp notGood tries retried]
      exact ⟨rfl, rfl⟩
    | true =>
      rw [State.powerTimeout_again slot goesUp notGood tries retried]
      split <;> exact ⟨rfl, rfl⟩
  · rw [State.powerTimeout_none slot due]
    exact ⟨sl.failed, slot, rfl⟩

/-- What the end of a slot makes of the domains that are up. -/
theorem State.slotEnd_up {s : State} {sl : Slot} (slot : s.pwr.slot = some sl) : s.slotEnd.pwr.up =
    if sl.up then (if sl.good then orBit s.pwr.up sl.dom else s.pwr.up) else clearBit s.pwr.up sl.dom := by
  unfold State.slotEnd
  simp only [slot]
  generalize timed : (if sl.up = true ∧ ¬ sl.good = true ∧ ¬ sl.failed = true then s.powerTimeout else s) = v
  obtain ⟨failed, kept, up⟩ : ∃ failed, v.pwr.slot = some { sl with failed := failed } ∧ v.pwr.up = s.pwr.up := by
    rw [← timed]
    split
    · exact State.powerTimeout_slot slot
    · exact ⟨sl.failed, slot, rfl⟩
  simp only [kept]
  rw [State.flightKick_up]
  split
  · split
    · exact (State.each_proj (fun v => v.pwr.up) _ (fun s x => by split <;> simp only [State.endReload_pwr]) _ _).trans
        (by unfold State.when; split <;> simp only [State.recoveryOf_pwr, up])
    · exact up
  · exact congrArg (clearBit · sl.dom) up

theorem State.flightSlot_up {s : State} {sl : Slot} (slot : s.pwr.slot = some sl) : s.flightSlot.selfExitStart.pwr.up =
    if sl.up then (if sl.good then orBit s.pwr.up sl.dom else s.pwr.up)
    else if s.domainIdle sl.dom then clearBit s.pwr.up sl.dom else s.pwr.up := by
  rw [State.selfExitStart_pwr]
  unfold State.flightSlot
  simp only [slot]
  by_cases busy : ¬ sl.up = true ∧ ¬ s.domainIdle sl.dom = true
  · rw [if_pos busy, State.flightKick_up, if_neg busy.1, if_neg busy.2]
  · rw [if_neg busy, State.slotEnd_up slot]
    cases goesUp : sl.up with
    | true => rfl
    | false =>
      have idle : s.domainIdle sl.dom = true := by simpa [goesUp] using busy
      rw [idle]
      rfl

/-! A domain that is no longer needed (R52, R76). -/

/-- The request of a domain that is up is the only one, and an idle sequencer takes it at once. -/
theorem PwrSt.reqDown_take {p : PwrSt} {d : Nat} (empty : p.slot = none) (calm : p.brace = none) (noUp : p.upQ = []) (noDown : p.downQ = [])
    (up : bitAt p.up d = true) : (p.reqDown d).take =
      { p with slot := some { dom := d, up := false, good := false, failed := false } } := by
  have asked : p.reqDown d = { p with downQ := [d] } := by simp [PwrSt.reqDown, empty, noUp, noDown, up]
  rw [asked]
  simp [PwrSt.take, empty, calm, noUp, noDown, minOf, maxOf]

theorem State.domainDrained_starts {s : State} {d : Nat} (empty : s.pwr.slot = none) (calm : s.pwr.brace = none) (noUp : s.pwr.upQ = [])
    (noDown : s.pwr.downQ = []) (up : s.domUp d = true) (unneeded : s.needDomain s.cset d = false) (idle : s.domainIdle d = true) :
    s.domainDrained d = { s with pwr := { s.pwr with slot := some { dom := d, up := false, good := false, failed := false } } } := by
  have asked : s.reqDown d = { s with pwr := s.pwr.reqDown d } := by simp [State.reqDown, State.when, noUp]
  unfold State.domainDrained
  rw [if_pos (by simp [up, unneeded, idle]), asked]
  exact congrArg (fun p => { s with pwr := p }) (PwrSt.reqDown_take empty calm noUp noDown up)

theorem State.domainDrained_off {s : State} {d : Nat} (h : s.domUp d = false ∨ s.needDomain s.cset d = true ∨ s.domainIdle d = false) :
    s.domainDrained d = s := by
  refine if_neg ?_
  rintro ⟨up, unneeded, idle⟩
  simp [up, unneeded, idle] at h

end Sys2Proof.Machine

namespace Sys2Proof.Proofs

open Machine Safety Claims

/-- Settles O10: each command amid the records, by the lemma on its operation. -/
theorem flightSlots : Obligations.FlightSlots := by
  intro s t d sl alive r
  refine ⟨fun slot => ⟨fun goesUp tries => ?_, fun goesUp notGood tries first => ?_, fun goesUp notGood tries again => ?_, ?_⟩,
    fun empty calm noUp noDown up unneeded idle => ?_, fun off => ?_⟩
  · refine ⟨_, exec_domainPowerGood t alive, ?_⟩
    rw [State.powerGood_eq slot goesUp tries]
    exact ⟨State.startReloads_eq _ _, fun x listed => State.startReloads_reload _ _ (.inl listed)⟩
  · exact ⟨_, exec_powerGoodTimeout t alive, State.powerTimeout_first slot goesUp notGood tries first⟩
  · refine ⟨_, exec_powerGoodTimeout t alive, ?_⟩
    rw [State.powerTimeout_again slot goesUp notGood tries again]
    cases alwaysDomain sl.dom || noHoldDomain sl.dom <;> exact ⟨rfl, rfl, rfl, rfl, rfl⟩
  · exact ⟨_, exec_flightSlot t alive, State.flightSlot_up slot⟩
  · rw [exec_domainDrained t alive, State.domainDrained_starts empty calm noUp noDown up unneeded idle]
  · rw [exec_domainDrained t alive, State.domainDrained_off off]

end Sys2Proof.Proofs

namespace Sys2Proof.Machine

open Safety Claims

/-! The TAP and the straps (R71, R79, R472): what its instructions do, and which commands reach them. -/

section
variable {s : State} (ir : JtagIr) (dr pins preload : List Bool)

/-- An instruction of manufacturing test changes nothing but the TAP. -/
theorem State.jtagTest_tap (s : State) : ∃ j, s.jtagTest ir dr = { s with jtag := j } := by
  unfold State.jtagTest
  split
  · exact ⟨s.jtag, rfl⟩
  · split <;> exact ⟨_, rfl⟩

theorem State.jtagBypass_tap (s : State) : ∃ j, s.jtagBypass = { s with jtag := j } := by
  unfold State.jtagBypass
  split
  · exact ⟨s.jtag, rfl⟩
  · exact ⟨_, rfl⟩

theorem State.jtagIdcode_tap (s : State) : ∃ j, s.jtagIdcode = { s with jtag := j } := by
  unfold State.jtagIdcode
  split
  · exact ⟨s.jtag, rfl⟩
  · exact ⟨_, rfl⟩

theorem State.jtagSample_tap (s : State) : ∃ j, s.jtagSample pins preload = { s with jtag := j } := by
  unfold State.jtagSample
  split
  · exact ⟨s.jtag, rfl⟩
  · exact ⟨_, rfl⟩

section
variable (held : s.jtag.trst = true)
include held

theorem State.jtagTest_held : s.jtagTest ir dr = s := if_pos held
theorem State.jtagBypass_held : s.jtagBypass = s := if_pos held
theorem State.jtagIdcode_held : s.jtagIdcode = s := if_pos held
theorem State.jtagSample_held : s.jtagSample pins preload = s := if_pos held

end

variable (free : s.jtag.trst = false)
include free

theorem State.jtagBypass_free : s.jtagBypass = { s with jtag := s.jtag.bypass } := if_neg (by simp [free])

theorem State.jtagIdcode_free : s.jtagIdcode = { s with jtag := { s.jtag with ir := .idcode, dr := natBits 32 jtagId } } := if_neg (by simp [free])

theorem State.jtagSample_free : s.jtagSample pins preload =
    { s with jtag := { s.jtag with ir := .sample, dr := pins, sampled := pins, preload := preload } } := if_neg (by simp [free])

/-- In service an instruction of manufacturing test acts as BYPASS (R472). -/
theorem State.jtagTest_service (service : s.pwr.straps.testEn = false) : s.jtagTest ir dr = { s with jtag := s.jtag.bypass } := by
  unfold State.jtagTest
  rw [if_neg (by simp [free]), if_neg (by simp [service])]

theorem State.jtagTest_test (test : s.pwr.straps.testEn = true) : s.jtagTest ir dr = { s with jtag := { s.jtag with ir := ir, dr := dr } } := by
  unfold State.jtagTest
  rw [if_neg (by simp [free]), if_pos test]

end

section
variable {c : Instr} {s u : State}

theorem State.always_tap {t : Nat} {f : State → State} (h : ∀ s, ∃ j, f s = { s with jtag := j }) (e : s.always t f = .next u) :
    ∃ j, u = { s.tick t with jtag := j } := by
  cases e
  exact h _

/-- A TAP command changes nothing but the TAP and the instant. -/
theorem exec_tap (tap : tapCommand c = true) (e : exec c s = .next u) : ∃ j, u = { s.tick (instant c) with jtag := j } := by
  cases c with
  | trstAssert t => exact State.always_tap (f := State.trstAssert) (fun _ => ⟨_, rfl⟩) e
  | trstDeassert t => exact State.always_tap (f := State.trstDeassert) (fun _ => ⟨_, rfl⟩) e
  | jtagBypass t => exact State.always_tap State.jtagBypass_tap e
  | jtagIdcode t => exact State.always_tap State.jtagIdcode_tap e
  | jtagSamplePreload t pins preload => exact State.always_tap (State.jtagSample_tap pins preload) e
  | jtagExtest t pins => exact State.always_tap (State.jtagTest_tap .extest pins) e
  | jtagExtestPulse t pins => exact State.always_tap (State.jtagTest_tap .extestPulse pins) e
  | jtagExtestTrain t pins => exact State.always_tap (State.jtagTest_tap .extestTrain pins) e
  | jtagClamp t => exact State.always_tap (State.jtagTest_tap .clamp [false]) e
  | jtagHighz t => exact State.always_tap (State.jtagTest_tap .highz [false]) e
  | _ => cases tap

/-- The straps and the TAP. -/
def State.strapsTap (s : State) : Straps × JtagSt := (s.pwr.straps, s.jtag)

theorem State.strapsTap_of_base {s t : State} (h : s.base = t.base) : s.strapsTap = t.strapsTap := congrArg (fun b => (b.straps, b.jtag)) h

/-- The end of a flash operation changes nothing of the base but the OTP (R100). -/
theorem State.nvmDone_strapsTap (s : State) (same : Bool) : (s.nvmDone same).strapsTap = s.strapsTap := by
  obtain ⟨o, -, done⟩ := s.nvmDone_kept same
  exact congrArg (fun k => (k.base.straps, k.base.jtag)) done

/-- What a cold reset leaves of the TAP: the level of TRST_L. -/
def JtagSt.coldReset (j : JtagSt) : JtagSt := { JtagSt.reset with trst := j.trst }

/-- What the command that is not the TAP's makes of straps and TAP: RESET_EXIT alone reaches the straps, a cold reset alone the TAP. -/
theorem exec_strapsTap (tap : tapCommand c = false) (e : exec c s = .next u) :
    u.strapsTap = s.strapsTap ∨ (∃ t st o z f, c = .resetExit t st o z f ∧ s.pwr.phase = .exitDue ∧ u.strapsTap = (st, s.jtag)) ∨
    (((∃ t, c = .porAssert t) ∨ ∃ t m, c = .resetTrip t m) ∧ u.strapsTap = (s.pwr.straps, s.jtag.coldReset)) := by
  cases changes : changesBase c with
  | false => exact .inl (State.strapsTap_of_base (t := s.tick (instant c)) (exec_base changes e))
  | true =>
    cases c with
    | porAssert t =>
      cases e
      exact .inr (.inr ⟨.inl ⟨t, rfl⟩, congrArg (fun b => (b.straps, b.jtag)) (s.tick t).porAssert_base⟩)
    | resetTrip t m =>
      cases e
      rcases (s.tick t).resetTrip_base m with kept | cold
      · exact .inl (State.strapsTap_of_base (t := s.tick t) kept)
      · exact .inr (.inr ⟨.inr ⟨t, m, rfl⟩, congrArg (fun b => (b.straps, b.jtag)) cold⟩)
    | resetExit t st o z f =>
      cases e
      by_cases due : s.pwr.phase = .exitDue
      · exact .inr (.inl ⟨t, st, o, z, f, rfl, due, congrArg (fun b => (b.straps, b.jtag)) ((s.tick t).resetExit_base_due st o z f due)⟩)
      · exact .inl (congrArg State.strapsTap ((s.tick t).resetExit_notDue st o z f due) :)
    | nvmOpDone t same =>
      cases e
      exact .inl ((State.strapsTap_of_base ((State.flashFree_base _).trans (State.recordsRun_base _))).trans
        ((State.nvmDone_strapsTap _ same).trans (State.strapsTap_of_base (t := s.tick t) (State.recordsRun_base _))))
    | trstAssert _ | trstDeassert _ | jtagBypass _ | jtagIdcode _ | jtagSamplePreload _ _ _ | jtagExtest _ _ | jtagExtestPulse _ _
    | jtagExtestTrain _ _ | jtagClamp _ | jtagHighz _ => cases tap
    | _ => cases changes

end

end Sys2Proof.Machine

namespace Sys2Proof.Proofs

open Machine Safety Claims

/-- Settles O52: a literal state, whose TAP is in reset. -/
theorem invariantAtReset : Obligations.InvariantAtReset := ⟨Straps.pair_lt _, Nat.zero_le _, fun _ => rfl⟩

/-- Settles O48: each instruction is held (`State.jtagTest_held` and the like), acts, or in service acts as BYPASS (`State.jtagTest_service`). -/
theorem tapInstructions : Obligations.TapInstructions := by
  intro s t pins pre
  have acts : ∀ {u v : State}, u = v → (.next u : Host.Outcome State Fault Refusal) = .next v := congrArg _
  refine ⟨rfl, rfl, fun held => ?_, fun free => ⟨?_, ?_, ?_⟩, fun free service => ?_, fun free test => ⟨?_, ?_, ?_, ?_, ?_⟩⟩
  · have test := fun ir dr => acts (State.jtagTest_held (s := s.tick t) ir dr held)
    simp only [List.forall_mem_cons]
    exact ⟨acts (State.jtagBypass_held (s := s.tick t) held), acts (State.jtagIdcode_held (s := s.tick t) held),
      acts (State.jtagSample_held (s := s.tick t) pins pre held), test .extest pins, test .extestPulse pins, test .extestTrain pins,
      test .clamp [false], test .highz [false], nofun⟩
  · exact acts (State.jtagBypass_free (s := s.tick t) free)
  · exact acts (State.jtagIdcode_free (s := s.tick t) free)
  · exact acts (State.jtagSample_free (s := s.tick t) pins pre free)
  · have bypass := fun ir dr => acts (State.jtagTest_service (s := s.tick t) ir dr free service)
    simp only [List.forall_mem_cons]
    exact ⟨bypass .extest pins, bypass .extestPulse pins, bypass .extestTrain pins, bypass .clamp [false], bypass .highz [false], nofun⟩
  · exact acts (State.jtagTest_test (s := s.tick t) .extest pins free test)
  · exact acts (State.jtagTest_test (s := s.tick t) .extestPulse pins free test)
  · exact acts (State.jtagTest_test (s := s.tick t) .extestTrain pins free test)
  · exact acts (State.jtagTest_test (s := s.tick t) .clamp [false] free test)
  · exact acts (State.jtagTest_test (s := s.tick t) .highz [false] free test)

/-- Settles O55: a command of the TAP leaves the straps (`exec_tap`), and of the others RESET_EXIT alone reaches them (`exec_strapsTap`). -/
theorem strapsOnlyAtResetExit : Obligations.StrapsOnlyAtResetExit := by
  intro c s u e
  have reached : u.pwr.straps = s.pwr.straps ∨ ∃ t st o z f, c = .resetExit t st o z f ∧ s.pwr.phase = .exitDue ∧ u.pwr.straps = st := by
    cases tap : tapCommand c with
    | true =>
      obtain ⟨j, rfl⟩ := exec_tap tap e
      exact .inl rfl
    | false =>
      rcases exec_strapsTap tap e with stands | ⟨t, st, o, z, f, exits, due, latched⟩ | ⟨-, cold⟩
      · exact .inl (congrArg Prod.fst stands)
      · exact .inr ⟨t, st, o, z, f, exits, due, congrArg Prod.fst latched⟩
      · exact .inl (congrArg Prod.fst cold)
  refine ⟨fun other => ?_, ?_, ?_⟩
  · rcases reached with stands | ⟨t, st, o, z, f, exits, -⟩
    · exact stands
    · exact absurd exits (other t st o z f)
  · rintro t st o z f rfl due
    cases e
    exact congrArg Base.straps ((s.tick t).resetExit_base_due st o z f due)
  · rintro t st o z f - early
    rcases reached with stands | ⟨-, -, -, -, -, -, due, -⟩
    · exact stands
    · exact absurd due early

/-- Settles O57: a command of the TAP by `exec_tap`, any other by `exec_strapsTap`. -/
theorem tapIsolated : Obligations.TapIsolated := by
  intro c s u e
  refine ⟨fun tap => ?_, fun tap noPor noTrip => ?_, fun tap => ?_⟩
  · obtain ⟨j, rfl⟩ := exec_tap tap e
    rfl
  · rcases exec_strapsTap tap e with stands | ⟨_, _, _, _, _, _, _, exits⟩ | ⟨⟨t, por⟩ | ⟨t, m, trip⟩, -⟩
    · exact congrArg Prod.snd stands
    · exact congrArg Prod.snd exits
    · exact absurd por (noPor t)
    · exact absurd trip (noTrip t m)
  · rcases exec_strapsTap tap e with stands | ⟨_, _, _, _, _, _, _, exits⟩ | ⟨-, cold⟩
    · exact congrArg (fun p => p.2.trst) stands
    · exact congrArg (fun p => p.2.trst) exits
    · exact congrArg (fun p => p.2.trst) cold

end Sys2Proof.Proofs

namespace Sys2Proof.Machine

open Safety Claims

/-! Supply monitors (R82 to R84). -/

theorem State.isle_island {s : State} (t : Nat) (f : State → State) (island : s.island = true) : s.isle t f = .next (f (s.tick t)) :=
  congrArg _ (if_pos island)

/-- A command of the always-on island amid the records of an image load (R95). -/
theorem State.isle_amidRecords {s : State} (t : Nat) (f : State → State) (island : s.island = true) :
    s.isle t (fun s => s.loading f) = .next (f (s.tick t).recordsRun).recordsRun := State.isle_island t (fun s => s.loading f) island

theorem orBit_zero (n : Nat) : orBit 0 n = 2 ^ n := by
  rw [orBit, Nat.zero_or, Nat.one_shiftLeft]

section
variable {s : State} {mon : Nat} (listed : mon < 18)
include listed

theorem State.overvolt_listed : s.overvolt mon =
    (s.wr F.PWR_MON_OV_OV (orBit (s.rd F.PWR_MON_OV_OV) mon)).raise 0x104 bPWR (2 ^ mon) s.lock.pound := by
  unfold State.overvolt
  rw [if_neg (Nat.not_le.mpr listed), orBit_zero]
  rfl

end

/-- A brace tells an erase in progress to suspend, and nothing else (R108). -/
theorem State.nvmBrace_eq (s : State) : s.nvmBrace = { s with img := { s.img with suspend := s.img.erasing.isSome || s.img.suspend } } := by
  unfold State.nvmBrace ImgSt.erasing
  split
  · split <;> rfl
  · rfl

theorem ImgSt.erasing_of_erase {i : ImgSt} {j : NvmJob} {o : NvmOp} {l : List NvmOp} (job : i.job = some j) (ops : j.ops = o :: l)
    (erase : o.kind = 3 ∨ o.kind = 4) : i.erasing = some o := by
  obtain ⟨who, _, retry, data⟩ := j
  cases ops
  unfold ImgSt.erasing
  rw [job]
  exact if_pos erase

/-- The brace that a warning begins, and the power state with it (R82, R83). -/
def Brace.first (now mon : Nat) (pounds : List Nat) : Brace := { since := now, mask := 2 ^ mon, trips := 2 ^ mon, raised := false, pounds := pounds }

/-- A further warning of a brace (R83). -/
def Brace.extend (b : Brace) (now mon : Nat) : Brace :=
  { b with trips := orBit b.trips mon, mask := if b.raised ∨ b.since + 200 < now then b.mask else orBit b.mask mon }

/-- The pound open at a warning. -/
def State.openPounds (s : State) : List Nat := if s.lock.everOpened then [s.lock.pound] else []

section
variable {s : State} {mon : Nat} (listed : mon < 18) (running : s.pwr.phase = .run)
include listed running

/-- The first warning: the brace begins, an erase is told to suspend, and the fault is noted. -/
theorem State.warnTrip_first (calm : s.pwr.brace = none) : ∃ led evt recover, s.warnTrip mon =
    { s with led := led, evt := evt, lock := { s.lock with recover := recover },
             pwr := { s.pwr with brace := some (Brace.first s.clk.now mon s.openPounds), marked := (s.openPounds ++ s.pwr.marked).take 16 },
             img := { s.img with suspend := s.img.erasing.isSome || s.img.suspend } } := by
  unfold State.warnTrip
  rw [if_neg (Nat.not_le.mpr listed)]
  simp only [State.wr_pwr, running, calm, ne_eq, not_true_eq_false, if_false, orBit_zero]
  refine (State.noteFaultIn_eq _ 0x101 true).imp fun led => Exists.imp fun evt => Exists.imp fun recover noted => noted.trans ?_
  rw [State.nvmBrace_eq]
  rfl

/-- A warning during a brace extends it. -/
theorem State.warnTrip_again {b : Brace} (braced : s.pwr.brace = some b) :
    (s.warnTrip mon).pwr = { s.pwr with brace := some (b.extend s.clk.now mon) } := by
  unfold State.warnTrip
  rw [if_neg (Nat.not_le.mpr listed)]
  extract_lets live seen
  rw [if_neg (show ¬ seen.pwr.phase ≠ .run from not_not_intro running), show seen.pwr.brace = some b from braced]
  rfl

end

/-- The window after the first trip closes: the event is raised once (R83). -/
theorem State.braceEvent_eq {s : State} {b : Brace} (braced : s.pwr.brace = some b) : s.braceEvent =
    if b.raised then s
    else ({ s with pwr := { s.pwr with brace := some { b with raised := true } } } : State).raise 0x101 bPWR b.mask s.lock.pound := by
  unfold State.braceEvent
  rw [braced]
  rfl

/-! The operations on the flash show themselves in two words of the ledger (R107). -/

section
variable {f : Fld} (stat : f.addr ≠ R.IMG_NVM_STAT) (addr : f.addr ≠ R.IMG_NVM_ADDR)
include stat addr

theorem State.showNvm_rd (s : State) : s.showNvm.rd f = s.rd f := by
  have op : ∀ (s : State) (v : Nat), (s.wr F.IMG_NVM_STAT_OP v).rd f = s.rd f := fun s v => s.rd_wr_other _ f v stat
  have busy : ∀ (s : State) (v : Nat), (s.wr F.IMG_NVM_STAT_BUSY v).rd f = s.rd f := fun s v => s.rd_wr_other _ f v stat
  have at_ : ∀ (s : State) (v : Nat), (s.wr F.IMG_NVM_ADDR_ADDR v).rd f = s.rd f := fun s v => s.rd_wr_other _ f v addr
  unfold State.showNvm
  split
  · dsimp only
    split <;> simp only [op, busy, at_]
  · split <;> simp only [op, busy, at_]

theorem State.nvmStart_rd (s : State) : s.nvmStart.rd f = s.rd f := by
  unfold State.nvmStart
  split
  · rfl
  · split
    · exact State.showNvm_rd stat addr _
    · split
      · exact State.showNvm_rd stat addr _
      · rfl

omit addr in
theorem State.nvmResume_rd (s : State) : s.nvmResume.rd f = s.rd f := by
  unfold State.nvmResume
  split
  · exact s.rd_wr_other _ f 0 stat
  · rfl

end

theorem State.showNvm_pwr (s : State) : s.showNvm.pwr = s.pwr := by
  unfold State.showNvm
  split
  · dsimp only
    split <;> rfl
  · split <;> rfl

theorem State.nvmStart_pwr (s : State) : s.nvmStart.pwr = s.pwr := by
  unfold State.nvmStart
  split
  · rfl
  · split
    · exact State.showNvm_pwr _
    · split
      · exact State.showNvm_pwr _
      · rfl

theorem State.nvmResume_pwr (s : State) : s.nvmResume.pwr = s.pwr := by
  unfold State.nvmResume
  split <;> rfl

/-! The sequencer takes a request (R74, R76). -/

theorem PwrSt.take_brace (p : PwrSt) : p.take.brace = p.brace := by
  unfold PwrSt.take
  (repeat' split) <;> rfl

theorem PwrSt.take_retried (p : PwrSt) : p.take.retried = p.retried := by
  unfold PwrSt.take
  (repeat' split) <;> rfl

theorem PwrSt.reqUp_retried (p : PwrSt) (failed : Bool) (d : Nat) : (p.reqUp failed d).retried = p.retried := by
  unfold PwrSt.reqUp
  extract_lets q goingUp goingDown
  split <;> rfl

/-- A sequencer that is at work or stopped, or has no request, takes none. -/
theorem PwrSt.take_none {p : PwrSt} (h : p.slot.isSome ∨ p.brace.isSome ∨ (p.upQ = [] ∧ p.downQ = [])) : p.take = p := by
  unfold PwrSt.take
  rcases h with slot | brace | ⟨up, down⟩
  · rw [if_pos (.inl slot)]
  · rw [if_pos (.inr brace)]
  · rw [up, down]
    split <;> rfl

theorem State.rd_raise (s : State) (f : Fld) (code block arg0 arg1 : Nat) : (s.raise code block arg0 arg1).rd f = s.rd f := rfl

theorem State.recoveryOf_rd (s : State) (code : Nat) (f : Fld) : (s.recoveryOf code).rd f = s.rd f := rfl

theorem State.flightKick_rd (s : State) (f : Fld) : s.flightKick.rd f = s.rd f := rfl

theorem State.flightKick_brace (s : State) : s.flightKick.pwr.brace = s.pwr.brace := s.pwr.take_brace

/-! The end of a brace (R82). -/

/-- The state without the brace, before the flash and the sequencer go on. -/
def State.braceLeft (s : State) (b : Brace) : State :=
  (((State.wr { s with pwr := { s.pwr with brace := none } } F.PWR_MON_LIVE_WARN 0).raise 0x102 bPWR ((s.clk.now - b.since) / 1000)
    b.pounds.length).wr F.PWR_BRACE_LAST_DUR_US (satN 0xFFFFFFFF ((s.clk.now - b.since) / 1000))).recoveryOf 0x101

section
variable {s : State} {b : Brace} (braced : s.pwr.brace = some b)
include braced

theorem State.braceEnd_eq : s.braceEnd = (s.braceLeft b).nvmResume.nvmStart.flightKick := by
  unfold State.braceEnd
  rw [braced]
  rfl

theorem State.braceEnd_calm : s.braceEnd.pwr.brace = none := by
  rw [State.braceEnd_eq braced, State.flightKick_brace, State.nvmStart_pwr, State.nvmResume_pwr]
  rfl

/-- The flash and the sequencer going on leave the other fields. -/
theorem State.braceEnd_rd {f : Fld} (stat : f.addr ≠ R.IMG_NVM_STAT) (addr : f.addr ≠ R.IMG_NVM_ADDR) : s.braceEnd.rd f = (s.braceLeft b).rd f := by
  rw [State.braceEnd_eq braced, State.flightKick_rd, State.nvmStart_rd stat addr, State.nvmResume_rd stat]

theorem State.braceEnd_warn : s.braceEnd.rd F.PWR_MON_LIVE_WARN = 0 := by
  rw [State.braceEnd_rd braced (by decide) (by decide), State.braceLeft, State.recoveryOf_rd, State.rd_wr_other _ _ _ _ (by decide), State.rd_raise,
    State.rd_wr _ _ _ (by decide) (by decide), Nat.zero_mod]

theorem State.braceEnd_duration : s.braceEnd.rd F.PWR_BRACE_LAST_DUR_US = satN 0xFFFFFFFF ((s.clk.now - b.since) / 1000) := by
  have fits : satN 0xFFFFFFFF ((s.clk.now - b.since) / 1000) < 2 ^ 32 := by
    unfold satN
    split <;> omega
  rw [State.braceEnd_rd braced (by decide) (by decide), State.braceLeft, State.recoveryOf_rd, State.rd_wr _ _ _ (by decide) (by decide)]
  exact Nat.mod_eq_of_lt fits

end

/-! PWR_DOM_FAIL is cleared (R77). -/

/-- The domains of word `k` that a write clears. -/
def State.failsCleared (s : State) (k : Nat) (v : Word) : List Nat := (maskBits 32 (s.rdW (R.PWR_DOM_FAIL k) &&& v).toNat).map (fun b => 32 * k + b)

theorem State.failsCleared_none {s : State} {k : Nat} {v : Word} (none : s.rdW (R.PWR_DOM_FAIL k) &&& v = 0#32) : s.failsCleared k v = [] := by
  unfold State.failsCleared
  rw [none]
  rfl

theorem State.mem_failsCleared {s : State} {k b : Nat} {v : Word} (below : b < 32) (set : (s.rdW (R.PWR_DOM_FAIL k) &&& v).getLsbD b = true) :
    32 * k + b ∈ s.failsCleared k v := by
  refine List.mem_map_of_mem (List.mem_filter.mpr ⟨List.mem_range.mpr below, ?_⟩)
  rwa [bitAt_eq_testBit, BitVec.testBit_toNat]

/-- The state with the bits cleared and the retries of their domains forgotten. -/
def State.failsForgot (s : State) (k : Nat) (v : Word) : State :=
  { s.wrW (R.PWR_DOM_FAIL k) (s.rdW (R.PWR_DOM_FAIL k) &&& ~~~v) with
    pwr := { s.pwr with retried := s.pwr.retried.filter (fun d => !(s.failsCleared k v).contains d) } }

theorem State.domFailClear_eq (s : State) {k : Nat} (listed : k < 5) (v : Word) : s.domFailClear k v =
    ((s.failsForgot k v).each ((s.failsCleared k v).filter ((s.failsForgot k v).needDomain s.cset)) (fun s d => s.reqUp d)).flightKick := by
  unfold State.domFailClear
  rw [if_neg (Nat.not_le.mpr listed)]
  rfl

theorem State.domFailClear_idle {s : State} {k : Nat} {v : Word} (listed : k < 5) (none : s.rdW (R.PWR_DOM_FAIL k) &&& v = 0#32)
    (idle : s.pwr.slot.isSome ∨ s.pwr.brace.isSome ∨ (s.pwr.upQ = [] ∧ s.pwr.downQ = [])) :
    s.domFailClear k v = s.wrW (R.PWR_DOM_FAIL k) (s.rdW (R.PWR_DOM_FAIL k) &&& ~~~v) := by
  have forgot : s.failsForgot k v = s.wrW (R.PWR_DOM_FAIL k) (s.rdW (R.PWR_DOM_FAIL k) &&& ~~~v) := by
    unfold State.failsForgot
    rw [State.failsCleared_none none]
    simp only [List.contains_nil, Bool.not_false, List.filter_true]
    rfl
  rw [State.domFailClear_eq s listed, State.failsCleared_none none, forgot]
  exact congrArg (fun p => { s.wrW (R.PWR_DOM_FAIL k) (s.rdW (R.PWR_DOM_FAIL k) &&& ~~~v) with pwr := p }) (PwrSt.take_none idle)

/-- The requests change neither the ledger nor the retries. -/
theorem State.domFailClear_effect (s : State) {k : Nat} (listed : k < 5) (v : Word) :
    ((s.domFailClear k v).led, (s.domFailClear k v).pwr.retried) = ((s.failsForgot k v).led, (s.failsForgot k v).pwr.retried) := by
  rw [s.domFailClear_eq listed]
  have asked := State.each_proj (fun s => (s.led, s.pwr.retried)) (fun s d => s.reqUp d) (fun _ _ => congrArg (Prod.mk _) (PwrSt.reqUp_retried ..))
    ((s.failsCleared k v).filter ((s.failsForgot k v).needDomain s.cset)) (s.failsForgot k v)
  exact (congrArg (Prod.mk _) (PwrSt.take_retried _)).trans asked

end Sys2Proof.Machine

namespace Sys2Proof.Proofs

open Machine Safety Claims

/-- Settles O8: the trip amid the records (`State.overvolt_listed`), none of which it makes wait or go on (`State.overvolt_loadAt`). -/
theorem overvoltOnlyReports : Obligations.OvervoltOnlyReports := by
  intro s t n island listed
  have trips : exec (.overvoltTrip t n) s = .next (((s.tick t).recordsRun.overvolt n).recordsRun) :=
    State.isle_amidRecords t (fun s => s.overvolt n) island
  refine ⟨?_, fun none => ?_⟩
  · rw [State.overvolt_listed listed] at trips
    exact trips
  · rw [State.recordsRun_none (s := s.tick t) none, State.recordsRun_none ((congrArg Prod.fst ((s.tick t).overvolt_loadAt n)).trans none),
      State.overvolt_listed listed] at trips
    exact trips

/-- A part of `bracesAndFailClear`: the warnings (`State.warnTrip_first`, `State.warnTrip_again`), the event and the end of a brace. -/
theorem braceRuns : Claims.BraceRuns := by
  intro s t mon r opened
  refine ⟨fun island listed running calm => ?_, fun island listed running b braced => ?_, fun alive b braced => ?_, fun alive b braced => ?_⟩
  · refine ⟨r.warnTrip mon, State.isle_amidRecords t (fun s => s.warnTrip mon) island, ?_⟩
    obtain ⟨led, evt, recover, begins⟩ := State.warnTrip_first listed running calm
    rw [begins]
    refine ⟨rfl, fun j o l job ops erase => ?_⟩
    rw [ImgSt.erasing_of_erase job ops erase]
    rfl
  · exact ⟨r.warnTrip mon, State.isle_amidRecords t (fun s => s.warnTrip mon) island, State.warnTrip_again listed running braced⟩
  · exact (State.live_alive t State.braceEvent alive).trans (congrArg _ (State.braceEvent_eq (s := s.tick t) braced))
  · refine ⟨r.braceEnd, State.live_amidRecords t State.braceEnd alive, State.braceEnd_calm braced, State.braceEnd_warn braced,
      State.braceEnd_duration braced⟩

/-- A part of `bracesAndFailClear`. -/
theorem failClear : Claims.FailClear := by
  intro s t n v r
  have clears : s.alive = true → exec (.domFailClear t n v) s = .next (r.domFailClear n v) := State.live_alive t (fun s => s.domFailClear n v)
  refine ⟨fun alive listed none idle => ?_, fun alive listed => ⟨_, clears alive, ?_⟩⟩
  · rw [clears alive, State.domFailClear_idle (s := r) listed none idle]
    rfl
  · obtain ⟨led, retried⟩ := Prod.mk.inj (r.domFailClear_effect listed v)
    refine ⟨led, fun b below set => ?_⟩
    rw [retried]
    simp [State.failsForgot, State.mem_failsCleared (s := r) below set]

/-- Settles O9. -/
theorem bracesAndFailClear : Obligations.BracesAndFailClear := ⟨braceRuns, failClear⟩

end Sys2Proof.Proofs


namespace Sys2Proof.Machine

open Safety Claims

/-! What panel care and the flash registers leave alone at a reset (R80, R107, R338). -/

/-- The state without panel care and what it reaches: the live ledger, the lanes and what they have sent. -/
def State.offPanel (s : State) : State :=
  { s with led := { s.led with live := [] }, panel := PanelSt.reset, lanes := LanesSt.reset, tx := [] }

/-- The state with the panel care of another one. -/
def State.withPanelOf (s t : State) : State :=
  { s with led := { s.led with live := t.led.live }, panel := t.panel, lanes := t.lanes, tx := t.tx }

theorem State.wr_offPanel (s : State) (f : Fld) (v : Nat) : (s.wr f v).offPanel = s.offPanel := rfl

/-- A state that agrees with another one off the panel. -/
theorem State.withPanelOf_of_offPanel {s t : State} (h : t.offPanel = s.offPanel) : t = s.withPanelOf t :=
  show t.offPanel.withPanelOf t = s.offPanel.withPanelOf t by rw [h]

theorem State.laneStates_offPanel (s : State) (v : Nat) : (s.laneStates v).offPanel = s.offPanel := by
  unfold State.laneStates
  exact State.each_proj State.offPanel _ (fun s n => s.wr_offPanel _ v) _ s

theorem State.txMark_offPanel (s : State) (k : Nat) : (s.txMark k).offPanel = s.offPanel := by
  unfold State.txMark
  split <;> rfl

theorem State.panelOff_offPanel (s : State) : s.panelOff.offPanel = s.offPanel := by
  unfold State.panelOff
  extract_lets s1 s2
  have marked : s1.offPanel = s.offPanel := by
    simp only [s1]
    split
    · exact State.txMark_offPanel ..
    · rfl
  have off : s2.offPanel = s1.offPanel := by
    simp only [s2]
    split
    · exact State.laneStates_offPanel ..
    · rfl
  clear_value s2
  exact off.trans marked

theorem State.panelDown_offPanel (s : State) (cause : Nat) : (s.panelDown cause).offPanel = s.offPanel := by
  unfold State.panelDown
  split
  · rfl
  · have off := s.panelOff_offPanel
    generalize s.panelOff = v at off ⊢
    extract_lets v
    rw [State.wr_offPanel]
    exact off

theorem State.panelReset_offPanel (s : State) : s.panelReset.offPanel = s.offPanel := by
  have off := s.panelDown_offPanel 2
  unfold State.panelReset
  generalize s.panelDown 2 = v at off ⊢
  exact (show _ = (v.wr F.PNL_STATUS_VREF_DRV 0).offPanel from rfl).trans ((v.wr_offPanel ..).trans off)

theorem State.panelFast_offPanel (s : State) (trigger : Nat) : (s.panelFast trigger).offPanel = s.offPanel := by
  have off := s.panelOff_offPanel
  unfold State.panelFast
  split
  · rfl
  · generalize s.panelOff = v at off ⊢
    extract_lets v p
    rw [State.wr_offPanel, State.wr_offPanel]
    exact off

/-- The state without the live ledger. -/
def State.offLive (s : State) : State := s.setLive []

theorem State.wr_offLive (s : State) (f : Fld) (v : Nat) : (s.wr f v).offLive = s.offLive := rfl

/-- A state that agrees with another one off the live ledger. -/
theorem State.setLive_of_offLive {s t : State} (h : t.offLive = s.offLive) : t = s.setLive t.led.live :=
  show t.offLive.setLive t.led.live = s.offLive.setLive t.led.live by rw [h]

theorem State.showNvm_offLive (s : State) : s.showNvm.offLive = s.offLive := by
  unfold State.showNvm
  split
  · dsimp only
    split <;> simp only [State.wr_offLive]
  · split <;> simp only [State.wr_offLive]

/-! The entry of a reset (R79 to R81): all of it is `State.cleared`, but for panel care, live registers, the banks it found torn and FAULT_L. -/

/-- A state as a reset entry leaves it: `State.cleared` with what its registers showed. -/
def State.clearedAs (s : State) (cold lost : Bool) (phase : ResetPhase) (live : RegFile) (panel : PanelSt) (torn : Nat) (held : Bool) : State :=
  { s.cleared cold lost phase with
    led := { (s.cleared cold lost phase).led with live := live }, panel := panel,
    img := { (s.cleared cold lost phase).img with torn := torn }, pwr := { (s.cleared cold lost phase).pwr with faultHeld := held } }

theorem State.enterReset_offLive (s : State) (cold lost : Bool) (phase : ResetPhase) :
    (s.enterReset cold lost phase).offLive = (s.panelReset.cleared cold lost phase).offLive := by
  unfold State.enterReset
  extract_lets er was addr s1 s2
  have shown : s2.offLive = s1.offLive := s1.showNvm_offLive
  clear_value er was addr s2
  split
  · exact shown
  · cases er with
    | some o => simpa only [State.wr_offLive] using shown
    | none =>
      dsimp only
      split
      · simpa only [State.wr_offLive] using shown
      · exact shown

theorem State.enterReset_eq (s : State) (cold lost : Bool) (phase : ResetPhase) :
    ∃ live panel torn held, s.enterReset cold lost phase = s.clearedAs cold lost phase live panel torn held := by
  rw [State.setLive_of_offLive (s.enterReset_offLive cold lost phase), State.withPanelOf_of_offPanel s.panelReset_offPanel]
  exact ⟨_, _, _, _, rfl⟩

/-- A flash without an operation stands through a reset (R108). -/
theorem ImgSt.nvmReset_flash {i : ImgSt} (none : i.job = none) (lost : Bool) : (i.nvmReset lost).flash = i.flash := by
  unfold ImgSt.nvmReset
  rw [none]

/-! A cold reset leaves no panel powered, so that a fast discharge in it reaches no lane (R338, R346). -/

theorem State.rd_wrW_other (s : State) (f : Fld) {a : Nat} (w : Word) (h : f.addr ≠ a) : (s.wrW a w).rd f = s.rd f :=
  congrArg (fun x => bitsOf (BitVec.toNat x) f.hi f.lo) (s.rdW_wrW_other w h)

theorem State.panelOn_congr {s t : State} (h : s.pstate = t.pstate) : s.panelOn = t.panelOn := by
  unfold State.panelOn
  rw [h]

theorem State.panelDown_panelOn (s : State) (cause : Nat) : (s.panelDown cause).panelOn = false := by
  unfold State.panelDown
  by_cases on : s.panelOn = true
  · rw [if_neg (not_not_intro on)]
    extract_lets v
    unfold State.panelOn State.pstate
    rw [State.rd_wr _ _ _ (by decide) (by decide)]
    rfl
  · rw [if_pos on]
    exact Bool.not_eq_true _ ▸ on

theorem State.panelReset_panelOn (s : State) : s.panelReset.panelOn = false := by
  have off := s.panelDown_panelOn 2
  unfold State.panelReset
  generalize s.panelDown 2 = v at off ⊢
  exact (State.panelOn_congr (s := v.wr F.PNL_STATUS_VREF_DRV 0) (v.rd_wr_beside _ F.PNL_STATUS_STATE 0 (by decide) (by decide) rfl (by decide))).trans off

/-- Of the registers of panel care a cold reset keeps the state of the sequence. -/
theorem State.cleared_pstate (s : State) (lost : Bool) (phase : ResetPhase) : (s.cleared true lost phase).pstate = s.pstate := by
  refine (RegFile.fld_setFld [] F.PNL_STATUS_STATE (s.led.live.fld F.PNL_STATUS_STATE) (by decide) (by decide)).trans ?_
  exact Nat.mod_eq_of_lt (Nat.mod_lt _ (Nat.two_pow_pos _))

/-- The record of a cut erase shows itself in the words of the flash alone. -/
theorem State.enterReset_rd (s : State) (cold lost : Bool) (phase : ResetPhase) {f : Fld} (stat : f.addr ≠ R.IMG_NVM_STAT) (addr : f.addr ≠ R.IMG_NVM_ADDR) :
    (s.enterReset cold lost phase).rd f = (s.panelReset.cleared cold lost phase).rd f := by
  have pend : ∀ (s : State) (v : Nat), (s.wr F.IMG_NVM_STAT_ERASE_PEND v).rd f = s.rd f := fun s v => s.rd_wr_other _ f v stat
  have suspended : ∀ (s : State) (v : Nat), (s.wr F.IMG_NVM_STAT_SUSPENDED v).rd f = s.rd f := fun s v => s.rd_wr_other _ f v stat
  have op : ∀ (s : State) (v : Nat), (s.wr F.IMG_NVM_STAT_OP v).rd f = s.rd f := fun s v => s.rd_wr_other _ f v stat
  have at_ : ∀ (s : State) (v : Nat), (s.wr F.IMG_NVM_ADDR_ADDR v).rd f = s.rd f := fun s v => s.rd_wr_other _ f v addr
  unfold State.enterReset
  extract_lets er was a s1 s2
  have shown : s2.rd f = s1.rd f := State.showNvm_rd stat addr s1
  clear_value er was a s2
  split
  · exact shown
  · cases er with
    | some o => simpa only [pend, suspended, op, at_] using shown
    | none =>
      dsimp only
      split
      · simpa only [pend, at_] using shown
      · exact shown

theorem State.coldReset_panelOn (s : State) (lost : Bool) (phase : ResetPhase) {f : Fld} (cause : f.addr = R.PWR_RST_CAUSE) :
    (s.coldReset lost phase f).panelOn = false := by
  refine (State.panelOn_congr ?_).trans s.panelReset_panelOn
  unfold State.coldReset
  refine (State.rd_wr_other _ f F.PNL_STATUS_STATE 1 (by rw [cause]; decide)).trans ?_
  refine (State.rd_wrW_other _ F.PNL_STATUS_STATE _ (by decide)).trans ?_
  exact (s.enterReset_rd true lost phase (by decide) (by decide)).trans (State.cleared_pstate ..)

theorem State.panelOff_off {s : State} (off : s.panelOn = false) : s.panelOff = { s with panel := { s.panel with tempFails := 0, frozen := false } } := by
  have train : s.pstate ≠ pTRAIN := fun h => by simp [State.panelOn, h] at off
  have up : s.pstate ≠ pUP := fun h => by simp [State.panelOn, h] at off
  unfold State.panelOff
  simp only [train, up, or_self, if_false]

/-- The fast path of a panel that is off changes live registers and panel care alone. -/
theorem State.panelFast_off {s : State} (off : s.panelOn = false) (trigger : Nat) : ∃ live panel, s.panelFast trigger = { s.setLive live with panel := panel } := by
  unfold State.panelFast
  split
  · exact ⟨s.led.live, s.panel, rfl⟩
  · rw [State.panelOff_off off]
    exact ⟨_, _, rfl⟩

/-! Cold resets (R79, R80). -/

theorem State.coldReset_eq (s : State) (lost : Bool) (phase : ResetPhase) (f : Fld) :
    ∃ live panel torn held, s.coldReset lost phase f = s.clearedAs true lost phase live panel torn held := by
  obtain ⟨live, panel, torn, held, entered⟩ := s.enterReset_eq true lost phase
  unfold State.coldReset
  rw [entered]
  exact ⟨_, panel, torn, held, rfl⟩

theorem coldFrom_clearedAs (s : State) (t : Nat) {p : PwrSt} (straps : p.straps = s.pwr.straps) (lost : Bool) (phase : ResetPhase) (live : RegFile)
    (panel : PanelSt) (torn : Nat) (held : Bool) :
    coldFrom s (State.clearedAs { s.tick t with pwr := p } true lost phase live panel torn held) t lost :=
  ⟨rfl, rfl, rfl, straps, rfl, rfl, rfl, rfl, rfl, rfl, rfl, rfl, rfl, rfl, rfl, rfl, rfl, rfl, rfl, rfl, rfl, rfl, rfl, rfl, rfl, rfl, rfl, rfl,
    fun none => ImgSt.nvmReset_flash none lost, rfl, rfl, s.tick_now t, rfl⟩

/-- Live registers and panel care stand apart from what a cold reset is said to do. -/
theorem coldFrom_withPanel {s u : State} {t : Nat} {lost : Bool} (cold : coldFrom s u t lost) (live : RegFile) (panel : PanelSt) :
    coldFrom s { u.setLive live with panel := panel } t lost := cold

/-! Reset trips (R79, R83). -/

/-- The trip noted, with the warnings of the brace it falls in. -/
def State.tripNoted (s : State) (mon : Nat) : State :=
  { s with pwr := { s.pwr with tripped := orBit s.pwr.tripped mon ||| (match s.pwr.brace with | some b => b.trips | none => 0) } }

/-- A trip that makes no cold reset, once it is noted: a warm reset, or the wait for the rails with the cause that a warm reset gains. -/
def State.tripWarm (s : State) : State :=
  if s.running then (s.enterReset false false .awaitRails).resetCause F.PWR_RST_CAUSE_BOR_WARM
  else if s.pwr.cold then { s with pwr := s.pwr.waitRails }
  else { s.resetCause F.PWR_RST_CAUSE_BOR_WARM with pwr := s.pwr.waitRails }

/-- In a reset in progress the exit waits for the rails, whatever the cause shown. -/
theorem State.tripWarm_waits {s : State} (reset : s.running = false) : s.tripWarm.pwr = s.pwr.waitRails := by
  unfold State.tripWarm
  rw [reset]
  cases s.pwr.cold <;> rfl

theorem PwrSt.waitRails_due {p : PwrSt} (due : p.phase = .exitDue) : p.waitRails.phase = .awaitRails := by
  unfold PwrSt.waitRails
  rw [due]

section
variable {s : State} {mon : Nat} (listed : mon < 18)
include listed

theorem State.resetTrip_cold (cold : mon = 5 ∨ mon = 16) : s.resetTrip mon =
    ((s.tripNoted mon).coldReset true (if s.pwr.porLow then .porHeld else .awaitRails) F.PWR_RST_CAUSE_BOR_COLD).panelFast 2 := by
  have monitor : coldMonitor mon = true := by rcases cold with rfl | rfl <;> rfl
  unfold State.resetTrip
  rw [if_neg (Nat.not_le.mpr listed), monitor]
  extract_lets braced _ noted cold caused ended
  have same : noted = s.tripNoted mon := rfl
  have runs : ended = noted.coldReset true (if noted.pwr.porLow then .porHeld else .awaitRails) F.PWR_RST_CAUSE_BOR_COLD := if_pos rfl
  clear_value ended caused noted
  rw [if_pos (.inl rfl), runs, same]
  rfl

variable (five : mon ≠ 5) (sixteen : mon ≠ 16)
include five sixteen

/-- Off panel care a trip of another monitor is the warm reset, or the wait for the rails in a reset in progress. -/
theorem State.resetTrip_other : (s.resetTrip mon).offPanel = (s.tripNoted mon).tripWarm.offPanel := by
  have monitor : coldMonitor mon = false := by simp [coldMonitor, five, sixteen]
  unfold State.resetTrip
  rw [if_neg (Nat.not_le.mpr listed), monitor]
  extract_lets braced _ noted cold caused ended
  have same : noted = s.tripNoted mon := rfl
  have runs : ended = noted.tripWarm := if_neg (by decide)
  clear_value ended caused noted
  rw [runs, same]
  split
  · exact State.panelFast_offPanel ..
  · rfl

end

end Sys2Proof.Machine

namespace Sys2Proof.Proofs

open Machine Safety Claims

/-- A part of `resetEntries`. -/
theorem porColdReset : Claims.PorColdReset := by
  intro s t
  refine ⟨_, rfl, ?_⟩
  obtain ⟨live, panel, torn, held, clears⟩ :=
    State.coldReset_eq { s.tick t with pwr := { s.pwr with porLow := true, tripped := 0 } } false .porHeld F.PWR_RST_CAUSE_POR
  have resets : (s.tick t).porAssert = _ := clears
  rw [resets]
  exact ⟨coldFrom_clearedAs s t rfl false .porHeld live panel torn held, rfl, rfl⟩

/-- A part of `resetEntries`. -/
theorem resetTrips : Claims.ResetTrips := by
  intro s t mon listed
  refine ⟨fun cold => ⟨(s.tick t).resetTrip mon, rfl, ?_⟩, fun five sixteen running => ⟨(s.tick t).resetTrip mon, rfl, ?_⟩,
    fun five sixteen due warm => ⟨(s.tick t).resetTrip mon, rfl, ?_⟩⟩
  · have trips := (s.tick t).resetTrip_cold listed cold
    generalize enters : (if (s.tick t).pwr.porLow then ResetPhase.porHeld else .awaitRails) = phase at trips
    obtain ⟨live, panel, torn, held, clears⟩ := ((s.tick t).tripNoted mon).coldReset_eq true phase F.PWR_RST_CAUSE_BOR_COLD
    obtain ⟨live', panel', fast⟩ := State.panelFast_off (((s.tick t).tripNoted mon).coldReset_panelOn true phase (f := F.PWR_RST_CAUSE_BOR_COLD) rfl) 2
    rw [trips, fast, clears]
    exact ⟨coldFrom_withPanel (coldFrom_clearedAs s t rfl true phase live panel torn held) live' panel', enters.symm⟩
  · have off := (s.tick t).resetTrip_other listed five sixteen
    obtain ⟨live, panel, torn, held, clears⟩ := ((s.tick t).tripNoted mon).enterReset_eq false false .awaitRails
    have resets : ((s.tick t).tripNoted mon).tripWarm = _ := if_pos (by simp [State.running, State.tripNoted, running])
    rw [resets, clears] at off
    generalize (s.tick t).resetTrip mon = u at off ⊢
    have img : u.img.flash = (s.img.nvmReset false).flash := congrArg (fun v => v.img.flash) off
    exact ⟨congrArg (fun v => v.pwr.cold) off, congrArg (fun v => v.lock.phase) off, congrArg (fun v => v.pwr.phase) off, congrArg (fun v => v.jtag) off, img,
      fun none => img.trans (ImgSt.nvmReset_flash none false), congrArg (fun v => v.evt.pending) off, congrArg (fun v => v.hk) off,
      congrArg (fun v => v.led.kept) off⟩
  · have off := (s.tick t).resetTrip_other listed five sixteen
    have waits : ((s.tick t).tripNoted mon).tripWarm.pwr = ((s.tick t).tripNoted mon).pwr.waitRails := State.tripWarm_waits (by simp [State.running, State.tripNoted, due])
    refine (congrArg (fun v => v.pwr.phase) off).trans ((congrArg PwrSt.phase waits).trans ?_)
    exact PwrSt.waitRails_due due

/-- Settles O6. -/
theorem resetEntries : Obligations.ResetEntries := ⟨porColdReset, resetTrips⟩

end Sys2Proof.Proofs

namespace Sys2Proof.Machine

open Safety Claims

/-! The ways out of reset (R69 to R71, R79, R80). -/

theorem State.railCheck_good (s : State) {below : Nat} (good : below % 2 ^ 18 = 0) : s.railCheck below = { s with pwr := { s.pwr with phase := .exitDue } } :=
  if_pos good

theorem State.railCheck_low (s : State) {below : Nat} (low : below % 2 ^ 18 ≠ 0) :
    s.railCheck below = State.wr { s with pwr := { s.pwr with phase := .seqCheck } } F.PWR_RST_CAUSE_SEQ 1 := if_neg low

theorem State.porDeassert_held {s : State} (low : s.pwr.porLow = true) (held : s.pwr.phase = .porHeld) (below : Nat) :
    s.porDeassert below = State.railCheck { s with pwr := { s.pwr with porLow := false } } below := by
  unfold State.porDeassert
  rw [if_neg (not_not_intro low)]
  exact if_pos held

theorem State.seqRetry_checks {s : State} (checks : s.pwr.phase = .seqCheck) (below : Nat) : s.seqRetry below = s.railCheck below := if_pos checks

theorem State.monitorRecovery_waits {s : State} (waits : s.pwr.phase = .awaitRails) (released : s.pwr.porLow = false) :
    s.monitorRecovery = State.wr { s with pwr := { s.pwr with phase := .exitDue, rails := false } } F.PWR_MON_LIVE_WARN 0 :=
  if_pos ⟨waits, by simp [released]⟩

/-! The warm reset that management asks for (R79, R80). -/

theorem State.running_of_alive {s : State} (alive : s.alive = true) : s.running = true := (Bool.and_eq_true .. ▸ alive).1

theorem State.running_of_run {s : State} (run : s.pwr.phase = .run) : s.running = true := by simp [State.running, run]

theorem State.resetWarm_asked {s : State} {v : Word} (running : s.running = true) (key : v.toNat >>> 16 = 0x5752) (warm : bitAt v.toNat 0 = true) :
    ∃ live panel torn held, s.resetWarm v = s.clearedAs false false .exitDue live panel torn held := by
  obtain ⟨live, panel, torn, held, clears⟩ := s.enterReset_eq false false .exitDue
  unfold State.resetWarm
  rw [if_pos ⟨key, warm, running⟩, clears]
  exact ⟨_, panel, torn, held, rfl⟩

theorem State.resetWarm_ignored {s : State} {v : Word} (other : ¬ (v.toNat >>> 16 = 0x5752 ∧ bitAt v.toNat 0 = true)) : s.resetWarm v = s :=
  if_neg (fun h => other ⟨h.1, h.2.1⟩)

/-! Reset exit (R71, R79, R90, R91). -/

theorem State.fastReport_eq (s : State) : ∃ panel evt, s.fastReport = { s with panel := panel, evt := evt } := by
  unfold State.fastReport
  split
  · split
    · exact ⟨s.panel, s.evt, rfl⟩
    · exact ⟨_, _, rfl⟩
  · exact ⟨s.panel, s.evt, rfl⟩

/-- What reset exit sees of the flash and the OTP. -/
def ImgSt.exited (i : ImgSt) (otp : Option Otp) (size : Nat) (patches : List (Nat × List Byte)) : ImgSt :=
  { i with bus := XspiBus.reset, torn := patches.foldl (fun m p => if p.2 = [] then m else clearBanks m p.1) i.torn,
           flash := patches.foldl (fun m p => flashProgram m p.1 p.2) i.flash, size := if flashSizeOk size then size else i.size,
           otp := if i.otp = Otp.blank then (otp.getD Otp.blank).bounded else i.otp }

/-- The device runs: the straps are latched and the flash and the OTP seen, before any step of the boot. -/
def State.exited (s : State) (straps : Straps) (otp : Option Otp) (size : Nat) (patches : List (Nat × List Byte)) : State :=
  { s with img := s.img.exited otp size patches, pwr := { s.pwr with phase := .run, straps := straps, tripped := 0 },
           clk := { s.clk with exitAt := s.clk.now, devFine := 0, rate := 0 } }

/-- Reset exit that is due: the device runs, and out of the test mode its boot begins. -/
theorem State.resetExit_due {s : State} (due : s.pwr.phase = .exitDue) (straps : Straps) (otp : Option Otp) (size : Nat)
    (patches : List (Nat × List Byte)) : ∃ v : State, v.img = s.img.exited otp size patches ∧ v.pwr = (s.exited straps otp size patches).pwr ∧
      v.clk = (s.exited straps otp size patches).clk ∧
      s.resetExit straps otp size patches = if straps.testEn then v else (v.bootStep 1).flashFree := by
  unfold State.resetExit
  rw [if_neg (not_not_intro due)]
  extract_lets flash torn o _ _ _ s1 s2 _ s3 s4
  obtain ⟨panel, evt, reports⟩ := s3.fastReport_eq
  have noted : s4 = { s3 with panel := panel, evt := evt } := reports
  exact ⟨s4, (congrArg State.img noted :), (congrArg State.pwr noted :), (congrArg State.clk noted :), rfl⟩

/-! The first steps of the boot (R87, R90, R91, R108): of the power state and the clock they change nothing, of the flash nothing but its work. -/

/-- The power state and the clock. -/
def State.pwrClk (s : State) : PwrSt × Clk := (s.pwr, s.clk)

theorem State.showNvm_pwrClk (s : State) : s.showNvm.pwrClk = s.pwrClk :=
  show s.showNvm.offLive.pwrClk = s.offLive.pwrClk by rw [s.showNvm_offLive]

theorem State.wr_pwrClk (s : State) (f : Fld) (v : Nat) : (s.wr f v).pwrClk = s.pwrClk := rfl

theorem State.raise_pwrClk (s : State) (code block arg0 arg1 : Nat) : (s.raise code block arg0 arg1).pwrClk = s.pwrClk := rfl

theorem State.bootStep_pwrClk (s : State) (k : Nat) : (s.bootStep k).pwrClk = s.pwrClk := (State.raise_pwrClk ..).trans (State.wr_pwrClk ..)

theorem State.nvmStart_pwrClk (s : State) : s.nvmStart.pwrClk = s.pwrClk := by
  unfold State.nvmStart
  split
  · rfl
  · split
    · exact State.showNvm_pwrClk _
    · split
      · exact State.showNvm_pwrClk _
      · rfl

theorem State.redoErase_pwrClk (s : State) : s.redoErase.pwrClk = s.pwrClk := by
  unfold State.redoErase
  split
  · rfl
  · extract_lets a v
    have noted : v.pwrClk = s.pwrClk := (State.wr_pwrClk ..).trans (State.raise_pwrClk ..)
    clear_value v
    exact (State.nvmStart_pwrClk _).trans noted

theorem State.imageFail_pwrClk (s : State) : s.imageFail.pwrClk = s.pwrClk := by
  unfold State.imageFail
  exact State.showNvm_pwrClk _

theorem State.noteFail_pwrClk (s : State) (bank cause : Nat) : (s.noteFail bank cause).pwrClk = s.pwrClk :=
  (State.raise_pwrClk ..).trans (State.wr_pwrClk ..)

theorem State.secondBank_pwrClk (s : State) : s.secondBank.pwrClk = s.pwrClk := by
  unfold State.secondBank
  extract_lets b _ v w
  have turned : w.pwrClk = s.pwrClk := v.wr_pwrClk ..
  clear_value w
  split
  · exact (State.imageFail_pwrClk _).trans ((w.noteFail_pwrClk ..).trans turned)
  · exact turned

theorem State.failBank_pwrClk (s : State) (cause : Nat) : (s.failBank cause).pwrClk = s.pwrClk := by
  unfold State.failBank
  extract_lets v
  have failed : v.pwrClk = s.pwrClk := s.unload.noteFail_pwrClk ..
  clear_value v
  split
  · exact v.imageFail_pwrClk.trans failed
  · exact v.secondBank_pwrClk.trans failed

theorem State.chooseBank_pwrClk (s : State) : s.chooseBank.pwrClk = s.pwrClk := by
  unfold State.chooseBank
  extract_lets _ _ _ _ first _ v w x
  have chosen : x.pwrClk = s.pwrClk := (State.raise_pwrClk ..).trans ((State.wr_pwrClk ..).trans (v.wr_pwrClk ..))
  clear_value x
  split
  · exact (x.failBank_pwrClk 11).trans chosen
  · exact chosen

theorem State.flashFree_pwrClk (s : State) : s.flashFree.pwrClk = s.pwrClk := by
  unfold State.flashFree
  split
  · extract_lets _ _ v
    exact (State.chooseBank_pwrClk _).trans ((State.redoErase_pwrClk _).trans (v.bootStep_pwrClk 2))
  · rfl

/-- The power state and the clock after reset exit (R71). -/
theorem State.resetExit_pwrClk {s : State} (due : s.pwr.phase = .exitDue) (straps : Straps) (otp : Option Otp) (size : Nat)
    (patches : List (Nat × List Byte)) : (s.resetExit straps otp size patches).pwrClk = (s.exited straps otp size patches).pwrClk := by
  obtain ⟨v, -, pwr, clk, exits⟩ := State.resetExit_due due straps otp size patches
  have exited : v.pwrClk = (s.exited straps otp size patches).pwrClk := Prod.ext pwr clk
  rw [exits]
  split
  · exact exited
  · exact (State.flashFree_pwrClk _).trans ((v.bootStep_pwrClk 1).trans exited)

/-- A program that the reset let run on holds the boot (R108). -/
theorem State.flashFree_busy {s : State} (busy : s.img.job ≠ none) : s.flashFree = s := if_neg (fun free => busy (Option.isNone_iff_eq_none.mp free.2.2.1))

/-- The start of a work changes nothing of the flash but the work. -/
theorem State.nvmStart_img (s : State) : ∃ job jobs, s.nvmStart.img = { s.img with job := job, jobs := jobs } := by
  have shown : ∀ s : State, s.showNvm.img = s.img := fun s => show s.showNvm.offLive.img = s.offLive.img by rw [s.showNvm_offLive]
  unfold State.nvmStart
  split
  · exact ⟨s.img.job, s.img.jobs, rfl⟩
  · split
    · exact ⟨_, _, shown _⟩
    · split
      · exact ⟨_, s.img.jobs, shown _⟩
      · exact ⟨s.img.job, s.img.jobs, rfl⟩

theorem State.redoErase_img (s : State) : ∃ job jobs, s.redoErase.img = { s.img with job := job, jobs := jobs } := by
  unfold State.redoErase
  split
  · exact ⟨s.img.job, s.img.jobs, rfl⟩
  · obtain ⟨job, jobs, starts⟩ := State.nvmStart_img _
    exact ⟨job, jobs, starts⟩

/-- The bank that the commit area and the strap give (R90, R91). -/
def State.firstBank (s : State) : Nat := if s.pwr.straps.bootBank then 1 - committedBank s.img.flash else committedBank s.img.flash

theorem State.chooseBank_unmarked {s : State} (unmarked : s.img.marks = 0) :
    s.chooseBank.img = { s.img with bank := s.firstBank, second := false, load := .header } := by
  have clear : ∀ n, bitAt s.img.marks n = false := fun n => by simp [bitAt, unmarked]
  unfold State.chooseBank
  exact congrArg State.img (if_neg (by rw [Bool.not_eq_true]; exact clear _))

theorem State.bootStep_img (s : State) (k : Nat) : (s.bootStep k).img = s.img := (State.raise_img ..).trans (State.wr_img ..)

theorem State.bootStep_pwr (s : State) (k : Nat) : (s.bootStep k).pwr = s.pwr := (State.raise_pwr ..).trans (State.wr_pwr ..)

theorem State.firstBank_congr {s t : State} (pwr : s.pwr = t.pwr) (flash : s.img.flash = t.img.flash) : s.firstBank = t.firstBank := by
  unfold State.firstBank
  rw [pwr, flash]

/-- The bank chosen after a redone erase, if none is marked. -/
theorem State.redone_boots {s : State} (unmarked : s.img.marks = 0) :
    s.redoErase.chooseBank.img.load = .header ∧ s.redoErase.chooseBank.img.flash = s.img.flash ∧ s.redoErase.chooseBank.img.bank = s.firstBank := by
  obtain ⟨job, jobs, redone⟩ := s.redoErase_img
  have straps : s.redoErase.pwr.straps = s.pwr.straps := congrArg (fun p => p.1.straps) s.redoErase_pwrClk
  rw [State.chooseBank_unmarked ((congrArg ImgSt.marks redone).trans unmarked)]
  unfold State.firstBank
  rw [straps, redone]
  exact ⟨rfl, rfl, rfl⟩

theorem State.flashFree_begins {s : State} (running : s.running = true) (off : s.img.load = .off) (idle : s.img.job = none)
    (service : s.pwr.straps.testEn = false) : ∃ bus, s.flashFree = (State.bootStep { s with img := { s.img with bus := bus } } 2).redoErase.chooseBank := by
  unfold State.flashFree
  exact ⟨_, if_pos ⟨running, off, by simp [idle], by simp [service]⟩⟩

/-- A device whose flash is free loads the first bank, unless it is marked. -/
theorem State.flashFree_boots {s : State} (running : s.running = true) (off : s.img.load = .off) (idle : s.img.job = none)
    (service : s.pwr.straps.testEn = false) (unmarked : s.img.marks = 0) :
    s.flashFree.img.load = .header ∧ s.flashFree.img.flash = s.img.flash ∧ s.flashFree.img.bank = s.firstBank := by
  obtain ⟨bus, begins⟩ := State.flashFree_begins running off idle service
  have stepped := State.bootStep_img { s with img := { s.img with bus := bus } } 2
  have power := State.bootStep_pwr { s with img := { s.img with bus := bus } } 2
  rw [begins]
  generalize State.bootStep { s with img := { s.img with bus := bus } } 2 = v at stepped power ⊢
  obtain ⟨header, flash, bank⟩ := State.redone_boots ((congrArg ImgSt.marks stepped).trans unmarked)
  have kept : v.img.flash = s.img.flash := (congrArg ImgSt.flash stepped :)
  exact ⟨header, flash.trans kept, bank.trans (State.firstBank_congr power kept)⟩

end Sys2Proof.Machine

namespace Sys2Proof.Proofs

open Machine Safety Claims

/-- A part of `resetReleasesAndExits`. -/
theorem resetReleases : Claims.ResetReleases := by
  intro s t below
  refine ⟨fun low held good => ?_, fun low held bad => ?_, fun checks good => ?_, fun checks bad => ?_, fun waits released => ?_⟩
  · exact congrArg _ ((State.porDeassert_held (s := s.tick t) low held below).trans (State.railCheck_good _ good))
  · exact congrArg _ ((State.porDeassert_held (s := s.tick t) low held below).trans (State.railCheck_low _ bad))
  · exact congrArg _ ((State.seqRetry_checks (s := s.tick t) checks below).trans (State.railCheck_good _ good))
  · exact congrArg _ ((State.seqRetry_checks (s := s.tick t) checks below).trans (State.railCheck_low _ bad))
  · exact congrArg _ (State.monitorRecovery_waits (s := s.tick t) waits released)

/-- A part of `resetReleasesAndExits`. -/
theorem warmResetRequests : Claims.WarmResetRequests := by
  intro s t v alive
  have asks : exec (.pwrResetWarm t v) s = .next ((s.tick t).resetWarm v) := State.live_alive t (fun s => s.resetWarm v) alive
  rw [asks]
  refine ⟨fun key warm => ⟨_, rfl, ?_⟩, fun other => congrArg _ (State.resetWarm_ignored (s := s.tick t) other)⟩
  obtain ⟨live, panel, torn, held, clears⟩ := State.resetWarm_asked (s := s.tick t) (State.running_of_alive alive) key warm
  rw [clears]
  exact ⟨rfl, rfl, rfl, rfl, fun none => ImgSt.nvmReset_flash none false, rfl, rfl, rfl, rfl, rfl, rfl, rfl, rfl, rfl, rfl⟩

/-- A part of `resetReleasesAndExits`. -/
theorem resetExits : Claims.ResetExits := by
  intro s t size straps otp fl
  refine ⟨fun due => ⟨(s.tick t).resetExit straps otp size fl, rfl, ?_⟩, fun early => ?_⟩
  · have base := (s.tick t).resetExit_base_due straps otp size fl due
    obtain ⟨v, img, pwr, -, exits⟩ := State.resetExit_due (s := s.tick t) due straps otp size fl
    have clocked := State.resetExit_pwrClk (s := s.tick t) due straps otp size fl
    refine ⟨congrArg (fun p => p.1.phase) clocked, congrArg Base.straps base, congrArg Base.jtag base, fun filled => ?_,
      congrArg (fun p => p.2.devFine) clocked, ?_, fun test => ?_, fun service off busy => ?_, fun service off idle unmarked => ?_⟩
    · exact (congrArg Base.otp base).trans (if_neg filled)
    · exact (congrArg (fun p => p.2.exitAt) clocked).trans (congrArg (fun p => p.2.now) clocked).symm
    · rw [exits, if_pos test, img]
      rfl
    · rw [exits, if_neg (by simp [service]), State.flashFree_busy (by rw [v.bootStep_img, img]; exact busy), v.bootStep_img, img]
      exact ⟨off, rfl⟩
    · have first := v.bootStep_img 1
      have power := v.bootStep_pwr 1
      rw [exits, if_neg (by simp [service])]
      generalize v.bootStep 1 = w at first power ⊢
      rw [img] at first
      rw [pwr] at power
      obtain ⟨header, flash, bank⟩ := State.flashFree_boots (State.running_of_run (congrArg PwrSt.phase power)) ((congrArg ImgSt.load first).trans off)
        ((congrArg ImgSt.job first).trans idle) ((congrArg (fun p => p.straps.testEn) power).trans service) ((congrArg ImgSt.marks first).trans unmarked)
      refine ⟨header, ?_⟩
      rw [bank, flash]
      unfold State.firstBank
      rw [power]
      rfl
  · exact congrArg _ ((s.tick t).resetExit_notDue straps otp size fl early)

/-- Settles O7. -/
theorem resetReleasesAndExits : Obligations.ResetReleasesAndExits := ⟨resetReleases, resetExits, warmResetRequests⟩

end Sys2Proof.Proofs

namespace Sys2Proof.Machine

open Safety Claims

/-! Slots of the housekeeping round (R429 to R431): a reading, a channel, and what the channel serves. -/

section
variable (s : State) {n : Nat} (v : Int)

theorem State.hkSlot_inRange (diode : n ≤ 6) (inRange : tempInRange ((s.wr (F.HK_TEMPn_READ n) (unsigned 16 v)).hkRead n) = true) :
    s.hkSlot n v = s.wr (F.HK_TEMPn_READ n) (unsigned 16 v) := (if_pos diode).trans (if_pos inRange)

theorem State.hkSlot_outOfRange (diode : n ≤ 6) (outOfRange : tempInRange ((s.wr (F.HK_TEMPn_READ n) (unsigned 16 v)).hkRead n) = false) :
    s.hkSlot n v = (s.wr (F.HK_TEMPn_READ n) (unsigned 16 v)).failSensor n 1 := (if_pos diode).trans (if_neg (by simp [outOfRange]))

theorem State.hkSlot_channel (low : 7 ≤ n) (high : n ≤ 24) : s.hkSlot n v = s.hkChan n (s.hkMv v) :=
  (if_neg (by omega)).trans (if_pos high)

theorem State.hkSlot_crack (runs : s.crackRuns = true) : s.hkSlot 26 v = (s.hkChan 26 (b2n (v != 0))).crackSample (v != 0) := if_pos runs

theorem State.hkSlot_crackIdle (idle : s.crackRuns = false) : s.hkSlot 26 v = s :=
  (if_neg (Bool.not_eq_true _ ▸ idle) : (if s.crackRuns then (s.hkChan 26 (b2n (v != 0))).crackSample (v != 0) else s) = s)

theorem State.hkSlot_empty (past : 31 ≤ n) : s.hkSlot n v = s := by
  unfold State.hkSlot
  repeat rw [if_neg (by omega)]

end

/-! Failed sensors (R431, R434, R435, R441). -/

theorem testBit_clearBit_same (x i : Nat) : (clearBit x i).testBit i = false := by
  unfold clearBit
  split
  · rename_i set
    have odd : x / 2 ^ i % 2 = 1 := by simpa [bitAt, Nat.shiftRight_eq_div_pow] using set
    have lower : (x - 2 ^ i) / 2 ^ i = x / 2 ^ i - 1 := by simpa using Nat.sub_mul_div x (2 ^ i) 1
    rw [Nat.testBit_eq_decide_div_mod_eq, Nat.one_shiftLeft, lower]
    exact decide_eq_false (by omega)
  · rename_i clear
    exact bitAt_eq_testBit x i ▸ Bool.not_eq_true _ ▸ clear

section
variable {s : State} {i : Nat} (diode : i < 7)
include diode

theorem State.hkFailed_wr (v : Nat) : (s.wr F.HK_SENS_STAT_FAILED v).hkFailed i = v.testBit i := by
  unfold State.hkFailed
  rw [State.rd_wr _ _ _ (by decide) (by decide), bitAt_eq_testBit]
  exact (Nat.testBit_mod_two_pow v 7 i).trans (by simp [diode])

theorem State.hkFailed_set : (s.wr F.HK_SENS_STAT_FAILED (orBit (s.rd F.HK_SENS_STAT_FAILED) i)).hkFailed i = true := by
  rw [State.hkFailed_wr diode, testBit_orBit]
  simp

theorem State.hkFailed_clear : (s.wr F.HK_SENS_STAT_FAILED (clearBit (s.rd F.HK_SENS_STAT_FAILED) i)).hkFailed i = false := by
  rw [State.hkFailed_wr diode, testBit_clearBit_same]

end

theorem State.hkFailed_congr {s t : State} (h : s.rd F.HK_SENS_STAT_FAILED = t.rd F.HK_SENS_STAT_FAILED) (i : Nat) : s.hkFailed i = t.hkFailed i :=
  congrArg (fun x => bitAt x i) h

theorem State.rd_raiseI (s : State) (f : Fld) (code block inst arg0 arg1 : Nat) : (s.raiseI code block inst arg0 arg1).rd f = s.rd f := rfl

theorem State.rd_withHk (s : State) (h : HkSt) (f : Fld) : State.rd { s with hk := h } f = s.rd f := rfl

/-- The counts of a sensor begin anew at its failure. -/
def HkSt.failed (h : HkSt) (i : Nat) : HkSt :=
  { h with sinceFail := 0, goods := modAt h.goods i (fun _ => 0), downs := modAt h.downs i (fun _ => 0) }

/-- A sensor marked as failed, before raises are held. -/
def State.sensorFailed (s : State) (i cause : Nat) : State :=
  { (s.wr F.HK_SENS_STAT_FAILED (orBit (s.rd F.HK_SENS_STAT_FAILED) i)).raiseI 0x203 bHK i i cause with hk := s.hk.failed i }

theorem State.sensorFailed_rd (s : State) (i cause : Nat) (f : Fld) :
    (s.sensorFailed i cause).rd f = (s.wr F.HK_SENS_STAT_FAILED (orBit (s.rd F.HK_SENS_STAT_FAILED) i)).rd f :=
  (State.rd_withHk ..).trans (State.rd_raiseI ..)

section
variable {s : State} {i : Nat} (works : s.hkFailed i = false) (cause : Nat)
include works

theorem State.failSensor_eq : s.failSensor i cause =
    if s.rd F.HK_STATUS_STATE = 0 then s.sensorFailed i cause
    else State.wr { s.sensorFailed i cause with hk := { s.hk.failed i with noraise := 500 } } F.HK_STATUS_NORAISE 1 := by
  have state : (s.sensorFailed i cause).rd F.HK_STATUS_STATE = s.rd F.HK_STATUS_STATE :=
    (s.sensorFailed_rd i cause _).trans (State.rd_wr_other _ _ _ _ (by decide))
  rw [← state]
  exact if_neg (by simp [works])

theorem State.failSensor_hkFailed (diode : i < 7) : (s.failSensor i cause).hkFailed i = true := by
  have failed : (s.sensorFailed i cause).hkFailed i = true := (State.hkFailed_congr (s.sensorFailed_rd i cause _) i).trans (State.hkFailed_set diode)
  rw [State.failSensor_eq works]
  generalize s.sensorFailed i cause = w at failed ⊢
  split
  · exact failed
  · exact (State.hkFailed_congr ((State.rd_wr_other _ _ _ _ (by decide)).trans (State.rd_withHk ..)) i).trans failed

/-- Off the normal state a failure holds raises (R441). -/
theorem State.failSensor_noraise (throttles : s.rd F.HK_STATUS_STATE ≠ 0) :
    (s.failSensor i cause).hk.noraise = 500 ∧ (s.failSensor i cause).rd F.HK_STATUS_NORAISE = 1 := by
  rw [State.failSensor_eq works, if_neg throttles]
  generalize s.sensorFailed i cause = w
  exact ⟨rfl, State.rd_wr _ _ _ (by decide) (by decide)⟩

end

theorem State.sensorFail_none {s : State} {i : Nat} (none : 7 ≤ i) : s.sensorFail i = s := if_pos none

theorem State.sensorRestore_none {s : State} {i : Nat} (none : 7 ≤ i) : s.sensorRestore i = s := if_pos (.inl none)

theorem State.sensorFail_eq {s : State} {i : Nat} (diode : i < 7) (fails : tempInRange (s.hkRead i) = false ∨ 3 ≤ s.hk.misses.getD i 0) :
    ∃ cause, s.sensorFail i = s.failSensor i cause := by
  unfold State.sensorFail
  rw [if_neg (Nat.not_le.mpr diode)]
  by_cases range : tempInRange (s.hkRead i) = true
  · have third := fails.resolve_left (by simp [range])
    exact ⟨2, (if_neg (by simp [range])).trans (if_pos third)⟩
  · exact ⟨1, if_pos range⟩

theorem State.sensorFail_early {s : State} {i : Nat} (inRange : tempInRange (s.hkRead i) = true) (early : s.hk.misses.getD i 0 < 3) :
    s.sensorFail i = s := by
  unfold State.sensorFail
  rw [inRange, if_neg (show ¬ ¬ true = true by decide), if_neg (Nat.not_le.mpr early), ite_self]

theorem State.sensorRestore_hkFailed {s : State} {i : Nat} (diode : i < 7) (failed : s.hkFailed i = true) (good : 500 ≤ s.hk.goods.getD i 0) :
    (s.sensorRestore i).hkFailed i = false := by
  unfold State.sensorRestore
  rw [if_neg (by rw [failed]; exact fun h => h.elim diode.not_ge (fun h => h.elim (fun h => h rfl) good.not_gt))]
  exact (State.hkFailed_congr ((State.rd_withHk ..).trans (State.rd_raiseI ..)) i).trans (State.hkFailed_clear diode)

end Sys2Proof.Machine

namespace Sys2Proof.Proofs

open Machine Safety Claims

/-- A part of `housekeepingRounds`. -/
theorem housekeepingSlots : Claims.HousekeepingSlots := by
  intro s t n v island r does
  have slot : ∀ f : State → State, r.hkSlot n v = f r → does f := fun f h =>
    (State.isle_amidRecords t (fun s => s.hkSlot n v) island).trans (by rw [h])
  have fail : exec (.sensorFail t n) s = .next (r.sensorFail n).recordsRun := State.isle_amidRecords t (fun s => s.sensorFail n) island
  have restore : exec (.sensorRestore t n) s = .next (r.sensorRestore n).recordsRun := State.isle_amidRecords t (fun s => s.sensorRestore n) island
  have ends : exec (.noraiseEnd t) s = .next (s.tick t).noraiseEnd := State.isle_island t State.noraiseEnd island
  refine ⟨fun diode => ⟨fun inRange => ?_, fun outOfRange => ?_⟩, fun low high => ?_, ?_, ?_, ?_, ?_, ?_, ?_, ?_, fun past => ?_, fun none => ⟨?_, ?_⟩,
    fun diode inRange early => ?_, fun diode works fails => ⟨_, fail, ?_⟩, fun diode failed good => ⟨_, restore, ?_⟩, fun ended => ?_, fun running => ?_⟩
  · exact slot _ (r.hkSlot_inRange v diode inRange)
  · exact slot _ (r.hkSlot_outOfRange v diode outOfRange)
  · exact slot _ (r.hkSlot_channel v low high)
  · rintro rfl
    exact slot _ rfl
  · rintro rfl runs
    exact slot _ (r.hkSlot_crack v runs)
  · rintro rfl idle
    exact slot _ (r.hkSlot_crackIdle v idle)
  · rintro rfl
    exact slot _ rfl
  · rintro rfl
    exact slot _ rfl
  · rintro rfl
    exact slot _ rfl
  · rintro rfl
    exact slot _ rfl
  · exact slot _ (r.hkSlot_empty v past)
  · exact fail.trans (by rw [State.sensorFail_none none])
  · exact restore.trans (by rw [State.sensorRestore_none none])
  · exact fail.trans (by rw [State.sensorFail_early inRange early])
  · obtain ⟨cause, falls⟩ := State.sensorFail_eq diode fails
    rw [falls]
    exact ⟨State.failSensor_hkFailed works cause diode, State.failSensor_noraise works cause⟩
  · exact State.sensorRestore_hkFailed diode failed good
  · exact ends.trans (congrArg _ (if_pos ended))
  · exact ends.trans (congrArg _ (if_neg running))

end Sys2Proof.Proofs


namespace Sys2Proof.Machine

open Safety Claims

/-! What the evaluation of a round leaves alone until the shutdown: the flash, the phase, and the readings of the diodes (R429 to R441). -/

/-- The flash, the phase, and the words of the diodes. -/
def State.temps (s : State) : ImgSt × ResetPhase × (Fin 7 → Word) := (s.img, s.pwr.phase, fun i => s.rdW (R.HK_TEMPn i))

/-- The flash, the phase, the words of the diodes, and which have failed. -/
def State.sensors (s : State) : (ImgSt × ResetPhase × (Fin 7 → Word)) × Nat := (s.temps, s.rd F.HK_SENS_STAT_FAILED)

/-- A field outside the words of the diodes. -/
def Fld.offTemps (f : Fld) : Bool := decide (f.addr < R.HK_TEMPn 0) || decide (R.HK_TEMPn 7 ≤ f.addr)

/-- A field outside the words of the diodes and the word of the failed ones. -/
def Fld.offSensors (f : Fld) : Bool := f.offTemps && decide (f.addr ≠ R.HK_SENS_STAT)

theorem Fld.offSensors_of_beyond {f : Fld} (beyond : R.HK_TEMPn 7 ≤ f.addr) : f.offSensors = true := by
  have other : f.addr ≠ R.HK_SENS_STAT := by
    unfold R.HK_TEMPn at beyond
    unfold R.HK_SENS_STAT
    omega
  exact Bool.and_eq_true_iff.mpr ⟨Bool.or_eq_true_iff.mpr (.inr (decide_eq_true beyond)), decide_eq_true other⟩

theorem State.rdW_wr_other (s : State) {f : Fld} {a : Nat} (v : Nat) (h : a ≠ f.addr) : (s.wr f v).rdW a = s.rdW a := s.rdW_wrW_other _ h

theorem State.wr_temps (s : State) {f : Fld} (v : Nat) (off : f.offTemps = true) : (s.wr f v).temps = s.temps := by
  have words : ∀ i : Fin 7, (s.wr f v).rdW (R.HK_TEMPn i) = s.rdW (R.HK_TEMPn i) := fun i => by
    refine s.rdW_wr_other v ?_
    have outside := (Bool.or_eq_true_iff.mp off).imp of_decide_eq_true of_decide_eq_true
    unfold R.HK_TEMPn at outside ⊢
    omega
  exact Prod.ext rfl (Prod.ext rfl (funext words))

theorem State.wr_sensors (s : State) {f : Fld} (v : Nat) (off : f.offSensors = true) : (s.wr f v).sensors = s.sensors := by
  obtain ⟨temps, other⟩ := Bool.and_eq_true_iff.mp off
  exact Prod.ext (s.wr_temps v temps) (s.rd_wr_other f _ v (of_decide_eq_true other).symm)

theorem State.inc_sensors (s : State) {f : Fld} (off : f.offSensors = true) : (s.inc f).sensors = s.sensors :=
  s.wr_sensors _ off

theorem State.raiseI_sensors (s : State) (code block inst arg0 arg1 : Nat) : (s.raiseI code block inst arg0 arg1).sensors = s.sensors := rfl

theorem State.raise_sensors (s : State) (code block arg0 arg1 : Nat) : (s.raise code block arg0 arg1).sensors = s.sensors := rfl

theorem State.raiseOnce_sensors (s : State) (code block key arg0 arg1 : Nat) : (s.raiseOnce code block key arg0 arg1).sensors = s.sensors := by
  unfold State.raiseOnce State.raiseOnceI
  split <;> rfl

theorem State.withHk_sensors (s : State) (h : HkSt) : State.sensors { s with hk := h } = s.sensors := rfl

theorem State.ite_sensors {c : Prop} [Decidable c] {s t u : State} (then_ : t.sensors = s.sensors) (else_ : u.sensors = s.sensors) :
    (if c then t else u).sensors = s.sensors := by
  split
  · exact then_
  · exact else_

theorem State.temps_of_sensors {s t : State} (h : s.sensors = t.sensors) : s.temps = t.temps := congrArg Prod.fst h

theorem State.img_of_temps {s t : State} (h : s.temps = t.temps) : s.img = t.img := congrArg Prod.fst h

theorem State.phase_of_temps {s t : State} (h : s.temps = t.temps) : s.pwr.phase = t.pwr.phase := congrArg (fun p => p.2.1) h

theorem State.hkFailed_of_sensors {s t : State} (h : s.sensors = t.sensors) (i : Nat) : s.hkFailed i = t.hkFailed i :=
  State.hkFailed_congr (congrArg Prod.snd h) i

theorem State.rdW_of_temps {s t : State} (h : s.temps = t.temps) {i : Nat} (diode : i < 7) : s.rdW (R.HK_TEMPn i) = t.rdW (R.HK_TEMPn i) :=
  congrFun (congrArg (fun p => p.2.2) h) ⟨i, diode⟩

theorem State.hkRead_of_temps {s t : State} (h : s.temps = t.temps) {i : Nat} (diode : i < 7) : s.hkRead i = t.hkRead i :=
  congrArg (fun w : Word => signed 16 (bitsOf w.toNat 15 0)) (State.rdW_of_temps h diode)

theorem State.hkUsed_of_temps {s t : State} (h : s.temps = t.temps) {i : Nat} (diode : i < 7) : s.hkUsed i = t.hkUsed i :=
  congrArg (fun w : Word => signed 16 (bitsOf w.toNat 31 16)) (State.rdW_of_temps h diode)

/-! The users of the temperatures (R147, R268, R340, R344). -/

theorem State.updateRefresh_sensors (s : State) (k : Nat) (t : Int) : (s.updateRefresh k t).sensors = s.sensors := by
  unfold State.updateRefresh
  exact State.ite_sensors rfl ((State.raiseI_sensors ..).trans (s.wr_sensors _ (by decide)))

theorem State.setRate_sensors (s : State) (u : Int) : (s.setRate u).sensors = s.sensors :=
  (State.wr_sensors _ _ (by decide)).trans rfl

theorem State.updateFf_sensors (s : State) (table : List Byte) (temp : Int) : (s.updateFf table temp).sensors = s.sensors := by
  unfold State.updateFf
  extract_lets ff _ u v
  have shown : v.sensors = s.sensors :=
    (State.wr_sensors _ _ (by decide)).trans ((State.wr_sensors _ _ (by decide)).trans rfl)
  exact State.ite_sensors ((v.setRate_sensors _).trans shown) shown

theorem State.sbFail_sensors (s : State) (cs addr : Nat) : (s.sbFail cs addr).sensors = s.sensors :=
  (State.raiseOnce_sensors ..).trans (s.inc_sensors (by decide))

theorem State.panelStatus_sensors (s : State) (round : Bool) (status : List Byte) : (s.panelStatus round status).sensors = s.sensors := by
  unfold State.panelStatus
  extract_lets u v n _ w
  have asked : u.sensors = s.sensors := rfl
  split
  · extract_lets t flags v _ w x
    have read : v.sensors = s.sensors :=
      (State.wr_sensors _ _ (by decide)).trans ((u.inc_sensors (by decide)).trans asked)
    have band : x.sensors = s.sensors := (State.wr_sensors w _ (by decide)).trans read
    clear_value x
    exact State.ite_sensors ((State.raise_sensors ..).trans band) band
  · have failed : v.sensors = s.sensors := (u.sbFail_sensors ..).trans asked
    exact State.ite_sensors failed (State.ite_sensors ((State.raise_sensors ..).trans failed) failed)

theorem State.roundStatus_sensors (s : State) (status : List Byte) : (s.roundStatus status).sensors = s.sensors :=
  State.ite_sensors (s.panelStatus_sensors true status) rfl

theorem State.panelTry_sensors (s : State) : s.panelTry.sensors = s.sensors :=
  State.ite_sensors ((State.wr_sensors _ _ (by decide)).trans rfl) rfl

theorem State.thermUsers_sensors (s : State) (status : List Byte) : (s.thermUsers status).sensors = s.sensors := by
  unfold State.thermUsers
  extract_lets u v
  have refreshed : u.sensors = s.sensors := State.each_proj State.sensors _ (fun s k => s.updateRefresh_sensors k _) _ s
  exact (State.panelTry_sensors _).trans ((State.roundStatus_sensors ..).trans ((State.updateFf_sensors ..).trans refreshed))

/-! The cap, the states and the domains that they allow (R437 to R440). -/

theorem State.adoptRef_sensors (s : State) : s.adoptRef.sensors = s.sensors := by
  unfold State.adoptRef
  exact State.ite_sensors (State.raiseOnce_sensors ..) rfl

theorem State.exhaustion_sensors (s : State) : s.exhaustion.sensors = s.sensors := by
  unfold State.exhaustion
  extract_lets failed many was u v
  have shown : u.sensors = s.sensors := s.wr_sensors _ (by decide)
  have told : v.sensors = s.sensors := State.ite_sensors ((State.raise_sensors ..).trans shown) shown
  exact State.ite_sensors ((v.wr_sensors _ (by decide)).trans told)
    (State.ite_sensors ((v.wr_sensors _ (by decide)).trans told) told)

theorem State.warnLevel_sensors (s : State) (hot : Int) : (s.warnLevel hot).sensors = s.sensors := by
  unfold State.warnLevel
  exact State.ite_sensors rfl ((State.raise_sensors ..).trans (s.wr_sensors _ (by decide)))

theorem State.capStep_sensors (s : State) (cap : Nat) (hot : Int) (up : Bool) : (s.capStep cap hot up).sensors = s.sensors := by
  unfold State.capStep
  extract_lets _ u v
  have stepped : v.sensors = s.sensors := (State.raise_sensors ..).trans ((State.wr_sensors _ _ (by decide)).trans rfl)
  clear_value v
  exact State.ite_sensors ((v.inc_sensors (by decide)).trans stepped) ((v.inc_sensors (by decide)).trans stepped)

theorem State.enterThrottle_sensors (s : State) : s.enterThrottle.sensors = s.sensors := by
  unfold State.enterThrottle
  extract_lets u
  have throttles : u.sensors = s.sensors := s.wr_sensors _ (by decide)
  exact State.ite_sensors rfl (State.ite_sensors ((State.wr_sensors _ _ (by decide)).trans throttles) throttles)

theorem State.throttle_sensors (s : State) (hot : Int) : (s.throttle hot).sensors = s.sensors := by
  have status : ∀ (s : State) (v : Nat), (s.wr F.HK_STATUS_STATE v).sensors = s.sensors := fun s v => s.wr_sensors v (by decide)
  have saturated : ∀ (s : State) (v : Nat), (s.wr F.HK_STATUS_SAT v).sensors = s.sensors := fun s v => s.wr_sensors v (by decide)
  unfold State.throttle
  extract_lets mx thr low u v cap held w
  have capped : u.sensors = s.sensors := State.ite_sensors (s.wr_sensors _ (by decide)) rfl
  have entered : v.sensors = s.sensors := State.ite_sensors (u.enterThrottle_sensors.trans capped) capped
  have raised : w.sensors = s.sensors := (State.capStep_sensors ..).trans ((saturated ..).trans entered)
  refine State.ite_sensors (State.ite_sensors (State.ite_sensors ?_ ?_) (State.ite_sensors ?_ entered))
    (State.ite_sensors (State.ite_sensors (State.ite_sensors ?_ raised) entered) entered)
  · exact (State.capStep_sensors ..).trans ((saturated ..).trans entered)
  · exact (saturated ..).trans entered
  · exact (status ..).trans entered
  · exact (status ..).trans raised

theorem PwrSt.reqUp_phase (p : PwrSt) (failed : Bool) (d : Nat) : (p.reqUp failed d).phase = p.phase := by
  unfold PwrSt.reqUp
  extract_lets q up down
  split <;> rfl

theorem PwrSt.reqDown_phase (p : PwrSt) (d : Nat) : (p.reqDown d).phase = p.phase := by
  unfold PwrSt.reqDown
  extract_lets q up down
  have removed : q.phase = p.phase := by
    simp only [q]
    split <;> rfl
  split <;> exact removed

theorem PwrSt.take_phase (p : PwrSt) : p.take.phase = p.phase := by
  unfold PwrSt.take
  split
  · rfl
  · split
    · rfl
    · split <;> rfl

/-- Of the power state only the phase is seen. -/
theorem State.withPwr_sensors (s : State) {p : PwrSt} (phase : p.phase = s.pwr.phase) : State.sensors { s with pwr := p } = s.sensors :=
  Prod.ext (Prod.ext rfl (Prod.ext phase rfl)) rfl

theorem State.reqDown_sensors (s : State) (d : Nat) : (s.reqDown d).sensors = s.sensors := by
  have asked := s.withPwr_sensors (s.pwr.reqDown_phase d)
  unfold State.reqDown State.when
  exact State.ite_sensors asked asked

theorem State.domainsNeed_sensors (s : State) : s.domainsNeed.sensors = s.sensors := by
  unfold State.domainsNeed
  extract_lets c u v
  have down : u.sensors = s.sensors := State.each_proj State.sensors _ State.reqDown_sensors _ s
  have up : v.sensors = u.sensors := State.each_proj State.sensors _ (fun s d => s.withPwr_sensors (s.pwr.reqUp_phase _ d)) _ u
  exact (v.withPwr_sensors v.pwr.take_phase).trans (up.trans down)

theorem State.thermOut_sensors (s : State) (before : Nat) : (s.thermOut before).sensors = s.sensors := by
  unfold State.thermOut
  extract_lets cap t _ w
  split
  extract_lets v
  have shown : v.sensors = s.sensors := (State.wr_sensors _ _ (by decide)).trans ((w.wr_sensors _ (by decide)).trans rfl)
  exact State.ite_sensors (v.domainsNeed_sensors.trans shown) shown

/-! The sensors of the round and their used values (R431 to R436). -/

theorem State.wr_hottest_sensors (s : State) (v : Nat) : (s.wr F.HK_SENS_STAT_HOTTEST v).sensors = s.sensors :=
  Prod.ext (s.wr_temps v (by decide)) (s.rd_wr_beside _ _ v (by decide) (by decide) rfl (by decide))

theorem State.sensorFailed_temps (s : State) (i cause : Nat) : (s.sensorFailed i cause).temps = s.temps :=
  (show _ = (s.wr F.HK_SENS_STAT_FAILED (orBit (s.rd F.HK_SENS_STAT_FAILED) i)).temps from rfl).trans (s.wr_temps _ (by decide))

theorem State.failSensor_temps (s : State) (i cause : Nat) : (s.failSensor i cause).temps = s.temps := by
  by_cases failed : s.hkFailed i = true
  · exact congrArg State.temps (if_pos failed)
  · rw [State.failSensor_eq (Bool.not_eq_true _ ▸ failed)]
    have marked := s.sensorFailed_temps i cause
    generalize s.sensorFailed i cause = w at marked ⊢
    split
    · exact marked
    · exact (State.wr_temps _ _ (by decide)).trans marked

theorem State.crossCheck_temps (s : State) : s.crossCheck.temps = s.temps := by
  unfold State.crossCheck
  split
  · rfl
  · split
    · rfl
    · extract_lets w _ u
      clear_value w
      split
      · split
        · exact u.failSensor_temps ..
        · rfl
      · rfl

theorem State.modelAbsent_temps (s : State) : s.modelAbsent.temps = s.temps := by
  unfold State.modelAbsent
  split
  · rfl
  · extract_lets _ u
    split
    · exact State.temps_of_sensors (u.raise_sensors ..)
    · rfl

theorem State.countGoods_sensors (s : State) (est : Option (List Int)) : (s.countGoods est).sensors = s.sensors := rfl

theorem State.showEst_sensors (s : State) (e : Option (List Int)) : (s.showEst e).sensors = s.sensors := by
  have est : ∀ i, (F.HK_ESTn_EST i).offSensors = true := fun i => Fld.offSensors_of_beyond (Nat.le_add_right_of_le (by decide))
  have misses : ∀ i, (F.HK_ESTn_MISSES i).offSensors = true := fun i => Fld.offSensors_of_beyond (Nat.le_add_right_of_le (by decide))
  unfold State.showEst
  exact State.each_proj State.sensors _ (fun s i => (State.wr_sensors _ _ (misses i)).trans (s.wr_sensors _ (est i))) _ s

theorem State.usedValues_works {s : State} (est : Option (List Int)) {i : Nat} (diode : i < 7) (works : s.hkFailed i = false) :
    (s.usedValues est).getD i 0 = s.hkRead i := by
  unfold State.usedValues
  extract_lets hottest
  rw [List.getD_eq_getElem _ _ (by simpa using diode)]
  simp [works]

/-- The flash, the phase, and which diodes have failed: what the used values written leave alone. -/
def State.offUsed (s : State) : ImgSt × ResetPhase × Nat := (s.img, s.pwr.phase, s.rd F.HK_SENS_STAT_FAILED)

theorem State.wr_used_offUsed (s : State) (i v : Nat) : (s.wr (F.HK_TEMPn_USED i) v).offUsed = s.offUsed := by
  have word : F.HK_SENS_STAT_FAILED.addr ≠ (F.HK_TEMPn_USED i).addr := by
    simp only [F.HK_SENS_STAT_FAILED, F.HK_TEMPn_USED, R.HK_SENS_STAT, R.HK_TEMPn]
    omega
  unfold State.offUsed
  rw [State.wr_img, State.wr_pwr, s.rd_wr_other _ _ v word]

theorem State.each_used_rd (g : Nat → Nat) (s : State) {n i : Nat} (written : i < n) :
    (s.each (List.range n) (fun s i => s.wr (F.HK_TEMPn_USED i) (g i))).rd (F.HK_TEMPn_USED i) = g i % 2 ^ 16 := by
  induction n with
  | zero => exact absurd written (Nat.not_lt_zero i)
  | succ n ih =>
    unfold State.each at ih ⊢
    rw [List.range_succ, List.foldl_append]
    obtain earlier | rfl := Nat.lt_succ_iff_lt_or_eq.mp written
    · exact (State.rd_wr_other _ _ _ _ (by simp only [F.HK_TEMPn_USED, R.HK_TEMPn]; omega)).trans (ih earlier)
    · exact State.rd_wr _ _ _ (by simp [F.HK_TEMPn_USED]) (by simp [F.HK_TEMPn_USED])

theorem signed_unsigned (x : Nat) : signed 16 (unsigned 16 (signed 16 x) % 2 ^ 16) = signed 16 x := by
  simp only [signed, unsigned]
  omega

/-- What the sensors of the round leave: the flash and the phase, and the readings as used values of the diodes that have not failed (R435). -/
theorem State.hkTemps_used (s : State) : s.hkTemps.1.img = s.img ∧ s.hkTemps.1.pwr.phase = s.pwr.phase ∧
    ∀ i, i < 7 → s.hkTemps.1.hkFailed i = false → s.hkTemps.1.hkUsed i = s.hkRead i := by
  unfold State.hkTemps
  extract_lets _ counted ranged checked est used shown written
  have reads : checked.temps = s.temps := ranged.crossCheck_temps.trans (State.each_proj State.temps _ (fun s i => by
    split
    · rfl
    · exact s.failSensor_temps i 1) _ counted)
  have estimates : shown.sensors = checked.sensors := (State.showEst_sensors ..).trans (checked.countGoods_sensors est)
  have rest : written.offUsed = shown.offUsed := State.each_proj State.offUsed _ (fun s i => s.wr_used_offUsed i _) _ shown
  have used_rd : ∀ i, i < 7 → written.rd (F.HK_TEMPn_USED i) = unsigned 16 (used.getD i 0) % 2 ^ 16 := fun i diode =>
    State.each_used_rd (fun i => unsigned 16 (used.getD i 0)) shown diode
  have values : ∀ i, i < 7 → checked.hkFailed i = false → used.getD i 0 = checked.hkRead i := fun i => checked.usedValues_works est
  have temps := (State.temps_of_sensors estimates).trans reads
  clear_value written used shown est checked
  have img : written.img = shown.img := congrArg Prod.fst rest
  have phase : written.pwr.phase = shown.pwr.phase := congrArg (fun p => p.2.1) rest
  have failed : written.rd F.HK_SENS_STAT_FAILED = shown.rd F.HK_SENS_STAT_FAILED := congrArg (fun p => p.2.2) rest
  refine ⟨img.trans (State.img_of_temps temps), phase.trans (State.phase_of_temps temps), fun i diode works => ?_⟩
  have healthy : checked.hkFailed i = false :=
    (State.hkFailed_of_sensors estimates i).symm.trans ((State.hkFailed_congr failed i).symm.trans works)
  calc written.hkUsed i
      = signed 16 (unsigned 16 (used.getD i 0) % 2 ^ 16) := congrArg (signed 16) (used_rd i diode)
    _ = signed 16 (unsigned 16 (checked.hkRead i) % 2 ^ 16) := by rw [values i diode healthy]
    _ = checked.hkRead i := signed_unsigned _
    _ = s.hkRead i := State.hkRead_of_temps reads diode

/-! The evaluation, the shutdown and its exit (R429 to R442). -/

/-- The evaluation up to the shutdown leaves what the sensors of the round left. -/
theorem State.hkEvaluate_eq (s : State) (status : List Byte) : ∃ v : State, v.sensors = s.modelAbsent.hkTemps.1.sensors ∧
    (s.hkEvaluate status = v ∨ ∃ i h, s.hkEvaluate status = v.shutdown i h) := by
  unfold State.hkEvaluate
  extract_lets cap s1
  split
  rename_i s2 hot temps
  extract_lets s3 s4 s5 s6 _ s7 s8
  have limits : s5.sensors = s2.sensors := s4.exhaustion_sensors.trans ((s3.thermUsers_sensors status).trans s2.adoptRef_sensors)
  have throttled : s6.sensors = s5.sensors := by
    simp only [s6]
    split
    · rfl
    · exact (State.throttle_sensors ..).trans ((State.warnLevel_sensors ..).trans
        ((State.wr_hottest_sensors ..).trans (State.wr_sensors _ _ (by decide))))
  have shown : s8.sensors = s1.hkTemps.1.sensors :=
    (s7.thermOut_sensors cap).trans ((s6.withHk_sensors _).trans (throttled.trans (limits.trans (by rw [temps]))))
  refine ⟨s8, shown, ?_⟩
  split
  · exact .inr ⟨_, _, rfl⟩
  · exact .inl rfl

/-- The thermal shutdown: the sensors stand, or a running device is reset into the wait for cooling (R442). -/
theorem State.shutdown_or (s : State) (i : Nat) (hot : Int) : (s.shutdown i hot).sensors = s.sensors ∨
    s.running = true ∧ (s.shutdown i hot).pwr.phase = .awaitCool ∧ (s.shutdown i hot).img.flash = (s.img.nvmReset false).flash := by
  unfold State.shutdown
  extract_lets hi lo _ w _
  split
  · exact .inl rfl
  · split
    · rename_i shuts
      refine .inr ⟨shuts.2, ?_⟩
      have img : w.img = s.img := (State.inc_img ..).trans (State.raiseI_img ..)
      clear_value w
      obtain ⟨live, panel, torn, held, clears⟩ := State.enterReset_eq { w with hk := { w.hk with cool := 0 } } false false .awaitCool
      unfold State.thermalReset
      rw [clears, ← img]
      exact ⟨rfl, rfl⟩
    · exact .inl rfl

/-- A cap that does not rise asks for no domain (R440). -/
theorem State.thermOut_held {s : State} {before : Nat} (held : s.rd F.HK_CAP_CAP ≤ before) : ∃ therm clusters decoders, s.thermOut before =
    (State.wr { s with pwr := { s.pwr with therm := therm } } F.HK_STATUS_CLUSTERS clusters).wr F.HK_STATUS_DECODERS decoders :=
  ⟨_, _, _, if_neg (fun h => absurd h.1 held.not_gt)⟩

theorem State.thermalExit_early {s : State} (early : s.pwr.phase ≠ .awaitCool ∨ s.hk.cool < 8) : s.thermalExit = s :=
  if_pos early

/-- The power state at the exit of a thermal shutdown: reset exit is due, unless it waits for the rails (R442). -/
def PwrSt.cooled (p : PwrSt) : PwrSt := { p with phase := if p.rails then .awaitRails else .exitDue, rails := false }

/-- The counts of the rounds begin anew, and the wait for cooling ends (R442). -/
def State.cooled (s : State) : State := { s with hk := { s.hk with r := 0, cool := 0 }, pwr := s.pwr.cooled }

theorem State.cooled_rd (s : State) (f : Fld) : s.cooled.rd f = s.rd f := rfl

theorem State.thermalExit_eq {s : State} (cooling : s.pwr.phase = .awaitCool) (cool : 8 ≤ s.hk.cool) :
    s.thermalExit = ((s.wr F.HK_CAP_CAP 40).wr F.HK_STATUS_STATE 2).cooled.thermOut 120 :=
  if_neg (fun early => early.elim (fun h => h cooling) (fun h => h.not_ge cool))

/-- A cap of 40 W asks for no domain at the end of the wait (R440, R442). -/
theorem State.cooled_thermOut {s : State} (cap : s.rd F.HK_CAP_CAP = 40) (state : s.rd F.HK_STATUS_STATE = 2) :
    (s.cooled.thermOut 120).pwr.phase = (if s.pwr.rails then .awaitRails else .exitDue) ∧ (s.cooled.thermOut 120).pwr.rails = false ∧
      (s.cooled.thermOut 120).hk.r = 0 ∧ (s.cooled.thermOut 120).hk.cool = 0 ∧ (s.cooled.thermOut 120).rd F.HK_STATUS_STATE = 2 := by
  obtain ⟨therm, clusters, decoders, shown⟩ := State.thermOut_held (s := s.cooled) (before := 120) (by rw [s.cooled_rd, cap]; decide)
  rw [shown]
  refine ⟨rfl, rfl, rfl, rfl, ?_⟩
  refine (State.rd_wr_beside _ F.HK_STATUS_DECODERS F.HK_STATUS_STATE _ (by decide) (by decide) rfl (by decide)).trans ?_
  exact (State.rd_wr_beside _ F.HK_STATUS_CLUSTERS F.HK_STATUS_STATE _ (by decide) (by decide) rfl (by decide)).trans state

/-- The exit of a thermal shutdown (R442). -/
theorem State.thermalExit_due {s : State} (cooling : s.pwr.phase = .awaitCool) (cool : 8 ≤ s.hk.cool) :
    s.thermalExit.pwr.phase = (if s.pwr.rails then .awaitRails else .exitDue) ∧ s.thermalExit.pwr.rails = false ∧ s.thermalExit.hk.r = 0 ∧
      s.thermalExit.hk.cool = 0 ∧ s.thermalExit.rd F.HK_STATUS_STATE = 2 := by
  have cap : ((s.wr F.HK_CAP_CAP 40).wr F.HK_STATUS_STATE 2).rd F.HK_CAP_CAP = 40 :=
    (State.rd_wr_other _ _ _ _ (by decide)).trans (State.rd_wr _ _ _ (by decide) (by decide))
  have exits := State.cooled_thermOut cap (State.rd_wr _ _ _ (by decide) (by decide))
  rw [State.wr_pwr, State.wr_pwr] at exits
  rw [State.thermalExit_eq cooling cool]
  exact exits

end Sys2Proof.Machine

namespace Sys2Proof.Proofs

open Machine Safety Claims

/-- A part of `housekeepingRounds`. -/
theorem evaluationAndThermalExit : Claims.EvaluationAndThermalExit := by
  intro s t status r
  have exits : exec (.thermalResetExit t) s = .next (s.tick t).thermalExit := rfl
  refine ⟨fun island => ⟨r.hkEvaluate status, State.isle_amidRecords t (fun s => s.hkEvaluate status) island, ?_⟩,
    fun cooling cool => ⟨_, exits, State.thermalExit_due (s := s.tick t) cooling cool⟩,
    fun early => exits.trans (congrArg _ (State.thermalExit_early (s := s.tick t) early))⟩
  obtain ⟨v, sensors, ends⟩ := r.hkEvaluate_eq status
  obtain ⟨img, phase, used⟩ := r.modelAbsent.hkTemps_used
  have temps := State.temps_of_sensors sensors
  have flashed : v.img = r.img := (State.img_of_temps temps).trans (img.trans (State.img_of_temps r.modelAbsent_temps))
  have phased : v.pwr.phase = r.pwr.phase := (State.phase_of_temps temps).trans (phase.trans (State.phase_of_temps r.modelAbsent_temps))
  have outcome : (r.hkEvaluate status).sensors = v.sensors ∨ v.running = true ∧ (r.hkEvaluate status).pwr.phase = .awaitCool ∧
      (r.hkEvaluate status).img.flash = (v.img.nvmReset false).flash := by
    rcases ends with same | ⟨i, h, shuts⟩
    · exact .inl (congrArg State.sensors same)
    · rw [shuts]
      exact v.shutdown_or i h
  generalize r.hkEvaluate status = u at outcome ⊢
  rcases outcome with same | ⟨running, waits, flash⟩
  · have stands := State.temps_of_sensors same
    have kept := (State.phase_of_temps stands).trans phased
    have round := same.trans sensors
    refine ⟨fun _ => ⟨congrArg ImgSt.flash ((State.img_of_temps stands).trans flashed), fun i diode works => ?_⟩, fun moved => absurd kept moved⟩
    calc u.hkUsed i
        = r.modelAbsent.hkTemps.1.hkUsed i := State.hkUsed_of_temps (State.temps_of_sensors round) diode
      _ = r.modelAbsent.hkRead i := used i diode ((State.hkFailed_of_sensors round i).symm.trans works)
      _ = r.hkRead i := State.hkRead_of_temps r.modelAbsent_temps diode
  · have ran : r.pwr.phase = .run := phased.symm.trans (by simpa [State.running] using running)
    refine ⟨fun kept => absurd (waits.symm.trans (kept.trans ran)) (by decide), fun _ => ⟨State.running_of_run ran, waits, ?_⟩⟩
    rw [flash, flashed]

/-- Settles O44. -/
theorem housekeepingRounds : Obligations.HousekeepingRounds := ⟨housekeepingSlots, evaluationAndThermalExit⟩

end Sys2Proof.Proofs

namespace Sys2Proof.Machine

open Safety Claims

/-! The OTP (R99, R100): a bit programmed into it stays, and besides that only a reset exit that finds it blank reaches it. -/

/-- The OTP has gone from `x` to `y` by programming alone: no epoch or revocation bit is lost, and what is fused once stands. -/
def Otp.RisesTo (x y : Otp) : Prop :=
  (x.epoch ≤ 64 → x.epoch ≤ y.epoch) ∧
  (∀ n, n < 4 → x.revoked.testBit n = true → y.revoked.testBit n = true) ∧
  (x ≠ Otp.blank → y.slots = x.slots ∧ y.uid = x.uid ∧ y.mac = x.mac ∧ y.devKey = x.devKey)

theorem Otp.risesTo_self (x : Otp) : x.RisesTo x := ⟨fun _ => Nat.le_refl _, fun _ _ h => h, fun _ => ⟨rfl, rfl, rfl, rfl⟩⟩

/-- A blank OTP has no bit to lose. -/
theorem Otp.blank_risesTo (y : Otp) : Otp.blank.RisesTo y :=
  ⟨fun _ => Nat.zero_le _, fun n _ h => absurd h (by simp [Otp.blank]), fun h => absurd rfl h⟩

/-- Of the four revocation bits none is lost by adding another one. -/
theorem testBit_revoke {x n : Nat} (bit : Nat) (listed : n < 4) (h : x.testBit n = true) : ((x ||| 2 ^ bit) % 16).testBit n = true := by
  rw [show 16 = 2 ^ 4 from rfl, Nat.testBit_mod_two_pow, Nat.testBit_or, h, decide_eq_true listed]
  rfl

/-- An operation programs a bit of the epoch, a revocation bit, or nothing. -/
theorem Otp.risesTo_program (x : Otp) (o : NvmOp) : x.RisesTo (x.program o) := by
  unfold Otp.program
  split
  · exact x.risesTo_self
  · split
    · exact ⟨fun _ => by dsimp only; omega, fun _ _ h => h, fun _ => ⟨rfl, rfl, rfl, rfl⟩⟩
    · exact ⟨fun _ => Nat.le_refl _, fun _ listed h => testBit_revoke _ listed h, fun _ => ⟨rfl, rfl, rfl, rfl⟩⟩

/-- What a command makes of the OTP: nothing, one programmed bit, or, of a blank one, what reset exit finds (R100). -/
theorem exec_otp {c : Instr} {s u : State} (e : exec c s = .next u) :
    u.img.otp = s.img.otp ∨ (∃ o, u.img.otp = s.img.otp.program o) ∨ s.img.otp = Otp.blank := by
  cases tap : tapCommand c with
  | true =>
    obtain ⟨j, rfl⟩ := exec_tap tap e
    exact .inl rfl
  | false =>
    cases changes : changesBase c with
    | false => exact .inl (congrArg Base.otp (exec_base changes e))
    | true =>
      cases c with
      | porAssert t =>
        cases e
        exact .inl (congrArg Base.otp (s.tick t).porAssert_base)
      | resetTrip t mon =>
        cases e
        exact .inl (((s.tick t).resetTrip_base mon).elim (congrArg Base.otp) (congrArg Base.otp))
      | resetExit t st otp size flash =>
        cases e
        by_cases due : s.pwr.phase = .exitDue
        · by_cases blank : s.img.otp = Otp.blank
          · exact .inr (.inr blank)
          · exact .inl ((congrArg Base.otp ((s.tick t).resetExit_base_due st otp size flash due)).trans (if_neg blank))
        · exact .inl (congrArg (fun v => v.img.otp) ((s.tick t).resetExit_notDue st otp size flash due) :)
      | nvmOpDone t same =>
        cases e
        obtain ⟨x, programmed, done⟩ := (s.tick t).recordsRun.nvmDone_kept same
        have before : (s.tick t).recordsRun.img.otp = s.img.otp := congrArg Base.otp (s.tick t).recordsRun_base
        have after : (((s.tick t).loading (fun s => s.nvmDone same)).flashFree).img.otp = x :=
          (congrArg Base.otp ((State.flashFree_base _).trans (State.recordsRun_base _))).trans (congrArg (fun k => k.base.otp) done)
        rw [before] at programmed
        rcases programmed with rfl | ⟨o, rfl⟩
        · exact .inl after
        · exact .inr (.inl ⟨o, after⟩)
      | trstAssert _ | trstDeassert _ | jtagBypass _ | jtagIdcode _ | jtagSamplePreload _ _ _ | jtagExtest _ _ | jtagExtestPulse _ _
      | jtagExtestTrain _ _ | jtagClamp _ | jtagHighz _ => cases tap
      | _ => cases changes

end Sys2Proof.Machine

namespace Sys2Proof.Proofs

open Machine Safety Claims

/-- Settles O56: a command leaves the OTP, programs one bit of it, or fills a blank one (`exec_otp`). -/
theorem otpOnlyRises : Obligations.OtpOnlyRises := by
  intro c s u e
  show s.img.otp.RisesTo u.img.otp
  rcases exec_otp e with stands | ⟨o, programmed⟩ | blank
  · rw [stands]
    exact Otp.risesTo_self _
  · rw [programmed]
    exact Otp.risesTo_program _ o
  · rw [blank]
    exact Otp.blank_risesTo _

end Sys2Proof.Proofs

namespace Sys2Proof.Machine

open Safety Claims

/-! The boot timeline (R102). -/

theorem State.when_proj {β : Type} (p : State → β) (s : State) (c : Bool) {f : State → State} (h : ∀ s, p (f s) = p s) : p (s.when c f) = p s := by
  unfold State.when
  split
  · exact h s
  · rfl

/-! A step reached shows itself in the live ledger and as an event alone. -/

theorem State.bootStep_clk (s : State) (k : Nat) : (s.bootStep k).clk = s.clk := (State.raise_clk ..).trans (State.wr_clk ..)

theorem State.bootStep_lock (s : State) (k : Nat) : (s.bootStep k).lock = s.lock := (State.raise_lock ..).trans (State.wr_lock ..)

theorem State.bootStep_pair (s : State) (k : Nat) : (s.bootStep k).pair = s.pair := (State.raise_pair ..).trans (State.wr_pair ..)

theorem State.setLive_banks (s : State) (m : RegFile) : ((s.setLive m).led.bank0, (s.setLive m).led.bank1) = (s.led.bank0, s.led.bank1) := rfl

theorem State.bootStep_banks (s : State) (k : Nat) : ((s.bootStep k).led.bank0, (s.bootStep k).led.bank1) = (s.led.bank0, s.led.bank1) := by
  unfold State.bootStep
  rw [State.raise_led]
  exact s.setLive_banks _

theorem State.panelBoot_img (s : State) : s.panelBoot.img = s.img := by
  unfold State.panelBoot
  extract_lets v
  split <;> rfl

theorem State.bootPanel_timeStep (s : State) : s.bootPanel.img.timeStep = s.img.timeStep := by
  have marked (u : State) : ImgSt.timeStep (State.img { u with img := { u.img with panelStep := true } }) = u.img.timeStep := rfl
  have lanes (u : State) (x : LanesSt) (n : Nat) : (State.panelBoot { u with lanes := x, choices := n }).img = u.img := State.panelBoot_img _
  exact (marked _).trans (congrArg ImgSt.timeStep ((lanes (s.bootStep 13) _ _).trans (s.bootStep_img 13)))

/-- The steps of the timeline leave the mark of the one that waits for the time. -/
theorem State.bootAdvance_timeStep (s : State) : s.bootAdvance.img.timeStep = s.img.timeStep := by
  have step : ∀ k (s : State), (s.bootStep k).img.timeStep = s.img.timeStep := fun k s => congrArg ImgSt.timeStep (s.bootStep_img k)
  unfold State.bootAdvance
  split
  · rfl
  · extract_lets s1 s2 s3
    have h1 : s1.img.timeStep = s.img.timeStep := State.when_proj (fun s => s.img.timeStep) s _ (step 10)
    have h2 : s2.img.timeStep = s1.img.timeStep := State.when_proj (fun s => s.img.timeStep) s1 _ (step 11)
    have h3 : s3.img.timeStep = s2.img.timeStep := State.when_proj (fun s => s.img.timeStep) s2 _ (step 12)
    exact (State.when_proj (fun s => s.img.timeStep) s3 _ State.bootPanel_timeStep).trans (h3.trans (h2.trans h1))

section
variable {s : State}

theorem State.freeRunTimeout_ready (ready : s.img.readyAt.isSome = true) : s.freeRunTimeout.img.timeStep = true := by
  unfold State.freeRunTimeout
  rw [if_pos ready]
  exact State.bootAdvance_timeStep _

theorem State.freeRunTimeout_early (early : s.img.readyAt = none) : s.freeRunTimeout = s := if_neg (by simp [early])

/-! The first close (R102 step 14, R150, R412). -/

theorem State.firstCloseSet_due (settled : s.img.panelStep = true) (stage : s.stage = 13) (idle : s.lock.running = false)
    (up : s.pstate ≠ pUPSEQ) (trains : s.pstate ≠ pTRAIN) : s.firstCloseSet = (s.bootStep 14).bootPounds :=
  if_pos ⟨settled, stage, by simp [idle], up, trains⟩

theorem State.bootPounds_unpaired (single : s.paired = false) : s.bootPounds = s.startPounds := if_pos (by simp [single])

theorem State.bootPounds_heard {h : PartnerHb} (paired : s.paired = true) (heard : s.ownerHeard = some h) : s.bootPounds = s.joinPounds h := by
  unfold State.bootPounds
  rw [if_neg (not_not_intro paired), heard]

/-- Side B without a partner waits for it (R412). -/
theorem State.bootPounds_waits (side : s.side = 2) (silent : s.ownerHeard = none) :
    s.bootPounds = s.modPair (fun p => { p with own := false, joinWait := true }) := by
  have paired : s.paired = true := by
    have : s.pwr.straps.pair = 2 := side
    simp [State.paired, this]
  unfold State.bootPounds
  rw [if_neg (not_not_intro paired), silent]
  exact if_neg (by rw [side]; decide)

theorem State.ownerHeard_recent {h : PartnerHb} (beat : s.pair.hb = some h) (owner : bitAt h.flags 0 = true)
    (recent : s.clk.now ≤ h.at_ + 10000000) : s.ownerHeard = some h := by
  unfold State.ownerHeard
  rw [beat]
  exact if_pos ⟨owner, recent⟩

theorem State.ownerHeard_none (silent : s.pair.hb = none) : s.ownerHeard = none := by
  unfold State.ownerHeard
  rw [silent]

end

/-- A device that starts by itself has the launch of pound 0 two lock cycles ahead (R150). -/
theorem State.startPounds_starts (s : State) : s.startPounds.lock.running = true ∧ s.startPounds.lock.nextPound = 0 ∧
    s.startPounds.time.nextL = 2 ^ 32 - 2 ∧ s.startPounds.scan.pre = 2 ∧ s.startPounds.led = s.led := by
  unfold State.startPounds
  extract_lets t lead tc v
  have led : v.led = s.led := rfl
  clear_value v
  exact ⟨rfl, rfl, rfl, rfl, led⟩

/-- The lock-keeper, the frame count, and whether the device is to own. -/
def State.joined (s : State) : LockSt × ScanSt × Bool := (s.lock, s.scan, s.pair.own)

theorem State.wr_joined (s : State) (f : Fld) (v : Nat) : (s.wr f v).joined = s.joined := rfl

theorem State.raise_joined (s : State) (code block arg0 arg1 : Nat) : (s.raise code block arg0 arg1).joined = s.joined := rfl

theorem State.unfit_joined (s : State) (cause : Nat) : (s.unfit cause).joined = s.joined := by
  unfold State.unfit
  extract_lets v
  split <;> rfl

/-- A joining device takes the owner's count over and follows (R412). -/
theorem State.joinPounds_follows (s : State) (h : PartnerHb) : (s.joinPounds h).lock.running = true ∧
    (s.joinPounds h).lock.nextPound = poundAdd h.pound 1 ∧ (s.joinPounds h).pair.own = false ∧ (s.joinPounds h).scan.fcnt = h.fcnt := by
  unfold State.joinPounds
  extract_lets t lead p tc s1 _ _ _ s2 s3 _ _ _ s4
  clear_value s1
  have joins : (((s4.unfit 4).wr F.TOW_STATUS_JOINING 1).raise 0xF48 bTOW (if bitAt h.flags 3 then 2 else 1) p).joined = s4.joined :=
    (State.raise_joined ..).trans ((State.wr_joined ..).trans (s4.unfit_joined 4))
  refine ⟨(congrArg (fun x => x.1.running) joins :), (congrArg (fun x => x.1.nextPound) joins :), (congrArg (fun x => x.2.2) joins :),
    (congrArg (fun x => x.2.1.fcnt) joins :)⟩

end Sys2Proof.Machine

namespace Sys2Proof.Proofs

open Machine Safety Claims

/-- Settles O12. -/
theorem bootStepsRun : Obligations.BootStepsRun := by
  intro s t alive
  have times : exec (.bootFreeRunTimeout t) s = .next (s.tick t).freeRunTimeout := State.live_alive t State.freeRunTimeout alive
  have closes : exec (.bootFirstCloseSet t) s = .next (s.tick t).firstCloseSet := State.live_alive t State.firstCloseSet alive
  rw [times, closes]
  refine ⟨fun ready => ⟨_, rfl, State.freeRunTimeout_ready (s := s.tick t) ready⟩,
    fun early => congrArg _ (State.freeRunTimeout_early (s := s.tick t) early), fun settled stage idle up trains => ?_⟩
  rw [State.firstCloseSet_due (s := s.tick t) settled stage idle up trains]
  have clk := (s.tick t).bootStep_clk 14
  have lock := (s.tick t).bootStep_lock 14
  have pair := (s.tick t).bootStep_pair 14
  have pwr := (s.tick t).bootStep_pwr 14
  obtain ⟨bank0, bank1⟩ := Prod.mk.inj ((s.tick t).bootStep_banks 14)
  generalize (s.tick t).bootStep 14 = v at clk lock pair pwr bank0 bank1 ⊢
  have same : v.paired = s.paired := congrArg (fun p : PwrSt => decide (p.straps.pair ≠ 0)) pwr
  refine ⟨fun single => ?_, fun h paired beat owner recent => ?_, fun side silent => ?_⟩
  · obtain ⟨running, pound, launch, slots, led⟩ := v.startPounds_starts
    rw [State.bootPounds_unpaired (same.trans single)]
    exact ⟨_, rfl, running, pound, launch, slots, (congrArg LedSt.bank0 led).trans bank0, (congrArg LedSt.bank1 led).trans bank1⟩
  · have now : v.clk.now ≤ h.at_ + 10000000 := by rwa [clk, s.tick_now t]
    rw [State.bootPounds_heard (same.trans paired) (State.ownerHeard_recent (pair ▸ beat) owner now)]
    exact ⟨_, rfl, v.joinPounds_follows h⟩
  · rw [State.bootPounds_waits ((congrArg (fun p => p.straps.pair) pwr).trans side) (State.ownerHeard_none (pair ▸ silent))]
    exact ⟨_, rfl, rfl, rfl, (congrArg LockSt.running lock).trans idle⟩

end Sys2Proof.Proofs

namespace Sys2Proof.Machine

open Safety Claims

/-! The works of the flash (R107): showing one and starting one reach two words of the ledger and the work itself. -/

theorem State.showNvm_img (s : State) : s.showNvm.img = s.img := show s.showNvm.offLive.img = s.offLive.img by rw [s.showNvm_offLive]

theorem State.nvmStart_flash (s : State) : s.nvmStart.img.flash = s.img.flash := by
  obtain ⟨job, jobs, starts⟩ := s.nvmStart_img
  rw [starts]

theorem State.nvmQueue_flash (s : State) (j : NvmJob) : (s.nvmQueue j).img.flash = s.img.flash := State.nvmStart_flash _

theorem pickJob_none {l : List NvmJob} (none : pickJob l = none) : l = [] := by
  cases l with
  | nil => rfl
  | cons j l =>
    unfold pickJob at none
    split at none
    · cases none
    · split at none <;> cases none

/-- A work that waits is picked or waits on. -/
theorem mem_of_pickJob {j k : NvmJob} : ∀ {l r : List NvmJob}, pickJob l = some (k, r) → j ∈ l → j = k ∨ j ∈ r
  | i :: l, r, picks, listed => by
    unfold pickJob at picks
    cases rest : pickJob l with
    | none =>
      rw [rest] at picks
      cases picks
      rw [pickJob_none rest] at listed
      exact .inl (List.mem_singleton.mp listed)
    | some p =>
      obtain ⟨k', q⟩ := p
      rw [rest] at picks
      dsimp only at picks
      split at picks
      · cases picks
        rcases List.mem_cons.mp listed with rfl | later
        · exact .inr (List.mem_cons_self ..)
        · exact (mem_of_pickJob rest later).imp_right (List.mem_cons_of_mem _)
      · cases picks
        exact List.mem_cons.mp listed

theorem NvmJob.start_other {j : NvmJob} (other : j.who ≠ .save) (m : ByteMem) : j.start m = j := if_neg other

/-- A work that waits, other than a calibration save, is under way or waits on once the next work may have started. -/
theorem State.nvmStart_mem {s : State} {j : NvmJob} (waits : j ∈ s.img.jobs) (other : j.who ≠ .save) :
    s.nvmStart.img.job = some j ∨ j ∈ s.nvmStart.img.jobs := by
  unfold State.nvmStart
  split
  · exact .inr waits
  · cases picks : pickJob s.img.jobs with
    | some p =>
      obtain ⟨k, r⟩ := p
      dsimp only
      rw [State.showNvm_img]
      rcases mem_of_pickJob picks waits with rfl | stays
      · exact .inl (congrArg some (NvmJob.start_other other _))
      · exact .inr stays
    | none =>
      dsimp only
      split
      · rw [State.showNvm_img]
        exact .inr waits
      · exact .inr waits

theorem State.nvmQueue_mem (s : State) {j : NvmJob} (other : j.who ≠ .save) : (s.nvmQueue j).img.job = some j ∨ j ∈ (s.nvmQueue j).img.jobs :=
  State.nvmStart_mem (s := { s with img := { s.img with jobs := s.img.jobs ++ [j] } }) (by simp) other

/-! The state of an update (R104). -/

theorem State.updState_img (s : State) (st arg1 : Nat) : (s.updState st arg1).img = s.img := State.showNvm_img _

theorem State.updState_state (s : State) (st arg1 : Nat) : (s.updState st arg1).rd F.IMG_UPD_STAT_STATE = st % 8 :=
  (State.showNvm_rd (by decide) (by decide) _).trans (s.rd_wr _ _ (by decide) (by decide))

theorem State.updState_rd_other (s : State) (st arg1 : Nat) {f : Fld} (stat : f.addr ≠ R.IMG_NVM_STAT) (addr : f.addr ≠ R.IMG_NVM_ADDR)
    (upd : f.addr ≠ R.IMG_UPD_STAT) : (s.updState st arg1).rd f = s.rd f :=
  (State.showNvm_rd stat addr _).trans (s.rd_wr_other _ _ _ upd)

section
variable {s : State}

theorem State.updTakes_start : s.updTakes 1 = true ↔
    (s.rd F.IMG_UPD_STAT_STATE = 0 ∨ s.rd F.IMG_UPD_STAT_STATE = 5 ∨ s.rd F.IMG_UPD_STAT_STATE = 6) ∧ updLenOk (s.rd F.IMG_UPD_LEN_LENGTH) = true := by
  simp [State.updTakes, or_assoc]

theorem State.updTakes_verify : s.updTakes 2 = true ↔
    s.rd F.IMG_UPD_STAT_STATE = 1 ∧ s.rd F.IMG_UPD_OFF_OFF = s.rd F.IMG_UPD_LEN_LENGTH ∧ s.img.updBuf = [] := by
  simp [State.updTakes, and_assoc]

theorem State.updTakes_commit : s.updTakes 3 = true ↔ s.rd F.IMG_UPD_STAT_STATE = 3 := by simp [State.updTakes]

theorem State.updTakes_abort : s.updTakes 4 = true ↔
    s.rd F.IMG_UPD_STAT_STATE = 1 ∨ s.rd F.IMG_UPD_STAT_STATE = 2 ∨ s.rd F.IMG_UPD_STAT_STATE = 3 := by
  simp [State.updTakes, or_assoc]

theorem State.updCmd_refused {cmd : Nat} (refused : ¬ s.updTakes cmd = true) :
    s.updCmd cmd = s.raise 0x304 bIMG (s.rd F.IMG_UPD_STAT_STATE) 0xFFFFFFFF := if_pos refused

theorem State.updCmd_start (takes : s.updTakes 1 = true) : s.updCmd 1 = s.updStart := if_neg (not_not_intro takes)
theorem State.updCmd_verify (takes : s.updTakes 2 = true) : s.updCmd 2 = s.updVerify := if_neg (not_not_intro takes)
theorem State.updCmd_commit (takes : s.updTakes 3 = true) : s.updCmd 3 = s.updCommit := if_neg (not_not_intro takes)
theorem State.updCmd_abort (takes : s.updTakes 4 = true) : s.updCmd 4 = s.updAbort := if_neg (not_not_intro takes)

/-- A new update holds no byte and has erased nothing (R104). -/
theorem State.updStart_begins (s : State) : s.updStart.img.updBuf = [] ∧ s.updStart.img.updDone = 0 ∧ s.updStart.img.flash = s.img.flash ∧
    s.updStart.rd F.IMG_UPD_STAT_STATE = 1 ∧ s.updStart.rd F.IMG_UPD_OFF_OFF = 0 := by
  unfold State.updStart
  extract_lets _ v w
  have off : w.rd F.IMG_UPD_OFF_OFF = 0 :=
    (State.rd_wr_other _ _ _ _ (by decide)).trans ((State.rd_wr_other _ _ _ _ (by decide)).trans (v.rd_wr _ _ (by decide) (by decide)))
  obtain ⟨job, jobs, starts⟩ := (w.updState 1 0).nvmStart_img
  rw [starts, w.updState_img, State.nvmStart_rd (by decide) (by decide), State.nvmStart_rd (by decide) (by decide), w.updState_state,
    w.updState_rd_other _ _ (by decide) (by decide) (by decide)]
  exact ⟨rfl, rfl, rfl, rfl, off⟩

/-- A commit leaves the flash for its work, which writes the commit page (R106). -/
theorem State.updCommit_queues (s : State) : s.updCommit.img.flash = s.img.flash ∧ s.updCommit.rd F.IMG_UPD_STAT_STATE = 4 ∧
    (s.updCommit.img.job = some (commitJob s.img.flash s.inactiveBank) ∨ commitJob s.img.flash s.inactiveBank ∈ s.updCommit.img.jobs) := by
  unfold State.updCommit
  refine ⟨(State.nvmQueue_flash ..).trans (congrArg ImgSt.flash (s.updState_img ..)), ?_, State.nvmQueue_mem _ (by simp [commitJob])⟩
  exact (State.nvmStart_rd (by decide) (by decide) _).trans (s.updState_state 4 (s.rd F.IMG_UPD_OFF_OFF))

/-! The data of an update (R104). -/

theorem State.updDataTakes_iff : s.updDataTakes = true ↔
    s.rd F.IMG_UPD_STAT_STATE = 1 ∧ s.rd F.IMG_UPD_OFF_OFF < s.rd F.IMG_UPD_LEN_LENGTH ∧ s.img.updBuf.length + 4 ≤ 65536 := by
  simp [State.updDataTakes, and_assoc]

theorem State.updData_refused (v : Word) (refused : ¬ s.updDataTakes = true) : s.updData v = s := if_pos refused

theorem State.updData_appends (v : Word) (takes : s.updDataTakes = true) : (s.updData v).img.updBuf = s.img.updBuf ++ leBytes 4 v.toNat ∧
    (s.updData v).img.flash = s.img.flash ∧ (s.updData v).rd F.IMG_UPD_OFF_OFF = (s.rd F.IMG_UPD_OFF_OFF + 4) % 2 ^ 25 := by
  unfold State.updData
  rw [if_neg (not_not_intro takes)]
  extract_lets _ u
  obtain ⟨job, jobs, starts⟩ := (u.wr F.IMG_UPD_OFF_OFF (u.rd F.IMG_UPD_OFF_OFF + 4)).nvmStart_img
  rw [starts, State.nvmStart_rd (by decide) (by decide), u.rd_wr _ _ (by decide) (by decide)]
  exact ⟨rfl, rfl, rfl⟩

/-! The end of the read-back (R104). -/

theorem State.verifyCause_congr {s v : State} (h : s.img = v.img) : s.verifyCause = v.verifyCause := by
  unfold State.verifyCause State.inactiveBank
  rw [h]

theorem State.verifyDone_eq (verifies : s.rd F.IMG_UPD_STAT_STATE = 2) (err : Bool) : s.verifyDone err =
    let c := if err then 12 else s.verifyCause
    if c = 0 then s.updState 3 (s.rd F.IMG_UPD_OFF_OFF) else s.updFail c := if_neg (not_not_intro verifies)

theorem State.verifyDone_passes (verifies : s.rd F.IMG_UPD_STAT_STATE = 2) (sound : s.verifyCause = 0) :
    s.verifyDone false = s.updState 3 (s.rd F.IMG_UPD_OFF_OFF) := by
  rw [State.verifyDone_eq verifies, sound]
  rfl

theorem State.verifyDone_fails {err : Bool} (verifies : s.rd F.IMG_UPD_STAT_STATE = 2) (bad : err = true ∨ s.verifyCause ≠ 0) :
    s.verifyDone err = s.updFail (if err then 12 else s.verifyCause) := by
  have failed : (if err then 12 else s.verifyCause) ≠ 0 := by
    split
    · decide
    · exact bad.resolve_left ‹_›
  exact (State.verifyDone_eq verifies err).trans (if_neg failed)

end

section
variable {s : State} (t : Nat) (alive : s.alive = true)
include alive

theorem exec_updStart : exec (.updStart t) s = .next ((s.tick t).updCmd 1) := State.live_alive t (fun s => s.updCmd 1) alive
theorem exec_updVerify : exec (.updVerify t) s = .next ((s.tick t).updCmd 2) := State.live_alive t (fun s => s.updCmd 2) alive
theorem exec_updCommit : exec (.updCommit t) s = .next ((s.tick t).updCmd 3) := State.live_alive t (fun s => s.updCmd 3) alive
theorem exec_updAbort : exec (.updAbort t) s = .next ((s.tick t).updCmd 4) := State.live_alive t (fun s => s.updCmd 4) alive
theorem exec_updData (v : Word) : exec (.updData t v) s = .next ((s.tick t).updData v) := State.live_alive t (fun s => s.updData v) alive

theorem exec_updLenWrite (v : Word) : exec (.updLenWrite t v) s = .next ((s.tick t).updLen v 0xFFFFFFFF) :=
  State.live_alive t (fun s => s.updLen v 0xFFFFFFFF) alive

theorem exec_updVerifyDone (err : Bool) : exec (.updVerifyDone t err) s = .next ((s.tick t).verifyDone err) :=
  State.live_alive t (fun s => s.verifyDone err) alive

end

end Sys2Proof.Machine

namespace Sys2Proof.Proofs

open Machine Safety Claims

/-- A part of `firmwareUpdate`. -/
theorem updateCommands : Claims.UpdateCommands := by
  intro s t alive
  rw [exec_updStart t alive, exec_updVerify t alive, exec_updCommit t alive, exec_updAbort t alive]
  refine ⟨fun state len => ?_, fun state all held => ?_, fun state => ?_, fun state => ?_, fun other => ?_, fun other => ?_, fun other => ?_,
    fun other => ?_⟩
  · rw [State.updCmd_start (s := s.tick t) (State.updTakes_start.mpr ⟨state, len⟩)]
    exact ⟨_, rfl, (s.tick t).updStart_begins⟩
  · exact congrArg _ (State.updCmd_verify (s := s.tick t) (State.updTakes_verify.mpr ⟨state, all, held⟩))
  · rw [State.updCmd_commit (s := s.tick t) (State.updTakes_commit.mpr state)]
    obtain ⟨flash, four, work⟩ := (s.tick t).updCommit_queues
    exact ⟨_, rfl, flash, ⟨_, work, rfl, rfl⟩, four⟩
  · exact congrArg _ (State.updCmd_abort (s := s.tick t) (State.updTakes_abort.mpr state))
  · exact congrArg _ (State.updCmd_refused (s := s.tick t) (mt State.updTakes_start.mp other))
  · exact congrArg _ (State.updCmd_refused (s := s.tick t) (mt State.updTakes_verify.mp other))
  · exact congrArg _ (State.updCmd_refused (s := s.tick t) (mt State.updTakes_commit.mp other))
  · exact congrArg _ (State.updCmd_refused (s := s.tick t) (mt State.updTakes_abort.mp other))

/-- A part of `firmwareUpdate`. -/
theorem updateData : Claims.UpdateData := by
  intro s t v err alive
  have cause : (s.tick t).verifyCause = s.verifyCause := State.verifyCause_congr rfl
  rw [exec_updData t alive, exec_updLenWrite t alive, exec_updVerifyDone t alive]
  refine ⟨fun state below room => ?_, fun other => ?_, rfl, fun state read sound => ?_, fun state bad => ?_⟩
  · obtain ⟨buf, flash, off⟩ := State.updData_appends (s := s.tick t) v (State.updDataTakes_iff.mpr ⟨state, below, room⟩)
    exact ⟨_, rfl, buf, flash, fun fits => off.trans (Nat.mod_eq_of_lt fits)⟩
  · refine congrArg _ (State.updData_refused (s := s.tick t) v (mt State.updDataTakes_iff.mp ?_))
    rintro ⟨state, below, room⟩
    rcases other with h | h | h
    · exact h state
    · exact Nat.not_lt.mpr h below
    · exact Nat.not_lt.mpr room h
  · rw [read]
    exact congrArg _ (State.verifyDone_passes (s := s.tick t) state (cause.trans sound))
  · rw [← cause] at bad ⊢
    exact congrArg _ (State.verifyDone_fails (s := s.tick t) state bad)

/-- Settles O13. -/
theorem firmwareUpdate : Obligations.FirmwareUpdate := ⟨updateCommands, updateData⟩

end Sys2Proof.Proofs

namespace Sys2Proof.Machine

open Safety Claims

/-! What the sequencer stores (R100, R107, R108): only an operation that completes changes the flash or the OTP. -/

/-- The flash, the OTP, and whether an erase is told to suspend. -/
def State.stored (s : State) : ByteMem × Otp × Bool := (s.img.flash, s.img.otp, s.img.suspend)

theorem State.wr_stored (s : State) (f : Fld) (v : Nat) : (s.wr f v).stored = s.stored := rfl

theorem State.raise_stored (s : State) (code block arg0 arg1 : Nat) : (s.raise code block arg0 arg1).stored = s.stored := rfl

theorem State.withWork_stored (s : State) (job : Option NvmJob) (jobs : List NvmJob) :
    State.stored { s with img := { s.img with job := job, jobs := jobs } } = s.stored := rfl

theorem State.showNvm_evt (s : State) : s.showNvm.evt = s.evt := show s.showNvm.offLive.evt = s.offLive.evt by rw [s.showNvm_offLive]

theorem State.stored_of_img {s v : State} (h : s.img = v.img) : s.stored = v.stored := congrArg (fun i : ImgSt => (i.flash, i.otp, i.suspend)) h

theorem State.showNvm_stored (s : State) : s.showNvm.stored = s.stored := State.stored_of_img s.showNvm_img

theorem State.nvmStart_stored (s : State) : s.nvmStart.stored = s.stored := by
  obtain ⟨job, jobs, starts⟩ := s.nvmStart_img
  unfold State.stored
  rw [starts]

theorem State.updState_stored (s : State) (st arg1 : Nat) : (s.updState st arg1).stored = s.stored := State.stored_of_img (s.updState_img st arg1)

theorem State.updFail_stored (s : State) (cause : Nat) : (s.updFail cause).stored = s.stored := State.updState_stored ..

theorem State.withStaging_stored (s : State) (buf : List Byte) (done : Nat) :
    State.stored { s with img := { s.img with updBuf := buf, updDone := done } } = s.stored := rfl

theorem State.nvmProgress_stored (s : State) (who : NvmWho) (o : NvmOp) : (s.nvmProgress who o).stored = s.stored := by
  unfold State.nvmProgress
  split
  · split
    · rfl
    · split
      · exact State.wr_stored ..
      · exact State.withStaging_stored ..
  · rfl

theorem State.withMgmt_stored (s : State) (m : MgmtSt) : State.stored { s with mgmt := m } = s.stored := rfl

theorem State.withTorn_stored (s : State) (torn : Nat) : State.stored { s with img := { s.img with torn := torn } } = s.stored := rfl

theorem State.nvmFinish_stored (s : State) (who : NvmWho) : (s.nvmFinish who).stored = s.stored := by
  cases who with
  | commit sq bank =>
    exact (State.updState_stored ..).trans ((State.withTorn_stored ..).trans ((State.wr_stored ..).trans ((State.wr_stored ..).trans (State.raise_stored ..))))
  | log first count => exact (State.withMgmt_stored ..).trans ((State.wr_stored ..).trans (State.wr_stored ..))
  | cal c sq => exact State.raise_stored ..
  | otp => exact State.raise_stored ..
  | redo => exact State.wr_stored ..
  | save | orphan | update g => rfl

theorem State.relog_stored (s : State) (j : NvmJob) (i off : Nat) : (s.relog j i off).stored = s.stored := rfl

theorem State.nvmGiveUp_stored (s : State) (j : NvmJob) : (s.nvmGiveUp j).stored = s.stored := by
  unfold State.nvmGiveUp
  cases j.who with
  | commit sq bank => exact State.updFail_stored ..
  | update g =>
    dsimp only
    split
    · exact State.updFail_stored ..
    · rfl
  | log first count => exact (State.relog_stored ..).trans (State.withMgmt_stored ..)
  | cal c sq => exact State.withWork_stored s s.img.job _
  | redo => exact State.wr_stored ..
  | save | orphan | otp => rfl

/-! An operation completes (R107). -/

section
variable {s : State} {j : NvmJob} {o : NvmOp} {rest : List NvmOp}

/-- The state with the operation done and its work moved on. -/
def State.opStored (s : State) (j : NvmJob) (o : NvmOp) : State :=
  ((State.wr { s with img := s.img.applied o } F.IMG_NVM_STAT_SUSPENDED 0).nvmProgress j.who o)

theorem State.opStored_stored (s : State) (j : NvmJob) (o : NvmOp) : (s.opStored j o).stored = (o.apply s.img.flash, s.img.otp.program o, false) :=
  State.nvmProgress_stored ..

theorem State.nvmDone_last (job : s.img.job = some j) (ops : j.ops = [o]) : s.nvmDone true =
    ((State.showNvm { s.opStored j o with img := { (s.opStored j o).img with job := none } }).nvmFinish j.who).nvmStart := by
  unfold State.nvmDone
  rw [job]
  dsimp only
  rw [ops]
  rfl

theorem State.nvmDone_more (job : s.img.job = some j) (ops : j.ops = o :: rest) (more : rest ≠ []) : s.nvmDone true =
    (State.showNvm { s.opStored j o with img := { (s.opStored j o).img with
      job := none, jobs := { j with ops := rest, retry := false } :: (s.opStored j o).img.jobs } }).nvmStart := by
  obtain ⟨p, q, rfl⟩ := List.exists_cons_of_ne_nil more
  unfold State.nvmDone
  rw [job]
  dsimp only
  rw [ops]
  rfl

/-- An operation that completes takes effect on the flash and the OTP, and on nothing else that is stored. -/
theorem State.nvmDone_stored (job : s.img.job = some j) (ops : j.ops = o :: rest) :
    (s.nvmDone true).stored = (o.apply s.img.flash, s.img.otp.program o, false) := by
  refine Eq.trans ?_ (s.opStored_stored j o)
  cases rest with
  | nil =>
    rw [State.nvmDone_last job ops]
    exact (State.nvmStart_stored _).trans ((State.nvmFinish_stored ..).trans ((State.showNvm_stored _).trans (State.withWork_stored _ none _)))
  | cons p q =>
    rw [State.nvmDone_more job ops (List.cons_ne_nil p q)]
    exact (State.nvmStart_stored _).trans ((State.showNvm_stored _).trans (State.withWork_stored ..))

/-- A work with operations left goes on with them. -/
theorem State.nvmDone_goesOn (job : s.img.job = some j) (ops : j.ops = o :: rest) (more : rest ≠ []) (other : j.who ≠ .save) :
    (s.nvmDone true).img.job = some { j with ops := rest, retry := false } ∨ { j with ops := rest, retry := false } ∈ (s.nvmDone true).img.jobs := by
  rw [State.nvmDone_more job ops more]
  refine State.nvmStart_mem ?_ other
  rw [State.showNvm_img]
  exact List.mem_cons_self ..

/-! An operation fails (R107, R108). -/

theorem State.nvmDone_fails (job : s.img.job = some j) (ops : j.ops = o :: rest) : s.nvmDone false = s.nvmFailed j o := by
  unfold State.nvmDone
  rw [job]
  dsimp only
  rw [ops]
  rfl

/-- The state with the failure noted. -/
def State.opFailed (s : State) (o : NvmOp) : State :=
  State.wr { s.raise 0x306 bIMG o.kind o.addr with img := { s.img with suspend := false } } F.IMG_NVM_STAT_SUSPENDED 0

/-- Without a brace a first failure has the operation tried again at once. -/
theorem State.nvmFailed_again (first : j.retry = false) (calm : s.pwr.brace = none) (run : s.pwr.phase = .run) :
    s.nvmFailed j o = { (s.raise 0x306 bIMG o.kind o.addr).wr F.IMG_NVM_STAT_SUSPENDED 0 with
      img := { s.img with job := some { j with retry := true }, suspend := false } } := by
  unfold State.nvmFailed
  rw [if_neg (by simp [first])]
  exact if_neg (fun held => held.elim (by simp [calm]) (fun phase => phase run))

/-- During a brace, and in reset, a first failure has the work wait at the head of the queue (R108). -/
theorem State.nvmFailed_waits (first : j.retry = false) (held : s.pwr.brace.isSome = true ∨ s.pwr.phase ≠ .run) :
    s.nvmFailed j o = State.showNvm { s.opFailed o with
      img := { (s.opFailed o).img with job := none, jobs := { j with retry := true } :: s.img.jobs } } := by
  unfold State.nvmFailed
  rw [if_neg (by simp [first])]
  exact if_pos held

/-- A second failure ends the work. -/
theorem State.nvmFailed_givesUp (second : j.retry = true) : s.nvmFailed j o =
    ((State.showNvm { s.opFailed o with img := { (s.opFailed o).img with job := none } }).nvmGiveUp j).nvmStart := by
  unfold State.nvmFailed
  exact if_pos second

theorem State.nvmFailed_stored (second : j.retry = true) : (s.nvmFailed j o).stored = (s.img.flash, s.img.otp, false) := by
  rw [State.nvmFailed_givesUp second]
  exact (State.nvmStart_stored _).trans ((State.nvmGiveUp_stored ..).trans (State.showNvm_stored _))

/-- A calibration save that fails twice goes on in the other copy (R109). -/
theorem State.nvmFailed_otherCopy {c sq : Nat} (second : j.retry = true) (save : j.who = .cal c sq) :
    calJobOf (1 - c) sq j.data ∈ (s.nvmFailed j o).img.jobs ∨ (s.nvmFailed j o).img.job = some (calJobOf (1 - c) sq j.data) := by
  rw [State.nvmFailed_givesUp second]
  refine (State.nvmStart_mem ?_ (by simp [calJobOf])).symm
  unfold State.nvmGiveUp
  rw [save]
  exact List.mem_cons_self ..

theorem State.nvmTimeout_read (job : s.img.job = some j) (ops : j.ops = o :: rest) (read : o.kind = 1) : s.nvmTimeout = s := by
  obtain ⟨who, _, retry, data⟩ := j
  cases ops
  unfold State.nvmTimeout
  rw [job]
  exact if_pos read

/-- An operation of another kind that exceeds its time has failed. -/
theorem State.nvmTimeout_fails (job : s.img.job = some j) (ops : j.ops = o :: rest) (write : o.kind ≠ 1) : s.nvmTimeout = s.nvmFailed j o := by
  refine Eq.trans ?_ (State.nvmDone_fails job ops)
  obtain ⟨who, _, retry, data⟩ := j
  cases ops
  unfold State.nvmTimeout
  rw [job]
  exact if_neg write

/-! An erase suspends (R108). -/

theorem State.nvmSuspended_none (none : s.img.suspend = false) : s.nvmSuspended = s := if_neg (by simp [none])

theorem State.nvmSuspended_braced (told : s.img.suspend = true) (braced : s.pwr.brace.isSome = true) :
    s.nvmSuspended = s.wr F.IMG_NVM_STAT_SUSPENDED 1 := by
  unfold State.nvmSuspended
  rw [if_pos told]
  exact if_pos braced

/-- A suspension that comes after the brace is over at once. -/
theorem State.nvmSuspended_late (told : s.img.suspend = true) (calm : s.pwr.brace = none) :
    s.nvmSuspended.img.suspend = false ∧ s.nvmSuspended.rd F.IMG_NVM_STAT_SUSPENDED = 0 := by
  unfold State.nvmSuspended
  rw [if_pos told]
  extract_lets v
  have shown : v.rd F.IMG_NVM_STAT_SUSPENDED = 1 := s.rd_wr _ _ (by decide) (by decide)
  rw [if_neg (by simp [v, calm])]
  unfold State.nvmResume
  rw [if_pos ⟨told, shown⟩]
  exact ⟨rfl, v.rd_wr _ _ (by decide) (by decide)⟩

/-! A calibration save (R109). -/

theorem State.run_of_alive (alive : s.alive = true) : s.pwr.phase = .run := by simpa [State.running] using State.running_of_alive alive

/-- The work that a save asks for: the contents are taken now, the copy and its SEQ when it starts. -/
def State.saveWork (s : State) : NvmJob := { who := .save, ops := [], retry := false, data := calContents s.calTables }

theorem State.calSave_asks {v : Nat} (save : bitAt v 0 = true) : s.calSave v = s.nvmQueue s.saveWork := if_neg (not_not_intro save)

theorem State.calSave_ignored {v : Nat} (none : bitAt v 0 = false) : s.calSave v = s := if_pos (by simp [none])

theorem State.nvmStart_busy (busy : s.img.job.isSome = true ∨ s.pwr.brace.isSome = true) : s.nvmStart = s :=
  if_pos (busy.elim .inl (fun braced => .inr (.inl braced)))

theorem State.nvmQueue_busy (j : NvmJob) (busy : s.img.job.isSome = true ∨ s.pwr.brace.isSome = true) : (s.nvmQueue j).img.jobs = s.img.jobs ++ [j] :=
  congrArg (fun v => v.img.jobs) (State.nvmStart_busy (s := { s with img := { s.img with jobs := s.img.jobs ++ [j] } }) busy)

/-- A sequencer that is free starts the work asked for. -/
theorem State.nvmQueue_free (j : NvmJob) (idle : s.img.job = none) (empty : s.img.jobs = []) (calm : s.pwr.brace = none) (run : s.pwr.phase = .run)
    (works : s.img.load ≠ .imageFail) : (s.nvmQueue j).img.job = some (j.start s.img.flash) := by
  unfold State.nvmQueue State.nvmStart
  rw [empty, if_neg (by simp [idle, calm, run, works])]
  dsimp only [List.nil_append, pickJob]
  rw [State.showNvm_img]

theorem calSaveJob_data (m : ByteMem) (d : List Byte) : (calSaveJob m d).data = d := by
  unfold calSaveJob
  split <;> rfl

/-- The copy that is not the latest is written, with the next SEQ. -/
theorem calSaveJob_who (m : ByteMem) (d : List Byte) : (calSaveJob m d).who = match latestCal m with
    | none => .cal 0 0
    | some (c, sq, _) => .cal (1 - c) (poundAdd sq 1) := by
  unfold calSaveJob
  cases latestCal m <;> rfl

end

/-! The commands. -/

theorem exec_nvmOpTimeout (s : State) (t : Nat) : exec (.nvmOpTimeout t) s = .next (s.tick t).recordsRun.nvmTimeout.recordsRun.flashFree := rfl

section
variable {s : State} (t : Nat) (alive : s.alive = true)
include alive

theorem exec_eraseSuspended : exec (.eraseSuspended t) s = .next (s.tick t).recordsRun.nvmSuspended.recordsRun :=
  State.live_amidRecords t State.nvmSuspended alive

theorem exec_calSave (v : Word) : exec (.calSave t v) s = .next ((s.tick t).calSave v.toNat) :=
  State.live_alive t (fun s => s.calSave v.toNat) alive

end

end Sys2Proof.Machine

namespace Sys2Proof.Proofs

open Machine Safety Claims

/-- A part of `flashJobs`. -/
theorem flashOperations : Claims.FlashOperations := by
  intro s t j o rest r job ops
  have done : (r.nvmDone true).stored = _ := State.nvmDone_stored job ops
  have fails : r.nvmDone false = r.nvmFailed j o := State.nvmDone_fails job ops
  simp only [State.stored, Prod.mk.injEq] at done
  obtain ⟨flash, otp, resumed⟩ := done
  refine ⟨⟨r.nvmDone true, rfl, flash, resumed, otp, fun more other => ⟨_, State.nvmDone_goesOn job ops more other, rfl, rfl⟩⟩,
    fun first calm run => ⟨r.nvmDone false, rfl, ?_⟩, fun first held => ⟨r.nvmDone false, rfl, ?_⟩, fun second => ⟨r.nvmDone false, rfl, ?_⟩,
    fun read => ?_, fun write first calm run => ?_, fun write second => ⟨r.nvmTimeout, rfl, ?_⟩⟩
  · rw [fails, State.nvmFailed_again first calm run]
    exact ⟨rfl, rfl⟩
  · rw [fails, State.nvmFailed_waits first held]
    exact ⟨State.showNvm_img _, State.showNvm_evt _⟩
  · have given : (r.nvmFailed j o).stored = _ := State.nvmFailed_stored second
    simp only [State.stored, Prod.mk.injEq] at given
    rw [fails]
    exact ⟨given.1, given.2.1, fun c sq save => State.nvmFailed_otherCopy second save⟩
  · rw [exec_nvmOpTimeout, State.nvmTimeout_read job ops read]
  · rw [exec_nvmOpTimeout, State.nvmTimeout_fails job ops write, State.nvmFailed_again first calm run]
  · have given : (r.nvmFailed j o).stored = _ := State.nvmFailed_stored second
    simp only [State.stored, Prod.mk.injEq] at given
    rw [State.nvmTimeout_fails job ops write]
    exact ⟨given.1, given.2.1⟩

/-- A part of `flashJobs`. -/
theorem suspendAndCalSave : Claims.SuspendAndCalSave := by
  intro s t v alive r
  rw [exec_eraseSuspended t alive, exec_calSave t alive]
  refine ⟨fun told braced => ?_, fun told calm => ⟨r.nvmSuspended, rfl, State.nvmSuspended_late told calm⟩, fun none => ?_, fun save => ?_, fun none => ?_⟩
  · rw [State.nvmSuspended_braced (s := r) told braced]
  · rw [State.nvmSuspended_none (s := r) none]
  · rw [State.calSave_asks (s := s.tick t) save]
    refine ⟨_, rfl, State.nvmQueue_flash .., fun idle empty calm works => ⟨_, State.nvmQueue_free _ idle empty calm ?_ works, ?_, ?_⟩,
      fun busy => ⟨(s.tick t).saveWork, ?_, rfl, rfl⟩⟩
    · exact State.run_of_alive (s := s) alive
    · exact calSaveJob_data ..
    · exact calSaveJob_who ..
    · rw [State.nvmQueue_busy (s := s.tick t) _ busy]
      simp
  · exact congrArg _ (State.calSave_ignored (s := s.tick t) none)

/-- Settles O14. -/
theorem flashJobs : Obligations.FlashJobs := ⟨flashOperations, suspendAndCalSave⟩

end Sys2Proof.Proofs

namespace Sys2Proof.Machine

open Safety Claims

/-! A bank fails (R92): what the loader then holds, read off its own state alone. -/

/-- The loader without the image of the bank that failed. -/
def ImgSt.unloaded (i : ImgSt) : ImgSt := { i with hdr := ImgHeader.reset, manifest := [], tables := [], recs := none }

/-- The loader in image-fail. -/
def ImgSt.failed (i : ImgSt) : ImgSt := { i with load := .imageFail, job := none, jobs := [], suspend := false }

/-- The loader turned to its second bank. -/
def ImgSt.turned (i : ImgSt) : ImgSt := { i with bank := 1 - i.bank, second := true, load := .header }

/-- The loader after the bank it tries has failed: the other bank, or, where there is none left or it is marked, image-fail. -/
def ImgSt.afterFail (i : ImgSt) : ImgSt :=
  if i.second then i.unloaded.failed else if bitAt i.marks (1 - i.bank) then i.unloaded.turned.failed else i.unloaded.turned

theorem State.noteFail_img (s : State) (bank cause : Nat) : (s.noteFail bank cause).img = s.img := (State.raise_img ..).trans (State.wr_img ..)

theorem State.imageFail_img (s : State) : s.imageFail.img = s.img.failed := State.showNvm_img _

theorem State.secondBank_img (s : State) :
    s.secondBank.img = if bitAt s.img.marks (1 - s.img.bank) then s.img.turned.failed else s.img.turned := by
  unfold State.secondBank
  extract_lets b _ v w
  have turned : w.img = s.img.turned := v.wr_img ..
  clear_value w
  rw [apply_ite State.img, State.imageFail_img, State.noteFail_img, turned]
  rfl

theorem State.failBank_img (s : State) (cause : Nat) : (s.failBank cause).img = s.img.afterFail := by
  unfold State.failBank ImgSt.afterFail
  extract_lets v
  have unloaded : v.img = s.img.unloaded := s.unload.noteFail_img ..
  clear_value v
  rw [apply_ite State.img, State.imageFail_img, State.secondBank_img, unloaded]
  rfl

theorem ImgSt.afterFail_keeps (i : ImgSt) : i.afterFail.flash = i.flash ∧ i.afterFail.otp = i.otp ∧ i.afterFail.manifest = [] := by
  unfold ImgSt.afterFail
  (repeat' split) <;> exact ⟨rfl, rfl, rfl⟩

theorem ImgSt.afterFail_load (i : ImgSt) :
    i.afterFail.load = if i.second || bitAt i.marks (1 - i.bank) then .imageFail else .header := by
  unfold ImgSt.afterFail
  cases i.second <;> cases bitAt i.marks (1 - i.bank) <;> rfl

/-- The failed load is in none of the passes. -/
theorem ImgSt.afterFail_noPass (i : ImgSt) : i.afterFail.load ≠ .pass2 := by
  rw [i.afterFail_load]
  split <;> nofun

theorem ImgSt.afterFail_turns {i : ImgSt} (first : i.second = false) : i.afterFail.bank = 1 - i.bank ∧ i.afterFail.second = true := by
  unfold ImgSt.afterFail
  rw [if_neg (by simp [first])]
  split <;> exact ⟨rfl, rfl⟩

/-- The commit store after a failed bank is that of a reset (R92). -/
theorem State.failBank_banks (s : State) (cause : Nat) :
    (s.failBank cause).led.bank0 = LedSt.reset.bank0 ∧ (s.failBank cause).led.bank1 = LedSt.reset.bank1 := by
  have undone : (s.failBank cause).kept = s.unload.kept := by
    unfold State.failBank
    exact State.ite_kept ((State.imageFail_kept _).trans (State.noteFail_kept ..)) ((State.secondBank_kept _).trans (State.noteFail_kept ..))
  exact ⟨congrArg Kept.bank0 undone, congrArg Kept.bank1 undone⟩

/-! The header (R87, R93, R94). -/

section
variable {s : State}

/-- A header is refused for a cause of its own, a lost update, or DQS failures. -/
theorem State.dqsCause_tornCause (s : State) (cause dqs : Nat) :
    dqsCause (s.tornCause cause) dqs = 0 ↔ ¬ (cause ≠ 0 ∨ bitAt s.img.torn s.img.bank = true ∨ 2 ≤ dqs) := by
  unfold dqsCause State.tornCause
  by_cases none : cause = 0
  · by_cases torn : bitAt s.img.torn s.img.bank = true
    · simp [none, torn]
    · by_cases many : 2 ≤ dqs <;> simp [none, torn, many]
  · simp [none]

theorem State.flightKick_img (s : State) : s.flightKick.img = s.img := rfl

theorem State.reqUp_img (s : State) (d : Nat) : (s.reqUp d).img = s.img := rfl

theorem State.flightBegin_img (s : State) : s.flightBegin.img = s.img :=
  (State.flightKick_img _).trans (State.each_proj State.img _ State.reqUp_img _ s)

/-- The header of the bank that is tried. -/
def State.headerBytes (s : State) : List Byte := flashBytes s.img.flash (bankBase s.img.bank) 256

variable {dqs : Nat} (header : s.img.load = .header)
include header

theorem State.headerRead_eq : s.headerRead dqs =
    (s.bootStep 3).headerChecked (dqsCause ((s.bootStep 3).tornCause (headerCause s.headerBytes)) dqs) (parseHeader s.headerBytes) dqs := by
  unfold State.headerRead State.headerBytes
  rw [if_neg (not_not_intro header)]
  extract_lets v b
  simp only [b, v, State.bootStep_img]

theorem State.headerRead_bad (bad : headerCause s.headerBytes ≠ 0 ∨ bitAt s.img.torn s.img.bank = true ∨ 2 ≤ dqs) :
    (s.headerRead dqs).img = s.img.afterFail := by
  have sound := (s.bootStep 3).dqsCause_tornCause (headerCause s.headerBytes) dqs
  rw [s.bootStep_img] at sound
  rw [State.headerRead_eq header]
  unfold State.headerChecked
  rw [if_pos (fun none => sound.mp none bad), State.failBank_img, s.bootStep_img]

theorem State.headerRead_good (good : ¬ (headerCause s.headerBytes ≠ 0 ∨ bitAt s.img.torn s.img.bank = true ∨ 2 ≤ dqs)) :
    (s.headerRead dqs).img =
      { s.img with hdr := parseHeader s.headerBytes, load := .pass1, bus := s.img.bus.enter (parseHeader s.headerBytes) dqs } := by
  have sound := (s.bootStep 3).dqsCause_tornCause (headerCause s.headerBytes) dqs
  rw [s.bootStep_img] at sound
  rw [State.headerRead_eq header, sound.mpr good]
  unfold State.headerChecked
  rw [if_neg (by simp), State.bootStep_img, State.flightBegin_img, State.bootStep_img]
  unfold State.takeHeader
  rw [s.bootStep_img]

end

/-! The first pass (R95, R96, R99, R100). -/

section
variable {s : State}

/-- The signature stands: steps 6 and 7 are reached, and the records fill the commit store anew (R40). -/
def State.signed (s : State) : State :=
  let v := ((s.bootStep 6).raise 0x302 bIMG s.img.bank s.img.hdr.version).bootStep 7
  { v with led := { v.led with kept := none } }

/-- The records of the bank that is tried. -/
def State.recordArea (s : State) : List Byte := flashBytes s.img.flash (bankBase s.img.bank + s.img.hdr.recOff) s.img.hdr.recLen

/-- The records from `b` on, which the loader reaches at `at_`: what they leave, and where they end. -/
def State.recordsFrom (s : State) (b : List Byte) (at_ : Nat) : State × RecEnd :=
  State.records (b.length / 16 + 1) b at_ { s with img := { s.img with load := .pass1, recs := none } }

theorem State.runRecords_eq (s : State) (b : List Byte) (at_ : Nat) :
    s.runRecords b at_ = (s.recordsFrom b at_).1.recordsEnd (s.recordsFrom b at_).2 := rfl

theorem State.withLed_img (s : State) (l : LedSt) : State.img { s with led := l } = s.img := rfl

theorem State.signed_img (s : State) : s.signed.img = s.img :=
  (State.withLed_img ..).trans ((State.bootStep_img _ 7).trans ((State.raise_img ..).trans (s.bootStep_img 6)))

theorem State.firstPass_signed (pass : s.img.load = .pass1) (sound : s.img.signatureCause s.img.bank s.img.hdr = 0) :
    s.firstPass = s.signed.runRecords s.recordArea s.signed.clk.now := by
  unfold State.firstPass
  rw [if_neg (not_not_intro pass)]
  extract_lets v cause w x led y b
  have step : v.img = s.img := s.bootStep_img 6
  have good : cause = 0 := by simpa only [cause, step] using sound
  have signed : y = s.signed := by simp only [y, led, x, w, step, State.signed, v]
  have area : b = s.recordArea := by simp only [b, signed, s.signed_img, State.recordArea]
  clear_value b y cause
  rw [if_neg (not_not_intro good), area, signed]

theorem State.firstPass_unsigned (pass : s.img.load = .pass1) (bad : s.img.signatureCause s.img.bank s.img.hdr ≠ 0) :
    s.firstPass = (s.bootStep 6).failBank (s.img.signatureCause s.img.bank s.img.hdr) := by
  unfold State.firstPass
  rw [if_neg (not_not_intro pass)]
  extract_lets v cause
  have step : v.img = s.img := s.bootStep_img 6
  have same : cause = s.img.signatureCause s.img.bank s.img.hdr := by simp only [cause, step]
  clear_value cause
  exact (if_pos (same ▸ bad)).trans (congrArg v.failBank same)

/-! The second pass (R97, R98, R103). -/

theorem State.secondPass_waits (pass : s.img.load = .pass2) (waits : s.recordsRun.img.load ≠ .pass2 ∨ s.recordsRun.img.recs.isSome = true)
    (same : Bool) : s.secondPass same = s.recordsRun := by
  unfold State.secondPass
  rw [if_neg (not_not_intro pass)]
  exact if_pos waits

theorem State.secondPass_sound {tables : List ((Nat × Nat) × List Byte)} {man : List (Nat × Nat)} (pass : s.img.load = .pass2)
    (ended : s.img.recs = none) (read : s.img.bankTables s.img.bank s.img.hdr = some tables) (apart : s.cset.camShare tables = false)
    (lists : s.img.bankManifest s.img.bank s.img.hdr = some man) (same : Bool) :
    s.secondPass same = if same then s.acceptImage tables man else s.digestDiffers := by
  unfold State.secondPass
  rw [if_neg (not_not_intro pass), State.recordsRun_none ended]
  dsimp only
  rw [if_neg (by simp [pass, ended]), read]
  dsimp only
  rw [if_neg (by simp [apart]), lists]

end

/-! What step 8 of the boot begins leaves the loader and the power state alone (R102). -/

/-- The loader and the power state. -/
def State.imgPwr (s : State) : ImgSt × PwrSt := (s.img, s.pwr)

theorem State.wr_imgPwr (s : State) (f : Fld) (v : Nat) : (s.wr f v).imgPwr = s.imgPwr := rfl

theorem State.raise_imgPwr (s : State) (code block arg0 arg1 : Nat) : (s.raise code block arg0 arg1).imgPwr = s.imgPwr := rfl

theorem State.modLane_imgPwr (s : State) (n : Nat) (f : LaneSt → LaneSt) : (s.modLane n f).imgPwr = s.imgPwr := rfl

theorem State.setLock_imgPwr (s : State) (n v : Nat) : (s.setLock n v).imgPwr = s.imgPwr := by
  unfold State.setLock
  (repeat' split) <;> simp only [State.wr_imgPwr]

theorem State.showRx_imgPwr (s : State) (n st fom : Nat) (e : RxEq) : (s.showRx n st fom e).imgPwr = s.imgPwr := by
  unfold State.showRx
  extract_lets v
  have lane : v.imgPwr = s.imgPwr := s.modLane_imgPwr ..
  clear_value v
  split <;> simp only [State.showLane, State.wr_imgPwr, lane]

theorem State.rxStart_imgPwr (s : State) (n : Nat) : (s.rxStart n).imgPwr = s.imgPwr := by
  unfold State.rxStart
  extract_lets seed e v
  exact (State.modLane_imgPwr ..).trans ((State.setLock_imgPwr ..).trans (s.showRx_imgPwr ..))

theorem State.portRx_imgPwr (s : State) (x : Nat) : (s.portRx x).imgPwr = s.imgPwr :=
  State.each_proj State.imgPwr State.rxStart State.rxStart_imgPwr _ s

theorem State.withRing_imgPwr (s : State) (r : RingSt) : State.imgPwr { s with ring := r } = s.imgPwr := rfl

theorem State.loopStart_imgPwr (s : State) : s.loopStart.imgPwr = s.imgPwr := by
  unfold State.loopStart
  exact (State.withRing_imgPwr ..).trans ((State.wr_imgPwr ..).trans ((State.portRx_imgPwr ..).trans (s.portRx_imgPwr 0)))

theorem State.withChoices_imgPwr (s : State) (n : Nat) : State.imgPwr { s with choices := n } = s.imgPwr := rfl

theorem State.withPair_imgPwr (s : State) (p : PairSt) : State.imgPwr { s with pair := p } = s.imgPwr := rfl

theorem State.towRx_imgPwr (s : State) : s.towRx.imgPwr = s.imgPwr := by
  unfold State.towRx
  refine (State.each_proj State.imgPwr _ (fun s n => (State.withChoices_imgPwr ..).trans (s.modLane_imgPwr ..)) _ _).trans ?_
  exact (State.withPair_imgPwr ..).trans (State.each_proj State.imgPwr State.rxStart State.rxStart_imgPwr _ s)

theorem State.towMark_imgPwr (s : State) (n : Nat) (x : TowSrc) (keep : Bool) : (s.towMark n x keep).imgPwr = s.imgPwr := State.withPair_imgPwr ..

theorem State.marked_imgPwr (s : State) (n : Nat) (x : State → TowSrc) (c keep : Bool) :
    (s.when c (fun s => s.towMark n (x s) keep)).imgPwr = s.imgPwr := State.when_proj State.imgPwr s c (fun s => s.towMark_imgPwr ..)

theorem State.genStart_imgPwr (s : State) (n : Nat) (c : GenRun) : (s.genStart n c).imgPwr = s.imgPwr := by
  unfold State.genStart
  extract_lets v at_ w _ x
  have marked : v.imgPwr = s.imgPwr := s.marked_imgPwr (n - 56) (fun s => s.towSrc (n - 56)) _ false
  have lane : w.imgPwr = v.imgPwr := v.modLane_imgPwr ..
  have seeded : x.imgPwr = w.imgPwr := by
    simp only [x]
    split
    · exact (State.withChoices_imgPwr ..).trans (w.modLane_imgPwr ..)
    · rfl
  exact (x.rxStart_imgPwr n).trans (seeded.trans (lane.trans marked))

theorem State.genUpdate_imgPwr (s : State) (n : Nat) : (s.genUpdate n).imgPwr = s.imgPwr := by
  have marked := s.marked_imgPwr (n - 56) (fun s => s.towSrc (n - 56)) (decide (56 ≤ n)) false
  unfold State.genUpdate
  extract_lets c v w
  have lane : w.imgPwr = s.imgPwr := (v.modLane_imgPwr ..).trans marked
  clear_value w
  split
  · rfl
  · split
    · exact (w.rxStart_imgPwr n).trans lane
    · exact (w.wr_imgPwr ..).trans lane
  · split
    · split
      · rfl
      · exact (State.modLane_imgPwr ..).trans marked
    · exact s.genStart_imgPwr ..
  · exact s.genStart_imgPwr ..

theorem State.gensFollow_imgPwr (s : State) : s.gensFollow.imgPwr = s.imgPwr :=
  State.each_proj State.imgPwr State.genUpdate State.genUpdate_imgPwr _ s

theorem State.bootStep_imgPwr (s : State) (k : Nat) : (s.bootStep k).imgPwr = s.imgPwr := (State.raise_imgPwr ..).trans (State.wr_imgPwr ..)

theorem State.trainStart_imgPwr (s : State) (seeded : Bool) : (s.trainStart seeded).imgPwr = s.imgPwr := by
  unfold State.trainStart
  exact State.each_proj State.imgPwr (fun s k => s.wr (F.BASIN_TRAINs_STATE k) 1) (fun _ _ => State.wr_imgPwr ..) _ _

theorem State.withPanelTables_imgPwr (s : State) (bounds : List Int) (codes : List (List Nat)) (card : List Byte) :
    (s.withPanelTables bounds codes card).imgPwr = s.imgPwr := by
  unfold State.withPanelTables
  extract_lets v
  have shown : v.imgPwr = s.imgPwr := by
    simp only [v]
    split <;> simp only [State.wr_imgPwr]
  exact shown

theorem State.panelTables_imgPwr (s : State) : s.panelTables.imgPwr = s.imgPwr := State.withPanelTables_imgPwr ..

theorem State.showImage_imgPwr (s : State) (used : Bool) : (s.showImage used).imgPwr = s.imgPwr := by
  unfold State.showImage
  simp only [State.wr_imgPwr]

/-- An accepted image is in use; of the power state it moves RESET_OUT_L alone. -/
theorem State.acceptImage_imgPwr (s : State) (tables : List ((Nat × Nat) × List Byte)) (man : List (Nat × Nat)) :
    (s.acceptImage tables man).imgPwr = (s.withImage (s.img.withCal tables).2 man).imgPwr := by
  unfold State.acceptImage
  extract_lets r v w
  exact (State.gensFollow_imgPwr _).trans ((State.towRx_imgPwr _).trans ((State.loopStart_imgPwr _).trans ((State.bootStep_imgPwr ..).trans
    ((State.trainStart_imgPwr ..).trans ((State.bootStep_imgPwr ..).trans ((State.showImage_imgPwr ..).trans (State.panelTables_imgPwr _)))))))

theorem State.acceptImage_uses (s : State) (tables : List ((Nat × Nat) × List Byte)) (man : List (Nat × Nat)) :
    (s.acceptImage tables man).img.load = .loaded ∧ (s.acceptImage tables man).img.manifest = man ∧
      (s.acceptImage tables man).img.tables = (s.img.withCal tables).2 ∧ (s.acceptImage tables man).pwr.resetOut = false ∧
      (s.acceptImage tables man).img.trained = true := by
  obtain ⟨img, pwr⟩ := Prod.mk.inj (s.acceptImage_imgPwr tables man)
  rw [img, pwr]
  exact ⟨rfl, rfl, rfl, rfl, rfl⟩

/-! Another digest (R103). -/

/-- What a reset makes of the flash does not depend on the marks. -/
theorem ImgSt.nvmReset_marks (i : ImgSt) (marks : Nat) (lost : Bool) :
    (({ i with marks := marks } : ImgSt).nvmReset lost).flash = (i.nvmReset lost).flash := by
  unfold ImgSt.nvmReset
  dsimp only
  split
  · split
    · rfl
    · split <;> rfl
  · rfl

theorem State.digestDiffers_resets (s : State) : s.digestDiffers.pwr.phase = .exitDue ∧ s.digestDiffers.pwr.cold = false ∧
    s.digestDiffers.img.marks = orBit s.img.marks s.img.bank ∧ s.digestDiffers.img.flash = (s.img.nvmReset false).flash := by
  unfold State.digestDiffers
  extract_lets b v _ w
  have img : w.img = { s.img with marks := orBit s.img.marks s.img.bank } :=
    congrArg (fun i : ImgSt => { i with marks := orBit i.marks s.img.bank }) (s.noteFail_img b 11)
  clear_value w
  obtain ⟨live, panel, torn, held, clears⟩ := w.enterReset_eq false false .exitDue
  rw [clears]
  refine ⟨rfl, rfl, congrArg ImgSt.marks img, ?_⟩
  exact (congrArg (fun i : ImgSt => (i.nvmReset false).flash) img).trans (s.img.nvmReset_marks _ _)

/-! Records that wait (R95). -/

section
variable {s : State} {b : List Byte} {till : Nat}

theorem State.recordsRun_pollMet (waits : s.img.recs = some (b, till, true)) (met : s.pollMet b = true) (inTime : s.clk.now ≤ till) :
    s.recordsRun = s.runRecords (b.drop 16) s.clk.now := by
  unfold State.recordsRun
  rw [waits]
  exact if_pos ⟨met, inTime⟩

theorem State.recordsRun_pollLate (waits : s.img.recs = some (b, till, true)) (late : till < s.clk.now) : s.recordsRun = s.failBank 9 := by
  unfold State.recordsRun
  rw [waits]
  exact (if_neg (fun h => Nat.not_le.mpr late h.2)).trans (if_pos late)

theorem State.recordsRun_pollOpen (waits : s.img.recs = some (b, till, true)) (unmet : s.pollMet b = false) (inTime : s.clk.now ≤ till) :
    s.recordsRun = s := by
  unfold State.recordsRun
  rw [waits]
  exact (if_neg (fun h => by simp [unmet] at h)).trans (if_neg (Nat.not_lt.mpr inTime))

theorem State.recordsRun_delayOver (waits : s.img.recs = some (b, till, false)) (passed : till ≤ s.clk.now) : s.recordsRun = s.runRecords b till := by
  unfold State.recordsRun
  rw [waits]
  exact if_pos passed

theorem State.recordsRun_delayed (waits : s.img.recs = some (b, till, false)) (early : s.clk.now < till) : s.recordsRun = s := by
  unfold State.recordsRun
  rw [waits]
  exact if_neg (Nat.not_le.mpr early)

end

section
variable {s : State} (t : Nat) (alive : s.alive = true)
include alive

theorem exec_imageHeaderRead (dqs : Nat) : exec (.imageHeaderRead t dqs) s = .next ((s.tick t).headerRead dqs) :=
  State.live_alive t (fun s => s.headerRead dqs) alive

theorem exec_imageFirstPassDone : exec (.imageFirstPassDone t) s = .next (s.tick t).firstPass := State.live_alive t State.firstPass alive

theorem exec_imageSecondPassDone (same : Bool) : exec (.imageSecondPassDone t same) s = .next ((s.tick t).secondPass same) :=
  State.live_alive t (fun s => s.secondPass same) alive

end

end Sys2Proof.Machine

namespace Sys2Proof.Proofs

open Machine Safety Claims

/-- A part of `imageLoads`. -/
theorem imageHeaderLoads : Claims.ImageHeaderLoads := by
  intro s t dqs alive header b bad
  refine ⟨_, exec_imageHeaderRead t alive dqs, ?_⟩
  by_cases refused : bad
  · have img : ((s.tick t).headerRead dqs).img = s.img.afterFail := State.headerRead_bad (s := s.tick t) header refused
    obtain ⟨flash, otp, -⟩ := s.img.afterFail_keeps
    rw [img]
    refine ⟨fun good => absurd refused good, fun _ second => ?_, fun _ first => ?_, flash, otp⟩
    · rw [s.img.afterFail_load, second]
      rfl
    · obtain ⟨bank, second⟩ := ImgSt.afterFail_turns first
      rw [s.img.afterFail_load, first]
      exact ⟨bank, second, rfl⟩
  · rw [State.headerRead_good (s := s.tick t) header refused]
    exact ⟨fun _ => ⟨rfl, rfl, rfl⟩, fun h => absurd h refused, fun h => absurd h refused, rfl, rfl⟩

/-- A part of `imageLoads`. -/
theorem imagePassesEnd : Claims.ImagePassesEnd := by
  intro s t same alive
  rw [exec_imageFirstPassDone t alive, exec_imageSecondPassDone t alive]
  refine ⟨fun pass sound => ?_, fun pass bad => ⟨_, rfl, ?_⟩, fun tables man pass ended read apart lists => ⟨_, rfl, ?_⟩⟩
  · intro b v r
    have signed : (s.tick t).firstPass = _ := State.firstPass_signed (s := s.tick t) pass sound
    have area : (s.tick t).recordArea = b := by
      unfold State.recordArea
      rw [State.tick_img]
    have reached : (s.tick t).signed = { v with led := { v.led with kept := none } } := by
      unfold State.signed
      rw [State.tick_img]
    have runs : State.recordsFrom { v with led := { v.led with kept := none } } b v.clk.now = r := rfl
    rw [signed, State.runRecords_eq, area, reached, runs]
    clear_value r
    obtain ⟨u, e⟩ := r
    refine ⟨?_, ?_, ?_, ?_, ?_⟩
    · rintro rfl none
      exact congrArg _ (if_neg (by simp [none]))
    · rintro rfl vetoes
      exact congrArg _ (if_pos vetoes)
    · rintro rfl
      rfl
    · rintro rfl
      rfl
    · rintro rest till poll rfl
      rfl
  · have fails : (s.tick t).firstPass = _ := State.firstPass_unsigned (s := s.tick t) pass bad
    have stepped : ((s.tick t).bootStep 6).img = s.img := State.bootStep_img _ 6
    rw [fails]
    generalize (s.tick t).img.signatureCause _ _ = cause
    obtain ⟨bank0, bank1⟩ := ((s.tick t).bootStep 6).failBank_banks cause
    obtain ⟨-, -, manifest⟩ := s.img.afterFail_keeps
    rw [State.failBank_img, stepped]
    exact ⟨manifest, bank0, bank1, s.img.afterFail_load⟩
  · have checks : (s.tick t).secondPass same = _ := State.secondPass_sound (s := s.tick t) pass ended read apart lists same
    rw [checks]
    refine ⟨?_, ?_⟩
    · rintro rfl
      rw [if_pos rfl]
      exact (s.tick t).acceptImage_uses tables man
    · rintro rfl
      rw [if_neg Bool.false_ne_true]
      exact (s.tick t).digestDiffers_resets

/-- A part of `imageLoads`. -/
theorem waitingRecords : Claims.WaitingRecords := by
  intro s t till same poll b alive pass waits v now
  have clock : v.clk.now = now := s.tick_now t
  rw [exec_imageSecondPassDone t alive, ← clock]
  refine ⟨?_, ?_, ?_, ?_, ?_⟩
  · rintro rfl unmet inTime
    have stays : v.recordsRun = v := State.recordsRun_pollOpen waits unmet inTime
    refine congrArg _ ((State.secondPass_waits (s := v) pass ?_ same).trans stays)
    rw [stays]
    exact .inr (Option.isSome_iff_exists.mpr ⟨_, waits⟩)
  · rintro rfl late
    have fails : v.recordsRun = v.failBank 9 := State.recordsRun_pollLate waits late
    refine congrArg _ ((State.secondPass_waits (s := v) pass ?_ same).trans fails)
    rw [fails, v.failBank_img]
    exact .inl v.img.afterFail_noPass
  · rintro rfl met inTime
    exact State.recordsRun_pollMet (s := v) waits met inTime
  · rintro rfl early
    have stays : v.recordsRun = v := State.recordsRun_delayed waits early
    refine congrArg _ ((State.secondPass_waits (s := v) pass ?_ same).trans stays)
    rw [stays]
    exact .inr (Option.isSome_iff_exists.mpr ⟨_, waits⟩)
  · rintro rfl passed
    exact State.recordsRun_delayOver (s := v) waits passed

/-- A part of `imageLoads`. -/
theorem noRecordWaits : Claims.NoRecordWaits := fun _ none => State.recordsRun_none none

/-- Settles O11. The loader after a failed bank (`failBank_img`) and the loader in use (`acceptImage_imgPwr`) do not depend on the rest of the state. -/
theorem imageLoads : Obligations.ImageLoads := ⟨imageHeaderLoads, imagePassesEnd, waitingRecords, noRecordWaits⟩

end Sys2Proof.Proofs

namespace Sys2Proof.Machine

open Safety Claims

/-! Ring ports (R112 to R123). -/

section
variable {s : State} (t : Nat) (alive : s.alive = true)
include alive

theorem exec_ringFrameRx (x : Nat) (f : Frame) : exec (.ringFrameRx t x f) s = .next ((s.tick t).frameRx x f) :=
  State.live_alive t (fun s => s.frameRx x f) alive

theorem exec_txFrameBoundary (x : Nat) :
    exec (.txFrameBoundary t x) s = .next (if x < 2 then ((s.tick t).txBoundary x).encSents else s.tick t) :=
  State.live_alive t (fun s => if x < 2 then (s.txBoundary x).encSents else s) alive

end

/-- The model's change at a place is the library's. -/
theorem modAt_eq_modify {α : Type} (f : α → α) : ∀ (l : List α) (i : Nat), modAt l i f = l.modify i f
  | [], i => by cases i <;> rfl
  | _ :: _, 0 => rfl
  | a :: r, i + 1 => (congrArg (a :: ·) (modAt_eq_modify f r i)).trans (List.modify_succ_cons ..).symm

section
variable {q r : RingSt} {x : Nat} {f : RingPort → RingPort} (changed : q.ports = modAt r.ports x f)
include changed

theorem RingSt.port_changed (held : x < r.ports.length) : q.port x = f (r.port x) := by
  unfold RingSt.port
  rw [changed, modAt_eq_modify, List.getElem?_modify_eq, List.getElem?_eq_getElem held]
  rfl

theorem RingSt.port_other {y : Nat} (other : x ≠ y) : q.port y = r.port y := by
  unfold RingSt.port
  rw [changed, modAt_eq_modify, List.getElem?_modify_ne f r.ports other]

end

/-! Frame boundaries (R118, R120, R122, R154). -/

/-- The ports and the clock: what the choice at a frame boundary and the forwarding of a frame go by. -/
def State.wires (s : State) : List RingPort × Clk := (s.ring.ports, s.clk)

theorem State.encFree_ring (s : State) (atOpen : Bool) (k : Nat) : (s.encFree atOpen k).ring = s.ring := by
  unfold State.encFree
  split
  · rfl
  · exact State.each_proj State.ring (fun s m => s.freeMoor atOpen m) (fun _ _ => rfl) _ s

theorem State.encSent_ring (s : State) (atOpen : Bool) (k : Nat) : (s.encSent atOpen k).ring = s.ring := by
  unfold State.encSent
  split
  · exact s.encFree_ring atOpen k
  · rfl

theorem State.encSents_ring (s : State) : s.encSents.ring = s.ring :=
  State.each_proj State.ring _ (fun s k => s.encSent_ring false k) _ s

theorem State.notePeak_ring (s : State) (y : Nat) : (s.notePeak y).ring = s.ring := rfl

theorem State.noteTc_wires (s : State) (y : Nat) (event done : Bool) : (s.noteTc y event done).wires = s.wires := by
  unfold State.noteTc
  (repeat' split) <;> rfl

theorem State.noteReq_wires (s : State) (y : Nat) (l : LFrame) : (s.noteReq y l).wires = s.wires := by
  unfold State.noteReq
  (repeat' split) <;> rfl

theorem State.incIf_wires (s : State) (c : Prop) [Decidable c] (f : Fld) : (if c then s.inc f else s).wires = s.wires := by
  split <;> rfl

/-- A port whose wire carries the bytes `d`. -/
def RingPort.sending (p : RingPort) (own : Bool) (d : List Byte) (stomp : Bool) (till : Nat) : RingPort :=
  { p with wire := some { own := own, data := d, fcs := fcsOf d stomp }, busy := till }

/-- A transit frame that leaves occupies the wire of its port. -/
theorem State.sendTransit_ports (s : State) (y : Nat) (x : Transit) :
    let d := (leaving x.data (some x.inAt) s.dev).1
    (s.sendTransit y x).ring.ports = modAt s.ring.ports y (fun p => p.sending false d x.stomp (s.clk.now + wireNs (d.length + 4))) := by
  intro d
  obtain ⟨ports, -⟩ := Prod.mk.inj (s.noteTc_wires y (leaving x.data (some x.inAt) s.dev).2.1 (leaving x.data (some x.inAt) s.dev).2.2)
  exact congrArg (fun l => modAt l y _) ports

/-- An own frame that leaves occupies the wire of its port; transit that arrives goes behind the insertion buffer. -/
theorem State.sendOwn_ports (s : State) (y i : Nat) (l : LFrame) :
    (s.sendOwn y i l).ring.ports = modAt s.ring.ports y (fun p =>
      { p.sending true (leaving l.data l.inAt s.dev).1 l.stomp (s.clk.now + wireNs l.len) with
        loc := p.loc.eraseIdx i, ins := p.ins ++ p.arriving, arriving := [] }) := by
  unfold State.sendOwn
  extract_lets v w
  have counted : w.wires = s.wires := (v.incIf_wires _ _).trans (s.noteReq_wires y l)
  have dev : w.dev = s.dev := congrArg (fun x => x.2.devFine / 1000000000) counted
  clear_value w
  rw [dev]
  obtain ⟨d, event, done⟩ := leaving l.data l.inAt s.dev
  obtain ⟨ports, clk⟩ := Prod.mk.inj ((w.noteTc_wires y event done).trans counted)
  have now : (w.noteTc y event done).clk.now = s.clk.now := congrArg Clk.now clk
  dsimp only
  rw [State.notePeak_ring, now]
  exact congrArg (fun l => modAt l y _) ports

/-- What a port holds after a frame boundary with the choice `k`. -/
def RingPort.sent (p : RingPort) (now dev : Nat) : TxPick → RingPort
  | .none => { p with wire := none }
  | .own i l => { p.sending true (leaving l.data l.inAt dev).1 l.stomp (now + wireNs l.len) with
      loc := p.loc.eraseIdx i, ins := p.ins ++ p.arriving, arriving := [] }
  | .buffer x => { p.sending false (leaving x.data (some x.inAt) dev).1 x.stomp (now + wireNs ((leaving x.data (some x.inAt) dev).1.length + 4)) with
      ins := p.ins.drop 1 }
  | .transit x => { p.sending false (leaving x.data (some x.inAt) dev).1 x.stomp (now + wireNs ((leaving x.data (some x.inAt) dev).1.length + 4)) with
      arriving := p.arriving.drop 1 }

theorem modAt_modAt {α : Type} (f g : α → α) (l : List α) (i : Nat) : modAt (modAt l i f) i g = modAt l i (g ∘ f) := by
  simp only [modAt_eq_modify, List.modify_modify_eq]

/-- At a boundary of a free transmitter its port alone changes, by the choice of R122 and R154. -/
theorem State.txBoundary_ports {s : State} {y : Nat} (valid : y < 2) (opened : s.ring.weirOpen = true) (up : (s.ring.port y).link = 2)
    (free : (s.ring.port y).busy ≤ s.clk.now) :
    (s.txBoundary y).ring.ports = modAt s.ring.ports y (fun p =>
      p.sent s.clk.now s.dev ((s.ring.port y).pick s.clk.now s.dev (s.cm F.RING_FAIR_MAX_WAIT))) := by
  unfold State.txBoundary
  dsimp only
  rw [if_neg (by simp only [opened, up, not_true, ne_eq, false_or, not_or]; omega)]
  cases (s.ring.port y).pick s.clk.now s.dev (s.cm F.RING_FAIR_MAX_WAIT) with
  | none => rfl
  | own i l => exact s.sendOwn_ports y i l
  | buffer x => exact (State.sendTransit_ports ..).trans (modAt_modAt ..)
  | transit x => exact (State.sendTransit_ports ..).trans (modAt_modAt ..)

end Sys2Proof.Machine

namespace Sys2Proof.Proofs

open Machine Safety Claims

/-- Settles O16. At a boundary a port changes by its choice alone (`txBoundary_ports`). -/
theorem txBoundaryPicks : Obligations.TxBoundaryPicks := by
  intro s t x alive valid two opened up free
  have now := s.tick_now t
  have boundary := State.txBoundary_ports (s := s.tick t) valid opened up (now ▸ free)
  refine ⟨((s.tick t).txBoundary x).encSents, (exec_txFrameBoundary t alive x).trans (by rw [if_pos valid]), ?_⟩
  rw [now] at boundary
  have ports : ((s.tick t).txBoundary x).encSents.ring.ports = modAt s.ring.ports x _ :=
    (congrArg RingSt.ports (State.encSents_ring _)).trans boundary
  have sent := RingSt.port_changed ports (two.symm ▸ valid)
  refine ⟨RingSt.port_other ports (by omega), fun pick => ?_, fun i l pick => ?_, fun y pick => ?_, fun y pick => ?_⟩
  all_goals exact sent.trans (congrArg (RingPort.sent _ _ _) pick)

end Sys2Proof.Proofs

namespace Sys2Proof.Machine

open Safety Claims

/-! Received frames (R116 to R121): forwarding reaches the ports and a counter, delivery the queues that take what arrives. -/

theorem State.incIf_ring (s : State) (c : Prop) [Decidable c] (f : Fld) : (if c then s.inc f else s).ring = s.ring := by
  split <;> rfl

theorem State.inc_wires (s : State) (f : Fld) : (s.inc f).wires = s.wires := rfl

theorem State.modPort_wires {s v : State} (same : s.wires = v.wires) (y : Nat) (g : RingPort → RingPort) :
    (s.modPort y g).wires = (v.modPort y g).wires := congrArg (fun w => (modAt w.1 y g, w.2)) same

/-- What a ring frame that goes on leaves alone: all of the ring but its ports. -/
def State.offPorts (s : State) : RingSt := { s.ring with ports := [] }

theorem State.offPorts_of_ring {s v : State} (same : s.ring = v.ring) : s.offPorts = v.offPorts := congrArg (fun r : RingSt => { r with ports := [] }) same

theorem State.modPort_offPorts (s : State) (y : Nat) (g : RingPort → RingPort) : (s.modPort y g).offPorts = s.offPorts := rfl

theorem State.forward_offPorts (s : State) (y : Nat) (f : Frame) (d : List Byte) (inAt : Nat) : (s.forward y f d inAt).offPorts = s.offPorts := by
  unfold State.forward
  extract_lets p long d1 idle held noRoom d2 v x
  have counted : v.offPorts = s.offPorts := State.offPorts_of_ring (s.incIf_ring _ _)
  clear_value v
  split
  · exact (v.modPort_offPorts y _).trans counted
  · split
    · exact counted
    · exact (v.modPort_offPorts y _).trans counted

/-- What is forwarded depends on the ports and the clock alone. -/
theorem State.forward_wires {s v : State} (same : s.wires = v.wires) (y : Nat) (f : Frame) (d : List Byte) (inAt : Nat) :
    (s.forward y f d inAt).wires = (v.forward y f d inAt).wires := by
  obtain ⟨ports, clk⟩ := Prod.mk.inj same
  have port : s.ring.port y = v.ring.port y := congrArg (fun l : List RingPort => (l[y]?).getD RingPort.reset) ports
  unfold State.forward
  rw [port, clk]
  extract_lets p long d1 idle held noRoom d2 s1 x v1
  have counted : s1.wires = v1.wires := (s.incIf_wires _ _).trans (same.trans (v.incIf_wires _ _).symm)
  clear_value s1 v1
  split
  · exact State.modPort_wires counted y _
  · split
    · exact counted
    · exact State.modPort_wires counted y _

theorem State.cm_of_kept {s v : State} (same : s.kept = v.kept) (f : Fld) : s.cm f = v.cm f :=
  congrArg (fun x => x.1.fld f) (State.store_of_kept same)

/-- The tag that this device inserts depends on the committed set and the OTP. -/
theorem State.ownTag_of_kept {s v : State} (same : s.kept = v.kept) (x : Nat) (adopted : Bool) : s.ownTag x adopted = v.ownTag x adopted := by
  have mac : s.mac = v.mac := congrArg (fun k : Kept => k.base.otp.mac) same
  have limit : s.cm F.RING_TAG_HOP_LIMIT = v.cm F.RING_TAG_HOP_LIMIT := State.cm_of_kept same _
  unfold State.ownTag
  rw [mac, limit]

theorem State.dualCopy_wires {s v : State} (same : s.wires = v.wires) (kept : s.kept = v.kept) (x : Nat) (f : Frame) (inAt : Nat) :
    (s.dualCopy x f inAt).wires = (v.dualCopy x f inAt).wires := by
  unfold State.dualCopy
  rw [State.ownTag_of_kept kept]
  extract_lets d long s1 l v1 k
  have counted : s1.wires = v1.wires := (s.incIf_wires _ _).trans (same.trans (v.incIf_wires _ _).symm)
  have now : s1.clk.now = v1.clk.now := congrArg (fun w => w.2.now) counted
  have queued : l = k := congrArg (fun n => LFrame.of n 3 0 (cutLong d)) now
  rw [queued]
  exact State.modPort_wires counted x _

/-- An adopted frame goes back out of its own port where DUAL says so. -/
theorem State.dualSent_ports {s v : State} (same : s.wires = v.wires) (kept : s.kept = v.kept) (x : Nat) (f : Frame) (inAt : Nat) :
    (if s.cm F.RING_TAG_DUAL = 1 then s.dualCopy x f inAt else s).ring.ports = (if v.cm F.RING_TAG_DUAL = 1 then v.dualCopy x f inAt else v).ring.ports := by
  rw [State.cm_of_kept kept]
  split
  · exact congrArg Prod.fst (State.dualCopy_wires same kept x f inAt)
  · exact congrArg Prod.fst same

theorem State.dualCopy_offPorts (s : State) (x : Nat) (f : Frame) (inAt : Nat) : (s.dualCopy x f inAt).offPorts = s.offPorts := by
  unfold State.dualCopy
  extract_lets d long v l
  exact (v.modPort_offPorts x _).trans (State.offPorts_of_ring (s.incIf_ring _ _))

/-- A queue of received datagrams, messages or queries alone takes what is delivered. -/
theorem State.deliverIp_ring (s : State) (f : Frame) : ∃ rx queries, (s.deliverIp f).ring = { s.ring with rx := rx, queries := queries } := by
  unfold State.deliverIp
  split
  · exact ⟨_, _, rfl⟩
  · split
    · exact ⟨_, _, rfl⟩
    · unfold State.deliverUdp
      extract_lets put ip4
      split
      · exact ⟨_, _, rfl⟩
      · split
        · exact ⟨_, _, rfl⟩
        · exact ⟨_, _, rfl⟩

theorem State.deliver_ring (s : State) (port : Nat) (f : Frame) (inAt : Nat) :
    ∃ rx ptp queries, (s.deliver port f inAt).ring = { s.ring with rx := rx, ptp := ptp, queries := queries } := by
  unfold State.deliver
  split
  · exact ⟨_, _, _, rfl⟩
  · split
    · extract_lets m ty
      split
      · exact ⟨_, _, _, rfl⟩
      · exact ⟨_, _, _, rfl⟩
    · split
      · obtain ⟨rx, queries, ip⟩ := s.deliverIp_ring f
        exact ⟨rx, s.ring.ptp, queries, ip⟩
      · exact ⟨_, _, _, rfl⟩

theorem State.deliver_ports (s : State) (port : Nat) (f : Frame) (inAt : Nat) : (s.deliver port f inAt).ring.ports = s.ring.ports := by
  obtain ⟨_, _, _, delivered⟩ := s.deliver_ring port f inAt
  rw [delivered]

theorem State.deliver_weirOpen (s : State) (port : Nat) (f : Frame) (inAt : Nat) : (s.deliver port f inAt).ring.weirOpen = s.ring.weirOpen := by
  obtain ⟨_, _, _, delivered⟩ := s.deliver_ring port f inAt
  rw [delivered]

theorem State.forward_weirOpen (s : State) (y : Nat) (f : Frame) (d : List Byte) (inAt : Nat) :
    (s.forward y f d inAt).ring.weirOpen = s.ring.weirOpen := (congrArg (fun r => r.weirOpen) (s.forward_offPorts y f d inAt) :)

theorem State.dualCopy_weirOpen (s : State) (x : Nat) (f : Frame) (inAt : Nat) : (s.dualCopy x f inAt).ring.weirOpen = s.ring.weirOpen :=
  (congrArg (fun r => r.weirOpen) (s.dualCopy_offPorts x f inAt) :)

/-- The counters of a received frame (R117, R119): its codewords and its stomp. -/
def State.frameSeen (s : State) (x : Nat) (f : Frame) : State :=
  let s := s.add (if x = 0 then F.RING_FEC_CORR_E_COUNT else F.RING_FEC_CORR_W_COUNT) f.corr
  let s := s.add (if x = 0 then F.RING_FEC_UNC_E_COUNT else F.RING_FEC_UNC_W_COUNT) f.unc
  let s := { s with ring := { s.ring with fecBad := modAt s.ring.fecBad x (· + f.unc) } }
  if f.check = .stomped then s.inc F.RING_STOMP_CNT_SEEN else s

theorem State.frameSeen_ring (s : State) (x : Nat) (f : Frame) :
    (s.frameSeen x f).ring = { s.ring with fecBad := modAt s.ring.fecBad x (· + f.unc) } := State.incIf_ring ..

theorem State.frameSeen_wires (s : State) (x : Nat) (f : Frame) : (s.frameSeen x f).wires = s.wires := State.incIf_wires ..

theorem State.frameSeen_kept (s : State) (x : Nat) (f : Frame) : (s.frameSeen x f).kept = s.kept := by
  unfold State.frameSeen
  extract_lets a b src c
  have seen : c.kept = s.kept := rfl
  clear_value c
  split
  · exact (State.inc_kept ..).trans seen
  · exact seen

/-- A frame that arrives on a closed port or an unknown one is not seen. -/
theorem State.frameRx_closed {s : State} {x : Nat} (f : Frame) (closed : s.ring.weirOpen = false ∨ (s.ring.port x).link ≠ 2 ∨ 2 ≤ x) :
    s.frameRx x f = s := if_pos (by simpa using closed)

theorem State.txBoundary_closed {s : State} {x : Nat} (closed : s.ring.weirOpen = false ∨ (s.ring.port x).link ≠ 2 ∨ 2 ≤ x) : s.txBoundary x = s := by
  unfold State.txBoundary
  exact if_pos (by simp only [Bool.not_eq_true]; tauto)

theorem State.frameRx_open {s : State} {x : Nat} {f : Frame} (opened : s.ring.weirOpen = true) (up : (s.ring.port x).link = 2) (valid : x < 2)
    (readable : f.headBad = false) :
    s.frameRx x f = if f.type12 = 0x8808 then s.frameSeen x f else if f.tagged then (s.frameSeen x f).taggedRx x f else (s.frameSeen x f).untaggedRx x f := by
  unfold State.frameRx
  rw [if_neg (by simp only [opened, up, not_true, ne_eq, false_or]; omega)]
  simp only [readable, Bool.false_eq_true, false_or]
  rfl

/-- Bytes spell a number below the power of 256 that their count gives. -/
theorem be_lt (l : List Byte) : be l < 256 ^ l.length := by
  induction l using List.reverseRecOn with
  | nil => exact Nat.one_pos
  | append_singleton l a ih =>
    have last : be (l ++ [a]) = be l * 256 + a.toNat := by simp [be]
    have byte := a.isLt
    rw [last, List.length_append, Nat.pow_add]
    simp only [List.length_singleton, Nat.pow_one]
    omega

theorem beAt_lt (l : List Byte) (off n : Nat) : beAt l off n < 256 ^ n :=
  (be_lt _).trans_le (Nat.pow_le_pow_right (by decide) (List.length_take_le ..))

/-! The rows of R116. -/

theorem State.taggedRx_weirOpen (s : State) (x : Nat) (f : Frame) : (s.taggedRx x f).ring.weirOpen = s.ring.weirOpen := by
  unfold State.taggedRx
  extract_lets inAt y hop v
  split
  · rfl
  · split
    · exact s.forward_weirOpen ..
    · split
      · exact s.deliver_weirOpen ..
      · split
        · exact State.deliver_weirOpen ..
        · exact (State.deliver_weirOpen ..).trans (s.forward_weirOpen ..)

theorem State.untaggedRx_weirOpen (s : State) (x : Nat) (f : Frame) : (s.untaggedRx x f).ring.weirOpen = s.ring.weirOpen := by
  unfold State.untaggedRx
  extract_lets inAt y v w
  have forwarded : v.ring.weirOpen = s.ring.weirOpen := State.forward_weirOpen ..
  split
  · exact s.deliver_weirOpen ..
  · refine (State.deliver_weirOpen ..).trans ?_
    simp only [w]
    split
    · exact (State.dualCopy_weirOpen ..).trans forwarded
    · exact forwarded

section
variable {s : State} {x : Nat} {f : Frame}

theorem State.untaggedRx_ends (ends : f.dst = s.mac) : (s.untaggedRx x f).ring.ports = s.ring.ports := by
  unfold State.untaggedRx
  rw [if_pos ends]
  exact s.deliver_ports ..

theorem State.untaggedRx_adopted (passes : f.dst ≠ s.mac) :
    let w := (s.inc F.RING_ADOPT_CNT_COUNT).forward (1 - x) f (withTag f.data (s.ownTag (1 - x) true)) s.dev
    (s.untaggedRx x f).ring.ports = (if w.cm F.RING_TAG_DUAL = 1 then w.dualCopy x f s.dev else w).ring.ports := by
  unfold State.untaggedRx
  rw [if_neg passes]
  exact State.deliver_ports ..

/-- A frame of this device comes off the ring. -/
theorem State.taggedRx_own (own : f.origin = s.mac) : s.taggedRx x f = s.inc F.RING_STRIP_ORG_COUNT := if_pos own

variable (other : f.origin ≠ s.mac)
include other

theorem State.taggedRx_version (version : f.tagVer ≠ 1) :
    s.taggedRx x f = { s.forward (1 - x) f f.data s.dev with ring := 
      { (s.forward (1 - x) f f.data s.dev).ring with tagBad := modAt (s.forward (1 - x) f f.data s.dev).ring.tagBad x (· + 1) } } :=
  (if_neg other).trans (if_pos version)

variable (version : f.tagVer = 1)
include version

/-- A frame for this device, or at the end of its hops, goes no further. -/
theorem State.taggedRx_ends (ends : f.dst = s.mac ∨ f.hop = 1) : (s.taggedRx x f).ring.ports = s.ring.ports := by
  unfold State.taggedRx
  extract_lets inAt y hop v
  rw [if_neg other, if_neg (not_not_intro version)]
  split
  · exact s.deliver_ports ..
  · have last : hop = 0 := by simp only [hop, ends.resolve_left ‹_›]
    rw [if_pos last]
    exact State.deliver_ports ..

theorem State.taggedRx_passes (passes : f.dst ≠ s.mac) (hops : f.hop ≠ 1) :
    (s.taggedRx x f).ring.ports = (s.forward (1 - x) f (withHop f.data ((f.hop + 255) % 256)) s.dev).ring.ports := by
  have byte : f.hop < 256 := (beAt_lt ..).trans_eq (Nat.pow_one _)
  unfold State.taggedRx
  extract_lets inAt y hop v
  rw [if_neg other, if_neg (not_not_intro version), if_neg passes, if_neg (by omega)]
  exact State.deliver_ports ..

end

end Sys2Proof.Machine

namespace Sys2Proof.Proofs

open Machine Safety Claims

/-- A part of `ringFrames`. -/
theorem ringFrameRows : Claims.RingFrameRows := by
  intro s t x f alive opened up valid readable
  have row := State.frameRx_open (s := s.tick t) opened up valid readable
  have wires : ((s.tick t).frameSeen x f).wires = (s.tick t).wires := State.frameSeen_wires ..
  have kept : ((s.tick t).frameSeen x f).kept = (s.tick t).kept := State.frameSeen_kept ..
  have ring : ((s.tick t).frameSeen x f).ring = { s.ring with fecBad := modAt s.ring.fecBad x (· + f.unc) } := State.frameSeen_ring ..
  generalize (s.tick t).frameSeen x f = v at row wires kept ring
  have ports : v.ring.ports = s.ring.ports := (congrArg (fun r => r.ports) ring :)
  have mac : v.mac = s.mac := congrArg (fun k : Kept => k.base.otp.mac) kept
  have dev : v.dev = (s.tick t).dev := congrArg (fun w => w.2.devFine / 1000000000) wires
  have tagged (h : f.tagged = true) : (s.tick t).frameRx x f = v.taggedRx x f := by
    have type : f.type12 ≠ 0x8808 := fun e => by simp [Frame.tagged, tagType, e] at h
    rw [row, if_neg type, if_pos h]
  have untagged (h : f.tagged = false) (type : f.type12 ≠ 0x8808) : (s.tick t).frameRx x f = v.untaggedRx x f := by
    rw [row, if_neg type, if_neg (by simp [h])]
  refine ⟨_, exec_ringFrameRx t alive x f, ?_, fun h own => ?_, fun h other version => ?_, fun h other version ends => ?_,
    fun h other version passes hops => ?_, fun h ends => ?_, fun h type passes => ?_⟩
  · have weir : v.ring.weirOpen = true := (congrArg (fun r => r.weirOpen) ring :).trans opened
    rw [row]
    split
    · exact weir
    · split
      · exact (v.taggedRx_weirOpen x f).trans weir
      · exact (v.untaggedRx_weirOpen x f).trans weir
  · rw [tagged h, State.taggedRx_own (own.trans mac.symm), State.inc_ring, ring]
    exact ⟨rfl, rfl, rfl, rfl⟩
  · rw [tagged h, State.taggedRx_version (mac ▸ other) version, dev]
    have left : (v.forward (1 - x) f f.data (s.tick t).dev).offPorts = v.offPorts := State.forward_offPorts ..
    have rx : v.ring.rx = s.ring.rx := (congrArg (fun r => r.rx) ring :)
    have bad : v.ring.tagBad = s.ring.tagBad := (congrArg (fun r => r.tagBad) ring :)
    exact ⟨congrArg Prod.fst (State.forward_wires wires ..), (congrArg (fun r => r.rx) left :).trans rx,
      congrArg (fun l => modAt l x (· + 1)) ((congrArg (fun r => r.tagBad) left :).trans bad)⟩
  · rw [tagged h]
    exact (State.taggedRx_ends (mac ▸ other) version (mac ▸ ends)).trans ports
  · rw [tagged h, State.taggedRx_passes (mac ▸ other) version (mac ▸ passes) hops, dev]
    exact congrArg Prod.fst (State.forward_wires wires ..)
  · by_cases type : f.type12 = 0x8808
    · rw [row, if_pos type]
      exact ports
    · rw [untagged h type]
      exact (State.untaggedRx_ends (mac ▸ ends.resolve_left type)).trans ports
  · rw [untagged h type, State.untaggedRx_adopted (mac ▸ passes), dev, State.ownTag_of_kept kept]
    intro w
    have dual : w.cm F.RING_TAG_DUAL = s.cm F.RING_TAG_DUAL := State.cm_of_kept (State.forward_kept ..) _
    rw [← dual]
    have counted : (v.inc F.RING_ADOPT_CNT_COUNT).kept = (s.tick t).kept := (v.inc_kept _).trans kept
    exact State.dualSent_ports (State.forward_wires ((v.inc_wires _).trans wires) ..)
      ((State.forward_kept ..).trans (counted.trans (State.forward_kept ..).symm)) x f _

/-- A part of `ringFrames`. -/
theorem ringClosedFrames : Claims.RingClosedFrames := by
  intro s t x f alive closed
  refine ⟨?_, fun invalid => ?_, fun valid => ?_, State.encSents_ring _⟩
  · rw [exec_ringFrameRx t alive, State.frameRx_closed f (s := s.tick t) closed]
  · rw [exec_txFrameBoundary t alive, if_neg (by omega)]
  · rw [exec_txFrameBoundary t alive, if_pos valid, State.txBoundary_closed (s := s.tick t) closed]

/-- Settles O15. -/
theorem ringFrames : Obligations.RingFrames := ⟨ringFrameRows, ringClosedFrames⟩

end Sys2Proof.Proofs

namespace Sys2Proof.Machine

open Safety Claims

/-! Pliash packets (R127 to R135). -/

theorem exec_pliashPacket {s : State} (t : Nat) (alive : s.alive = true) : exec (.pliashPacket t) s = .next (s.tick t).pliash :=
  State.live_alive t State.pliash alive

/-- The KEY field that a packet of type `ty` may have (R128, R130, R135). -/
def keySound (ty key : Nat) (enc : Bool) : Bool :=
  if ty = 1 then (if enc then decide (key < 32) else key == 0) else if ty = 2 then decide (1 ≤ key ∧ key ≤ 8) else key == 0

/-- The header checks of R128 that the model makes. -/
def Datagram.sound (d : Datagram) : Bool :=
  let b := d.data
  let ty := beAt b 1 1
  decide (16 ≤ b.length) && (crc32c (b.take 12)).toNat == beAt b 12 4 && beAt b 0 1 == 1 && decide (1 ≤ ty ∧ ty ≤ 4)
    && decide (16 + beAt b 6 2 ≤ b.length) && decide (beAt b 2 1 < 8) && keySound ty (beAt b 3 1) (bitAt (beAt b 2 1) 0)
    && (decide (d.grp < 16) || ty == 4) && (ty != 4 || beAt b 2 1 == 6)

theorem keySound_iff (ty key : Nat) (enc : Bool) : keySound ty key enc = true ↔
    if ty = 1 then (if enc then key < 32 else key = 0) else if ty = 2 then 1 ≤ key ∧ key ≤ 8 else key = 0 := by
  unfold keySound
  (repeat' split) <;> simp only [decide_eq_true_eq, beq_iff_eq]

/-- The checks that the model makes are those of the specification. -/
theorem Datagram.sound_iff (d : Datagram) :
    d.sound = true ↔ (1 ≤ beAt d.data 1 1 ∧ beAt d.data 1 1 ≤ 4) ∧ PliashOk d (beAt d.data 1 1) := by
  simp only [Datagram.sound, PliashOk, Bool.and_eq_true, Bool.or_eq_true, decide_eq_true_eq, beq_iff_eq, bne_iff_ne, keySound_iff,
    imp_iff_not_or, ne_eq]
  tauto

theorem PliashOk_type {d : Datagram} {ty : Nat} (ok : PliashOk d ty) : beAt d.data 1 1 = ty := by
  obtain ⟨-, -, -, type, -⟩ := ok
  exact type

theorem PliashOk_sound {d : Datagram} {ty : Nat} (ok : PliashOk d ty) (type : 1 ≤ ty ∧ ty ≤ 4) : d.sound = true := by
  obtain rfl := PliashOk_type ok
  exact d.sound_iff.mpr ⟨type, ok⟩

/-- The first datagram is taken. -/
def State.takeRx (s : State) (rest : List Datagram) : State := { s with ring := { s.ring with rx := rest } }

section
variable {s : State} {d : Datagram} {rest : List Datagram} (first : s.ring.rx = d :: rest)
include first

theorem State.pliash_unsound (unsound : d.sound = false) : s.pliash = (s.takeRx rest).inc F.RING_RX_DISC_FORMAT := by
  unfold State.pliash
  rw [first]
  exact if_pos (Bool.eq_false_iff.mp unsound)

theorem State.pliash_mgmt (ok : PliashOk d 4) : s.pliash = { s.takeRx rest with ring :=
    { s.ring with rx := rest, mgmt := s.ring.mgmt ++ [{ d with data := d.data.take (16 + beAt d.data 6 2) }] } } := by
  unfold State.pliash
  rw [first]
  exact (if_neg (not_not_intro (PliashOk_sound ok (by decide)))).trans (if_pos (PliashOk_type ok))

/-- A packet of another type that passes its checks. -/
theorem State.pliash_key (ok : PliashOk d 3) :
    let pay := slice d.data 16 (beAt d.data 6 2)
    s.pliash = if pay.length = 344 ∧ beAt pay 4 6 ≠ s.mac then s.takeRx rest
      else if s.sec.queue.length < 8 then { s.takeRx rest with sec := { s.sec with queue := s.sec.queue ++ [pay] } }
      else ((s.takeRx rest).inc F.SEC_KEY_CNT_REFUSED).raise 0xF01 bSEC 7 (beAt pay 12 4) := by
  unfold State.pliash
  rw [first]
  have type := PliashOk_type ok
  refine (if_neg (not_not_intro (PliashOk_sound ok (by decide)))).trans ((if_neg ?_).trans (if_pos type))
  rw [type]
  decide

theorem State.pliash_scene (ok : PliashOk d 1 ∨ PliashOk d 2) :
    let s0 := s.takeRx rest
    let chan := beAt d.data 4 2
    s.pliash = if s0.dropsScene then s0.inc F.RING_DROP_CNT_COUNT
      else if ¬ s0.chanOpen d.grp chan then s0.raiseOnce 0x405 bRING (d.grp * 65536 + chan) chan d.grp
      else
        let s := s0.withChan d.grp chan
        if beAt d.data 1 1 = 1 then
          if s.cm F.SEC_CTRL_REQUIRE_ENC = 1 ∧ ¬ bitAt (beAt d.data 2 1) 0 then s.inc F.RING_RX_DISC_FORMAT
          else s.dataPacket d.grp chan (beAt d.data 8 4) (beAt d.data 2 1) (beAt d.data 3 1) (slice d.data 16 (beAt d.data 6 2))
        else s.parityPacket d.grp chan (beAt d.data 8 4) (beAt d.data 3 1) (slice d.data 16 (beAt d.data 6 2)) := by
  have sound : d.sound = true := ok.elim (fun h => PliashOk_sound h (by decide)) (fun h => PliashOk_sound h (by decide))
  have type : beAt d.data 1 1 = 1 ∨ beAt d.data 1 1 = 2 := ok.imp PliashOk_type PliashOk_type
  unfold State.pliash
  rw [first]
  exact (if_neg (not_not_intro sound)).trans ((if_neg (by omega)).trans (if_neg (by omega)))

/-- A DATA packet of a known channel, where encryption is not required. -/
theorem State.pliash_data {c : Chan} (ok : PliashOk d 1) (runs : s.dropsScene = false) (plain : s.cm F.SEC_CTRL_REQUIRE_ENC = 0)
    (known : chanOf s.strm.chans d.grp (beAt d.data 4 2) = some c) :
    s.pliash = (s.takeRx rest).dataPacket d.grp (beAt d.data 4 2) (beAt d.data 8 4) (beAt d.data 2 1) (beAt d.data 3 1)
      (slice d.data 16 (beAt d.data 6 2)) := by
  have opened : (s.takeRx rest).chanOpen d.grp (beAt d.data 4 2) = true := by
    simp only [State.chanOpen, State.takeRx, known, Option.isSome_some, Bool.true_or]
  have stays : (s.takeRx rest).withChan d.grp (beAt d.data 4 2) = s.takeRx rest := if_pos (by simp only [State.takeRx, known, Option.isSome_some])
  have allowed : ¬ (s.takeRx rest).cm F.SEC_CTRL_REQUIRE_ENC = 1 := fun e => Nat.zero_ne_one (plain.symm.trans e)
  have going : (s.takeRx rest).dropsScene = false := runs
  rw [State.pliash_scene first (.inl ok), going, opened, stays]
  exact (if_pos (PliashOk_type ok)).trans (if_neg (fun e => allowed e.1))

end

/-- A packet behind the end of the window that is too old or already received is counted and nothing else (R129). -/
theorem State.dataPacket_behind {s : State} {grp chan seq w : Nat} {c : Chan} (known : chanOf s.strm.chans grp chan = some c) (window : c.winEnd = some w)
    (behind : laterPound seq w = false) (flags key : Nat) (data : List Byte) :
    let back := (w + 2 ^ 32 - seq) % 2 ^ 32
    (256 ≤ back → s.dataPacket grp chan seq flags key data = s.inc F.RING_RX_DISC_LATE) ∧
    (back < 256 → bitAt c.got back = true → s.dataPacket grp chan seq flags key data = s.inc F.RING_DUP_CNT_COUNT) := by
  intro back
  unfold State.dataPacket
  simp only [known, window, behind, Bool.false_eq_true, if_false]
  exact ⟨fun late => if_pos late, fun near got => (if_neg (Nat.not_le.mpr near)).trans (if_pos got)⟩

end Sys2Proof.Machine

namespace Sys2Proof.Proofs

open Machine Safety Claims

/-- Settles O18. -/
theorem pliashTypes : Obligations.PliashTypes := by
  intro s t d rest alive first s0 b pay
  have first : (s.tick t).ring.rx = d :: rest := first
  rw [exec_pliashPacket t alive]
  refine ⟨fun unsound => ?_, fun ok => ?_, fun ok mine room => ?_, fun ok mine full => ?_, fun ok other => ?_, fun ok drops => ?_,
    fun c w ok runs plain known window behind => ?_⟩
  · have failed : d.sound = false := Bool.eq_false_iff.mpr fun sound =>
      let ⟨type, ok⟩ := d.sound_iff.mp sound
      unsound _ type.1 type.2 ok
    exact congrArg _ (State.pliash_unsound first failed)
  · exact congrArg _ (State.pliash_mgmt first ok)
  · exact congrArg _ ((State.pliash_key first ok).trans ((if_neg mine).trans (if_pos room)))
  · exact congrArg _ ((State.pliash_key first ok).trans ((if_neg mine).trans (if_neg (Nat.not_lt.mpr full))))
  · exact congrArg _ ((State.pliash_key first ok).trans (if_pos other))
  · exact congrArg _ ((State.pliash_scene first ok).trans (if_pos drops))
  · obtain ⟨late, duplicate⟩ := State.dataPacket_behind (s := s0) known window behind (beAt b 2 1) (beAt b 3 1) pay
    rw [State.pliash_data first ok runs plain known]
    exact ⟨fun old => congrArg _ (late old), fun near got => congrArg _ (duplicate near got)⟩

end Sys2Proof.Proofs

namespace Sys2Proof.Machine

open Safety Claims

/-! Parity groups (R131, R402), group queries (R127) and KEY messages (R134). -/

section
variable {s : State} (t : Nat) (alive : s.alive = true)
include alive

theorem exec_parityWaitExpiry (grp chan k : Nat) : exec (.parityWaitExpiry t grp chan k) s = .next ((s.tick t).resolveGroup grp chan k false) :=
  State.live_alive t (fun s => s.parityWait grp chan k) alive

theorem exec_igmpQuery : exec (.igmpQuery t) s = .next (s.tick t).igmpQuery := State.live_alive t State.igmpQuery alive

theorem exec_keyMessage : exec (.keyMessage t) s = .next (s.tick t).keyMessage := State.live_alive t State.keyMessage alive

end

section
variable {s : State} {grp chan k : Nat}

theorem State.resolveGroup_noChan (final : Bool) (unknown : chanOf s.strm.chans grp chan = none) : s.resolveGroup grp chan k final = s := by
  unfold State.resolveGroup
  rw [unknown]

variable {c : Chan} (known : chanOf s.strm.chans grp chan = some c)
include known

theorem State.resolveGroup_noGroup (final : Bool) (unknown : c.group k = none) : s.resolveGroup grp chan k final = s := by
  simp only [State.resolveGroup, known, unknown]

variable {g : PGroup} (group : c.group k = some g)
include group

/-- A group that is resolved, or that waits for its partner, does not time out (R131, R402). -/
theorem State.resolveGroup_done (done : g.st = 1 ∨ g.st = 2) : s.resolveGroup grp chan k false = s := by
  simp only [State.resolveGroup, known, group]
  exact if_pos (by simpa [or_comm] using done)

variable (waits : g.st = 0)
include waits

theorem State.resolveGroup_wants (repairs : s.repairs = true) (missing : g.missing ≠ []) :
    s.resolveGroup grp chan k false = s.putChan (c.putGroup { g with st := 1, wanted := g.missing, firstAt := s.clk.now }) := by
  simp only [State.resolveGroup, known, group]
  rw [if_neg (by simp [waits]), if_pos ⟨missing, repairs, Bool.false_ne_true⟩]

theorem State.resolveGroup_resolves (gives : s.repairs = false ∨ g.missing = []) :
    s.resolveGroup grp chan k false = (let w := s.countLost c g.missing
      (w.putChan ((c.putGroup { g with st := 2, parity := g.parity.map (fun p => (p.1, [])), wanted := [] }).prune w.towNeeds)).runParser grp chan) := by
  simp only [State.resolveGroup, known, group]
  rw [if_neg (by simp [waits]), if_neg]
  rintro ⟨missing, repairs, -⟩
  exact gives.elim (fun no => Bool.false_ne_true (no.symm.trans repairs)) missing

end

/-- The first query is taken and answered where REPORT is 1 (R127). -/
theorem State.igmpQuery_first {s : State} {v6 : Bool} {g : Nat} {r : List (Bool × Nat)} (first : s.ring.queries = (v6, g) :: r) :
    let s0 : State := { s with ring := { s.ring with queries := r } }
    s.igmpQuery = if s.cm F.RING_IP_CFG_REPORT = 1 then
      s0.sendReports 2 (s.cset.rxAddrs.filter (fun a => (isMapped4 a != v6) && (g == 0 || a == g))) else s0 := by
  unfold State.igmpQuery
  rw [first]
  rfl

/-- Reports go out with the addresses of the device, whatever was queued before (R127). -/
theorem State.sendReports_eq (s : State) (ty : Nat) (groups : List Nat) :
    let g4 := groups.filter isMapped4
    let g6 := groups.filter (fun a => !isMapped4 a)
    let l := LFrame.of s.clk.now 3 0 []
    s.sendReports ty groups =
      let v := if g4 = [] ∨ s.cm F.RING_IP4_ADDR = 0 then s else s.queueBoth l 0x01005E000016 0x0800 (igmpReport (s.cm F.RING_IP4_ADDR) ty g4)
      if g6 = [] then v else v.queueBoth l 0x333300000016 0x86DD (mldReport (linkLocal s.mac) ty g6) := by
  intro g4 g6 l
  unfold State.sendReports
  extract_lets _ v
  have mac : v.mac = s.mac := by
    simp only [v]
    split
    · rfl
    · exact congrArg (fun k : Kept => k.base.otp.mac) (State.queueBoth_kept ..)
  rw [mac]

theorem State.igmpQuery_none {s : State} (none : s.ring.queries = []) : s.igmpQuery = s := by
  unfold State.igmpQuery
  rw [none]

theorem State.keyMessage_none {s : State} (none : s.sec.queue = []) : s.keyMessage = s := by
  unfold State.keyMessage
  rw [none]

theorem State.keyMessage_refused {s : State} {m : List Byte} {r : List (List Byte)} {c : Nat} (first : s.sec.queue = m :: r) (refused : s.keyCheck m = .inl c) :
    s.keyMessage = (State.inc { s with sec := { s.sec with queue := r } } F.SEC_KEY_CNT_REFUSED).raise 0xF01 bSEC c (beAt m 12 4) := by
  have same : State.keyCheck { s with sec := { s.sec with queue := r } } m = .inl c := refused
  simp only [State.keyMessage, first, same]

/-- The first check is that of the length (R134). -/
theorem State.keyCheck_length (s : State) {m : List Byte} (length : m.length ≠ 344) : s.keyCheck m = .inl 1 := if_pos (.inl length)

/-- A message that passes is later than KSEQ and names one of the 32 halves (R134). -/
theorem State.keyCheck_passes {s : State} {m : List Byte} {h : KeyHalf} (passes : s.keyCheck m = .inr h) :
    h.slot < 16 ∧ h.gen < 2 ∧ laterPound (beAt m 12 4) (s.rd F.SEC_KSEQ_KSEQ) = true := by
  unfold State.keyCheck at passes
  extract_lets slot ctl crypt skip kseq epk pub z kek at passes
  split at passes
  · cases passes
  next format =>
  split at passes
  · cases passes
  split at passes
  · cases passes
  split at passes
  · cases passes
  next later =>
  split at passes
  · cases passes
  split at passes
  · cases passes
  cases passes
  have listed : slot < 16 := by omega
  exact ⟨listed, Nat.mod_lt _ Nat.two_pos, by simpa using later⟩

/-- A KEY message's half loaded (R134). -/
def SecSt.load (c : SecSt) (h : KeyHalf) : SecSt := { c with halves := h :: c.halves.filter (fun x => ¬ (x.slot = h.slot ∧ x.gen = h.gen)) }

section
variable (c : SecSt) {h : KeyHalf} (slot : h.slot < 16) (gen : h.gen < 2)
include slot gen

theorem SecSt.load_half : (c.load h).half (h.slot + 16 * h.gen) = some h := by
  have here : (h.slot == (h.slot + 16 * h.gen) % 16 && h.gen == (h.slot + 16 * h.gen) / 16 % 2) = true := by
    simp only [Bool.and_eq_true, beq_iff_eq]
    omega
  exact List.find?_cons_of_pos here

theorem SecSt.load_half_other {k : Nat} (valid : k < 32) (other : k ≠ h.slot + 16 * h.gen) : (c.load h).half k = c.half k := by
  unfold SecSt.half SecSt.load
  rw [List.find?_cons_of_neg, List.find?_filter]
  · refine congrArg (fun p => c.halves.find? p) (funext fun x => ?_)
    rw [Bool.eq_iff_iff]
    simp only [Bool.and_eq_true, decide_eq_true_eq, beq_iff_eq]
    omega
  · simp only [Bool.and_eq_true, beq_iff_eq]
    omega
end

/-- What an event's record takes from the state: the records before it, the open pound and the time. -/
def State.stamps (s : State) : EvtSt × Nat × Clk := (s.evt, s.lock.pound, s.clk)

theorem State.raiseI_evt_congr {s v : State} (same : s.stamps = v.stamps) (code block inst arg0 arg1 : Nat) :
    (s.raiseI code block inst arg0 arg1).evt = (v.raiseI code block inst arg0 arg1).evt := by
  simp only [State.stamps, Prod.mk.injEq] at same
  obtain ⟨evt, pound, clk⟩ := same
  simp only [State.raiseI, State.devSec, State.devNs, State.dev, evt, pound, clk]

theorem State.raise_evt_congr {s v : State} (same : s.stamps = v.stamps) (code block arg0 arg1 : Nat) :
    (s.raise code block arg0 arg1).evt = (v.raise code block arg0 arg1).evt := State.raiseI_evt_congr same ..

theorem State.rd_lt (s : State) (f : Fld) : s.rd f < 2 ^ (f.hi + 1 - f.lo) := Nat.mod_lt _ (Nat.two_pow_pos _)

theorem orBit_lt {x n w : Nat} (fits : x < 2 ^ w) (bit : n < w) : orBit x n < 2 ^ w := by
  unfold orBit
  rw [Nat.one_shiftLeft]
  exact Nat.or_lt_two_pow fits (Nat.pow_lt_pow_right Nat.one_lt_two bit)

/-- KEY_STAT shows a half as loaded. -/
def State.showLoaded (s : State) (h : KeyHalf) : State := s.wr F.SEC_KEY_STAT_LOADED (orBit (s.rd F.SEC_KEY_STAT_LOADED) (2 * h.slot + h.gen))

theorem State.keyMessage_eq {s : State} {m : List Byte} {r : List (List Byte)} {h : KeyHalf} (first : s.sec.queue = m :: r)
    (passes : s.keyCheck m = .inr h) :
    s.keyMessage = (((({ s with sec := { s.sec.load h with queue := r } } : State).wr F.SEC_KSEQ_KSEQ (beAt m 12 4)).inc
      F.SEC_KEY_CNT_ACCEPTED).showLoaded h).raise 0xF00 bSEC (h.slot + 16 * h.gen) (beAt m 12 4) := by
  have same : State.keyCheck { s with sec := { s.sec with queue := r } } m = .inr h := passes
  simp only [State.keyMessage, first, same]
  rfl

/-- What KSEQ and KEY_STAT show after a message that loads a half. -/
theorem State.keyLoaded_rd (s : State) {h : KeyHalf} (slot : h.slot < 16) (gen : h.gen < 2) {kseq : Nat} (fits : kseq < 2 ^ 32) :
    let u := ((s.wr F.SEC_KSEQ_KSEQ kseq).inc F.SEC_KEY_CNT_ACCEPTED).showLoaded h
    u.rd F.SEC_KSEQ_KSEQ = kseq ∧ u.rd F.SEC_KEY_STAT_LOADED = orBit (s.rd F.SEC_KEY_STAT_LOADED) (2 * h.slot + h.gen) := by
  intro u
  let v := (s.wr F.SEC_KSEQ_KSEQ kseq).inc F.SEC_KEY_CNT_ACCEPTED
  have kept : v.rd F.SEC_KSEQ_KSEQ = (s.wr F.SEC_KSEQ_KSEQ kseq).rd F.SEC_KSEQ_KSEQ := State.rd_wr_other _ F.SEC_KEY_CNT_ACCEPTED _ _ (by decide)
  have loaded : v.rd F.SEC_KEY_STAT_LOADED = s.rd F.SEC_KEY_STAT_LOADED :=
    (State.rd_wr_other _ F.SEC_KEY_CNT_ACCEPTED _ _ (by decide)).trans (s.rd_wr_other F.SEC_KSEQ_KSEQ _ _ (by decide))
  constructor
  · calc u.rd F.SEC_KSEQ_KSEQ
      _ = v.rd F.SEC_KSEQ_KSEQ := v.rd_wr_other F.SEC_KEY_STAT_LOADED _ _ (by decide)
      _ = kseq % 2 ^ 32 := kept.trans (s.rd_wr F.SEC_KSEQ_KSEQ kseq (by decide) (by decide))
      _ = kseq := Nat.mod_eq_of_lt fits
  · calc u.rd F.SEC_KEY_STAT_LOADED
      _ = orBit (v.rd F.SEC_KEY_STAT_LOADED) (2 * h.slot + h.gen) % 2 ^ 32 := v.rd_wr F.SEC_KEY_STAT_LOADED _ (by decide) (by decide)
      _ = orBit (s.rd F.SEC_KEY_STAT_LOADED) (2 * h.slot + h.gen) := by
        rw [loaded]
        exact Nat.mod_eq_of_lt (orBit_lt (s.rd_lt F.SEC_KEY_STAT_LOADED) (by omega))

theorem State.raise_rd (s : State) (code block arg0 arg1 : Nat) (f : Fld) : (s.raise code block arg0 arg1).rd f = s.rd f := rfl

/-- A message that passes loads its half, and shows KSEQ, the half and the event (R134). -/
theorem State.keyMessage_loads {s : State} {m : List Byte} {r : List (List Byte)} {h : KeyHalf} (first : s.sec.queue = m :: r)
    (passes : s.keyCheck m = .inr h) :
    s.keyMessage.sec = { s.sec.load h with queue := r } ∧ s.keyMessage.rd F.SEC_KSEQ_KSEQ = beAt m 12 4 ∧
      s.keyMessage.rd F.SEC_KEY_STAT_LOADED = orBit (s.rd F.SEC_KEY_STAT_LOADED) (2 * h.slot + h.gen) ∧
      s.keyMessage.evt = (s.raise 0xF00 bSEC (h.slot + 16 * h.gen) (beAt m 12 4)).evt := by
  obtain ⟨slot, gen, -⟩ := State.keyCheck_passes passes
  have fits : beAt m 12 4 < 2 ^ 32 := (beAt_lt m 12 4).trans_eq (by norm_num)
  obtain ⟨kseq, loaded⟩ := State.keyLoaded_rd { s with sec := { s.sec.load h with queue := r } } slot gen fits
  rw [State.keyMessage_eq first passes, State.raise_rd, State.raise_rd]
  refine ⟨rfl, kseq, loaded, State.raise_evt_congr ?_ ..⟩
  simp only [State.stamps, State.showLoaded, State.wr_evt, State.wr_lock, State.wr_clk, State.inc_evt, State.inc_lock, State.inc_clk]

end Sys2Proof.Machine

namespace Sys2Proof.Proofs

open Machine Safety Claims

/-- A part of `groupsQueriesKeys`. -/
theorem parityGroupWaits : Claims.ParityGroupWaits := by
  intro s t grp chan k alive
  rw [exec_parityWaitExpiry t alive]
  refine ⟨fun unknown => congrArg _ (State.resolveGroup_noChan false unknown), fun c known => ?_⟩
  have known : chanOf (s.tick t).strm.chans grp chan = some c := known
  refine ⟨fun unknown => congrArg _ (State.resolveGroup_noGroup known false unknown), fun g group =>
    ⟨fun done => congrArg _ (State.resolveGroup_done known group done), fun waits repairs missing => ?_,
      fun waits gives => congrArg _ (State.resolveGroup_resolves known group waits gives)⟩⟩
  rw [← s.tick_now t]
  exact congrArg _ (State.resolveGroup_wants known group waits repairs missing)

/-- A part of `groupsQueriesKeys`. -/
theorem queriesAnswered : Claims.QueriesAnswered := by
  intro s t alive
  rw [exec_igmpQuery t alive]
  refine ⟨fun none => congrArg _ (State.igmpQuery_none none), fun v6 g r first => ?_⟩
  have taken := State.igmpQuery_first (s := s.tick t) first
  intro s0 asked g4 g6 l
  refine ⟨fun silent => congrArg _ (taken.trans (if_neg silent)), fun reports => ?_⟩
  have now : l = LFrame.of s0.clk.now 3 0 [] := congrArg (fun n => LFrame.of n 3 0 []) (s.tick_now t).symm
  rw [now]
  exact congrArg _ ((taken.trans (if_pos reports)).trans (s0.sendReports_eq 2 asked))

/-- A part of `groupsQueriesKeys`. -/
theorem keysLoad : Claims.KeysLoad := by
  intro s t alive
  rw [exec_keyMessage t alive]
  refine ⟨fun none => congrArg _ (State.keyMessage_none none), fun m r c first refused => congrArg _ (State.keyMessage_refused (s := s.tick t) first refused),
    fun m r _ length => s.keyCheck_length length, fun m r h first passes => ?_⟩
  obtain ⟨slot, gen, later⟩ := State.keyCheck_passes passes
  obtain ⟨sec, kseq, loaded, evt⟩ := State.keyMessage_loads (s := s.tick t) first passes
  refine ⟨_, rfl, congrArg SecSt.queue sec, ?_, fun k valid other => ?_, later, kseq, loaded, evt⟩
  · rw [sec]
    exact s.sec.load_half slot gen
  · rw [sec]
    exact s.sec.load_half_other slot gen valid other

/-- Settles O19. -/
theorem groupsQueriesKeys : Obligations.GroupsQueriesKeys := ⟨parityGroupWaits, queriesAnswered, keysLoad⟩

end Sys2Proof.Proofs

namespace Sys2Proof.Machine

open Safety Claims

/-! Block lock (R319, R395). -/

section
variable {s : State} (t : Nat) (alive : s.alive = true)
include alive

theorem exec_blockLockAcquired (h : LaneHeads) : exec (.blockLockAcquired t h) s = .next ((s.tick t).laneHeaders h.lane true h.heads) :=
  State.live_alive t (fun s => s.laneHeaders h.lane true h.heads) alive

theorem exec_blockLockLost (n : Nat) (hdrs : List Bool) : exec (.blockLockLost t n hdrs) s = .next ((s.tick t).laneHeaders n false hdrs) :=
  State.live_alive t (fun s => s.laneHeaders n false hdrs) alive

theorem exec_rxAdaptDone (n : Nat) (cands : List Eyes) (eyes : Eyes) (taps : RxTaps) :
    exec (.rxAdaptDone t n cands eyes taps) s = .next ((s.tick t).adaptDone n cands eyes taps.dfe taps.ffe) :=
  State.live_alive t (fun s => s.adaptDone n cands eyes taps.dfe taps.ffe) alive

theorem exec_fomMonitor (n : Nat) (eyes : Eyes) : exec (.fomMonitor t n eyes) s = .next ((s.tick t).fomMonitor n eyes) :=
  State.live_alive t (fun s => s.fomMonitor n eyes) alive

end

theorem State.modLane_lane (s : State) (n : Nat) (f : LaneSt → LaneSt) : (s.modLane n f).lanes.lane n = f (s.lanes.lane n) :=
  Sparse.get_set_same ..

theorem State.modLane_lane_other (s : State) {n m : Nat} (f : LaneSt → LaneSt) (other : m ≠ n) : (s.modLane n f).lanes.lane m = s.lanes.lane m :=
  Sparse.get_set_other _ _ _ other

/-- The bit that shows a receiver's block lock. -/
def lockFld (n : Nat) : Fld := if n = monLane then F.LANE_MON_STAT_LOCK else F.LANE_n_STAT_LOCK n

theorem lockFld_addr (n : Nat) : (lockFld n).addr = if n = monLane then R.LANE_MON_STAT else R.LANE_n_STAT n := by
  unfold lockFld
  split <;> rfl

theorem State.locked_eq (s : State) (n : Nat) : s.locked n = (s.rd (lockFld n) == 1) := by
  unfold State.locked lockFld
  split <;> rfl

/-- The lanes and a field of the ledger: what a receiver's lock is seen by. -/
def State.shown (s : State) (f : Fld) : LanesSt × Nat := (s.lanes, s.rd f)

theorem State.locked_of_shown {s v : State} {n : Nat} (same : s.shown (lockFld n) = v.shown (lockFld n)) : s.locked n = v.locked n := by
  rw [s.locked_eq, v.locked_eq, (Prod.mk.inj same).2]

theorem State.wr_shown (s : State) {f g : Fld} (v : Nat) (other : f.addr ≠ g.addr) : (s.wr g v).shown f = s.shown f :=
  congrArg (Prod.mk s.lanes) (s.rd_wr_other g f v other)

theorem State.modPair_shown (s : State) (g : PairSt → PairSt) (f : Fld) : (s.modPair g).shown f = s.shown f := rfl

theorem State.raiseIf_shown (s : State) (c : Prop) [Decidable c] (code block arg0 arg1 : Nat) (f : Fld) :
    (if c then s.raise code block arg0 arg1 else s).shown f = s.shown f := by
  split <;> rfl

theorem State.modPairUnless_shown (s : State) (c : Prop) [Decidable c] (g : PairSt → PairSt) (f : Fld) :
    (if c then s else s.modPair g).shown f = s.shown f := by
  split <;> rfl

section
variable {f : Fld} (off : f.addr ≠ R.TOW_STATUS)
include off

theorem State.unfit_shown (s : State) (cause : Nat) : (s.unfit cause).shown f = s.shown f := by
  unfold State.unfit
  extract_lets v
  split
  · rfl
  · exact v.wr_shown (g := F.TOW_STATUS_FIT) _ off

theorem State.fitCheck_shown (s : State) : s.fitCheck.shown f = s.shown f := by
  unfold State.fitCheck
  split
  · rfl
  · split
    · exact s.wr_shown (g := F.TOW_STATUS_FIT) _ off
    · rfl

theorem State.laneUse_shown (s : State) (lost : Bool) : (s.laneUse lost).shown f = s.shown f := by
  unfold State.laneUse
  extract_lets tx rx need up was old a b c
  split
  · rfl
  · refine (State.fitCheck_shown off _).trans ((State.when_proj (fun s => s.shown f) c _ (fun s => s.unfit_shown off 3)).trans ?_)
    have used : a.shown f = s.shown f := (State.wr_shown _ (g := F.TOW_STATUS_UP) _ off).trans (s.wr_shown (g := F.TOW_STATUS_TX_USE) _ off)
    have told : b.shown f = a.shown f := State.raiseIf_shown ..
    have sick : c.shown f = b.shown f := State.modPairUnless_shown ..
    exact sick.trans (told.trans used)

/-- The use of a towpath lane that follows its lock leaves the lanes, and of the ledger all but TOW_STATUS. -/
theorem State.towLock_shown (s : State) (n : Nat) (locked : Bool) : (s.towLock n locked).shown f = s.shown f := by
  unfold State.towLock
  extract_lets had
  split
  · rfl
  · exact (State.laneUse_shown off _ _).trans (s.modPair_shown _ f)

end

theorem State.setLock_lanes (s : State) (n v : Nat) : (s.setLock n v).lanes = s.lanes := by
  unfold State.setLock
  (repeat' split) <;> simp only [State.wr_lanes]

theorem lockFld_offTow {n : Nat} (valid : n ≤ monLane) : (lockFld n).addr ≠ R.TOW_STATUS := by
  rw [lockFld_addr]
  unfold monLane at *
  split
  · decide
  · unfold R.LANE_n_STAT R.TOW_STATUS
    omega

theorem State.setLock_rd (s : State) {n v : Nat} (valid : n ≤ monLane) : (s.setLock n v).rd (lockFld n) = v % 2 := by
  have own : (s.wr (lockFld n) v).rd (lockFld n) = v % 2 := by
    unfold lockFld
    split
    · exact s.rd_wr F.LANE_MON_STAT_LOCK v (by decide) (by decide)
    · exact s.rd_wr (F.LANE_n_STAT_LOCK n) v (Nat.le_succ 4) (by show 4 < 32; decide)
  have wrote : (if n = monLane then s.wr F.LANE_MON_STAT_LOCK v else s.wr (F.LANE_n_STAT_LOCK n) v) = s.wr (lockFld n) v := by
    unfold lockFld
    split <;> rfl
  unfold State.setLock
  rw [wrote]
  extract_lets w
  split
  · exact (w.rd_wr_other F.TOW_STATUS_RX_LOCK _ _ (lockFld_offTow valid)).trans own
  · exact own

theorem State.setLock_locked (s : State) {n : Nat} (valid : n ≤ monLane) (b : Bool) : (s.setLock n (b2n b)).locked n = b := by
  rw [State.locked_eq, s.setLock_rd valid]
  cases b <;> rfl

theorem State.raiseI_rd (s : State) (code block inst arg0 arg1 : Nat) (f : Fld) : (s.raiseI code block inst arg0 arg1).rd f = s.rd f := rfl

theorem State.rd_inc_other (s : State) {f g : Fld} (other : f.addr ≠ g.addr) : (s.inc g).rd f = s.rd f := s.rd_wr_other g f _ other

theorem State.lockLost_lanes (s : State) (n invalid : Nat) : (s.lockLost n invalid).lanes = s.lanes := s.setLock_lanes n 0

theorem State.lockLost_locked (s : State) {n : Nat} (valid : n ≤ monLane) (invalid : Nat) : (s.lockLost n invalid).locked n = false := by
  have off : (lockFld n).addr ≠ R.LANE_LOCK_CNT := by
    rw [lockFld_addr]
    unfold R.LANE_MON_STAT R.LANE_n_STAT R.LANE_LOCK_CNT
    split <;> omega
  unfold State.lockLost State.raiseLane
  rw [State.locked_eq, State.raiseI_rd, State.rd_inc_other _ off, s.setLock_rd valid]
  rfl

/-- A receiver's search for blocks moves on. -/
def State.putRx (s : State) (n : Nat) (r : RxLock) : State := s.modLane n (fun l => { l with rx := r })

theorem State.putRx_rx (s : State) (n : Nat) (r : RxLock) : ((s.putRx n r).lanes.lane n).rx = r := congrArg LaneSt.rx (s.modLane_lane n _)

/-- The search that begins anew. -/
def RxLock.anew (r : RxLock) : RxLock := { cand := r.cand, run := 0, seen := 0, bad := 0 }

/-- An errored block is counted off the lock's bit, and off the lanes (R334). -/
theorem State.headerError_shown (s : State) (n : Nat) : (s.headerError n).shown (lockFld n) = s.shown (lockFld n) := by
  unfold State.headerError State.addErrors
  extract_lets k v
  have off0 : (lockFld n).addr ≠ R.LANE_n_ERR0 k := by
    rw [lockFld_addr]
    unfold R.LANE_MON_STAT R.LANE_n_STAT R.LANE_n_ERR0
    split <;> omega
  have off1 : (lockFld n).addr ≠ R.LANE_n_ERR1 k := by
    rw [lockFld_addr]
    unfold R.LANE_MON_STAT R.LANE_n_STAT R.LANE_n_ERR1
    split <;> omega
  split
  · exact (State.wr_shown _ (g := F.LANE_n_ERR1_ERR k) _ off1).trans (s.wr_shown (g := F.LANE_n_ERR0_ERR k) _ off0)
  · rfl

section
variable {s : State} {n : Nat} (hunts : s.locked n = false)
include hunts

theorem State.rxHeader_slips : s.rxHeader n false = s.putRx n (s.lanes.lane n).rx.slip := by
  unfold State.rxHeader
  rw [hunts]
  rfl

theorem State.rxHeader_counts (room : (s.lanes.lane n).rx.run + 1 < 64) :
    s.rxHeader n true = s.putRx n { (s.lanes.lane n).rx with run := (s.lanes.lane n).rx.run + 1 } := by
  unfold State.rxHeader
  rw [hunts]
  exact if_pos room

theorem State.rxHeader_locks (last : 64 ≤ (s.lanes.lane n).rx.run + 1) : s.rxHeader n true = (s.putRx n (s.lanes.lane n).rx.anew).setLock n 1 := by
  unfold State.rxHeader
  rw [hunts]
  exact if_neg (Nat.not_lt.mpr last)

end

section
variable {s : State} {n : Nat} (locked : s.locked n = true)
include locked

theorem State.rxHeader_keeps (room : (s.lanes.lane n).rx.seen + 1 < 64) :
    s.rxHeader n true = s.putRx n { (s.lanes.lane n).rx with seen := (s.lanes.lane n).rx.seen + 1 } := by
  unfold State.rxHeader
  rw [locked]
  exact if_pos room

variable (last : (s.lanes.lane n).rx.seen = 63)
include last

theorem State.rxHeader_window (few : (s.lanes.lane n).rx.bad < 15) :
    s.rxHeader n false = (s.headerError n).putRx n { (s.lanes.lane n).rx with seen := 0, bad := 0 } := by
  unfold State.rxHeader
  rw [locked]
  exact (if_pos rfl).trans ((if_neg (by rw [last]; decide)).trans (if_pos (Nat.succ_lt_succ few)))

theorem State.rxHeader_loses (many : 15 ≤ (s.lanes.lane n).rx.bad) :
    s.rxHeader n false = ((s.headerError n).putRx n (s.lanes.lane n).rx.anew).lockLost n ((s.lanes.lane n).rx.bad + 1) := by
  unfold State.rxHeader
  rw [locked]
  exact (if_pos rfl).trans ((if_neg (by rw [last]; decide)).trans (if_neg (Nat.not_lt.mpr (Nat.succ_le_succ many))))

theorem State.rxHeader_lost (valid : n ≤ monLane) (many : 15 ≤ (s.lanes.lane n).rx.bad) :
    (s.rxHeader n false).locked n = false ∧ ((s.rxHeader n false).lanes.lane n).rx = (s.lanes.lane n).rx.anew := by
  rw [State.rxHeader_loses locked last many, State.lockLost_lanes]
  exact ⟨State.lockLost_locked _ valid _, State.putRx_rx ..⟩

end

/-- A receiver that hunts locks with the 64th valid header in a row (R319). -/
theorem State.rxHeaders_lock {n : Nat} (valid : n ≤ monLane) : ∀ (k : Nat) (s : State), s.locked n = false → (s.lanes.lane n).rx.run + k = 63 →
    let u := s.each (List.replicate (k + 1) true) (fun s ok => s.rxHeader n ok)
    u.locked n = true ∧ (u.lanes.lane n).rx = (s.lanes.lane n).rx.anew
  | 0, s, hunts, run => by
    have locks : s.each (List.replicate 1 true) (fun s ok => s.rxHeader n ok) = (s.putRx n (s.lanes.lane n).rx.anew).setLock n 1 :=
      State.rxHeader_locks hunts (by omega)
    rw [locks]
    dsimp only
    rw [State.setLock_lanes]
    exact ⟨State.setLock_locked _ valid true, s.putRx_rx n _⟩
  | k + 1, s, hunts, run => by
    have counts := State.rxHeader_counts hunts (by omega)
    let v := s.putRx n { (s.lanes.lane n).rx with run := (s.lanes.lane n).rx.run + 1 }
    have search : (v.lanes.lane n).rx = { (s.lanes.lane n).rx with run := (s.lanes.lane n).rx.run + 1 } := s.putRx_rx n _
    obtain ⟨locked, anew⟩ := State.rxHeaders_lock valid k v hunts (by rw [search]; dsimp only; omega)
    have first : s.each (List.replicate (k + 1 + 1) true) (fun s ok => s.rxHeader n ok) = v.each (List.replicate (k + 1) true) (fun s ok => s.rxHeader n ok) :=
      congrArg (fun w : State => w.each (List.replicate (k + 1) true) (fun s ok => s.rxHeader n ok)) counts
    rw [first]
    exact ⟨locked, anew.trans (congrArg RxLock.anew search :)⟩

/-- What the headers of a receiver that hunts for blocks make of it, where its lock stands (R319). -/
theorem State.laneHeaders_same {s : State} {n : Nat} {live : Bool} {hdrs : List Bool} (same : (s.rxHeaders n live hdrs).locked n = s.locked n) :
    s.laneHeaders n live hdrs = s.rxHeaders n live hdrs := if_pos same

/-- The use of a towpath lane follows a lock that changes; the lock and the receivers are what the headers made of them. -/
theorem State.laneHeaders_shown (s : State) {n : Nat} (valid : n ≤ monLane) (live : Bool) (hdrs : List Bool) :
    (s.laneHeaders n live hdrs).shown (lockFld n) = (s.rxHeaders n live hdrs).shown (lockFld n) := by
  unfold State.laneHeaders
  extract_lets was v
  split
  · rfl
  · exact State.towLock_shown (lockFld_offTow valid) ..

/-- The lock of a receiver off the towpath moves no towpath lane. -/
theorem State.laneHeaders_offTow {s : State} {n : Nat} (off : n < 56) (live : Bool) (hdrs : List Bool) :
    s.laneHeaders n live hdrs = s.rxHeaders n live hdrs := by
  unfold State.laneHeaders
  extract_lets was v
  split
  · rfl
  · exact if_pos (.inl off)

theorem State.rxHeaders_hunts {s : State} {n : Nat} (hunts : s.huntsBlocks n = true) (live : Bool) (hdrs : List Bool) :
    s.rxHeaders n live hdrs = s.each hdrs (fun s ok => s.rxHeader n ok) := if_pos hunts

theorem State.rxHeaders_one {s : State} {n : Nat} (hunts : s.huntsBlocks n = true) (live ok : Bool) : s.rxHeaders n live [ok] = s.rxHeader n ok :=
  State.rxHeaders_hunts hunts live [ok]

/-- One header after which the lock is what it was. -/
theorem State.laneHeaders_one {s v : State} {n : Nat} {ok : Bool} (hunts : s.huntsBlocks n = true) (live : Bool) (tested : s.rxHeader n ok = v)
    (same : v.locked n = s.locked n) : s.laneHeaders n live [ok] = v := by
  have hears : s.rxHeaders n live [ok] = v := (State.rxHeaders_one hunts live ok).trans tested
  rw [State.laneHeaders_same (hears.symm ▸ same), hears]

/-- In live operation a ring lane's lock is what its PCS says. -/
theorem State.rxHeaders_live {s : State} {n : Nat} (live : Bool) (hdrs : List Bool) (quiet : s.huntsBlocks n = false) (ring : 48 ≤ n ∧ n < 56) :
    s.rxHeaders n live hdrs = s.wr (F.LANE_n_STAT_LOCK n) (b2n live) := by
  have lane : n ≠ monLane := by unfold monLane; omega
  unfold State.rxHeaders State.setLock
  rw [if_neg (by simp [quiet]), if_pos ring, if_neg lane]
  exact if_neg (by omega)

theorem State.rxHeaders_quiet {s : State} {n : Nat} (live : Bool) (hdrs : List Bool) (quiet : s.huntsBlocks n = false) (other : 56 ≤ n) :
    s.rxHeaders n live hdrs = s := by
  unfold State.rxHeaders
  rw [if_neg (by simp [quiet])]
  exact if_neg (by omega)

end Sys2Proof.Machine

namespace Sys2Proof.Proofs

open Machine Safety Claims

/-- A part of `laneReceivers`. -/
theorem laneReceiversLock : Claims.LaneReceivers := by
  intro s t n hdrs alive first valid rx
  simp only [exec_blockLockAcquired t alive, exec_blockLockLost t alive]
  refine ⟨fun ring quiet => ?_, fun hunts free => ?_, fun hunts locked => ?_, fun quiet tow => ?_⟩
  · rw [State.laneHeaders_offTow ring, State.laneHeaders_offTow ring, State.rxHeaders_live (s := s.tick t) true hdrs quiet ⟨first, ring⟩,
      State.rxHeaders_live (s := s.tick t) false hdrs quiet ⟨first, ring⟩]
    exact ⟨rfl, rfl⟩
  · refine ⟨?_, fun room => ?_, fun run => ?_⟩
    · exact congrArg _ (State.laneHeaders_one (s := s.tick t) hunts true (State.rxHeader_slips (s := s.tick t) free) rfl)
    · exact congrArg _ (State.laneHeaders_one (s := s.tick t) hunts true (State.rxHeader_counts (s := s.tick t) free room) rfl)
    · obtain ⟨locked, anew⟩ := State.rxHeaders_lock valid (63 - rx.run) (s.tick t) free (by change rx.run + _ = 63; omega)
      have count : 64 - rx.run = 63 - rx.run + 1 := by omega
      have shown := (s.tick t).laneHeaders_shown valid true (List.replicate (63 - rx.run + 1) true)
      rw [State.rxHeaders_hunts (s := s.tick t) hunts] at shown
      rw [count]
      exact ⟨_, rfl, (State.locked_of_shown shown).trans locked, (congrArg (fun x => (x.1.lane n).rx) shown).trans anew⟩
  · refine ⟨fun room => ?_, fun last few => ?_, fun last many => ?_⟩
    · exact congrArg _ (State.laneHeaders_one (s := s.tick t) hunts false (State.rxHeader_keeps (s := s.tick t) locked room) rfl)
    · have window := State.rxHeader_window (s := s.tick t) locked last few
      have stands : ((s.tick t).headerError n).locked n = (s.tick t).locked n := State.locked_of_shown (State.headerError_shown ..)
      exact ⟨_, congrArg _ (State.laneHeaders_one (s := s.tick t) hunts false window stands), stands.trans locked, State.putRx_rx ..⟩
    · have shown := (s.tick t).laneHeaders_shown valid false [false]
      obtain ⟨lost, anew⟩ := State.rxHeader_lost (s := s.tick t) locked last valid many
      rw [State.rxHeaders_one (s := s.tick t) hunts] at shown
      exact ⟨_, rfl, (State.locked_of_shown shown).trans lost, (congrArg (fun x => (x.1.lane n).rx) shown).trans anew⟩
  · have acquired := State.rxHeaders_quiet (s := s.tick t) true hdrs quiet tow
    have lost := State.rxHeaders_quiet (s := s.tick t) false hdrs quiet tow
    rw [State.laneHeaders_same (by rw [acquired]), State.laneHeaders_same (by rw [lost]), acquired, lost]
    exact ⟨rfl, rfl⟩

end Sys2Proof.Proofs

namespace Sys2Proof.Machine

open Safety Claims

/-! Adaptation and the figure of merit (R320 to R323). -/

/-- What the receivers and generators of the serial lanes leave alone: all but the live ledger, the lanes, the towpath and the open choices; of the
ledger, a field below the registers of the lanes. -/
def State.offLanes (s : State) (f : Fld) : State × Nat :=
  ({ s with led := { s.led with live := [] }, lanes := LanesSt.reset, pair := PairSt.reset, choices := 0 }, s.rd f)

theorem State.ring_of_offLanes {s v : State} {f : Fld} (same : s.offLanes f = v.offLanes f) : s.ring = v.ring := (congrArg (fun x => x.1.ring) same :)

theorem State.stamps_of_offLanes {s v : State} {f : Fld} (same : s.offLanes f = v.offLanes f) : s.stamps = v.stamps :=
  (congrArg (fun x => x.1.stamps) same :)

theorem State.rd_of_offLanes {s v : State} {f : Fld} (same : s.offLanes f = v.offLanes f) : s.rd f = v.rd f := congrArg Prod.snd same

theorem State.modLane_offLanes (s : State) (n : Nat) (g : LaneSt → LaneSt) (f : Fld) : (s.modLane n g).offLanes f = s.offLanes f := rfl

section
variable {f : Fld} (low : f.addr < 0xD0000)
include low

theorem State.wr_offLanes (s : State) {g : Fld} (v : Nat) (high : 0xD0000 ≤ g.addr) : (s.wr g v).offLanes f = s.offLanes f :=
  congrArg (Prod.mk (s.offLanes f).1) (s.rd_wr_other g f v (Nat.ne_of_lt (Nat.lt_of_lt_of_le low high)))

theorem State.wrStat_offLanes (s : State) (n hi lo v : Nat) : (s.wr ⟨R.LANE_n_STAT n, hi, lo⟩ v).offLanes f = s.offLanes f :=
  State.wr_offLanes low s v (Nat.le_add_right_of_le (by decide))

theorem State.showLane_offLanes (s : State) (n : Nat) : (s.showLane n).offLanes f = s.offLanes f := State.wrStat_offLanes low s n ..

theorem State.showRx_offLanes (s : State) (n st fom : Nat) (e : RxEq) : (s.showRx n st fom e).offLanes f = s.offLanes f := by
  unfold State.showRx
  extract_lets v
  have off : v.offLanes f = s.offLanes f := s.modLane_offLanes n _ f
  clear_value v
  split
  · exact (State.wr_offLanes low _ _ (by decide)).trans ((State.wr_offLanes low _ _ (by decide)).trans off)
  · exact (State.wrStat_offLanes low _ n ..).trans ((State.wrStat_offLanes low _ n ..).trans ((State.wrStat_offLanes low _ n ..).trans
      ((State.showLane_offLanes low v n).trans off)))

end

theorem State.modLane_rd (s : State) (n : Nat) (f : LaneSt → LaneSt) (g : Fld) : (s.modLane n f).rd g = s.rd g := rfl

theorem State.raiseLane_lanes (s : State) (code n arg : Nat) : (s.raiseLane code n arg).lanes = s.lanes := rfl

theorem State.raiseLane_ring (s : State) (code n arg : Nat) : (s.raiseLane code n arg).ring = s.ring := rfl

theorem State.raiseLane_rd (s : State) (code n arg : Nat) (f : Fld) : (s.raiseLane code n arg).rd f = s.rd f := rfl

/-- The equaliser that an adaptation run ends with (R322). -/
def LaneSt.adapted (l : LaneSt) (cands : List Eyes) (dfe : Int) (ffe : List Int) : RxEq :=
  { ctle := bestCode (fun c => (cands[c]?).elim 0 Eyes.fom) (searchCodes l.seedCtle), dfe := dfe, ffe := ffe }

/-- A receiver's state reaches its lane and its registers. -/
theorem State.showRx_lanes (s : State) (n st fom : Nat) (e : RxEq) : (s.showRx n st fom e).lanes = (s.modLane n (fun l => { l with rxSt := st })).lanes := by
  unfold State.showRx State.showLane
  extract_lets v
  have lanes : v.lanes = (s.modLane n (fun l => { l with rxSt := st })).lanes := rfl
  clear_value v
  split <;> simp only [State.wr_lanes, lanes]

/-- The fields above STATE in a lane's register stand apart from it. -/
theorem State.wrStat_state (s : State) (n v : Nat) {hi lo : Nat} (valid : lo ≤ hi + 1 ∧ hi < 32) (above : 2 < lo) :
    (s.wr ⟨R.LANE_n_STAT n, hi, lo⟩ v).rd (F.LANE_n_STAT_STATE n) = s.rd (F.LANE_n_STAT_STATE n) :=
  s.rd_wr_beside ⟨R.LANE_n_STAT n, hi, lo⟩ (F.LANE_n_STAT_STATE n) v valid.1 valid.2 rfl (.inr above)

theorem State.showRx_state (s : State) {n st : Nat} (valid : n < monLane) (small : st < 5) (fom : Nat) (e : RxEq) :
    (s.showRx n st fom e).rd (F.LANE_n_STAT_STATE n) = if (s.lanes.lane n).gen.isSome then 4 else st := by
  unfold State.showRx State.showLane
  extract_lets v
  have lane : v.lanes.lane n = { s.lanes.lane n with rxSt := st } := s.modLane_lane n _
  clear_value v
  rw [if_neg (Nat.ne_of_lt valid), lane]
  generalize hk : (if (s.lanes.lane n).gen.isSome then 4 else st) = k
  have fits : k < 2 ^ 3 := by
    rw [← hk]
    split <;> omega
  let a := v.wr (F.LANE_n_STAT_STATE n) k
  let b := a.wr (F.LANE_n_STAT_FOM n) fom
  let c := b.wr (F.LANE_n_STAT_CTLE n) e.ctle
  calc (c.wr (F.LANE_n_STAT_DFE n) (unsigned 8 e.dfe)).rd (F.LANE_n_STAT_STATE n)
    _ = c.rd (F.LANE_n_STAT_STATE n) := c.wrStat_state n _ (by decide) (by decide)
    _ = b.rd (F.LANE_n_STAT_STATE n) := b.wrStat_state n _ (by decide) (by decide)
    _ = a.rd (F.LANE_n_STAT_STATE n) := a.wrStat_state n _ (by decide) (by decide)
    _ = k % 2 ^ 3 := v.rd_wr (F.LANE_n_STAT_STATE n) k (by show 0 ≤ 3; decide) (by show 2 < 32; decide)
    _ = k := Nat.mod_eq_of_lt fits

theorem State.showRx_adapted (s : State) (fom : Nat) (e : RxEq) : (s.showRx monLane 2 fom e).rd F.LANE_MON_STAT_ADAPTED = 1 := by
  unfold State.showRx
  rw [if_pos rfl]
  exact (State.rd_wr_beside _ F.LANE_MON_STAT_FOM F.LANE_MON_STAT_ADAPTED fom (by decide) (by decide) rfl (.inr (by decide))).trans
    (State.rd_wr _ F.LANE_MON_STAT_ADAPTED 1 (by decide) (by decide))

theorem State.showRx_lane (s : State) (n st fom : Nat) (e : RxEq) (g : LaneSt → LaneSt) :
    ((s.showRx n st fom e).modLane n g).lanes.lane n = g { s.lanes.lane n with rxSt := st } := by
  rw [State.modLane_lane, State.showRx_lanes, State.modLane_lane]

section
variable {s : State} {n : Nat} {cands : List Eyes} {eyes : Eyes} {dfe : Int} {ffe : List Int}

/-- A figure of merit of at least FOM_MIN ends the adaptation (R322). -/
theorem State.adaptRun_adapts (enough : s.cm F.LANE_ADAPT_FOM_MIN ≤ eyes.fom) :
    let l := s.lanes.lane n
    let u := s.adaptRun n cands eyes dfe ffe
    u.lanes.lane n = { l with eq := l.adapted cands dfe ffe, training := false, tries := 0, best := 0, rxSt := 2 } ∧
      (n < monLane → u.rd (F.LANE_n_STAT_STATE n) = if l.gen.isSome then 4 else 2) ∧ (n = monLane → u.rd F.LANE_MON_STAT_ADAPTED = 1) := by
  intro l u
  have run : u = (s.showRx n 2 eyes.fom (l.adapted cands dfe ffe)).modLane n
    (fun x => { x with eq := l.adapted cands dfe ffe, training := false, tries := 0, best := 0 }) := if_pos enough
  rw [run, State.modLane_rd, State.modLane_rd]
  refine ⟨s.showRx_lane .., fun lane => s.showRx_state lane (by decide) .., fun monitor => ?_⟩
  rw [monitor]
  exact s.showRx_adapted ..

variable (low : eyes.fom < s.cm F.LANE_ADAPT_FOM_MIN)
include low

/-- Below FOM_MIN another try follows, without a seed, while RETRIES lasts. -/
theorem State.adaptRun_retries (tries : (s.lanes.lane n).tries + 1 ≤ s.cm F.LANE_ADAPT_RETRIES) :
    let l := s.lanes.lane n
    let u := s.adaptRun n cands eyes dfe ffe
    u.lanes.lane n = { l with eq := l.adapted cands dfe ffe, tries := l.tries + 1, best := max l.best eyes.fom, seedCtle := none, rxSt := 1 } ∧
      (n < monLane → u.rd (F.LANE_n_STAT_STATE n) = if l.gen.isSome then 4 else 1) := by
  intro l u
  have run : u = (s.showRx n 1 eyes.fom (l.adapted cands dfe ffe)).modLane n
    (fun x => { x with eq := l.adapted cands dfe ffe, tries := x.tries + 1, best := max l.best eyes.fom, seedCtle := none }) :=
    (if_neg (Nat.not_le.mpr low)).trans (if_neg (Nat.not_lt.mpr tries))
  rw [run, State.modLane_rd]
  exact ⟨s.showRx_lane .., fun lane => s.showRx_state lane (by decide) ..⟩

/-- After the last try the receiver has failed, and nothing but the lanes shows it. -/
theorem State.adaptRun_fails (spent : s.cm F.LANE_ADAPT_RETRIES < (s.lanes.lane n).tries + 1) :
    let l := s.lanes.lane n
    let u := s.adaptRun n cands eyes dfe ffe
    u.lanes.lane n = { l with eq := l.adapted cands dfe ffe, training := false, tries := 0, best := 0, rxSt := 3 } ∧
      (n < monLane → u.rd (F.LANE_n_STAT_STATE n) = if l.gen.isSome then 4 else 3) ∧ u.ring = s.ring := by
  intro l u
  have run : u = ((s.showRx n 3 eyes.fom (l.adapted cands dfe ffe)).modLane n
    (fun x => { x with eq := l.adapted cands dfe ffe, training := false, tries := 0, best := 0 })).raiseLane 0xD01 n (max l.best eyes.fom) :=
    (if_neg (Nat.not_le.mpr low)).trans (if_pos spent)
  rw [run, State.raiseLane_lanes, State.raiseLane_ring, State.raiseLane_rd, State.modLane_rd]
  exact ⟨s.showRx_lane .., fun lane => s.showRx_state lane (by decide) ..,
    State.ring_of_offLanes (State.showRx_offLanes (f := F.RING_STATUS_LOOP_OK) (by decide) s ..)⟩

end

section
variable {s : State} {n : Nat} {cands : List Eyes} {eyes : Eyes} {dfe : Int} {ffe : List Int}

theorem State.adaptDone_idle (idle : (s.lanes.lane n).training = false) : s.adaptDone n cands eyes dfe ffe = s :=
  if_pos (.inr (.inr (by simp [idle])))

variable (valid : 48 ≤ n ∧ n ≤ monLane) (trains : (s.lanes.lane n).training = true)
include valid trains

theorem State.adaptDone_acts : ¬ (n < 48 ∨ monLane < n ∨ ¬ (s.lanes.lane n).training = true) := by
  rintro (ring | monitor | idle)
  · omega
  · omega
  · exact idle trains

/-- A run that has not failed on a ring lane has no further effect. -/
theorem State.adaptDone_runs (goes : 56 ≤ n ∨ ((s.adaptRun n cands eyes dfe ffe).lanes.lane n).rxSt ≠ 3) :
    s.adaptDone n cands eyes dfe ffe = s.adaptRun n cands eyes dfe ffe := by
  unfold State.adaptDone
  rw [if_neg (State.adaptDone_acts valid trains)]
  exact if_neg (fun ⟨ring, failed⟩ => goes.elim (by omega) (fun other => other (by simpa using failed)))

/-- A run that has failed on a ring lane fails the loopback, or the link of its port (R124, R125). -/
theorem State.adaptDone_fails (ring : n < 56) (failed : ((s.adaptRun n cands eyes dfe ffe).lanes.lane n).rxSt = 3) :
    s.adaptDone n cands eyes dfe ffe =
      (let v := s.adaptRun n cands eyes dfe ffe
       if v.ring.training.isSome then v.loopFail.gensFollow else v.linkDown ((n - 48) / 4) 2) := by
  unfold State.adaptDone
  rw [if_neg (State.adaptDone_acts valid trains)]
  exact if_pos ⟨ring, by simp [failed]⟩

end

/-- The LMS of an adapted receiver moves its taps alone (R323). -/
theorem State.lmsRuns_lane (s : State) (n : Nat) : ∃ e : RxEq,
    e.ctle = (s.lanes.lane n).eq.ctle ∧ (s.lmsRuns n).lanes.lane n = { s.lanes.lane n with eq := e } := by
  unfold State.lmsRuns
  extract_lets tap v w
  have lane : w.lanes.lane n = _ := v.modLane_lane n _
  clear_value w
  split
  all_goals
    refine ⟨_, ?_, lane⟩
    rfl

theorem State.fomMonitor_off {s : State} {n : Nat} (eyes : Eyes) (off : (s.lanes.lane n).rxSt ≠ 2) : s.fomMonitor n eyes = s := if_pos (.inr (.inr off))

theorem State.fomMonitor_shows {s : State} {n : Nat} (eyes : Eyes) (valid : 48 ≤ n ∧ n ≤ monLane) (adapted : (s.lanes.lane n).rxSt = 2) :
    let v := s.lmsRuns n
    let w := if n = monLane then v.wr F.LANE_MON_STAT_FOM eyes.fom else v.wr (F.LANE_n_STAT_FOM n) eyes.fom
    s.fomMonitor n eyes = if eyes.fom < s.cm F.LANE_ADAPT_FOM_WARN then w.raiseOnceI 0xD02 bLANE (evLane n) n (evLane n) eyes.fom else w := by
  intro v w
  have kept : w.kept = s.kept := by
    simp only [w]
    split <;> exact (State.wr_kept ..).trans (s.lmsRuns_kept n)
  rw [← State.cm_of_kept kept]
  exact if_neg (by rw [adapted]; omega)

end Sys2Proof.Machine

namespace Sys2Proof.Proofs

open Machine Safety Claims

/-- A part of `laneReceivers`. -/
theorem adaptations : Claims.Adaptations := by
  intro s t n cands eyes dfe ffe alive first last l code
  rw [exec_rxAdaptDone t alive, exec_fomMonitor t alive]
  refine ⟨fun idle => congrArg _ (State.adaptDone_idle (s := s.tick t) idle),
    fun trains => ⟨fun enough => ?_, fun low tries => ?_, fun low spent => ⟨fun tow => ?_, fun ring => ?_⟩⟩,
    fun adapted => ?_, fun off => congrArg _ (State.fomMonitor_off (s := s.tick t) eyes off)⟩
  · have run := State.adaptRun_adapts (s := s.tick t) (n := n) (cands := cands) (dfe := dfe) (ffe := ffe) enough
    have state : (((s.tick t).adaptRun n cands eyes dfe ffe).lanes.lane n).rxSt = 2 := congrArg LaneSt.rxSt run.1
    have runs : (s.tick t).adaptDone n cands eyes dfe ffe = _ := State.adaptDone_runs ⟨first, last⟩ trains (.inr (by rw [state]; decide))
    exact ⟨_, congrArg _ runs, run⟩
  · have run := State.adaptRun_retries (s := s.tick t) (n := n) (cands := cands) (dfe := dfe) (ffe := ffe) low tries
    have state : (((s.tick t).adaptRun n cands eyes dfe ffe).lanes.lane n).rxSt = 1 := congrArg LaneSt.rxSt run.1
    have runs : (s.tick t).adaptDone n cands eyes dfe ffe = _ := State.adaptDone_runs ⟨first, last⟩ trains (.inr (by rw [state]; decide))
    exact ⟨_, congrArg _ runs, run⟩
  · obtain ⟨lane, state, -⟩ := State.adaptRun_fails (s := s.tick t) (n := n) (cands := cands) (dfe := dfe) (ffe := ffe) low spent
    have runs : (s.tick t).adaptDone n cands eyes dfe ffe = _ := State.adaptDone_runs ⟨first, last⟩ trains (.inl tow)
    exact ⟨_, congrArg _ runs, congrArg LaneSt.training lane, congrArg LaneSt.tries lane, congrArg LaneSt.rxSt lane,
      fun tx quiet => (state tx).trans (if_neg (Bool.eq_false_iff.mp (congrArg Option.isSome quiet)))⟩
  · obtain ⟨lane, -, same⟩ := State.adaptRun_fails (s := s.tick t) (n := n) (cands := cands) (dfe := dfe) (ffe := ffe) low spent
    have fails := State.adaptDone_fails (s := s.tick t) ⟨first, last⟩ trains ring (by rw [lane])
    rw [fails]
    dsimp only
    rw [same]
    rfl
  · obtain ⟨e, ctle, lane⟩ := (s.tick t).lmsRuns_lane n
    have shows := State.fomMonitor_shows (s := s.tick t) eyes ⟨first, last⟩ adapted
    intro v w
    have same : v.lanes.lane n = { l with eq := e } := lane
    rw [same]
    exact ⟨ctle, rfl, adapted, fun enough => congrArg _ (shows.trans (if_neg (Nat.not_lt.mpr enough))), fun low => congrArg _ (shows.trans (if_pos low))⟩

/-- Settles O32. -/
theorem laneReceivers : Obligations.LaneReceivers := ⟨laneReceiversLock, adaptations⟩

end Sys2Proof.Proofs

namespace Sys2Proof.Machine

open Safety Claims

/-! Receivers and generators: what they leave alone (R322, R331, R333), and which receivers adapt. -/

theorem State.genMark_offLanes (s : State) (c : Bool) (n : Nat) (x : State → TowSrc) (keep : Bool) (f : Fld) :
    (s.when c (fun s => s.towMark n (x s) keep)).offLanes f = s.offLanes f := State.when_proj (fun s => s.offLanes f) s c (fun _ => rfl)

theorem State.seedNo_offLanes (s : State) (c : Prop) [Decidable c] (n k m : Nat) (f : Fld) :
    (if c then { s.modLane n (fun l => { l with seedNo := k }) with choices := m } else s).offLanes f = s.offLanes f := by
  split <;> rfl

section
variable {f : Fld} (low : f.addr < 0xD0000)
include low

theorem State.setLock_offLanes (s : State) (n v : Nat) : (s.setLock n v).offLanes f = s.offLanes f := by
  have locks : (if n = monLane then s.wr F.LANE_MON_STAT_LOCK v else s.wr (F.LANE_n_STAT_LOCK n) v).offLanes f = s.offLanes f := by
    split
    · exact State.wr_offLanes low s v (by decide)
    · exact State.wrStat_offLanes low s n ..
  unfold State.setLock
  extract_lets v
  split
  · exact (State.wr_offLanes low v _ (by decide)).trans locks
  · exact locks

theorem State.rxStart_offLanes (s : State) (n : Nat) : (s.rxStart n).offLanes f = s.offLanes f := by
  unfold State.rxStart
  extract_lets seed e v
  exact (v.modLane_offLanes n _ f).trans ((State.setLock_offLanes low _ n 0).trans (State.showRx_offLanes low s n ..))

theorem State.portRx_offLanes (s : State) (x : Nat) : (s.portRx x).offLanes f = s.offLanes f :=
  State.each_proj (fun s => s.offLanes f) State.rxStart (State.rxStart_offLanes low) _ s

theorem State.laneTrain_offLanes (s : State) (n : Nat) (l : LinkTrain) : (s.laneTrain n l).offLanes f = s.offLanes f :=
  (State.modLane_offLanes _ n _ f).trans (State.wr_offLanes low s _ (Nat.le_add_right_of_le (by decide)))

theorem State.genStart_offLanes (s : State) (n : Nat) (c : GenRun) : (s.genStart n c).offLanes f = s.offLanes f := by
  unfold State.genStart
  extract_lets v at_ w _ x
  have marked : v.offLanes f = s.offLanes f := s.genMark_offLanes _ (n - 56) (fun s => s.towSrc (n - 56)) false f
  have lane : w.offLanes f = v.offLanes f := v.modLane_offLanes n _ f
  have seeded : x.offLanes f = w.offLanes f := w.seedNo_offLanes ..
  exact (State.rxStart_offLanes low x n).trans (seeded.trans (lane.trans marked))

theorem State.genUpdate_offLanes (s : State) (n : Nat) : (s.genUpdate n).offLanes f = s.offLanes f := by
  have marked := s.genMark_offLanes (decide (56 ≤ n)) (n - 56) (fun s => s.towSrc (n - 56)) false f
  unfold State.genUpdate
  extract_lets c v w
  have lane : w.offLanes f = s.offLanes f := (v.modLane_offLanes n _ f).trans marked
  clear_value w
  split
  · rfl
  · split
    · exact (State.rxStart_offLanes low w n).trans lane
    · exact (State.showLane_offLanes low w n).trans lane
  · split
    · split
      · rfl
      · exact (State.modLane_offLanes _ n _ f).trans marked
    · exact State.genStart_offLanes low s ..
  · exact State.genStart_offLanes low s ..

theorem State.gensFollow_offLanes (s : State) : s.gensFollow.offLanes f = s.offLanes f :=
  State.each_proj (fun s => s.offLanes f) State.genUpdate (State.genUpdate_offLanes low) _ s

end

/-- The receiver of lane `m` adapts. -/
def State.trains (s : State) (m : Nat) : Prop := (s.lanes.lane m).training = true

theorem State.trains_of_lanes {s v : State} {m : Nat} (same : s.lanes = v.lanes) (trains : v.trains m) : s.trains m := by
  unfold State.trains
  rwa [same]

theorem State.modLane_trains {s : State} {m : Nat} (n : Nat) (f : LaneSt → LaneSt) (keeps : ∀ l, l.training = true → (f l).training = true)
    (trains : s.trains m) : (s.modLane n f).trains m := by
  unfold State.trains
  by_cases here : m = n
  · subst here
    rw [State.modLane_lane]
    exact keeps _ trains
  · rw [State.modLane_lane_other _ _ here]
    exact trains

/-- A receiver started adapts, and one that adapts goes on while another is started. -/
theorem State.rxStart_trains {s : State} {n m : Nat} (trains : m = n ∨ s.trains m) : (s.rxStart n).trains m := by
  unfold State.rxStart State.trains
  extract_lets seed e v
  have lanes : v.lanes = (s.modLane n (fun l => { l with rxSt := 1 })).lanes := (State.setLock_lanes ..).trans (State.showRx_lanes ..)
  clear_value v
  by_cases here : m = n
  · rw [here, State.modLane_lane]
  · rw [State.modLane_lane_other _ _ here, lanes, State.modLane_lane_other _ _ here]
    exact trains.resolve_left here

/-- An operation for each element of a list keeps what it keeps for one element. -/
theorem State.each_keeps {α : Type} {p : State → Prop} {f : State → α → State} (h : ∀ s a, p s → p (f s a)) :
    ∀ (l : List α) (s : State), p s → p (s.each l f)
  | [], _, holds => holds
  | a :: r, s, holds => State.each_keeps h r (f s a) (h s a holds)

theorem State.rxStarts_trains {m : Nat} : ∀ (l : List Nat) (s : State), m ∈ l → (s.each l State.rxStart).trains m
  | [], _, listed => absurd listed List.not_mem_nil
  | n :: r, s, listed => (List.mem_cons.mp listed).elim
      (fun here => State.each_keeps (fun s n h => State.rxStart_trains (s := s) (n := n) (.inr h)) r (s.rxStart n) (State.rxStart_trains (.inl here)))
      (fun later => State.rxStarts_trains r (s.rxStart n) later)

theorem State.portRx_keeps {s : State} {m : Nat} (x : Nat) (trains : s.trains m) : (s.portRx x).trains m :=
  State.each_keeps (fun s n h => State.rxStart_trains (s := s) (n := n) (.inr h)) _ s trains

theorem State.portRx_trains (s : State) {x m : Nat} (own : 48 + 4 * x ≤ m ∧ m < 52 + 4 * x) : (s.portRx x).trains m := by
  refine State.rxStarts_trains _ s ?_
  simp only [List.mem_cons, List.not_mem_nil, or_false]
  omega

theorem State.genMark_trains {s : State} {m : Nat} (c : Bool) (n : Nat) (x : State → TowSrc) (keep : Bool) (trains : s.trains m) :
    (s.when c (fun s => s.towMark n (x s) keep)).trains m :=
  State.trains_of_lanes (State.when_proj State.lanes s c (fun _ => rfl)) trains

theorem State.genStart_trains {s : State} {m : Nat} (n : Nat) (c : GenRun) (trains : s.trains m) : (s.genStart n c).trains m := by
  unfold State.genStart
  extract_lets v at_ w _ x
  have marked : v.trains m := State.genMark_trains _ (n - 56) (fun s => s.towSrc (n - 56)) false trains
  have lane : w.trains m := State.modLane_trains n _ (fun _ h => h) marked
  have seeded : x.trains m := by
    simp only [x]
    split
    · exact State.modLane_trains (s := w) n (fun l => { l with seedNo := w.choices }) (fun _ h => h) lane
    · exact lane
  exact State.rxStart_trains (.inr seeded)

/-- The generators leave no receiver that adapts (R333). -/
theorem State.genUpdate_trains {s : State} {m : Nat} (n : Nat) (trains : s.trains m) : (s.genUpdate n).trains m := by
  have marked := State.genMark_trains (decide (56 ≤ n)) (n - 56) (fun s => s.towSrc (n - 56)) false trains
  unfold State.genUpdate
  extract_lets c v w
  have lane : w.trains m := State.modLane_trains n _ (fun _ h => h) marked
  clear_value w
  split
  · exact trains
  · split
    · exact State.rxStart_trains (.inr lane)
    · exact lane
  · split
    · split
      · exact trains
      · exact State.modLane_trains n _ (fun _ h => h) marked
    · exact State.genStart_trains n _ trains
  · exact State.genStart_trains n _ trains

theorem State.gensFollow_trains {s : State} {m : Nat} (trains : s.trains m) : s.gensFollow.trains m :=
  State.each_keeps (fun s n h => State.genUpdate_trains (s := s) n h) _ s trains

/-! The weir and the links (R124 to R126). -/

section
variable {s : State} (t : Nat) (alive : s.alive = true)
include alive

theorem exec_loopbackPass : exec (.loopbackPass t) s = .next (if s.ring.training.isSome then (s.tick t).loopPass.gensFollow.bootWeir else s.tick t) :=
  State.live_alive t (fun s => if s.ring.training.isSome then s.loopPass.gensFollow.bootWeir else s) alive

theorem exec_loopbackTimeout : exec (.loopbackTimeout t) s = .next (if s.ring.training.isSome then (s.tick t).loopFail.gensFollow.bootWeir else s.tick t) :=
  State.live_alive t (fun s => if s.ring.training.isSome then s.loopFail.gensFollow.bootWeir else s) alive

theorem exec_weirRetry : exec (.weirRetry t) s = .next (if s.ring.retryFrom.isSome then (s.tick t).loopRetry.gensFollow else s.tick t) :=
  State.live_alive t (fun s => if s.ring.retryFrom.isSome then s.loopRetry.gensFollow else s) alive

theorem exec_linkUp {x : Nat} (valid : x < 2) (tr : List LinkTrain) : exec (.linkUp t ⟨x, tr⟩) s = .next ((s.tick t).linkUp x tr) :=
  (State.live_alive t (fun s => if x < 2 then s.linkUp x tr else s) alive).trans (by rw [if_pos valid])

theorem exec_linkDown {x : Nat} (valid : x < 2) (cause : Nat) : exec (.linkDown t x cause) s = .next ((s.tick t).linkDown x cause) :=
  (State.live_alive t (fun s => if x < 2 then s.linkDown x cause else s) alive).trans (by rw [if_pos valid])

end

/-- A projection that no step of the boot timeline changes stands while the timeline goes on (R102). -/
theorem State.bootAdvance_proj {β : Type} (p : State → β) (step : ∀ k s, p (s.bootStep k) = p s) (panel : ∀ s, p s.bootPanel = p s) (s : State) :
    p s.bootAdvance = p s := by
  unfold State.bootAdvance
  split
  · rfl
  · extract_lets s1 s2 s3
    have h1 : p s1 = p s := State.when_proj p s _ (step 10)
    have h2 : p s2 = p s1 := State.when_proj p s1 _ (step 11)
    have h3 : p s3 = p s2 := State.when_proj p s2 _ (step 12)
    exact (State.when_proj p s3 _ panel).trans (h3.trans (h2.trans h1))

/-- The ring, and whether the boot step of the weir has been passed. -/
def State.weirBoot (s : State) : RingSt × Bool := (s.ring, s.img.weirStep)

theorem State.bootStep_weirBoot (s : State) (k : Nat) : (s.bootStep k).weirBoot = s.weirBoot := by
  unfold State.weirBoot State.bootStep
  rw [State.raise_ring, State.raise_img, State.wr_ring, State.wr_img]

theorem State.panelBoot_weirBoot (s : State) : s.panelBoot.weirBoot = s.weirBoot := by
  unfold State.panelBoot
  extract_lets v
  split <;> rfl

theorem State.bootPanel_weirBoot (s : State) : s.bootPanel.weirBoot = s.weirBoot := by
  have lanes (u : State) (x : LanesSt) (n : Nat) : (State.panelBoot { u with lanes := x, choices := n }).weirBoot = u.weirBoot := State.panelBoot_weirBoot _
  have marked (u : State) : State.weirBoot { u with img := { u.img with panelStep := true } } = u.weirBoot := rfl
  exact (marked _).trans ((lanes (s.bootStep 13) _ _).trans (s.bootStep_weirBoot 13))

/-- The end of loopback training passes the boot step and leaves the ring (R102). -/
theorem State.bootWeir_weirBoot (s : State) : s.bootWeir.weirBoot = (s.ring, true) :=
  State.bootAdvance_proj State.weirBoot (fun k s => s.bootStep_weirBoot k) State.bootPanel_weirBoot _

/-- The weir, the loopback training and its retry. -/
def RingSt.weir (r : RingSt) : Bool × Option Nat × Option Nat := (r.weirOpen, r.training, r.retryFrom)

theorem State.portRx_ring (s : State) (x : Nat) : (s.portRx x).ring = s.ring :=
  State.ring_of_offLanes (State.portRx_offLanes (f := F.RING_STATUS_LOOP_OK) (by decide) s x)

theorem State.gensFollow_ring (s : State) : s.gensFollow.ring = s.ring :=
  State.ring_of_offLanes (State.gensFollow_offLanes (f := F.RING_STATUS_LOOP_OK) (by decide) s)

theorem State.modPort_weir (s : State) (x : Nat) (f : RingPort → RingPort) : (s.modPort x f).ring.weir = s.ring.weir := rfl

theorem State.linkDown_weir (s : State) (x cause : Nat) : (s.linkDown x cause).ring.weir = s.ring.weir := by
  unfold State.linkDown
  extract_lets was v w
  have down : v.ring.weir = s.ring.weir := rfl
  have trains : w.ring.weir = s.ring.weir := by
    simp only [w]
    split
    · exact (congrArg RingSt.weir (v.portRx_ring x)).trans down
    · exact down
  clear_value w
  split
  · rfl
  · split
    · exact trains
    · exact trains

theorem State.weirTo_weir (s : State) (isOpen : Bool) (cause : Nat) : (s.weirTo isOpen cause).ring.weir = (isOpen, s.ring.training, s.ring.retryFrom) := by
  unfold State.weirTo
  extract_lets _ a b c d e
  split
  · next same => exact congrArg (fun b => (b, s.ring.training, s.ring.retryFrom)) same
  · have opened : a.ring.weir = (isOpen, s.ring.training, s.ring.retryFrom) := rfl
    have shown : b.ring = a.ring := (State.raise_ring ..).trans (a.wr_ring ..)
    have clocked : c.ring = b.ring := by
      simp only [c]
      split
      · exact b.wr_ring ..
      · rfl
    have down : d.ring.weir = c.ring.weir := (State.linkDown_weir ..).trans (c.linkDown_weir 0 3)
    have ports : e.ring.weir = d.ring.weir := (State.modPort_weir ..).trans (d.modPort_weir ..)
    have weir : e.ring.weir = (isOpen, s.ring.training, s.ring.retryFrom) := by rw [ports, down, clocked, shown, opened]
    clear_value e
    split
    · rw [State.portRx_ring, State.portRx_ring, weir]
    · exact weir

/-- A passed loopback opens the weir unless FORCE_BYPASS keeps it closed, and ends the training (R124). -/
theorem State.loopPass_weir {s : State} (trains : s.ring.training.isSome = true) :
    s.loopPass.ring.weir = (s.ring.weirOpen || s.cm F.RING_WEIR_FORCE_BYPASS != 1, none, none) := by
  unfold State.loopPass
  extract_lets _ v w
  have ended : w.ring = v.ring := v.wr_ring ..
  have bypass : w.cm F.RING_WEIR_FORCE_BYPASS = s.cm F.RING_WEIR_FORCE_BYPASS := rfl
  rw [if_neg (by simp [Option.isSome_iff_ne_none.mp trains]), bypass]
  by_cases forced : s.cm F.RING_WEIR_FORCE_BYPASS = 1
  · rw [if_pos forced, ended, forced]
    exact congrArg (fun b => (b, none, none)) (Bool.or_false _).symm
  · rw [if_neg forced, State.weirTo_weir, ended, bne_iff_ne.mpr forced, Bool.or_true]

/-- A failed loopback leaves the weir; it is tried again (R124). -/
theorem State.loopFail_weir {s : State} (trains : s.ring.training.isSome = true) : s.loopFail.ring.weir = (s.ring.weirOpen, none, some s.clk.now) := by
  unfold State.loopFail
  extract_lets _ v
  rw [if_neg (by simp [Option.isSome_iff_ne_none.mp trains])]
  obtain ⟨led, evt, recover, noted⟩ := (v.raise 0x402 bRING 0 3).noteFaultIn_eq 0x402 false
  exact congrArg (fun s => s.ring.weir) noted

/-- Loopback training begins on the eight ring lanes (R124). -/
theorem State.loopStart_begins (s : State) : s.loopStart.ring = { s.ring with training := some s.clk.now, retryFrom := none } ∧
    s.loopStart.rd F.RING_STATUS_LOOP_OK = 0 ∧ ∀ m, 48 ≤ m → m < 56 → s.loopStart.trains m := by
  unfold State.loopStart
  extract_lets v
  have off : v.offLanes F.RING_STATUS_LOOP_OK = s.offLanes F.RING_STATUS_LOOP_OK :=
    (State.portRx_offLanes (by decide) _ 1).trans (State.portRx_offLanes (by decide) s 0)
  have ring : v.ring = s.ring := State.ring_of_offLanes off
  have now : v.clk.now = s.clk.now := congrArg (fun x => x.2.2.now) (State.stamps_of_offLanes off)
  have trains : ∀ m, 48 ≤ m → m < 56 → v.trains m := by
    intro m first last
    by_cases east : m < 52
    · exact State.portRx_keeps 1 (s.portRx_trains (x := 0) ⟨first, east⟩)
    · exact State.portRx_trains _ (x := 1) ⟨Nat.not_lt.mp east, last⟩
  clear_value v
  exact ⟨congrArg₂ (fun (r : RingSt) n => { r with training := some n, retryFrom := none }) ring now,
    State.rd_wr v F.RING_STATUS_LOOP_OK 0 (by decide) (by decide), trains⟩

theorem State.rd_linkFld (s : State) (x : Nat) : (s.wr (linkFld x) 1).rd (linkFld x) = 1 := by
  unfold linkFld
  split
  · exact s.rd_wr F.RING_STATUS_E_LINK 1 (by decide) (by decide)
  · exact s.rd_wr F.RING_STATUS_W_LINK 1 (by decide) (by decide)

theorem State.linked_stamps (s : State) (x : Nat) (f : RingPort → RingPort) (g : Fld) (v : Nat) : ((s.modPort x f).wr g v).stamps = s.stamps := rfl

/-- A link comes up behind an open weir (R125). -/
theorem State.linkUp_up {s : State} {x : Nat} (valid : x < 2) (opened : s.ring.weirOpen = true) (trains : (s.ring.port x).link = 1) (tr : List LinkTrain) :
    let media := s.cm (if x = 0 then F.RING_PORT_CFG_E_MEDIA else F.RING_PORT_CFG_W_MEDIA)
    ∃ v : State, s.linkUp x tr = ((v.modPort x (fun p => { p with link := 2 })).wr (linkFld x) 1).raiseI 0x400 bRING x x media ∧
      v.offLanes F.RING_STATUS_LOOP_OK = s.offLanes F.RING_STATUS_LOOP_OK ∧ (2 ≤ media → v = s) := by
  unfold State.linkUp
  extract_lets media v
  have low : F.RING_STATUS_LOOP_OK.addr < 0xD0000 := by decide
  have trained : v.offLanes F.RING_STATUS_LOOP_OK = s.offLanes F.RING_STATUS_LOOP_OK :=
    State.when_proj (fun s => s.offLanes F.RING_STATUS_LOOP_OK) s _
      (fun s => State.each_proj (fun s => s.offLanes F.RING_STATUS_LOOP_OK) _ (fun s _ => State.laneTrain_offLanes low s ..) _ s)
  rw [if_neg (by simp only [opened, trains, not_true, ne_eq, or_false]; omega)]
  exact ⟨v, rfl, trained, fun optical => if_neg fun few => Nat.not_lt.mpr optical (of_decide_eq_true few)⟩

theorem State.linkUp_off {s : State} {x : Nat} (tr : List LinkTrain) (off : s.ring.weirOpen = false ∨ (s.ring.port x).link ≠ 1) : s.linkUp x tr = s :=
  if_pos (.inr (off.imp_left (by simp)))

theorem State.linkDown_off {s : State} {x : Nat} (cause : Nat) (off : (s.ring.port x).link = 0) : s.linkDown x cause = s := if_pos (.inr off)

theorem State.linkDown_on {s : State} {x : Nat} (valid : x < 2) (cause : Nat) (linked : (s.ring.port x).link ≠ 0) : s.linkDown x cause =
    (let v := s.modPort x (fun p => { p with link := if s.ring.weirOpen then 1 else 0, arriving := [], wire := none, busy := 0 })
     let w := if s.ring.weirOpen then v.portRx x else v
     if (s.ring.port x).link = 2 ∨ cause = 2 then (w.wr (linkFld x) 0).raiseI 0x401 bRING x x cause else w.wr (linkFld x) 0) :=
  if_neg (by omega)

end Sys2Proof.Machine

namespace Sys2Proof.Proofs

open Machine Safety Claims

/-- Settles O17. -/
theorem loopbackAndLinks : Obligations.LoopbackAndLinks := by
  intro s t x cause tr alive
  rw [exec_loopbackPass t alive, exec_loopbackTimeout t alive, exec_weirRetry t alive]
  refine ⟨fun since trains => ?_, fun since trains => ?_, fun idle => ?_, fun waits => ?_, fun idle => ?_, fun valid opened trains => ?_, fun valid off => ?_,
    fun valid linked => ?_, fun valid off => ?_⟩
  · have isSome : s.ring.training.isSome = true := by simp [trains]
    obtain ⟨ring, step⟩ := Prod.mk.inj (State.bootWeir_weirBoot (s.tick t).loopPass.gensFollow)
    have weir : (s.tick t).loopPass.gensFollow.bootWeir.ring.weir = _ :=
      (congrArg RingSt.weir (ring.trans (State.gensFollow_ring _))).trans (State.loopPass_weir (s := s.tick t) isSome)
    rw [if_pos isSome]
    simp only [RingSt.weir, Prod.mk.injEq] at weir
    obtain ⟨opens, training, retry⟩ := weir
    exact ⟨_, rfl, opens, training, retry, step⟩
  · have isSome : s.ring.training.isSome = true := by simp [trains]
    obtain ⟨ring, step⟩ := Prod.mk.inj (State.bootWeir_weirBoot (s.tick t).loopFail.gensFollow)
    have weir : (s.tick t).loopFail.gensFollow.bootWeir.ring.weir = _ :=
      (congrArg RingSt.weir (ring.trans (State.gensFollow_ring _))).trans (State.loopFail_weir (s := s.tick t) isSome)
    rw [if_pos isSome]
    simp only [RingSt.weir, Prod.mk.injEq, s.tick_now t] at weir
    obtain ⟨stands, training, retry⟩ := weir
    exact ⟨_, rfl, stands, training, retry, step⟩
  · rw [if_neg (by simp [idle]), if_neg (by simp [idle])]
    exact ⟨rfl, rfl⟩
  · have retries : (s.tick t).loopRetry = (s.tick t).loopStart := if_pos waits
    obtain ⟨ring, shown, trains⟩ := (s.tick t).loopStart_begins
    have off := State.gensFollow_offLanes (f := F.RING_STATUS_LOOP_OK) (by decide) (s.tick t).loopStart
    rw [if_pos waits, retries]
    rw [s.tick_now t] at ring
    exact ⟨_, rfl, (State.rd_of_offLanes off).trans shown, (State.ring_of_offLanes off).trans ring,
      fun n first last => State.gensFollow_trains (trains n first last)⟩
  · rw [if_neg (by simp [idle])]
  · intro media
    obtain ⟨v, up, off, optical⟩ := State.linkUp_up (s := s.tick t) valid opened trains tr
    rw [exec_linkUp t alive valid, up]
    refine ⟨fun kind => congrArg _ (by rw [optical kind]; rfl), _, rfl, ?_, ?_, ?_⟩
    · exact congrArg (fun r : RingSt => { r with ports := modAt r.ports x (fun p => { p with link := 2 }) }) (State.ring_of_offLanes off)
    · exact (State.raiseI_rd ..).trans (State.rd_linkFld _ x)
    · exact State.raiseI_evt_congr ((v.linked_stamps ..).trans (State.stamps_of_offLanes off)) ..
  · rw [exec_linkUp t alive valid, State.linkUp_off (s := s.tick t) tr off]
  · rw [exec_linkDown t alive valid, State.linkDown_on (s := s.tick t) valid cause linked]
    rfl
  · rw [exec_linkDown t alive valid, State.linkDown_off (s := s.tick t) cause off]

end Sys2Proof.Proofs

namespace Sys2Proof.Machine

open Safety Claims

/-! The selection of a master (R140, R144, R146). -/

section
variable {s : State} (t : Nat) (alive : s.alive = true)
include alive

theorem exec_ptpAnnounce : exec (.ptpAnnounce t) s = .next (s.tick t).announce := State.live_alive t State.announce alive

theorem exec_announceTimeout : exec (.announceTimeout t) s = .next (s.tick t).announceTimeout := State.live_alive t State.announceTimeout alive

theorem exec_timePortTimeout (missed : Nat) : exec (.timePortTimeout t missed) s = .next ((s.tick t).timePortTimeout missed) :=
  State.live_alive t (fun s => s.timePortTimeout missed) alive

end

/-- What the selection of a master reads and changes of the slave clock, with the ring and the clock beside it. -/
structure Picked where
  ring    : RingSt
  clk     : Clk
  master  : Option Master
  masters : List Master
  integ   : Int
  ff      : Int

def State.picked (s : State) : Picked :=
  { ring := s.ring, clk := s.clk, master := s.time.master, masters := s.time.masters, integ := s.time.integ, ff := s.time.ff }

theorem State.wr_picked (s : State) (f : Fld) (v : Nat) : (s.wr f v).picked = s.picked := rfl

theorem State.raise_picked (s : State) (code block arg0 arg1 : Nat) : (s.raise code block arg0 arg1).picked = s.picked := rfl

theorem State.unlock_picked (s : State) (cause : Nat) : (s.unlock cause).picked = s.picked := by
  unfold State.unlock
  split
  · rfl
  · exact (State.raise_picked ..).trans (s.wr_picked ..)

theorem State.unlock_unlocked (s : State) (cause : Nat) : (s.unlock cause).rd F.TIME_STATUS_LOCKED = 0 := by
  unfold State.unlock
  split
  · assumption
  · exact (State.raise_rd ..).trans (s.rd_wr F.TIME_STATUS_LOCKED 0 (by decide) (by decide))

theorem State.showGm_picked (s : State) (id : Nat) : (s.showGm id).picked = s.picked := rfl

theorem State.setRate_picked (s : State) (u : Int) : (s.setRate u).picked = { s.picked with clk := { s.clk with rate := u } } := rfl

theorem State.firstPort_picked (s : State) (y : SyncSeen) : (s.firstPort y).picked = s.picked := rfl

theorem State.enterFreeRun_picked (s : State) :
    s.enterFreeRun.picked = { s.picked with clk := { s.clk with rate := s.time.integ + s.time.ff }, master := none } := by
  have unlocked := s.unlock_picked 2
  unfold State.enterFreeRun
  extract_lets a _ b c d
  have freed : b.picked = { a.picked with master := none } := rfl
  have shown : c.picked = b.picked := (State.wr_picked ..).trans (b.wr_picked ..)
  have rated : d.picked = { c.picked with clk := { c.picked.clk with rate := c.picked.integ + c.picked.ff } } := c.setRate_picked _
  rw [State.raise_picked, rated, shown, freed, unlocked]
  rfl

theorem State.selectMaster_picked (s : State) (m : Master) : (s.selectMaster m).picked = { s.picked with master := some m } := by
  have unlocked := s.unlock_picked 3
  unfold State.selectMaster
  extract_lets a _ b c d
  have taken : b.picked = { a.picked with master := some m } := rfl
  have ported : c.picked = b.picked := by
    simp only [c]
    cases m.sync with
    | none => rfl
    | some y => exact b.firstPort_picked y
  have shown : d.picked = c.picked := (State.wr_picked ..).trans ((State.wr_picked ..).trans (c.wr_picked ..))
  rw [State.raise_picked, State.showGm_picked, shown, ported, taken, unlocked]

/-- The selection takes the best of the qualified masters, and none where none is qualified. -/
theorem State.runBmca_picked (s : State) : ∃ clk, s.runBmca.picked =
    { s.picked with clk := clk, master := bestMaster s.time.masters s.clk.now (s.time.master.map Master.portId) } := by
  unfold State.runBmca
  cases bestMaster s.time.masters s.clk.now (s.time.master.map Master.portId) with
  | none =>
    cases master : s.time.master with
    | none => exact ⟨s.clk, by simp [State.picked, master]⟩
    | some c => exact ⟨_, s.enterFreeRun_picked⟩
  | some m =>
    refine ⟨s.clk, ?_⟩
    cases s.time.master with
    | none => exact s.selectMaster_picked m
    | some c =>
      by_cases same : c.portId = m.portId
      · simp only [same, if_true]
        split
        · rfl
        · exact State.showGm_picked ..
      · simp only [same, if_false]
        exact s.selectMaster_picked m

theorem State.runBmca_ring (s : State) : s.runBmca.ring = s.ring := by
  obtain ⟨clk, picked⟩ := s.runBmca_picked
  exact (congrArg Picked.ring picked :)

theorem State.runBmca_masters (s : State) : s.runBmca.time.masters = s.time.masters := by
  obtain ⟨clk, picked⟩ := s.runBmca_picked
  exact (congrArg Picked.masters picked :)

theorem State.runBmca_integ (s : State) : s.runBmca.time.integ = s.time.integ := by
  obtain ⟨clk, picked⟩ := s.runBmca_picked
  exact (congrArg Picked.integ picked :)

theorem State.runBmca_master (s : State) :
    s.runBmca.time.master = bestMaster s.time.masters s.clk.now (s.time.master.map Master.portId) := by
  obtain ⟨clk, picked⟩ := s.runBmca_picked
  exact (congrArg Picked.master picked :)

/-- Without a master in force the clock stays free, or one is selected. -/
theorem State.runBmca_free {s : State} (free : s.time.master = none) : s.runBmca = s ∨ ∃ m, s.runBmca = s.selectMaster m := by
  unfold State.runBmca
  rw [free, Option.map_none]
  cases bestMaster s.time.masters s.clk.now none with
  | none => exact .inl rfl
  | some m => exact .inr ⟨m, rfl⟩

/-! TIME_STATUS through the selection (R144, R146). -/

/-- A write in TIME_STATUS beside LOCKED. -/
theorem State.wr_locked (s : State) {f : Fld} (v : Nat) (beside : f.addr = R.TIME_STATUS ∧ 0 < f.lo ∧ f.lo ≤ f.hi ∧ f.hi < 32) :
    (s.wr f v).rd F.TIME_STATUS_LOCKED = s.rd F.TIME_STATUS_LOCKED := by
  obtain ⟨addr, above, order, inside⟩ := beside
  exact s.rd_wr_beside f F.TIME_STATUS_LOCKED v (by omega) inside addr.symm (.inr above)

theorem State.setRate_rd (s : State) (u : Int) {f : Fld} (other : f.addr ≠ R.TIME_FREQ) : (s.setRate u).rd f = s.rd f :=
  s.rd_wr_other F.TIME_FREQ_VALUE f _ other

theorem State.showGm_rd (s : State) (id : Nat) {f : Fld} (other : f.addr ≠ R.TIME_GM0 ∧ f.addr ≠ R.TIME_GM1) : (s.showGm id).rd f = s.rd f :=
  (State.rd_wr_other _ F.TIME_GM1_ID f _ other.2).trans (s.rd_wr_other F.TIME_GM0_ID f _ other.1)

theorem State.enterFreeRun_shows (s : State) : s.enterFreeRun.rd F.TIME_STATUS_LOCKED = 0 ∧ s.enterFreeRun.rd F.TIME_STATUS_FREE_RUN = 1 := by
  have unlocked := s.unlock_unlocked 2
  unfold State.enterFreeRun
  extract_lets a _ b c d
  have same : b.rd F.TIME_STATUS_LOCKED = a.rd F.TIME_STATUS_LOCKED := rfl
  have shown : c.rd F.TIME_STATUS_LOCKED = b.rd F.TIME_STATUS_LOCKED := (State.wr_locked _ _ (by decide)).trans (b.wr_locked _ (by decide))
  have free : c.rd F.TIME_STATUS_FREE_RUN = 1 :=
    (State.rd_wr_beside _ F.TIME_STATUS_STATE F.TIME_STATUS_FREE_RUN 1 (by decide) (by decide) rfl (by decide)).trans
      (b.rd_wr F.TIME_STATUS_FREE_RUN 1 (by decide) (by decide))
  rw [State.raise_rd, State.raise_rd, c.setRate_rd _ (by decide), c.setRate_rd _ (by decide), shown, same, unlocked, free]
  exact ⟨rfl, rfl⟩

theorem State.selectMaster_shows (s : State) (m : Master) :
    (s.selectMaster m).rd F.TIME_STATUS_LOCKED = 0 ∧ (s.selectMaster m).rd F.TIME_STATUS_FREE_RUN = 0 := by
  have unlocked := s.unlock_unlocked 3
  unfold State.selectMaster
  extract_lets a _ b c d
  have ported : c.rd F.TIME_STATUS_LOCKED = a.rd F.TIME_STATUS_LOCKED := by
    simp only [c]
    cases m.sync with
    | none => rfl
    | some y => exact State.wr_locked _ _ (by decide)
  have shown : d.rd F.TIME_STATUS_LOCKED = c.rd F.TIME_STATUS_LOCKED :=
    (State.wr_locked _ _ (by decide)).trans ((State.wr_locked _ _ (by decide)).trans (c.wr_locked _ (by decide)))
  have driven : d.rd F.TIME_STATUS_FREE_RUN = 0 :=
    (State.rd_wr_beside _ F.TIME_STATUS_STATE F.TIME_STATUS_FREE_RUN 2 (by decide) (by decide) rfl (by decide)).trans
      ((State.rd_wr_beside _ F.TIME_STATUS_TIME_SET F.TIME_STATUS_FREE_RUN 1 (by decide) (by decide) rfl (by decide)).trans
        (c.rd_wr F.TIME_STATUS_FREE_RUN 0 (by decide) (by decide)))
  rw [State.raise_rd, State.raise_rd, d.showGm_rd _ (by decide), d.showGm_rd _ (by decide), shown, ported, unlocked, driven]
  exact ⟨rfl, rfl⟩

/-! Announces (R137, R140) and their timeout (R146). -/

/-- The PTP messages left in the queue once one is taken. -/
def State.leavePtp (s : State) (r : List PtpMsg) : State := { s with ring := { s.ring with ptp := r } }

/-- The master of a port identity, in the list of those heard. -/
def State.masterOf (s : State) (id : Nat) : Option Master := s.time.masters.find? (fun y => y.portId == id)

/-- The master that an Announce enters in the list, with what the list held of it. -/
def PtpMsg.master (p : PtpMsg) (now : Nat) (old : Option Master) : Master :=
  { portId := ptpPort p.msg, gmId := beAt p.msg 53 8, rank := announceRank p.msg, logInt := ptpLog p.msg, lastSeq := beAt p.msg 30 2, lastAt := now,
    prevAt := old.map Master.lastAt, addr := p.src, mac := p.mac, syncOk := (old.map Master.syncOk).getD true, sync := old.bind Master.sync }

/-- The list with a master entered in place of the one of its port identity. -/
def State.enterMaster (s : State) (x : Master) : State :=
  { s.dropMaster x.portId with time := { (s.dropMaster x.portId).time with masters := x :: (s.dropMaster x.portId).time.masters } }

theorem State.announce_idle {s : State} (idle : takePtp isAnnounce s.ring.ptp = none) : s.announce = s := by
  have waits : takePtp (fun m => beAt m.msg 0 1 % 16 == 11) s.ring.ptp = none := idle
  unfold State.announce
  rw [waits]

section
variable {s : State} {p : PtpMsg} {r : List PtpMsg} (taken : takePtp isAnnounce s.ring.ptp = some (p, r))
include taken

theorem State.announce_taken : s.announce =
    if ¬ s.ptpOurs p.msg ∨ p.msg.length < 64 ∨ ¬ s.ring.weirOpen then s.leavePtp r
    else if ptpLog p.msg < -3 ∨ 3 < ptpLog p.msg then ((s.leavePtp r).dropMaster (ptpPort p.msg)).runBmca
    else if (s.masterOf (ptpPort p.msg)).any (fun o => o.lastSeq == beAt p.msg 30 2) then s.leavePtp r
    else ((s.leavePtp r).enterMaster (p.master s.clk.now (s.masterOf (ptpPort p.msg)))).runBmca := by
  have waits : takePtp (fun m => beAt m.msg 0 1 % 16 == 11) s.ring.ptp = some (p, r) := taken
  unfold State.announce State.masterOf
  rw [waits]
  dsimp only
  generalize s.time.masters.find? (fun y => y.portId == ptpPort p.msg) = old
  cases old <;> rfl

theorem State.announce_foreign (foreign : s.ptpOurs p.msg = false ∨ p.msg.length < 64 ∨ s.ring.weirOpen = false) : s.announce = s.leavePtp r :=
  (State.announce_taken taken).trans (if_pos (by simpa using foreign))

variable (ours : s.ptpOurs p.msg = true) (whole : 64 ≤ p.msg.length) (opened : s.ring.weirOpen = true)
include ours whole opened

theorem State.announce_removes (outside : ptpLog p.msg < -3 ∨ 3 < ptpLog p.msg) : s.announce = ((s.leavePtp r).dropMaster (ptpPort p.msg)).runBmca := by
  rw [State.announce_taken taken, if_neg (by simp [ours, whole, opened]), if_pos outside]

variable (above : -3 ≤ ptpLog p.msg) (below : ptpLog p.msg ≤ 3)
include above below

theorem State.announce_repeated {o : Master} (old : s.masterOf (ptpPort p.msg) = some o) (same : o.lastSeq = beAt p.msg 30 2) :
    s.announce = s.leavePtp r := by
  rw [State.announce_taken taken, if_neg (by simp [ours, whole, opened]), if_neg (by omega), old, if_pos (by simpa using same)]

theorem State.announce_enters (fresh : ∀ o, s.masterOf (ptpPort p.msg) = some o → o.lastSeq ≠ beAt p.msg 30 2) :
    s.announce = ((s.leavePtp r).enterMaster (p.master s.clk.now (s.masterOf (ptpPort p.msg)))).runBmca := by
  rw [State.announce_taken taken, if_neg (by simp [ours, whole, opened]), if_neg (by omega), if_neg (by simpa [Option.any_eq_true] using fresh)]

end

/-- After the loss of the master the best of the others is selected; without one the clock runs free, at the rate of R146 in either case. -/
theorem State.freeRun_selects {s u : State} (runs : u = s.enterFreeRun.runBmca) :
    u.time.masters = s.time.masters ∧ u.time.master = bestMaster u.time.masters s.clk.now none ∧ u.time.integ = s.time.integ ∧
    u.clk.rate = s.time.integ + s.time.ff ∧
    (u.time.master = none → u.rd F.TIME_STATUS_FREE_RUN = 1) ∧ (u.time.master ≠ none → u.rd F.TIME_STATUS_FREE_RUN = 0) := by
  obtain ⟨-, free⟩ := s.enterFreeRun_shows
  have freed := s.enterFreeRun_picked
  generalize s.enterFreeRun = v at free freed runs
  have lost : v.time.master = none := congrArg Picked.master freed
  have rate : v.clk.rate = s.time.integ + s.time.ff := congrArg (fun x => x.clk.rate) freed
  have now : v.clk.now = s.clk.now := congrArg (fun x => x.clk.now) freed
  have best := v.runBmca_master
  rw [now, lost, ← v.runBmca_masters] at best
  rw [runs]
  refine ⟨v.runBmca_masters.trans (congrArg Picked.masters freed), best, v.runBmca_integ.trans (congrArg Picked.integ freed), ?_⟩
  rcases State.runBmca_free lost with stays | ⟨m, selected⟩
  · rw [stays]
    exact ⟨rate, fun _ => free, fun master => absurd lost master⟩
  · have picked := v.selectMaster_picked m
    rw [selected]
    exact ⟨(congrArg (fun x => x.clk.rate) picked).trans rate,
      fun none => absurd ((congrArg Picked.master picked).symm.trans none) (Option.some_ne_none m), fun _ => (v.selectMaster_shows m).2⟩

theorem State.tick_silent (s : State) (t : Nat) (m : Master) :
    (s.tick t).silent m = decide (m.lastAt + s.cm F.TIME_PTP_CFG_ANN_TIMEOUT * logNs m.logInt ≤ max s.clk.now t) :=
  congrArg (fun n => decide (m.lastAt + s.cm F.TIME_PTP_CFG_ANN_TIMEOUT * logNs m.logInt ≤ n)) (s.tick_now t)

theorem State.announceTimeout_silent {s : State} {m : Master} (master : s.time.master = some m) (silent : s.silent m = true) :
    s.announceTimeout = (s.dropMaster m.portId).enterFreeRun.runBmca := by
  unfold State.announceTimeout
  rw [master]
  exact if_pos silent

theorem State.announceTimeout_heard {s : State} {m : Master} (master : s.time.master = some m) (heard : s.silent m = false) : s.announceTimeout = s := by
  unfold State.announceTimeout
  rw [master]
  exact if_neg (by simp [heard])

theorem State.announceTimeout_free {s : State} (free : s.time.master = none) : s.announceTimeout = s := by
  unfold State.announceTimeout
  rw [free]

/-! The time port (R140). -/

theorem State.timePortTimeout_moves {s : State} (missed : Nat) (master : s.time.master.isSome = true) (heard : s.time.syncHop.getD (1 - s.timePort) 0 ≠ 0)
    (quiet : 3 ≤ s.syncGap s.timePort) (other : s.syncGap (1 - s.timePort) < 3) :
    s.timePortTimeout missed = (s.movePort (1 - s.timePort)).raise 0x508 bTIME (1 - s.timePort) missed := by
  refine if_neg ?_
  simp only [Option.isNone_iff_eq_none, Option.isSome_iff_ne_none.mp master, heard, false_or]
  omega

theorem State.timePortTimeout_stays {s : State} (missed : Nat)
    (stays : s.time.master = none ∨ s.time.syncHop.getD (1 - s.timePort) 0 = 0 ∨ s.syncGap s.timePort < 3 ∨ 3 ≤ s.syncGap (1 - s.timePort)) :
    s.timePortTimeout missed = s := if_pos (by simpa using stays)

end Sys2Proof.Machine

namespace Sys2Proof.Proofs

open Machine Safety Claims

/-- A part of `mastersAndTimePort`. -/
theorem mastersAreSelected : Claims.MastersAreSelected := by
  intro s t alive
  rw [exec_ptpAnnounce t alive, exec_announceTimeout t alive]
  refine ⟨fun idle => by rw [State.announce_idle (s := s.tick t) idle], fun p r taken => ?_,
    fun free => by rw [State.announceTimeout_free (s := s.tick t) free], fun m master early => ?_, fun m master late => ?_⟩
  · intro now id rest old chosen
    have picks (v : State) (same : v.clk = (s.tick t).clk ∧ v.time.master = s.time.master) : chosen v.runBmca := by
      obtain ⟨clk, master⟩ := same
      refine (State.runBmca_master v).trans ?_
      rw [State.runBmca_masters, clk, master, s.tick_now t]
    refine ⟨fun foreign => ?_, fun ours whole opened outside => ?_, fun ours whole opened above below ⟨o, held, same⟩ => ?_,
      fun ours whole opened above below fresh => ?_⟩
    · rw [State.announce_foreign (s := s.tick t) taken foreign]
      rfl
    · rw [State.announce_removes (s := s.tick t) taken ours whole opened outside]
      exact ⟨_, rfl, congrArg RingSt.ptp (State.runBmca_ring _), State.runBmca_masters _, picks _ ⟨rfl, rfl⟩⟩
    · rw [State.announce_repeated (s := s.tick t) taken ours whole opened above below held same]
      rfl
    · rw [State.announce_enters (s := s.tick t) taken ours whole opened above below fresh]
      refine ⟨_, rfl, congrArg RingSt.ptp (State.runBmca_ring _), picks _ ⟨rfl, rfl⟩, (State.runBmca_masters _).trans ?_⟩
      rw [s.tick_now t]
      rfl
  · rw [State.announceTimeout_heard (s := s.tick t) master ((s.tick_silent t m).trans (decide_eq_false (Nat.not_le.mpr early)))]
  · rw [State.announceTimeout_silent (s := s.tick t) master ((s.tick_silent t m).trans (decide_eq_true late))]
    have selects := State.freeRun_selects (s := (s.tick t).dropMaster m.portId) rfl
    have now : ((s.tick t).dropMaster m.portId).clk.now = max s.clk.now t := s.tick_now t
    rw [now] at selects
    exact ⟨_, rfl, selects⟩

/-- A part of `mastersAndTimePort`. -/
theorem timePortMoves : Claims.TimePortMoves := by
  intro s t missed alive p gap
  rw [exec_timePortTimeout t alive]
  exact ⟨fun master heard quiet other => congrArg _ (State.timePortTimeout_moves (s := s.tick t) missed master heard quiet other),
    fun stays => congrArg _ (State.timePortTimeout_stays (s := s.tick t) missed stays)⟩

/-- Settles O20. -/
theorem mastersAndTimePort : Obligations.MastersAndTimePort := ⟨mastersAreSelected, timePortMoves⟩

end Sys2Proof.Proofs

namespace Sys2Proof.Machine

open Safety Claims

/-! The servo (R143 to R145). -/

section
variable {s : State} (t : Nat) (alive : s.alive = true)
include alive

theorem exec_ptpSync : exec (.ptpSync t) s = .next (s.tick t).ptpSync := State.live_alive t State.ptpSync alive

theorem exec_ptpDelayResp : exec (.ptpDelayResp t) s = .next (s.tick t).delayResp := State.live_alive t State.delayResp alive

theorem exec_delayReqTimer : exec (.delayReqTimer t) s = .next (s.tick t).delayReqTimer := State.live_alive t State.delayReqTimer alive

theorem exec_timeLockChange : exec (.timeLockChange t) s = .next (s.tick t).lockChanged := State.live_alive t State.lockChanged alive

end

/-- The path delay that a path sample `sm` and a Sync `ms` from its path give (R143). -/
def State.pathBy (v : State) (ms sm : Int) : Int := match v.time.path with | none => sar (ms + sm) 1 | some p => p + sar (sar (ms + sm) 1 - p) 4

/-- The offset that they give (R143). -/
def State.offsetBy (v : State) (ms sm : Int) : Int := ms - v.pathBy ms sm - v.cmS F.TIME_ASYM_ASYM * 256

/-- An offset of a clock step (R145). -/
abbrev State.steps (v : State) (o : Int) : Prop := (v.cm F.TIME_LOCK_STEP_US : Int) * 65536000 < o.natAbs

/-- An offset inside LOCK_NS (R144). -/
abbrev State.inside (v : State) (o : Int) : Prop := o.natAbs ≤ v.cm F.TIME_LOCK_LOCK_NS * 65536

/-- The integral after a computation; a clock step leaves it (R143, R145). -/
def State.integBy (v : State) (o : Int) : Int :=
  if v.steps o then v.time.integ else clampI (-servoLim) servoLim (v.time.integ + sar (o * (v.cm F.TIME_SERVO_KI : Int)) 8)

/-- The rate after a computation (R143, R145). -/
def State.rateBy (v : State) (o : Int) : Int :=
  clampI (-servoLim) servoLim ((if v.steps o then 0 else sar (o * (v.cm F.TIME_SERVO_KP : Int)) 8) + v.integBy o + v.time.ff)

/-- What the servo holds once it has computed the offset `o` over `path` and the integral. -/
def TimeSt.computed (c : TimeSt) (path o integ : Int) (inside : Prop) [Decidable inside] : TimeSt :=
  { c with path := some path, integ := integ, offset := o, inRun := if inside then c.inRun + 1 else 0, outRun := if inside then 0 else c.outRun + 1 }

/-- A computation has set the servo's terms, the registers and the rate, before any clock step (R143). -/
def State.computed (v : State) (path o integ u : Int) (inside : Prop) [Decidable inside] : State :=
  ((State.wr { v with time := v.time.computed path o integ inside } F.TIME_OFFSET_VALUE (sat32 (sar o 8))).wr F.TIME_PATH_VALUE
    (sat32 (sar path 8))).setRate u

/-- A clock step is held for a lock cycle after the first one, and acts at once before it (R145). -/
def State.stepOrHold (y : State) (o : Int) : State :=
  if y.lock.everOpened then { y with time := { y.time with step := some (-o) } } else y.stepClock (-o)

theorem State.servo_computes {v : State} {sm : Int} (known : v.time.sm = some sm) (ms : Int) :
    let o := v.offsetBy ms sm
    let y := v.computed (v.pathBy ms sm) o (v.integBy o) (v.rateBy o) (v.inside o)
    v.servo ms = if ¬ v.steps o then y else y.stepOrHold o := by
  unfold State.servo
  rw [known]
  unfold State.offsetBy State.rateBy State.integBy State.pathBy State.computed TimeSt.computed State.stepOrHold
  rfl

/-! What a computation holds, for any limit: with the limit itself in the statement, a check would evaluate it. -/

section
variable (v : State) (path o integ u : Int) (inside : Prop) [Decidable inside]

theorem State.computed_path : (v.computed path o integ u inside).time.path = some path := rfl

theorem State.computed_offset : (v.computed path o integ u inside).time.offset = o := rfl

theorem State.computed_integ : (v.computed path o integ u inside).time.integ = integ := rfl

theorem State.computed_ff : (v.computed path o integ u inside).time.ff = v.time.ff := rfl

theorem State.computed_pend : (v.computed path o integ u inside).time.pend = v.time.pend := rfl

theorem State.computed_inRun : (v.computed path o integ u inside).time.inRun = if inside then v.time.inRun + 1 else 0 := rfl

theorem State.computed_outRun : (v.computed path o integ u inside).time.outRun = if inside then 0 else v.time.outRun + 1 := rfl

theorem State.computed_clk : (v.computed path o integ u inside).clk = { v.clk with rate := u } := rfl

theorem State.computed_lock : (v.computed path o integ u inside).lock = v.lock := rfl

theorem State.computed_ring : (v.computed path o integ u inside).ring = v.ring := rfl

end

/-- What a clock step, held or not, leaves of a state (R145). -/
structure State.SameTerms (s y : State) : Prop where
  path   : s.time.path = y.time.path
  offset : s.time.offset = y.time.offset
  integ  : s.time.integ = y.time.integ
  ff     : s.time.ff = y.time.ff
  pend   : s.time.pend = y.time.pend
  inRun  : s.time.inRun = y.time.inRun
  outRun : s.time.outRun = y.time.outRun
  rate   : s.clk.rate = y.clk.rate
  ring   : s.ring = y.ring

theorem State.SameTerms.refl (y : State) : y.SameTerms y := ⟨rfl, rfl, rfl, rfl, rfl, rfl, rfl, rfl, rfl⟩

theorem State.stepOrHold_sameTerms (y : State) (o : Int) : (y.stepOrHold o).SameTerms y := by
  unfold State.stepOrHold
  split
  · exact ⟨rfl, rfl, rfl, rfl, rfl, rfl, rfl, rfl, rfl⟩
  · exact ⟨rfl, rfl, rfl, rfl, rfl, rfl, rfl, rfl, rfl⟩

theorem State.stepOrHold_holds {y : State} (opened : y.lock.everOpened = true) (o : Int) :
    (y.stepOrHold o).time.step = some (-o) ∧ (y.stepOrHold o).clk.devFine = y.clk.devFine := by
  unfold State.stepOrHold
  rw [if_pos opened]
  exact ⟨rfl, rfl⟩

theorem State.stepOrHold_steps {y : State} (early : y.lock.everOpened = false) (o : Int) :
    (y.stepOrHold o).clk.devFine = natOf ((y.clk.devFine : Int) - o * 1000000000) := by
  unfold State.stepOrHold
  rw [if_neg (by simp [early])]
  exact congrArg natOf (by rw [Int.neg_mul]; rfl)

section
variable {v : State} {sm : Int} (known : v.time.sm = some sm) (ms : Int)
include known

/-- Stepping or not, the terms of the servo are those computed. -/
theorem State.servo_sameTerms : (v.servo ms).SameTerms
    (v.computed (v.pathBy ms sm) (v.offsetBy ms sm) (v.integBy (v.offsetBy ms sm)) (v.rateBy (v.offsetBy ms sm)) (v.inside (v.offsetBy ms sm))) := by
  rw [State.servo_computes known ms]
  split
  · exact State.SameTerms.refl _
  · exact State.stepOrHold_sameTerms ..

theorem State.servo_offset : (v.servo ms).time.offset = v.offsetBy ms sm := (State.servo_sameTerms known ms).offset.trans (State.computed_offset ..)

/-- The runs of computations inside and outside LOCK_NS (R144). -/
theorem State.servo_runs :
    (v.inside (v.offsetBy ms sm) → (v.servo ms).time.inRun = v.time.inRun + 1 ∧ (v.servo ms).time.outRun = 0) ∧
    (¬ v.inside (v.offsetBy ms sm) → (v.servo ms).time.inRun = 0 ∧ (v.servo ms).time.outRun = v.time.outRun + 1) := by
  have same := State.servo_sameTerms known ms
  rw [same.inRun, same.outRun, State.computed_inRun, State.computed_outRun]
  exact ⟨fun near => ⟨if_pos near, if_pos near⟩, fun far => ⟨if_neg far, if_neg far⟩⟩

theorem State.servo_within (within : ¬ v.steps (v.offsetBy ms sm)) :
    let o := v.offsetBy ms sm
    (v.servo ms).time.integ = clampI (-servoLim) servoLim (v.time.integ + sar (o * (v.cm F.TIME_SERVO_KI : Int)) 8) ∧
    (v.servo ms).clk = { v.clk with
      rate := clampI (-servoLim) servoLim (sar (o * (v.cm F.TIME_SERVO_KP : Int)) 8 + (v.servo ms).time.integ + v.time.ff) } := by
  intro o
  have integ : v.integBy o = clampI (-servoLim) servoLim (v.time.integ + sar (o * (v.cm F.TIME_SERVO_KI : Int)) 8) := if_neg within
  have rate : v.rateBy o = clampI (-servoLim) servoLim (sar (o * (v.cm F.TIME_SERVO_KP : Int)) 8 + v.integBy o + v.time.ff) := by
    unfold State.rateBy
    rw [if_neg within]
  rw [State.servo_computes known ms, if_pos within, State.computed_clk, State.computed_integ, rate]
  exact ⟨integ, rfl⟩

theorem State.servo_beyond (beyond : v.steps (v.offsetBy ms sm)) :
    let o := v.offsetBy ms sm
    (v.servo ms).time.integ = v.time.integ ∧ (v.servo ms).clk.rate = clampI (-servoLim) servoLim (v.time.integ + v.time.ff) ∧
    (v.lock.everOpened = true → (v.servo ms).time.step = some (-o) ∧ (v.servo ms).clk.devFine = v.clk.devFine) ∧
    (v.lock.everOpened = false → (v.servo ms).clk.devFine = natOf ((v.clk.devFine : Int) - o * 1000000000)) := by
  intro o
  have integ : v.integBy o = v.time.integ := if_pos beyond
  have rate : v.rateBy o = clampI (-servoLim) servoLim (v.time.integ + v.time.ff) := by
    unfold State.rateBy
    rw [if_pos beyond, integ, Int.zero_add]
  rw [State.servo_computes known ms, if_neg (not_not_intro beyond)]
  generalize computed : v.computed _ _ _ _ (v.inside (v.offsetBy ms sm)) = y
  have lock : y.lock = v.lock := by rw [← computed, State.computed_lock]
  have clk : y.clk = { v.clk with rate := v.rateBy o } := by rw [← computed, State.computed_clk]
  have held : y.time.integ = v.integBy o := by rw [← computed, State.computed_integ]
  have same := y.stepOrHold_sameTerms o
  refine ⟨same.integ.trans (held.trans integ), same.rate.trans (by rw [clk, rate]), fun opened => ?_, fun early => ?_⟩
  · rw [(State.stepOrHold_holds (lock ▸ opened) o).1, (State.stepOrHold_holds (lock ▸ opened) o).2, clk]
    exact ⟨rfl, rfl⟩
  · rw [State.stepOrHold_steps (lock ▸ early), clk]

theorem State.servo_servoTerms : servoTerms v (v.servo ms) ms sm := by
  have same := State.servo_sameTerms known ms
  obtain ⟨near, far⟩ := State.servo_runs known ms
  exact ⟨same.path.trans (State.computed_path ..), State.servo_offset known ms, same.ff.trans (State.computed_ff ..), near,
    fun beyond => far (Nat.not_le.mpr beyond), fun within => State.servo_within known ms (Int.not_lt.mpr within), State.servo_beyond known ms⟩

theorem State.servo_ring : (v.servo ms).ring = v.ring := (State.servo_sameTerms known ms).ring.trans (State.computed_ring ..)

theorem State.servo_pend : (v.servo ms).time.pend = v.time.pend := (State.servo_sameTerms known ms).pend.trans (State.computed_pend ..)

end

/-! Syncs (R140, R143). -/

/-- The list of the masters heard, replaced. -/
def State.withMasters (s : State) (masters : List Master) : State := { s with time := { s.time with masters := masters } }

/-- What is noted of Syncs by port, replaced. -/
def State.withSyncs (s : State) (hops ats : List Nat) (int : Int) : State :=
  { s with time := { s.time with syncHop := hops, syncAt := ats, syncInt := int } }

/-- The Sync whose Follow_Up is to come. -/
def PtpMsg.wait (p : PtpMsg) : SyncWait := { seq := beAt p.msg 30 2, t2 := p.at_, corr := ptpCorr p.msg }

/-- A Sync taken: a two-step one is kept, a one-step one runs the servo (R143). -/
def State.takeSync (v : State) (p : PtpMsg) : State :=
  if bitAt (beAt p.msg 6 1) 1 then { v with time := { v.time with pend := some p.wait } } else v.servo ((p.at_ : Int) - ptpStamp p.msg 34 - ptpCorr p.msg)

theorem State.hearSync_unturned {s : State} {p : PtpMsg} {ok : Bool}
    (same : ∀ x ∈ s.time.masters, x.portId = ptpPort p.msg → x.syncOk = ok) : ∃ masters, s.hearSync p ok = s.withMasters masters := by
  have unturned : s.time.masters.any (fun x => x.portId == ptpPort p.msg && x.syncOk != ok) = false := by
    simp only [List.any_eq_false, Bool.and_eq_true, beq_iff_eq, bne_iff_ne, not_and, not_not]
    exact same
  exact ⟨_, if_neg (by simp [unturned])⟩

theorem State.noteSync_set {s : State} (known : s.time.portSet = true) (p : PtpMsg) : ∃ hops ats int, s.noteSync p = s.withSyncs hops ats int :=
  ⟨_, _, _, if_pos known⟩

section
variable {s : State} {ma : Master} {p : PtpMsg} {r : List PtpMsg} (taken : takePtp isSync s.ring.ptp = some (p, r)) (master : s.time.master = some ma)
  (ours : s.ptpOurs p.msg = true) (whole : 44 ≤ p.msg.length) (sender : ptpPort p.msg = ma.portId) (onPort : p.port = s.timePort)
include taken master ours whole sender onPort

theorem State.ptpSync_sync (sync : beAt p.msg 0 1 % 16 = 0) (interval : -7 ≤ ptpLog p.msg ∧ ptpLog p.msg ≤ 1)
    (same : ∀ x ∈ s.time.masters, x.portId = ma.portId → x.syncOk = true) (known : s.time.portSet = true) :
    ∃ masters hops ats int, s.ptpSync = (((s.leavePtp r).withMasters masters).withSyncs hops ats int).takeSync p := by
  obtain ⟨masters, heard⟩ := State.hearSync_unturned (s := s.leavePtp r) (p := p) (ok := true) (sender ▸ same)
  obtain ⟨hops, ats, int, noted⟩ := State.noteSync_set (s := (s.leavePtp r).withMasters masters) known p
  have waits : takePtp (fun m => beAt m.msg 0 1 % 16 == 0 || beAt m.msg 0 1 % 16 == 8) s.ring.ptp = some (p, r) := taken
  have ok : syncIntOk (ptpLog p.msg) = true := decide_eq_true interval
  refine ⟨masters, hops, ats, int, ?_⟩
  unfold State.ptpSync
  split
  · next idle => exact absurd (waits.symm.trans idle) (by simp)
  next q l first =>
  obtain ⟨rfl, rfl⟩ := Prod.mk.inj (Option.some.inj (waits.symm.trans first))
  extract_lets m kind _ a b c
  have isSync : kind = true := beq_iff_eq.mpr sync
  have hears : b = (s.leavePtp r).withMasters masters := (if_pos ⟨isSync, ours⟩).trans (ok ▸ heard)
  clear_value b
  subst hears
  have notes : c = ((s.leavePtp r).withMasters masters).withSyncs hops ats int := noted
  clear_value c
  subst notes
  have selected : ((s.leavePtp r).withMasters masters).time.master = some ma := master
  have cares : ((s.leavePtp r).withMasters masters).ptpOurs m = true := ours
  have here : p.port = ((((s.leavePtp r).withMasters masters).withSyncs hops ats int)).timePort := onPort
  rw [selected]
  dsimp only
  rw [if_neg (by simp [cares, m, sender, whole]), if_pos isSync, if_neg (by simp [m, ok]), if_neg (not_not_intro here)]
  rfl

/-- The Follow_Up of the Sync kept runs the servo. -/
theorem State.ptpSync_followUp {w : SyncWait} (follow : beAt p.msg 0 1 % 16 = 8) (kept : s.time.pend = some w) (seq : w.seq = beAt p.msg 30 2) :
    s.ptpSync = State.servo { s.leavePtp r with time := { s.time with pend := none } } (w.t2 - ptpStamp p.msg 34 - w.corr - ptpCorr p.msg) := by
  have waits : takePtp (fun m => beAt m.msg 0 1 % 16 == 0 || beAt m.msg 0 1 % 16 == 8) s.ring.ptp = some (p, r) := taken
  unfold State.ptpSync
  split
  · next idle => exact absurd (waits.symm.trans idle) (by simp)
  next q l first =>
  obtain ⟨rfl, rfl⟩ := Prod.mk.inj (Option.some.inj (waits.symm.trans first))
  extract_lets m kind _ a b
  have other : kind = false := by simp [kind, m, follow]
  have same : b = s.leavePtp r := if_neg (by simp [other])
  clear_value b
  subst same
  have selected : (s.leavePtp r).time.master = some ma := master
  have waiting : (s.leavePtp r).time.pend = some w := kept
  have cares : (s.leavePtp r).ptpOurs m = true := ours
  have here : p.port = (s.leavePtp r).timePort := onPort
  rw [selected]
  dsimp only
  rw [if_neg (by simp [cares, m, sender, whole]), if_neg (by simp [other]), waiting]
  dsimp only
  rw [if_neg (by simp [seq, here, m])]
  rfl

end

/-! Delay requests and their answers (R141). -/

theorem State.delayResp_answers {s : State} {ma : Master} {p : PtpMsg} {r : List PtpMsg} {q : DelayReq} {sent : Int}
    (taken : takePtp isDelayResp s.ring.ptp = some (p, r)) (master : s.time.master = some ma) (asked : s.time.req = some q)
    (left : (if s.timePort = 0 then q.t3e else q.t3w) = some sent) (ours : s.ptpOurs p.msg = true) (whole : 54 ≤ p.msg.length)
    (sender : ptpPort p.msg = ma.portId) (seq : beAt p.msg 30 2 = q.seq) (own : beAt p.msg 44 10 = clockIdentity s.mac * 65536 + (s.timePort + 1))
    (onPort : p.port = s.timePort) : s.delayResp =
      { s.leavePtp r with time := { s.time with sm := some (ptpStamp p.msg 34 - sent - ptpCorr p.msg), req := none, reqInt := ptpLog p.msg } } := by
  have waits : takePtp (fun m => beAt m.msg 0 1 % 16 == 9) s.ring.ptp = some (p, r) := taken
  have answers : ¬ (¬ s.ptpOurs p.msg ∨ p.msg.length < 54 ∨ ptpPort p.msg ≠ ma.portId ∨ beAt p.msg 30 2 ≠ q.seq ∨
      beAt p.msg 44 10 ≠ clockIdentity s.mac * 65536 + (s.timePort + 1) ∨ p.port ≠ s.timePort) := by
    simp [ours, whole, sender, seq, own, onPort]
  unfold State.delayResp
  split
  · next idle => exact absurd (waits.symm.trans idle) (by simp)
  next p' r' first =>
  obtain ⟨rfl, rfl⟩ := Prod.mk.inj (Option.some.inj (waits.symm.trans first))
  extract_lets _ a m port me
  have selected : a.time.master = some ma := master
  have waiting : a.time.req = some q := asked
  have sentAt : (if port = 0 then q.t3e else q.t3w) = some sent := left
  rw [selected, waiting]
  dsimp only
  rw [sentAt]
  exact if_neg answers

theorem State.delayReqTimer_sends {s : State} {ma : Master} (master : s.time.master = some ma)
    (able : ¬ (s.cm F.TIME_PTP_CFG_TRANSPORT = 1 ∧ s.cm F.RING_IP4_ADDR = 0)) :
    let q := (s.time.reqSeq + 1) % 65536
    let l := fun x => ({ LFrame.of s.clk.now 1 0 (s.delayReqFrame x q ma) with req := some q } : LFrame)
    s.delayReqTimer =
      (State.queueOn { s with time := { s.time with reqSeq := q, req := some { seq := q, t3e := none, t3w := none } } } 0 (l 0)).queueOn 1 (l 1) := by
  unfold State.delayReqTimer
  rw [master]
  exact if_neg able

theorem State.delayReqTimer_unable {s : State} {ma : Master} (master : s.time.master = some ma) (transport : s.cm F.TIME_PTP_CFG_TRANSPORT = 1)
    (address : s.cm F.RING_IP4_ADDR = 0) : s.delayReqTimer = s := by
  unfold State.delayReqTimer
  rw [master]
  exact if_pos ⟨transport, address⟩

end Sys2Proof.Machine

namespace Sys2Proof.Proofs

open Machine Safety Claims

/-- Settles O21. -/
theorem servoFollowsTheMaster : Obligations.ServoFollowsTheMaster := by
  intro s t ma alive master same
  rw [exec_ptpSync t alive, exec_ptpDelayResp t alive, exec_delayReqTimer t alive]
  refine ⟨fun p r taken ours whole sender sync low high known onPort => ?_, fun p r w sm taken ours whole sender follow kept seq onPort sampled => ?_,
    fun p r q sent taken asked left ours whole sender seq own onPort => ?_, ?_, fun transport address => ?_⟩
  · obtain ⟨masters, hops, ats, int, takes⟩ := State.ptpSync_sync (s := s.tick t) taken master ours whole sender onPort sync ⟨low, high⟩ same known
    refine ⟨fun twoStep => ⟨_, rfl, ?_⟩, fun sm oneStep sampled => ⟨_, rfl, ?_⟩⟩
    · rw [takes, State.takeSync, if_pos twoStep]
      exact ⟨rfl, rfl⟩
    · rw [takes, State.takeSync, if_neg (by simp [oneStep])]
      have known : ((((s.tick t).leavePtp r).withMasters masters).withSyncs hops ats int).time.sm = some sm := sampled
      exact ⟨congrArg RingSt.ptp (State.servo_ring known _), State.servo_servoTerms known _⟩
  · have known : (State.time { (s.tick t).leavePtp r with time := { (s.tick t).time with pend := none } }).sm = some sm := sampled
    rw [State.ptpSync_followUp (s := s.tick t) taken master ours whole sender onPort follow kept seq]
    exact ⟨_, rfl, congrArg RingSt.ptp (State.servo_ring known _), State.servo_pend known _, State.servo_servoTerms known _⟩
  · rw [State.delayResp_answers (s := s.tick t) taken master asked left ours whole sender seq own onPort]
    rfl
  · intro q l able
    rw [State.delayReqTimer_sends (s := s.tick t) master able, s.tick_now t]
    rfl
  · rw [State.delayReqTimer_unable (s := s.tick t) master transport address]

end Sys2Proof.Proofs

namespace Sys2Proof.Machine

open Safety Claims

/-! LOCKED (R144). -/

theorem EvtSt.raise_head {e : EvtSt} {r : EvRec} (first : e.pending.head? = some r) (pound sec ns code block inst arg0 arg1 : Nat) :
    (e.raise pound sec ns code block inst arg0 arg1).pending.head? = some r := by
  unfold EvtSt.raise
  split
  · simp [List.head?_append, first]
  · exact first

/-- The record raised is the first where none waits. -/
theorem EvtSt.raise_first (e : EvtSt) (pound sec ns code block inst arg0 arg1 : Nat) : ∃ r : EvRec, r.code = code ∧ r.arg0 = arg0 % 2 ^ 32 ∧
    (e.pending = [] → (e.raise pound sec ns code block inst arg0 arg1).pending.head? = some r) := by
  refine ⟨{ pound := pound, sec := sec, ns := ns, code := code, block := block, inst := inst, rseq := e.rseq, arg0 := arg0 % 2 ^ 32,
            arg1 := arg1 % 2 ^ 32, gap := e.gapNext }, rfl, rfl, fun empty => ?_⟩
  unfold EvtSt.raise
  rw [if_pos (by simp [empty]), empty]
  rfl

theorem State.raise_head {s : State} {r : EvRec} (first : s.evt.pending.head? = some r) (code block arg0 arg1 : Nat) :
    (s.raise code block arg0 arg1).evt.pending.head? = some r := EvtSt.raise_head first ..

theorem State.setRate_evt (s : State) (u : Int) : (s.setRate u).evt = s.evt := rfl

theorem State.unlock_head {s : State} {r : EvRec} (first : s.evt.pending.head? = some r) (cause : Nat) :
    (s.unlock cause).evt.pending.head? = some r := by
  unfold State.unlock
  split
  · exact first
  · exact State.raise_head (s := s.wr F.TIME_STATUS_LOCKED 0) first ..

theorem State.unlock_first {s : State} (locked : s.rd F.TIME_STATUS_LOCKED = 1) (cause : Nat) :
    ∃ r : EvRec, r.code = 0x501 ∧ r.arg0 = cause % 2 ^ 32 ∧ (s.evt.pending = [] → (s.unlock cause).evt.pending.head? = some r) := by
  unfold State.unlock
  rw [if_neg (by simp [locked])]
  exact EvtSt.raise_first ..

theorem State.selectMaster_head {s : State} {r : EvRec} (first : s.evt.pending.head? = some r) (m : Master) :
    (s.selectMaster m).evt.pending.head? = some r := by
  have unlocked := State.unlock_head first 3
  unfold State.selectMaster
  extract_lets a _ b c d
  have ported : c.evt = b.evt := by
    simp only [c]
    cases m.sync with
    | none => rfl
    | some y => rfl
  have shown : d.evt = c.evt := (State.wr_evt ..).trans ((State.wr_evt ..).trans (c.wr_evt ..))
  have named : (d.showGm m.gmId).evt = d.evt := (State.wr_evt ..).trans (d.wr_evt ..)
  exact State.raise_head (by rw [named, shown, ported]; exact unlocked) ..

/-- The loss of LOCKED is recorded before the free-run that brings it. -/
theorem State.enterFreeRun_first {s : State} (locked : s.rd F.TIME_STATUS_LOCKED = 1) :
    ∃ r : EvRec, r.code = 0x501 ∧ r.arg0 = 2 ∧ (s.evt.pending = [] → s.enterFreeRun.evt.pending.head? = some r) := by
  obtain ⟨r, code, arg0, first⟩ := State.unlock_first locked 2
  unfold State.enterFreeRun
  extract_lets a _ b c d
  have shown : d.evt = a.evt := (c.setRate_evt _).trans ((State.wr_evt ..).trans (b.wr_evt ..))
  exact ⟨r, code, arg0, fun empty => State.raise_head (by rw [shown]; exact first empty) ..⟩

theorem State.lockChange_locks {s : State} (free : s.rd F.TIME_STATUS_LOCKED = 0) (inside : 16 ≤ s.time.inRun) (driven : s.rd F.TIME_STATUS_FREE_RUN = 0) :
    s.lockChange = ((s.wr F.TIME_STATUS_LOCKED 1).wr F.TIME_STATUS_STATE 3).raise 0x500 bTIME (sat32 (sar s.time.offset 8)) (s.rd F.TIME_GM0_ID) := by
  have gm : ((s.wr F.TIME_STATUS_LOCKED 1).wr F.TIME_STATUS_STATE 3).rd F.TIME_GM0_ID = s.rd F.TIME_GM0_ID :=
    (State.rd_wr_other _ F.TIME_STATUS_STATE F.TIME_GM0_ID 3 (by decide)).trans (s.rd_wr_other F.TIME_STATUS_LOCKED F.TIME_GM0_ID 1 (by decide))
  unfold State.lockChange
  rw [if_pos free, if_pos ⟨inside, driven⟩]
  exact congrArg (fun id => State.raise _ 0x500 bTIME (sat32 (sar s.time.offset 8)) id) gm

theorem State.lockChange_unlocks {s : State} (locked : s.rd F.TIME_STATUS_LOCKED = 1) (outside : 4 ≤ s.time.outRun) :
    s.lockChange = ((s.wr F.TIME_STATUS_LOCKED 0).raise 0x501 bTIME 1 (sat32 (sar s.time.offset 8))).wr F.TIME_STATUS_STATE 2 := by
  unfold State.lockChange State.unlock
  rw [if_neg (by simp [locked]), if_pos outside, if_neg (by simp [locked])]

theorem State.lockChange_waits {s : State} (free : s.rd F.TIME_STATUS_LOCKED = 0) (waits : s.time.inRun < 16 ∨ s.rd F.TIME_STATUS_FREE_RUN ≠ 0) :
    s.lockChange = s := by
  unfold State.lockChange
  rw [if_pos free, if_neg (by omega)]

theorem State.lockChange_holds {s : State} (locked : s.rd F.TIME_STATUS_LOCKED = 1) (holds : s.time.outRun < 4) : s.lockChange = s := by
  unfold State.lockChange
  rw [if_neg (by simp [locked]), if_neg (Nat.not_le.mpr holds)]

theorem State.lockChanged_on {s u : State} (changes : s.lockChange = u) (on : u.rd F.TIME_STATUS_LOCKED = 1) : s.lockChanged = u.bootTime := by
  unfold State.lockChanged
  rw [changes]
  exact if_pos on

theorem State.lockChanged_off {s u : State} (changes : s.lockChange = u) (off : u.rd F.TIME_STATUS_LOCKED = 0) : s.lockChanged = u := by
  unfold State.lockChanged
  rw [changes]
  exact if_neg (by simp [off])

/-! The boot timeline reaches LOCKED in none of its steps (R102). -/

theorem State.bootStep_locked (k : Nat) (s : State) : (s.bootStep k).rd F.TIME_STATUS_LOCKED = s.rd F.TIME_STATUS_LOCKED :=
  (State.raise_rd ..).trans (s.rd_wr_other F.IMG_STATUS_STAGE F.TIME_STATUS_LOCKED k (by decide))

theorem State.panelBoot_locked (s : State) : s.panelBoot.rd F.TIME_STATUS_LOCKED = s.rd F.TIME_STATUS_LOCKED := by
  unfold State.panelBoot
  extract_lets v
  split
  · exact State.rd_wr_other _ F.PNL_STATUS_STATE F.TIME_STATUS_LOCKED _ (by decide)
  · rfl

theorem State.bootPanel_locked (s : State) : s.bootPanel.rd F.TIME_STATUS_LOCKED = s.rd F.TIME_STATUS_LOCKED := by
  have marked (u : State) : State.rd { u with img := { u.img with panelStep := true } } F.TIME_STATUS_LOCKED = u.rd F.TIME_STATUS_LOCKED := rfl
  have lanes (u : State) (x : LanesSt) (n : Nat) :
      (State.panelBoot { u with lanes := x, choices := n }).rd F.TIME_STATUS_LOCKED = u.rd F.TIME_STATUS_LOCKED := State.panelBoot_locked _
  exact (marked _).trans ((lanes (s.bootStep 13) _ _).trans (State.bootStep_locked 13 s))

theorem State.bootTime_locked (s : State) : s.bootTime.rd F.TIME_STATUS_LOCKED = s.rd F.TIME_STATUS_LOCKED :=
  State.bootAdvance_proj (fun s => s.rd F.TIME_STATUS_LOCKED) State.bootStep_locked State.bootPanel_locked _

end Sys2Proof.Machine

namespace Sys2Proof.Proofs

open Machine Safety Claims

/-- Settles O22. -/
theorem lockedFollowsTheRuns : Obligations.LockedFollowsTheRuns := by
  intro s t alive
  rw [exec_timeLockChange t alive, exec_announceTimeout t alive]
  refine ⟨fun v ms sm known => ?_, fun free inside driven => ?_, fun locked outside => ?_, fun free waits => ?_, fun locked holds => ⟨_, rfl, ?_⟩,
    fun m master silent locked => ?_⟩
  · obtain ⟨near, far⟩ := State.servo_runs known ms
    rw [State.servo_offset known ms]
    exact ⟨near, fun beyond => far (Nat.not_le.mpr beyond)⟩
  · have shown : (((s.tick t).wr F.TIME_STATUS_LOCKED 1).wr F.TIME_STATUS_STATE 3).rd F.TIME_STATUS_LOCKED = 1 :=
      (State.wr_locked _ 3 (by decide)).trans ((s.tick t).rd_wr F.TIME_STATUS_LOCKED 1 (by decide) (by decide))
    rw [State.lockChanged_on (State.lockChange_locks (s := s.tick t) free inside driven) shown]
    rfl
  · have shown : ((((s.tick t).wr F.TIME_STATUS_LOCKED 0).raise 0x501 bTIME 1 (sat32 (sar s.time.offset 8))).wr F.TIME_STATUS_STATE 2).rd
        F.TIME_STATUS_LOCKED = 0 :=
      (State.wr_locked _ 2 (by decide)).trans ((s.tick t).rd_wr F.TIME_STATUS_LOCKED 0 (by decide) (by decide))
    rw [State.lockChanged_off (State.lockChange_unlocks (s := s.tick t) locked outside) shown]
    rfl
  · rw [State.lockChanged_off (State.lockChange_waits (s := s.tick t) free waits) free]
  · rw [State.lockChanged_on (State.lockChange_holds (s := s.tick t) locked holds) locked]
    exact (State.bootTime_locked _).trans locked
  · rw [State.announceTimeout_silent (s := s.tick t) master silent]
    obtain ⟨off, -⟩ := ((s.tick t).dropMaster m.portId).enterFreeRun_shows
    have freed := ((s.tick t).dropMaster m.portId).enterFreeRun_picked
    obtain ⟨r, code, arg0, first⟩ := State.enterFreeRun_first (s := (s.tick t).dropMaster m.portId) locked
    generalize ((s.tick t).dropMaster m.portId).enterFreeRun = v at off freed first
    have lost : v.time.master = none := congrArg Picked.master freed
    rcases State.runBmca_free lost with stays | ⟨x, selects⟩
    · rw [stays]
      exact ⟨v, r, rfl, off, fun empty => ⟨first empty, code, arg0⟩⟩
    · rw [selects]
      exact ⟨_, r, rfl, (v.selectMaster_shows x).1, fun empty => ⟨State.selectMaster_head (first empty) x, code, arg0⟩⟩

end Sys2Proof.Proofs

namespace Sys2Proof.Machine

open Safety Claims

/-! Pulses, captures and the replica of device time (R148, R151). -/

section
variable {s : State} (t : Nat) (alive : s.alive = true)
include alive

theorem exec_ppsSecond : exec (.ppsSecond t) s = .next (s.tick t).ppsSecond := State.live_alive t State.ppsSecond alive

theorem exec_timeEvtPeriodic (n : Nat) : exec (.timeEvtPeriodic t n) s = .next ((s.tick t).evtPeriodic n) :=
  State.live_alive t (fun s => s.evtPeriodic n) alive

theorem exec_pulseWidthExpiry (pin : PulsePin) : exec (.pulseWidthExpiry t pin) s = .next ((s.tick t).pulseEnd pin) :=
  State.live_alive t (fun s => s.pulseEnd pin) alive

theorem exec_timeCapture (n : Nat) (rising : Bool) : exec (.timeCapture t n rising) s = .next ((s.tick t).capture n rising) :=
  State.live_alive t (fun s => s.capture n rising) alive

theorem exec_replicaRealign : exec (.replicaRealign t) s = .next (s.tick t).realign := State.live_alive t State.realign alive

theorem exec_timedEgressDue {y : Nat} (valid : y < 2) : exec (.timedEgressDue t y) s = .next ((s.tick t).egressDue y) :=
  (State.live_alive t (fun s => if y < 2 then s.egressDue y else s) alive).trans (by rw [if_pos valid])

theorem exec_timedEgressDrop {y : Nat} (valid : y < 2) : exec (.timedEgressDrop t y) s = .next ((s.tick t).egressDrop y).encSents :=
  (State.live_alive t (fun s => if y < 2 then (s.egressDrop y).encSents else s) alive).trans (by rw [if_pos valid])

end

theorem State.tick_pulse (s : State) (t : Nat) (q : PulsePin) (w : Nat) : (s.tick t).pulse q w =
    { s.tick t with time := { s.time with pulses := s.time.pulses.filter (fun x => x.1 ≠ q) ++ [(q, max s.clk.now t + w)] } } := by
  unfold State.pulse
  rw [s.tick_now t]
  rfl

theorem State.tick_pulseEnd (s : State) (t : Nat) (pin : PulsePin) : (s.tick t).pulseEnd pin =
    { s.tick t with time := { s.time with pulses := s.time.pulses.filter (fun q => !(q.1 == pin && decide (q.2 ≤ max s.clk.now t))) } } := by
  unfold State.pulseEnd
  rw [s.tick_now t]
  rfl

/-- An edge is captured (R148): input 0 on its rising edge, an event pin in capture mode on its edge. -/
def State.captures (s : State) (n : Nat) (rising : Bool) : Bool :=
  if n = 0 then rising
  else if n < 3 then s.cm (evtMode (n - 1)) == 1 && (s.cm (evtEdge (n - 1)) == (if rising then 0 else 1))
  else false

theorem State.captures_iff (s : State) (n : Nat) (rising : Bool) : s.captures n rising = true ↔ (n = 0 ∧ rising = true) ∨
    (0 < n ∧ n < 3 ∧ s.cm (evtMode (n - 1)) = 1 ∧ s.cm (evtEdge (n - 1)) = (if rising then 0 else 1)) := by
  unfold State.captures
  by_cases zero : n = 0
  · simp [zero]
  · by_cases pin : n < 3
    · simp [zero, pin, Nat.pos_of_ne_zero zero]
    · simp [zero, pin]

/-- The instant that a capture takes: up to 1.6 ns after the edge. -/
def State.captureAt (s : State) : Nat := s.dev + Config.freeNat s.choices % 104858

/-- The time registers of input `n` show the instant `d`. -/
def State.showCapture (s : State) (n d : Nat) : State :=
  ((s.wrW (R.TIME_CAPn n 0) (BitVec.ofNat 32 (d / 65536 % 1000000000))).wrW (R.TIME_CAPn n 1) (BitVec.ofNat 32 (d / (65536 * 1000000000)))).wrW
    (R.TIME_CAPn n 2) (BitVec.ofNat 32 (d / (65536 * 1000000000) / 2 ^ 32 % 65536))

theorem State.capture_on {s : State} {n : Nat} {rising : Bool} (on : s.captures n rising = true) : s.capture n rising =
    (State.showCapture { s with choices := s.choices + 1 } n s.captureAt).raise 0x50A bTIME n (s.captureAt / 65536 % 1000000000) :=
  if_neg (not_not_intro on)

theorem State.capture_off {s : State} {n : Nat} {rising : Bool} (off : s.captures n rising = false) : s.capture n rising = s :=
  if_pos (Bool.eq_false_iff.mp off)

theorem State.captureAt_late (s : State) : s.dev ≤ s.captureAt ∧ s.captureAt < s.dev + 104858 :=
  ⟨Nat.le_add_right .., Nat.add_lt_add_left (Nat.mod_lt _ (by decide)) _⟩

theorem TIME_CAPn_ne (n : Nat) {j k : Nat} (differ : j ≠ k) : R.TIME_CAPn n j ≠ R.TIME_CAPn n k := by
  unfold R.TIME_CAPn
  omega

theorem State.showCapture_shows (s : State) (n d : Nat) : (s.showCapture n d).rdW (R.TIME_CAPn n 0) = BitVec.ofNat 32 (d / 65536 % 1000000000) ∧
    (s.showCapture n d).rdW (R.TIME_CAPn n 1) = BitVec.ofNat 32 (d / (65536 * 1000000000)) ∧
    (s.showCapture n d).rdW (R.TIME_CAPn n 2) = BitVec.ofNat 32 (d / (65536 * 1000000000) / 2 ^ 32 % 65536) := by
  unfold State.showCapture
  refine ⟨?_, ?_, State.rdW_wrW ..⟩
  · rw [State.rdW_wrW_other _ _ (TIME_CAPn_ne n (by decide)), State.rdW_wrW_other _ _ (TIME_CAPn_ne n (by decide)), State.rdW_wrW]
  · rw [State.rdW_wrW_other _ _ (TIME_CAPn_ne n (by decide)), State.rdW_wrW]

/-- The replica of device time keeps within 2 ns of the time base (R151). -/
theorem State.realign_near (s : State) : -131072 ≤ s.realign.time.replica ∧ s.realign.time.replica ≤ 131072 := by
  have offset : s.realign.time.replica = ((Config.freeNat s.choices % 262145 : Nat) : Int) - 131072 := rfl
  have below : Config.freeNat s.choices % 262145 < 262145 := Nat.mod_lt _ (by decide)
  omega

/-! Timed egress (R154, R155). -/

/-- A timed frame late by MAX_LATE_US and more. -/
def State.tooLate (s : State) (l : LFrame) : Bool := l.cls == 0 && decide (l.e + s.cm F.TIME_EGRESS_MAX_LATE_US * 65536000 ≤ s.dev)

theorem State.egressDrop_none {s : State} {y : Nat} (empty : ((s.ring.port y).loc.filter s.tooLate).length = 0) : s.egressDrop y = s := if_pos (.inl empty)

theorem State.egressDrop_some {s : State} {y : Nat} (valid : y < 2) (late : 0 < ((s.ring.port y).loc.filter s.tooLate).length) :
    let n := ((s.ring.port y).loc.filter s.tooLate).length
    let v := (s.modPort y (fun p => { p with loc := p.loc.filter (fun l => !s.tooLate l) })).add F.TIME_EGRESS_CNT_DROPPED n
    s.egressDrop y = { v with ring := { v.ring with dropEgr := modAt s.ring.dropEgr y (· + n) } } := by
  have drops : ¬ (((s.ring.port y).loc.filter s.tooLate).length = 0 ∨ 2 ≤ y) := by omega
  exact if_neg drops

end Sys2Proof.Machine

namespace Sys2Proof.Proofs

open Machine Safety Claims

/-- A part of `pulsesAndEgress`. -/
theorem pulseOutputs : Claims.PulseOutputs := by
  intro s t n pin alive now up
  rw [exec_ppsSecond t alive, exec_timeEvtPeriodic t alive, exec_pulseWidthExpiry t alive, s.tick_pulseEnd]
  unfold State.ppsSecond State.evtPeriodic
  rw [s.tick_pulse, s.tick_pulse]
  exact ⟨rfl, rfl, rfl⟩

/-- A part of `pulsesAndEgress`. -/
theorem capturesAndReplica : Claims.CapturesAndReplica := by
  intro s t n rising alive edge
  have captures : (s.tick t).captures n rising = true ↔ edge := (s.tick t).captures_iff n rising
  rw [exec_timeCapture t alive, exec_replicaRealign t alive]
  refine ⟨fun on => ?_, fun off => ?_, _, rfl, ?_, ?_, rfl⟩
  · rw [State.capture_on (captures.mpr on)]
    obtain ⟨later, within⟩ := (s.tick t).captureAt_late
    obtain ⟨ns, low, high⟩ := State.showCapture_shows { s.tick t with choices := s.choices + 1 } n (s.tick t).captureAt
    exact ⟨_, _, rfl, later, within, ns, low, high, State.raise_evt_congr rfl ..⟩
  · rw [State.capture_off (Bool.eq_false_iff.mpr (fun on => off (captures.mp on)))]
  · exact (s.tick t).realign_near.1
  · exact (s.tick t).realign_near.2

/-- A part of `pulsesAndEgress`. -/
theorem timedEgressRules : Claims.TimedEgressRules := by
  intro s t y alive valid
  rw [exec_timedEgressDue t alive valid, exec_timedEgressDrop t alive valid]
  refine ⟨rfl, fun empty => ?_, fun late => ?_⟩
  · rw [State.egressDrop_none (s := s.tick t) empty]
  · rw [State.egressDrop_some (s := s.tick t) valid late]
    rfl

/-- Settles O23. -/
theorem pulsesAndEgress : Obligations.PulsesAndEgress := ⟨pulseOutputs, capturesAndReplica, timedEgressRules⟩

end Sys2Proof.Proofs

namespace Sys2Proof.Machine

open Safety Claims

/-! What the parts of a launch leave of the slave clock and of scan-out (R301 to R305, R343). -/

/-- The slave clock and scan-out. -/
def State.timeScan (s : State) : TimeSt × ScanSt := (s.time, s.scan)

theorem State.time_of_timeScan {s v : State} (same : s.timeScan = v.timeScan) : s.time = v.time := congrArg Prod.fst same

theorem State.fcnt_of_timeScan {s v : State} (same : s.timeScan = v.timeScan) : s.scan.fcnt = v.scan.fcnt :=
  congrArg (fun x : TimeSt × ScanSt => x.2.fcnt) same

theorem State.wr_timeScan (s : State) (f : Fld) (v : Nat) : (s.wr f v).timeScan = s.timeScan := rfl

theorem State.raise_timeScan (s : State) (code block arg0 arg1 : Nat) : (s.raise code block arg0 arg1).timeScan = s.timeScan := rfl

theorem State.inc_timeScan (s : State) (f : Fld) : (s.inc f).timeScan = s.timeScan := rfl

theorem State.raiseOnce_timeScan (s : State) (code block key arg0 arg1 : Nat) : (s.raiseOnce code block key arg0 arg1).timeScan = s.timeScan := by
  unfold State.raiseOnce State.raiseOnceI
  split <;> rfl

theorem State.modLane_timeScan (s : State) (n : Nat) (f : LaneSt → LaneSt) : (s.modLane n f).timeScan = s.timeScan := rfl

theorem State.noteFault_timeScan (s : State) (code : Nat) : (s.noteFault code).timeScan = s.timeScan := by
  obtain ⟨led, evt, recover, noted⟩ := s.noteFaultIn_eq code false
  unfold State.noteFault
  rw [noted]
  rfl

theorem State.txMark_timeScan (s : State) (k : Nat) : (s.txMark k).timeScan = s.timeScan := by
  unfold State.txMark
  split <;> rfl

theorem State.showGens_timeScan (s : State) : s.showGens.timeScan = s.timeScan := by
  unfold State.showGens
  split
  · rfl
  · exact State.each_proj State.timeScan _ (fun _ _ => State.wr_timeScan ..) _ s

theorem State.applyReq_timeScan (s : State) (presets : Bool) (r : List Byte) : (s.applyReq presets r).timeScan = s.timeScan := by
  unfold State.applyReq
  extract_lets lane req preset taps
  split
  exact (State.modLane_timeScan ..).trans (s.wr_timeScan ..)

theorem State.seedTaps_timeScan (s : State) (n : Nat) : (s.seedTaps n).timeScan = s.timeScan := by
  unfold State.seedTaps
  extract_lets v
  split
  · rfl
  · exact (State.modLane_timeScan ..).trans (s.wr_timeScan ..)

theorem State.bcApply_timeScan (s : State) : s.bcApply.timeScan = s.timeScan := by
  unfold State.bcApply
  extract_lets a _ b
  have seeded : a.timeScan = s.timeScan := State.each_proj State.timeScan _ State.seedTaps_timeScan _ s
  clear_value a
  have framed : b.timeScan = a.timeScan := by
    simp only [b]
    split <;> rfl
  clear_value b
  split
  · exact seeded
  · exact (State.each_proj State.timeScan _ (fun s r => s.applyReq_timeScan false r) _ b).trans (framed.trans seeded)

theorem State.holdEntry_timeScan (s : State) (p : Nat) : (s.holdEntry p).timeScan = s.timeScan := by
  unfold State.holdEntry
  split <;> rfl

theorem State.blinkSlot_timeScan (s : State) (cs : CSet) : (s.blinkSlot cs).2.timeScan = s.timeScan := rfl

theorem State.recoveryOf_timeScan (s : State) (code : Nat) : (s.recoveryOf code).timeScan = s.timeScan := rfl

theorem State.repeatAction_timeScan (s : State) (p : Nat) : (s.repeatAction p).timeScan = s.timeScan := by
  unfold State.repeatAction
  split
  · exact (State.when_proj State.timeScan _ _ (fun s => s.recoveryOf_timeScan 0x805)).trans
      (State.when_proj State.timeScan s _ (fun s => s.recoveryOf_timeScan 0x804))
  · rfl

theorem State.dropOldBufs_timeScan (s : State) (atOpen : Bool) : (s.dropOldBufs atOpen).timeScan = s.timeScan := by
  unfold State.dropOldBufs
  extract_lets old og tg gone v
  exact State.each_proj State.timeScan (fun s m => s.freeMoor atOpen m) (fun _ _ => rfl) gone s

theorem State.moveBufs_timeScan (s : State) (p : Nat) (k : Kind) : (s.moveBufs p k).timeScan = s.timeScan := State.dropOldBufs_timeScan ..

theorem State.dropExits_timeScan (s : State) (p : Nat) : (s.dropExits p).timeScan = s.timeScan := rfl

theorem State.holdExitSlot_timeScan (s : State) (p : Nat) (k : Kind) : (s.holdExitSlot p k).1.timeScan = s.timeScan := by
  unfold State.holdExitSlot
  split
  · dsimp only
    split <;> rfl
  · exact (State.raise_timeScan ..).trans ((State.wr_timeScan ..).trans (s.dropExits_timeScan p))
  · exact s.inc_timeScan _

/-- The kind that a HOLD exit makes of a slot's item (R66). -/
theorem State.holdExitSlot_kind (s : State) (p : Nat) (k : Kind) :
    (s.holdExitSlot p k).2 = match s.holdExitAt p k with | some (k', _) => k' | none => k := by
  unfold State.holdExitSlot
  split <;> rename_i e <;> rw [e]

theorem State.countSlot_time (s : State) (sent : Kind) (shown point : Nat) : (s.countSlot sent shown point).time = s.time := by
  unfold State.countSlot State.setFlip
  simp only [State.wr_time]

theorem State.countSlot_fcnt (s : State) (sent : Kind) (shown point : Nat) : (s.countSlot sent shown point).scan.fcnt = (s.scan.fcnt + 1) % 2 ^ 48 := by
  unfold State.countSlot State.setFlip
  simp only [State.wr_scan]

theorem State.frameStart_timeScan (s : State) (at_ period : Nat) (owns : Bool) : (s.frameStart at_ period owns).timeScan = s.timeScan := by
  unfold State.frameStart
  extract_lets _ a old new b
  have driven : a.timeScan = s.timeScan := State.wr_timeScan ..
  have banded : b.timeScan = a.timeScan := by
    simp only [b]
    split
    · rfl
    · exact (State.raise_timeScan ..).trans (a.wr_timeScan ..)
  clear_value b
  split
  · exact driven
  · exact (State.wr_timeScan ..).trans (banded.trans driven)

theorem State.slotFrame_timeScan (s : State) (p : Nat) : (s.slotFrame p).timeScan = s.timeScan := by
  unfold State.slotFrame
  exact State.frameStart_timeScan ..

theorem State.bootStep_timeScan (s : State) (k : Nat) : (s.bootStep k).timeScan = s.timeScan := (State.raise_timeScan ..).trans (s.wr_timeScan ..)

theorem State.stepFifteen_timeScan (s : State) (p : Nat) (sent : Bool) : (s.stepFifteen p sent).timeScan = s.timeScan := by
  unfold State.stepFifteen
  split
  · exact s.bootStep_timeScan 15
  · rfl

/-- Where no launch was sent, step 15 is not reached. -/
theorem State.stepFifteen_unsent {s u : State} (same : u.time.nextL = s.time.nextL) :
    u.stepFifteen s.time.nextL (decide (u.time.nextL ≠ s.time.nextL)) = u := if_neg (by simp [same])

/-! Aborts and ownership (R305, R310, R311). -/

/-- The slave clock, and of scan-out what a launch is said to set. -/
structure Sent where
  time    : TimeSt
  slot    : Nat
  waiting : Option Nat
  kind    : Kind
  fcnt    : Nat

def State.sent (s : State) : Sent := { time := s.time, slot := s.scan.slot, waiting := s.scan.waiting, kind := s.scan.kind, fcnt := s.scan.fcnt }

theorem State.sent_of_timeScan {s v : State} (same : s.timeScan = v.timeScan) : s.sent = v.sent :=
  congrArg (fun x : TimeSt × ScanSt => Sent.mk x.1 x.2.slot x.2.waiting x.2.kind x.2.fcnt) same

/-- The slave clock and the frame counter. -/
def State.count (s : State) : TimeSt × Nat := (s.time, s.scan.fcnt)

theorem State.count_of_timeScan {s v : State} (same : s.timeScan = v.timeScan) : s.count = v.count :=
  congrArg (fun x : TimeSt × ScanSt => (x.1, x.2.fcnt)) same

theorem State.ownAssert_count (s : State) : s.ownAssert.count = s.count := rfl

theorem State.markAborted_timeScan (s : State) : s.markAborted.timeScan = s.timeScan := State.wr_timeScan ..

/-- An abort leaves what is sent as it was begun. -/
theorem State.abortFrame_sent (s : State) (cause lane : Nat) : (s.abortFrame cause lane).sent = s.sent := by
  unfold State.abortFrame
  split
  · exact State.sent_of_timeScan s.markAborted_timeScan
  · split
    · rfl
    · extract_lets _ a b
      have aborted : b.sent = s.sent :=
        (State.sent_of_timeScan ((State.raise_timeScan ..).trans ((State.inc_timeScan ..).trans (State.markAborted_timeScan _)))).trans rfl
      clear_value b
      split
      · exact (State.sent_of_timeScan (State.noteFault_timeScan ..)).trans aborted
      · exact aborted

theorem State.ownYield_timeScan (s : State) : s.ownYield.timeScan = (s.time, { s.scan with ownOut := false, kind := .idle }) := by
  have marked := s.txMark_timeScan s.slotNow
  unfold State.ownYield
  extract_lets a
  have dropped (v : State) : State.timeScan { v with scan := { v.scan with ownOut := false, kind := .idle } } =
      (v.timeScan.1, { v.timeScan.2 with ownOut := false, kind := .idle }) := rfl
  rw [State.raise_timeScan, State.showGens_timeScan, State.wr_timeScan, dropped, marked]
  rfl

/-! A slot is sent (R301 to R305). -/

/-- A slot that carries something is the device's own. -/
theorem State.owns_of_slotIdle {s : State} {p : Nat} (sends : s.slotIdle p = false) : s.ownsSlot p = true := by
  unfold State.slotIdle at sends
  simp only [Bool.or_eq_false_iff, Bool.not_eq_false'] at sends
  exact sends.1.1.2

theorem State.slotKind_idle {s : State} {p : Nat} (idle : s.slotIdle p = true) : s.slotKind p = .idle := if_pos idle

theorem State.slotKind_sends {s : State} {p : Nat} (sends : s.slotIdle p = false) :
    s.slotKind p = (s.holdExitSlot p (s.slotItem p)).2 := by
  rw [s.holdExitSlot_kind]
  exact if_neg (by simp [sends])

theorem State.fixFcnt_time (s : State) : s.fixFcnt.time = s.time := by
  unfold State.fixFcnt
  split <;> rfl

/-- The control words shown by the lanes. -/
theorem State.showHeads_sent (s : State) (heads : List Nat) : (State.showGens { s with scan := { s.scan with heads := heads } }).sent = s.sent :=
  (State.sent_of_timeScan (State.showGens_timeScan _)).trans (by rfl)

/-- An abort that waited for the slot. -/
theorem State.preAborted_sent (s : State) (cause lane : Nat) :
    (State.abortFrame { s with scan := { s.scan with preAbort := none } } cause lane).sent = s.sent :=
  (State.abortFrame_sent ..).trans (by rfl)

/-- A slot sent (R301 to R303): the launch of the next pound, the slot and its kind, and of one that is not idle the next frame number. -/
theorem State.doLaunch_sent (s : State) (p : Nat) (late : Bool) : ∃ fcnt, (s.doLaunch p late).sent =
      { time := { s.time with nextL := poundAdd p 1, armed := false, heldBack := false }, slot := p, waiting := none, kind := s.slotKind p, fcnt := fcnt } ∧
    (s.slotIdle p = false → fcnt = (s.scan.fcnt + 1) % 2 ^ 48) := by
  have idles : s.slotIdle p = true → s.slotKind p = .idle := State.slotKind_idle
  have sends : s.slotIdle p = false → s.slotKind p = (s.holdExitSlot p (s.slotItem p)).2 := State.slotKind_sends
  have owns : s.slotIdle p = false → s.ownsSlot p = true := State.owns_of_slotIdle
  unfold State.doLaunch
  extract_lets cs idle follows s1 adj
  have h1 : s1.time = s.time := by
    simp only [s1]
    split
    · exact s.fixFcnt_time
    · rfl
  have same : idle = false → s1 = s := fun sends => if_neg (by simp [follows, owns sends])
  have h2 := s1.holdExitSlot_timeScan p (s1.slotItem p)
  have exits : idle = false → (s1.holdExitSlot p (s1.slotItem p)).2 = s.slotKind p := fun own => by rw [same own, sends own]
  split
  rename_i s2 k e
  rw [e] at h2 exits
  extract_lets sent counted role l start begins point gens carry s3 lateNow s4 shown bank prev s5 s6 s7 s8 s9 s10 keep s11 _ sc _ _ s12 _ s13 s14 _
    s15
  have h3 : s3.timeScan = s1.timeScan := (s2.txMark_timeScan start).trans h2
  have h4 : s4.timeScan = s1.timeScan := by
    refine Eq.trans ?_ h3
    simp only [s4]
    split
    · exact (State.raise_timeScan ..).trans (s3.inc_timeScan ..)
    · rfl
  have kind : sent = s.slotKind p := by
    cases own : idle with
    | true => exact (if_pos own).trans (idles own).symm
    | false => exact (if_neg (by simp [own])).trans (exits own)
  have h5 : s5.time = s4.time := by
    simp only [s5]
    split
    · exact s4.countSlot_time sent shown point
    · rfl
  have fcnt : idle = false → s5.scan.fcnt = (s4.scan.fcnt + 1) % 2 ^ 48 := fun own => by
    have counts : s5 = s4.countSlot sent shown point := if_pos (by simp [counted, own])
    rw [counts]
    exact s4.countSlot_fcnt sent shown point
  have h6 : s6.timeScan = s5.timeScan := by
    simp only [s6]
    split
    · exact (State.repeatAction_timeScan ..).trans ((State.raiseOnce_timeScan ..).trans (s5.inc_timeScan ..))
    · rfl
  have h7 : s7.timeScan = s6.timeScan := s6.holdEntry_timeScan p
  have h8 : s8.timeScan = s7.timeScan := by
    simp only [s8]
    split
    · exact s7.blinkSlot_timeScan cs
    · rfl
  have h9 : s9.timeScan = s8.timeScan := s8.moveBufs_timeScan p role
  have h10 : s10.timeScan = s5.timeScan := by
    refine Eq.trans ?_ (h9.trans (h8.trans (h7.trans h6)))
    simp only [s10]
    split
    · exact s9.wr_timeScan ..
    · rfl
  have h11 : s11.count = s5.count := (State.when_proj State.count s10 _ State.ownAssert_count).trans (State.count_of_timeScan h10)
  obtain ⟨time, count⟩ := Prod.mk.inj h11
  have h12 : s12.sent = { time := { s11.time with nextL := poundAdd p 1, armed := false, heldBack := false }, slot := p, waiting := none,
                          kind := sent, fcnt := s11.scan.fcnt } := rfl
  have h13 : s13.sent = s12.sent := State.showHeads_sent s12 _
  have h14 : s14.sent = s13.sent := State.when_proj State.sent s13 _ (fun s => State.sent_of_timeScan s.bcApply_timeScan)
  have h15 : s15.sent = s14.sent := by
    simp only [s15]
    split
    · exact s14.preAborted_sent ..
    · rfl
  have taken : s4.scan.fcnt = s1.scan.fcnt := State.fcnt_of_timeScan h4
  have clock : s11.time = s.time := time.trans (h5.trans ((State.time_of_timeScan h4).trans h1))
  refine ⟨s11.scan.fcnt, ?_, fun own => ?_⟩
  · rw [h15, h14, h13, h12, kind, clock]
  · rw [count, fcnt own, taken, same own]

/-! Arming points, launch points and the ends of rows (R151, R153, R310, R311). -/

section
variable {s : State} (t : Nat) (alive : s.alive = true)
include alive

theorem exec_launchArm : exec (.launchArm t) s = .next (s.tick t).launchArm := State.live_alive t State.launchArm alive

theorem exec_launchSlot : exec (.launchSlot t) s = .next (s.tick t).launchPointAt := State.live_alive t State.launchPointAt alive

theorem exec_frameRowsEnd : exec (.frameRowsEnd t) s = .next (s.tick t).rowsEndAt := State.live_alive t State.rowsEndAt alive

end

/-- The next launch is armed. -/
def State.armNext (s : State) : State := { s with time := { s.time with armed := true, armedAt := s.dev } }

/-- An old owner drops the panel. -/
def State.ownDrop (s : State) (p : Nat) : State :=
  State.raise (State.wr { s with scan := { s.scan with ownOut := false, owned := false, blocked := false } } F.SCAN_STATUS_OWN_OUT 0) 0xC05 bSCAN 0 p

/-- An unpaired device drops the panel in STANDBY. -/
def State.ownStandby (s : State) : State := State.wr { s with scan := { s.scan with ownOut := false } } F.SCAN_STATUS_OWN_OUT 0

/-- What an arming point makes of PANEL_OWN_OUT (R310, R311). -/
def State.armOwn (s : State) (p : Nat) : State :=
  if s.paired then (if (s.scan.ownOut ∨ s.scan.owned) ∧ ¬ s.ownsSlot p then s.ownDrop p else s)
  else if has (s.slotSet p).mode mSTANDBY then s.ownStandby
  else if s.slotKind p ≠ .idle then s.ownAssert
  else s

theorem State.launchArm_unknown {s : State} (unknown : s.launchOf s.time.nextL = none) : s.launchArm = s := by
  unfold State.launchArm
  dsimp only
  rw [unknown]

theorem State.launchArm_known {s : State} {l : Nat} (known : s.launchOf s.time.nextL = some l) : s.launchArm =
    if s.time.armed ∨ (s.dev : Int) + 65536 ≤ s.armPoint s.time.nextL l then s else s.armNext.armOwn s.time.nextL := by
  unfold State.launchArm
  dsimp only
  rw [known]
  rfl

theorem State.launchArm_waits {s : State} {l : Nat} (known : s.launchOf s.time.nextL = some l)
    (waits : s.time.armed = true ∨ (s.dev : Int) + 65536 ≤ s.armPoint s.time.nextL l) : s.launchArm = s :=
  (State.launchArm_known known).trans (if_pos waits)

theorem State.launchArm_armed {s : State} (armed : s.time.armed = true) : s.launchArm = s := by
  cases known : s.launchOf s.time.nextL with
  | none => exact State.launchArm_unknown known
  | some l => exact State.launchArm_waits known (.inl armed)

theorem State.launchArm_arms {s : State} {l : Nat} (known : s.launchOf s.time.nextL = some l) (unarmed : s.time.armed = false)
    (due : s.armPoint s.time.nextL l < (s.dev : Int) + 65536) : s.launchArm = s.armNext.armOwn s.time.nextL :=
  (State.launchArm_known known).trans (if_neg (by simp [unarmed, due]))

section
variable {s : State} {p : Nat}

theorem State.armOwn_time : (s.armOwn p).time = s.time := by
  unfold State.armOwn
  split
  · split
    · exact (State.raise_time ..).trans (State.wr_time ..)
    · rfl
  · split
    · exact State.wr_time ..
    · split
      · exact State.wr_time ..
      · rfl

theorem State.ownDrop_ownOut : (s.ownDrop p).scan.ownOut = false := by
  unfold State.ownDrop
  rw [State.raise_scan, State.wr_scan]

theorem State.ownStandby_ownOut : s.ownStandby.scan.ownOut = false := by
  unfold State.ownStandby
  rw [State.wr_scan]

theorem State.ownAssert_ownOut : s.ownAssert.scan.ownOut = true := by
  unfold State.ownAssert
  rw [State.wr_scan]

theorem State.armOwn_paired (paired : s.paired = true) : (s.armOwn p).scan.ownOut = (s.scan.ownOut && s.ownsSlot p) := by
  unfold State.armOwn
  rw [if_pos paired]
  cases owns : s.ownsSlot p with
  | true => rw [if_neg (by simp), Bool.and_true]
  | false =>
    rw [Bool.and_false]
    split
    · exact State.ownDrop_ownOut
    · next keeps => simpa using fun out => keeps ⟨.inl out, by simp⟩

variable (single : s.paired = false)
include single

theorem State.armOwn_standby (standby : has (s.slotSet p).mode mSTANDBY = true) : (s.armOwn p).scan.ownOut = false := by
  unfold State.armOwn
  rw [if_neg (by simp [single]), if_pos standby]
  exact State.ownStandby_ownOut

theorem State.armOwn_shows (driven : has (s.slotSet p).mode mSTANDBY = false) : (s.armOwn p).scan.ownOut = (s.scan.ownOut || s.slotKind p != .idle) := by
  unfold State.armOwn
  rw [if_neg (by simp [single]), if_neg (by simp [driven])]
  by_cases idle : s.slotKind p = .idle
  · rw [if_neg (not_not_intro idle), idle]
    simp
  · rw [if_pos idle, State.ownAssert_ownOut, bne_iff_ne.mpr idle, Bool.or_true]

end

/-! Launch points. -/

theorem State.launchPointAt_timeScan (s : State) : s.launchPointAt.timeScan = s.launchSlot.timeScan := State.stepFifteen_timeScan ..

theorem State.launchPointAt_unarmed {s : State} (unarmed : s.time.armed = false) : s.launchPointAt = s := by
  have idle : s.launchSlot = s := if_pos (by simp [unarmed])
  unfold State.launchPointAt
  rw [idle]
  exact State.stepFifteen_unsent rfl

theorem State.launchSlot_waits {s : State} (armed : s.time.armed = true) (active : s.scan.active = true) :
    s.launchSlot.timeScan = ({ s.time with heldBack := true }, { s.scan with waiting := some s.time.nextL }) := by
  have waits : s.launchSlot = State.slotFrame
      { s with scan := { s.scan with waiting := some s.time.nextL }, time := { s.time with heldBack := true } } s.time.nextL :=
    (if_neg (not_not_intro armed)).trans (if_pos active)
  rw [waits]
  exact State.slotFrame_timeScan ..

theorem State.launchSlot_sends {s : State} (armed : s.time.armed = true) (free : s.scan.active = false) :
    s.launchSlot.timeScan = (s.doLaunch s.time.nextL (s.armedLate s.time.nextL)).timeScan := by
  have sends : s.launchSlot = (s.doLaunch s.time.nextL (s.armedLate s.time.nextL)).slotFrame s.time.nextL :=
    (if_neg (not_not_intro armed)).trans (if_neg (by simp [free]))
  rw [sends]
  exact State.slotFrame_timeScan ..

/-! The ends of rows. -/

/-- The rows have ended: the lanes are idle. -/
def State.rowsDone (s : State) : State := { s with scan := { s.scan with active := false, heads := List.replicate 48 idleBlock } }

/-- The panel is yielded at the end of the rows where the device is blocked (R311). -/
def State.rowsYield (s : State) : State := if s.scan.blocked ∧ s.scan.ownOut then s.rowsDone.ownYield else s.rowsDone

theorem State.rowsYield_time (s : State) : s.rowsYield.time = s.time := by
  unfold State.rowsYield
  split
  · exact congrArg Prod.fst s.rowsDone.ownYield_timeScan
  · rfl

theorem State.rowsYield_waiting (s : State) : s.rowsYield.scan.waiting = s.scan.waiting := by
  unfold State.rowsYield
  split
  · exact congrArg (fun x : TimeSt × ScanSt => x.2.waiting) s.rowsDone.ownYield_timeScan
  · rfl

theorem State.rowsEndAt_idle {s : State} (idle : s.scan.active = false) : s.rowsEndAt = s := by
  have ends : s.rowsEnd = s := if_pos (by simp [idle])
  unfold State.rowsEndAt
  rw [ends]
  exact State.stepFifteen_unsent rfl

theorem State.rowsEnd_active {s : State} (active : s.scan.active = true) :
    s.rowsEnd = match s.scan.waiting with | some p => s.rowsYield.doLaunch p true | none => s.rowsYield := by
  have waiting := s.rowsYield_waiting
  unfold State.rowsEnd
  rw [if_neg (not_not_intro active)]
  exact (congrArg (fun w => match w with | some p => s.rowsYield.doLaunch p true | none => s.rowsYield) waiting :)

theorem State.rowsEndAt_ends {s : State} (active : s.scan.active = true) (free : s.scan.waiting = none) : s.rowsEndAt = s.rowsYield := by
  have ends : s.rowsEnd = s.rowsYield := by rw [State.rowsEnd_active active, free]
  unfold State.rowsEndAt
  rw [ends]
  exact State.stepFifteen_unsent (congrArg TimeSt.nextL s.rowsYield_time)

theorem State.rowsEndAt_launches {s : State} {q : Nat} (active : s.scan.active = true) (waits : s.scan.waiting = some q) :
    s.rowsEndAt.timeScan = (s.rowsYield.doLaunch q true).timeScan := by
  have ends : s.rowsEnd = s.rowsYield.doLaunch q true := by rw [State.rowsEnd_active active, waits]
  unfold State.rowsEndAt
  rw [ends]
  exact State.stepFifteen_timeScan ..

end Sys2Proof.Machine

namespace Sys2Proof.Proofs

open Machine Safety Claims

/-- Settles O24. -/
theorem launchPoints : Obligations.LaunchPoints := by
  intro s t alive p
  rw [exec_launchArm t alive, exec_launchSlot t alive, exec_frameRowsEnd t alive]
  refine ⟨fun stays => ?_, fun l known early => ?_, fun l unarmed known due => ?_, fun unarmed => ?_, fun armed active => ⟨_, rfl, ?_⟩,
    fun armed free => ⟨_, rfl, ?_⟩, fun idle => ?_, fun active free => ?_, fun q active waits => ⟨_, rfl, ?_⟩⟩
  · rcases stays with armed | unknown
    · rw [State.launchArm_armed (s := s.tick t) armed]
    · rw [State.launchArm_unknown (s := s.tick t) unknown]
  · rw [State.launchArm_waits (s := s.tick t) known (.inr early)]
  · rw [State.launchArm_arms (s := s.tick t) known unarmed due]
    exact ⟨_, rfl, State.armOwn_time, fun single standby => State.armOwn_standby single standby, fun single driven => State.armOwn_shows single driven,
      fun paired => State.armOwn_paired paired⟩
  · rw [State.launchPointAt_unarmed (s := s.tick t) unarmed]
  · have waits := (s.tick t).launchPointAt_timeScan.trans (State.launchSlot_waits (s := s.tick t) armed active)
    exact ⟨congrArg Prod.snd waits, congrArg Prod.fst waits⟩
  · obtain ⟨fcnt, sent, counts⟩ := (s.tick t).doLaunch_sent p ((s.tick t).armedLate p)
    have launched := (State.sent_of_timeScan ((s.tick t).launchPointAt_timeScan.trans (State.launchSlot_sends (s := s.tick t) armed free))).trans sent
    exact ⟨congrArg (fun x => x.time.nextL) launched, congrArg (fun x => x.time.armed) launched, congrArg Sent.slot launched,
      congrArg Sent.waiting launched, congrArg (fun x => x.time.launches) launched, congrArg Sent.kind launched,
      fun sends => (congrArg Sent.fcnt launched).trans (counts sends)⟩
  · rw [State.rowsEndAt_idle (s := s.tick t) idle]
  · intro v
    rw [State.rowsEndAt_ends (s := s.tick t) active free]
    rfl
  · obtain ⟨fcnt, sent, -⟩ := (s.tick t).rowsYield.doLaunch_sent q true
    have launched := (State.sent_of_timeScan (State.rowsEndAt_launches (s := s.tick t) active waits)).trans sent
    exact ⟨congrArg Sent.slot launched, congrArg Sent.waiting launched, congrArg (fun x => x.time.nextL) launched⟩

end Sys2Proof.Proofs

namespace Sys2Proof.Machine

open Safety Claims

/-! Stream units (R157, R275, R403): their commands at their instant, and the packets of a unit. -/

section
variable {s : State} (t : Nat) (alive : s.alive = true)
include alive

theorem exec_sceneUnit : exec (.sceneUnit t) s = .next (s.tick t).sceneUnit := State.live_alive t State.sceneUnit alive

theorem exec_cmdlistUnit : exec (.cmdlistUnit t) s = .next (s.tick t).cmdlistUnit := State.live_alive t State.cmdlistUnit alive

theorem exec_chunkUnit : exec (.chunkUnit t) s = .next (s.tick t).chunkUnit := State.live_alive t State.chunkUnit alive

theorem exec_mapUnit : exec (.mapUnit t) s = .next (s.tick t).mapUnit := State.live_alive t State.mapUnit alive

end

/-- The first complete unit of a type is taken. -/
def State.takeReady (s : State) (r : List StreamUnit) : State := { s with strm := { s.strm with ready := r } }

theorem State.packetGone_eq (s : State) (wait : Bool) (m : Nat) : ∃ b, s.packetGone wait m = { s with basin := b } := by
  unfold State.packetGone
  split
  · exact ⟨_, rfl⟩
  · split
    · exact ⟨_, rfl⟩
    · extract_lets filling b
      split <;> exact ⟨_, rfl⟩

theorem State.packetsDone_eq (l : List (Nat × Nat)) (s : State) : ∃ b, s.packetsDone l = { s with basin := b } := by
  induction l generalizing s with
  | nil => exact ⟨_, rfl⟩
  | cons a l ih =>
    obtain ⟨b, gone⟩ := s.packetGone_eq false (a.1 / moorSize)
    obtain ⟨b', done⟩ := ih { s with basin := b }
    exact ⟨b', (congrArg (fun v : State => v.packetsDone l) gone).trans done⟩

theorem State.unitDone_eq (s : State) (p : Nat) (l : List (Nat × Nat)) : ∃ b q, s.unitDone p l = { s with basin := b, pair := q } := by
  unfold State.unitDone
  split
  · exact ⟨_, _, rfl⟩
  · obtain ⟨b, done⟩ := s.packetsDone_eq l
    exact ⟨b, _, done⟩

theorem State.raiseOnce_eq (s : State) (code block key arg0 arg1 : Nat) : ∃ e, s.raiseOnce code block key arg0 arg1 = { s with evt := e } := by
  unfold State.raiseOnce State.raiseOnceI
  split <;> exact ⟨_, rfl⟩

/-- A discard reaches a counter, the events and the Basin: nothing in the stream or the decoder. -/
theorem State.discard_keeps (s : State) (f : Fld) (code block key arg0 arg1 : Nat) (l : List (Nat × Nat)) :
    (((s.inc f).raiseOnce code block key arg0 arg1).packetsDone l).strm = s.strm ∧
      (((s.inc f).raiseOnce code block key arg0 arg1).packetsDone l).dec = s.dec := by
  obtain ⟨e, raised⟩ := (s.inc f).raiseOnce_eq code block key arg0 arg1
  obtain ⟨b, done⟩ := State.packetsDone_eq l ({ s.inc f with evt := e } : State)
  rw [raised, done]
  exact ⟨rfl, rfl⟩

theorem State.unitDiscard_keeps (s : State) (u : StreamUnit) (cause : Nat) :
    (s.unitDiscard u cause).strm = s.strm ∧ (s.unitDiscard u cause).dec = s.dec := State.discard_keeps ..

theorem State.modSlot_slot {s : State} {k : Nat} (inside : k < s.strm.slots.length) (f : SceneSlot → SceneSlot) :
    (s.modSlot k f).strm.slot k = f (s.strm.slot k) := by
  unfold State.modSlot StrmSt.slot
  rw [getElem?_modAt, List.getElem?_eq_getElem inside]
  rfl

/-- The first complete unit of a type is taken, and its packets are done. -/
def State.useUnit (s : State) (r : List StreamUnit) (p : Nat) (l : List (Nat × Nat)) : State := (s.takeReady r).unitDone p l

section
variable (s : State) (r : List StreamUnit) (p : Nat) (l : List (Nat × Nat))

theorem State.useUnit_eq : ∃ b q, s.useUnit r p l = { s with strm := { s.strm with ready := r }, basin := b, pair := q } := (s.takeReady r).unitDone_eq p l

theorem State.useUnit_strm : (s.useUnit r p l).strm = { s.strm with ready := r } := by
  obtain ⟨b, q, used⟩ := s.useUnit_eq r p l
  rw [used]

theorem State.useUnit_lock : (s.useUnit r p l).lock = s.lock := by
  obtain ⟨b, q, used⟩ := s.useUnit_eq r p l
  rw [used]

theorem State.useUnit_cset : (s.useUnit r p l).cset = s.cset := by
  obtain ⟨b, q, used⟩ := s.useUnit_eq r p l
  rw [used]
  rfl

theorem State.useUnit_stamps : (s.useUnit r p l).stamps = s.stamps := by
  obtain ⟨b, q, used⟩ := s.useUnit_eq r p l
  rw [used]
  rfl

theorem State.useUnit_slot (k : Nat) : (s.useUnit r p l).strm.slot k = s.strm.slot k := by
  rw [State.useUnit_strm]
  rfl

theorem State.useUnit_slots : (s.useUnit r p l).strm.slots = s.strm.slots := by
  rw [State.useUnit_strm]

theorem State.useUnit_currentPound : (s.useUnit r p l).currentPound = s.currentPound := by
  unfold State.currentPound State.closedPound
  rw [State.useUnit_lock]

theorem State.useUnit_isClosed (q : Nat) : (s.useUnit r p l).isClosed q = s.isClosed q := by
  unfold State.isClosed State.closedPound
  rw [State.useUnit_lock]

end

/-! Headers (R160 to R162). -/

/-- A header with the id and version of `c`. -/
def Scene.matchesHeader (c : Scene) (o : Option Scene) : Bool := match o with | some y => y.id == c.id && y.ver == c.ver | none => false

/-- When a sound header starts (R161). -/
def State.startScene (s : State) (k : Nat) (c : Scene) : Scene :=
  if (s.strm.slot k).cur.isNone ∧ ¬ laterPound c.start s.currentPound then { c with start := poundAdd s.currentPound 1 } else c

theorem State.startScene_eq (s : State) (k : Nat) (c : Scene) : s.startScene k c =
    if (s.strm.slot k).cur = none ∧ laterPound c.start s.currentPound = false then { c with start := poundAdd s.currentPound 1 } else c :=
  if_congr (by simp) rfl rfl

/-- A sound header is pending for its slot, its channels open (R162). -/
def State.pendScene (s : State) (k : Nat) (c : Scene) : State :=
  let sl := s.strm.slot k
  let old := match sl.pend with | some p => p.chans.map (fun x => (p.grp, x)) | none => []
  (s.each (c.chans.filter (fun x => !sl.open_.contains (c.grp, x) && x != 0)) (fun s x => s.withChan c.grp x)).modSlot k
    (fun sl => { sl with pend := some c, extra := sl.extra ++ old })

/-- What the opening of channels leaves of the stream. -/
def State.offChans (s : State) : StrmSt := { s.strm with chans := [] }

theorem State.withChan_offChans (s : State) (grp chan : Nat) : (s.withChan grp chan).offChans = s.offChans := by
  unfold State.withChan
  split <;> rfl

theorem State.each_withChan_offChans (s : State) (grp : Nat) (l : List Nat) : (s.each l (fun s x => s.withChan grp x)).offChans = s.offChans :=
  State.each_proj State.offChans _ (fun s x => s.withChan_offChans grp x) l s

theorem State.pendScene_ready (s : State) (k : Nat) (c : Scene) : (s.pendScene k c).strm.ready = s.strm.ready :=
  (congrArg StrmSt.ready (s.each_withChan_offChans c.grp _) :)

theorem State.pendScene_slot {s : State} {k : Nat} (inside : k < s.strm.slots.length) (c : Scene) :
    ((s.pendScene k c).strm.slot k).cur = (s.strm.slot k).cur ∧ ((s.pendScene k c).strm.slot k).pend = some c := by
  have slots := congrArg StrmSt.slots (s.each_withChan_offChans c.grp
    (c.chans.filter (fun x => !(s.strm.slot k).open_.contains (c.grp, x) && x != 0)))
  unfold State.pendScene
  rw [State.modSlot_slot (inside.trans_eq (congrArg List.length slots.symm))]
  exact ⟨congrArg (fun m => ((m[k]?).getD SceneSlot.reset).cur) slots, rfl⟩

theorem State.useUnit_sceneCause (s : State) (r : List StreamUnit) (p : Nat) (l : List (Nat × Nat)) (x : StreamUnit) (k : Nat) (c : Scene) :
    (s.useUnit r p l).sceneCause x k c = s.sceneCause x k c := by
  obtain ⟨b, q, used⟩ := s.useUnit_eq r p l
  rw [used]
  rfl

theorem State.useUnit_startScene (s : State) (r : List StreamUnit) (p : Nat) (l : List (Nat × Nat)) (k : Nat) (c : Scene) :
    (s.useUnit r p l).startScene k c = s.startScene k c := by
  unfold State.startScene
  rw [State.useUnit_slot, State.useUnit_currentPound]

theorem State.sceneUnit_none {s : State} (none : takeUnit 1 s.strm.ready = none) : s.sceneUnit = s := by
  unfold State.sceneUnit
  rw [none]

section
variable {s : State} {x : StreamUnit} {r : List StreamUnit} (first : takeUnit 1 s.strm.ready = some (x, r))
include first

theorem State.sceneUnit_unsound {cause : Nat} (unsound : unitCause x = some cause) : s.sceneUnit = (s.takeReady r).unitDiscard x cause := by
  unfold State.sceneUnit
  simp only [first, unsound]
  rfl

variable (sound : unitCause x = none)
include sound

/-- A unit that keeps the header rules (R161, R162). -/
theorem State.sceneUnit_sound :
    let k := beAt x.bytes 1 1
    let c := parseScene x
    let v := s.useUnit r (beAt x.bytes 4 4) x.moors
    s.sceneUnit = if c.matchesHeader (s.strm.slot k).pend ∨ c.matchesHeader (s.strm.slot k).cur then v
      else match s.sceneCause x k c with
        | some cause => v.raise 0x411 bRING (cause + 256 * k) c.id
        | none => v.pendScene k (s.startScene k c) := by
  intro k c v
  rw [← s.useUnit_slot r (beAt x.bytes 4 4) x.moors, ← s.useUnit_sceneCause r (beAt x.bytes 4 4) x.moors,
    ← s.useUnit_startScene r (beAt x.bytes 4 4) x.moors]
  unfold State.sceneUnit
  rw [first]
  dsimp only
  rw [sound]
  exact if_congr (by tauto) rfl rfl

theorem State.sceneUnit_ready : s.sceneUnit.strm.ready = r := by
  have used := congrArg StrmSt.ready (s.useUnit_strm r (beAt x.bytes 4 4) x.moors)
  rw [State.sceneUnit_sound first sound]
  split
  · exact used
  · split
    · exact used
    · exact (State.pendScene_ready ..).trans used

theorem State.sceneUnit_known (known : (parseScene x).matchesHeader (s.strm.slot (beAt x.bytes 1 1)).pend = true ∨
    (parseScene x).matchesHeader (s.strm.slot (beAt x.bytes 1 1)).cur = true) : s.sceneUnit = s.useUnit r (beAt x.bytes 4 4) x.moors :=
  (State.sceneUnit_sound first sound).trans (if_pos known)

variable (pend : (parseScene x).matchesHeader (s.strm.slot (beAt x.bytes 1 1)).pend = false)
  (cur : (parseScene x).matchesHeader (s.strm.slot (beAt x.bytes 1 1)).cur = false)
include pend cur

theorem State.sceneUnit_refused {cause : Nat} (refused : s.sceneCause x (beAt x.bytes 1 1) (parseScene x) = some cause) :
    s.sceneUnit = (s.useUnit r (beAt x.bytes 4 4) x.moors).raise 0x411 bRING (cause + 256 * beAt x.bytes 1 1) (parseScene x).id := by
  rw [State.sceneUnit_sound first sound, if_neg (by simp [pend, cur]), refused]

theorem State.sceneUnit_pends (passes : s.sceneCause x (beAt x.bytes 1 1) (parseScene x) = none) :
    s.sceneUnit = (s.useUnit r (beAt x.bytes 4 4) x.moors).pendScene (beAt x.bytes 1 1) (s.startScene (beAt x.bytes 1 1) (parseScene x)) := by
  rw [State.sceneUnit_sound first sound, if_neg (by simp [pend, cur]), passes]

end

/-! Command lists (R168). -/

theorem State.each_raise_strm {α : Type} (s : State) (l : List α) (code block : Nat) (arg0 arg1 : α → Nat) :
    (s.each l (fun s a => s.raise code block (arg0 a) (arg1 a))).strm = s.strm :=
  State.each_proj State.strm (fun s a => s.raise code block (arg0 a) (arg1 a)) (fun _ _ => rfl) l s

theorem State.lateModes_strm (s : State) (b : List Byte) (p : Nat) : (s.lateModes b p).strm = s.strm := by
  unfold State.lateModes
  split
  · rfl
  · exact s.each_raise_strm _ 0x00A bTOP (fun _ => p) (fun c => beAt c 8 1 + 256 * beAt c 9 1)

section
variable {s : State} {k : Nat} (inside : k < s.strm.slots.length) (p crc : Nat)
include inside

theorem State.checkedList_refused (cause : Nat) :
    ((s.checkedList k p crc (.inl cause)).strm.slot k).lists = (s.strm.slot k).lists ∧
      ((s.checkedList k p crc (.inl cause)).strm.slot k).refused = (s.strm.slot k).refused ++ [(p, crc)] ∧
      (s.checkedList k p crc (.inl cause)).evt = (s.raise 0x413 bRING (cause + 256 * k) p).evt := by
  have noted := State.modSlot_slot inside (fun sl => { sl with refused := sl.refused ++ [(p, crc)] })
  exact ⟨(congrArg SceneSlot.lists noted :), (congrArg SceneSlot.refused noted :), rfl⟩

theorem State.checkedList_held (cmds : List Cmd) (skipped : List Nat) :
    ((s.checkedList k p crc (.inr (cmds, skipped))).strm.slot k).lists =
      (s.strm.slot k).lists ++ [{ pound := p, crc := crc, cmds := cmds }] := by
  have told : (s.each skipped (fun s t => s.raise 0x415 bRING t p)).strm = s.strm :=
    s.each_raise_strm skipped 0x415 bRING (fun t => t) (fun _ => p)
  unfold State.checkedList
  dsimp only
  rw [State.modSlot_slot (told ▸ inside), told]

end

theorem State.checkedList_ready (s : State) (k p crc : Nat) (found : Nat ⊕ (List Cmd × List Nat)) :
    (s.checkedList k p crc found).strm.ready = s.strm.ready := by
  unfold State.checkedList
  split
  · rfl
  next cmds skipped =>
    have told := s.each_raise_strm skipped 0x415 bRING (fun t => t) (fun _ => p)
    exact (congrArg StrmSt.ready told :)

/-- What the check of a CMDLIST unit finds (R168). -/
def State.listFound (s : State) (x : StreamUnit) : Nat ⊕ (List Cmd × List Nat) :=
  let sl := s.strm.slot (beAt x.bytes 1 1)
  let p := beAt x.bytes 4 4
  checkList x.bytes (sl.listDesc p) (s.panelOf (sl.governs p)) s.cset.clipBad

theorem State.useUnit_listFound (s : State) (r : List StreamUnit) (p : Nat) (l : List (Nat × Nat)) (x : StreamUnit) :
    (s.useUnit r p l).listFound x = s.listFound x := by
  unfold State.listFound State.panelOf
  rw [State.useUnit_slot, State.useUnit_cset]

theorem State.cmdlistUnit_none {s : State} (none : takeUnit 2 s.strm.ready = none) : s.cmdlistUnit = s := by
  unfold State.cmdlistUnit
  rw [none]

section
variable {s : State} {x : StreamUnit} {r : List StreamUnit} (first : takeUnit 2 s.strm.ready = some (x, r))
include first

theorem State.cmdlistUnit_unsound {cause : Nat} (unsound : unitCause x = some cause) : s.cmdlistUnit = (s.takeReady r).unitDiscard x cause := by
  unfold State.cmdlistUnit
  simp only [first, unsound]
  rfl

variable (sound : unitCause x = none)
include sound

/-- A unit that keeps the header rules (R159, R168). -/
theorem State.cmdlistUnit_sound :
    let k := beAt x.bytes 1 1
    let p := beAt x.bytes 4 4
    let crc := beAt x.bytes 12 4
    let v := s.useUnit r p x.moors
    s.cmdlistUnit = if s.tooFar p then (s.takeReady r).unitDiscard x 3
      else if s.isClosed p then (v.listDiscard k 1 p).lateModes x.bytes p
      else match (s.strm.slot k).firstList p with
        | some y => if y = crc then v else v.listDiscard k 2 p
        | none => v.checkedList k p crc (s.listFound x) := by
  intro k p crc v
  rw [← s.useUnit_slot r p x.moors, ← s.useUnit_isClosed r p x.moors, ← s.useUnit_listFound r p x.moors]
  unfold State.cmdlistUnit
  rw [first]
  dsimp only
  rw [sound]
  rfl

/-- A list that is too far ahead, late, or a second one for its pound. -/
theorem State.cmdlistUnit_ignored (vain : s.tooFar (beAt x.bytes 4 4) = true ∨ s.isClosed (beAt x.bytes 4 4) = true ∨
    (s.strm.slot (beAt x.bytes 1 1)).firstList (beAt x.bytes 4 4) ≠ none) : s.cmdlistUnit.strm = { s.strm with ready := r } := by
  have used := s.useUnit_strm r (beAt x.bytes 4 4) x.moors
  rw [State.cmdlistUnit_sound first sound]
  split
  · exact (State.unitDiscard_keeps ..).1
  next near =>
  split
  · exact (State.lateModes_strm ..).trans used
  next opens =>
  split
  · split <;> exact used
  next only => exact absurd only ((vain.resolve_left near).resolve_left opens)

theorem State.cmdlistUnit_checked (near : s.tooFar (beAt x.bytes 4 4) = false) (opens : s.isClosed (beAt x.bytes 4 4) = false)
    (only : (s.strm.slot (beAt x.bytes 1 1)).firstList (beAt x.bytes 4 4) = none) :
    s.cmdlistUnit = (s.useUnit r (beAt x.bytes 4 4) x.moors).checkedList (beAt x.bytes 1 1) (beAt x.bytes 4 4) (beAt x.bytes 12 4) (s.listFound x) := by
  rw [State.cmdlistUnit_sound first sound, if_neg (Bool.eq_false_iff.mp near), if_neg (Bool.eq_false_iff.mp opens), only]

theorem State.cmdlistUnit_ready : s.cmdlistUnit.strm.ready = r := by
  by_cases vain : s.tooFar (beAt x.bytes 4 4) = true ∨ s.isClosed (beAt x.bytes 4 4) = true ∨
    (s.strm.slot (beAt x.bytes 1 1)).firstList (beAt x.bytes 4 4) ≠ none
  · exact congrArg StrmSt.ready (State.cmdlistUnit_ignored first sound vain)
  · simp only [not_or, Bool.not_eq_true, not_not] at vain
    obtain ⟨near, opens, only⟩ := vain
    rw [State.cmdlistUnit_checked first sound near opens only, State.checkedList_ready, State.useUnit_strm]

end

/-! Maps (R159, R166). -/

/-- Why a MAP unit is discarded (R159, R166). -/
def State.mapCause (s : State) (x : StreamUnit) : Option Nat :=
  match unitCause x with
  | some c => some c
  | none =>
    if s.tooFar (beAt x.bytes 4 4) then some 3
    else
      match (s.strm.slot (beAt x.bytes 1 1)).descFor (beAt x.bytes 4 4) (beAt x.bytes 2 1) with
      | none => some 5
      | some (_, d) =>
        if ¬ d.tiled ∨ x.bytes.length ≠ 16 + 16 * (d.tilesX * d.tilesY) ∨ (mapCells x.bytes).any cellsClash then some 6
        else if s.isClosed (beAt x.bytes 4 4) then some 7
        else none

/-- The MAP in a unit. -/
def parseMap (x : StreamUnit) : LayerMap := { layer := beAt x.bytes 2 1, pound := beAt x.bytes 4 4, cells := mapCells x.bytes }

/-- A sound MAP is held in place of an earlier one (R166). -/
def State.holdMap (s : State) (k : Nat) (m : LayerMap) : State :=
  s.modSlot k (fun sl => { sl with maps := m :: sl.maps.filter (fun y => ¬ (y.layer = m.layer ∧ y.pound = m.pound)) })

theorem State.holdMap_maps {s : State} {k : Nat} (inside : k < s.strm.slots.length) (m : LayerMap) :
    ((s.holdMap k m).strm.slot k).maps = m :: (s.strm.slot k).maps.filter (fun y => ¬ (y.layer = m.layer ∧ y.pound = m.pound)) :=
  congrArg SceneSlot.maps (State.modSlot_slot inside _)

theorem State.mapUnit_none {s : State} (none : takeUnit 4 s.strm.ready = none) : s.mapUnit = s := by
  unfold State.mapUnit
  rw [none]

section
variable {s : State} {x : StreamUnit} {r : List StreamUnit}

section
variable (first : takeUnit 4 s.strm.ready = some (x, r))
include first

theorem State.mapUnit_takes : s.mapUnit = match s.mapCause x with
    | some cause => (s.takeReady r).unitDiscard x cause
    | none => (s.useUnit r (beAt x.bytes 4 4) x.moors).holdMap (beAt x.bytes 1 1) (parseMap x) := by
  unfold State.mapUnit
  rw [first]
  rfl

theorem State.mapUnit_discards {cause : Nat} (refused : s.mapCause x = some cause) : s.mapUnit = (s.takeReady r).unitDiscard x cause := by
  rw [State.mapUnit_takes first, refused]

theorem State.mapUnit_holds (passes : s.mapCause x = none) :
    s.mapUnit = (s.useUnit r (beAt x.bytes 4 4) x.moors).holdMap (beAt x.bytes 1 1) (parseMap x) := by
  rw [State.mapUnit_takes first, passes]

end

theorem State.mapCause_unsound {cause : Nat} (unsound : unitCause x = some cause) : s.mapCause x = some cause := by
  unfold State.mapCause
  rw [unsound]

/-- A MAP that is too far ahead, late or for no layer is discarded. -/
theorem State.mapCause_discards (vain : s.tooFar (beAt x.bytes 4 4) = true ∨ s.isClosed (beAt x.bytes 4 4) = true ∨
    (s.strm.slot (beAt x.bytes 1 1)).descFor (beAt x.bytes 4 4) (beAt x.bytes 2 1) = none) : ∃ cause, s.mapCause x = some cause := by
  unfold State.mapCause
  split
  · exact ⟨_, rfl⟩
  · split
    · exact ⟨3, rfl⟩
    next near =>
    split
    · exact ⟨5, rfl⟩
    next named =>
    split
    · exact ⟨6, rfl⟩
    rw [named] at vain
    exact ⟨7, if_pos ((vain.resolve_left near).resolve_right (Option.some_ne_none _))⟩

theorem State.mapCause_none {c : Scene} {d : Desc} (sound : unitCause x = none) (near : s.tooFar (beAt x.bytes 4 4) = false)
    (opens : s.isClosed (beAt x.bytes 4 4) = false)
    (named : (s.strm.slot (beAt x.bytes 1 1)).descFor (beAt x.bytes 4 4) (beAt x.bytes 2 1) = some (c, d)) (tiled : d.tiled = true)
    (length : x.bytes.length = 16 + 16 * (d.tilesX * d.tilesY)) (clear : (mapCells x.bytes).any cellsClash = false) : s.mapCause x = none := by
  simp [State.mapCause, sound, near, opens, named, tiled, length, clear]

end

/-! Chunks (R159, R179 to R181). -/

theorem State.chunkCheck_unsound {s : State} {x : StreamUnit} {cause : Nat} (unsound : unitCause x = some cause) : s.chunkCheck x = .inl cause := by
  unfold State.chunkCheck
  rw [unsound]

/-- A chunk after its close (R181). -/
def State.lateChunk (s : State) (c : Chunk) (l : List (Nat × Nat)) : State :=
  ((s.inc F.RING_CHUNK_LATE_COUNT).raiseOnce 0x416 bRING (c.slot * 32 + c.layer) (c.layer + 256 * c.slot) c.pound).packetsDone l

/-- A chunk joins the decoder queue and is noted as seen (R179, R181). -/
def State.queueChunk (s : State) (x : StreamUnit) (c : Chunk) : State :=
  let v := match chanOf s.strm.chans x.grp x.chan with
    | some ch => s.putChan { ch with lastP := some c.pound }
    | none => s
  { v with strm := { v.strm with seen := (c.slot, c.layer, c.tx, c.ty, c.pound) :: v.strm.seen }, dec := { v.dec with queue := v.dec.queue ++ [c] } }

theorem State.lateChunk_keeps (s : State) (c : Chunk) (l : List (Nat × Nat)) :
    (s.lateChunk c l).strm = s.strm ∧ (s.lateChunk c l).dec = s.dec := State.discard_keeps ..

theorem State.queueChunk_adds (s : State) (x : StreamUnit) (c : Chunk) :
    (s.queueChunk x c).strm.ready = s.strm.ready ∧ (s.queueChunk x c).dec.queue = s.dec.queue ++ [c] ∧
      (s.queueChunk x c).strm.seen = (c.slot, c.layer, c.tx, c.ty, c.pound) :: s.strm.seen := by
  unfold State.queueChunk
  split <;> exact ⟨rfl, rfl, rfl⟩

theorem State.chunkUnit_none {s : State} (none : takeUnit 3 s.strm.ready = none) : s.chunkUnit = s := by
  unfold State.chunkUnit
  rw [none]

section
variable {s : State} {x : StreamUnit} {r : List StreamUnit} (first : takeUnit 3 s.strm.ready = some (x, r))
include first

theorem State.chunkUnit_takes : s.chunkUnit = match s.chunkCheck x with
    | .inl cause => (s.takeReady r).unitDiscard x cause
    | .inr c => if s.isClosed (poundAdd c.pound 1) then (s.takeReady r).lateChunk c x.moors else (s.takeReady r).queueChunk x c := by
  unfold State.chunkUnit
  rw [first]
  rfl

theorem State.chunkUnit_discards {cause : Nat} (refused : s.chunkCheck x = .inl cause) : s.chunkUnit = (s.takeReady r).unitDiscard x cause := by
  rw [State.chunkUnit_takes first, refused]

theorem State.chunkUnit_passes {c : Chunk} (passes : s.chunkCheck x = .inr c) :
    s.chunkUnit = if s.isClosed (poundAdd c.pound 1) then (s.takeReady r).lateChunk c x.moors else (s.takeReady r).queueChunk x c := by
  rw [State.chunkUnit_takes first, passes]

end

end Sys2Proof.Machine

namespace Sys2Proof.Proofs

open Machine Safety Claims

/-- A part of `streamUnits`. -/
theorem streamUnitsParsed : Claims.StreamUnitsParsed := by
  intro s t alive
  rw [exec_sceneUnit t alive, exec_cmdlistUnit t alive, exec_chunkUnit t alive, exec_mapUnit t alive]
  refine ⟨fun none => congrArg _ (State.sceneUnit_none none), fun none => congrArg _ (State.cmdlistUnit_none none),
    fun none => congrArg _ (State.chunkUnit_none none), fun none => congrArg _ (State.mapUnit_none none), fun x r cause unsound => ?_⟩
  have keeps := ((s.tick t).takeReady r).unitDiscard_keeps x cause
  exact ⟨fun first => ⟨_, congrArg _ (State.sceneUnit_unsound (s := s.tick t) first unsound), keeps⟩,
    fun first => ⟨_, congrArg _ (State.cmdlistUnit_unsound (s := s.tick t) first unsound), keeps⟩,
    fun first => ⟨_, congrArg _ (State.chunkUnit_discards (s := s.tick t) first (State.chunkCheck_unsound unsound)), keeps⟩,
    fun first => ⟨_, congrArg _ (State.mapUnit_discards (s := s.tick t) first (State.mapCause_unsound unsound)), keeps⟩⟩

/-- A part of `streamUnits`. -/
theorem scenesActed : Claims.ScenesActed := by
  intro s t x r alive sound first k c sl same inside
  have first : takeUnit 1 (s.tick t).strm.ready = some (x, r) := first
  let v := (s.tick t).useUnit r (beAt x.bytes 4 4) x.moors
  have slots : v.strm.slots = s.strm.slots := State.useUnit_slots ..
  have stamps : v.stamps = (s.tick t).stamps := State.useUnit_stamps ..
  rw [exec_sceneUnit t alive]
  refine ⟨_, rfl, State.sceneUnit_ready first sound, fun known => ?_, fun cause pend cur refused => ?_, fun pend cur passes => ?_⟩
  · rw [State.sceneUnit_known first sound known]
    exact ⟨slots, congrArg Prod.fst stamps⟩
  · rw [State.sceneUnit_refused first sound pend cur refused]
    exact ⟨slots, State.raise_evt_congr stamps ..⟩
  · rw [State.sceneUnit_pends first sound pend cur passes]
    obtain ⟨cur, pend⟩ := State.pendScene_slot (s := v) (k := k) (slots ▸ inside) ((s.tick t).startScene k c)
    have slot : v.strm.slot k = sl := State.useUnit_slot ..
    exact ⟨cur.trans (congrArg SceneSlot.cur slot), pend.trans (congrArg some (State.startScene_eq ..))⟩

/-- A part of `streamUnits`. -/
theorem listsActed : Claims.ListsActed := by
  intro s t x r alive sound first k p crc sl found inside
  have first : takeUnit 2 (s.tick t).strm.ready = some (x, r) := first
  let v := (s.tick t).useUnit r p x.moors
  have slot : v.strm.slot k = sl := State.useUnit_slot ..
  have stamps : v.stamps = (s.tick t).stamps := State.useUnit_stamps ..
  have inside : k < v.strm.slots.length := inside.trans_eq (congrArg List.length ((s.tick t).useUnit_slots r p x.moors).symm)
  rw [exec_cmdlistUnit t alive]
  refine ⟨_, rfl, State.cmdlistUnit_ready first sound, fun vain => (congrArg StrmSt.slots (State.cmdlistUnit_ignored first sound vain) :),
    fun cause near opens only refused => ?_, fun cmds skipped near opens only passes => ?_⟩
  · have refused : (s.tick t).listFound x = .inl cause := refused
    obtain ⟨lists, noted, evt⟩ := State.checkedList_refused inside p crc cause
    rw [State.cmdlistUnit_checked first sound near opens only, refused]
    exact ⟨lists.trans (congrArg SceneSlot.lists slot), noted.trans (congrArg (fun m => m.refused ++ [(p, crc)]) slot),
      evt.trans (State.raise_evt_congr stamps ..)⟩
  · have passes : (s.tick t).listFound x = .inr (cmds, skipped) := passes
    rw [State.cmdlistUnit_checked first sound near opens only, passes]
    exact (State.checkedList_held inside p crc cmds skipped).trans (congrArg (fun m => m.lists ++ _) slot)

/-- A part of `streamUnits`. -/
theorem mapsAndChunksActed : Claims.MapsAndChunksActed := by
  intro s t x r alive sound k p l sl
  rw [exec_mapUnit t alive, exec_chunkUnit t alive]
  refine ⟨fun c d first inside near opens named tiled length clear => ⟨_, rfl, ?_⟩, fun first vain => ?_, fun cause first refused => ?_,
    fun c first passes => ⟨_, rfl, ?_⟩⟩
  · let v := (s.tick t).useUnit r p x.moors
    have slot : v.strm.slot k = sl := State.useUnit_slot ..
    have inside : k < v.strm.slots.length := inside.trans_eq (congrArg List.length ((s.tick t).useUnit_slots r p x.moors).symm)
    rw [State.mapUnit_holds (s := s.tick t) first (State.mapCause_none sound near opens named tiled length clear), ← slot]
    exact ⟨congrArg StrmSt.ready ((s.tick t).useUnit_strm r p x.moors), State.holdMap_maps inside (parseMap x)⟩
  · obtain ⟨cause, refused⟩ := State.mapCause_discards (s := s.tick t) vain
    exact ⟨_, congrArg _ (State.mapUnit_discards (s := s.tick t) first refused), (State.unitDiscard_keeps ..).1⟩
  · exact ⟨_, congrArg _ (State.chunkUnit_discards (s := s.tick t) first refused), State.unitDiscard_keeps ..⟩
  · rw [State.chunkUnit_passes (s := s.tick t) first passes]
    split
    next late =>
      obtain ⟨strm, dec⟩ := ((s.tick t).takeReady r).lateChunk_keeps c x.moors
      exact ⟨congrArg StrmSt.ready strm, fun opens => absurd late (Bool.eq_false_iff.mp opens), fun _ => ⟨dec, (congrArg StrmSt.seen strm :)⟩⟩
    next opens =>
      obtain ⟨ready, queue, seen⟩ := ((s.tick t).takeReady r).queueChunk_adds x c
      exact ⟨ready, fun _ => ⟨queue, seen⟩, fun late => absurd late opens⟩

/-- Settles O25. -/
theorem streamUnits : Obligations.StreamUnits := ⟨streamUnitsParsed, scenesActed, listsActed, mapsAndChunksActed⟩

end Sys2Proof.Proofs

namespace Sys2Proof.Machine

/-! The composer's commands (R218, R219, R229, R243, R244), at their instant. -/

theorem State.encTap_idle {s : State} (none : s.comp.taps.find? (fun b => b.role == BufRole.queued) = none) : s.encTap = s := by
  unfold State.encTap
  rw [none]

section
variable {s : State} (t : Nat) (alive : s.alive = true)
include alive

theorem exec_blockIssue : exec (.blockIssue t) s = .next (s.tick t).blockIssue := State.live_alive t State.blockIssue alive

theorem exec_blockDone (k : Nat) (mismatch : Bool) :
    exec (.blockDone t k mismatch) s = .next ((s.tick t).blockDone k mismatch).encTap :=
  State.live_alive t (fun s => (s.blockDone k mismatch).encTap) alive

/-- With no tap picture queued at the end of the block, nothing is offered to the encoder (R379). -/
theorem exec_blockDone_untapped {k : Nat} {mismatch : Bool} {u : State} (done : (s.tick t).blockDone k mismatch = u)
    (noTap : u.comp.taps.find? (fun b => b.role == BufRole.queued) = none) : exec (.blockDone t k mismatch) s = .next u := by
  rw [exec_blockDone t alive, done, State.encTap_idle noTap]

theorem exec_loadEstimateDone : exec (.loadEstimateDone t) s = .next (s.tick t).estimate.domainsNeed :=
  State.live_alive t (fun s => s.estimate.domainsNeed) alive

end

/-! A block is issued (R218, R219). -/

section
variable {s : State} {c : Compose}

/-- No block is issued: no composition, a bad one, none left, or no room. -/
theorem State.blockIssue_idle
    (idle : ∀ c, s.comp.cur = some c → c.bad = true ∨ (s.setOf c.pound).geom.blocks ≤ c.next ∨ s.roomCluster c = none) :
    s.blockIssue = s := by
  unfold State.blockIssue
  split
  next => rfl
  next c cur =>
    extract_lets
    split
    next => rfl
    next issues =>
      rcases idle c cur with bad | last | full
      · exact absurd (.inl bad) issues
      · exact absurd (.inr last) issues
      · rw [full]

theorem State.blockIssue_issues {n : Nat} (cur : s.comp.cur = some c) (sound : c.bad = false) (left : c.next < (s.setOf c.pound).geom.blocks)
    (room : s.roomCluster c = some n) :
    ∃ e, s.blockIssue.comp.cur = some e ∧ e.next = c.next + 1 ∧ e.issued = c.issued ++ [(n, c.next)] ∧ e.written = c.written ∧
      s.blockIssue.basin = s.basin := by
  have issues : ¬ (c.bad = true ∨ (s.setOf c.pound).geom.blocks ≤ c.next) := by simp [sound, left]
  unfold State.blockIssue
  rw [cur]
  dsimp only
  rw [if_neg issues, room]
  exact ⟨_, rfl, rfl, rfl, rfl, rfl⟩

end

/-! The composition through the operations at the end of a block. -/

theorem State.freeMoor_comp (s : State) (wait : Bool) (m : Nat) : (s.freeMoor wait m).comp = s.comp := rfl

theorem State.dropOldBufs_cur (s : State) (atOpen : Bool) : (s.dropOldBufs atOpen).comp.cur = s.comp.cur :=
  State.each_proj (fun s => s.comp.cur) _ (fun s m => congrArg CompSt.cur (s.freeMoor_comp atOpen m)) _ s

theorem State.camSweep_comp (s : State) (atOpen : Bool) : (s.camSweep atOpen).comp = s.comp := by
  refine State.each_proj State.comp _ (fun s q => ?_) s.deadBufs s
  exact State.each_proj State.comp _ (fun s m => s.freeMoor_comp atOpen m) _ s

theorem State.encRelease_cur (s : State) (atOpen : Bool) : (s.encRelease atOpen).comp.cur = s.comp.cur :=
  (congrArg CompSt.cur (State.camSweep_comp ..)).trans (State.dropOldBufs_cur ..)

theorem State.raiseOnceI_eq (s : State) (code block inst key arg0 arg1 : Nat) :
    ∃ e, s.raiseOnceI code block inst key arg0 arg1 = { s with evt := e } := by
  unfold State.raiseOnceI
  split <;> exact ⟨_, rfl⟩

theorem State.raiseOnceI_comp (s : State) (code block inst key arg0 arg1 : Nat) :
    (s.raiseOnceI code block inst key arg0 arg1).comp = s.comp := by
  obtain ⟨e, raised⟩ := s.raiseOnceI_eq code block inst key arg0 arg1
  rw [raised]

theorem State.raiseOnceI_basin (s : State) (code block inst key arg0 arg1 : Nat) :
    (s.raiseOnceI code block inst key arg0 arg1).basin = s.basin := by
  obtain ⟨e, raised⟩ := s.raiseOnceI_eq code block inst key arg0 arg1
  rw [raised]

theorem State.raiseOnce_comp (s : State) (code block key arg0 arg1 : Nat) : (s.raiseOnce code block key arg0 arg1).comp = s.comp :=
  State.raiseOnceI_comp ..

theorem State.encOffer_comp (s : State) (k : Nat) (e : EncPic) : (s.encOffer k e).comp = s.comp := by
  unfold State.encOffer
  extract_lets x cs s1 late s2
  have skipped : s2.comp = s.comp := by
    simp only [s2]
    split
    · exact State.raiseOnce_comp ..
    · rfl
  split
  · rfl
  · split
    · rfl
    · exact skipped

theorem State.encTap_cur (s : State) : s.encTap.comp.cur = s.comp.cur := by
  unfold State.encTap
  split
  · rfl
  · extract_lets _ taps s1 g e s2
    have offered : s2.comp = s1.comp :=
      State.each_proj State.comp _ (fun s k => State.when_proj State.comp s _ (fun s => s.encOffer_comp k e)) _ s1
    exact ((s2.encRelease_cur false).trans (congrArg CompSt.cur offered)).trans rfl

theorem State.alert_comp (s : State) (f : Fld) : (s.alert f).comp = s.comp := by
  unfold State.alert
  split <;> rfl

theorem State.judgeGuard_cur (s : State) (c : Compose) (q : Guard) : (s.judgeGuard c q).1.comp.cur = s.comp.cur := by
  unfold State.judgeGuard
  extract_lets cs crc res s1 s2 _ s3 s4 n
  have alerted : s4.comp = s3.comp := by
    simp only [s4]
    split
    · exact State.alert_comp ..
    · rfl
  have judged : s4.comp.cur = s.comp.cur := (congrArg CompSt.cur alerted).trans rfl
  split
  · rfl
  · split
    · rfl
    · split
      · split <;> exact judged
      · exact judged

theorem State.judgeAll_cur (c : Compose) : ∀ (l : List Guard) (s : State), (s.judgeAll c l).1.comp.cur = s.comp.cur
  | [], _ => rfl
  | q :: l, s => (State.judgeAll_cur c l _).trans (s.judgeGuard_cur c q)

/-- A complete frame is no composition any more, whether it is queued or discarded (R246, R256). -/
theorem State.frameComplete_cur (s : State) (c : Compose) : (s.frameComplete c).comp.cur = none := by
  unfold State.frameComplete
  extract_lets cs load s1 s2 s3 s4 s5 s6 guards r s7 taps
  have judged : s7.comp.cur = none := (State.judgeAll_cur c guards s6).trans rfl
  split
  · exact (State.dropOldBufs_cur ..).trans judged
  · exact judged

/-! A block ends (R219, R224 to R236, R257). -/

/-- The composition with block `b` taken from cluster `k` at composer clock `now` (R219, R246). -/
def Compose.taken (c : Compose) (now k b : Nat) : Compose := { c with issued := c.issued.erase (k, b) }.idle now k

theorem Compose.taken_eq (c : Compose) (now k b : Nat) :
    ∃ busy since, c.taken now k b = { c with issued := c.issued.erase (k, b), busy := busy, since := since } := by
  unfold Compose.taken Compose.idle
  split <;> exact ⟨_, _, rfl⟩

/-- The words of a block: those of the second composition, its map off, where the check of the block finds a difference (R229, R236). -/
def State.blockWords (s : State) (c : Compose) (b : Nat) (mismatch : Bool) : List (Nat × Nat × Nat) :=
  let once := (s.composeBlock (s.setOf c.pound) c.stack c.eyes b).words
  let again := (s.composeLayers (s.setOf c.pound) c.stack 0 0 c.eyes b).words
  if c.checks.contains b && (mismatch || again != once) then again else once

/-- The Basin with words of a composition written to its frame buffer, and their samples to its tap (R227, R257). -/
def Compose.writeBlock (c : Compose) (cs : CSet) (bufs taps : List Buf) (basin : BasinSt) (words : List (Nat × Nat × Nat)) : BasinSt :=
  let frame := basin.writeWords (bufMoors bufs c.buf) (cs.geom.cols * cs.geom.vcols) words
  match c.tap with
  | some i => frame.writeWords (bufMoors taps i) cs.geom.cols (tapWords cs words)
  | none => frame

/-- The counts and the event of a check (R236) reach neither the Basin nor the composer. -/
theorem State.checkNoted_keeps (s : State) (checked differs : Bool) (f g : Fld) (code block inst key arg0 arg1 : Nat) :
    let u := s.when checked (fun s => s.inc f)
    let v := if differs then (u.inc g).raiseOnceI code block inst key arg0 arg1 else u
    v.basin = s.basin ∧ v.comp = s.comp := by
  intro u v
  have basin : u.basin = s.basin := State.when_proj State.basin s checked (fun s => s.inc_basin f)
  have comp : u.comp = s.comp := State.when_proj State.comp s checked (fun s => s.inc_comp f)
  simp only [v]
  split
  · exact ⟨(State.raiseOnceI_basin ..).trans basin, (State.raiseOnceI_comp ..).trans comp⟩
  · exact ⟨basin, comp⟩

section
variable {s : State} {k : Nat} {mismatch : Bool}

theorem State.blockDone_idle (idle : ∀ c, s.comp.cur = some c → c.issued.find? (fun x => x.1 == k) = none) : s.blockDone k mismatch = s := by
  unfold State.blockDone
  split
  next => rfl
  next c cur => rw [idle c cur]

variable {c : Compose} {b : Nat} (cur : s.comp.cur = some c) (held : c.issued.find? (fun x => x.1 == k) = some (k, b))
include cur held

theorem State.blockDone_bad (bad : c.bad = true) : s.blockDone k mismatch = s.setCompose (some (c.taken s.clk.comp k b)) := by
  obtain ⟨busy, since, taken⟩ := c.taken_eq s.clk.comp k b
  have stays : (c.taken s.clk.comp k b).bad = true := by rw [taken]; exact bad
  unfold State.blockDone
  rw [cur]
  dsimp only
  rw [held]
  exact if_pos stays

/-- The end of a block of a sound composition: `u` holds the composition with the block counted and the words written; with the last block it is
complete. -/
theorem State.blockDone_sound (sound : c.bad = false) :
    ∃ u e, s.blockDone k mismatch = (if c.written + 1 = (s.setOf c.pound).geom.blocks then u.frameComplete e else u) ∧
      u.comp.cur = some e ∧ e.issued = c.issued.erase (k, b) ∧ e.written = c.written + 1 ∧ u.comp.taps = s.comp.taps ∧
      u.basin = c.writeBlock (s.setOf c.pound) s.comp.bufs s.comp.taps s.basin (s.blockWords c b mismatch) := by
  obtain ⟨busy, since, taken⟩ := c.taken_eq s.clk.comp k b
  unfold State.blockDone
  split
  next none => cases cur.symm.trans none
  next found =>
  cases cur.symm.trans found
  split
  next none => cases held.symm.trans none
  next found =>
  cases held.symm.trans found
  extract_lets cs d o again comp g twice differs words e
  have taken : d = _ := taken
  clear_value d
  subst d
  rw [if_neg (by simp [sound])]
  split
  extract_lets s1 s2 s3 s4 frame basin u
  obtain ⟨basin4, comp4⟩ : s4.basin = s2.basin ∧ s4.comp = s2.comp := State.checkNoted_keeps ..
  have basin4 : s4.basin = s.basin := basin4
  have bufs4 : s4.comp.bufs = s.comp.bufs := (congrArg CompSt.bufs comp4).trans rfl
  have taps4 : s4.comp.taps = s.comp.taps := (congrArg CompSt.taps comp4).trans rfl
  refine ⟨u, e, rfl, rfl, rfl, rfl, taps4, ?_⟩
  rw [← bufs4, ← taps4, ← basin4]
  rfl

end

/-! The load estimate (R243, R244). -/

theorem State.reqDown_comp (s : State) (d : Nat) : (s.reqDown d).comp = s.comp := State.when_proj State.comp _ _ (fun _ => rfl)

theorem State.reqUp_comp (s : State) (d : Nat) : (s.reqUp d).comp = s.comp := rfl

theorem State.flightKick_comp (s : State) : s.flightKick.comp = s.comp := rfl

theorem State.domainsNeed_comp (s : State) : s.domainsNeed.comp = s.comp := by
  unfold State.domainsNeed
  extract_lets c u v
  have down : u.comp = s.comp := State.each_proj State.comp _ State.reqDown_comp _ s
  have up : v.comp = u.comp := State.each_proj State.comp _ State.reqUp_comp _ u
  exact (v.flightKick_comp.trans up).trans down

theorem State.estimate_idle {s : State} (idle : s.lock.everOpened = false ∨ s.composerRuns (s.setOf s.pound) = false) : s.estimate = s := by
  unfold State.estimate
  exact if_pos (by simpa using idle)

theorem State.estimate_counts {s : State} (opened : s.lock.everOpened = true) (runs : s.composerRuns (s.setOf s.pound) = true) :
    ∃ n, s.estimate.comp.counts.head? = some (s.pound, n) ∧ n ≤ s.allowedClusters ∧ s.estimate.comp.cur = s.comp.cur := by
  unfold State.estimate
  extract_lets p cs g ls cyc full allowed t
  rw [if_neg (by simp [opened, runs, cs, p])]
  split
  extract_lets est pm need n
  refine ⟨n, rfl, ?_, rfl⟩
  simp only [n]
  split
  · exact Nat.min_le_right ..
  · exact le_rfl

end Sys2Proof.Machine

namespace Sys2Proof.Proofs

open Machine

/-- Settles O27. -/
theorem blocksComposed : Obligations.BlocksComposed := by
  intro s t k mismatch alive
  rw [exec_blockIssue t alive, exec_loadEstimateDone t alive]
  refine ⟨fun none => ?_, fun none noTap => ?_, fun c n cur sound left room => ?_, fun c cur idle => ?_, fun c cur free noTap => ?_,
    fun c b cur held bad noTap => ?_, fun c b cur held sound more noTap => ?_, fun c b cur held sound last => ?_,
    fun idle => ?_, fun opened runs => ?_⟩
  · exact congrArg _ (State.blockIssue_idle (s := s.tick t) fun c cur => nomatch none.symm.trans cur)
  · exact exec_blockDone_untapped t alive (State.blockDone_idle fun c cur => nomatch none.symm.trans cur) noTap
  · obtain ⟨e, issued⟩ := State.blockIssue_issues (s := s.tick t) cur sound left room
    exact ⟨_, e, rfl, issued⟩
  · refine congrArg _ (State.blockIssue_idle (s := s.tick t) fun d found => ?_)
    cases cur.symm.trans found
    exact idle
  · refine exec_blockDone_untapped t alive (State.blockDone_idle fun d found => ?_) noTap
    cases cur.symm.trans found
    exact free
  · obtain ⟨busy, since, taken⟩ := c.taken_eq (s.tick t).clk.comp k b
    exact ⟨_, _, exec_blockDone_untapped t alive (State.blockDone_bad cur held bad) noTap, rfl, congrArg Compose.issued taken, rfl⟩
  · obtain ⟨u, e, done, now, issued, written, taps, basin⟩ := State.blockDone_sound (s := s.tick t) (mismatch := mismatch) cur held sound
    have done : (s.tick t).blockDone k mismatch = u := done.trans (if_neg (Nat.ne_of_lt more))
    exact ⟨u, e, exec_blockDone_untapped t alive done (taps ▸ noTap), now, issued, written, basin⟩
  · obtain ⟨u, e, done, -⟩ := State.blockDone_sound (s := s.tick t) (mismatch := mismatch) cur held sound
    have done : (s.tick t).blockDone k mismatch = u.frameComplete e := done.trans (if_pos last)
    refine ⟨_, exec_blockDone t alive k mismatch, ?_⟩
    rw [State.encTap_cur, done, State.frameComplete_cur]
  · rw [State.estimate_idle (s := s.tick t) idle]
  · obtain ⟨n, counts, allowed, cur⟩ := State.estimate_counts (s := s.tick t) opened runs
    refine ⟨_, n, rfl, ?_, allowed, ?_⟩
    · rw [State.domainsNeed_comp]
      exact counts
    · rw [State.domainsNeed_comp]
      exact cur

end Sys2Proof.Proofs

namespace Sys2Proof.Machine

/-! The Basin at work (R264 to R270, R281): its commands at their instant, its training, its upkeep. -/

section
variable {s : State} (t : Nat) (alive : s.alive = true)
include alive

theorem exec_basinTrainDone (rs : List TrainRes) :
    exec (.basinTrainDone t rs) s = .next (if s.training then ((s.tick t).trainDone rs).bootTrained else s.tick t) :=
  State.live_alive t (fun s => if s.training then (s.trainDone rs).bootTrained else s) alive

theorem exec_basinTrainRetry : exec (.basinTrainRetry t) s = .next (s.tick t).trainRetry := State.live_alive t State.trainRetry alive

theorem exec_basinEyeTrack (moves : List (Nat × Nat × Int)) : exec (.basinEyeTrack t moves) s = .next ((s.tick t).eyeTrack moves) :=
  State.live_alive t (fun s => s.eyeTrack moves) alive

theorem exec_basinRefresh (k : Nat) : exec (.basinRefresh t k) s = .next ((s.tick t).refresh k) :=
  State.live_alive t (fun s => s.refresh k) alive

theorem exec_selfRefreshEnter : exec (.selfRefreshEnter t) s = .next (s.tick t).selfEnter := State.live_alive t State.selfEnter alive

theorem exec_selfRefreshExitDone (rs : List TrainRes) : exec (.selfRefreshExitDone t rs) s = .next ((s.tick t).selfExitDone rs) :=
  State.live_alive t (fun s => s.selfExitDone rs) alive

theorem exec_scrubGranule (errs : List (Nat × Nat)) : exec (.scrubGranule t errs) s = .next ((s.tick t).scrub errs) :=
  State.live_alive t (fun s => s.scrub errs) alive

theorem exec_basinFlushDone (k : Nat) : exec (.basinFlushDone t k) s = .next ((s.tick t).flushDone k) :=
  State.live_alive t (fun s => s.flushDone k) alive

end

theorem getElem?_modAt_other {α : Type} (f : α → α) (l : List α) {i j : Nat} (other : j ≠ i) : (modAt l i f)[j]? = l[j]? := by
  rw [modAt_eq_modify, List.getElem?_modify]
  simp [other.symm]

theorem clearBit_eq_putBits (x i : Nat) : clearBit x i = putBits x i i 0 := by
  have bit : bitsOf x i i = b2n (bitAt x i) := by
    simp only [bitsOf, bitAt, b2n, beq_iff_eq]
    split <;> simp_all
  simp only [clearBit, putBits, bit, b2n, Nat.zero_mod, Nat.zero_shiftLeft, Nat.add_zero]
  split <;> simp

theorem testBit_clearBit_other (x : Nat) {i j : Nat} (other : j ≠ i) : (clearBit x i).testBit j = x.testBit j := by
  rw [clearBit_eq_putBits, ← bitAt_eq_testBit, ← bitAt_eq_testBit]
  exact (bitAt_putBits_bit x i j false).trans (if_neg other)

/-! The end of the training of a stack (R264, R266): it marks the stack's bit in FAIL, or clears it and leaves the results. -/

/-- The mark of a stack in BASIN_STATUS. -/
def State.stackFails (s : State) (k : Nat) : Bool := (s.rd F.BASIN_STATUS_FAIL).testBit k

theorem State.stackFails_none {s : State} (none : s.rd F.BASIN_STATUS_FAIL = 0) (k : Nat) : s.stackFails k = false := by
  unfold State.stackFails
  rw [none, Nat.zero_testBit]

theorem State.noteFault_rd (s : State) (code : Nat) {f : Fld} (other : f.addr ≠ R.TOP_STATUS) : (s.noteFault code).rd f = s.rd f := by
  unfold State.noteFault State.noteFaultIn
  split
  · rfl
  · exact State.rd_wr_other _ F.TOP_STATUS_GUAR_VOID f 1 other

theorem State.rd_fail_wr (s : State) (v : Nat) : (s.wr F.BASIN_STATUS_FAIL v).rd F.BASIN_STATUS_FAIL = v % 16 :=
  s.rd_wr F.BASIN_STATUS_FAIL v (by decide) (by decide)

theorem basinStatus_ne_trains (k : Nat) : R.BASIN_STATUS ≠ R.BASIN_TRAINs k := by
  unfold R.BASIN_STATUS R.BASIN_TRAINs
  omega

/-- The registers of the stacks lie outside BASIN_STATUS. -/
theorem State.rd_fail_wr_train (s : State) (k v : Nat) {f : Fld} (train : f.addr = R.BASIN_TRAINs k) :
    (s.wr f v).rd F.BASIN_STATUS_FAIL = s.rd F.BASIN_STATUS_FAIL :=
  s.rd_wr_other f _ v (train ▸ basinStatus_ne_trains k)

/-- What the training of a stack changes: the ledger, the events, the recovery windows (R48), the stack. -/
def State.retrained (s : State) (led : LedSt) (evt : EvtSt) (recover : List Recovery) (stk : List StackSt) : State :=
  { s with led := led, evt := evt, lock := { s.lock with recover := recover }, basin := { s.basin with stk := stk } }

section
variable (s : State) (led : LedSt) (evt : EvtSt) (recover : List Recovery) (stk : List StackSt)

theorem State.wr_retrained (f : Fld) (v : Nat) : (s.wr f v).retrained led evt recover stk = s.retrained led evt recover stk := rfl

theorem State.raiseI_retrained (code block inst arg0 arg1 : Nat) :
    (s.raiseI code block inst arg0 arg1).retrained led evt recover stk = s.retrained led evt recover stk := rfl

end

theorem State.noteFault_retrained (s : State) (code : Nat) : ∃ led evt recover, s.noteFault code = s.retrained led evt recover s.basin.stk :=
  s.noteFaultIn_eq code false

/-- A failure shows itself in the registers, as event 0xA01 and as a fault. -/
theorem State.trainFailure_retrained (s : State) (k v lane : Nat) : ∃ led evt recover,
    (((s.wr (F.BASIN_TRAINs_STATE k) 3).wr F.BASIN_STATUS_FAIL v).raiseI 0xA01 bBASIN k k lane).noteFault 0xA01 =
      s.retrained led evt recover s.basin.stk ∧ led.live.fld F.BASIN_STATUS_FAIL = v % 16 := by
  let marked := ((s.wr (F.BASIN_TRAINs_STATE k) 3).wr F.BASIN_STATUS_FAIL v).raiseI 0xA01 bBASIN k k lane
  obtain ⟨led, evt, recover, noted⟩ := marked.noteFault_retrained 0xA01
  refine ⟨led, evt, recover, ?_, ?_⟩
  · rw [noted, State.raiseI_retrained, State.wr_retrained, State.wr_retrained, State.raiseI_basin, State.wr_basin, State.wr_basin]
  · calc led.live.fld F.BASIN_STATUS_FAIL
      _ = (marked.noteFault 0xA01).rd F.BASIN_STATUS_FAIL := (congrArg (State.rd · F.BASIN_STATUS_FAIL) noted).symm
      _ = marked.rd F.BASIN_STATUS_FAIL := marked.noteFault_rd 0xA01 (by decide)
      _ = v % 16 := (State.rd_raiseI ..).trans (State.rd_fail_wr ..)

/-- A success shows itself in the registers, and at boot as event 0xA00. -/
theorem State.trainSuccess_retrained (s : State) (k v arg : Nat) (exit : Bool) : ∃ led evt,
    (let u := (s.wr (F.BASIN_TRAINs_STATE k) 2).wr F.BASIN_STATUS_FAIL v; if exit then u else u.raiseI 0xA00 bBASIN k k arg) =
      s.retrained led evt s.lock.recover s.basin.stk ∧ led.live.fld F.BASIN_STATUS_FAIL = v % 16 := by
  extract_lets u
  have shown : u.rd F.BASIN_STATUS_FAIL = v % 16 := State.rd_fail_wr ..
  split
  · exact ⟨u.led, u.evt, rfl, shown⟩
  · exact ⟨u.led, _, rfl, shown⟩

/-- A stack fails, or passes and takes its results into use. -/
theorem State.trainStack_cases (s : State) (k : Nat) (seed : List Byte) (exit : Bool) (r : TrainRes) :
    (∃ led evt recover y, s.trainStack k seed exit r = s.retrained led evt recover (modAt s.basin.stk k y) ∧
      led.live.fld F.BASIN_STATUS_FAIL = orBit (s.rd F.BASIN_STATUS_FAIL) k % 16) ∨
    (∃ led evt x, s.trainStack k seed exit r = s.retrained led evt s.lock.recover (modAt s.basin.stk k (fun _ => x)) ∧
      led.live.fld F.BASIN_STATUS_FAIL = clearBit (s.rd F.BASIN_STATUS_FAIL) k % 16 ∧ x.failed = false ∧ x.track = []) := by
  unfold State.trainStack
  extract_lets l minRd minWr full repaired s1 b1 s2 old x s3 s4
  have shown : s1.rd F.BASIN_STATUS_FAIL = s.rd F.BASIN_STATUS_FAIL :=
    (State.rd_fail_wr_train _ k _ rfl).trans ((State.rd_fail_wr_train _ k _ rfl).trans (State.rd_fail_wr_train _ k _ rfl))
  have frame led evt recover stk : s1.retrained led evt recover stk = s.retrained led evt recover stk := by
    simp only [s1, State.wr_retrained]
  have stk : s1.basin.stk = s.basin.stk := rfl
  have recovers : s1.lock.recover = s.lock.recover := rfl
  simp only [s4, s2, s3, b1]
  clear_value s1
  rw [← shown, ← stk, ← recovers]
  simp only [← frame]
  split
  · obtain ⟨led, evt, recover, failed, mark⟩ := s2.trainFailure_retrained k (orBit (s1.rd F.BASIN_STATUS_FAIL) k) _
    exact .inl ⟨led, evt, recover, _, failed, mark⟩
  · obtain ⟨led, evt, passed, mark⟩ := s3.trainSuccess_retrained k (clearBit (s1.rd F.BASIN_STATUS_FAIL) k) _ exit
    exact .inr ⟨led, evt, x, passed, mark, rfl, rfl⟩

theorem State.trainStack_retrained (s : State) (k : Nat) (seed : List Byte) (exit : Bool) (r : TrainRes) :
    ∃ led evt recover y, s.trainStack k seed exit r = s.retrained led evt recover (modAt s.basin.stk k y) := by
  obtain ⟨led, evt, recover, y, trained, -⟩ | ⟨led, evt, x, trained, -⟩ := s.trainStack_cases k seed exit r
  · exact ⟨led, evt, recover, y, trained⟩
  · exact ⟨led, evt, _, _, trained⟩

section
variable {s : State} {k j : Nat} {seed : List Byte} {exit : Bool} {r : TrainRes}

theorem State.trainStack_stk_other (other : j ≠ k) : (s.trainStack k seed exit r).basin.stk[j]? = s.basin.stk[j]? := by
  obtain ⟨led, evt, recover, y, trained⟩ := s.trainStack_retrained k seed exit r
  rw [trained]
  exact getElem?_modAt_other y _ other

/-- The four marks are the bits that were written. -/
theorem State.stackFails_retrained {u : State} {led : LedSt} {evt : EvtSt} {recover : List Recovery} {stk : List StackSt} {x : Nat}
    (trained : u = s.retrained led evt recover stk) (mark : led.live.fld F.BASIN_STATUS_FAIL = x % 16) (stack : j < 4) :
    u.stackFails j = x.testBit j := by
  calc u.stackFails j
    _ = (led.live.fld F.BASIN_STATUS_FAIL).testBit j := by rw [trained]; rfl
    _ = (x % 2 ^ 4).testBit j := congrArg (Nat.testBit · j) mark
    _ = x.testBit j := by rw [Nat.testBit_mod_two_pow, decide_eq_true stack, Bool.true_and]

theorem State.trainStack_stackFails_other (stack : j < 4) (other : j ≠ k) : (s.trainStack k seed exit r).stackFails j = s.stackFails j := by
  obtain ⟨led, evt, recover, y, trained, mark⟩ | ⟨led, evt, x, trained, mark, -⟩ := s.trainStack_cases k seed exit r
  · rw [State.stackFails_retrained trained mark stack, testBit_orBit, decide_eq_false other, Bool.or_false]
    rfl
  · rw [State.stackFails_retrained trained mark stack, testBit_clearBit_other _ other]
    rfl

/-- A stack without its mark in FAIL has passed: no fault is noted, and its results are new. -/
theorem State.trainStack_passed (stack : k < 4) (passed : (s.trainStack k seed exit r).stackFails k = false) :
    (s.trainStack k seed exit r).lock = s.lock ∧ ∀ x, s.basin.stk[k]? = some x →
      ∃ y, (s.trainStack k seed exit r).basin.stk[k]? = some y ∧ y.failed = false ∧ y.track = [] := by
  obtain ⟨led, evt, recover, y, trained, mark⟩ | ⟨led, evt, y, trained, -, sound, centred⟩ := s.trainStack_cases k seed exit r
  · have marked : (s.trainStack k seed exit r).stackFails k = true := by
      rw [State.stackFails_retrained trained mark stack, testBit_orBit, decide_eq_true rfl, Bool.or_true]
    cases marked.symm.trans passed
  · rw [trained]
    refine ⟨rfl, fun x present => ⟨y, ?_, sound, centred⟩⟩
    exact (getElem?_modAt (fun _ => y) s.basin.stk k).trans (congrArg (Option.map fun _ => y) present)

end

/-! The training of the four stacks. -/

/-- The training of stack `k` ends, with the seed in use and the result given for it. -/
def State.trainNth (exit : Bool) (rs : List TrainRes) (s : State) (k : Nat) : State :=
  s.trainStack k (if exit then ((s.basin.stk[k]?).getD StackSt.reset).seed else (s.basin.seeds[k]?).getD []) exit
    ((rs[k]?).getD { lanes := [], spares := [] })

theorem State.trainAll_retrained (s : State) (exit : Bool) (rs : List TrainRes) :
    ∃ led evt recover stk, s.trainAll exit rs = s.retrained led evt recover stk := by
  refine State.each_keeps (p := fun v => ∃ led evt recover stk, v = s.retrained led evt recover stk) ?_ (List.range 4) s
    ⟨s.led, s.evt, s.lock.recover, s.basin.stk, rfl⟩
  rintro v k ⟨led, evt, recover, stk, before⟩
  obtain ⟨led', evt', recover', y, trained⟩ := v.trainStack_retrained k _ exit _
  refine ⟨led', evt', recover', modAt stk k y, trained.trans ?_⟩
  rw [before]
  rfl

section
variable {exit : Bool} {rs : List TrainRes} {k : Nat}

/-- The training of the other stacks leaves a stack and its mark. -/
theorem State.each_trainNth_other (stack : k < 4) : ∀ (l : List Nat) (s : State), k ∉ l →
    (s.each l (State.trainNth exit rs)).stackFails k = s.stackFails k ∧ (s.each l (State.trainNth exit rs)).basin.stk[k]? = s.basin.stk[k]?
  | [], _, _ => ⟨rfl, rfl⟩
  | j :: l, s, absent => by
    obtain ⟨other, absent⟩ := not_or.mp (List.mem_cons.not.mp absent)
    obtain ⟨bit, entry⟩ := State.each_trainNth_other stack l (s.trainNth exit rs j) absent
    exact ⟨bit.trans (State.trainStack_stackFails_other stack other), entry.trans (State.trainStack_stk_other other)⟩

/-- Where the stacks trained have no mark in FAIL, no fault has been noted, and each of them has new results. -/
theorem State.each_trainNth_passed : ∀ (l : List Nat) (s : State), l.Nodup → (∀ k ∈ l, k < 4) →
    (∀ k ∈ l, (s.each l (State.trainNth exit rs)).stackFails k = false) →
    (s.each l (State.trainNth exit rs)).lock = s.lock ∧ ∀ k ∈ l, ∀ x, s.basin.stk[k]? = some x →
      ∃ y, (s.each l (State.trainNth exit rs)).basin.stk[k]? = some y ∧ y.failed = false ∧ y.track = []
  | [], _, _, _, _ => ⟨rfl, nofun⟩
  | j :: l, s, distinct, bounds, passed => by
    obtain ⟨absent, distinct⟩ := List.nodup_cons.mp distinct
    obtain ⟨stack, bounds⟩ := List.forall_mem_cons.mp bounds
    obtain ⟨first, rest⟩ := List.forall_mem_cons.mp passed
    obtain ⟨bit, entry⟩ := State.each_trainNth_other (exit := exit) (rs := rs) stack l (s.trainNth exit rs j) absent
    obtain ⟨lock, results⟩ := State.trainStack_passed stack (bit.symm.trans first)
    obtain ⟨locks, others⟩ := State.each_trainNth_passed l (s.trainNth exit rs j) distinct bounds rest
    refine ⟨locks.trans lock, List.forall_mem_cons.mpr ⟨fun x present => ?_, fun k listed x present => ?_⟩⟩
    · obtain ⟨y, result, sound⟩ := results x present
      exact ⟨y, entry.trans result, sound⟩
    · exact others k listed x ((State.trainStack_stk_other (ne_of_mem_of_not_mem listed absent)).trans present)

end

theorem State.trainAll_passed {s : State} {exit : Bool} {rs : List TrainRes} (passed : (s.trainAll exit rs).rd F.BASIN_STATUS_FAIL = 0) :
    (s.trainAll exit rs).lock = s.lock ∧ ∀ k, k < 4 → ∀ x, s.basin.stk[k]? = some x →
      ∃ y, (s.trainAll exit rs).basin.stk[k]? = some y ∧ y.failed = false ∧ y.track = [] := by
  obtain ⟨lock, results⟩ := State.each_trainNth_passed (List.range 4) s List.nodup_range (fun _ => List.mem_range.mp)
    (fun k _ => State.stackFails_none passed k)
  exact ⟨lock, fun k stack => results k (List.mem_range.mpr stack)⟩

theorem State.trainAll_stays (s : State) (exit : Bool) (rs : List TrainRes) :
    (s.trainAll exit rs).clk = s.clk ∧ (s.trainAll exit rs).basin.selfref = s.basin.selfref := by
  obtain ⟨led, evt, recover, stk, trained⟩ := s.trainAll_retrained exit rs
  rw [trained]
  exact ⟨rfl, rfl⟩

/-! What follows training (R102, R264, R266): the boot goes on and leaves the Basin, or a retry is due. -/

/-- What makes the Basin ready, and its contents. -/
def State.readiness (s : State) : BasinSt × Nat := (s.basin, s.rd F.BASIN_STATUS_READY)

theorem State.basinReady_iff {s : State} : s.basinReady = true ↔ s.rd F.BASIN_STATUS_READY = 1 ∧ s.basin.selfref = false := by
  unfold State.basinReady
  simp

theorem State.basinReady_unready {s : State} (unready : s.rd F.BASIN_STATUS_READY = 0) : s.basinReady = false := by
  simp [State.basinReady, unready]

theorem State.basinReady_selfref {s : State} (asleep : s.basin.selfref = true) : s.basinReady = false := by
  simp [State.basinReady, asleep]

theorem State.bootStep_readiness (k : Nat) (s : State) : (s.bootStep k).readiness = s.readiness := by
  unfold State.readiness State.bootStep
  rw [State.raise_basin, State.wr_basin, State.rd_raise, s.rd_wr_other F.IMG_STATUS_STAGE F.BASIN_STATUS_READY k (by decide)]

theorem State.panelBoot_readiness (s : State) : s.panelBoot.readiness = s.readiness := by
  unfold State.panelBoot
  extract_lets v
  split
  · exact Prod.ext rfl (State.rd_wr_other _ F.PNL_STATUS_STATE F.BASIN_STATUS_READY _ (by decide))
  · rfl

theorem State.bootPanel_readiness (s : State) : s.bootPanel.readiness = s.readiness := by
  have marked (u : State) : State.readiness { u with img := { u.img with panelStep := true } } = u.readiness := rfl
  have lanes (u : State) (x : LanesSt) (n : Nat) : (State.panelBoot { u with lanes := x, choices := n }).readiness = u.readiness :=
    State.panelBoot_readiness _
  exact (marked _).trans ((lanes (s.bootStep 13) _ _).trans (State.bootStep_readiness 13 s))

theorem State.bootTrained_readiness (s : State) : s.bootTrained.readiness = s.readiness := by
  unfold State.bootTrained
  split
  · rfl
  · exact State.bootAdvance_proj State.readiness State.bootStep_readiness State.bootPanel_readiness _

section
variable {s : State} {rs : List TrainRes} (training : s.training = true)
include training

theorem State.trainDone_failed (failed : (s.trainAll false rs).rd F.BASIN_STATUS_FAIL ≠ 0) :
    let v := s.trainAll false rs
    s.trainDone rs = { v with basin := { v.basin with retryFrom := some v.clk.now, bootHeld := v.basin.bootHeld || !v.lock.running } } := by
  unfold State.trainDone
  rw [if_neg (not_not_intro training)]
  exact if_pos failed

/-- The Basin is ready after a training without a failure, every byte zero (R264). -/
theorem State.trainDone_passed (passed : (s.trainAll false rs).rd F.BASIN_STATUS_FAIL = 0) :
    (s.trainDone rs).readiness = ({ (s.trainAll false rs).basin with mem := [], retryFrom := none, selfref := false }, 1) := by
  let v := s.trainAll false rs
  let u : State := { v with basin := { v.basin with mem := [], retryFrom := none, selfref := false } }
  have done : s.trainDone rs = ((u.wr F.BASIN_STATUS_READY 1).wr F.BASIN_STATUS_SELFREF 0).wr F.TOP_HOLD_STAT_SELFREF 0 := by
    unfold State.trainDone
    rw [if_neg (not_not_intro training)]
    exact if_neg (not_not_intro passed)
  have ready : (s.trainDone rs).rd F.BASIN_STATUS_READY = 1 := by
    rw [done, State.rd_wr_other _ F.TOP_HOLD_STAT_SELFREF F.BASIN_STATUS_READY 0 (by decide),
      State.rd_wr_beside _ F.BASIN_STATUS_SELFREF F.BASIN_STATUS_READY 0 (by decide) (by decide) rfl (by decide),
      State.rd_wr u F.BASIN_STATUS_READY 1 (by decide) (by decide)]
    rfl
  have basin : (s.trainDone rs).basin = u.basin := by rw [done, State.wr_basin, State.wr_basin, State.wr_basin]
  exact Prod.ext basin ready

end

theorem State.trainRetry_due {s : State} {since : Nat} (failed : s.basin.retryFrom = some since) (due : since + 10000000000 ≤ s.clk.now)
    (unready : s.rd F.BASIN_STATUS_READY = 0) (idle : s.training = false) : s.trainRetry = s.trainStart false := by
  unfold State.trainRetry
  rw [failed]
  exact if_neg (by simp [unready, idle, due])

theorem State.trainRetry_none {s : State} (none : s.basin.retryFrom = none) : s.trainRetry = s := by
  unfold State.trainRetry
  rw [none]

/-! Self-refresh (R65, R269). -/

theorem State.selfEnter_off {s : State} (off : has s.mode mHOLD = false ∨ s.basinReady = false ∨ s.scanDrained = false) : s.selfEnter = s := by
  unfold State.selfEnter
  exact if_pos (by simpa using off)

theorem State.reqDown_basin (s : State) (d : Nat) : (s.reqDown d).basin = s.basin := State.when_proj State.basin _ _ (fun _ => rfl)

theorem State.flightKick_basin (s : State) : s.flightKick.basin = s.basin := rfl

theorem State.selfEnter_basin {s : State} (hold : has s.mode mHOLD = true) (ready : s.basinReady = true) (drained : s.scanDrained = true) :
    s.selfEnter.basin = { s.basin with selfref := true, exitFrom := none } := by
  unfold State.selfEnter
  rw [if_neg (by simp [hold, ready, drained])]
  extract_lets b u v
  calc (v.each phyPairs State.reqDown).flightKick.basin
    _ = (v.each phyPairs State.reqDown).basin := State.flightKick_basin _
    _ = v.basin := State.each_proj State.basin State.reqDown State.reqDown_basin phyPairs v
    _ = u.basin := by simp only [v, State.raise_basin, State.wr_basin]

/-- The exit from self-refresh, before its training. -/
def State.selfExited (s : State) : State :=
  (State.wr { s with basin := { s.basin with selfref := false, exitFrom := none } } F.BASIN_STATUS_SELFREF 0).wr F.TOP_HOLD_STAT_SELFREF 0

theorem State.selfExited_basin (s : State) : s.selfExited.basin = { s.basin with selfref := false, exitFrom := none } := by
  unfold State.selfExited
  rw [State.wr_basin, State.wr_basin]

theorem State.selfExited_lock (s : State) : s.selfExited.lock = s.lock := by
  unfold State.selfExited
  rw [State.wr_lock, State.wr_lock]

theorem State.selfExited_clk (s : State) : s.selfExited.clk = s.clk := by
  unfold State.selfExited
  rw [State.wr_clk, State.wr_clk]

theorem State.selfExitDone_none {s : State} (none : s.basin.exitFrom = none) (rs : List TrainRes) : s.selfExitDone rs = s := by
  unfold State.selfExitDone
  rw [none]

section
variable {s : State} {since : Nat} (exit : s.basin.exitFrom = some since) {rs : List TrainRes}
include exit

theorem State.selfExitDone_passed (passed : (s.selfExited.trainAll true rs).rd F.BASIN_STATUS_FAIL = 0) :
    (s.selfExitDone rs).basin = (s.selfExited.trainAll true rs).basin ∧ (s.selfExitDone rs).lock = s.lock := by
  let v := s.selfExited.trainAll true rs
  have done : s.selfExitDone rs = v.raise 0xA07 bBASIN 0 ((v.clk.now - since) / 1000) := by
    unfold State.selfExitDone
    rw [exit]
    exact if_neg (not_not_intro passed)
  obtain ⟨lock, -⟩ := State.trainAll_passed passed
  rw [done, State.raise_basin, State.raise_lock]
  exact ⟨rfl, lock.trans s.selfExited_lock⟩

theorem State.selfExitDone_failed (failed : (s.selfExited.trainAll true rs).rd F.BASIN_STATUS_FAIL ≠ 0) :
    has (s.selfExitDone rs).lock.iset mHOLD = true ∧
      (s.selfExitDone rs).basin = { (s.selfExited.trainAll true rs).basin with retryFrom := some s.clk.now } ∧
      (s.selfExitDone rs).rd F.BASIN_STATUS_READY = 0 := by
  have clk : (s.selfExited.trainAll true rs).clk = s.clk := (State.trainAll_stays ..).1.trans s.selfExited_clk
  have done :
      let v := s.selfExited.trainAll true rs
      s.selfExitDone rs = State.isetHold { v.wr F.BASIN_STATUS_READY 0 with basin := { v.basin with retryFrom := some v.clk.now } } := by
    unfold State.selfExitDone
    rw [exit]
    exact if_pos failed
  rw [done, ← clk]
  generalize s.selfExited.trainAll true rs = v
  exact ⟨State.isetHold_hold _, rfl, v.rd_wr F.BASIN_STATUS_READY 0 (by decide) (by decide)⟩

end

/-! Refresh and eye tracking (R267, R268). -/

theorem State.refresh_ready {s : State} (ready : s.basinReady = true) (k : Nat) :
    s.refresh k = { s with basin := { s.basin with refresh := modAt s.basin.refresh k (· + 1) } } := if_neg (not_not_intro ready)

theorem State.refresh_unready {s : State} (unready : s.basinReady = false) (k : Nat) : s.refresh k = s := if_pos (by simp [unready])

theorem State.eyeTrack_unready {s : State} (unready : s.basinReady = false) (moves : List (Nat × Nat × Int)) : s.eyeTrack moves = s :=
  if_pos (by simp [unready])

theorem State.eyeTrack_ready {s : State} (ready : s.basinReady = true) (moves : List (Nat × Nat × Int)) :
    s.eyeTrack moves = s.each (moves.filter (fun m => m.1 < 4 && m.2.1 < 160)) (fun s m => s.eyeMove m.1 m.2.1 m.2.2) :=
  if_neg (not_not_intro ready)

/-- A step of a lane's read delay changes the stacks alone of the Basin. -/
theorem State.eyeMove_basin (s : State) (k lane : Nat) (dir : Int) :
    (s.eyeMove k lane dir).basin = { s.basin with stk := (s.eyeMove k lane dir).basin.stk } := by
  unfold State.eyeMove
  split
  · rfl
  · extract_lets old want new b v
    split <;> rfl

theorem State.eyeTrack_basin {s : State} (ready : s.basinReady = true) (moves : List (Nat × Nat × Int)) :
    (s.eyeTrack moves).basin = { s.basin with stk := (s.eyeTrack moves).basin.stk } := by
  rw [State.eyeTrack_ready ready]
  refine State.each_keeps (p := fun v => v.basin = { s.basin with stk := v.basin.stk }) (fun v m kept => ?_) _ s rfl
  rw [State.eyeMove_basin, kept]

/-- One move of a lane that there is. -/
theorem State.eyeTrack_one {s : State} (ready : s.basinReady = true) {k lane : Nat} (stack : k < 4) (listed : lane < 160) (dir : Int) :
    s.eyeTrack [(k, lane, dir)] = s.eyeMove k lane dir := by
  have kept : [(k, lane, dir)].filter (fun m => m.1 < 4 && m.2.1 < 160) = [(k, lane, dir)] := by simp [stack, listed]
  rw [State.eyeTrack_ready ready, kept]
  rfl

theorem clampI_bounds {lo hi : Int} (ordered : lo ≤ hi) (x : Int) : lo ≤ clampI lo hi x ∧ clampI lo hi x ≤ hi := by
  unfold clampI
  split
  · omega
  · split <;> omega

/-- A step leaves the lane an offset of at most 12/64 UI, and the results of training (R267). -/
theorem State.eyeMove_stk {s : State} {k : Nat} {x : StackSt} (present : s.basin.stk[k]? = some x) (lane : Nat) (dir : Int) :
    ∃ y off, (s.eyeMove k lane dir).basin.stk[k]? = some y ∧ (lane, off) ∈ y.track ∧ -12 ≤ off ∧ off ≤ 12 ∧ y.seed = x.seed := by
  unfold State.eyeMove
  rw [present]
  dsimp -zeta only
  extract_lets old want new b v
  have stk : v.basin.stk[k]? = some { x with track := (lane, new) :: x.track.filter (fun e => e.1 ≠ lane) } :=
    (getElem?_modAt _ _ k).trans (congrArg (Option.map _) present)
  obtain ⟨low, high⟩ := clampI_bounds (lo := -12) (hi := 12) (by decide) want
  split
  · exact ⟨_, new, stk, List.mem_cons_self, low, high, rfl⟩
  · exact ⟨_, new, stk, List.mem_cons_self, low, high, rfl⟩

/-! The scrubber (R270). -/

/-- The scrubber goes on to the next granule; after the last one it begins a new pass, with event 0xA08. -/
def State.scrubOn (s : State) : State :=
  if s.basin.scrubAt + 1 = granules then
    let s : State := { s with basin := { s.basin with scrubAt := 0, passes := s.basin.passes + 1 } }
    let s := s.raise 0xA08 bBASIN s.basin.passes s.basin.passFix
    { s with basin := { s.basin with passFix := 0 } }
  else { s with basin := { s.basin with scrubAt := s.basin.scrubAt + 1 } }

theorem State.scrubOn_next {s : State} (more : s.basin.scrubAt + 1 ≠ granules) :
    s.scrubOn = { s with basin := { s.basin with scrubAt := s.basin.scrubAt + 1 } } := if_neg more

theorem State.scrubOn_pass {s : State} (last : s.basin.scrubAt + 1 = granules) :
    s.scrubOn.basin = { s.basin with scrubAt := 0, passes := s.basin.passes + 1, passFix := 0 } := by
  unfold State.scrubOn
  rw [if_pos last]
  rfl

theorem State.scrubOn_keeps (s : State) : s.scrubOn.basin.mem = s.basin.mem ∧ s.scrubOn.basin.moors = s.basin.moors ∧ s.scrubOn.lock = s.lock := by
  unfold State.scrubOn
  split
  · exact ⟨rfl, rfl, rfl⟩
  · exact ⟨rfl, rfl, rfl⟩

theorem State.scrub_off {s : State} (off : s.cm F.BASIN_SCRUB_EN = 0 ∨ s.basinReady = false) (errs : List (Nat × Nat)) : s.scrub errs = s :=
  if_pos (by simpa using off)

section
variable {s : State} (on : s.cm F.BASIN_SCRUB_EN ≠ 0) (ready : s.basinReady = true) {errs : List (Nat × Nat)}
include on ready

theorem State.scrub_clean (clean : (eccOutcome errs).1 = 0) : s.scrub errs = s.scrubOn := by
  unfold State.scrub
  rw [if_neg (by simp [on, ready])]
  simp only [clean]
  rfl

/-- A corrected granule is counted for the pass, and leaves the moorings. -/
theorem State.scrub_corrected (corrected : (eccOutcome errs).1 = 1) (more : s.basin.scrubAt + 1 ≠ granules) :
    (s.scrub errs).basin.scrubAt = s.basin.scrubAt + 1 ∧ (s.scrub errs).basin.passFix = s.basin.passFix + 1 ∧
      (s.scrub errs).basin.moors = s.basin.moors := by
  let v := s.readCorrected (s.basin.scrubAt * 64) errs
  let u : State := { v with basin := { v.basin with passFix := s.basin.passFix + 1 } }
  have read : s.scrub errs = u.scrubOn := by
    unfold State.scrub
    rw [if_neg (by simp [on, ready])]
    simp only [corrected]
    rfl
  have place : u.basin.scrubAt = s.basin.scrubAt := by simp only [u, v, State.readCorrected_basin]
  have next : s.scrub errs = { u with basin := { u.basin with scrubAt := u.basin.scrubAt + 1 } } :=
    read.trans (State.scrubOn_next (place ▸ more))
  rw [next]
  exact ⟨congrArg (· + 1) place, rfl, s.readCorrected_moors⟩

/-- An uncorrectable granule marks its mooring, and sets HOLD where the mooring asks for it (R271, R272). -/
theorem State.scrub_lost (lost : (eccOutcome errs).1 = 2) :
    (s.scrub errs).basin.mem = s.basin.mem ∧
      (∀ e, s.basin.entry (s.basin.scrubAt * 64 / moorSize) = some e →
        (s.scrub errs).basin.entry (s.basin.scrubAt * 64 / moorSize) = some { e with bad := true }) ∧
      (s.holdsOn (s.basin.scrubAt * 64) = true → has (s.scrub errs).lock.iset mHOLD = true) := by
  let a := s.basin.scrubAt * 64
  let v := s.noteUncorrectable a 0
  let u := v.when (s.holdsOn a) State.isetHold
  have read : s.scrub errs = u.scrubOn := by
    unfold State.scrub
    rw [if_neg (by simp [on, ready])]
    simp only [lost]
    rfl
  have marked : u.basin = s.basin.marked (a / moorSize) := by
    obtain ⟨led, evt, noted⟩ := s.noteUncorrectable_eq a 0
    exact (State.when_proj State.basin v _ (f := State.isetHold) (fun _ => rfl)).trans (congrArg State.basin noted)
  obtain ⟨mem, moors, lock⟩ := u.scrubOn_keeps
  rw [read, mem, lock, marked]
  refine ⟨BasinSt.marked_mem .., fun e listed => ?_, fun hold => ?_⟩
  · have entry : u.scrubOn.basin.entry (a / moorSize) = (s.basin.marked (a / moorSize)).entry (a / moorSize) :=
      congrArg (Sparse.find · (a / moorSize)) (moors.trans (congrArg BasinSt.moors marked))
    exact entry.trans (BasinSt.marked_entry listed)
  · have set : u = v.isetHold := if_pos hold
    rw [set]
    exact v.isetHold_hold

end

end Sys2Proof.Machine

namespace Sys2Proof.Proofs

open Machine Safety Claims

/-- A part of `basinTrainingAndUpkeep`: what the results of a training make of the Basin, at boot, in the retries and at the exit from
self-refresh. -/
theorem basinTrainingRuns : Claims.BasinTrainingRuns := by
  intro s t rs alive
  rw [exec_basinTrainDone t alive, exec_basinTrainRetry t alive, exec_selfRefreshExitDone t alive]
  refine ⟨fun idle => ?_, fun training => ⟨fun failed => ?_, fun passed => ?_⟩, fun since failed due unready idle => ?_,
    fun none => ?_, fun since exit => ?_, fun none => ?_⟩
  · rw [if_neg (Bool.eq_false_iff.mp idle)]
  · rw [if_pos training, State.trainDone_failed (s := s.tick t) training failed]
  · rw [if_pos training]
    have done := (State.bootTrained_readiness _).trans (State.trainDone_passed (s := s.tick t) training passed)
    obtain ⟨basin, ready⟩ := Prod.mk.inj done
    obtain ⟨-, results⟩ := State.trainAll_passed passed
    refine ⟨_, rfl, basin, State.basinReady_iff.mpr ⟨ready, congrArg BasinSt.selfref basin⟩, fun k x stack present => ?_⟩
    rw [basin]
    exact results k stack x present
  · rw [State.trainRetry_due (s := s.tick t) failed (s.tick_now t ▸ due) unready idle]
  · rw [State.trainRetry_none (s := s.tick t) none]
  · intro w v
    have awake : v.basin.selfref = false :=
      (State.trainAll_stays (s.tick t).selfExited true rs).2.trans (congrArg BasinSt.selfref (s.tick t).selfExited_basin)
    refine ⟨fun passed => ?_, fun failed => ?_⟩
    · obtain ⟨basin, lock⟩ := State.selfExitDone_passed (s := s.tick t) exit passed
      exact ⟨_, rfl, basin, basin ▸ awake, lock⟩
    · obtain ⟨hold, basin, unready⟩ := State.selfExitDone_failed (s := s.tick t) exit failed
      rw [s.tick_now t] at basin
      exact ⟨_, rfl, hold, basin, basin ▸ awake, State.basinReady_unready unready⟩
  · rw [State.selfExitDone_none (s := s.tick t) none]

/-- A part of `basinTrainingAndUpkeep`. -/
theorem basinUpkeep : Claims.BasinUpkeep := by
  intro s t k moves alive
  simp only [exec_basinEyeTrack t alive, exec_selfRefreshEnter t alive, exec_scrubGranule t alive]
  rw [exec_basinRefresh t alive, exec_basinFlushDone t alive]
  refine ⟨fun ready => ?_, fun unready => ?_, fun ready => ?_, fun lane dir x ready stack number present => ?_, fun off => ?_,
    fun ready hold drained => ?_, fun off errs => ?_, fun errs on ready => ⟨fun clean more => ?_, fun clean last => ?_,
    fun corrected more => ?_, fun lost => ?_⟩, rfl⟩
  · rw [State.refresh_ready (s := s.tick t) ready]
    rfl
  · exact ⟨congrArg _ (State.refresh_unready (s := s.tick t) unready k), congrArg _ (State.eyeTrack_unready (s := s.tick t) unready moves),
      congrArg _ (State.selfEnter_off (s := s.tick t) (.inr (.inl unready))),
      fun errs => congrArg _ (State.scrub_off (s := s.tick t) (.inr unready) errs)⟩
  · refine ⟨_, rfl, State.eyeTrack_basin (s := s.tick t) ready moves, ?_⟩
    rintro rfl
    exact State.eyeTrack_ready (s := s.tick t) ready []
  · obtain ⟨y, off, moved⟩ := State.eyeMove_stk (s := s.tick t) present lane dir
    exact ⟨_, y, off, congrArg _ (State.eyeTrack_one (s := s.tick t) ready stack number dir), moved⟩
  · rw [State.selfEnter_off (s := s.tick t) (off.imp id .inr)]
  · have entered := State.selfEnter_basin (s := s.tick t) hold ready drained
    exact ⟨_, rfl, entered, State.basinReady_selfref (congrArg BasinSt.selfref entered)⟩
  · rw [State.scrub_off (s := s.tick t) (.inl off)]
  · rw [State.scrub_clean (s := s.tick t) on ready clean]
    exact congrArg _ (State.scrubOn_next (s := s.tick t) more)
  · rw [State.scrub_clean (s := s.tick t) on ready clean]
    exact ⟨_, rfl, State.scrubOn_pass (s := s.tick t) last⟩
  · exact ⟨_, rfl, State.scrub_corrected (s := s.tick t) on ready corrected more⟩
  · obtain ⟨mem, mark, hold⟩ := State.scrub_lost (s := s.tick t) on ready lost
    exact ⟨_, rfl, mem, fun e listed => ⟨mark e listed, fun other kept => hold (State.holdsOn_of_entry listed other kept)⟩⟩

/-- Settles O28: the results of training, by the marks of the stacks, and the upkeep of a ready Basin. -/
theorem basinTrainingAndUpkeep : Obligations.BasinTrainingAndUpkeep := ⟨basinTrainingRuns, basinUpkeep⟩

end Sys2Proof.Proofs

namespace Sys2Proof.Machine

/-! A block of the compression engine: what it is encoded as, read back (R416, R419). -/

theorem length_leBytes : ∀ n v : Nat, (leBytes n v).length = n
  | 0, _ => rfl
  | n + 1, v => congrArg (· + 1) (length_leBytes n (v / 256))

theorem le_leBytes : ∀ n v : Nat, le (leBytes n v) = v % 256 ^ n
  | 0, v => by simp [leBytes, le, Nat.mod_one]
  | n + 1, v => by
    have digit : (BitVec.ofNat 8 v).toNat = v % 256 := BitVec.toNat_ofNat ..
    calc le (leBytes (n + 1) v) = v % 256 + 256 * (v / 256 % 256 ^ n) := by rw [leBytes, le, digit, le_leBytes n]
      _ = v % 256 ^ (n + 1) := by rw [Nat.pow_succ', Nat.mod_mul]

/-- The part of a list that stands behind its first `off` elements. -/
theorem slice_append {p l q : List Byte} {off n : Nat} (before : p.length = off) (size : l.length = n) : slice (p ++ (l ++ q)) off n = l := by
  subst before size
  simp [slice]

theorem leAt_append {p q : List Byte} {off n v : Nat} (before : p.length = off) (fits : v < 256 ^ n) : leAt (p ++ (leBytes n v ++ q)) off n = v := by
  rw [leAt, slice_append before (length_leBytes n v), le_leBytes, Nat.mod_eq_of_lt fits]

/-- The header of a block (R416): FLAGS, reserved bytes, OLEN, CLEN and CRC. -/
def lzHeader (flags olen clen crc : Nat) : List Byte := leBytes 1 flags ++ leBytes 3 0 ++ leBytes 4 olen ++ leBytes 4 clen ++ leBytes 4 crc

section
variable (flags olen clen crc : Nat) (body : List Byte)

theorem lzHeader_length : (lzHeader flags olen clen crc).length = 16 := by simp [lzHeader, length_leBytes]

/-- A header as its fields before, at and behind the one that is read. -/
theorem lzHeader_append : lzHeader flags olen clen crc ++ body =
    leBytes 1 flags ++ (leBytes 3 0 ++ (leBytes 4 olen ++ (leBytes 4 clen ++ (leBytes 4 crc ++ body)))) := by
  simp [lzHeader]

theorem lzHeader_flags (fits : flags < 256) : leAt (lzHeader flags olen clen crc ++ body) 0 1 = flags := by
  rw [lzHeader_append]
  exact leAt_append (p := []) rfl fits

theorem lzHeader_reserved : leAt (lzHeader flags olen clen crc ++ body) 1 3 = 0 := by
  rw [lzHeader_append]
  exact leAt_append (length_leBytes ..) (by decide)

theorem lzHeader_olen (fits : olen < 2 ^ 32) : leAt (lzHeader flags olen clen crc ++ body) 4 4 = olen := by
  rw [lzHeader_append, ← List.append_assoc]
  exact leAt_append (by simp [length_leBytes]) fits

theorem lzHeader_clen (fits : clen < 2 ^ 32) : leAt (lzHeader flags olen clen crc ++ body) 8 4 = clen := by
  rw [lzHeader_append, ← List.append_assoc, ← List.append_assoc]
  exact leAt_append (by simp [length_leBytes]) fits

theorem lzHeader_crc (fits : crc < 2 ^ 32) : leAt (lzHeader flags olen clen crc ++ body) 12 4 = crc := by
  rw [lzHeader_append, ← List.append_assoc, ← List.append_assoc, ← List.append_assoc]
  exact leAt_append (by simp [length_leBytes]) fits

end

/-- FLAGS of a block (R416): RAW, FIRST, LAST. -/
def lzFlags (raw first last : Bool) : Nat := b2n raw + 2 * b2n first + 4 * b2n last

theorem lzFlags_bits (raw first last : Bool) : lzFlags raw first last < 8 ∧ bitAt (lzFlags raw first last) 0 = raw ∧
    bitAt (lzFlags raw first last) 1 = first ∧ bitAt (lzFlags raw first last) 2 = last := by
  cases raw <;> cases first <;> cases last <;> decide

/-- A sound block decodes: `body` is the data itself, or, shorter, tokens that decode to it (R416 to R418). -/
theorem lzDecode_header {c : LzCtx} {data body rest : List Byte} {raw first last : Bool} (some_ : body ≠ []) (size : data.length ≤ 65536)
    (opens : first = true ∨ c.st = 1) (plain : raw = true → body = data) (packed : raw = false → body.length < data.length ∧
      lzBody (if first then [] else c.hist) data.length body = .inr data) :
    lzDecode c (lzHeader (lzFlags raw first last) data.length body.length (lzCrc data) ++ (body ++ rest)) =
      .block (16 + body.length) data (lzHist (if first then [] else c.hist) data) last := by
  obtain ⟨small, isRaw, isFirst, isLast⟩ := lzFlags_bits raw first last
  have bodySize : 0 < body.length := List.length_pos_iff.mpr some_
  have shorter : body.length ≤ data.length := by
    cases raw with
    | true => exact (congrArg List.length (plain rfl)).le
    | false => exact (packed rfl).1.le
  let head := lzHeader (lzFlags raw first last) data.length body.length (lzCrc data)
  have headSize : head.length = 16 := lzHeader_length ..
  have length : (head ++ (body ++ rest)).length = 16 + (body.length + rest.length) := by rw [List.length_append, headSize, List.length_append]
  have flags : leAt (head ++ (body ++ rest)) 0 1 = lzFlags raw first last := lzHeader_flags _ _ _ _ _ (small.trans (by decide))
  have reserved : leAt (head ++ (body ++ rest)) 1 3 = 0 := lzHeader_reserved ..
  have olen : leAt (head ++ (body ++ rest)) 4 4 = data.length := lzHeader_olen _ _ _ _ _ (by omega)
  have clen : leAt (head ++ (body ++ rest)) 8 4 = body.length := lzHeader_clen _ _ _ _ _ (by omega)
  have crc : leAt (head ++ (body ++ rest)) 12 4 = lzCrc data := lzHeader_crc _ _ _ _ _ (BitVec.isLt _)
  have bytes : slice (head ++ (body ++ rest)) 16 body.length = body := slice_append headSize rfl
  have made : (if raw = true then (.inr body : Nat ⊕ List Byte) else lzBody (if first then [] else c.hist) data.length body) = .inr data := by
    cases raw with
    | true => exact congrArg Sum.inr (plain rfl)
    | false => exact (packed rfl).2
  have opened : ¬ (8 ≤ lzFlags raw first last ∨ 0 ≠ 0 ∨ (¬ first = true ∧ c.st ≠ 1)) := by
    rw [not_or, Nat.not_le]
    exact ⟨small, by rcases opens with opens | opens <;> simp [opens]⟩
  have sized : ¬ (data.length = 0 ∨ 65536 < data.length ∨ body.length = 0 ∨ (raw = true ∧ body.length ≠ data.length) ∨
      (¬ raw = true ∧ data.length ≤ body.length)) := by
    cases raw with
    | true =>
      have same := congrArg List.length (plain rfl)
      simp only [not_true, false_and, or_false, true_and]
      omega
    | false =>
      have less := (packed rfl).1
      simp only [Bool.false_eq_true, false_and, not_false_iff, true_and, false_or]
      omega
  change lzDecode c (head ++ (body ++ rest)) = _
  unfold lzDecode
  rw [if_neg (List.ne_nil_of_length_pos (by rw [length]; omega)), if_neg (by rw [length]; omega)]
  simp only [flags, reserved, olen, clen, crc, isRaw, isFirst, isLast, bytes]
  rw [if_neg opened, if_neg sized, if_neg (by rw [length]; omega)]
  simp only [made]
  exact if_neg (not_not_intro rfl)

/-- The tokens that the engine chose decode to the data and are shorter (R419). -/
def lzFits (h data : List Byte) : Bool :=
  decide ((Config.lzTokens h data).length < data.length) && (match lzBody h data.length (Config.lzTokens h data) with | .inr d => d == data | .inl _ => false)

theorem lzFits_iff (h data : List Byte) : lzFits h data = true ↔
    (Config.lzTokens h data).length < data.length ∧ lzBody h data.length (Config.lzTokens h data) = .inr data := by
  unfold lzFits
  rw [Bool.and_eq_true, decide_eq_true_iff]
  refine and_congr_right fun _ => ?_
  cases lzBody h data.length (Config.lzTokens h data) with
  | inl k => simp
  | inr d => simp

/-- The body of a block: the tokens where they fit, else the data. -/
def lzStored (h data : List Byte) : List Byte := if lzFits h data then Config.lzTokens h data else data

theorem lzEncode_eq (hist data : List Byte) (first last : Bool) :
    lzEncode hist data first last =
      (let h := if first then [] else hist
       (lzHeader (lzFlags (!lzFits h data) first last) data.length (lzStored h data).length (lzCrc data) ++ lzStored h data, !lzFits h data)) := rfl

/-- No tokens decode to some data. -/
theorem lzBody_nil (h : List Byte) {data : List Byte} (some_ : data ≠ []) : lzBody h data.length [] ≠ .inr data := by
  have size : 0 ≠ data.length := (List.length_pos_iff.mpr some_).ne
  simp [lzBody, lzTokens, size]

theorem lzStored_ne_nil (h : List Byte) {data : List Byte} (some_ : data ≠ []) : lzStored h data ≠ [] := by
  unfold lzStored
  split
  next fits =>
    intro none
    exact lzBody_nil h some_ (none ▸ ((lzFits_iff h data).mp fits).2)
  next => exact some_

end Sys2Proof.Machine

namespace Sys2Proof.Proofs

open Machine

/-- Settles O59. -/
theorem lzRoundTrip : Obligations.LzRoundTrip := by
  intro hist data rest first last c some_ size opens h e
  have encoded : e = (lzHeader (lzFlags (!lzFits h data) first last) data.length (lzStored h data).length (lzCrc data) ++ lzStored h data, !lzFits h data) :=
    lzEncode_eq hist data first last
  have context : (if first then [] else c.hist) = h := by
    rcases opens with opens | ⟨-, same⟩
    · simp only [h, opens, if_true]
    · simp only [h, same]
  clear_value e h
  subst encoded
  have body : ∀ l : List Byte, (lzHeader (lzFlags (!lzFits h data) first last) data.length (lzStored h data).length (lzCrc data) ++ l).drop 16 = l :=
    fun l => List.drop_left' (lzHeader_length ..)
  refine ⟨?_, fun long => ?_, fun packed => ?_⟩
  · rw [List.append_assoc, List.length_append, lzHeader_length, ← context]
    refine lzDecode_header (context ▸ lzStored_ne_nil h some_) size (opens.imp id And.left) (fun raw => ?_) (fun packed => ?_)
    · exact if_neg (by simpa using raw)
    · have fits : lzFits (if first then [] else c.hist) data = true := by simpa using packed
      have stored : lzStored (if first then [] else c.hist) data = Config.lzTokens (if first then [] else c.hist) data := if_pos fits
      rw [stored]
      exact (lzFits_iff _ data).mp fits
  · have misfit : ¬ lzFits h data = true := fun fits => Nat.not_lt.mpr long ((lzFits_iff h data).mp fits).1
    exact ⟨by simpa using misfit, (body _).trans (if_neg misfit)⟩
  · have fits : lzFits h data = true := by simpa using packed
    have stored : lzStored h data = Config.lzTokens h data := if_pos fits
    refine ⟨(body _).trans stored, ?_⟩
    rw [List.length_append, lzHeader_length, stored]
    exact Nat.add_lt_add_left ((lzFits_iff h data).mp fits).1 16

/-- Settles O50. -/
theorem stepRunsTheFrontCommand : Obligations.StepRunsTheFrontCommand :=
  ⟨fun _ _ _ => rfl, fun s empty => by unfold step; rw [empty]⟩

end Sys2Proof.Proofs

namespace Sys2Proof.Machine

/-! Scan-out's commands (R298, R299, R305, R307 to R311), at their instant. -/

section
variable {s : State} (t : Nat) (alive : s.alive = true)
include alive

theorem exec_scanUnderrun (lane : Nat) : exec (.scanUnderrun t lane) s = .next ((s.tick t).scanUnderrun lane) :=
  State.live_alive t (fun s => s.scanUnderrun lane) alive

theorem exec_frameEndCode : exec (.frameEndCode t) s = .next (s.tick t).frameEndCode := State.live_alive t State.frameEndCode alive

theorem exec_scanCheckDone (n : Nat) : exec (.scanCheckDone t n) s = .next ((s.tick t).checkDone n) :=
  State.live_alive t (fun s => s.checkDone n) alive

theorem exec_ownSample (level : Bool) (sides : List (List Byte)) : exec (.ownSample t level sides) s = .next ((s.tick t).ownSample level sides) :=
  State.live_alive t (fun s => s.ownSample level sides) alive

theorem exec_ownInAsserted : exec (.ownInAsserted t) s = .next (s.tick t).ownInAsserted := State.live_alive t State.ownInAsserted alive

end

/-! An underrun (R305). -/

section
variable {s : State} (lane : Nat)

theorem State.scanUnderrun_follower (shadows : s.scan.shadow = .frame ∨ s.scan.shadow = .repeated) : s.scanUnderrun lane = s.markAborted := if_pos shadows

variable (sends : ¬ (s.scan.shadow = .frame ∨ s.scan.shadow = .repeated))
include sends

theorem State.scanUnderrun_none (none : s.scan.active = false ∨ s.scan.abort.isSome = true ∨ s.scan.endCode.isSome = true ∨
    (s.scan.kind ≠ .frame ∧ s.scan.kind ≠ .repeated)) : s.scanUnderrun lane = s := by
  unfold State.scanUnderrun State.abortFrame
  rw [if_neg sends]
  exact if_pos (by simpa [not_or] using none)

theorem State.scanUnderrun_aborts (active : s.scan.active = true) (sound : s.scan.abort = none) (open_ : s.scan.endCode = none)
    (frame : s.scan.kind = .frame ∨ s.scan.kind = .repeated) :
    (s.scanUnderrun lane).scan = { s.scan with abort := some 2, zeroAt := some s.slotNow } ∧
      (s.scanUnderrun lane).comp = { s.comp with bufs := s.comp.bufs.map (fun b => if b.role = .scanning then { b with aborted := true } else b) } := by
  unfold State.scanUnderrun State.abortFrame
  rw [if_neg sends, if_neg (by simp [active, sound, open_, frame])]
  extract_lets u v
  rw [if_pos rfl, State.noteFault]
  obtain ⟨led, evt, recover, noted⟩ := ((v.inc F.SCAN_CNT_ABORTS).raise 0xC02 bSCAN v.scan.shown (2 + 256 * lane)).noteFaultIn_eq 0xC02 false
  rw [noted]
  exact ⟨rfl, rfl⟩

end

/-- Of a marked composition, the buffer that scans is aborted. -/
theorem Buf.aborted_of_marked {bufs : List Buf} {b : Buf}
    (marked : b ∈ bufs.map (fun b => if b.role = .scanning then { b with aborted := true } else b)) (scans : b.role = .scanning) : b.aborted = true := by
  obtain ⟨a, -, rfl⟩ := List.mem_map.mp marked
  split
  · rfl
  next other => exact absurd (by rwa [if_neg other] at scans) other

theorem State.alert_scan (s : State) (f : Fld) : (s.alert f).scan = s.scan := by
  unfold State.alert
  split <;> rfl

/-! The end code and the checks of a frame (R298, R299, R307 to R309). -/

section
variable {s : State}

theorem State.frameEndCode_none (none : s.scan.active = false ∨ s.scan.endCode.isSome = true) : s.frameEndCode = s := if_pos (by simpa using none)

theorem State.frameEndCode_ends (active : s.scan.active = true) (open_ : s.scan.endCode = none) : s.frameEndCode =
    { s with scan := { s.scan with endCode := some s.scan.abort.isNone, heads := s.headsAt (s.rowSlot s.scan.bank.vact),
                                   panel := if s.scan.abort = none then some (s.scan.shown, s.scan.kind) else s.scan.panel } } := by
  unfold State.frameEndCode
  rw [if_neg (by simp [active, open_])]
  cases s.scan.abort <;> rfl

variable {n : Nat}

theorem State.checkDone_none (none : 8 ≤ n ∨ s.scan.active = false ∨ s.scan.judged.contains n = true ∨
    (s.setOf s.scan.slot).fld (F.SCAN_CHKn_CFG_MODE n) = 0) : s.checkDone n = s := by
  refine if_pos ?_
  rcases none with past | idle | judged | off
  · exact .inl past
  · exact .inr (.inr (.inl (by simp [idle])))
  · exact .inr (.inr (.inr judged))
  · exact .inr (.inl off)

/-- The state with check `n` judged for the frame and the value `v` kept for the next one. -/
def State.checkJudged (s : State) (n : Nat) (v : Option Nat) : State :=
  { s with scan := { s.scan with prev := modAt s.scan.prev n (fun _ => v), judged := n :: s.scan.judged } }

variable (listed : n < 8) (active : s.scan.active = true) (fresh : s.scan.judged.contains n = false)
  (on : (s.setOf s.scan.slot).fld (F.SCAN_CHKn_CFG_MODE n) ≠ 0)
include listed active fresh on

theorem State.checkDone_judges : ¬ (8 ≤ n ∨ (s.setOf s.scan.slot).fld (F.SCAN_CHKn_CFG_MODE n) = 0 ∨ ¬ s.scan.active = true ∨ s.scan.judged.contains n = true) := by
  rintro (past | off | idle | judged)
  · omega
  · exact on off
  · exact idle active
  · exact Bool.false_ne_true (fresh.symm.trans judged)

theorem State.checkDone_forgets (forgets : s.scan.abort.isSome = true ∨ s.sentGeom.cols * s.sentGeom.vcols ≤ (s.setOf s.scan.slot).fld (F.SCAN_CHKn_X1_X n) ∨
    s.sentGeom.rows * s.sentGeom.vrows ≤ (s.setOf s.scan.slot).fld (F.SCAN_CHKn_Y_Y1 n)) : s.checkDone n = s.checkJudged n none := by
  unfold State.checkDone
  extract_lets c mode setPrev
  rw [if_neg (State.checkDone_judges listed active fresh on), if_pos forgets]
  rfl

theorem State.checkDone_scan (sound : s.scan.abort = none) (right : (s.setOf s.scan.slot).fld (F.SCAN_CHKn_X1_X n) < s.sentGeom.cols * s.sentGeom.vcols)
    (bottom : (s.setOf s.scan.slot).fld (F.SCAN_CHKn_Y_Y1 n) < s.sentGeom.rows * s.sentGeom.vrows) :
    (s.checkDone n).scan = (s.checkJudged n (some (s.checkValue n))).scan := by
  have inside : ¬ (s.scan.abort.isSome = true ∨ s.sentGeom.cols * s.sentGeom.vcols ≤ (s.setOf s.scan.slot).fld (F.SCAN_CHKn_X1_X n) ∨
      s.sentGeom.rows * s.sentGeom.vrows ≤ (s.setOf s.scan.slot).fld (F.SCAN_CHKn_Y_Y1 n)) := by
    simp [sound, right, bottom]
  unfold State.checkDone
  extract_lets c mode setPrev v r judged shown failed
  rw [if_neg (State.checkDone_judges listed active fresh on), if_neg inside]
  have kept : shown.scan = (s.checkJudged n (some (s.checkValue n))).scan := rfl
  have keptFailed : failed.scan = shown.scan := rfl
  clear_value failed shown
  split
  · exact kept
  · split
    · split
      · exact (State.alert_scan ..).trans (keptFailed.trans kept)
      · exact keptFailed.trans kept
    · exact kept

end

/-! The ownership wires (R310, R311, R408). -/

/-- The wire is shown (R311). -/
def State.showOwnIn (s : State) (level : Bool) : State := State.wr { s with scan := { s.scan with ownIn := level } } F.SCAN_STATUS_OWN_IN (b2n level)

theorem State.raiseOnce_scan (s : State) (code block key arg0 arg1 : Nat) : (s.raiseOnce code block key arg0 arg1).scan = s.scan :=
  congrArg Prod.snd (State.raiseOnce_timeScan s code block key arg0 arg1)

theorem State.sbFail_scan (s : State) (cs addr : Nat) : (s.sbFail cs addr).scan = s.scan :=
  (State.raiseOnce_scan ..).trans (State.inc_scan ..)

theorem State.checkSides_scan (s : State) (t : Nat) (sides : List (List Byte)) : (s.checkSides t sides).scan = s.scan := by
  have answered (s : State) (c : Nat) : (match sbData 4 (sides.getD c []) with | some _ => s.sbOk | none => s.sbFail c 0x40).scan = s.scan := by
    split
    · rfl
    · exact State.sbFail_scan ..
  unfold State.checkSides
  extract_lets u
  have read : u.scan = s.scan := State.each_proj State.scan _ answered _ s
  split
  · exact (State.alert_scan ..).trans read
  · exact read

section
variable {s : State} (level : Bool) (sides : List (List Byte))

theorem State.ownSample_shows (off : s.paired = false ∨ s.ownsSlot s.time.nextL = false ∨ has (s.slotSet s.time.nextL).mode mSTANDBY = true ∨
    s.scan.ownOut = true) : s.ownSample level sides = s.showOwnIn level := by
  refine if_pos (?_ : ¬ s.paired = true ∨ ¬ s.ownsSlot s.time.nextL = true ∨ has (s.slotSet s.time.nextL).mode mSTANDBY = true ∨ s.scan.ownOut = true)
  simpa using off

variable (paired : s.paired = true) (owns : s.ownsSlot s.time.nextL = true) (driven : has (s.slotSet s.time.nextL).mode mSTANDBY = false)
  (silent : s.scan.ownOut = false)
include paired owns driven silent

theorem State.ownSample_decides : ¬ (¬ s.paired = true ∨ ¬ s.ownsSlot s.time.nextL = true ∨ has (s.slotSet s.time.nextL).mode mSTANDBY = true ∨
    s.scan.ownOut = true) := by simp [paired, owns, driven, silent]

theorem State.ownSample_free : (s.ownSample false sides).scan = { s.scan with ownIn := false, ownOut := true, blocked := false } := by
  refine (congrArg State.scan ((if_neg (State.ownSample_decides paired owns driven silent)).trans (if_pos (show ¬ false = true by decide)))).trans ?_
  dsimp only
  split
  · split
    · exact (State.checkSides_scan ..).trans rfl
    · rfl
  · rfl

theorem State.ownSample_blocks : (s.ownSample true sides).scan = { s.scan with ownIn := true, blocked := true } := by
  refine (congrArg State.scan ((if_neg (State.ownSample_decides paired owns driven silent)).trans (if_neg (show ¬ ¬ true = true by decide)))).trans ?_
  dsimp only
  split
  · split
    · split <;> rfl
    · rfl
  · rfl

end

theorem State.ownInAsserted_shows {s : State} (off : s.paired = false ∨ s.scan.ownOut = false) : s.ownInAsserted = s.showOwnIn true := by
  refine if_pos (?_ : ¬ s.paired = true ∨ ¬ s.scan.ownOut = true)
  simpa using off

theorem State.ownInAsserted_blocks {s : State} (paired : s.paired = true) (drives : s.scan.ownOut = true) : s.ownInAsserted =
    (let u : State := State.wr { s with scan := { s.scan with ownIn := true, blocked := true } } F.SCAN_STATUS_OWN_IN 1
     if s.scan.active then u else u.ownYield) :=
  if_neg (show ¬ (¬ s.paired = true ∨ ¬ s.scan.ownOut = true) by simp [paired, drives])

end Sys2Proof.Machine

namespace Sys2Proof.Proofs

open Machine

/-- A part of `scanFramesAndOwnership`. -/
theorem scanFramesEnd : Claims.ScanFramesEnd := by
  intro s t lane n alive
  rw [exec_scanUnderrun t alive, exec_frameEndCode t alive, exec_scanCheckDone t alive]
  refine ⟨fun shadows => ?_, fun sends active sound open_ frame => ?_, fun sends none => ?_, fun active open_ => ?_, fun none => ?_, fun none => ?_,
    fun listed active fresh on => ?_⟩
  · rw [State.scanUnderrun_follower (s := s.tick t) lane shadows]
  · obtain ⟨scan, comp⟩ := State.scanUnderrun_aborts (s := s.tick t) lane sends active sound open_ frame
    refine ⟨_, rfl, scan, (congrArg CompSt.cur comp :), fun b held scans => ?_⟩
    rw [comp] at held
    exact Buf.aborted_of_marked held scans
  · rw [State.scanUnderrun_none (s := s.tick t) lane sends none]
  · rw [State.frameEndCode_ends (s := s.tick t) active open_]
    rfl
  · rw [State.frameEndCode_none (s := s.tick t) none]
  · rw [State.checkDone_none (s := s.tick t) none]
  · have forgets := State.checkDone_forgets (s := s.tick t) listed active fresh on
    have keeps := State.checkDone_scan (s := s.tick t) listed active fresh on
    refine ⟨_, rfl, ?_, fun aborted => forgets (.inl aborted), fun sound right bottom => congrArg ScanSt.prev (keeps sound right bottom)⟩
    have judged (v : Option Nat) : n ∈ ((s.tick t).checkJudged n v).scan.judged := List.mem_cons_self
    by_cases forgotten : s.scan.abort.isSome = true ∨ s.sentGeom.cols * s.sentGeom.vcols ≤ (s.setOf s.scan.slot).fld (F.SCAN_CHKn_X1_X n) ∨
        s.sentGeom.rows * s.sentGeom.vrows ≤ (s.setOf s.scan.slot).fld (F.SCAN_CHKn_Y_Y1 n)
    · rw [forgets forgotten]
      exact judged none
    · obtain ⟨sound, right, bottom⟩ : ¬ s.scan.abort.isSome = true ∧ _ ∧ _ := by simpa only [not_or, Nat.not_le] using forgotten
      rw [keeps (by simpa using sound) right bottom]
      exact judged _

/-- A part of `scanFramesAndOwnership`. -/
theorem panelOwnershipWires : Claims.PanelOwnershipWires := by
  intro s t level sides alive p
  rw [exec_ownSample t alive, exec_ownInAsserted t alive]
  refine ⟨fun single => ⟨?_, ?_⟩, fun paired owns driven silent => ⟨_, rfl, ?_⟩, fun off => ?_, fun paired drives => ?_⟩
  · rw [State.ownSample_shows (s := s.tick t) level sides (.inl single)]
    rfl
  · rw [State.ownInAsserted_shows (s := s.tick t) (.inl single)]
    rfl
  · cases level with
    | false =>
      rw [State.ownSample_free (s := s.tick t) sides paired owns driven silent]
      exact ⟨rfl, rfl, rfl⟩
    | true =>
      rw [State.ownSample_blocks (s := s.tick t) sides paired owns driven silent]
      exact ⟨rfl, silent, rfl⟩
  · rw [State.ownSample_shows (s := s.tick t) level sides (.inr off)]
    rfl
  · rw [State.ownInAsserted_blocks (s := s.tick t) paired drives]
    refine ⟨_, rfl, fun active => if_pos active, fun idle => ?_⟩
    exact (congrArg State.scan (if_neg (show ¬ s.scan.active = true by simp [idle]))).trans (congrArg Prod.snd (State.ownYield_timeScan _))

/-- Settles O31. -/
theorem scanFramesAndOwnership : Obligations.ScanFramesAndOwnership := ⟨scanFramesEnd, panelOwnershipWires⟩

end Sys2Proof.Proofs

namespace Sys2Proof.Machine

open Safety Claims

/-! The event path through resets (R445, R446). -/

/-- The records held, their next number and the ring. -/
def State.evtRecords (s : State) : List EvRec × Nat × List EvRec := (s.evt.ring, s.evt.rseq, s.evt.pending)

theorem State.clearedAs_evtRecords (s : State) (lost : Bool) (phase : ResetPhase) (live : RegFile) (panel : PanelSt) (torn : Nat) (held : Bool) :
    (s.clearedAs false lost phase live panel torn held).evtRecords = s.evtRecords := rfl

theorem State.evtRecords_same {s u : State} (same : u.evtRecords = s.evtRecords) :
    u.evt.ring = s.evt.ring ∧ u.evt.rseq = s.evt.rseq ∧ u.evt.pending = s.evt.pending :=
  ⟨congrArg Prod.fst same, congrArg (fun x => x.2.1) same, congrArg (fun x => x.2.2) same⟩

theorem State.enterReset_evtRecords (s : State) (lost : Bool) (phase : ResetPhase) : (s.enterReset false lost phase).evtRecords = s.evtRecords := by
  obtain ⟨live, panel, torn, held, clears⟩ := s.enterReset_eq false lost phase
  rw [clears, State.clearedAs_evtRecords]

theorem State.enterReset_evt_cold (s : State) (lost : Bool) (phase : ResetPhase) : (s.enterReset true lost phase).evt = EvtSt.reset := by
  obtain ⟨live, panel, torn, held, clears⟩ := s.enterReset_eq true lost phase
  rw [clears]
  rfl

theorem State.coldReset_evt (s : State) (lost : Bool) (phase : ResetPhase) (f : Fld) : (s.coldReset lost phase f).evt = EvtSt.reset := by
  obtain ⟨live, panel, torn, held, clears⟩ := s.coldReset_eq lost phase f
  rw [clears]
  rfl

theorem State.resetTrip_evtRecords {s : State} {mon : Nat} (listed : mon < 18) (five : mon ≠ 5) (sixteen : mon ≠ 16) (run : s.pwr.phase = .run) :
    (s.resetTrip mon).evtRecords = s.evtRecords := by
  have off := s.resetTrip_other listed five sixteen
  have resets : (s.tripNoted mon).tripWarm = ((s.tripNoted mon).enterReset false false .awaitRails).resetCause F.PWR_RST_CAUSE_BOR_WARM :=
    if_pos (State.running_of_run run)
  have entered := (s.tripNoted mon).enterReset_evtRecords false .awaitRails
  rw [resets] at off
  exact (congrArg State.evtRecords off).trans entered

section
variable {s : State} (code block arg0 arg1 : Nat)

theorem State.raise_slot (free : s.evt.pending.length < 8) : (s.raise code block arg0 arg1).evt =
    { s.evt with
      pending := s.evt.pending ++ [{ pound := s.lock.pound, sec := s.devSec, ns := s.devNs, code := code, block := block, inst := 0xFF, rseq := s.evt.rseq,
                                     arg0 := arg0 % 2 ^ 32, arg1 := arg1 % 2 ^ 32, gap := s.evt.gapNext }],
      rseq := (s.evt.rseq + 1) % 65536, gapNext := false } := if_pos free

theorem State.raise_dropped (full : 8 ≤ s.evt.pending.length) : (s.raise code block arg0 arg1).evt =
    { s.evt with gapNext := true, dropPound := s.evt.dropPound + 1, dropTotal := satN 0xFFFFFFFF (s.evt.dropTotal + 1) } :=
  if_neg (Nat.not_lt.mpr full)

end

/-- A command of the running device does nothing in another state. -/
theorem State.live_idle {s : State} (t : Nat) (f : State → State) (idle : s.alive = false) : s.live t f = .next (s.tick t) :=
  congrArg _ (if_neg (show ¬ (s.tick t).alive = true from Bool.not_eq_true _ ▸ idle))

end Sys2Proof.Machine

namespace Sys2Proof.Proofs

open Machine

/-- Settles O49: what a reset entry leaves of the event path is read off the state it makes. -/
theorem eventRingThroughResets : Obligations.EventRingThroughResets := by
  intro s t
  refine ⟨fun v alive key warm => ?_, fun mon listed five sixteen run => ?_, fun lost phase => State.evtRecords_same (s.enterReset_evtRecords lost phase),
    fun lost phase => ?_, ⟨_, rfl, ?_⟩, fun idle => State.live_idle t State.eventAccept idle, fun code block arg0 arg1 free => ?_,
    fun code block arg0 arg1 full => ?_⟩
  · obtain ⟨live, panel, torn, held, clears⟩ := State.resetWarm_asked (s := s.tick t) (State.running_of_alive alive) key warm
    refine ⟨_, State.live_alive t (fun s => s.resetWarm v) alive, State.evtRecords_same ?_⟩
    rw [clears]
    exact State.clearedAs_evtRecords ..
  · exact ⟨_, rfl, State.evtRecords_same (State.resetTrip_evtRecords (s := s.tick t) listed five sixteen run)⟩
  · have cold := s.enterReset_evt_cold lost phase
    exact ⟨congrArg EvtSt.ring cold, congrArg EvtSt.rseq cold⟩
  · have cold := State.coldReset_evt { s.tick t with pwr := { s.pwr with porLow := true, tripped := 0 } } false .porHeld F.PWR_RST_CAUSE_POR
    exact ⟨congrArg EvtSt.ring cold, congrArg EvtSt.rseq cold⟩
  · rw [State.raise_slot code block arg0 arg1 free]
    exact ⟨_, rfl, rfl, rfl, rfl, rfl⟩
  · rw [State.raise_dropped code block arg0 arg1 full]
    exact ⟨rfl, rfl, rfl⟩

end Sys2Proof.Proofs

namespace Sys2Proof.Machine

/-! The read-only I2C target (R456). -/

theorem State.i2cWord_mgmt (s : State) (a : Nat) : (s.i2cWord a).2.mgmt = s.mgmt := by
  unfold State.i2cWord State.i2cReadWord
  split
  · split
    · rfl
    · split <;> rfl
  · rfl

theorem State.i2cBytes_length : ∀ (n : Nat) (s : State) (acc : List Byte), (s.i2cBytes n acc).2.length = acc.length + 4 * n
  | 0, _, _ => rfl
  | n + 1, s, acc => by
    rw [State.i2cBytes, State.i2cBytes_length n, List.length_append, length_leBytes]
    omega

/-- The pointer moves by whole words, modulo 2^24. -/
theorem State.i2cBytes_pointer : ∀ (n : Nat) (s : State) (acc : List Byte), s.mgmt.i2cPtr < 2 ^ 24 →
    (s.i2cBytes n acc).1.mgmt.i2cPtr = (s.mgmt.i2cPtr + 4 * n) % 2 ^ 24
  | 0, _, _, small => (Nat.mod_eq_of_lt small).symm
  | n + 1, s, acc, _ => by
    have word : (s.i2cWord s.mgmt.i2cPtr).2.mgmt.i2cPtr = s.mgmt.i2cPtr := congrArg MgmtSt.i2cPtr (s.i2cWord_mgmt _)
    rw [State.i2cBytes, State.i2cBytes_pointer n _ _ (Nat.mod_lt _ (by decide))]
    dsimp only
    rw [word]
    omega

section
variable (s : State) (n : Nat)

/-- A read's whole words, then the first bytes of a further one. -/
theorem State.i2cRead_whole (whole : n % 4 = 0) :
    (s.i2cRead n).mgmt = { (s.i2cBytes (n / 4) []).1.mgmt with i2cOut := (s.i2cBytes (n / 4) []).2 } := by
  unfold State.i2cRead
  simp only [whole, if_true]

theorem State.i2cRead_parted (parted : n % 4 ≠ 0) : ∃ w : Word,
    (s.i2cRead n).mgmt = { (s.i2cBytes (n / 4) []).1.mgmt with i2cOut := (s.i2cBytes (n / 4) []).2 ++ leBytes (n % 4) w.toNat } := by
  let u := (s.i2cBytes (n / 4) []).1
  refine ⟨(u.i2cWord u.mgmt.i2cPtr).1, ?_⟩
  unfold State.i2cRead
  simp only [parted, if_false]
  rw [State.i2cWord_mgmt]

theorem State.i2cRead_length : (s.i2cRead n).mgmt.i2cOut.length = n := by
  have words : (s.i2cBytes (n / 4) []).2.length = 0 + 4 * (n / 4) := State.i2cBytes_length ..
  by_cases whole : n % 4 = 0
  · rw [State.i2cRead_whole s n whole]
    dsimp only
    omega
  · obtain ⟨w, read⟩ := State.i2cRead_parted s n whole
    rw [read]
    dsimp only
    rw [List.length_append, length_leBytes]
    omega

theorem State.i2cRead_pointer (small : s.mgmt.i2cPtr < 2 ^ 24) : (s.i2cRead n).mgmt.i2cPtr = (s.mgmt.i2cPtr + 4 * (n / 4)) % 2 ^ 24 := by
  have moved := State.i2cBytes_pointer (n / 4) s [] small
  by_cases whole : n % 4 = 0
  · rw [State.i2cRead_whole s n whole]
    exact moved
  · obtain ⟨w, read⟩ := State.i2cRead_parted s n whole
    rw [read]
    exact moved

end

end Sys2Proof.Machine

namespace Sys2Proof.Proofs

open Machine

/-- Settles O47. -/
theorem alertAndTarget : Obligations.AlertAndTarget := by
  intro s t n d island
  have alert : exec (.alertResponse t) s = .next (s.tick t).alertResponse := State.isle_island t State.alertResponse island
  have write : exec (.i2cPointerWrite t d) s = .next ((s.tick t).i2cPointerWrite d) := State.isle_island t (fun s => s.i2cPointerWrite d) island
  rw [alert, write]
  refine ⟨fun low => congrArg _ (if_pos low), fun high => congrArg _ (if_neg (show ¬ (s.tick t).alertLow = true from Bool.not_eq_true _ ▸ high)),
    fun three aligned => congrArg _ (if_pos ⟨three, aligned⟩), fun other => congrArg _ (if_neg other),
    (s.tick t).recordsRun.i2cRead n, State.isle_amidRecords t (fun s => s.i2cRead n) island, State.i2cRead_length _ n, State.i2cRead_pointer _ n⟩

end Sys2Proof.Proofs

namespace Sys2Proof.Machine

/-! An eye scan ends (R330): its event tells the width that was measured, its register what six bits hold of it. -/

theorem exec_monScanDone {s : State} (t : Nat) (eyes : List Eyes) (alive : s.alive = true) :
    exec (.monScanDone t eyes) s = .next ((s.tick t).monScanDone eyes) := State.live_alive t (fun s => s.monScanDone eyes) alive

/-- The three eyes are open at phase `k`. -/
def eyesOpen (eyes : List Eyes) (k : Nat) : Bool :=
  let e : Nat × Nat × Nat := (eyes[k]?).elim (0, 0, 0) (fun e => (satN 255 e.upper.height, satN 255 e.middle.height, satN 255 e.lower.height))
  decide (0 < e.1 ∧ 0 < e.2.1 ∧ 0 < e.2.2)

/-- The registers of the scan's figures: six bits of the width. -/
theorem State.rd_monStat_width (s : State) (width lane fom : Nat) :
    (((s.wr F.LANE_MON_STAT_WIDTH width).wr F.LANE_MON_STAT_LANE lane).wr F.LANE_MON_STAT_FOM fom).rd F.LANE_MON_STAT_WIDTH = width % 64 := by
  rw [State.rd_wr_beside _ F.LANE_MON_STAT_FOM F.LANE_MON_STAT_WIDTH _ (by decide) (by decide) rfl (by decide),
    State.rd_wr_beside _ F.LANE_MON_STAT_LANE F.LANE_MON_STAT_WIDTH _ (by decide) (by decide) rfl (by decide), State.rd_wr _ _ _ (by decide) (by decide)]
  rfl

theorem State.monScanDone_scanning {s : State} (scanning : s.lanes.scan = true) (eyes : List Eyes) : ∃ (w : State) (lane : Nat), w.evt = s.evt ∧
    w.rd F.LANE_MON_STAT_WIDTH = openWidth (eyesOpen eyes) % 64 ∧
    s.monScanDone eyes = (w.wr F.LANE_MON_CFG_SCAN 0).raiseLane 0xD07 lane (openWidth (eyesOpen eyes) * 256 + w.rd F.LANE_MON_STAT_FOM) := by
  unfold State.monScanDone
  rw [if_neg (not_not_intro scanning)]
  extract_lets e v width lane f _ w
  have raised : v.evt = s.evt := by
    refine State.each_proj State.evt _ (fun u k => ?_) (List.range 64) s
    rw [State.wr_evt, State.wr_evt, State.wr_evt]
  have kept : f.evt = v.evt := (State.wr_evt ..).trans ((State.wr_evt ..).trans (State.wr_evt ..))
  have shown : f.rd F.LANE_MON_STAT_WIDTH = width % 64 := State.rd_monStat_width ..
  have found : width = openWidth (eyesOpen eyes) := rfl
  clear_value f width
  subst found
  exact ⟨w, lane, kept.trans raised, shown, rfl⟩

/-- The argument of a lane's event that is the only record pending. -/
theorem State.raiseLane_arg {s : State} (empty : s.evt.pending = []) (code n arg : Nat) :
    (s.raiseLane code n arg).evt.pending.map EvRec.arg1 = [arg % 2 ^ 32] := by
  unfold State.raiseLane State.raiseI EvtSt.raise
  rw [empty]
  rfl

/-- A running device in the middle of an eye scan of its monitor. -/
def eyeScanner : State :=
  { State.reset with pwr := { PwrSt.reset with phase := .run, straps := Straps.reset }, lanes := { State.reset.lanes with scan := true } }

/-- Eyes open by one step of the slicer. -/
def openEyes : Eyes := let m : EyeMeas := { up := [0, 1], down := [0, 1] }; { upper := m, middle := m, lower := m }

theorem eyeScanner_alive : eyeScanner.alive = true := by decide

theorem openEyes_width : openWidth (eyesOpen (List.replicate 64 openEyes)) = 64 := by decide

end Sys2Proof.Machine

namespace Sys2Proof.Proofs

open Machine

/-- Refutes O34: a scan that finds the eyes open at all 64 phases shows width 0, the low six bits of 64, and tells 64 in its event. -/
theorem not_laneTestsAndMonitor : ¬ Obligations.LaneTestsAndMonitor := by
  intro claim
  obtain ⟨-, -, ends, -⟩ := claim eyeScanner 0 0 0 (List.replicate 64 openEyes) eyeScanner_alive
  obtain ⟨u, done, -, -, -, -, told⟩ := ends rfl
  obtain ⟨w, lane, raised, width, scanned⟩ := State.monScanDone_scanning (s := eyeScanner.tick 0) rfl (List.replicate 64 openEyes)
  rw [exec_monScanDone 0 _ eyeScanner_alive, scanned, openEyes_width] at done
  rw [openEyes_width] at width
  obtain rfl := Host.Outcome.next.inj done
  have fom : w.rd F.LANE_MON_STAT_FOM < 2 ^ 8 := State.rd_lt ..
  have pending : w.evt.pending = [] := congrArg EvtSt.pending raised
  have args := congrArg (fun e : EvtSt => e.pending.map EvRec.arg1) told
  rw [State.raiseLane_rd, State.raiseLane_rd, State.rd_wr_other _ F.LANE_MON_CFG_SCAN _ _ (by decide),
    State.rd_wr_other _ F.LANE_MON_CFG_SCAN _ _ (by decide), width] at args
  have same := List.singleton_inj.mp
    (((State.raiseLane_arg (s := w.wr F.LANE_MON_CFG_SCAN 0) pending ..).symm.trans args).trans (State.raiseLane_arg (s := eyeScanner.tick 0) rfl ..))
  omega

end Sys2Proof.Proofs

namespace Sys2Proof.Machine

/-! The sideband's commands (R326 to R328, R349 to R351), at their instant. -/

section
variable {s : State} (t : Nat) (alive : s.alive = true)
include alive

theorem exec_sidebandPoll (reads : List (List Byte)) (accepts : List Byte) :
    exec (.sidebandPoll t reads accepts) s = .next ((s.tick t).sidebandPoll reads accepts) := State.live_alive t (fun s => s.sidebandPoll reads accepts) alive

theorem exec_bcTrainTimeout : exec (.bcTrainTimeout t) s = .next (s.tick t).trainTimeout := State.live_alive t State.trainTimeout alive

theorem exec_bcRequestApply : exec (.bcRequestApply t) s = .next (s.tick t).bcApply := State.live_alive t State.bcApply alive

end

/-- An operation for each element of a list keeps what it keeps for each of them. -/
theorem State.each_keeps_mem {α : Type} {p : State → Prop} {f : State → α → State} (l : List α) (s : State)
    (keeps : ∀ s, ∀ a ∈ l, p s → p (f s a)) (holds : p s) : p (s.each l f) := by
  induction l generalizing s with
  | nil => exact holds
  | cons a r ih => exact ih (f s a) (fun s b listed => keeps s b (List.mem_cons_of_mem a listed)) (keeps s a List.mem_cons_self holds)

/-- What an operation sets up for one element of a list, and keeps for the others, holds after all of them. -/
theorem State.each_sets {α : Type} {p : State → Prop} {f : State → α → State} {a : α} (l : List α) (s : State) (listed : a ∈ l)
    (sets : ∀ s, p (f s a)) (keeps : ∀ s, ∀ b ∈ l, p s → p (f s b)) : p (s.each l f) := by
  induction l generalizing s with
  | nil => exact absurd listed List.not_mem_nil
  | cons b r ih =>
    have rest : ∀ s, ∀ c ∈ r, p s → p (f s c) := fun s c h => keeps s c (List.mem_cons_of_mem b h)
    rcases List.mem_cons.mp listed with rfl | later
    · exact State.each_keeps_mem r (f s a) rest (sets s)
    · exact ih (f s b) later rest

/-! What the sideband leaves alone: scan-out, the lock cycle, the Basin, panel care and the other chip selects' reads. -/

/-- Scan-out, the lock cycle, the Basin, panel care and the reads sent. -/
def State.offSideband (s : State) : ScanSt × LockSt × BasinSt × PanelSt × List (List Byte) := (s.scan, s.lock, s.basin, s.panel, s.lanes.asked)

theorem State.wr_offSideband (s : State) (f : Fld) (v : Nat) : (s.wr f v).offSideband = s.offSideband := rfl

theorem State.inc_offSideband (s : State) (f : Fld) : (s.inc f).offSideband = s.offSideband := rfl

theorem State.modLane_offSideband (s : State) (n : Nat) (f : LaneSt → LaneSt) : (s.modLane n f).offSideband = s.offSideband := rfl

theorem State.raiseI_offSideband (s : State) (code block inst arg0 arg1 : Nat) : (s.raiseI code block inst arg0 arg1).offSideband = s.offSideband := rfl

theorem State.raise_offSideband (s : State) (code block arg0 arg1 : Nat) : (s.raise code block arg0 arg1).offSideband = s.offSideband := rfl

theorem State.raiseOnce_offSideband (s : State) (code block key arg0 arg1 : Nat) : (s.raiseOnce code block key arg0 arg1).offSideband = s.offSideband := by
  obtain ⟨e, raised⟩ := s.raiseOnce_eq code block key arg0 arg1
  rw [raised]
  rfl

theorem State.sbFail_offSideband (s : State) (cs addr : Nat) : (s.sbFail cs addr).offSideband = s.offSideband :=
  (State.raiseOnce_offSideband ..).trans (State.inc_offSideband ..)

theorem State.sbOk_offSideband (s : State) : s.sbOk.offSideband = s.offSideband := State.inc_offSideband ..

theorem State.laneDone_offSideband (s : State) (n : Nat) : (s.laneDone n).offSideband = s.offSideband := by
  unfold State.laneDone
  split <;> exact State.wr_offSideband ..

theorem State.applyReq_offSideband (s : State) (presets : Bool) (r : List Byte) : (s.applyReq presets r).offSideband = s.offSideband := by
  unfold State.applyReq
  extract_lets lane req preset taps
  split
  exact (State.modLane_offSideband ..).trans (s.wr_offSideband ..)

theorem State.request_offSideband (s : State) (train : Bool) (cs : Nat) (r : List Byte) : (s.request train cs r).1.offSideband = s.offSideband := by
  unfold State.request
  extract_lets lane seq taps a b l v st
  have measured : a.offSideband = s.offSideband := State.wr_offSideband ..
  have reported : b.offSideband = a.offSideband := by
    simp only [b]
    split
    · exact State.laneDone_offSideband ..
    · rfl
  clear_value a b
  split
  · exact State.raiseI_offSideband ..
  · split
    · exact reported.trans measured
    · split
      · exact (State.applyReq_offSideband ..).trans (reported.trans measured)
      · exact (State.modLane_offSideband ..).trans (reported.trans measured)

theorem State.requests_offSideband (train : Bool) (cs : Nat) : ∀ (l : List (List Byte)) (s : State), (s.requests train cs l).1.offSideband = s.offSideband
  | [], _ => rfl
  | b :: l, s => (State.requests_offSideband train cs l _).trans (s.request_offSideband train cs b)

theorem State.pollOne_offSideband (s : State) (cs : Nat) (b : List Byte) (answer : Byte) :
    (s.pollOne cs b answer).offSideband = (s.sbAsk cs 0x20 97).offSideband := by
  unfold State.pollOne
  extract_lets a ok
  have sent : a.offSideband = (s.sbAsk cs 0x20 97).offSideband := rfl
  have acked : ok.offSideband = a.offSideband := a.sbOk_offSideband
  clear_value a ok
  rw [← sent]
  split
  · exact State.sbFail_offSideband ..
  · next recs _ =>
    extract_lets r v _ w
    have served : v.offSideband = a.offSideband := (State.requests_offSideband ..).trans acked
    have written : w.offSideband = v.offSideband := rfl
    clear_value v w
    split
    · exact served
    · split
      · exact w.sbOk_offSideband.trans (written.trans served)
      · exact (State.sbFail_offSideband ..).trans (written.trans served)

theorem State.seedTaps_offSideband (s : State) (n : Nat) : (s.seedTaps n).offSideband = s.offSideband := by
  unfold State.seedTaps
  extract_lets v
  split
  · rfl
  · exact (State.modLane_offSideband ..).trans (s.wr_offSideband ..)

theorem State.bcApply_offSideband (s : State) : s.bcApply.offSideband = s.offSideband := by
  unfold State.bcApply
  extract_lets a _ b
  have seeded : a.offSideband = s.offSideband := State.each_proj State.offSideband _ State.seedTaps_offSideband _ s
  clear_value a
  have framed : b.offSideband = a.offSideband := by
    simp only [b]
    split <;> rfl
  clear_value b
  split
  · exact seeded
  · exact (State.each_proj State.offSideband _ (fun s r => s.applyReq_offSideband false r) _ b).trans (framed.trans seeded)

theorem State.bcApply_frame (s : State) : s.bcApply.scan = s.scan ∧ s.bcApply.panel = s.panel := by
  have kept := s.bcApply_offSideband
  simp only [State.offSideband, Prod.mk.injEq] at kept
  exact ⟨kept.1, kept.2.2.2.1⟩

theorem State.txMark_offSideband (s : State) (k : Nat) : (s.txMark k).offSideband = s.offSideband := by
  unfold State.txMark
  split <;> rfl

theorem State.laneStates_offSideband (s : State) (v : Nat) : (s.laneStates v).offSideband = s.offSideband :=
  State.each_proj State.offSideband _ (fun s _ => s.wr_offSideband _ v) _ s

/-- The panel comes UP at step 8: of what the sideband leaves alone only the step changes. -/
theorem State.panelUp_offSideband (s : State) :
    s.panelUp.offSideband = (s.scan, s.lock, s.basin, { s.panel with step := 8 }, s.lanes.asked) := by
  have marked := s.txMark_offSideband s.slotNow
  have stepped (v : State) : State.offSideband { v with panel := { v.panel with step := 8 } } =
      (v.offSideband.1, v.offSideband.2.1, v.offSideband.2.2.1, { v.offSideband.2.2.2.1 with step := 8 }, v.offSideband.2.2.2.2) := rfl
  unfold State.panelUp
  extract_lets a _ b
  rw [State.raise_offSideband, State.laneStates_offSideband, State.wr_offSideband, stepped, marked]
  rfl

theorem State.panelUp_panel (s : State) : s.panelUp.panel = { s.panel with step := 8 } := by
  have up := s.panelUp_offSideband
  simp only [State.offSideband, Prod.mk.injEq] at up
  exact up.2.2.2.1

/-! A poll round asks every chip select (R351). -/

theorem State.pollOne_asked (s : State) (cs : Nat) (b : List Byte) (answer : Byte) :
    (s.pollOne cs b answer).lanes.asked = modAt s.lanes.asked cs (fun _ => sbRead 0x20 97) :=
  congrArg (fun x => x.2.2.2.2) (s.pollOne_offSideband cs b answer)

theorem length_modAt {α : Type} (f : α → α) (l : List α) (i : Nat) : (modAt l i f).length = l.length := by
  rw [modAt_eq_modify, List.length_modify]

/-- The last read of a chip select is that of its requests. -/
def State.asksAt (s : State) (cs : Nat) : Prop := cs < s.lanes.asked.length → s.lanes.asked[cs]? = some (sbRead 0x20 97)

theorem State.pollOne_asksAt (s : State) (cs : Nat) (b : List Byte) (answer : Byte) : (s.pollOne cs b answer).asksAt cs := by
  intro held
  rw [State.pollOne_asked, length_modAt] at held
  rw [State.pollOne_asked, getElem?_modAt, List.getElem?_eq_getElem held]
  rfl

theorem State.pollOne_keeps_asksAt {s : State} {cs : Nat} (asks : s.asksAt cs) (c : Nat) (b : List Byte) (answer : Byte) : (s.pollOne c b answer).asksAt cs := by
  by_cases here : cs = c
  · exact here ▸ State.pollOne_asksAt s cs b answer
  · intro held
    rw [State.pollOne_asked, length_modAt] at held
    rw [State.pollOne_asked, getElem?_modAt_other _ _ here]
    exact asks held

/-- The round over the chip selects. -/
def State.polls (s : State) (reads : List (List Byte)) (accepts : List Byte) : State :=
  s.each (List.range 4) (fun s c => s.pollOne c (reads.getD c []) (accepts.getD c 0#8))

section
variable (s : State) (reads : List (List Byte)) (accepts : List Byte)

theorem State.polls_asked {cs : Nat} (listed : cs < 4) (held : cs < s.lanes.asked.length) : (s.polls reads accepts).lanes.asked[cs]? = some (sbRead 0x20 97) := by
  have size : (s.polls reads accepts).lanes.asked.length = s.lanes.asked.length :=
    State.each_proj (fun u => u.lanes.asked.length) _ (fun u c => by rw [State.pollOne_asked, length_modAt]) _ s
  have asks : (s.polls reads accepts).asksAt cs := State.each_sets (p := fun u => u.asksAt cs) _ s (List.mem_range.mpr listed)
    (fun u => u.pollOne_asksAt cs _ _) (fun u c _ asks => State.pollOne_keeps_asksAt asks c _ _)
  exact asks (size ▸ held)

theorem State.polls_frame : (s.polls reads accepts).scan = s.scan ∧ (s.polls reads accepts).lock = s.lock ∧ (s.polls reads accepts).basin = s.basin := by
  refine State.each_keeps (p := fun u => u.scan = s.scan ∧ u.lock = s.lock ∧ u.basin = s.basin) (fun u c h => ?_) _ s ⟨rfl, rfl, rfl⟩
  have kept := u.pollOne_offSideband c (reads.getD c []) (accepts.getD c 0#8)
  obtain ⟨scan, lock, basin⟩ := h
  exact ⟨(congrArg (fun x => x.1) kept).trans scan, (congrArg (fun x => x.2.1) kept).trans lock, (congrArg (fun x => x.2.2.1) kept).trans basin⟩

/-- What follows the round: the end of training, or the requests of a slot without rows. -/
def State.pollEnd (s : State) : State := if s.panelTrains then s.trainCheck else if s.noRows then s.bcApply else s

theorem State.pollEnd_frame : s.pollEnd.scan = s.scan ∧ s.pollEnd.lock = s.lock ∧ s.pollEnd.basin = s.basin ∧ s.pollEnd.lanes.asked = s.lanes.asked := by
  have ends {u : State} {panel : PanelSt} (same : u.offSideband = (s.scan, s.lock, s.basin, panel, s.lanes.asked)) :
      u.scan = s.scan ∧ u.lock = s.lock ∧ u.basin = s.basin ∧ u.lanes.asked = s.lanes.asked := by
    obtain ⟨scan, same⟩ := Prod.mk.inj same
    obtain ⟨lock, same⟩ := Prod.mk.inj same
    obtain ⟨basin, same⟩ := Prod.mk.inj same
    exact ⟨scan, lock, basin, (Prod.mk.inj same).2⟩
  unfold State.pollEnd
  split
  · unfold State.trainCheck
    split
    · exact ends s.panelUp_offSideband
    · exact ⟨rfl, rfl, rfl, rfl⟩
  · split
    · exact ends s.bcApply_offSideband
    · exact ⟨rfl, rfl, rfl, rfl⟩

variable {s}

theorem State.sidebandPoll_idle (train : s.pstate ≠ pTRAIN) (up : s.pstate ≠ pUP) : s.sidebandPoll reads accepts = s := if_pos ⟨train, up⟩

theorem State.sidebandPoll_polls (on : s.pstate = pTRAIN ∨ s.pstate = pUP) : s.sidebandPoll reads accepts = (s.polls reads accepts).pollEnd :=
  if_neg (fun h => on.elim h.1 h.2)

end

/-! Training ends (R327). -/

theorem laneStat_injective {m n : Nat} (same : (F.LANE_n_STAT_STATE m).addr = (F.LANE_n_STAT_STATE n).addr) : m = n := by
  have : 0xD100C + 0x20 * m = 0xD100C + 0x20 * n := same
  omega

theorem State.laneStates_rd (s : State) {v n : Nat} (small : v < 8) (listed : n < 48) : (s.laneStates v).rd (F.LANE_n_STAT_STATE n) = v := by
  have written (u : State) : (u.wr (F.LANE_n_STAT_STATE n) v).rd (F.LANE_n_STAT_STATE n) = v :=
    (u.rd_wr _ _ (show 0 ≤ 3 by decide) (show 2 < 32 by decide)).trans (Nat.mod_eq_of_lt small)
  refine State.each_sets (p := fun u => u.rd (F.LANE_n_STAT_STATE n) = v) _ s (List.mem_range.mpr listed) written (fun u m _ holds => ?_)
  by_cases here : m = n
  · exact here ▸ written u
  · exact (u.rd_wr_other _ _ _ (fun same => here (laneStat_injective same).symm)).trans holds

theorem State.laneStates_pstate (s : State) (v : Nat) : (s.laneStates v).pstate = s.pstate := by
  refine State.each_keeps_mem (p := fun u => u.pstate = s.pstate) _ s (fun u n listed same => (u.rd_wr_other _ _ _ ?_).trans same) rfl
  have below := List.mem_range.mp listed
  show 0xE0000 ≠ 0xD100C + 0x20 * n
  omega

section
variable {s : State}

theorem State.panelUp_pstate : s.panelUp.pstate = pUP := by
  unfold State.panelUp
  extract_lets a _ b
  clear_value b
  have up : (b.wr F.PNL_STATUS_STATE pUP).pstate = pUP := b.rd_wr F.PNL_STATUS_STATE pUP (by decide) (by decide)
  rw [State.pstate, State.rd_raise]
  exact (State.laneStates_pstate _ 2).trans up

theorem State.panelUp_lane {n : Nat} (listed : n < 48) : s.panelUp.rd (F.LANE_n_STAT_STATE n) = 2 := by
  unfold State.panelUp
  extract_lets a _ b
  clear_value b
  rw [State.rd_raise]
  exact State.laneStates_rd _ (by decide) listed

theorem State.trainTimeout_idle (other : s.pstate ≠ pTRAIN) : s.trainTimeout = s := if_pos (by simpa [State.panelTrains] using other)

theorem State.trainTimeout_trains (trains : s.pstate = pTRAIN) :
    s.trainTimeout = (s.raise 0xD03 bLANE (s.lanesLeft % 2 ^ 32) (s.lanesLeft / 2 ^ 32)).panelUp := if_neg (by simp [State.panelTrains, trains])

end

/-! Requests are applied (R325, R326, R328). -/

/-- Scan-out, the frame in which requests were last applied, and the request that waits on each lane. -/
def State.asks (s : State) : ScanSt × Option Nat × (Nat → Option (List Byte)) := (s.scan, s.lanes.bcFrame, fun n => (s.lanes.lane n).wait)

theorem State.seedTaps_other {s : State} {m n : Nat} (other : n ≠ m) : (s.seedTaps m).lanes.lane n = s.lanes.lane n := by
  unfold State.seedTaps
  extract_lets v
  split
  · rfl
  · rw [State.modLane_lane_other _ _ other, State.wr_lanes]

theorem State.modLane_bcFrame (s : State) (n : Nat) (f : LaneSt → LaneSt) : (s.modLane n f).lanes.bcFrame = s.lanes.bcFrame := rfl

theorem State.seedTaps_bcFrame (s : State) (m : Nat) : (s.seedTaps m).lanes.bcFrame = s.lanes.bcFrame := by
  unfold State.seedTaps
  extract_lets v
  split
  · rfl
  · rw [State.modLane_bcFrame, State.wr_lanes]

theorem State.seedTaps_asks (s : State) (m : Nat) : (s.seedTaps m).asks = s.asks := by
  have waits (n : Nat) : ((s.seedTaps m).lanes.lane n).wait = (s.lanes.lane n).wait := by
    by_cases here : n = m
    · subst here
      unfold State.seedTaps
      extract_lets v
      split
      · rfl
      · rw [State.modLane_lane, State.wr_lanes]
    · rw [State.seedTaps_other here]
  have scan : (s.seedTaps m).scan = s.scan := congrArg Prod.fst (s.seedTaps_offSideband m)
  exact Prod.ext scan (Prod.ext (s.seedTaps_bcFrame m) (funext waits))

/-- A request applied is answered: it waits no longer, and its sequence number is noted. -/
theorem State.applyReq_lane (s : State) (presets : Bool) (r : List Byte) :
    ((s.applyReq presets r).lanes.lane (beAt r 0 1)).wait = none ∧ ((s.applyReq presets r).lanes.lane (beAt r 0 1)).lastSeq = some (beAt r 1 1) := by
  unfold State.applyReq
  extract_lets lane req preset taps
  split
  rw [State.modLane_lane]
  exact ⟨rfl, rfl⟩

theorem State.applyReq_other {s : State} (presets : Bool) {r : List Byte} {n : Nat} (other : n ≠ beAt r 0 1) :
    (s.applyReq presets r).lanes.lane n = s.lanes.lane n := by
  unfold State.applyReq
  extract_lets lane req preset taps
  split
  rw [State.modLane_lane_other _ _ other, State.wr_lanes]

/-- Lane `n` has answered request `r`. -/
def State.answered (s : State) (n : Nat) (r : List Byte) : Prop := (s.lanes.lane n).wait = none ∧ (s.lanes.lane n).lastSeq = some (beAt r 1 1)

theorem State.applyReqs_answered (s : State) {l : List (List Byte)} {n : Nat} {r : List Byte} (listed : r ∈ l) (own : beAt r 0 1 = n)
    (only : ∀ r' ∈ l, beAt r' 0 1 = n → r' = r) : (s.each l (fun s r => s.applyReq false r)).answered n r := by
  have answers (u : State) : (u.applyReq false r).answered n r := own ▸ u.applyReq_lane false r
  refine State.each_sets (p := fun u => u.answered n r) l s listed answers (fun u r' there holds => ?_)
  by_cases here : beAt r' 0 1 = n
  · exact only r' there here ▸ answers u
  · unfold State.answered
    rw [State.applyReq_other false (Ne.symm here)]
    exact holds

/-- The committed taps are taken. -/
def State.seeds (s : State) : State := s.each (List.range 48) State.seedTaps

/-- The requests that wait on the panel lanes. -/
def State.waits (s : State) : List (List Byte) := (List.range 48).filterMap (fun n => (s.lanes.lane n).wait)

/-- The frame in which requests are applied is noted. -/
def State.bcNoted (s : State) : State := if s.scan.kind.rows then { s with lanes := { s.lanes with bcFrame := some s.scan.start } } else s

theorem State.seeds_asks (s : State) : s.seeds.asks = s.asks := State.each_proj State.asks _ State.seedTaps_asks _ s

theorem State.seeds_frame (s : State) : s.seeds.scan = s.scan ∧ s.seeds.lanes.bcFrame = s.lanes.bcFrame ∧
    (fun n => (s.seeds.lanes.lane n).wait) = fun n => (s.lanes.lane n).wait := by
  simpa only [State.asks, Prod.mk.injEq] using s.seeds_asks

theorem State.seeds_wait (s : State) (n : Nat) : (s.seeds.lanes.lane n).wait = (s.lanes.lane n).wait := congrFun s.seeds_frame.2.2 n

theorem State.seeds_beyond (s : State) {n : Nat} (beyond : 48 ≤ n) : s.seeds.lanes.lane n = s.lanes.lane n :=
  State.each_keeps_mem (p := fun u => u.lanes.lane n = s.lanes.lane n) _ s
    (fun u m listed same => (State.seedTaps_other (by have := List.mem_range.mp listed; omega)).trans same) rfl

theorem State.bcNoted_lane (s : State) (n : Nat) : s.bcNoted.lanes.lane n = s.lanes.lane n := by
  unfold State.bcNoted
  split <;> rfl

section
variable {s : State}

theorem State.bcApply_eq : s.bcApply = if s.seeds.scan.kind.rows = true ∧ s.seeds.lanes.bcFrame = some s.seeds.scan.start then s.seeds
    else s.seeds.bcNoted.each s.seeds.bcNoted.waits (fun s r => s.applyReq false r) := by
  unfold State.bcApply State.bcNoted State.waits State.seeds
  rfl

theorem State.bcApply_done (rows : s.scan.kind.rows = true) (done : s.lanes.bcFrame = some s.scan.start) : s.bcApply = s.seeds := by
  obtain ⟨scan, frame, -⟩ := s.seeds_frame
  rw [State.bcApply_eq, if_pos (by rw [scan, frame]; exact ⟨rows, done⟩)]

theorem State.bcApply_applies (due : s.scan.kind.rows = false ∨ s.lanes.bcFrame ≠ some s.scan.start) :
    s.bcApply = s.seeds.bcNoted.each s.waits (fun s r => s.applyReq false r) := by
  obtain ⟨scan, frame, -⟩ := s.seeds_frame
  have wait (n : Nat) : (s.seeds.bcNoted.lanes.lane n).wait = (s.lanes.lane n).wait :=
    (congrArg LaneSt.wait (s.seeds.bcNoted_lane n)).trans (s.seeds_wait n)
  have other : ¬ (s.seeds.scan.kind.rows = true ∧ s.seeds.lanes.bcFrame = some s.seeds.scan.start) := by
    rw [scan, frame]
    rintro ⟨rows, done⟩
    rcases due with idle | fresh
    · exact Bool.false_ne_true (idle.symm.trans rows)
    · exact fresh done
  have same : s.seeds.bcNoted.waits = s.waits := by
    unfold State.waits
    simp only [wait]
  rw [State.bcApply_eq, if_neg other, same]

/-- Every request waits on the panel lane that it names. -/
def State.ownWaits (s : State) : Prop := ∀ m r, (s.lanes.lane m).wait = some r → m < 48 ∧ beAt r 0 1 = m

variable (own : s.ownWaits)
include own

theorem State.waits_own {r : List Byte} (waits : r ∈ s.waits) : ∃ m, m < 48 ∧ beAt r 0 1 = m ∧ (s.lanes.lane m).wait = some r := by
  obtain ⟨m, -, wait⟩ := List.mem_filterMap.mp waits
  obtain ⟨below, names⟩ := own m r wait
  exact ⟨m, below, names, wait⟩

theorem State.bcApply_beyond {n : Nat} (beyond : 48 ≤ n) : s.bcApply.lanes.lane n = s.lanes.lane n := by
  by_cases due : s.scan.kind.rows = true ∧ s.lanes.bcFrame = some s.scan.start
  · rw [State.bcApply_done due.1 due.2, State.seeds_beyond s beyond]
  · rw [State.bcApply_applies (by simpa [or_iff_not_imp_left] using due)]
    refine State.each_keeps_mem (p := fun u => u.lanes.lane n = s.lanes.lane n) _ _ (fun u r waits same => ?_)
      ((State.bcNoted_lane ..).trans (s.seeds_beyond beyond))
    obtain ⟨m, below, names, -⟩ := State.waits_own own waits
    exact (State.applyReq_other false (by omega)).trans same

theorem State.bcApply_answers (due : s.scan.kind.rows = false ∨ s.lanes.bcFrame ≠ some s.scan.start) {n : Nat} {r : List Byte}
    (wait : (s.lanes.lane n).wait = some r) : s.bcApply.answered n r := by
  obtain ⟨below, names⟩ := own n r wait
  rw [State.bcApply_applies due]
  refine State.applyReqs_answered _ (List.mem_filterMap.mpr ⟨n, List.mem_range.mpr below, wait⟩) names (fun r' waits same => ?_)
  obtain ⟨m, -, names', wait'⟩ := State.waits_own own waits
  obtain rfl : m = n := names'.symm.trans same
  exact Option.some.inj (wait'.symm.trans wait)

end

end Sys2Proof.Machine

namespace Sys2Proof.Proofs

open Machine

/-- Settles O33: a poll asks each chip select in turn, and a request reaches no lane but the one that it names. -/
theorem backchannelRounds : Obligations.BackchannelRounds := by
  intro s t reads accepts alive
  rw [exec_sidebandPoll t alive, exec_bcTrainTimeout t alive, exec_bcRequestApply t alive]
  refine ⟨fun train up => ?_, fun up => ⟨_, rfl, ?_⟩, fun on => ⟨_, rfl, fun cs listed held => ?_⟩, fun other => ?_, fun trains => ⟨_, rfl, ?_⟩, _, rfl, ?_⟩
  · rw [State.sidebandPoll_idle (s := s.tick t) reads accepts train up]
  · rw [State.sidebandPoll_polls (s := s.tick t) reads accepts (.inr up)]
    obtain ⟨scan, lock, basin⟩ := (s.tick t).polls_frame reads accepts
    obtain ⟨scan', lock', basin', -⟩ := ((s.tick t).polls reads accepts).pollEnd_frame
    exact ⟨scan'.trans scan, lock'.trans lock, basin'.trans basin⟩
  · rw [State.sidebandPoll_polls (s := s.tick t) reads accepts on]
    obtain ⟨-, -, -, asked⟩ := ((s.tick t).polls reads accepts).pollEnd_frame
    rw [asked]
    exact (s.tick t).polls_asked reads accepts listed held
  · rw [State.trainTimeout_idle (s := s.tick t) other]
  · rw [State.trainTimeout_trains (s := s.tick t) trains]
    exact ⟨State.panelUp_pstate, State.panelUp_panel _, fun n listed => State.panelUp_lane listed⟩
  · obtain ⟨scan, panel⟩ := (s.tick t).bcApply_frame
    refine ⟨scan, panel, fun own => ⟨fun n beyond => State.bcApply_beyond (s := s.tick t) own beyond,
      fun n r wait => ⟨fun due => State.bcApply_answers (s := s.tick t) own due wait, fun rows done => ?_⟩⟩⟩
    rw [State.bcApply_done (s := s.tick t) rows done]
    exact ((s.tick t).seeds_wait n).trans wait

end Sys2Proof.Proofs

namespace Sys2Proof.Machine

open Safety Claims

/-! Panel care's commands (R337 to R348), at their instant; those that may let a record go on (R95) run amid the records of an image load. -/

theorem exec_panelSeqStep (s : State) (t : Nat) : exec (.panelSeqStep t) s = .next (s.tick t).recordsRun.panelStep.recordsRun := rfl

theorem exec_dischargeEnd (s : State) (t : Nat) : exec (.dischargeEnd t) s = .next (s.tick t).recordsRun.dischargeEnd.recordsRun := rfl

theorem exec_vinTrip (s : State) (t : Nat) : exec (.vinTrip t) s = .next (s.tick t).recordsRun.vinTrip.recordsRun := rfl

theorem exec_crackLatch {s : State} (t : Nat) (island : s.island = true) :
    exec (.crackLatch t) s = .next (s.tick t).recordsRun.crackLatch.recordsRun := State.isle_amidRecords t State.crackLatch island

section
variable {s : State} (t : Nat) (alive : s.alive = true)
include alive

theorem exec_pgoodAssert (ident status : List Byte) : exec (.pgoodAssert t ident status) s = .next ((s.tick t).pgoodAssert ident status) :=
  State.live_alive t (fun s => s.pgoodAssert ident status) alive

theorem exec_pgoodTimeout : exec (.pgoodTimeout t) s = .next (s.tick t).pgoodTimeout := State.live_alive t State.pgoodTimeout alive

theorem exec_pgoodLost : exec (.pgoodLost t) s = .next (s.tick t).pgoodLost := State.live_alive t State.pgoodLost alive

theorem exec_panelRetryWait : exec (.panelRetryWait t) s = .next (s.tick t).recordsRun.panelRetry.recordsRun :=
  State.live_amidRecords t State.panelRetry alive

theorem exec_vrefPoint (k : Nat) : exec (.vrefPoint t k) s = .next ((s.tick t).vrefPoint k) := State.live_alive t (fun s => s.vrefPoint k) alive

theorem exec_crackClear (v : Word) : exec (.crackClear t v) s = .next ((s.tick t).crackClear v.toNat) :=
  State.live_alive t (fun s => s.crackClear v.toNat) alive

end

/-! Panel care through the parts of a sequence. -/

theorem State.panel_of_offSideband {s u : State} (same : u.offSideband = s.offSideband) : u.panel = s.panel := by
  simp only [State.offSideband, Prod.mk.injEq] at same
  exact same.2.2.2.1

theorem State.txMark_clk (s : State) (k : Nat) : (s.txMark k).clk = s.clk := by
  unfold State.txMark
  split <;> rfl

theorem State.laneStates_clk (s : State) (v : Nat) : (s.laneStates v).clk = s.clk := State.each_proj State.clk _ (fun _ _ => State.wr_clk ..) _ s

theorem State.laneStates_panel (s : State) (v : Nat) : (s.laneStates v).panel = s.panel := State.panel_of_offSideband (s.laneStates_offSideband v)

theorem State.txMark_panel (s : State) (k : Nat) : (s.txMark k).panel = s.panel := State.panel_of_offSideband (s.txMark_offSideband k)

/-- A panel that leaves TRAIN or UP counts its failed reads anew. -/
theorem State.panelOff_panel (s : State) : s.panelOff.panel = { s.panel with tempFails := 0, frozen := false } ∧ s.panelOff.clk = s.clk := by
  unfold State.panelOff
  extract_lets a b
  have marked : a.panel = s.panel ∧ a.clk = s.clk := by
    simp only [a]
    split
    · exact ⟨s.txMark_panel _, s.txMark_clk _⟩
    · exact ⟨rfl, rfl⟩
  have off : b.panel = a.panel ∧ b.clk = a.clk := by
    simp only [b]
    split
    · exact ⟨a.laneStates_panel 0, a.laneStates_clk 0⟩
    · exact ⟨rfl, rfl⟩
  clear_value a b
  exact ⟨congrArg (fun p : PanelSt => { p with tempFails := 0, frozen := false }) (off.1.trans marked.1), off.2.trans marked.2⟩

/-- The power-down sequence begins (R338, R339). -/
theorem State.panelDown_on {s : State} (on : s.panelOn = true) (cause : Nat) : (s.panelDown cause).pstate = pDOWN ∧
    (s.panelDown cause).panel = { s.panel with tempFails := 0, frozen := false, enables := dropEnable s.panel.enables, code := 0, since := s.clk.now,
                                               cause := cause, faulty := decide (3 ≤ cause) } := by
  obtain ⟨panel, clk⟩ := s.panelOff_panel
  unfold State.panelDown
  rw [if_neg (not_not_intro on)]
  generalize s.panelOff = v at panel clk ⊢
  refine ⟨State.rd_wr _ F.PNL_STATUS_STATE pDOWN (by decide) (by decide), ?_⟩
  rw [State.wr_panel]
  exact congrArg₂ (fun (p : PanelSt) (c : Clk) => { p with enables := dropEnable p.enables, code := 0, since := c.now, cause := cause, faulty := decide (3 ≤ cause) })
    panel clk

/-- The fast path (R346). -/
theorem State.panelFast_none {s : State} (none : s.panel.fast = none) (trigger : Nat) : (s.panelFast trigger).pstate = pDISCHARGE ∧
    (s.panelFast trigger).panel = { s.panel with tempFails := 0, frozen := false, enables := 0, discharge := true, code := 0, since := s.clk.now,
                                                 fast := some trigger, faulty := false } := by
  obtain ⟨panel, clk⟩ := s.panelOff_panel
  unfold State.panelFast
  rw [if_neg (by simp [none])]
  generalize s.panelOff = v at panel clk ⊢
  extract_lets
  refine ⟨?_, ?_⟩
  · exact (State.rd_wr_beside _ F.PNL_STATUS_PGOOD F.PNL_STATUS_STATE 0 (by decide) (by decide) rfl (by decide)).trans
      (State.rd_wr _ F.PNL_STATUS_STATE pDISCHARGE (by decide) (by decide))
  · rw [State.wr_panel, State.wr_panel]
    exact congrArg₂ (fun (p : PanelSt) (c : Clk) => { p with enables := 0, discharge := true, code := 0, since := c.now, fast := some trigger, faulty := false })
      panel clk

theorem State.trainTaps_offSideband (s : State) : s.trainTaps.offSideband = s.offSideband :=
  State.each_proj State.offSideband _ (fun s _ => (State.modLane_offSideband ..).trans (s.wr_offSideband ..)) _ s

theorem State.trainTaps_pstate (s : State) : s.trainTaps.pstate = s.pstate := by
  refine State.each_keeps_mem (p := fun u => u.pstate = s.pstate) _ s (fun u n listed same => ?_) rfl
  have below := List.mem_range.mp listed
  have apart : F.PNL_STATUS_STATE.addr ≠ (F.LANE_n_TXACT_TAPS n).addr := by
    show 0xE0000 ≠ R.LANE_n_TXACT n
    unfold R.LANE_n_TXACT
    omega
  exact (State.modLane_rd ..).trans ((u.rd_wr_other _ _ _ apart).trans same)

/-- The panel enters TRAIN at step 7 (R337). -/
theorem State.panelTrain_trains (s : State) : s.panelTrain.pstate = pTRAIN ∧ s.panelTrain.panel = { s.panel with step := 7, trainAt := s.clk.now } ∧
    ∀ n, n < 48 → s.panelTrain.rd (F.LANE_n_STAT_STATE n) = 1 := by
  have marked : (s.txMark s.slotNow).panel = s.panel := s.txMark_panel _
  have clk : (s.txMark s.slotNow).clk = s.clk := s.txMark_clk _
  unfold State.panelTrain
  generalize s.txMark s.slotNow = v at marked clk ⊢
  extract_lets _ _ _ w
  have panel : w.panel = { s.panel with step := 7, trainAt := s.clk.now } :=
    congrArg₂ (fun (p : PanelSt) (c : Clk) => { p with step := 7, trainAt := c.now }) marked clk
  clear_value w
  refine ⟨?_, ?_, fun n listed => State.laneStates_rd _ (by decide) listed⟩
  · rw [State.laneStates_pstate, State.trainTaps_pstate, State.pstate, State.rd_wr_other _ F.LANE_BC_DONE1_DONE _ _ (by decide),
      State.rd_wr_other _ F.LANE_BC_DONE0_DONE _ _ (by decide)]
    exact w.rd_wr F.PNL_STATUS_STATE pTRAIN (by decide) (by decide)
  · rw [State.laneStates_panel, State.panel_of_offSideband (State.trainTaps_offSideband _), State.wr_panel, State.wr_panel, State.wr_panel]
    exact panel

/-! The sequence delays (R337, R338). -/

section
variable {s : State}

theorem State.panelStep_enables (up : s.pstate = pUPSEQ) (first : s.panel.step < 4) :
    s.panelStep = { s with panel := { s.panel with enables := orBit s.panel.enables s.panel.step, step := s.panel.step + 1 } } := by
  unfold State.panelStep
  rw [if_pos up, if_pos first]

theorem State.panelStep_trains (up : s.pstate = pUPSEQ) (six : s.panel.step = 6) : s.panelStep = s.panelTrain := by
  unfold State.panelStep
  rw [if_pos up, if_neg (by omega), if_pos six]

theorem State.panelStep_drops (down : s.pstate = pDOWN) (left : s.panel.enables ≠ 0) :
    s.panelStep = { s with panel := { s.panel with enables := dropEnable s.panel.enables } } := by
  unfold State.panelStep
  rw [if_neg (by rw [down]; decide), if_pos down, if_pos left]

theorem State.panelStep_discharges (down : s.pstate = pDOWN) (none : s.panel.enables = 0) :
    s.panelStep = State.wr { s with panel := { s.panel with discharge := true } } F.PNL_STATUS_PGOOD 0 := by
  unfold State.panelStep
  rw [if_neg (by rw [down]; decide), if_pos down, if_neg (not_not_intro none)]

theorem State.panelStep_idle (up : s.pstate ≠ pUPSEQ) (down : s.pstate ≠ pDOWN) : s.panelStep = s := by
  unfold State.panelStep
  rw [if_neg up, if_neg down]

/-! The discharge ends (R338, R340). -/

/-- The discharge is off; after a PGOOD fault the panel waits 10 s. -/
def State.discharged (s : State) : State :=
  { s with panel := { s.panel with discharge := false, retryAt := if s.panel.cause == 3 then some (s.clk.now + 10000000000) else s.panel.retryAt } }

theorem State.dischargeEnd_none (off : s.panel.discharge = false) : s.dischargeEnd = s := if_pos (by simp [off])

theorem State.dischargeEnd_slow (on : s.panel.discharge = true) (slow : s.panel.fast = none) : s.dischargeEnd =
    ((s.discharged.wr F.PNL_STATUS_STATE (if s.panel.faulty then pFAULT else pOFF)).raise 0xE01 bPNL s.panel.cause s.panel.step).panelTry := by
  unfold State.dischargeEnd State.discharged
  rw [if_neg (not_not_intro on)]
  simp only [slow]
  rfl

theorem State.panelTry_unwanted (unwanted : s.panel.wanted = false) : s.panelTry = s := if_neg (by simp [unwanted])

theorem State.dischargeEnd_ends (on : s.panel.discharge = true) (slow : s.panel.fast = none) (unwanted : s.panel.wanted = false) :
    s.dischargeEnd.panel = s.discharged.panel ∧ s.dischargeEnd.pstate = if s.panel.faulty then pFAULT else pOFF := by
  rw [State.dischargeEnd_slow on slow]
  generalize state : (if s.panel.faulty then pFAULT else pOFF) = p
  have small : p < 8 := by
    rw [← state]
    split <;> decide
  have panel : ((s.discharged.wr F.PNL_STATUS_STATE p).raise 0xE01 bPNL s.panel.cause s.panel.step).panel = s.discharged.panel :=
    (State.raise_panel ..).trans (State.wr_panel ..)
  rw [State.panelTry_unwanted (congrArg PanelSt.wanted panel |>.trans unwanted)]
  exact ⟨panel, (State.rd_wr s.discharged F.PNL_STATUS_STATE p (by decide) (by decide)).trans (Nat.mod_eq_of_lt small)⟩

/-! PGOOD (R337, R339). -/

theorem State.wrPgood_pstate (v : Nat) : (s.wr F.PNL_STATUS_PGOOD v).pstate = s.pstate :=
  s.rd_wr_beside F.PNL_STATUS_PGOOD F.PNL_STATUS_STATE v (by decide) (by decide) rfl (by decide)

theorem State.pgoodAssert_other (other : ¬ (s.pstate = pUPSEQ ∧ s.panel.step = 4)) (ident status : List Byte) :
    s.pgoodAssert ident status = s.wr F.PNL_STATUS_PGOOD 1 :=
  if_neg (by rw [State.wrPgood_pstate, State.wr_panel]; exact other)

theorem State.pgoodTimeout_other (other : ¬ (s.pstate = pUPSEQ ∧ s.panel.step = 4)) : s.pgoodTimeout = s := if_neg other

theorem State.pgoodTimeout_waits (up : s.pstate = pUPSEQ) (four : s.panel.step = 4) : s.pgoodTimeout = (s.raise 0xE02 bPNL 1 s.pound).panelDown 3 :=
  if_pos ⟨up, four⟩

theorem State.pgoodLost_other (train : s.pstate ≠ pTRAIN) (up : s.pstate ≠ pUP) : s.pgoodLost = s.wr F.PNL_STATUS_PGOOD 0 :=
  if_neg (by rw [State.wrPgood_pstate]; exact not_or.mpr ⟨train, up⟩)

theorem State.pgoodLost_on (on : s.pstate = pTRAIN ∨ s.pstate = pUP) :
    s.pgoodLost = ((s.wr F.PNL_STATUS_PGOOD 0).raise 0xE02 bPNL 2 s.pound).panelDown 3 :=
  if_pos (by rw [State.wrPgood_pstate]; exact on)

theorem State.panelOn_of_pstate (on : s.pstate = pUPSEQ ∨ s.pstate = pTRAIN ∨ s.pstate = pUP) : s.panelOn = true := by
  unfold State.panelOn
  rcases on with on | on | on <;> rw [on] <;> rfl

theorem State.raise_pstate (code block arg0 arg1 : Nat) : (s.raise code block arg0 arg1).pstate = s.pstate := State.rd_raise ..

end

/-- What a sideband read is seen by: the reads sent, the identification, and the time. -/
def State.heard (s : State) : List (List Byte) × List Byte × Clk := (s.lanes.asked, s.panel.ident, s.clk)

theorem State.wr_heard (s : State) (f : Fld) (v : Nat) : (s.wr f v).heard = s.heard := rfl

theorem State.inc_heard (s : State) (f : Fld) : (s.inc f).heard = s.heard := rfl

theorem State.raise_heard (s : State) (code block arg0 arg1 : Nat) : (s.raise code block arg0 arg1).heard = s.heard := rfl

theorem State.sbFail_heard (s : State) (cs addr : Nat) : (s.sbFail cs addr).heard = s.heard := by
  unfold State.sbFail
  generalize counted : s.inc F.PNL_SB_CNT_FAIL = v
  obtain ⟨e, raised⟩ := v.raiseOnce_eq 0xE09 bPNL 0 cs addr
  have same : (v.raiseOnce 0xE09 bPNL 0 cs addr).heard = v.heard := by
    rw [raised]
    rfl
  exact same.trans (counted ▸ s.inc_heard _)

/-- A STATUS read reaches the temperature and the band alone. -/
theorem State.panelStatus_heard (s : State) (round : Bool) (status : List Byte) : (s.panelStatus round status).heard = (s.sbAsk 0 0x10 4).heard := by
  unfold State.panelStatus
  extract_lets a b n _ c
  have sent : a.heard = (s.sbAsk 0 0x10 4).heard := rfl
  have failed : b.heard = a.heard := a.sbFail_heard 0 0x10
  clear_value a b
  have counted : c.heard = b.heard := rfl
  clear_value c
  rw [← sent]
  split
  · next d _ =>
    extract_lets temp flags u _ v w
    have acked : u.heard = a.heard := (State.wr_heard ..).trans (a.inc_heard _)
    clear_value u
    have thawed : v.heard = u.heard := rfl
    have read : w.heard = a.heard := (v.wr_heard ..).trans (thawed.trans acked)
    clear_value w
    split
    · exact (w.raise_heard ..).trans read
    · exact read
  · split
    · exact failed
    · split
      · exact (c.raise_heard ..).trans (counted.trans failed)
      · exact counted.trans failed

/-- A STATUS read outside a housekeeping round that fails is counted and nothing else of the panel. -/
theorem State.panelStatus_silent (s : State) {status : List Byte} (silent : sbData 4 status = none) :
    s.panelStatus false status = (s.sbAsk 0 0x10 4).sbFail 0 0x10 := by
  unfold State.panelStatus
  rw [silent]
  exact if_pos (by decide)

theorem State.sbFail_panel (s : State) (cs addr : Nat) : (s.sbFail cs addr).panel = s.panel :=
  State.panel_of_offSideband (s.sbFail_offSideband cs addr)

/-- The read of the panel's identification (R337). -/
def State.identRead (s : State) (ident : List Byte) : State :=
  match sbData 8 ident with
  | some b => State.sbOk { s with panel := { s.panel with ident := b } }
  | none => s.sbFail 0 0x00

section
variable {s : State} (ident status : List Byte)

theorem State.identRead_some {d : List Byte} (found : sbData 8 ident = some d) : (s.identRead ident).heard = (s.lanes.asked, d, s.clk) := by
  unfold State.identRead
  rw [found]
  exact State.inc_heard ..

theorem State.identRead_none (silent : sbData 8 ident = none) : (s.identRead ident).heard = s.heard := by
  unfold State.identRead
  rw [silent]
  exact s.sbFail_heard 0 0

theorem State.identRead_heard : (s.identRead ident).heard = (s.lanes.asked, (sbData 8 ident).getD s.panel.ident, s.clk) := by
  cases found : sbData 8 ident with
  | some d => exact State.identRead_some ident found
  | none => exact State.identRead_none ident found

theorem State.identRead_tempFails : (s.identRead ident).panel.tempFails = s.panel.tempFails := by
  unfold State.identRead
  split
  · next d _ => exact (congrArg PanelSt.tempFails (State.inc_panel { s with panel := { s.panel with ident := d } } F.PNL_SB_CNT_OK) :)
  · exact congrArg PanelSt.tempFails (s.sbFail_panel 0 0)

/-- Step 6 (R337): the panel has its identification and status read. -/
def State.atSix (s : State) : State := { s with panel := { s.panel with step := 6, startAt := s.dev, period := s.cset.period, waves := false } }

theorem State.pgoodAssert_waits (up : s.pstate = pUPSEQ) (four : s.panel.step = 4) :
    s.pgoodAssert ident status = ((((s.wr F.PNL_STATUS_PGOOD 1).sbAsk 0 0x00 8).identRead ident).panelStatus false status).atSix :=
  if_pos (by rw [State.wrPgood_pstate, State.wr_panel]; exact ⟨up, four⟩)

/-- What a read of the identification and the status is seen by. -/
theorem State.pgoodAssert_heard (up : s.pstate = pUPSEQ) (four : s.panel.step = 4) : (s.pgoodAssert ident status).heard =
    (modAt s.lanes.asked 0 (fun _ => sbRead 0x10 4), (sbData 8 ident).getD s.panel.ident, s.clk) := by
  have asked (u : State) : (u.sbAsk 0 0x10 4).heard = (modAt u.heard.1 0 (fun _ => sbRead 0x10 4), u.heard.2) := rfl
  have begun (u : State) : u.atSix.heard = u.heard := rfl
  have first (u : State) : (u.sbAsk 0 0x00 8).heard = (modAt u.heard.1 0 (fun _ => sbRead 0x00 8), u.heard.2) := rfl
  rw [State.pgoodAssert_waits ident status up four, begun, State.panelStatus_heard, asked, State.identRead_heard]
  have sent := first (s.wr F.PNL_STATUS_PGOOD 1)
  rw [s.wr_heard] at sent
  generalize (s.wr F.PNL_STATUS_PGOOD 1).sbAsk 0 0x00 8 = v at sent ⊢
  simp only [State.heard, Prod.mk.injEq] at sent
  obtain ⟨reads, known, clk⟩ := sent
  rw [reads, known, clk, modAt_modAt]
  rfl

theorem State.pgoodAssert_tempFails (up : s.pstate = pUPSEQ) (four : s.panel.step = 4) (silent : sbData 4 status = none) :
    (s.pgoodAssert ident status).panel.tempFails = s.panel.tempFails := by
  have kept (u : State) : u.atSix.panel.tempFails = u.panel.tempFails := rfl
  have first (u : State) (addr len : Nat) : (u.sbAsk 0 addr len).panel = u.panel := rfl
  rw [State.pgoodAssert_waits ident status up four, kept, State.panelStatus_silent _ silent, State.sbFail_panel, first, State.identRead_tempFails, first,
    State.wr_panel]

theorem State.pgoodAssert_panel (up : s.pstate = pUPSEQ) (four : s.panel.step = 4) : (s.pgoodAssert ident status).panel.step = 6 ∧
    (s.pgoodAssert ident status).panel.waves = false ∧ (s.pgoodAssert ident status).panel.startAt = s.dev := by
  have heard := State.pgoodAssert_heard ident status up four
  simp only [State.heard, Prod.mk.injEq] at heard
  have clk := heard.2.2
  rw [State.pgoodAssert_waits ident status up four] at clk ⊢
  generalize ((((s.wr F.PNL_STATUS_PGOOD 1).sbAsk 0 0x00 8).identRead ident).panelStatus false status) = v at clk ⊢
  exact ⟨rfl, rfl, congrArg (fun c : Clk => c.devFine / 1000000000) clk⟩

end

/-! The wait before a later power-up (R340). -/

section
variable {s : State}

theorem State.panelRetry_waits {at_ : Nat} (wait : s.panel.retryAt = some at_) (early : s.clk.now < at_) : s.panelRetry = s := by
  refine if_neg ?_
  unfold State.panelWaited
  rw [wait]
  simpa using early

theorem State.panelRetry_tries (waited : ∀ at_, s.panel.retryAt = some at_ → at_ ≤ s.clk.now) : s.panelRetry = s.panelTry := by
  refine if_pos ?_
  unfold State.panelWaited
  cases wait : s.panel.retryAt with
  | none => rfl
  | some at_ => exact decide_eq_true (waited at_ wait)

end

/-! The reference points and the frame starts before the first open (R343). -/

section
variable {s : State} {k : Nat}

theorem State.vrefPoint_none (none : s.vrefRuns = false ∨ 64 ≤ k ∨ s.dev + 65536 ≤ s.panel.pointAt k ∨ (k = 0 ∧ s.lock.everOpened = true) ∨
    (0 < k ∧ (s.panel.waves = false ∨ k ≤ s.rd F.PNL_VREF_STAT_POINT))) : s.vrefPoint k = s := by
  unfold State.vrefPoint
  by_cases early : ¬ s.vrefRuns = true ∨ 64 ≤ k ∨ s.dev + 65536 ≤ s.panel.pointAt k
  · exact if_pos early
  · rw [if_neg early]
    rcases none with off | past | later | ⟨rfl, opened⟩ | ⟨pos, still⟩
    · exact absurd (.inl (by simp [off])) early
    · exact absurd (.inr (.inl past)) early
    · exact absurd (.inr (.inr later)) early
    · rw [if_pos rfl, if_pos opened]
    · rw [if_neg (by omega)]
      refine if_neg (fun both => ?_)
      rcases still with flat | reached
      · exact Bool.false_ne_true (flat.symm.trans both.1)
      · exact absurd both.2 (by omega)

variable (runs : s.vrefRuns = true) (due : s.panel.pointAt k < s.dev + 65536)
include runs due

theorem State.vrefPoint_due (listed : k < 64) : ¬ (¬ s.vrefRuns = true ∨ 64 ≤ k ∨ s.dev + 65536 ≤ s.panel.pointAt k) := by
  rintro (off | past | later)
  · exact off runs
  · omega
  · omega

theorem State.vrefPoint_out (listed : k < 64) (waves : s.panel.waves = true) (after : s.rd F.PNL_VREF_STAT_POINT < k) : s.vrefPoint k = s.vrefOut k := by
  unfold State.vrefPoint
  rw [if_neg (State.vrefPoint_due runs due listed), if_neg (by omega), if_pos ⟨waves, after⟩]

theorem State.vrefPoint_frame (zero : k = 0) (before : s.lock.everOpened = false) :
    s.vrefPoint k = s.frameStart (s.panel.pointAt 0) s.cset.period (s.ownsBy s.cset) := by
  unfold State.vrefPoint
  rw [if_neg (State.vrefPoint_due runs due (by omega)), if_pos zero, if_neg (by simp [before])]

end

theorem State.vrefOut_panel (s : State) (k : Nat) : (s.vrefOut k).panel = { s.panel with code := s.panel.codeAt (s.rd F.PNL_STATUS_BAND) k } :=
  State.wr_panel ..

theorem State.vrefOut_point (s : State) {k : Nat} (listed : k < 64) : (s.vrefOut k).rd F.PNL_VREF_STAT_POINT = k :=
  (State.rd_wr _ F.PNL_VREF_STAT_POINT k (by decide) (by decide)).trans (Nat.mod_eq_of_lt listed)

/-! The crack guard (R348). -/

section
variable {s : State}

theorem State.crackLatch_none (none : s.crackRuns = false ∨ s.panel.misses < s.cm F.PNL_CRACK_COUNT) : s.crackLatch = s := by
  refine if_pos ?_
  rcases none with off | few
  · exact .inl (by simp [off])
  · exact .inr (.inr few)

/-- The crack fault is latched, with its action in the event. -/
def State.crackNoted (s : State) (action : Nat) : State := (s.wr F.PNL_STATUS_CRACK 1).raise 0xE08 bPNL s.panel.misses action

variable (runs : s.crackRuns = true) (clear : s.rd F.PNL_STATUS_CRACK = 0) (missed : s.cm F.PNL_CRACK_COUNT ≤ s.panel.misses)
include runs clear missed

theorem State.crackLatch_latches : s.crackLatch =
    (let a := s.cm F.PNL_CRACK_ACTION
     if a = 1 then (s.crackNoted a).alert F.TOP_ALERT_CRACK else if a = 2 then (s.crackNoted a).panelDown 4
     else if a = 3 then (s.crackNoted a).panelFast 3 else s.crackNoted a) := by
  have due : ¬ (¬ s.crackRuns = true ∨ s.rd F.PNL_STATUS_CRACK = 1 ∨ s.panel.misses < s.cm F.PNL_CRACK_COUNT) := by
    rintro (off | latched | few)
    · exact off runs
    · omega
    · omega
  exact if_neg due

theorem State.crackLatch_notes (action : s.cm F.PNL_CRACK_ACTION = 0) : s.crackLatch = s.crackNoted 0 := by
  rw [State.crackLatch_latches runs clear missed, action]
  rfl

theorem State.crackLatch_fast (action : s.cm F.PNL_CRACK_ACTION = 3) : s.crackLatch = (s.crackNoted 3).panelFast 3 := by
  rw [State.crackLatch_latches runs clear missed, action]
  rfl

end

theorem State.crackNoted_panel (s : State) (action : Nat) : (s.crackNoted action).panel = s.panel := (State.raise_panel ..).trans (State.wr_panel ..)

end Sys2Proof.Machine

namespace Sys2Proof.Proofs

open Machine

/-- A part of `panelPower`. -/
theorem panelPowerSequence : Claims.PanelPowerSequence := by
  intro s t ident status r
  rw [exec_panelSeqStep, exec_dischargeEnd]
  refine ⟨fun up first => ?_, fun up six => ⟨_, congrArg (fun u : State => Host.Outcome.next u.recordsRun) (State.panelStep_trains up six), r.panelTrain_trains⟩,
    fun up down => ?_, fun down left => ?_, fun down none => ?_, fun off => ?_, fun on slow unwanted => ⟨_, rfl, ?_⟩,
    fun alive up four => ⟨_, exec_pgoodAssert t alive ident status, ?_⟩, fun alive other => ⟨?_, ?_⟩,
    fun alive up four => ⟨_, exec_pgoodTimeout t alive, ?_⟩, fun alive on => ⟨_, exec_pgoodLost t alive, ?_⟩, fun alive train up => ?_⟩
  · rw [State.panelStep_enables up first]
  · rw [State.panelStep_idle up down]
  · rw [State.panelStep_drops down left]
  · rw [State.panelStep_discharges down none]
  · rw [State.dischargeEnd_none off]
  · obtain ⟨panel, state⟩ := State.dischargeEnd_ends on slow unwanted
    refine ⟨congrArg PanelSt.discharge panel, state, fun three => (congrArg PanelSt.retryAt panel).trans ?_⟩
    exact if_pos (beq_iff_eq.mpr three)
  · obtain ⟨step, waves, startAt⟩ := State.pgoodAssert_panel (s := s.tick t) ident status up four
    have heard := State.pgoodAssert_heard (s := s.tick t) ident status up four
    simp only [State.heard, Prod.mk.injEq] at heard
    obtain ⟨asked, known, -⟩ := heard
    exact ⟨step, fun d found => known.trans (by rw [found]; rfl), fun silent => known.trans (by rw [silent]; rfl),
      State.pgoodAssert_tempFails (s := s.tick t) ident status up four, startAt, waves, asked⟩
  · rw [exec_pgoodAssert t alive, State.pgoodAssert_other (s := s.tick t) other]
  · rw [exec_pgoodTimeout t alive, State.pgoodTimeout_other (s := s.tick t) other]
  · rw [State.pgoodTimeout_waits (s := s.tick t) up four, ← s.tick_now t]
    exact (State.panelDown_on (s := (s.tick t).raise 0xE02 bPNL 1 (s.tick t).pound) (State.panelOn_of_pstate (.inl up)) 3).2
  · rw [State.pgoodLost_on (s := s.tick t) on]
    have lost : (((s.tick t).wr F.PNL_STATUS_PGOOD 0).raise 0xE02 bPNL 2 (s.tick t).pound).pstate = s.pstate :=
      (State.raise_pstate ..).trans ((s.tick t).wrPgood_pstate 0)
    obtain ⟨state, panel⟩ := State.panelDown_on (State.panelOn_of_pstate (.inr (lost ▸ on))) 3
    exact ⟨state, congrArg PanelSt.cause panel, congrArg PanelSt.faulty panel⟩
  · rw [exec_pgoodLost t alive, State.pgoodLost_other (s := s.tick t) train up]

/-- A part of `panelPower`. -/
theorem panelGuards : Claims.PanelGuards := by
  intro s t k r d
  rw [exec_vinTrip]
  refine ⟨fun slow => ⟨_, rfl, ?_⟩, fun alive at_ wait early => ?_, fun alive waited => ?_, fun alive runs waves after listed due => ?_,
    fun alive runs before due => ?_, fun alive none => ?_, fun island runs clear missed action => ?_, fun island runs clear missed action slow => ?_,
    fun island none => ?_, fun v alive bit => ?_, fun v alive bit => ?_⟩
  · obtain ⟨state, panel⟩ := State.panelFast_none (s := State.wr { r with panel := { r.panel with vinRounds := 0 } } F.PNL_STATUS_VIN_OK 0) slow 1
    exact ⟨panel, state⟩
  · rw [exec_panelRetryWait t alive, State.panelRetry_waits wait early]
  · rw [exec_panelRetryWait t alive, State.panelRetry_tries waited]
  · exact ⟨_, (exec_vrefPoint t alive k).trans (congrArg Host.Outcome.next (State.vrefPoint_out (s := s.tick t) runs due listed waves after)),
      State.vrefOut_panel (s.tick t) k, (s.tick t).vrefOut_point listed⟩
  · rw [exec_vrefPoint t alive, State.vrefPoint_frame (s := s.tick t) runs due rfl before]
    rfl
  · rw [exec_vrefPoint t alive, State.vrefPoint_none (s := s.tick t) none]
  · rw [exec_crackLatch t island, State.crackLatch_notes runs clear missed action]
    rfl
  · refine ⟨_, exec_crackLatch t island, ?_⟩
    rw [State.crackLatch_fast runs clear missed action]
    obtain ⟨-, panel⟩ := State.panelFast_none (s := r.crackNoted 3) ((congrArg PanelSt.fast (r.crackNoted_panel 3)).trans slow) 3
    exact ⟨congrArg PanelSt.enables panel, congrArg PanelSt.discharge panel, congrArg PanelSt.fast panel⟩
  · rw [exec_crackLatch t island, State.crackLatch_none none]
  · rw [exec_crackClear t alive]
    exact congrArg Host.Outcome.next (if_pos bit)
  · rw [exec_crackClear t alive]
    exact congrArg Host.Outcome.next (if_neg (by simp [bit]))

/-- Settles O35: what each step of panel care does to the panel, read off its own lemma. -/
theorem panelPower : Obligations.PanelPower := ⟨panelPowerSequence, panelGuards⟩

end Sys2Proof.Proofs

namespace Sys2Proof.Machine

/-! Management's commands (R447 to R454), at their instant. -/

section
variable {s : State} (t : Nat) (alive : s.alive = true)
include alive

theorem exec_mgmtSession : exec (.mgmtSession t) s = .next ((s.tick t).mgmtTake 1 State.sessionReq) :=
  State.live_alive t (fun s => s.mgmtTake 1 State.sessionReq) alive

theorem exec_mgmtRead : exec (.mgmtRead t) s = .next ((s.tick t).mgmtTake 2 State.readReq) :=
  State.live_alive t (fun s => s.mgmtTake 2 State.readReq) alive

theorem exec_mgmtWrite : exec (.mgmtWrite t) s = .next ((s.tick t).mgmtTake 3 State.writeReq) :=
  State.live_alive t (fun s => s.mgmtTake 3 State.writeReq) alive

theorem exec_mgmtSubscribe : exec (.mgmtSubscribe t) s = .next ((s.tick t).mgmtTake 4 State.subscribeReq) :=
  State.live_alive t (fun s => s.mgmtTake 4 State.subscribeReq) alive

theorem exec_mgmtLog : exec (.mgmtLog t) s = .next (s.tick t).mgmtLog := State.live_alive t State.mgmtLog alive

theorem exec_mgmtLog_ready (ready : s.logWaits = false) : exec (.mgmtLog t) s = .next ((s.tick t).mgmtTake 5 State.logReq) := by
  rw [exec_mgmtLog t alive]
  exact congrArg Host.Outcome.next (if_neg (show ¬ (s.tick t).logWaits = true from Bool.not_eq_true _ ▸ ready))

theorem exec_mgmtLog_waits (waits : s.logWaits = true) : exec (.mgmtLog t) s = .next (s.tick t) := by
  rw [exec_mgmtLog t alive]
  exact congrArg Host.Outcome.next (if_pos (show (s.tick t).logWaits = true from waits))

end

/-! An answer reaches the ports and a counter (R447). -/

/-- Management, the requests that wait, the event ring and the time. -/
def State.mgmtSide (s : State) : MgmtSt × List Datagram × List EvRec × Clk := (s.mgmt, s.ring.mgmt, s.evt.ring, s.clk)

theorem State.modPort_mgmtSide (s : State) (x : Nat) (f : RingPort → RingPort) : (s.modPort x f).mgmtSide = s.mgmtSide := rfl

theorem State.inc_mgmtSide (s : State) (f : Fld) : (s.inc f).mgmtSide = s.mgmtSide := rfl

theorem State.wr_mgmtSide (s : State) (f : Fld) (v : Nat) : (s.wr f v).mgmtSide = s.mgmtSide := rfl

theorem State.raise_mgmtSide (s : State) (code block arg0 arg1 : Nat) : (s.raise code block arg0 arg1).mgmtSide = s.mgmtSide := by
  have ring : (s.raise code block arg0 arg1).evt.ring = s.evt.ring := by
    unfold State.raise State.raiseI EvtSt.raise
    split <;> rfl
  exact congrArg (fun r => (s.mgmt, s.ring.mgmt, r, s.clk)) ring

theorem State.mgmtSend_mgmtSide (s : State) (mac addr port : Nat) (d : List Byte) : (s.mgmtSend mac addr port d).mgmtSide = s.mgmtSide := by
  unfold State.mgmtSend State.sendUdp
  split
  · rfl
  · unfold State.queueBoth State.queueOn
    split
    exact (State.modPort_mgmtSide ..).trans (State.modPort_mgmtSide ..)

theorem State.mgmtAnswer_mgmtSide (s : State) (q : MgmtReq) (sid : Nat) (sk : List Byte) (status : Nat) (body : List Byte) :
    (s.mgmtAnswer q sid sk status body).mgmtSide = s.mgmtSide := by
  unfold State.mgmtAnswer
  extract_lets v
  have counted : v.mgmtSide = s.mgmtSide := by
    simp only [v]
    split
    · rfl
    · exact s.inc_mgmtSide _
  exact (State.mgmtSend_mgmtSide ..).trans counted

theorem State.mgmt_of_mgmtSide {s u : State} (same : u.mgmtSide = s.mgmtSide) : u.mgmt = s.mgmt := by
  simp only [State.mgmtSide, Prod.mk.injEq] at same
  exact same.1

/-! The next request of an operation is taken off the queue (R448). -/

/-- The state with the requests `rest` left. -/
def State.withRequests (s : State) (rest : List Datagram) : State := { s with ring := { s.ring with mgmt := rest } }

section
variable {s : State} {op : Nat} (f : State → MgmtReq → State)

theorem State.mgmtTake_none (none : takeReq op s.ring.mgmt = none) : s.mgmtTake op f = s := by
  unfold State.mgmtTake
  rw [none]

variable {q : MgmtReq} {rest : List Datagram} (found : takeReq op s.ring.mgmt = some (q, rest))
include found

theorem State.mgmtTake_some : s.mgmtTake op f = if q.pay.length < 16 ∨ q.target ≠ s.mac then s.withRequests rest else f (s.withRequests rest) q := by
  unfold State.mgmtTake
  rw [found]
  rfl

theorem State.mgmtTake_off (off : q.pay.length < 16 ∨ q.target ≠ s.mac) : s.mgmtTake op f = s.withRequests rest := by
  rw [State.mgmtTake_some f found, if_pos off]

theorem State.mgmtTake_acts (long : 16 ≤ q.pay.length) (ours : q.target = s.mac) : s.mgmtTake op f = f (s.withRequests rest) q := by
  rw [State.mgmtTake_some f found, if_neg (fun off => off.elim (by omega) (fun other => other ours))]

end

/-! A request of a live session is authenticated, and passes the replay window once (R450). -/

/-- The session of a request used at the instant of `s`. -/
def State.accepted (s : State) (i : Nat) (x : Session) : State := (s.setSession i (some { x with lastUse := s.clk.now })).inc F.TOP_MGMT_CNT_ACCEPTED

section
variable {s : State} {q : MgmtReq} (f : State → Nat → Session → State)

theorem State.sessionDo_unknown (unknown : s.mgmt.slotOf q.sid = none) : s.sessionDo q f = s.authFail 6 q.mseq := by
  unfold State.sessionDo
  rw [unknown]

variable {i : Nat} {y : Session} (known : s.mgmt.slotOf q.sid = some (i, y))
include known

theorem State.sessionDo_forged (forged : q.tag ≠ mgmtTag y.sk q.signed) : s.sessionDo q f = s.authFail 5 q.mseq := by
  unfold State.sessionDo
  rw [known]
  exact if_pos (.inr forged)

variable (long : 16 ≤ q.tag.length) (signed : q.tag = mgmtTag y.sk q.signed)
include long signed

theorem State.sessionDo_signed : s.sessionDo q f = match y.accept q.mseq with
    | none => s
    | some x => f (s.accepted i x) i { x with lastUse := s.clk.now } := by
  unfold State.sessionDo
  rw [known]
  have sound : ¬ (q.tag.length < 16 ∨ q.tag ≠ mgmtTag y.sk q.signed) := not_or.mpr ⟨Nat.not_lt.mpr long, not_not_intro signed⟩
  refine (if_neg sound).trans ?_
  cases y.accept q.mseq <;> rfl

theorem State.sessionDo_replay (replay : y.accept q.mseq = none) : s.sessionDo q f = s := by
  rw [State.sessionDo_signed f known long signed, replay]

end

open Claims in
theorem State.sessionDo_accepts {s : State} {q : MgmtReq} {i : Nat} {x : Session} (session : inSession s q i x) (f : State → Nat → Session → State) :
    s.sessionDo q f = f (s.accepted i x) i { x with lastUse := s.clk.now } := by
  obtain ⟨y, known, long, signed, accepts⟩ := session
  rw [State.sessionDo_signed f known long signed, accepts]

/-- What a WRITE does with its pairs (R451). -/
def State.writePairsDo (s : State) (q : MgmtReq) (sid : Nat) (sk : List Byte) : State :=
  match s.firstBad 0 (writePairs q.body (beAt q.body 0 2)) with
  | some (k, a, st) => (if st = 3 then s.raise 0x022 bTOP a sid else s).mgmtAnswer q sid sk st (beBytes 2 k)
  | none =>
    match s.applyPairs 0 (writePairs q.body (beAt q.body 0 2)) with
    | .inl w => if w.running then w.mgmtAnswer q sid sk 0 [] else w
    | .inr (k, e) => (s.busyEvent e).mgmtAnswer q sid sk 4 (beBytes 2 k)

/-! What each operation does in a session (R451 to R454). -/

section
variable {s : State} {q : MgmtReq} {i : Nat} {x : Session} (session : Claims.inSession s q i x)
include session

theorem State.readReq_answers (formed : q.formed 8 = true) (aligned : beAt q.body 0 4 % 4 = 0) (some_ : 1 ≤ beAt q.body 4 2) (few : beAt q.body 4 2 ≤ 256)
    (clear : beAt q.body 6 2 = 0) : s.readReq q =
      (let r := (s.accepted i x).readWords (beAt q.body 4 2) (beAt q.body 0 4) []
       r.1.mgmtAnswer q x.sid x.sk (if r.2.2 then 0 else 2) r.2.1) := by
  have fits : ¬ (¬ q.formed 8 = true ∨ beAt q.body 0 4 % 4 ≠ 0 ∨ beAt q.body 4 2 = 0 ∨ 256 < beAt q.body 4 2 ∨ beAt q.body 6 2 ≠ 0) := by
    rintro (bad | bad | bad | bad | bad) <;> first | exact bad formed | omega
  exact (State.sessionDo_accepts session _).trans (if_neg fits)

/-- A WRITE body is of as many pairs as its header says, 1 to 64. -/
def MgmtReq.writes (q : MgmtReq) : Prop := q.formed (4 + 8 * beAt q.body 0 2) = true ∧ 1 ≤ beAt q.body 0 2 ∧ beAt q.body 0 2 ≤ 64 ∧ beAt q.body 2 2 = 0

variable (writes : q.writes)
include writes

/-- A well-formed WRITE answers the first bad pair, or the pair that is busy, or applies all. -/
theorem State.writeReq_pairs : s.writeReq q = (s.accepted i x).writePairsDo q x.sid x.sk := by
  obtain ⟨formed, some_, few, clear⟩ := writes
  have fits : ¬ (¬ q.formed (4 + 8 * beAt q.body 0 2) = true ∨ beAt q.body 0 2 = 0 ∨ 64 < beAt q.body 0 2 ∨ beAt q.body 2 2 ≠ 0) := by
    rintro (bad | bad | bad | bad)
    · exact bad formed
    · omega
    · omega
    · exact bad clear
  exact (State.sessionDo_accepts session _).trans (if_neg fits)

omit writes

theorem State.subscribeReq_sets (formed : q.formed 4 = true) (mask : beAt q.body 0 4 < 2 ^ 20) : s.subscribeReq q =
    ((s.accepted i x).setSession i (some { x with lastUse := s.clk.now, mask := beAt q.body 0 4, buf := if beAt q.body 0 4 = 0 then [] else x.buf })).mgmtAnswer
      q x.sid x.sk 0 [] := by
  have fits : ¬ (¬ q.formed 4 = true ∨ 2 ^ 20 ≤ beAt q.body 0 4) := not_or.mpr ⟨not_not_intro formed, Nat.not_le.mpr mask⟩
  exact (State.sessionDo_accepts session _).trans (if_neg fits)

theorem State.logReq_answers (formed : q.formed 8 = true) (clear : beAt q.body 1 1 = 0) {d : List Byte}
    (read : (s.accepted i x).logBytes (beAt q.body 0 1) (beAt q.body 2 2) (beAt q.body 4 4) = some d) :
    s.logReq q = (s.accepted i x).mgmtAnswer q x.sid x.sk 0 d := by
  have fits : ¬ (¬ q.formed 8 = true ∨ beAt q.body 1 1 ≠ 0) := not_or.mpr ⟨not_not_intro formed, not_not_intro clear⟩
  refine (State.sessionDo_accepts session _).trans ((if_neg fits).trans ?_)
  rw [read]

end

/-! The outcomes of a WRITE (R451). -/

section
variable {s : State} {q : MgmtReq} (sid : Nat) (sk : List Byte)

theorem State.writePairsDo_bad {k a st : Nat} (bad : s.firstBad 0 (writePairs q.body (beAt q.body 0 2)) = some (k, a, st)) :
    s.writePairsDo q sid sk = (if st = 3 then s.raise 0x022 bTOP a sid else s).mgmtAnswer q sid sk st (beBytes 2 k) := by
  unfold State.writePairsDo
  rw [bad]

variable (good : s.firstBad 0 (writePairs q.body (beAt q.body 0 2)) = none)
include good

theorem State.writePairsDo_busy {k : Nat} {e : Nat × Nat × Nat} (busy : s.applyPairs 0 (writePairs q.body (beAt q.body 0 2)) = .inr (k, e)) :
    s.writePairsDo q sid sk = (s.busyEvent e).mgmtAnswer q sid sk 4 (beBytes 2 k) := by
  unfold State.writePairsDo
  rw [good]
  dsimp only
  rw [busy]

theorem State.writePairsDo_applied {w : State} (applied : s.applyPairs 0 (writePairs q.body (beAt q.body 0 2)) = .inl w) :
    s.writePairsDo q sid sk = if w.running then w.mgmtAnswer q sid sk 0 [] else w := by
  unfold State.writePairsDo
  rw [good]
  dsimp only
  rw [applied]

end

/-! A session opens (R449). -/

/-- A place that is set holds what it is set to. -/
theorem getD_modAt {α : Type} (v d : α) {l : List α} {i : Nat} (held : i < l.length) : (modAt l i (fun _ => v)).getD i d = v := by
  rw [List.getD_eq_getElem?_getD, getElem?_modAt, List.getElem?_eq_getElem held]
  rfl

theorem State.sessionOpen_opens {s : State} {q : MgmtReq} (slot : s.mgmt.newSlot < s.mgmt.sessions.length) : ∃ x : Session,
    (s.sessionOpen q).mgmt.sessions.getD s.mgmt.newSlot none = some x ∧ x.sid = (if s.mgmt.lastSid = 65535 then 1 else s.mgmt.lastSid + 1) ∧
      (s.sessionOpen q).mgmt.lastSid = x.sid ∧ x.winEnd = q.mseq ∧ x.mask = 0 ∧ x.lastUse = s.clk.now ∧ (s.sessionOpen q).ring.mgmt = s.ring.mgmt := by
  unfold State.sessionOpen
  extract_lets sk sid i a b c x _ d
  have counted : a.mgmtSide = s.mgmtSide := (State.inc_mgmtSide ..).trans (s.wr_mgmtSide ..)
  have dropped : b.mgmtSide = a.mgmtSide := by
    simp only [b]
    split
    · exact a.raise_mgmtSide ..
    · rfl
  have opened : c.mgmtSide = s.mgmtSide := (b.raise_mgmtSide ..).trans (dropped.trans counted)
  clear_value c
  simp only [State.mgmtSide, Prod.mk.injEq] at opened
  obtain ⟨mgmt, waiting, -, clk⟩ := opened
  have answered := d.mgmtAnswer_mgmtSide q sid sk 0 (beBytes 2 sid)
  generalize d.mgmtAnswer q sid sk 0 (beBytes 2 sid) = u at answered ⊢
  simp only [State.mgmtSide, Prod.mk.injEq] at answered
  obtain ⟨mgmt', waiting', -⟩ := answered
  refine ⟨x, ?_, rfl, congrArg MgmtSt.lastSid mgmt', rfl, rfl, congrArg Clk.now clk, waiting'.trans waiting⟩
  have held : i < c.mgmt.sessions.length := by
    rw [mgmt]
    exact slot
  rw [mgmt']
  exact getD_modAt _ _ held

/-! The five operations (R448). -/

/-- The commands of management's operations, by operation. -/
def mgmtCommands (t : Nat) : List (Instr × Nat) :=
  [(Instr.mgmtSession t, 1), (.mgmtRead t, 2), (.mgmtWrite t, 3), (.mgmtSubscribe t, 4), (.mgmtLog t, 5)]

/-- Each command takes the next request of its operation; all but SESSION act in a session. -/
theorem exec_mgmtCommand {s : State} {t op : Nat} {c : Instr} (alive : s.alive = true) (listed : (c, op) ∈ mgmtCommands t)
    (ready : op = 5 → s.logWaits = false) : ∃ f, exec c s = .next ((s.tick t).mgmtTake op f) ∧ (op = 1 → f = State.sessionReq) ∧
      (2 ≤ op → ∃ g : MgmtReq → State → Nat → Session → State, f = fun s q => s.sessionDo q (g q)) := by
  simp only [mgmtCommands, List.mem_cons, Prod.mk.injEq, List.not_mem_nil, or_false] at listed
  rcases listed with ⟨rfl, rfl⟩ | ⟨rfl, rfl⟩ | ⟨rfl, rfl⟩ | ⟨rfl, rfl⟩ | ⟨rfl, rfl⟩
  · exact ⟨_, exec_mgmtSession t alive, fun _ => rfl, fun two => absurd two (by decide)⟩
  · exact ⟨_, exec_mgmtRead t alive, fun one => absurd one (by decide), fun _ => ⟨_, rfl⟩⟩
  · exact ⟨_, exec_mgmtWrite t alive, fun one => absurd one (by decide), fun _ => ⟨_, rfl⟩⟩
  · exact ⟨_, exec_mgmtSubscribe t alive, fun one => absurd one (by decide), fun _ => ⟨_, rfl⟩⟩
  · exact ⟨_, exec_mgmtLog_ready t alive (ready rfl), fun one => absurd one (by decide), fun _ => ⟨_, rfl⟩⟩

theorem mgmtCommands_log {t op : Nat} {c : Instr} (listed : (c, op) ∈ mgmtCommands t) (log : op = 5) : c = .mgmtLog t := by
  simp only [mgmtCommands, List.mem_cons, Prod.mk.injEq, List.not_mem_nil, or_false] at listed
  rcases listed with ⟨-, other⟩ | ⟨-, other⟩ | ⟨-, other⟩ | ⟨-, other⟩ | ⟨same, -⟩
  iterate 4 omega
  exact same

/-- A log with no request waits for nothing. -/
theorem State.logWaits_none {s : State} (none : takeReq 5 s.ring.mgmt = none) : s.logWaits = false := by
  unfold State.logWaits
  rw [none]

theorem State.sessionReq_fails {s : State} {q : MgmtReq} (fails : s.sessionCheck q ≠ 0) : s.sessionReq q = s.authFail (s.sessionCheck q) q.mseq := if_neg fails

theorem State.sessionReq_passes {s : State} {q : MgmtReq} (passes : s.sessionCheck q = 0) : s.sessionReq q = s.sessionOpen q := if_pos passes

theorem State.accepted_sessions (s : State) (i : Nat) (x : Session) :
    (s.accepted i x).mgmt.sessions = modAt s.mgmt.sessions i (fun _ => some { x with lastUse := s.clk.now }) := congrArg MgmtSt.sessions (State.inc_mgmt ..)

open Claims in
theorem State.accepted_taken (s : State) (t : Nat) (rest : List Datagram) (i : Nat) (x : Session) :
    ((s.tick t).withRequests rest).accepted i x = afterAccept s t rest i x := by
  unfold State.accepted afterAccept
  rw [← s.tick_now t]
  rfl

end Sys2Proof.Machine

namespace Sys2Proof.Proofs

open Machine Claims

/-- A part of `managementRequests`. -/
theorem managementRefusals : Claims.ManagementRefusals := by
  intro s t op c alive listed
  refine ⟨fun none => ?_, fun log waits => ?_, fun q rest found ready => ?_⟩
  · obtain ⟨f, runs, -⟩ := exec_mgmtCommand alive listed (fun log => State.logWaits_none (log ▸ none))
    rw [runs, State.mgmtTake_none (s := s.tick t) f none]
  · rw [mgmtCommands_log listed log, exec_mgmtLog_waits t alive waits]
  · obtain ⟨f, runs, opens, acts⟩ := exec_mgmtCommand alive listed ready
    rw [runs]
    refine ⟨fun off => ?_, fun long ours two => ?_, fun long ours one fails => ?_⟩
    · exact congrArg Host.Outcome.next (State.mgmtTake_off (s := s.tick t) f found off)
    · obtain ⟨g, rfl⟩ := acts two
      rw [State.mgmtTake_acts (s := s.tick t) _ found long ours]
      refine ⟨fun unknown => ?_, fun i y known forged => ?_, fun i y known whole signed replay => ?_⟩
      · exact congrArg Host.Outcome.next (State.sessionDo_unknown (s := (s.tick t).withRequests rest) (g q) unknown)
      · exact congrArg Host.Outcome.next (State.sessionDo_forged (s := (s.tick t).withRequests rest) (g q) known forged)
      · exact congrArg Host.Outcome.next (State.sessionDo_replay (s := (s.tick t).withRequests rest) (g q) known whole signed replay)
    · rw [State.mgmtTake_acts (s := s.tick t) _ found long ours, opens one]
      exact congrArg Host.Outcome.next (State.sessionReq_fails (s := (s.tick t).withRequests rest) fails)

/-- A part of `managementRequests`. -/
theorem managementAnswers : Claims.ManagementAnswers := by
  intro s t i q rest x alive long ours v b
  have taken : ((s.tick t).withRequests rest).accepted i x = v := s.accepted_taken t rest i x
  refine ⟨fun found passes slot => ?_, fun session => ⟨fun found formed aligned some_ few clear => ?_, fun found formed some_ few clear => ?_,
    fun found formed mask held => ?_, fun d found ready formed clear read => ?_⟩⟩
  · obtain ⟨y, opened, sid, last, window, mask, used, waiting⟩ := State.sessionOpen_opens (s := (s.tick t).withRequests rest) (q := q) slot
    rw [exec_mgmtSession t alive, State.mgmtTake_acts (s := s.tick t) _ found long ours]
    exact ⟨_, y, congrArg Host.Outcome.next (State.sessionReq_passes (s := (s.tick t).withRequests rest) passes), opened, sid, last, window, mask,
      used.trans (s.tick_now t), waiting⟩
  all_goals replace session : inSession ((s.tick t).withRequests rest) q i x := session
  · rw [exec_mgmtRead t alive, State.mgmtTake_acts (s := s.tick t) _ found long ours, State.readReq_answers session formed aligned some_ few clear, taken]
  · rw [exec_mgmtWrite t alive, State.mgmtTake_acts (s := s.tick t) _ found long ours, State.writeReq_pairs session ⟨formed, some_, few, clear⟩, taken]
    refine ⟨fun k a bad => ?_, fun k a bad => ?_, fun k e good busy => ?_, fun w good applied => ?_⟩
    · rw [State.writePairsDo_bad _ _ bad, if_neg (by decide)]
    · rw [State.writePairsDo_bad _ _ bad, if_pos rfl]
    · rw [State.writePairsDo_busy _ _ good busy]
    · rw [State.writePairsDo_applied _ _ good applied]
  · rw [exec_mgmtSubscribe t alive, State.mgmtTake_acts (s := s.tick t) _ found long ours, State.subscribeReq_sets session formed mask, taken]
    refine ⟨_, { x with lastUse := ((s.tick t).withRequests rest).clk.now, mask := beAt b 0 4, buf := if beAt b 0 4 = 0 then [] else x.buf }, rfl, ?_, rfl, rfl,
      fun zero => if_pos zero⟩
    have open_ : i < v.mgmt.sessions.length := by
      rw [← taken, State.accepted_sessions, length_modAt]
      exact held
    rw [State.mgmt_of_mgmtSide (State.mgmtAnswer_mgmtSide ..)]
    exact getD_modAt _ _ open_
  · rw [exec_mgmtLog_ready t alive ready, State.mgmtTake_acts (s := s.tick t) _ found long ours, State.logReq_answers session formed clear (taken ▸ read), taken]

/-- Settles O45: a request is taken off, authenticated and passed by the replay window before what it asks for is looked at. -/
theorem managementRequests : Obligations.ManagementRequests := ⟨managementRefusals, managementAnswers⟩

end Sys2Proof.Proofs

namespace Sys2Proof.Machine

/-! The commands of events and the log (R445, R449, R453, R459), at their instant. -/

section
variable {s : State} (t : Nat) (alive : s.alive = true)
include alive

theorem exec_eventAccept : exec (.eventAccept t) s = .next (s.tick t).eventAccept := State.live_alive t State.eventAccept alive

theorem exec_eventsSend (i : Nat) : exec (.eventsSend t i) s = .next ((s.tick t).eventsSend i) := State.live_alive t (fun s => s.eventsSend i) alive

theorem exec_sessionIdleExpiry (i : Nat) : exec (.sessionIdleExpiry t i) s = .next ((s.tick t).sessionExpire i) :=
  State.live_alive t (fun s => s.sessionExpire i) alive

theorem exec_logFlush : exec (.logFlush t) s = .next (s.tick t).logFlush := State.live_alive t State.logFlush alive

end

/-! A record enters the ring (R445). -/

/-- Records lost to the log are counted. -/
theorem State.logLost_counts (s : State) (n : Nat) : (s.logLost n).evt = s.evt ∧ (s.logLost n).mgmt.unlogged = s.mgmt.unlogged ∧
    (s.logLost n).mgmt.sessions = s.mgmt.sessions := by
  have evt : (s.add F.TOP_LOG_CNT_LOST n).evt = s.evt := State.add_evt ..
  have mgmt : (s.add F.TOP_LOG_CNT_LOST n).mgmt = s.mgmt := State.add_mgmt ..
  unfold State.logLost
  split
  · exact ⟨rfl, rfl, rfl⟩
  · generalize s.add F.TOP_LOG_CNT_LOST n = v at evt mgmt ⊢
    exact ⟨evt, (congrArg MgmtSt.unlogged mgmt :), (congrArg MgmtSt.sessions mgmt :)⟩

section
variable {s : State}

theorem State.eventAccept_none (none : s.evt.next = none) : s.eventAccept = s := by
  unfold State.eventAccept
  rw [none]

theorem State.eventAccept_some {r : EvRec} {e : EvtSt} (next : s.evt.next = some (r, e)) :
    s.eventAccept.evt = { e with ring := lastN 1024 (e.ring ++ [r]) } ∧
      (s.logSelects r = true → s.eventAccept.mgmt.unlogged.getLast? = some (r, s.clk.now)) ∧
      s.eventAccept.mgmt.sessions.length = s.mgmt.sessions.length := by
  have accepts : ∃ (v : State) (lost : Nat) (keep : List (EvRec × Nat)), s.eventAccept = v.logLost lost ∧
      v.evt = { e with ring := lastN 1024 (e.ring ++ [r]) } ∧ v.mgmt.unlogged = (if s.logSelects r then keep ++ [(r, s.clk.now)] else keep) ∧
      v.mgmt.sessions = s.mgmt.sessions.map (Option.map (fun (x : Session) => x.note s.clk.now r)) := by
    unfold State.eventAccept
    rw [next]
    exact ⟨_, _, _, rfl, rfl, rfl, rfl⟩
  obtain ⟨v, lost, keep, accepts, evt, unlogged, sessions⟩ := accepts
  obtain ⟨evt', unlogged', sessions'⟩ := v.logLost_counts lost
  rw [accepts]
  refine ⟨evt'.trans evt, fun selects => ?_, (congrArg List.length (sessions'.trans sessions)).trans (List.length_map _)⟩
  rw [unlogged', unlogged, if_pos selects, List.getLast?_concat]

/-! What leaves for a session, and when a session ends (R449, R453). -/

variable {i : Nat}

theorem State.eventsSend_closed (closed : s.mgmt.sessions.getD i none = none) : s.eventsSend i = s := by
  unfold State.eventsSend
  rw [closed]

theorem State.sessionExpire_closed (closed : s.mgmt.sessions.getD i none = none) : s.sessionExpire i = s := by
  unfold State.sessionExpire
  rw [closed]

variable {x : Session} (live : s.mgmt.sessions.getD i none = some x)
include live

theorem State.eventsSend_empty (empty : x.buf = []) : s.eventsSend i = s := by
  unfold State.eventsSend
  rw [live]
  exact if_pos empty

theorem State.eventsSend_sends (held : i < s.mgmt.sessions.length) (some_ : x.buf ≠ []) :
    (s.eventsSend i).mgmt.sessions.getD i none = some { x with buf := x.buf.drop 40, bufAt := s.clk.now } ∧ (s.eventsSend i).evt.ring = s.evt.ring := by
  have sends : ∃ v d, s.eventsSend i = State.mgmtSend v x.mac x.addr x.port d ∧ v.evt = s.evt ∧
      v.mgmt.sessions = modAt s.mgmt.sessions i (fun _ => some { x with buf := x.buf.drop 40, bufAt := s.clk.now }) := by
    unfold State.eventsSend
    rw [live]
    exact ⟨_, _, if_neg some_, rfl, rfl⟩
  obtain ⟨v, d, sends, evt, sessions⟩ := sends
  have left := v.mgmtSend_mgmtSide x.mac x.addr x.port d
  rw [sends]
  generalize v.mgmtSend x.mac x.addr x.port d = u at left ⊢
  simp only [State.mgmtSide, Prod.mk.injEq] at left
  obtain ⟨mgmt, -, ring, -⟩ := left
  refine ⟨?_, ring.trans (congrArg EvtSt.ring evt)⟩
  rw [mgmt, sessions]
  exact getD_modAt _ _ held

theorem State.sessionExpire_used (used : s.clk.now < x.lastUse + s.cm F.TOP_MGMT_CFG_IDLE_S * 1000000000) : s.sessionExpire i = s := by
  unfold State.sessionExpire
  rw [live]
  exact if_pos used

theorem State.sessionExpire_idle (idle : x.lastUse + s.cm F.TOP_MGMT_CFG_IDLE_S * 1000000000 ≤ s.clk.now) :
    s.sessionExpire i = (s.setSession i none).raise 0x020 bTOP x.sid 2 := by
  unfold State.sessionExpire
  rw [live]
  exact if_neg (Nat.not_lt.mpr idle)

end

/-! A job is handed to the compression engine (R420). -/

/-- The state without the Basin, and what its allocator reaches: the live ledger and the events. -/
def State.offAlloc (s : State) : State := { s with led := { s.led with live := [] }, evt := EvtSt.reset, basin := BasinSt.reset }

theorem State.wr_offAlloc (s : State) (f : Fld) (v : Nat) : (s.wr f v).offAlloc = s.offAlloc := rfl

theorem State.inc_offAlloc (s : State) (f : Fld) : (s.inc f).offAlloc = s.offAlloc := rfl

theorem State.raiseOnce_offAlloc (s : State) (code block key arg0 arg1 : Nat) : (s.raiseOnce code block key arg0 arg1).offAlloc = s.offAlloc := by
  obtain ⟨e, raised⟩ := s.raiseOnce_eq code block key arg0 arg1
  rw [raised]
  rfl

theorem State.withBasin_offAlloc (s : State) (b : BasinSt) : State.offAlloc { s with basin := b } = s.offAlloc := rfl

theorem State.allocFail_offAlloc (s : State) (cls : Nat) : (s.allocFail cls).offAlloc = s.offAlloc := by
  unfold State.allocFail
  exact (State.raiseOnce_offAlloc ..).trans (s.inc_offAlloc _)

theorem State.allocs_offAlloc (s : State) (cls n : Nat) : (s.allocs cls n).2.offAlloc = s.offAlloc := by
  unfold State.allocs
  split
  · exact (State.wr_offAlloc ..).trans (State.withBasin_offAlloc ..)
  · exact s.allocFail_offAlloc cls

theorem State.allocs_lz (s : State) (cls n : Nat) : (s.allocs cls n).2.lz = s.lz := congrArg (fun v => v.lz) (s.allocs_offAlloc cls n)

theorem State.allocs_mgmt (s : State) (cls n : Nat) : (s.allocs cls n).2.mgmt = s.mgmt := congrArg (fun v => v.mgmt) (s.allocs_offAlloc cls n)

/-- The moorings that a job and its source need. -/
def State.lzMoors (s : State) (j : LzJob) (src : List Byte) : Option (List Nat) × State :=
  s.allocs (lzClass j.queue) (ceilDiv src.length moorSize + ceilDiv j.space moorSize)

section
variable {s : State} {j : LzJob} {src : List Byte}

theorem State.lzSubmit_full (full : s.lzOpen j.queue = false) : s.lzSubmit j src = (false, s) := if_pos (by simp [full])

theorem State.lzSubmit_none (open_ : s.lzOpen j.queue = true) (none : (s.lzMoors j src).1 = none) : s.lzSubmit j src = (false, (s.lzMoors j src).2) := by
  unfold State.lzSubmit
  rw [if_neg (not_not_intro open_)]
  unfold State.lzMoors at none ⊢
  generalize s.allocs (lzClass j.queue) (ceilDiv src.length moorSize + ceilDiv j.space moorSize) = r at none ⊢
  obtain ⟨got, v⟩ := r
  obtain rfl : got = Option.none := none
  rfl

theorem State.lzSubmit_some (open_ : s.lzOpen j.queue = true) {l : List Nat} (got : (s.lzMoors j src).1 = some l) :
    s.lzSubmit j src = (true, (s.lzMoors j src).2.lzQueue j src l) := by
  unfold State.lzSubmit
  rw [if_neg (not_not_intro open_)]
  unfold State.lzMoors at got ⊢
  generalize s.allocs (lzClass j.queue) (ceilDiv src.length moorSize + ceilDiv j.space moorSize) = r at got ⊢
  obtain ⟨moors, v⟩ := r
  obtain rfl : moors = some l := got
  rfl

end

/-! The log hands its records to the engine (R459). -/

/-- The job over the records that the log takes next, and its source bytes. -/
def State.logNext (s : State) : LzJob × List Byte :=
  let rs := s.mgmt.unlogged.take 2048
  let src := rs.flatMap (fun u => u.1.bytes)
  let blk := s.cm F.LZ_CTRL_LOG_KIB * 1024
  (lzNew 2 false blk (src.length + 16 * ceilDiv src.length (max 1 blk)) (.log ((rs.head?.map (fun u => u.1.rseq)).getD 0) rs.length), src)

section
variable {s : State}

theorem State.logFlush_early (early : s.logDue = false) : s.logFlush = s := if_pos (by simp [early])

variable (due : s.logDue = true)
include due

theorem State.logFlush_waits {v : State} (refused : s.lzSubmit s.logNext.1 s.logNext.2 = (false, v)) : s.logFlush = v := by
  unfold State.logFlush
  rw [if_neg (not_not_intro due)]
  unfold State.logNext at refused
  dsimp only at refused ⊢
  rw [refused]

theorem State.logFlush_hands {v : State} (taken : s.lzSubmit s.logNext.1 s.logNext.2 = (true, v)) : s.logFlush =
    { v with mgmt := { v.mgmt with unlogged := v.mgmt.unlogged.drop 2048, logJob := s.mgmt.unlogged.take 2048 } } := by
  unfold State.logFlush
  rw [if_neg (not_not_intro due)]
  unfold State.logNext at taken
  dsimp only at taken ⊢
  rw [taken]

end

/-- A job that enters a queue is its last, over its source and destination moorings. -/
theorem State.lzQueue_queue (s : State) (j : LzJob) (src : List Byte) (l : List Nat) (held : j.queue < s.lz.queues.length) :
    (s.lzQueue j src l).lz.queue j.queue = s.lz.queue j.queue ++
      [{ j with srcM := l.take (ceilDiv src.length moorSize), len := src.length, dstM := l.drop (ceilDiv src.length moorSize) }] := by
  unfold State.lzQueue LzSt.queue
  dsimp only
  rw [getElem?_modAt, List.getElem?_eq_getElem held]
  rfl

theorem State.lzQueue_basin (s : State) (j : LzJob) (src : List Byte) (l : List Nat) :
    (s.lzQueue j src l).basin = s.basin.writeList (l.take (ceilDiv src.length moorSize)) src 0 := rfl

theorem State.lzQueue_mgmt (s : State) (j : LzJob) (src : List Byte) (l : List Nat) : (s.lzQueue j src l).mgmt = s.mgmt := rfl

section
variable {s : State} (due : s.logDue = true)
include due

theorem State.logFlush_full (full : s.lzOpen 2 = false) : s.logFlush = s := State.logFlush_waits due (State.lzSubmit_full (j := s.logNext.1) full)

variable (open_ : s.lzOpen 2 = true)
include open_

theorem State.logFlush_none (none : (s.lzMoors s.logNext.1 s.logNext.2).1 = none) : s.logFlush = (s.lzMoors s.logNext.1 s.logNext.2).2 :=
  State.logFlush_waits due (State.lzSubmit_none (j := s.logNext.1) open_ none)

/-- The log's job enters the engine's queue, and its records leave the backlog. -/
theorem State.logFlush_some {l : List Nat} (found : (s.lzMoors s.logNext.1 s.logNext.2).1 = some l) (held : 2 < s.lz.queues.length) :
    let v := (s.lzMoors s.logNext.1 s.logNext.2).2
    let n := ceilDiv s.logNext.2.length moorSize
    s.logFlush.lz.queue 2 = s.lz.queue 2 ++ [{ s.logNext.1 with srcM := l.take n, len := s.logNext.2.length, dstM := l.drop n }] ∧
      s.logFlush.basin = v.basin.writeList (l.take n) s.logNext.2 0 ∧ s.logFlush.mgmt.unlogged = s.mgmt.unlogged.drop 2048 ∧
      s.logFlush.mgmt.logJob = s.mgmt.unlogged.take 2048 := by
  have lz : (s.lzMoors s.logNext.1 s.logNext.2).2.lz = s.lz := State.allocs_lz ..
  have mgmt : (s.lzMoors s.logNext.1 s.logNext.2).2.mgmt = s.mgmt := State.allocs_mgmt ..
  rw [State.logFlush_hands due (State.lzSubmit_some (j := s.logNext.1) open_ found)]
  generalize (s.lzMoors s.logNext.1 s.logNext.2).2 = v at lz mgmt ⊢
  have queued := State.lzQueue_queue v s.logNext.1 s.logNext.2 l (by rw [lz]; exact held)
  have basin := v.lzQueue_basin s.logNext.1 s.logNext.2 l
  have kept := (v.lzQueue_mgmt s.logNext.1 s.logNext.2 l).trans mgmt
  rw [lz] at queued
  generalize v.lzQueue s.logNext.1 s.logNext.2 l = w at queued basin kept ⊢
  exact ⟨queued, basin, congrArg (fun m : MgmtSt => m.unlogged.drop 2048) kept, rfl⟩

end

end Sys2Proof.Machine

namespace Sys2Proof.Proofs

open Machine

/-- Settles O46: records go from the pending slots to the ring, and from the log's backlog to the engine, in order. -/
theorem eventsReachTheRing : Obligations.EventsReachTheRing := by
  intro s t i alive
  rw [exec_eventAccept t alive, exec_eventsSend t alive, exec_sessionIdleExpiry t alive, exec_logFlush t alive]
  refine ⟨fun none => ?_, fun r e next => ⟨_, rfl, ?_⟩, fun closed => ⟨?_, ?_⟩, fun x live held => ⟨fun some_ => ?_, fun empty => ?_, fun used => ?_, fun idle => ?_⟩,
    fun early => ?_, fun due open_ held => ?_⟩
  · rw [State.eventAccept_none (s := s.tick t) none]
  · obtain ⟨evt, unlogged, sessions⟩ := State.eventAccept_some (s := s.tick t) next
    exact ⟨evt, fun selects => (unlogged selects).trans (by rw [s.tick_now t]), sessions⟩
  · rw [State.eventsSend_closed (s := s.tick t) closed]
  · rw [State.sessionExpire_closed (s := s.tick t) closed]
  · obtain ⟨sent, ring⟩ := State.eventsSend_sends (s := s.tick t) live held some_
    exact ⟨_, _, rfl, sent, rfl, rfl, ring⟩
  · rw [State.eventsSend_empty (s := s.tick t) live empty]
  · rw [State.sessionExpire_used (s := s.tick t) live (by rw [s.tick_now t]; exact used)]
  · rw [State.sessionExpire_idle (s := s.tick t) live (by rw [s.tick_now t]; exact idle)]
    rfl
  · by_cases due : (s.tick t).logDue = true
    · have full : s.lzOpen 2 = false := early.resolve_left (by simp [due])
      rw [State.logFlush_full due full]
    · rw [State.logFlush_early (by simpa using due)]
  · intro rs src blk space got
    have moors : (s.tick t).lzMoors (s.tick t).logNext.1 (s.tick t).logNext.2 = got := rfl
    refine ⟨fun none => ?_, fun l found => ?_⟩
    · rw [State.logFlush_none due open_ (moors ▸ none), moors]
    · obtain ⟨queued, basin, left, taken⟩ := State.logFlush_some due open_ (moors ▸ found) held
      generalize (s.tick t).logFlush = u at queued basin left taken ⊢
      refine ⟨u, _, rfl, queued, rfl, List.take_append_drop .., rfl, rfl, rfl, rfl, rfl, ?_, left, taken⟩
      rw [basin, moors]
      rfl

end Sys2Proof.Proofs

namespace Sys2Proof.Machine

/-! The camera's commands (R358 to R360, R369 to R371), at their instant. -/

section
variable {s : State} (t : Nat) (alive : s.alive = true)
include alive

theorem exec_camSensorStart (n : Nat) : exec (.camSensorStart t n) s = .next ((s.tick t).sensorStart n) := State.live_alive t (fun s => s.sensorStart n) alive

theorem exec_cciWriteDone (port : Nat) (ack : Bool) : exec (.cciWriteDone t port ack) s = .next ((s.tick t).cciDone port ack) :=
  State.live_alive t (fun s => s.cciDone port ack) alive

theorem exec_cciDelayExpiry (n : Nat) : exec (.cciDelayExpiry t n) s = .next ((s.tick t).cciDelay n) := State.live_alive t (fun s => s.cciDelay n) alive

theorem exec_fsyncPulse (m p : Nat) : exec (.fsyncPulse t m p) s = .next ((s.tick t).fsync m p) := State.live_alive t (fun s => s.fsync m p) alive

theorem exec_strobePulse : exec (.strobePulse t) s = .next (s.tick t).strobePulse := State.live_alive t State.strobePulse alive

end

/-! A sensor's state: what a change of it sets, and what leaves the sensors alone. -/

theorem State.sensor_of_cam {s u : State} (same : u.cam.sensors = s.cam.sensors) (n : Nat) : u.sensor n = s.sensor n :=
  congrArg (fun l : List SensorSt => l.getD n SensorSt.reset) same

theorem State.modSensor_sensor {s : State} {n : Nat} (held : n < s.cam.sensors.length) (f : SensorSt → SensorSt) :
    (s.modSensor n f).sensor n = f (s.sensor n) := by
  have listed : s.sensor n = s.cam.sensors[n] := by rw [State.sensor, List.getD_eq_getElem?_getD, List.getElem?_eq_getElem held, Option.getD_some]
  have changed : (s.modSensor n f).sensor n = (modAt s.cam.sensors n f).getD n SensorSt.reset := rfl
  rw [changed, List.getD_eq_getElem?_getD, getElem?_modAt, List.getElem?_eq_getElem held, listed]
  rfl

theorem State.modSensor_length (s : State) (n : Nat) (f : SensorSt → SensorSt) : (s.modSensor n f).cam.sensors.length = s.cam.sensors.length :=
  length_modAt ..

/-- The bus of a port takes a write: nothing else changes. -/
theorem State.cciKick_eq (s : State) (port : Nat) : ∃ bus, s.cciKick port = { s with cam := { s.cam with bus := bus } } := by
  unfold State.cciKick
  split
  · exact ⟨s.cam.bus, rfl⟩
  · exact ⟨_, rfl⟩

theorem State.cciKick_sensor (s : State) (port n : Nat) : (s.cciKick port).sensor n = s.sensor n := by
  obtain ⟨bus, kicked⟩ := s.cciKick_eq port
  rw [kicked]
  rfl

theorem State.cciKick_evt (s : State) (port : Nat) : (s.cciKick port).evt = s.evt := by
  obtain ⟨bus, kicked⟩ := s.cciKick_eq port
  rw [kicked]

/-- A sequence with a write left goes on. -/
theorem State.cciEnd_left {s : State} {n : Nat} (left : (s.sensor n).cci ≠ []) : s.cciEnd n = s := if_pos (.inl (by simpa using left))

/-- A sensor that streams or is off ends no sequence. -/
theorem State.cciEnd_other {s : State} {n : Nat} (starting : (s.sensor n).phase ≠ .starting) (stopping : (s.sensor n).phase ≠ .stopping) : s.cciEnd n = s := by
  unfold State.cciEnd
  by_cases left : ¬ (s.sensor n).cci.isEmpty = true ∨ (s.sensor n).delay = true
  · exact if_pos left
  · exact (if_neg left).trans ((if_neg starting).trans (if_neg stopping))

/-- An exposure set written whole applies from a frame on (R369). -/
theorem State.expoDone_applies {s : State} {n : Nat} (held : n < s.cam.sensors.length) (w : ExpoWrite) :
    ∃ from_, (s.expoDone n w).sensor n = { s.sensor n with write := none, applied := ((w.id, from_) :: (s.sensor n).applied).take 8 } := by
  unfold State.expoDone
  extract_lets x k late from_ a b c
  have told : a.cam = s.cam := by
    simp only [a]
    split <;> rfl
  clear_value a
  refine ⟨from_, ?_⟩
  have shown : ((c.wr F.CAM_STATUS_CCI_FAIL (clearBit (c.rd F.CAM_STATUS_CCI_FAIL) n))).cam = b.cam := by
    simp only [c, State.wr_cam]
  rw [State.sensor_of_cam (congrArg CamSt.sensors shown), State.modSensor_sensor (by rw [told]; exact held), State.sensor_of_cam (congrArg CamSt.sensors told)]

/-! A needed sensor is started (R360). -/

section
variable {s : State} {n : Nat}

theorem State.sensorStart_on (on : (s.sensor n).phase ≠ .off) : s.sensorStart n = s := by
  unfold State.sensorStart
  split
  · rfl
  · exact if_pos (.inl on)

theorem State.sensorStart_starts {tab : List Byte} (known : s.sensorTab n = some tab) (held : n < s.cam.sensors.length) (off : (s.sensor n).phase = .off)
    (needed : s.sensorNeeded s.cset n = true) (up : s.portUp (camPort tab) = true) : ((s.sensorStart n).sensor n).phase = .starting ∧
      ((s.sensorStart n).sensor n).cci =
        seqOps tab 0 (camStartCnt tab) ++ expoOps tab (s.sensor n).setId (s.cm (F.CAM_Sn_EXP_LINES n)) (s.cm (F.CAM_Sn_EXP_GAIN n)) := by
  have may : ¬ ((s.sensor n).phase ≠ .off ∨ ¬ s.sensorNeeded s.cset n = true ∨ ¬ s.portUp (camPort tab) = true) := by simp [off, needed, up]
  unfold State.sensorStart
  rw [known]
  dsimp only
  rw [if_neg may, State.cciKick_sensor, State.modSensor_sensor held]
  exact ⟨rfl, rfl⟩

/-! A register write completes (R358, R360, R369). -/

variable {port : Nat}

theorem State.cciDone_idle (idle : s.cam.bus.getD port none = none) (ack : Bool) : s.cciDone port ack = s := by
  unfold State.cciDone
  rw [idle]

/-- The state with the bus free and the first write of the sensor taken off. -/
def State.cciTaken (s : State) (port n : Nat) (rest : List CciOp) : State :=
  State.modSensor { s with cam := { s.cam with bus := modAt s.cam.bus port (fun _ => none) } } n (fun x => { x with cci := rest })

theorem State.cciTaken_sensor (held : n < s.cam.sensors.length) (rest : List CciOp) :
    (s.cciTaken port n rest).sensor n = { s.sensor n with cci := rest } := State.modSensor_sensor held _

variable {wire : List Byte} {op : CciOp} {rest : List CciOp} (busy : s.cam.bus.getD port none = some (n, wire)) (first : (s.sensor n).cci = op :: rest)
include busy first

theorem State.cciDone_takes (ack : Bool) : s.cciDone port ack =
    (((s.cciTaken port n rest).cciWritten n op ack (s.sensor n).write ((s.sensor n).phase == SensorPhase.starting)).cciEnd n).cciKick port := by
  unfold State.cciDone
  rw [busy]
  dsimp only
  have free : State.sensor { s with cam := { s.cam with bus := modAt s.cam.bus port (fun _ => none) } } n = s.sensor n := rfl
  rw [free, first]
  rfl

variable (held : n < s.cam.sensors.length)
include held

/-- An acknowledged start or stop entry without a delay is taken off. -/
theorem State.cciDone_entry (entry : op.kind = .seq 0) (left : rest ≠ []) :
    (s.cciDone port true).sensor n = { s.sensor n with cci := rest } ∧ (s.cciDone port true).evt = s.evt := by
  have sensor : (s.cciTaken port n rest).sensor n = { s.sensor n with cci := rest } := State.cciTaken_sensor held rest
  have written : (s.cciTaken port n rest).cciWritten n op true (s.sensor n).write ((s.sensor n).phase == SensorPhase.starting) = s.cciTaken port n rest := by
    unfold State.cciWritten
    rw [entry]
    rfl
  have ended : (s.cciTaken port n rest).cciEnd n = s.cciTaken port n rest := State.cciEnd_left (by rw [sensor]; exact left)
  rw [State.cciDone_takes busy first, written, ended, State.cciKick_sensor, State.cciKick_evt]
  exact ⟨sensor, rfl⟩

/-- The last write of an exposure set, acknowledged, applies the set from a frame on. -/
theorem State.cciDone_expo {id : Nat} {w : ExpoWrite} (last : op.kind = .expo id true) (streams : (s.sensor n).phase = .streaming)
    (write : (s.sensor n).write = some w) : ∃ from_, ((s.cciDone port true).sensor n).write = none ∧
      ((s.cciDone port true).sensor n).applied.head? = some (w.id, from_) := by
  have sensor : (s.cciTaken port n rest).sensor n = { s.sensor n with cci := rest } := State.cciTaken_sensor held rest
  have length : n < (s.cciTaken port n rest).cam.sensors.length := by
    rw [State.cciTaken, State.modSensor_length]
    exact held
  have written : (s.cciTaken port n rest).cciWritten n op true (s.sensor n).write ((s.sensor n).phase == SensorPhase.starting) =
      (s.cciTaken port n rest).expoDone n w := by
    unfold State.cciWritten
    rw [last, write, streams]
    rfl
  obtain ⟨from_, applies⟩ := State.expoDone_applies length w
  have ended : ((s.cciTaken port n rest).expoDone n w).cciEnd n = (s.cciTaken port n rest).expoDone n w := by
    refine State.cciEnd_other ?_ ?_ <;> rw [applies, sensor] <;> simp [streams]
  refine ⟨from_, ?_⟩
  rw [State.cciDone_takes busy first, written, ended, State.cciKick_sensor, applies]
  exact ⟨rfl, rfl⟩

end

/-! A delay elapses (R360). -/

section
variable {s : State} {n : Nat}

theorem State.cciDelay_none (none : (s.sensor n).delay = false) : s.cciDelay n = s := if_pos (by simp [none])

theorem State.cciDelay_ends (held : n < s.cam.sensors.length) (delays : (s.sensor n).delay = true) (left : (s.sensor n).cci ≠ []) :
    (s.cciDelay n).sensor n = { s.sensor n with delay := false } := by
  have sensor : (s.modSensor n (fun x => { x with delay := false })).sensor n = { s.sensor n with delay := false } := State.modSensor_sensor held _
  have ended : (s.modSensor n (fun x => { x with delay := false })).cciEnd n = s.modSensor n (fun x => { x with delay := false }) :=
    State.cciEnd_left (by rw [sensor]; exact left)
  unfold State.cciDelay
  rw [if_neg (not_not_intro delays), State.cciKick_sensor, ended, sensor]

end

/-! Frame syncs and the strobe (R370, R371). -/

/-- The committed MODE, DIV and width in ns of a frame sync output. -/
def State.fsyncCfg (s : State) (m : Nat) : Nat × Nat × Nat :=
  let f (a b : Fld) : Nat := s.cm (if m = 0 then a else b)
  (f F.CAM_FSYNC0_CFG_MODE F.CAM_FSYNC1_CFG_MODE, f F.CAM_FSYNC0_CFG_DIV F.CAM_FSYNC1_CFG_DIV,
   f F.CAM_FSYNC0_CFG_WIDTH_US F.CAM_FSYNC1_CFG_WIDTH_US * 1000)

section
variable {s : State} {m p : Nat}

theorem State.fsync_off (off : 2 ≤ m ∨ (s.fsyncCfg m).1 = 0 ∨ ((s.fsyncCfg m).1 = 1 ∧ p % max 1 (s.fsyncCfg m).2.1 ≠ 0)) : s.fsync m p = s := if_pos off

variable (below : m < 2) (on : (s.fsyncCfg m).1 ≠ 0) (due : (s.fsyncCfg m).1 = 1 → p % max 1 (s.fsyncCfg m).2.1 = 0)
include below on due

theorem State.fsync_on : ¬ (2 ≤ m ∨ (s.fsyncCfg m).1 = 0 ∨ ((s.fsyncCfg m).1 = 1 ∧ p % max 1 (s.fsyncCfg m).2.1 ≠ 0)) := by
  rintro (beyond | zero | ⟨one, misses⟩)
  · omega
  · exact on zero
  · exact misses (due one)

theorem State.fsync_other (other : s.cm F.CAM_STROBE_SRC ≠ m) : s.fsync m p = s.pulse (.fsync m) (s.fsyncCfg m).2.2 :=
  (if_neg (State.fsync_on below on due)).trans (if_pos other)

theorem State.fsync_strobe (src : s.cm F.CAM_STROBE_SRC = m) :
    (s.fsync m p).time.pulses = s.time.pulses.filter (fun q => q.1 ≠ .fsync m) ++ [(.fsync m, s.clk.now + (s.fsyncCfg m).2.2)] ∧
      (s.fsync m p).cam.pulseJ = s.cam.pulseJ + 1 ∧
      (s.fsync m p).cam.strobe = (s.cm F.CAM_STROBE_WIDTH_US != 0 && s.cam.pulseJ % max 1 (s.cm F.CAM_STROBE_DIV) == 0) := by
  have strobes : ∃ lit, s.fsync m p = { s.pulse (.fsync m) (s.fsyncCfg m).2.2 with
      cam := { s.cam with pulseJ := s.cam.pulseJ + 1,
                          strobe := s.cm F.CAM_STROBE_WIDTH_US != 0 && s.cam.pulseJ % max 1 (s.cm F.CAM_STROBE_DIV) == 0, lit := lit } } :=
    ⟨_, (if_neg (State.fsync_on below on due)).trans (if_neg (not_not_intro src))⟩
  obtain ⟨lit, strobes⟩ := strobes
  rw [strobes]
  exact ⟨rfl, rfl, rfl⟩

end

end Sys2Proof.Machine

namespace Sys2Proof.Proofs

open Machine

/-- Settles O38: each command's effect on the sensor, the bus or the pulse output that it names. -/
theorem sensorsAndPulses : Obligations.SensorsAndPulses := by
  intro s t n port m p alive
  rw [exec_cciDelayExpiry t alive, exec_fsyncPulse t alive, exec_strobePulse t alive]
  simp only [exec_camSensorStart t alive, exec_cciWriteDone t alive]
  refine ⟨fun tab known held off needed up => ⟨_, rfl, ?_⟩, fun on => ?_, fun idle ack => ?_, fun op rest wire busy held first entry left => ⟨_, rfl, ?_⟩,
    fun op rest wire id w busy held first last streams write => ?_, fun none => ?_, fun held delays left => ⟨_, rfl, ?_⟩, fun beyond => ?_, fun below => ?_,
    fun armed => ?_, fun idle => ?_⟩
  · exact State.sensorStart_starts (s := s.tick t) known held off needed up
  · rw [State.sensorStart_on (s := s.tick t) on]
  · rw [State.cciDone_idle (s := s.tick t) idle]
  · exact State.cciDone_entry (s := s.tick t) busy first held entry left
  · obtain ⟨from_, written, applied⟩ := State.cciDone_expo (s := s.tick t) busy first held last streams write
    exact ⟨_, from_, rfl, written, applied⟩
  · rw [State.cciDelay_none (s := s.tick t) none]
  · exact State.cciDelay_ends (s := s.tick t) held delays left
  · rw [State.fsync_off (s := s.tick t) (.inl beyond)]
  · refine ⟨fun off => ?_, fun on due other => ?_, fun on due src => ⟨_, rfl, ?_⟩⟩
    · rw [State.fsync_off (s := s.tick t) (.inr off)]
    · rw [State.fsync_other (s := s.tick t) below on due other]
      rfl
    · obtain ⟨pulses, counted, strobe⟩ := State.fsync_strobe (s := s.tick t) below on due src
      refine ⟨?_, counted, strobe⟩
      rw [pulses, s.tick_now t]
      exact List.mem_append_right _ (List.mem_singleton_self _)
  · exact congrArg Host.Outcome.next (if_neg (not_not_intro armed))
  · exact congrArg Host.Outcome.next (if_pos (show ¬ (s.tick t).cam.strobe = true by simp [idle]))

end Sys2Proof.Proofs

namespace Sys2Proof.Machine

/-! A frame replaced by number, and its publication (R361, R366). -/

/-- A frame that is replaced is the one then found by its number. -/
theorem SensorSt.setFrame_find {x : SensorSt} {f g : CamFrame} (listed : f ∈ x.frames) (same : f.num = g.num) :
    (x.setFrame g).frames.find? (fun h => h.num == g.num) = some g := by
  have mapped : (x.setFrame g).frames = x.frames.map (fun h => if h.num = g.num then g else h) := rfl
  rw [mapped]
  generalize x.frames = l at listed
  induction l with
  | nil => exact absurd listed List.not_mem_nil
  | cons h r found =>
    rw [List.map_cons]
    by_cases here : h.num = g.num
    · rw [if_pos here, List.find?_cons_of_pos (by simp)]
    · have rest : f ∈ r := (List.mem_cons.mp listed).resolve_left (fun head => here (head ▸ same))
      rw [if_neg here, List.find?_cons_of_neg (by simpa using here)]
      exact found rest

section
variable {s : State} {n : Nat} {f : CamFrame} (found : (s.sensor n).frames.find? (fun g => g.num == f.num) = some f)
include found

/-- A frame whose end has not come, or that has lines waiting, is not published yet. -/
theorem State.tryPublish_waits (waits : f.ended = false ∨ f.waiting ≠ []) : s.tryPublish n f.num = s := by
  unfold State.tryPublish
  rw [found]
  refine if_neg (fun done => ?_)
  obtain ⟨ended, empty, -⟩ := done
  rcases waits with open_ | left
  · simp [open_] at ended
  · exact left (List.isEmpty_iff.mp empty)

end

/-! The pipe takes a line (R362). -/

section
variable {s : State} {port : Nat}

theorem State.lineTake_idle (idle : s.portUp port = false ∨ has s.mode mHOLD = true ∨ (s.eligibleLines port).isEmpty = true) :
    s.lineTake port = s :=
  if_pos (idle.imp_left (fun off => by simp [off]))

theorem State.lineTake_takes {n : Nat} {v : State} {f : CamFrame} {tab line : List Byte} {rest : List (List Byte)}
    (up : s.portUp port = true) (free : has s.mode mHOLD = false) (lines : (s.eligibleLines port).isEmpty = false)
    (turn : State.drr 600 s port = (some n, v)) (first : (v.sensor n).frames.find? (fun f => !f.waiting.isEmpty) = some f)
    (known : v.sensorTab n = some tab) (waits : f.waiting = line :: rest) (open_ : f.ended = false) (held : n < v.cam.sensors.length) :
    s.lineTake port = v.modSensor n (fun x => x.setFrame
      { f with waiting := rest, taken := f.taken ++ [(unpackRaw (camWidth tab + 1) (camDt tab) line).take (camWidth tab)] }) := by
  have goes : ¬ (¬ s.portUp port = true ∨ has s.mode mHOLD = true ∨ (s.eligibleLines port).isEmpty = true) := by
    simp [up, free, lines]
  refine (if_neg goes).trans ?_
  rw [turn]
  dsimp only
  rw [first, known]
  dsimp only
  rw [waits]
  dsimp only
  generalize changed : ({ f with waiting := rest, taken := f.taken ++ [(unpackRaw (camWidth tab + 1) (camDt tab) line).take (camWidth tab)] } :
    CamFrame) = g
  have num : g.num = f.num := by rw [← changed]
  have pending : g.ended = false := by rw [← changed]; exact open_
  rw [← num]
  refine State.tryPublish_waits ?_ (.inl pending)
  rw [State.modSensor_sensor held]
  exact SensorSt.setFrame_find (List.mem_of_find?_eq_some first) num.symm

end

/-! What the locator's operations leave of the pairs (R372 to R375). -/

theorem State.freeMoor_cam (s : State) (wait : Bool) (m : Nat) : (s.freeMoor wait m).cam = s.cam := rfl

theorem State.camSweep_pairs (s : State) (atOpen : Bool) : (s.camSweep atOpen).cam.pairs = s.cam.pairs := by
  refine State.each_proj (fun s => s.cam.pairs) _ (fun s q => ?_) s.deadBufs s
  exact State.each_proj (fun s => s.cam.pairs) _ (fun s m => congrArg CamSt.pairs (s.freeMoor_cam atOpen m)) _ s

theorem State.sideGlints_cam (s : State) (q : PairPic) : (s.sideGlints q).1.cam = s.cam := by
  unfold State.sideGlints
  generalize s.pairPixels q = px
  obtain ⟨values, width, x0, y0⟩ := px
  dsimp only
  split <;> rfl

theorem State.raiseOnce_cam (s : State) (code block key arg0 arg1 : Nat) : (s.raiseOnce code block key arg0 arg1).cam = s.cam := by
  obtain ⟨e, raised⟩ := s.raiseOnce_eq code block key arg0 arg1
  rw [raised]

theorem State.formReport_shows (s : State) : s.formReport.cam = s.cam ∧ s.formReport.comp.reported = true := by
  unfold State.formReport
  extract_lets c en res newest used eyes time ns s1 s2 s3 s4 none_ s5
  refine ⟨?_, rfl⟩
  have timed : s2.cam = s.cam := by simp only [s2, s1, State.wrW_cam]
  have told : s3.cam = s2.cam := by simp only [s3, State.wr_cam]
  have eyed : s4.cam = s3.cam := State.each_proj State.cam _ (fun s i => by simp only [State.wrW_cam]) _ s3
  have raised : s5.cam = s4.cam := by
    simp only [s5]
    split
    · rfl
    · exact State.raiseOnce_cam ..
  exact raised.trans (eyed.trans (told.trans timed))

section
variable {s : State} {p : Nat}

theorem State.glintPair_lacks (lacks : ∀ g, s.cam.pairs[p]? = some g → g.left = none ∨ g.right = none) : s.glintPair p = s := by
  unfold State.glintPair
  split
  · rfl
  · rename_i g pair
    rcases lacks g pair with left | right
    · rw [left]
    · rw [right]
      split
      · rename_i none_
        cases none_
      · rfl

/-- A complete pair is used up: its result carries the FS time of the left frame, and a report is formed. -/
theorem State.glintPair_reports {g : PairGlint} {l r : PairPic} {tab : List Byte} (pair : s.cam.pairs[p]? = some g) (left : g.left = some l)
    (right : g.right = some r) (free : has s.mode mHOLD = false) (tracks : has s.mode mTRACK = true) (up : s.unitUp bTRK 0 = true)
    (enabled : s.cm (F.TRK_PAIRp_CFG_EN p) = 1) (known : s.sensorTab l.sensor = some tab) :
    (s.glintPair p).comp.reported = true ∧
      ∃ eyes, (s.glintPair p).cam.pairs[p]? = some { g with left := none, right := none, result := some (l.fsAt, eyes) } := by
  have goes : ¬ (has s.mode mHOLD = true ∨ ¬ has s.mode mTRACK = true ∨ ¬ s.unitUp bTRK 0 = true ∨ s.cm (F.TRK_PAIRp_CFG_EN p) = 0) := by
    simp [free, tracks, up, enabled]
  unfold State.glintPair
  rw [pair]
  dsimp only
  rw [left, right]
  dsimp only
  rw [if_neg goes, known]
  dsimp only
  generalize first : s.sideGlints l = a
  have leftSide : a.1.cam = s.cam := by rw [← first]; exact s.sideGlints_cam l
  generalize second : a.1.sideGlints r = b
  have rightSide : b.1.cam = a.1.cam := by rw [← second]; exact a.1.sideGlints_cam r
  generalize matchGlints _ _ _ _ _ = matched
  generalize counts : b.1.add F.TRK_CNT_UNMATCHED matched.2 = u
  have counted : u.cam = s.cam := by
    rw [← counts]
    exact ((b.1.add_cam _ _).trans rightSide).trans leftSide
  generalize matched.1.filterMap _ = eyes
  obtain ⟨shown, reported⟩ := State.formReport_shows (State.camSweep { u with cam := { u.cam with
    pairs := modAt u.cam.pairs p (fun _ => { g with left := none, right := none, result := some (l.fsAt, eyes) }) } } false)
  refine ⟨reported, eyes, ?_⟩
  rw [shown, State.camSweep_pairs]
  refine (getElem?_modAt ..).trans ?_
  rw [counted, pair]
  rfl

end

end Sys2Proof.Machine

namespace Sys2Proof.Proofs

open Machine

/-- Settles O37: the line that the round robin names moves to its frame, and a complete pair gives its result. -/
theorem pipesAndGlints : Obligations.PipesAndGlints := by
  intro s t port p alive
  have take : exec (.pipeLineTake t port) s = .next ((s.tick t).lineTake port) := State.live_alive t (fun s => s.lineTake port) alive
  have pairs : exec (.glintPair t p) s = .next ((s.tick t).glintPair p) := State.live_alive t (fun s => s.glintPair p) alive
  rw [take, pairs]
  refine ⟨fun idle => ?_, fun n v f tab line rest up free lines turn first known waits open_ _ held => ?_, fun lacks => ?_,
    fun g l r tab pair left right free tracks up enabled known => ?_⟩
  · rw [State.lineTake_idle (s := s.tick t) idle]
  · rw [State.lineTake_takes (s := s.tick t) up free lines turn first known waits open_ held]
  · rw [State.glintPair_lacks (s := s.tick t) lacks]
  · obtain ⟨reported, eyes, used⟩ := State.glintPair_reports (s := s.tick t) pair left right free tracks up enabled known
    exact ⟨_, _, rfl, reported, used, rfl, rfl, eyes, rfl⟩

end Sys2Proof.Proofs

namespace Sys2Proof.Machine

/-! A packet's header (R357). -/

section
variable {s : State} {port : Nat} {h : List Byte} (lost : Option Nat)

/-- Where a packet that cannot be read drops frames: of its sensor, or of every sensor of the port. -/
def State.csiLost (s : State) (port : Nat) (lost : Option Nat) : State :=
  match lost with
  | some n => s.dropCur n 3
  | none => s.each (s.portSensors port) (fun s n => s.dropCur n 4)

/-- What a header that reads as `read` does. -/
def State.csiHead (s : State) (read : Option (CsiHead × Bool)) (port : Nat) (lost : Option Nat) : State × Option CsiHead :=
  match read with
  | some (c, fixed) => (if fixed then s.inc F.CAM_PKT_ERR_ECC_CORR else s, some c)
  | none => (s.csiLost port lost, none)

/-- The reader of headers is a variable in the proof, under `id` so that it stays one: of `csiRead` itself the kernel would run the decoder. -/
theorem State.csiHeader_eq : State.csiHeader = fun s port h lost => s.csiHead (csiRead h) port lost := by
  delta State.csiHeader
  generalize csiRead = read
  revert read
  refine id ?_
  intro read
  funext s port h lost
  rcases read h with _ | ⟨c, fixed⟩
  · cases lost <;> rfl
  · rfl

theorem State.csiHeader_bad (bad : csiRead h = none) : s.csiHeader port h lost = (s.csiLost port lost, none) := by
  rw [State.csiHeader_eq]
  exact congrArg (fun read => s.csiHead read port lost) bad

/-- A header that reads counts a correction at most. -/
theorem State.csiHeader_good {c : CsiHead} {fixed : Bool} (good : csiRead h = some (c, fixed)) :
    s.csiHeader port h lost = (if fixed then s.inc F.CAM_PKT_ERR_ECC_CORR else s, some c) := by
  rw [State.csiHeader_eq]
  exact congrArg (fun read => s.csiHead read port lost) good

end

/-! What follows the header of a start, a line and an end (R361 to R364). -/

/-- The frame that begins in a state. -/
def State.frameLatched (s : State) (num : Nat) (outs : List (Nat × Nat)) : CamFrame :=
  { num := num, fsAt := s.dev, pound := s.pound, set := s.cset, lit := s.cam.lit, outs := outs, got := 0, waiting := [], taken := [],
    ended := false, dropped := false }

/-- A streaming sensor's frame begins. -/
def State.frameBegin (s : State) (n : Nat) : State :=
  let s := s.dropCur n 4
  let s := s.modSensor n (fun x => { x with frames := x.frames.filter (fun f => f.ended) })
  let num := (s.sensor n).next
  let (s, outs) := s.takeOuts n
  let f := s.frameLatched num outs
  let s := s.modSensor n (fun x => { x.rebase num with next := (num + 1) % 65536, frames := x.frames ++ [f] })
  s.expoAt n num

section
variable {s v : State} {port : Nat} {h : List Byte} {lost : Option Nat}

theorem State.csi_off (off : s.portUp port = false ∨ has s.mode mHOLD = true) (d : List Byte) (crc : Nat) :
    s.csiStart port h lost = s ∧ s.csiLine port h lost d crc = s ∧ s.csiEnd port h lost = s := by
  have idle : ¬ s.portUp port = true ∨ has s.mode mHOLD = true := off.imp_left (fun down => by simp [down])
  exact ⟨if_pos idle, if_pos idle, if_pos idle⟩

variable (up : s.portUp port = true) (free : has s.mode mHOLD = false)
include up free

theorem State.csi_on : ¬ (¬ s.portUp port = true ∨ has s.mode mHOLD = true) := by simp [up, free]

theorem State.csi_lost (header : s.csiHeader port h lost = (v, none)) (d : List Byte) (crc : Nat) :
    s.csiStart port h lost = v ∧ s.csiLine port h lost d crc = v ∧ s.csiEnd port h lost = v := by
  refine ⟨(if_neg (State.csi_on up free)).trans ?_, (if_neg (State.csi_on up free)).trans ?_, (if_neg (State.csi_on up free)).trans ?_⟩ <;>
    rw [header]

variable {c : CsiHead} (header : s.csiHeader port h lost = (v, some c))
include header

theorem State.csi_unknown (unknown : v.sensorAt port c.vc none = none) :
    s.csiStart port h lost = v.csiUnknown port c.vc c.dt ∧ s.csiEnd port h lost = v.csiUnknown port c.vc c.dt := by
  refine ⟨(if_neg (State.csi_on up free)).trans ?_, (if_neg (State.csi_on up free)).trans ?_⟩ <;> rw [header] <;> dsimp only <;> rw [unknown]

theorem State.csiStart_begins {n : Nat} (known : v.sensorAt port c.vc none = some n) (streams : (v.sensor n).phase = .streaming) :
    s.csiStart port h lost = v.frameBegin n := by
  refine (if_neg (State.csi_on up free)).trans ?_
  rw [header]
  dsimp only
  rw [known]
  dsimp only
  rw [if_neg (not_not_intro streams)]
  rfl

theorem State.csiLine_payload (long : 0x13 ≤ c.dt) (d : List Byte) (crc : Nat) :
    s.csiLine port h lost d crc = v.csiPayload port c d crc := by
  refine (if_neg (State.csi_on up free)).trans ?_
  rw [header]
  exact if_neg (by omega)

end

/-! The sensors less their buffers, through the operations on buffers and consumers (R366 to R368). -/

/-- A sensor without its output buffers. -/
def SensorSt.offBufs (x : SensorSt) : SensorSt := { x with bufs := [] }

/-- The sensors without their output buffers. -/
def State.sensorsOffBufs (s : State) : List SensorSt := s.cam.sensors.map SensorSt.offBufs

theorem State.sensorsOffBufs_sensor {s u : State} (same : u.sensorsOffBufs = s.sensorsOffBufs) (n : Nat) :
    (u.sensor n).offBufs = (s.sensor n).offBufs := by
  have at_ (w : State) : (w.sensor n).offBufs = w.sensorsOffBufs.getD n SensorSt.reset.offBufs := by
    unfold State.sensor State.sensorsOffBufs
    rw [List.getD_eq_getElem?_getD, List.getD_eq_getElem?_getD, List.getElem?_map, Option.getD_map]
  rw [at_ u, same, ← at_ s]

theorem State.sensorsOffBufs_frames {s u : State} (same : u.sensorsOffBufs = s.sensorsOffBufs) (n : Nat) :
    (u.sensor n).frames = (s.sensor n).frames :=
  (congrArg SensorSt.frames (State.sensorsOffBufs_sensor same n) :)

theorem State.sensorsOffBufs_length {s u : State} (same : u.sensorsOffBufs = s.sensorsOffBufs) : u.cam.sensors.length = s.cam.sensors.length := by
  have lengths := congrArg List.length same
  rwa [State.sensorsOffBufs, State.sensorsOffBufs, List.length_map, List.length_map] at lengths

theorem State.sensorsOffBufs_of_cam {s u : State} (same : u.cam = s.cam) : u.sensorsOffBufs = s.sensorsOffBufs := by
  unfold State.sensorsOffBufs
  rw [same]

/-- A change of a sensor's buffers alone. -/
theorem State.modSensor_offBufs (s : State) (n : Nat) (f : SensorSt → SensorSt) (same : ∀ x, (f x).offBufs = x.offBufs) :
    (s.modSensor n f).sensorsOffBufs = s.sensorsOffBufs :=
  map_modAt SensorSt.offBufs f same s.cam.sensors n

theorem State.freeOuts_offBufs (s : State) (n : Nat) (l : List (Nat × Nat)) : (s.freeOuts n l).sensorsOffBufs = s.sensorsOffBufs := by
  refine State.each_proj State.sensorsOffBufs _ (fun s q => ?_) l s
  exact s.modSensor_offBufs n _ (fun _ => rfl)

theorem State.camSweep_offBufs (s : State) (atOpen : Bool) : (s.camSweep atOpen).sensorsOffBufs = s.sensorsOffBufs := by
  refine State.each_proj State.sensorsOffBufs _ (fun s q => ?_) s.deadBufs s
  refine (map_modAt SensorSt.offBufs _ (fun x => ?_) _ _).trans ?_
  · rfl
  · exact State.each_proj State.sensorsOffBufs _ (fun s m => State.sensorsOffBufs_of_cam (s.freeMoor_cam atOpen m)) _ s

theorem State.encOffer_cam (s : State) (k : Nat) (e : EncPic) : (s.encOffer k e).cam = s.cam := by
  unfold State.encOffer
  extract_lets x cs s1 late s2
  have skipped : s2.cam = s.cam := by
    simp only [s2]
    split
    · exact (State.raiseOnce_cam ..).trans (State.inc_cam ..)
    · rfl
  split
  · rfl
  · split
    · rfl
    · exact skipped

theorem State.encCamera_cam (s : State) (e : EncPic) : (s.encCamera e).cam = s.cam :=
  State.each_proj State.cam _ (fun s k => State.when_proj State.cam s _ (fun s => s.encOffer_cam k e)) _ s

theorem State.pairTake_sensors (s : State) (p : Nat) (right : Bool) (q : PairPic) (lit : Bool) :
    (s.pairTake p right q lit).cam.sensors = s.cam.sensors := by
  have counted (c : Bool) : (if c = true then s.inc F.TRK_CNT_UNPAIRED else s).cam = s.cam := by
    split
    · exact s.inc_cam _
    · rfl
  have put (v : State) (g : PairGlint) : (v.putPair p g).cam.sensors = v.cam.sensors := rfl
  unfold State.pairTake
  split
  · rfl
  · extract_lets diff unlit keepUnlit base q1 g1 g2 mine other gap s1
    have same : s1.cam.sensors = s.cam.sensors := congrArg CamSt.sensors (counted _)
    clear_value s1 other
    have again : (s1.inc F.TRK_CNT_UNPAIRED).cam.sensors = s.cam.sensors := (congrArg CamSt.sensors (s1.inc_cam _)).trans same
    split
    · exact put ..
    · split
      · rfl
      · split
        · exact (put ..).trans same
        · split
          · exact (put ..).trans again
          · split
            · exact (put ..).trans again
            · exact (put ..).trans same

theorem State.glintTake_sensors (s : State) (q : PairPic) (lit : Bool) : (s.glintTake q lit).cam.sensors = s.cam.sensors := by
  unfold State.glintTake
  split
  · rfl
  · refine State.each_proj (fun s => s.cam.sensors) _ (fun s p => ?_) _ s
    dsimp only
    split
    · rfl
    · refine (State.when_proj (fun s => s.cam.sensors) _ _ (fun s => s.pairTake_sensors ..)).trans ?_
      exact State.when_proj (fun s => s.cam.sensors) _ _ (fun s => s.pairTake_sensors ..)

/-! A frame that begins (R361). -/

/-- The state with other events and sensors. -/
def State.withSensors (s : State) (e : EvtSt) (l : List SensorSt) : State := { s with evt := e, cam := { s.cam with sensors := l } }

/-- Taking a buffer changes buffers and events alone. -/
theorem State.takeOut_eq (s : State) (n o : Nat) :
    ∃ e l, (s.takeOut n o).1 = s.withSensors e l ∧ l.map SensorSt.offBufs = s.sensorsOffBufs := by
  unfold State.takeOut
  extract_lets l
  split
  · exact ⟨s.evt, s.cam.sensors, rfl, rfl⟩
  · split
    · exact ⟨s.evt, _, rfl, s.modSensor_offBufs n _ (fun _ => rfl)⟩
    · obtain ⟨e, raised⟩ := s.raiseOnceI_eq 0xF21 bCAM n (n + 8 * o) (n + 256 * o) s.pound
      exact ⟨e, s.cam.sensors, raised, rfl⟩

theorem State.takeOuts_eq (s : State) (n : Nat) :
    ∃ e l, (s.takeOuts n).1 = s.withSensors e l ∧ l.map SensorSt.offBufs = s.sensorsOffBufs := by
  obtain ⟨e0, l0, first, same0⟩ := s.takeOut_eq n 0
  obtain ⟨e1, l1, second, same1⟩ := (s.takeOut n 0).1.takeOut_eq n 1
  obtain ⟨e2, l2, third, same2⟩ := ((s.takeOut n 0).1.takeOut n 1).1.takeOut_eq n 2
  refine ⟨e2, l2, ?_, ?_⟩
  · refine third.trans ?_
    rw [second, first]
    rfl
  · rw [same2, second]
    refine same1.trans ?_
    rw [first]
    exact same0

/-- An exposure set that begins to be written leaves the sensor's frames. -/
theorem State.expoAt_frames {s : State} {n : Nat} (held : n < s.cam.sensors.length) (num : Nat) :
    ((s.expoAt n num).sensor n).frames = (s.sensor n).frames ∧ ((s.expoAt n num).sensor n).next = (s.sensor n).next := by
  unfold State.expoAt
  split
  · exact ⟨rfl, rfl⟩
  · extract_lets x w
    split
    · exact ⟨rfl, rfl⟩
    · clear_value w
      split
      · exact ⟨rfl, rfl⟩
      · rw [State.cciKick_sensor, State.modSensor_sensor held]
        exact ⟨rfl, rfl⟩

section
variable {s : State} {n : Nat} (held : n < s.cam.sensors.length)
include held

theorem State.frameBegin_frame (none : (s.sensor n).cur = none) :
    ∃ f, f ∈ ((s.frameBegin n).sensor n).frames ∧ f.num = (s.sensor n).next ∧ f.fsAt = s.dev ∧ f.pound = s.pound ∧ f.set = s.cset ∧ f.got = 0 ∧
      f.ended = false ∧ ((s.frameBegin n).sensor n).next = ((s.sensor n).next + 1) % 65536 := by
  have kept : s.dropCur n 4 = s := by
    unfold State.dropCur
    rw [none]
  unfold State.frameBegin
  rw [kept]
  extract_lets _ a num
  have same : a.sensor n = { s.sensor n with frames := (s.sensor n).frames.filter (fun f => f.ended) } :=
    State.modSensor_sensor held (fun x => { x with frames := x.frames.filter (fun f => f.ended) })
  have next : num = (s.sensor n).next := (congrArg SensorSt.next same :)
  have length : n < a.cam.sensors.length := by
    simp only [a, State.modSensor_length]
    exact held
  have clock : a.dev = s.dev ∧ a.pound = s.pound ∧ a.cset = s.cset := ⟨rfl, rfl, rfl⟩
  clear_value a num
  obtain ⟨dev, pound, cset⟩ := clock
  obtain ⟨e, l, taken, bufs⟩ := a.takeOuts_eq n
  generalize a.takeOuts n = p at taken
  obtain ⟨v, outs⟩ := p
  dsimp only at taken ⊢
  have heldNow : n < v.cam.sensors.length := by
    have sameLength : v.sensorsOffBufs = a.sensorsOffBufs := by rw [taken]; exact bufs
    rw [State.sensorsOffBufs_length sameLength]
    exact length
  have latched : (v.frameLatched num outs).fsAt = s.dev ∧ (v.frameLatched num outs).pound = s.pound ∧ (v.frameLatched num outs).set = s.cset := by
    rw [taken]
    exact ⟨dev, pound, cset⟩
  generalize started : v.modSensor n _ = w
  have sensor : w.sensor n = _ := (congrArg (fun w => State.sensor w n) started.symm).trans (State.modSensor_sensor heldNow _)
  have heldThen : n < w.cam.sensors.length := by
    rw [← started, State.modSensor_length]
    exact heldNow
  obtain ⟨frames, counted⟩ := State.expoAt_frames heldThen num
  refine ⟨v.frameLatched num outs, ?_, next, latched.1, latched.2.1, latched.2.2, rfl, rfl, ?_⟩
  · rw [frames, sensor]
    exact List.mem_append_right _ (List.mem_singleton_self _)
  · rw [counted, sensor, next]

end

/-! The frame in progress, replaced (R362 to R366). -/

theorem SensorSt.cur_listed {x : SensorSt} {f : CamFrame} (cur : x.cur = some f) : f ∈ x.frames ∧ f.ended = false := by
  refine ⟨List.mem_of_find?_eq_some cur, ?_⟩
  simpa using List.find?_some cur

theorem SensorSt.cur_of_frames {x y : SensorSt} (same : x.frames = y.frames) : x.cur = y.cur := by
  unfold SensorSt.cur
  rw [same]

section
variable {x : SensorSt} {f : CamFrame} (cur : x.cur = some f) (unique : ∀ g ∈ x.frames, g.num = f.num → g = f)
include cur unique

theorem SensorSt.cur_find : x.frames.find? (fun g => g.num == f.num) = some f := by
  obtain ⟨listed, -⟩ := SensorSt.cur_listed cur
  cases found : x.frames.find? (fun g => g.num == f.num) with
  | none => exact absurd (beq_self_eq_true f.num) (List.find?_eq_none.mp found f listed)
  | some g => rw [unique g (List.mem_of_find?_eq_some found) (by simpa using List.find?_some found)]

theorem SensorSt.setFrame_cur {g : CamFrame} (num : g.num = f.num) (open_ : g.ended = false) : (x.setFrame g).cur = some g := by
  obtain ⟨-, pending⟩ := SensorSt.cur_listed cur
  have same : ∀ h ∈ x.frames, (!(if h.num = g.num then g else h).ended) = !h.ended := by
    intro h listed
    split
    · rename_i here
      rw [unique h listed (here.trans num), open_, pending]
    · rfl
  have replaced : (if f.num = g.num then g else f) = g := if_pos num.symm
  have mapped : (x.setFrame g).cur = (x.frames.map (fun h => if h.num = g.num then g else h)).find? (fun f => !f.ended) := rfl
  have first : x.frames.find? (fun f => !f.ended) = some f := cur
  rw [mapped, List.find?_map]
  generalize x.frames = l at same first
  induction l with
  | nil => cases first
  | cons h r found =>
    have here := same h List.mem_cons_self
    cases ended : h.ended with
    | false =>
      have head : some h = some f := by rwa [List.find?_cons_of_pos (by simp [ended])] at first
      rw [List.find?_cons_of_pos (by simpa [ended] using here), Option.map_some, Option.some.inj head, replaced]
    | true =>
      rw [List.find?_cons_of_neg (by simp [ended])] at first
      rw [List.find?_cons_of_neg (by simpa [ended] using here)]
      exact found (fun g listed => same g (List.mem_cons_of_mem _ listed)) first

end

/-- A frame dropped whole, until its end (R363, R364). -/
def CamFrame.discarded (f : CamFrame) : CamFrame := { f with dropped := true, waiting := [], taken := [], outs := [] }

section
variable {s : State} {n : Nat} {f : CamFrame} (held : n < s.cam.sensors.length) (cur : (s.sensor n).cur = some f) (whole : f.dropped = false)
  (unique : ∀ g ∈ (s.sensor n).frames, g.num = f.num → g = f)
include held cur whole unique

theorem State.dropCur_cur (cause : Nat) : ((s.dropCur n cause).sensor n).cur = some f.discarded := by
  obtain ⟨-, pending⟩ := SensorSt.cur_listed cur
  unfold State.dropCur
  rw [cur]
  dsimp only
  unfold State.dropCam
  rw [SensorSt.cur_find cur unique]
  dsimp only
  rw [if_neg (by simp [whole])]
  generalize outs : s.freeOuts n f.outs = a
  have bufs : a.sensorsOffBufs = s.sensorsOffBufs := by rw [← outs]; exact s.freeOuts_offBufs n f.outs
  have length : n < a.cam.sensors.length := by rw [State.sensorsOffBufs_length bufs]; exact held
  have frames : (a.sensor n).frames = (s.sensor n).frames := State.sensorsOffBufs_frames bufs n
  have curNow : (a.sensor n).cur = some f := (SensorSt.cur_of_frames frames).trans cur
  have uniqueNow : ∀ g ∈ (a.sensor n).frames, g.num = f.num → g = f := by rw [frames]; exact unique
  generalize dropped : a.modSensor n _ = b
  have sensor : b.sensor n = (a.sensor n).setFrame f.discarded := by
    rw [← dropped]
    refine (State.modSensor_sensor length _).trans ?_
    exact if_neg (by simp [pending])
  have swept : ((b.camSweep (cause == 5)).sensor n).frames = ((a.sensor n).setFrame f.discarded).frames := by
    rw [← sensor]
    exact State.sensorsOffBufs_frames (b.camSweep_offBufs _) n
  generalize b.camSweep (cause == 5) = w at swept
  generalize (F.CAM_Sn_CNT_DROPPED n) = g0
  generalize (if cause = 1 then F.CAM_DROP_CNT_OVERFLOW else F.CAM_DROP_CNT_ERROR) = g1
  obtain ⟨e, raised⟩ := ((w.inc g0).inc g1).raiseOnceI_eq 0xF20 bCAM n n n cause
  rw [raised, ← SensorSt.setFrame_cur (g := f.discarded) curNow uniqueNow rfl pending]
  refine SensorSt.cur_of_frames (Eq.trans ?_ swept)
  rfl

/-! A line of the frame (R357, R362 to R364). -/

section
variable {port crc : Nat} {c : CsiHead} {d tab : List Byte} (known : s.sensorAt port c.vc (some c.dt) = some n) (table : s.sensorTab n = some tab)
  (room : s.lineFill port + d.length ≤ 1048576)
include known table room

omit held unique in
theorem State.csiPayload_checks : s.csiPayload port c d crc =
    if csiCrc d ≠ crc then s.dropCur n 2
    else if d.length ≠ lineBytes c.dt (camWidth tab) ∨ camHeight tab ≤ f.got then s.dropCur n 4
    else s.modSensor n (fun x => x.setFrame { f with got := f.got + 1, waiting := f.waiting ++ [d] }) := by
  have sound : ¬ f.dropped = true := by simp [whole]
  have fits : State.makeRoom (s.portFrames port + 1) s port n d.length = s := if_pos room
  unfold State.csiPayload
  rw [known]
  dsimp only
  rw [cur, table]
  dsimp only
  rw [if_neg sound, fits, cur]
  exact if_neg sound

theorem State.csiPayload_appends (right : csiCrc d = crc) (length : d.length = lineBytes c.dt (camWidth tab)) (below : f.got < camHeight tab) :
    ((s.csiPayload port c d crc).sensor n).cur = some { f with got := f.got + 1, waiting := f.waiting ++ [d] } := by
  obtain ⟨-, pending⟩ := SensorSt.cur_listed cur
  rw [State.csiPayload_checks cur whole known table room, if_neg (not_not_intro right), if_neg (by omega), State.modSensor_sensor held]
  exact SensorSt.setFrame_cur cur unique rfl pending

theorem State.csiPayload_drops (wrong : csiCrc d ≠ crc) : ((s.csiPayload port c d crc).sensor n).cur = some f.discarded := by
  rw [State.csiPayload_checks cur whole known table room, if_pos wrong]
  exact State.dropCur_cur held cur whole unique 2

end

end

/-! A frame end (R361, R366). -/

/-- Publishing an output picture leaves the sensors but for their buffers. -/
theorem State.publish_offBufs {s : State} {n : Nat} {tab : List Byte} (known : s.sensorTab n = some tab) (f : CamFrame) :
    (s.publish n f).sensorsOffBufs = (s.modSensor n (fun x => x.dropFrame f.num)).sensorsOffBufs := by
  unfold State.publish
  rw [known]
  dsimp only
  generalize frameStats tab _ = stats
  generalize pipePlanes tab _ = planes
  generalize F.CAM_Sn_STAT0_SET_ID n = g0
  generalize F.CAM_Sn_STAT0_FRAME n = g1
  generalize F.CAM_Sn_STAT1_CLIP_PM n = g2
  generalize F.CAM_Sn_STAT1_MEAN n = g3
  generalize F.CAM_Sn_CNT_FRAMES n = g4
  refine (State.each_proj State.sensorsOffBufs _ (fun v q => ?_) f.outs _).trans rfl
  split
  · rfl
  · split
    · exact (State.sensorsOffBufs_of_cam (State.encCamera_cam ..)).trans (State.modSensor_offBufs _ n _ (fun _ => rfl))
    · refine (congrArg (List.map SensorSt.offBufs) (State.glintTake_sensors ..)).trans ?_
      exact State.modSensor_offBufs _ n _ (fun _ => rfl)

/-- A stop that waits for the end of the frame goes out. -/
def State.sensorStopDue (s : State) (n : Nat) : State := if (s.sensor n).stopDue then s.sensorStop n else s

/-- What follows the header of a frame end: a frame that is short is dropped, one that was dropped goes, another ends. -/
def State.frameEnd (s : State) (n : Nat) : State :=
  match (s.sensor n).cur, s.sensorTab n with
  | some f, some t =>
    let s := if ¬ f.dropped ∧ f.got ≠ camHeight t then s.dropCam n f.num 4 else s
    State.sensorStopDue
      (match (s.sensor n).cur with
       | some f =>
         if f.dropped then s.modSensor n (fun x => x.dropFrame f.num)
         else (s.modSensor n (fun x => x.setFrame { f with ended := true })).tryPublish n f.num
       | none => s) n
  | _, _ => s

theorem State.csiEnd_ends {s v : State} {port n : Nat} {h : List Byte} {lost : Option Nat} {c : CsiHead} (up : s.portUp port = true)
    (free : has s.mode mHOLD = false) (header : s.csiHeader port h lost = (v, some c)) (known : v.sensorAt port c.vc none = some n) :
    s.csiEnd port h lost = v.frameEnd n := by
  refine (if_neg (State.csi_on up free)).trans ?_
  rw [header]
  dsimp only
  rw [known]
  rfl

section
variable {s : State} {n : Nat} {f : CamFrame} {tab : List Byte} (held : n < s.cam.sensors.length) (cur : (s.sensor n).cur = some f)
  (whole : f.dropped = false) (table : s.sensorTab n = some tab) (full : f.got = camHeight tab) (runs : (s.sensor n).stopDue = false)

/-- The state with the frame of the sensor ended. -/
def State.frameEnded (s : State) (n : Nat) (f : CamFrame) : State := s.modSensor n (fun x => x.setFrame { f with ended := true })

include held in
theorem State.frameEnded_sensor (f : CamFrame) : (s.frameEnded n f).sensor n = (s.sensor n).setFrame { f with ended := true } :=
  State.modSensor_sensor held _

include cur whole table full in
theorem State.frameEnd_publishes (stays : (((s.frameEnded n f).tryPublish n f.num).sensor n).stopDue = false) :
    s.frameEnd n = (s.frameEnded n f).tryPublish n f.num := by
  have kept : (if ¬ f.dropped = true ∧ f.got ≠ camHeight tab then s.dropCam n f.num 4 else s) = s := if_neg (by simp [full])
  have sound : ¬ f.dropped = true := by simp [whole]
  unfold State.frameEnd
  rw [cur, table]
  dsimp only
  rw [kept, cur]
  dsimp only
  rw [if_neg sound]
  exact if_neg (fun due => Bool.false_ne_true (stays.symm.trans due))

include held cur in
theorem State.frameEnded_find : ((s.frameEnded n f).sensor n).frames.find? (fun g => g.num == f.num) = some { f with ended := true } := by
  rw [State.frameEnded_sensor held]
  exact SensorSt.setFrame_find (g := { f with ended := true }) (SensorSt.cur_listed cur).1 rfl

include held cur whole table full runs

/-- A frame with lines that wait has ended, and is not published yet. -/
theorem State.frameEnd_waits (waits : f.waiting ≠ []) : { f with ended := true } ∈ ((s.frameEnd n).sensor n).frames := by
  have found := State.frameEnded_find held cur
  have later : (s.frameEnded n f).tryPublish n f.num = s.frameEnded n f :=
    State.tryPublish_waits (f := { f with ended := true }) found (.inr waits)
  rw [State.frameEnd_publishes cur whole table full (by rw [later, State.frameEnded_sensor held]; exact runs), later]
  exact List.mem_of_find?_eq_some found

/-- A frame whose lines are all taken is published, and gone. -/
theorem State.frameEnd_taken (taken : f.waiting = []) : ∀ g ∈ ((s.frameEnd n).sensor n).frames, g.num ≠ f.num := by
  generalize ended : ({ f with ended := true } : CamFrame) = e
  have sound : e.ended = true ∧ e.waiting.isEmpty = true ∧ ¬ e.dropped = true := by simp [← ended, taken, whole]
  have num : e.num = f.num := by rw [← ended]
  have found : ((s.frameEnded n f).sensor n).frames.find? (fun g => g.num == f.num) = some e := by
    rw [State.frameEnded_find held cur, ended]
  have goes : (s.frameEnded n f).tryPublish n f.num = ((s.frameEnded n f).publish n e).camSweep false := by
    unfold State.tryPublish
    rw [found]
    exact if_pos sound
  have tableNow : (s.frameEnded n f).sensorTab n = some tab := table
  have heldNow : n < (s.frameEnded n f).cam.sensors.length := by
    unfold State.frameEnded
    rw [State.modSensor_length]
    exact held
  have offBufs : (((s.frameEnded n f).tryPublish n f.num).sensor n).offBufs = (((s.frameEnded n f).sensor n).dropFrame e.num).offBufs := by
    rw [goes, State.sensorsOffBufs_sensor ((State.camSweep_offBufs ..).trans (State.publish_offBufs tableNow e)), State.modSensor_sensor heldNow]
  have stays : (((s.frameEnded n f).tryPublish n f.num).sensor n).stopDue = false := by
    have same : (((s.frameEnded n f).tryPublish n f.num).sensor n).stopDue = ((s.frameEnded n f).sensor n).stopDue :=
      (congrArg SensorSt.stopDue offBufs :)
    rw [same, State.frameEnded_sensor held]
    exact runs
  have frames : (((s.frameEnded n f).tryPublish n f.num).sensor n).frames = ((s.frameEnded n f).sensor n).frames.filter (fun g => g.num ≠ e.num) :=
    (congrArg SensorSt.frames offBufs :)
  intro g listed
  rw [State.frameEnd_publishes cur whole table full stays, frames, num] at listed
  simpa using (List.mem_filter.mp listed).2

end

end Sys2Proof.Machine

namespace Sys2Proof.Proofs

open Machine

/-- Settles O36: a packet by its header, then the frame that begins, takes a line, is dropped or ends. -/
theorem cameraFramesArrive : Obligations.CameraFramesArrive := by
  intro s t port h lost d crc0 crc1 alive
  have start : exec (.csiFrameStart t port h lost) s = .next ((s.tick t).csiStart port h lost) :=
    State.live_alive t (fun s => s.csiStart port h lost) alive
  have line : exec (.csiLine t port h lost d crc0 crc1) s = .next ((s.tick t).csiLine port h lost d (le [crc0, crc1])) :=
    State.live_alive t (fun s => s.csiLine port h lost d (le [crc0, crc1])) alive
  have end_ : exec (.csiFrameEnd t port h lost) s = .next ((s.tick t).csiEnd port h lost) :=
    State.live_alive t (fun s => s.csiEnd port h lost) alive
  rw [start, line, end_]
  refine ⟨fun off => ?_, fun up free bad => ?_, fun c up free good unknown => ?_, fun n c fixed up free good held => ?_⟩
  · obtain ⟨noStart, noLine, noEnd⟩ := State.csi_off (s := s.tick t) (h := h) (lost := lost) off d (le [crc0, crc1])
    rw [noStart, noLine, noEnd]
    exact ⟨rfl, rfl, rfl⟩
  · obtain ⟨noStart, noLine, noEnd⟩ := State.csi_lost (s := s.tick t) up free (State.csiHeader_bad lost bad) d (le [crc0, crc1])
    rw [noStart, noLine, noEnd]
    exact ⟨rfl, rfl, rfl⟩
  · obtain ⟨noStart, noEnd⟩ := State.csi_unknown (s := s.tick t) up free (State.csiHeader_good lost good) unknown
    rw [noStart, noEnd]
    exact ⟨rfl, rfl⟩
  · have header := State.csiHeader_good (s := s.tick t) (port := port) lost good
    obtain ⟨v, read, cam, at_, table, fill, now⟩ : ∃ v, (s.tick t).csiHeader port h lost = (v, some c) ∧ v.cam = s.cam ∧
        (∀ vc dt, v.sensorAt port vc dt = s.sensorAt port vc dt) ∧ (v.sensorTab n = s.sensorTab n) ∧ v.lineFill port = s.lineFill port ∧
        (v.dev = (s.tick t).dev ∧ v.pound = s.pound ∧ v.cset = s.cset) := by
      refine ⟨_, header, ?_⟩
      generalize F.CAM_PKT_ERR_ECC_CORR = g
      cases fixed <;> exact ⟨rfl, fun _ _ => rfl, rfl, rfl, rfl, rfl, rfl⟩
    have sensor : v.sensor n = s.sensor n := State.sensor_of_cam (congrArg CamSt.sensors cam) n
    have heldNow : n < v.cam.sensors.length := by rw [cam]; exact held
    rw [← sensor, ← table, ← fill, ← at_, ← at_]
    refine ⟨fun known streams none => ?_, fun f tab known cur whole unique => ⟨fun lineAt long room => ⟨fun right length below => ?_, fun wrong => ?_⟩,
      fun endAt full runs => ⟨_, rfl, ?_⟩⟩⟩
    · obtain ⟨f, listed, num, dev, pound, cset, got, pending, next⟩ := State.frameBegin_frame heldNow none
      obtain ⟨devNow, poundNow, csetNow⟩ := now
      rw [State.csiStart_begins (s := s.tick t) up free read known streams]
      exact ⟨_, f, rfl, listed, num, dev.trans devNow, pound.trans poundNow, cset.trans csetNow, got, pending, next⟩
    · rw [State.csiLine_payload (s := s.tick t) up free read long]
      exact ⟨_, rfl, State.csiPayload_appends heldNow cur whole unique lineAt known room right length below⟩
    · rw [State.csiLine_payload (s := s.tick t) up free read long]
      exact ⟨_, f.discarded, rfl, State.csiPayload_drops heldNow cur whole unique lineAt known room wrong, rfl, rfl⟩
    · rw [State.csiEnd_ends (s := s.tick t) up free read endAt]
      exact ⟨State.frameEnd_waits heldNow cur whole known full runs, State.frameEnd_taken heldNow cur whole known full runs⟩

end Sys2Proof.Proofs

namespace Sys2Proof.Machine

/-! A message arrives (R395, R396): its number is marked, and a DELTA that becomes whole goes to the engine (R399, R420). -/

theorem State.allocs_rd (s : State) (cls n : Nat) {f : Fld} (offLow : f.addr ≠ F.BASIN_FREE_LOW_LOW.addr)
    (offFail : f.addr ≠ F.BASIN_ALLOC_FAIL_COUNT.addr) : (s.allocs cls n).2.rd f = s.rd f := by
  unfold State.allocs
  split
  · exact State.rd_wr_other _ _ f _ offLow
  · unfold State.allocFail
    obtain ⟨e, raised⟩ := (s.inc F.BASIN_ALLOC_FAIL_COUNT).raiseOnce_eq 0xA04 bBASIN cls cls s.pound
    refine (congrArg (fun v => State.rd v f) raised).trans ?_
    exact State.rd_inc_other s offFail

/-- The pair without what its receiver keeps of messages. -/
def PairSt.offMsgs (p : PairSt) : PairSt := { p with frags := [], rxSeq := none, gaps := [] }

theorem PairSt.mark_offMsgs (p : PairSt) (q : Nat) : (p.mark q).offMsgs = p.offMsgs := by
  unfold PairSt.mark
  split
  · rfl
  · split <;> rfl

/-- The state without what a message that has come, or a DELTA that goes to the engine, reaches. -/
def State.offMsgs (s : State) : State := { s.offAlloc with lz := LzSt.reset, pair := s.pair.offMsgs }

/-- The same with a field of the live ledger. -/
def State.msgView (s : State) (f : Fld) : State × Nat := (s.offMsgs, s.rd f)

theorem State.offMsgs_of_offAlloc {s v : State} (same : v.offAlloc = s.offAlloc) : v.offMsgs = s.offMsgs :=
  (congrArg (fun w : State => State.offMsgs w) same :)

theorem State.modPair_msgView (s : State) (g : PairSt → PairSt) (f : Fld) (off : (g s.pair).offMsgs = s.pair.offMsgs) :
    (s.modPair g).msgView f = s.msgView f :=
  (congrArg (fun p : PairSt => (({ s.offAlloc with lz := LzSt.reset, pair := p } : State), s.rd f)) off :)

theorem State.lzSubmit_msgView {f : Fld} (offLow : f.addr ≠ F.BASIN_FREE_LOW_LOW.addr) (offFail : f.addr ≠ F.BASIN_ALLOC_FAIL_COUNT.addr)
    (s : State) (j : LzJob) (src : List Byte) : (s.lzSubmit j src).2.msgView f = s.msgView f := by
  unfold State.lzSubmit
  split
  · rfl
  · have off := s.allocs_offAlloc (lzClass j.queue) (ceilDiv src.length moorSize + ceilDiv j.space moorSize)
    have read := s.allocs_rd (lzClass j.queue) (ceilDiv src.length moorSize + ceilDiv j.space moorSize) offLow offFail
    generalize s.allocs (lzClass j.queue) (ceilDiv src.length moorSize + ceilDiv j.space moorSize) = r at off read
    obtain ⟨_ | l, v⟩ := r
    · exact Prod.ext (State.offMsgs_of_offAlloc off) read
    · have queued : (v.lzQueue j src l).offMsgs = v.offMsgs := rfl
      exact Prod.ext (queued.trans (State.offMsgs_of_offAlloc off)) read

theorem State.deltaTry_msgView {f : Fld} (status : f.addr = R.TOW_STATUS ∨ f.addr = R.BASIN_STATUS) (s : State) :
    s.deltaTry.msgView f = s.msgView f := by
  have offLow : f.addr ≠ F.BASIN_FREE_LOW_LOW.addr := by rcases status with h | h <;> rw [h] <;> decide
  have offFail : f.addr ≠ F.BASIN_ALLOC_FAIL_COUNT.addr := by rcases status with h | h <;> rw [h] <;> decide
  unfold State.deltaTry
  split
  · rfl
  · refine State.each_proj (fun s => s.msgView f) _ (fun s kind => ?_) _ s
    unfold State.deltaTryKind
    extract_lets l r
    refine (State.each_proj (fun s => s.msgView f) _ (fun s run => s.lzSubmit_msgView offLow offFail _ _) r.1 _).trans ?_
    exact State.modPair_msgView s _ f rfl

section
variable {s : State} {m : TowMsg} {k : Nat}

/-- A sound message of a lane: whether it is acted on as one of type `k`, and its number marked. -/
theorem State.receive_good (paired : s.paired = true) (lane : m.lane < 4) (ok : m.ok = true) :
    s.receive k m = (m.mtype == k && (k == 4 || s.towUp), State.deltaTry (s.modPair (fun p => p.mark m.mseq))) := by
  have here : ¬ (¬ s.paired = true ∨ 4 ≤ m.lane) := by simp [paired, lane]
  refine (if_neg here).trans ?_
  refine (if_neg (not_not_intro ok)).trans ?_
  rfl

theorem State.receive_bad (paired : s.paired = true) (lane : m.lane < 4) (bad : m.ok = false) : s.receive k m = (false, s.inc F.TOW_MSG_CNT_BAD) := by
  have here : ¬ (¬ s.paired = true ∨ 4 ≤ m.lane) := by simp [paired, lane]
  refine (if_neg here).trans ?_
  exact if_pos (by simp [bad])

theorem State.receive_unpaired (unpaired : s.paired = false) : s.receive k m = (false, s) := if_pos (.inl (by simp [unpaired]))

theorem State.marked_msgView {f : Fld} (status : f.addr = R.TOW_STATUS ∨ f.addr = R.BASIN_STATUS) (s : State) (q : Nat) :
    (State.deltaTry (s.modPair (fun p => p.mark q))).msgView f = s.msgView f :=
  (State.deltaTry_msgView status _).trans (s.modPair_msgView _ f (s.pair.mark_offMsgs q))

end

/-! A message is sent (R395, R396). -/

/-- The pair without what its sender keeps of messages. -/
def PairSt.offSent (p : PairSt) : PairSt := { p with past := [], drained := [], queue := [], out := [], txSeq := 0 }

/-- The state without what its sender keeps of messages. -/
def State.offSent (s : State) : State := { s with pair := s.pair.offSent }

theorem State.sendOn_offSent (s : State) (n mtype : Nat) (data : List Byte) : (s.sendOn n mtype data).offSent = s.offSent := rfl

theorem State.sendTow_offSent (s : State) (mtype : Nat) (data : List Byte) : (s.sendTow mtype data).offSent = s.offSent := by
  unfold State.sendTow
  split
  · rfl
  · split
    · exact s.sendOn_offSent ..
    · rfl

/-! A takeover is decided (R406, R407). -/

/-- The pair with a takeover decided. -/
def PairSt.decided (p : PairSt) (cause kind t : Nat) : PairSt :=
  { p with take := some { cause := cause, kind := kind, t := t, committed := false }, ownMiss := 0 }

theorem State.decideTake_decides (s : State) (cause t : Nat) : ∃ kind,
    (s.decideTake cause t).pair.offSent = (s.pair.decided cause kind t).offSent ∧ (s.decideTake cause t).lock.running = s.lock.running ∧
      (s.decideTake cause t).lock.nextPound = s.lock.nextPound := by
  unfold State.decideTake
  extract_lets kind a b c
  have decided : b.pair = s.pair.decided cause kind t ∧ b.lock = s.lock := ⟨rfl, rfl⟩
  clear_value b
  obtain ⟨pair, lock⟩ := decided
  have noted : c.pair = b.pair ∧ c.lock.running = b.lock.running ∧ c.lock.nextPound = b.lock.nextPound := by
    simp only [c]
    split
    · obtain ⟨led, evt, recover, noted⟩ := b.noteFaultIn_eq 0xF43 true
      rw [noted]
      exact ⟨rfl, rfl, rfl⟩
    · exact ⟨rfl, rfl, rfl⟩
  clear_value c
  have sent := c.sendTow_offSent 5 (takeData t cause)
  have sentPair : (c.sendTow 5 (takeData t cause)).pair.offSent = c.pair.offSent := congrArg State.pair sent
  have sentLock : (c.sendTow 5 (takeData t cause)).lock = c.lock := (congrArg State.lock sent :)
  obtain ⟨told, runs, pound⟩ := noted
  refine ⟨kind, ?_, ?_, ?_⟩
  · rw [sentPair, told, pair]
  · rw [sentLock, runs, lock]
  · rw [sentLock, pound, lock]

theorem State.decideTake_take (s : State) (cause t : Nat) : ∃ k, (s.decideTake cause t).pair.take = some k ∧ k.cause = cause ∧ k.t = t ∧ k.committed = false := by
  obtain ⟨kind, pair, -⟩ := s.decideTake_decides cause t
  exact ⟨_, (congrArg PairSt.take pair :), rfl, rfl, rfl⟩

section
variable {s : State}

/-- A follower that may take over, with no takeover under way, decides one. -/
theorem State.takeOver_takes (follows : s.follows = true) (may : s.mayTake = true) (none : s.pair.take = none) (cause t : Nat) :
    ∃ k, (s.takeOver cause t).pair.take = some k ∧ k.cause = cause ∧ k.t = t ∧ k.committed = false := by
  have goes : s.takeOver cause t = s.decideTake cause t := if_neg (by simp [follows, may, none])
  rw [goes]
  exact s.decideTake_take cause t

/-! By command, by the partner's fault and at the end of the wait to join (R406, R410 to R412). -/

theorem State.cmdTake_idle {v : Nat} (idle : bitsOf v 31 16 ≠ 0x544B ∨ bitAt v 0 = false) : s.cmdTake v = s :=
  if_pos (idle.imp_right (fun clear => by simp [clear]))

theorem State.cmdYield_idle {v : Nat} (idle : bitsOf v 31 16 ≠ 0x544B ∨ bitAt v 1 = false) : s.cmdYield v = s :=
  if_pos (idle.imp_right (fun clear => by simp [clear]))

section
variable {v : Nat} (key : bitsOf v 31 16 = 0x544B)
include key

theorem State.cmdTake_refused (set : bitAt v 0 = true) (refused : s.follows = false ∨ s.mayTake = false) :
    s.cmdTake v = s.raise 0xF46 bTOW s.pound 3 := by
  refine (if_neg (by simp [key, set])).trans (if_pos ?_)
  exact refused.imp (fun h => by simp [h]) (fun h => by simp [h])

theorem State.cmdTake_takes (set : bitAt v 0 = true) (follows : s.follows = true) (may : s.mayTake = true) :
    s.cmdTake v = s.takeOver 5 s.commitPound :=
  (if_neg (by simp [key, set])).trans (if_neg (by simp [follows, may]))

theorem State.cmdYield_refused (set : bitAt v 1 = true) (refused : s.owns = false) : s.cmdYield v = s.raise 0xF46 bTOW s.pound 3 :=
  (if_neg (by simp [key, set])).trans (if_pos (by simp [refused]))

theorem State.cmdYield_yields (set : bitAt v 1 = true) (owns : s.owns = true) : (s.cmdYield v).pair.yieldT = some (poundAdd s.pound 3) := by
  have goes : s.cmdYield v = (s.modPair (fun p => { p with yieldT := some (poundAdd s.pound 3), yieldAns := false })).sendTow 6
      (takeData (poundAdd s.pound 3) 4) := (if_neg (by simp [key, set])).trans (if_neg (by simp [owns]))
  rw [goes]
  exact (congrArg (fun w : State => w.pair.yieldT) (State.sendTow_offSent ..) :)

end

theorem State.partnerFault_idle (idle : s.cm F.TOW_CFG_FAULT_EN = 0 ∨ s.lock.running = false) : s.partnerFault = s := by
  refine if_neg (fun acts => ?_)
  obtain ⟨enabled, runs⟩ := acts
  rcases idle with off | stands
  · omega
  · simp [stands] at runs

theorem State.partnerFault_takes (enabled : s.cm F.TOW_CFG_FAULT_EN = 1) (runs : s.lock.running = true) : s.partnerFault = s.takeOver 1 s.commitPound :=
  if_pos ⟨enabled, runs⟩

theorem State.joinTimeout_idle (idle : s.pair.joinWait = false) : s.joinTimeout = s := if_pos (by simp [idle])

/-- The state in which a device that has waited to join decides its takeover. -/
def State.joinAlone (s : State) : State :=
  let s := (s.modPair (fun p => { p with joinWait := false, own := false })).startPounds
  let c := { s.cset with own := false }
  { s with lock := { s.lock with iset := s.lock.iset ||| 0x20#8 },
           led := if s.led.index then { s.led with bank1 := c } else { s.led with bank0 := c } }

theorem State.joinAlone_starts (s : State) : s.joinAlone.lock.running = true ∧ s.joinAlone.lock.nextPound = 0 ∧
    s.joinAlone.pair.joinWait = false ∧ s.joinAlone.pair.own = false := by
  obtain ⟨runs, pound, -⟩ := (s.modPair (fun p => { p with joinWait := false, own := false })).startPounds_starts
  unfold State.joinAlone
  extract_lets v c
  have pair : v.pair = { s.pair with joinWait := false, own := false } := rfl
  exact ⟨runs, pound, (congrArg PairSt.joinWait pair :), (congrArg PairSt.own pair :)⟩

theorem State.joinTimeout_takes (waits : s.pair.joinWait = true) :
    ∃ k, s.joinTimeout.pair.joinWait = false ∧ s.joinTimeout.pair.own = false ∧ s.joinTimeout.lock.running = true ∧ s.joinTimeout.lock.nextPound = 0 ∧
      s.joinTimeout.pair.take = some k ∧ k.cause = 2 ∧ k.t = 0 := by
  have goes : s.joinTimeout = s.joinAlone.decideTake 2 0 := if_neg (by simp [waits])
  obtain ⟨runs, pound, wait, own⟩ := s.joinAlone_starts
  obtain ⟨kind, taken, running, nextPound⟩ := s.joinAlone.decideTake_decides 2 0
  rw [goes, running, nextPound]
  exact ⟨_, (congrArg PairSt.joinWait taken :).trans wait, (congrArg PairSt.own taken :).trans own, runs, pound, (congrArg PairSt.take taken :), rfl, rfl⟩

end

/-! By message (R401, R407, R409, R410). -/

section
variable {s : State} {t : Nat}

theorem State.dropOwn_keeps (keeps : s.owns = false ∨ s.pair.dropT.isSome = true) : s.dropOwn t = s :=
  if_pos (keeps.imp_left (fun h => by simp [h]))

/-- The pound at which a device to which TAKE names `t` drops ownership. -/
def State.dropAt (s : State) (t : Nat) : Nat := if laterPound s.commitPound t then s.commitPound else t

theorem State.dropOwn_drops (owns : s.owns = true) (stays : s.pair.dropT = none) :
    (s.dropOwn t).pair.take = none ∧ (s.dropOwn t).pair.dropT = some (s.dropAt t) ∧
      (s.pair.yieldT = some t → (s.dropOwn t).pair.yieldAns = true ∧ (s.dropOwn t).pair.yieldT = s.pair.yieldT) := by
  have goes : ¬ (¬ s.owns = true ∨ s.pair.dropT.isSome = true) := by simp [owns, stays]
  unfold State.dropOwn
  rw [if_neg goes]
  by_cases answers : s.pair.yieldT = some t
  · rw [if_pos answers]
    exact ⟨rfl, rfl, fun _ => ⟨rfl, rfl⟩⟩
  · rw [if_neg answers]
    exact ⟨rfl, rfl, fun own => absurd own answers⟩

theorem State.answerTake_drops (free : ∀ k, s.pair.take = some k → laterPound k.t s.pound = false) : s.answerTake t = s.dropOwn t := by
  unfold State.answerTake
  cases take : s.pair.take with
  | none => rfl
  | some k => exact if_pos (by simp [free k take])

section
variable {k : Takeover} (take : s.pair.take = some k) (ahead : laterPound k.t s.pound = true)
include take ahead

/-- Of two takeovers not yet opened that of side A stands. -/
theorem State.answerTake_stands (stands : s.side ≠ 2 ∨ laterPound t s.pound = false) : s.answerTake t = s := by
  unfold State.answerTake
  rw [take]
  refine (if_neg (by simp [ahead])).trans (if_neg (fun gives => ?_))
  obtain ⟨sideB, open_⟩ := gives
  rcases stands with sideA | past
  · exact sideA sideB
  · simp [past] at open_

theorem State.answerTake_withdraws (sideB : s.side = 2) (open_ : laterPound t s.pound = true) :
    (s.answerTake t).pair.take = none ∧ (s.answerTake t).pair.dropT = if k.committed then some s.commitPound else s.pair.dropT := by
  have goes : s.answerTake t = s.withdraw k := by
    unfold State.answerTake
    rw [take]
    exact (if_neg (by simp [ahead])).trans (if_pos ⟨sideB, open_⟩)
  rw [goes]
  exact ⟨rfl, rfl⟩

end

end

/-- The state in which a sound message has been marked, and the DELTAs that it completes have gone on. -/
def State.marked (s : State) (m : TowMsg) : State := State.deltaTry (s.modPair (fun p => p.mark m.mseq))

theorem State.marked_offMsgs (s : State) (m : TowMsg) : (s.marked m).offMsgs = s.offMsgs :=
  congrArg Prod.fst (State.marked_msgView (f := F.TOW_STATUS_UP) (.inl rfl) s m.mseq)

theorem State.marked_rd (s : State) (m : TowMsg) {f : Fld} (status : f.addr = R.TOW_STATUS ∨ f.addr = R.BASIN_STATUS) :
    (s.marked m).rd f = s.rd f :=
  congrArg Prod.snd (State.marked_msgView status s m.mseq)

theorem State.marked_hot (s : State) (m : TowMsg) : (s.marked m).hot = s.hot := by
  have paired : (s.marked m).paired = s.paired := (congrArg State.paired (s.marked_offMsgs m) :)
  unfold State.hot
  rw [paired, s.marked_rd m (f := F.TOW_STATUS_HOT) (.inl rfl)]

theorem State.marked_mayTake (s : State) (m : TowMsg) : (s.marked m).mayTake = s.mayTake := by
  have fault : (s.marked m).pwr = s.pwr := (congrArg State.pwr (s.marked_offMsgs m) :)
  unfold State.mayTake
  rw [fault, s.marked_rd m (f := F.BASIN_STATUS_READY) (.inr rfl)]

theorem State.marked_role (s : State) (m : TowMsg) : (s.marked m).owns = s.owns ∧ (s.marked m).follows = s.follows ∧ (s.marked m).side = s.side ∧
    (s.marked m).pound = s.pound ∧ (s.marked m).commitPound = s.commitPound :=
  have off := s.marked_offMsgs m
  ⟨(congrArg State.owns off :), (congrArg State.follows off :), (congrArg State.side off :), (congrArg State.pound off :), (congrArg State.commitPound off :)⟩

theorem State.marked_pair (s : State) (m : TowMsg) : (s.marked m).pair.offMsgs = s.pair.offMsgs := (congrArg State.pair (s.marked_offMsgs m) :)

section
variable {s : State} {m : TowMsg} (paired : s.paired = true) (lane : m.lane < 4) (ok : m.ok = true)
include paired lane ok

theorem State.towTake_marks (other : m.mtype ≠ 5 ∨ s.towUp = false) : s.towTake m = s.marked m := by
  unfold State.towTake
  rw [State.receive_good paired lane ok]
  refine if_neg ?_
  rcases other with type | down
  · simp [type]
  · simp [down]

theorem State.towTake_answers (type : m.mtype = 5) (up : s.towUp = true) : s.towTake m = (s.marked m).answerTake (beAt m.data 0 4) := by
  unfold State.towTake
  rw [State.receive_good paired lane ok]
  exact if_pos (by simp [type, up])

theorem State.towYield_marks (idle : m.mtype ≠ 6 ∨ s.towUp = false ∨ s.hot = false ∨ s.rd F.TOW_STATUS_FIT ≠ 1 ∨
    laterPound s.commitPound (beAt m.data 0 4) = true) : s.towYield m = s.marked m := by
  have fit := s.marked_rd m (f := F.TOW_STATUS_FIT) (.inl rfl)
  obtain ⟨-, -, -, -, commit⟩ := s.marked_role m
  unfold State.towYield
  rw [State.receive_good paired lane ok]
  refine if_neg (fun answers => ?_)
  rw [← State.marked, s.marked_hot m, fit, commit] at answers
  obtain ⟨here, hot, isFit, inTime⟩ := answers
  rcases idle with type | down | cold | unfit | late
  · simp [type] at here
  · simp [down] at here
  · simp [cold] at hot
  · exact unfit isFit
  · exact inTime late

theorem State.towYield_takes (type : m.mtype = 6) (up : s.towUp = true) (hot : s.hot = true) (isFit : s.rd F.TOW_STATUS_FIT = 1)
    (inTime : laterPound s.commitPound (beAt m.data 0 4) = false) : s.towYield m = (s.marked m).takeOver 4 (beAt m.data 0 4) := by
  have fit := s.marked_rd m (f := F.TOW_STATUS_FIT) (.inl rfl)
  obtain ⟨-, -, -, -, commit⟩ := s.marked_role m
  unfold State.towYield
  rw [State.receive_good paired lane ok]
  refine if_pos ?_
  rw [← State.marked, s.marked_hot m, fit, commit]
  exact ⟨by simp [type, up], hot, isFit, by simp [inTime]⟩

end

end Sys2Proof.Machine

namespace Sys2Proof.Proofs

open Machine

/-- Settles O42: a command, a fault or a message that does not apply changes nothing else; the others decide a takeover, a yield or a drop. -/
theorem takesAndYields : Obligations.TakesAndYields := by
  intro s t m v alive
  have cmdTake : exec (.towCmdTake t v) s = .next ((s.tick t).cmdTake v.toNat) := State.live_alive t (fun s => s.cmdTake v.toNat) alive
  have cmdYield : exec (.towCmdYield t v) s = .next ((s.tick t).cmdYield v.toNat) := State.live_alive t (fun s => s.cmdYield v.toNat) alive
  have fault : exec (.partnerFault t) s = .next (s.tick t).partnerFault := State.live_alive t State.partnerFault alive
  have join : exec (.joinWaitTimeout t) s = .next (s.tick t).joinTimeout := State.live_alive t State.joinTimeout alive
  have take : exec (.towTake t m) s = .next ((s.tick t).towTake m) := State.live_alive t (fun s => s.towTake m) alive
  have yield_ : exec (.towYield t m) s = .next ((s.tick t).towYield m) := State.live_alive t (fun s => s.towYield m) alive
  obtain ⟨owns, follows, side, pound, commit⟩ := (s.tick t).marked_role m
  have pair := (s.tick t).marked_pair m
  have taking : ((s.tick t).marked m).pair.take = s.pair.take := (congrArg PairSt.take pair :)
  have dropping : ((s.tick t).marked m).pair.dropT = s.pair.dropT := (congrArg PairSt.dropT pair :)
  have yielding : ((s.tick t).marked m).pair.yieldT = s.pair.yieldT := (congrArg PairSt.yieldT pair :)
  have at_ : ((s.tick t).marked m).dropAt (beAt m.data 0 4) = s.dropAt (beAt m.data 0 4) := by
    unfold State.dropAt
    rw [commit]
    rfl
  rw [cmdTake, cmdYield, fault, join, take, yield_]
  refine ⟨fun idle => ?_, fun idle => ?_, fun key set refused => ?_, fun key set follow may none => ?_, fun key set refused => ?_, fun key set own => ?_,
    fun idle => ?_, fun enabled runs follow may none => ?_, fun idle => ?_, fun waits => ?_, fun paired lane ok => ⟨fun other => ?_, fun idle => ?_⟩,
    fun paired lane ok type up => ⟨fun free => ⟨fun own stays => ?_, fun keeps => ?_⟩, fun k take ahead stands => ?_, fun k take ahead sideB open_ => ?_⟩,
    fun paired lane ok type up hot fit inTime follow may none => ?_⟩
  · rw [State.cmdTake_idle idle]
  · rw [State.cmdYield_idle idle]
  · rw [State.cmdTake_refused (s := s.tick t) key set refused]
    rfl
  · obtain ⟨k, taken, cause, at_, committed⟩ := State.takeOver_takes (s := s.tick t) follow may none 5 (s.tick t).commitPound
    rw [State.cmdTake_takes (s := s.tick t) key set follow may]
    exact ⟨_, k, rfl, taken, cause, at_, committed⟩
  · rw [State.cmdYield_refused (s := s.tick t) key set refused]
    rfl
  · exact ⟨_, rfl, State.cmdYield_yields (s := s.tick t) key set own⟩
  · rw [State.partnerFault_idle (s := s.tick t) idle]
  · obtain ⟨k, taken, cause, at_, -⟩ := State.takeOver_takes (s := s.tick t) follow may none 1 (s.tick t).commitPound
    rw [State.partnerFault_takes (s := s.tick t) enabled runs]
    exact ⟨_, k, rfl, taken, cause, at_⟩
  · rw [State.joinTimeout_idle (s := s.tick t) idle]
  · obtain ⟨k, waitsNot, own, runs, first, taken, cause, at_⟩ := State.joinTimeout_takes (s := s.tick t) waits
    exact ⟨_, k, rfl, waitsNot, own, runs, first, taken, cause, at_⟩
  · rw [State.towTake_marks (s := s.tick t) paired lane ok other]
    rfl
  · rw [State.towYield_marks (s := s.tick t) paired lane ok idle]
    rfl
  · have free' : ∀ k, ((s.tick t).marked m).pair.take = some k → laterPound k.t ((s.tick t).marked m).pound = false := by
      rw [taking, pound]
      exact free
    obtain ⟨taken, drops, answered⟩ := State.dropOwn_drops (t := beAt m.data 0 4) (owns.trans own) (dropping.trans stays)
    rw [State.towTake_answers (s := s.tick t) paired lane ok type up, State.answerTake_drops free']
    rw [at_] at drops
    rw [yielding] at answered
    exact ⟨_, rfl, taken, drops, answered⟩
  · have free' : ∀ k, ((s.tick t).marked m).pair.take = some k → laterPound k.t ((s.tick t).marked m).pound = false := by
      rw [taking, pound]
      exact free
    rw [State.towTake_answers (s := s.tick t) paired lane ok type up, State.answerTake_drops free', State.dropOwn_keeps (by rw [owns, dropping]; exact keeps)]
    rfl
  · rw [State.towTake_answers (s := s.tick t) paired lane ok type up,
      State.answerTake_stands (taking.trans take) (by rw [pound]; exact ahead) (by rw [side, pound]; exact stands)]
    rfl
  · obtain ⟨taken, drops⟩ := State.answerTake_withdraws (t := beAt m.data 0 4) (taking.trans take) (by rw [pound]; exact ahead) (side.trans sideB)
      (by rw [pound]; exact open_)
    rw [State.towTake_answers (s := s.tick t) paired lane ok type up]
    rw [commit, dropping] at drops
    exact ⟨_, rfl, taken, drops⟩
  · obtain ⟨k, taken, cause, at_, -⟩ := State.takeOver_takes (follows.trans follow) (((s.tick t).marked_mayTake m).trans may) (taking.trans none) 4
      (beAt m.data 0 4)
    rw [State.towYield_takes (s := s.tick t) paired lane ok type up hot fit inTime]
    exact ⟨_, k, rfl, taken, cause, at_⟩

end Sys2Proof.Proofs

namespace Sys2Proof.Machine

/-! What the pair's operations leave of the lock and of the count of heartbeats (R393 to R397). -/

/-- The lock, and of the pair what heartbeats count. -/
def State.beats (s : State) : LockSt × Bool × Bool × Nat × Nat × Option PartnerHb :=
  (s.lock, s.pair.heard, s.pair.hbOut, s.pair.missRun, s.pair.sinceHb, s.pair.hb)

theorem State.wr_beats (s : State) (f : Fld) (v : Nat) : (s.wr f v).beats = s.beats := rfl

theorem State.inc_beats (s : State) (f : Fld) : (s.inc f).beats = s.beats := rfl

theorem State.raise_beats (s : State) (code block arg0 arg1 : Nat) : (s.raise code block arg0 arg1).beats = s.beats := rfl

theorem State.raiseOnce_beats (s : State) (code block key arg0 arg1 : Nat) : (s.raiseOnce code block key arg0 arg1).beats = s.beats := by
  obtain ⟨e, raised⟩ := s.raiseOnce_eq code block key arg0 arg1
  rw [raised]
  rfl

theorem State.unfit_beats (s : State) (cause : Nat) : (s.unfit cause).beats = s.beats := by
  unfold State.unfit
  extract_lets v
  split
  · rfl
  · exact (State.raise_beats ..).trans (v.wr_beats ..)

theorem State.fitCheck_beats (s : State) : s.fitCheck.beats = s.beats := by
  unfold State.fitCheck
  split
  · rfl
  · split
    · exact (State.raise_beats ..).trans (s.wr_beats ..)
    · rfl

theorem State.laneUse_beats (s : State) (lost : Bool) : (s.laneUse lost).beats = s.beats := by
  unfold State.laneUse
  extract_lets tx rx need up was old a b c
  have used : a.beats = s.beats := (State.wr_beats ..).trans (s.wr_beats ..)
  have told : b.beats = a.beats := by
    simp only [b]
    split
    · exact State.raise_beats ..
    · rfl
  have sick : c.beats = b.beats := by
    simp only [c]
    split <;> rfl
  split
  · rfl
  · refine (State.fitCheck_beats _).trans ?_
    exact (State.when_proj State.beats c _ (fun s => s.unfit_beats 3)).trans (sick.trans (told.trans used))

theorem State.sendOn_beats (s : State) (n mtype : Nat) (data : List Byte) : (s.sendOn n mtype data).beats = s.beats := rfl

theorem State.sendTow_beats (s : State) (mtype : Nat) (data : List Byte) : (s.sendTow mtype data).beats = s.beats :=
  (congrArg State.beats (s.sendTow_offSent mtype data) :)

theorem State.repeatTake_beats (s : State) : s.repeatTake.beats = s.beats := by
  unfold State.repeatTake
  extract_lets v
  have again : v.beats = s.beats := by
    simp only [v]
    split
    · split
      · rfl
      · exact s.sendTow_beats ..
    · rfl
  clear_value v
  split
  · exact (v.sendTow_beats ..).trans again
  · exact again

theorem State.sendDelta_beats (s : State) (kind pound : Nat) (body : List Byte) : (s.sendDelta kind pound body).2.beats = s.beats := by
  unfold State.sendDelta
  split
  · rfl
  · have off := congrArg Prod.fst (s.lzSubmit_msgView (f := F.TOW_STATUS_UP) (by decide) (by decide)
      (lzNew 1 false 65536 (2 * body.length + 65536) (.delta kind pound)) body)
    exact (congrArg State.beats off :)

theorem State.sendSurface_beats (s : State) (j : Nat) (x : Nat × Nat) : (s.sendSurface j x).2.beats = s.beats := by
  unfold State.sendSurface
  split
  · rfl
  · exact s.sendDelta_beats ..

theorem State.putSurfaces_beats (j : Nat) : ∀ (l : List (Nat × Nat)) (s : State), (s.putSurfaces j l).beats = s.beats
  | [], _ => rfl
  | x :: r, s => by
    have sent := s.sendSurface_beats j x
    rw [State.putSurfaces]
    split
    · rename_i v taken
      rw [taken] at sent
      exact (State.putSurfaces_beats j r v).trans sent
    · rename_i v full
      rw [full] at sent
      exact sent

theorem State.moreSurfaces_beats (s : State) : s.moreSurfaces.beats = s.beats := by
  unfold State.moreSurfaces
  split
  · split
    · rfl
    · split
      · exact State.putSurfaces_beats ..
      · rfl
  · rfl

theorem State.sendSurfaces_beats (s : State) : s.sendSurfaces.beats = s.beats := by
  unfold State.sendSurfaces
  split
  · split <;> rfl
  · rfl

theorem State.seeJoining_beats (s : State) (joining : Bool) : (s.seeJoining joining).beats = s.beats := by
  unfold State.seeJoining
  split
  · rfl
  · split
    · rfl
    · extract_lets j again
      split
      · exact State.sendDelta_beats ..
      · rfl

/-- A device that joins sets its lock by the owner's heartbeat, and counts heartbeats as before. -/
theorem State.joinPounds_beats (s : State) (h : PartnerHb) : (s.joinPounds h).beats.2 = s.beats.2 := by
  unfold State.joinPounds
  extract_lets t lead p tc a _ _ _ b c _ _ _ d
  have joined : d.beats.2 = s.beats.2 := rfl
  clear_value d
  exact (congrArg Prod.snd ((State.raise_beats ..).trans ((State.wr_beats ..).trans (d.unfit_beats 4)))).trans joined

/-! The tick (R397). -/

section
variable {s : State}

theorem State.hbTick_unpaired (unpaired : s.paired = false) : s.hbTick = s := if_pos (by simp [unpaired])

theorem State.hbTick_beats (paired : s.paired = true) : s.hbTick.beats =
    (s.lock, false, !s.pair.hbOut && !s.pwr.fault, if s.pair.heard then 0 else s.pair.missRun + 1, s.pair.sinceHb + 1, s.pair.hb) := by
  unfold State.hbTick
  extract_lets heard a b c d use e
  rw [if_neg (not_not_intro paired)]
  have turned : a.beats =
      (s.lock, false, !s.pair.hbOut && !s.pwr.fault, if s.pair.heard then 0 else s.pair.missRun + 1, s.pair.sinceHb + 1, s.pair.hb) := rfl
  have missed : b.beats = a.beats := by
    simp only [b]
    split
    · rfl
    · exact (State.raiseOnce_beats ..).trans (a.inc_beats _)
  have told : c.beats = b.beats := State.wr_beats ..
  have used : d.beats = c.beats := State.laneUse_beats ..
  have sent : e.beats = d.beats := State.each_proj State.beats _ (fun s n => s.sendOn_beats ..) _ d
  clear_value e
  refine (State.moreSurfaces_beats _).trans ((State.sendSurfaces_beats _).trans ((State.repeatTake_beats _).trans ?_))
  exact sent.trans (used.trans (told.trans (missed.trans turned)))

/-! A heartbeat that comes (R394, R397). -/

theorem State.hbEdge_heard (paired : s.paired = true) : s.hbEdge = s.modPair (fun p => { p with heard := true }) := if_pos paired

theorem State.hbEdge_unpaired (unpaired : s.paired = false) : s.hbEdge = s := if_neg (by simp [unpaired])

variable {m : TowMsg}

theorem State.towHb_unpaired (unpaired : s.paired = false) : s.towHb m = s := by
  unfold State.towHb
  rw [State.receive_unpaired unpaired]
  exact if_pos (.inl (by simp))

variable (paired : s.paired = true) (lane : m.lane < 4)
include paired lane

theorem State.towHb_bad (bad : m.ok = false) : s.towHb m = s.inc F.TOW_MSG_CNT_BAD := by
  unfold State.towHb
  rw [State.receive_bad paired lane bad]
  exact if_pos (.inl (by simp))

variable (ok : m.ok = true)
include ok

theorem State.towHb_marks (other : m.mtype ≠ 4 ∨ m.data.length < 24) : s.towHb m = s.marked m := by
  unfold State.towHb
  rw [State.receive_good paired lane ok]
  exact if_pos (other.imp_left (fun type => by simp [type]))

/-- What a heartbeat says of its sender, as it is noted. -/
def State.partnerHb (s : State) (b : List Byte) : PartnerHb :=
  { pound := beAt b 0 4, flags := beAt b 4 1, lock := beAt b 5 1, fcnt := beAt b 8 8 % 2 ^ 48, closeS := beAt b 16 4, closeNs := beAt b 20 4,
    at_ := s.clk.now }

/-- What a heartbeat does. -/
def State.hbTaken (s : State) (b : List Byte) : State :=
  let flags := beAt b 4 1
  let lock := beAt b 5 1
  let h := s.partnerHb b
  let since (n : Nat) (o : Option Nat) : Option Nat := if bitAt lock n then (match o with | some t => some t | none => some s.clk.now) else none
  let s := s.modPair (fun p =>
    { p with hb := some h, heard := true, sinceHb := 0, lockAt := (List.range 4).map (fun n => since n ((p.lockAt[n]?).getD none)),
             fcntFix := if bitAt flags 0 ∧ ¬ s.cset.own ∧ h.fcnt ≠ s.scan.fcnt then some h.fcnt else none })
  let hot := s.cm F.TOW_CFG_HOT == 1 && bitAt flags 1
  let was := s.hot
  let s := (s.wr F.TOW_STATUS_HOT (b2n hot)).wr F.TOW_STATUS_PARTNER 1
  let s := if was ∧ ¬ hot then s.unfit 3 else s
  let s := s.laneCheck
  let s := s.seeJoining (bitAt flags 4)
  if s.pair.joinWait ∧ bitAt flags 0 then s.joinPounds h else s.fitCheck

theorem State.towHb_taken (type : m.mtype = 4) (whole : 24 ≤ m.data.length) : s.towHb m = (s.marked m).hbTaken m.data := by
  have acts : ¬ (¬ (m.mtype == 4 && (4 == 4 || s.towUp)) = true ∨ m.data.length < 24) := by simp [type, whole]
  unfold State.towHb
  rw [State.receive_good paired lane ok, ← State.marked]
  exact if_neg acts

omit paired lane ok in
theorem State.hbTaken_heard (s : State) (b : List Byte) : (s.hbTaken b).pair.heard = true ∧ (s.hbTaken b).pair.sinceHb = 0 ∧
    (s.hbTaken b).pair.hb = some (s.partnerHb b) := by
  unfold State.hbTaken
  extract_lets flags lock h since a hot was c d e f
  have noted : a.beats.2 = (true, s.pair.hbOut, s.pair.missRun, 0, some h) := rfl
  have told : c.beats = a.beats := (State.wr_beats ..).trans (a.wr_beats ..)
  have cooled : d.beats = c.beats := by
    simp only [d]
    split
    · exact State.unfit_beats ..
    · rfl
  have used : e.beats = d.beats := State.laneUse_beats ..
  have seen : f.beats = e.beats := State.seeJoining_beats ..
  have before : f.beats.2 = (true, s.pair.hbOut, s.pair.missRun, 0, some h) :=
    (congrArg Prod.snd (seen.trans (used.trans (cooled.trans told)))).trans noted
  have same : h = s.partnerHb b := rfl
  clear_value f h
  have after : (if f.pair.joinWait = true ∧ bitAt flags 0 = true then f.joinPounds h else f.fitCheck).beats.2 =
      (true, s.pair.hbOut, s.pair.missRun, 0, some h) := by
    split
    · exact (f.joinPounds_beats h).trans before
    · exact (congrArg Prod.snd f.fitCheck_beats).trans before
  generalize (if f.pair.joinWait = true ∧ bitAt flags 0 = true then f.joinPounds h else f.fitCheck) = u at after
  simp only [State.beats, Prod.mk.injEq] at after
  obtain ⟨heard, -, -, since, hb⟩ := after
  exact ⟨heard, since, by rw [hb, same]⟩

end

/-! Three heartbeats missed, and a message lost (R404, R406). -/

section
variable {s : State}

theorem State.hbLost_idle (idle : s.lock.running = false ∨ s.pair.missRun < 3) : s.hbLost = s := by
  refine if_neg (fun lost => ?_)
  obtain ⟨runs, missed⟩ := lost
  rcases idle with stands | few
  · simp [stands] at runs
  · omega

theorem State.hbLost_takes (runs : s.lock.running = true) (missed : 3 ≤ s.pair.missRun) : s.hbLost = s.takeOver 2 s.commitPound := if_pos ⟨runs, missed⟩

variable {q : Nat}

theorem State.msgLost_other (other : q ∉ s.pair.gaps) : s.msgLost q = s := if_pos (by simpa using other)

theorem State.msgLost_gap (gap : q ∈ s.pair.gaps) : s.msgLost q = State.deltaTry
    (((s.modPair (fun p => { p with gaps := p.gaps.filter (· ≠ q), sick := true })).inc F.TOW_MSG_CNT_LOST).raiseOnce 0xF41 bTOW 0 q s.pound) :=
  if_neg (by simpa using gap)

end

end Sys2Proof.Machine

namespace Sys2Proof.Proofs

open Machine

/-- Settles O40: what each command counts, and what it leaves of the lock and the pair. -/
theorem heartbeatRules : Obligations.HeartbeatRules := by
  intro s t q m alive
  have tick : exec (.hbTick t) s = .next (s.tick t).hbTick := State.live_alive t State.hbTick alive
  have hb : exec (.towHb t m) s = .next ((s.tick t).towHb m) := State.live_alive t (fun s => s.towHb m) alive
  have edge : exec (.pairHbInEdge t) s = .next (s.tick t).hbEdge := State.live_alive t State.hbEdge alive
  have lost : exec (.hbLost t) s = .next (s.tick t).hbLost := State.live_alive t State.hbLost alive
  have gap : exec (.towMsgLost t q) s = .next ((s.tick t).msgLost q) := State.live_alive t (fun s => s.msgLost q) alive
  rw [tick, hb, edge, lost, gap]
  refine ⟨fun unpaired => ?_, fun paired => ⟨_, rfl, ?_⟩, fun paired => ?_, fun paired lane ok other => ?_,
    fun paired lane ok type whole => ⟨_, rfl, ?_⟩, fun paired lane bad => ?_, fun idle => ?_, fun runs missed follow may none => ?_, fun other => ?_,
    fun missing => ?_⟩
  · rw [State.hbTick_unpaired (s := s.tick t) unpaired, State.towHb_unpaired (s := s.tick t) unpaired, State.hbEdge_unpaired (s := s.tick t) unpaired]
    exact ⟨rfl, rfl, rfl⟩
  · have beats := State.hbTick_beats (s := s.tick t) paired
    simp only [State.beats, Prod.mk.injEq] at beats
    obtain ⟨lock, heard, out, missed, since, -⟩ := beats
    exact ⟨heard, out, missed, since, lock⟩
  · rw [State.hbEdge_heard (s := s.tick t) paired]
    rfl
  · rw [State.towHb_marks (s := s.tick t) paired lane ok other]
    rfl
  · have clk : ((s.tick t).marked m).clk = (s.tick t).clk := (congrArg State.clk ((s.tick t).marked_offMsgs m) :)
    obtain ⟨heard, since, noted⟩ := ((s.tick t).marked m).hbTaken_heard m.data
    rw [State.towHb_taken (s := s.tick t) paired lane ok type whole]
    exact ⟨heard, since, _, noted, rfl, rfl, rfl, (congrArg Clk.now clk).trans (s.tick_now t)⟩
  · rw [State.towHb_bad (s := s.tick t) paired lane bad]
  · rw [State.hbLost_idle (s := s.tick t) idle]
  · obtain ⟨k, taken, cause, at_, committed⟩ := State.takeOver_takes (s := s.tick t) follow may none 2 (s.tick t).commitPound
    rw [State.hbLost_takes (s := s.tick t) runs missed]
    exact ⟨_, k, rfl, taken, cause, at_, committed⟩
  · rw [State.msgLost_other (s := s.tick t) other]
  · rw [State.msgLost_gap (s := s.tick t) missing]
    rfl

end Sys2Proof.Proofs

namespace Sys2Proof.Machine

/-! Contexts and queues of the compression engine (R415, R420). -/

theorem LzSt.ctx_setCtx {l : LzSt} {q : Nat} (held : q < l.ctxs.length) (c : LzCtx) : (l.setCtx q c).ctx q = c := by
  have set : (l.setCtx q c).ctx q = ((modAt l.ctxs q (fun _ => c))[q]?).getD { st := 0, hist := [], saved := none } := rfl
  rw [set, getElem?_modAt, List.getElem?_eq_getElem held]
  rfl

/-- A context that is not EMPTY is one of the engine's. -/
theorem LzSt.ctx_held {l : LzSt} {q : Nat} (used : (l.ctx q).st ≠ 0) : q < l.ctxs.length := by
  by_contra beyond
  apply used
  unfold LzSt.ctx
  rw [List.getElem?_eq_none (Nat.le_of_not_lt beyond)]
  rfl

theorem State.lzSrc_length (s : State) (j : LzJob) : (s.lzSrc j).length = j.len - j.used := by
  have one (b : BasinSt) (a : Nat) : (b.read a 1).length = 1 := rfl
  unfold State.lzSrc BasinSt.readList
  rw [List.length_flatMap]
  simp only [one, List.map_const', List.length_range, List.sum_replicate, smul_eq_mul, mul_one]

/-! The engine takes a job (R421, R423). -/

section
variable {s : State} {q : Nat} {j : LzJob}

theorem State.lzTake_of_start {u : State} (starts : s.lzStart = (u, none)) : s.lzTake = u := by
  unfold State.lzTake
  rw [starts]
  rfl

theorem State.lzTake_idle (idle : s.lz.run.isSome = true ∨ s.basinReady = false ∨ s.lz.ready = none) : s.lzTake = s := by
  refine State.lzTake_of_start ?_
  unfold State.lzStart
  by_cases busy : s.lz.run.isSome = true ∨ ¬ s.basinReady = true
  · exact if_pos busy
  · rw [if_neg busy]
    have none_ : s.lz.ready = none := by
      rcases idle with runs | down | empty
      · exact absurd (.inl runs) busy
      · exact absurd (.inr (by simp [down])) busy
      · exact empty
    rw [none_]

variable (idle : s.lz.run = none) (up : s.basinReady = true) (ready : s.lz.ready = some (q, j))
include idle up ready

/-- The queues once the head job of `q` is taken. -/
def LzSt.taken (l : LzSt) (q : Nat) : LzSt := { l with queues := modAt l.queues q (fun l => l.drop 1) }

theorem State.lzTake_begins (fresh : (s.lz.ctx q).st ≠ 2) (len : j.len ≠ 0) (block : j.block ≠ 0)
    (open_ : j.decode = true ∨ j.first = true ∨ (s.lz.ctx q).st = 1) :
    s.lzTake.lz.run = some j ∧ s.lzTake.lz.queues = modAt s.lz.queues q (fun l => l.drop 1) := by
  have goes : ¬ (s.lz.run.isSome = true ∨ ¬ s.basinReady = true) := by simp [idle, up]
  have sound : ¬ (j.len = 0 ∨ j.block = 0 ∨ (¬ j.decode = true ∧ ¬ j.first = true ∧ (s.lz.ctx q).st ≠ 1)) := by
    rintro (empty | empty | ⟨encodes, later, closed⟩)
    · exact len empty
    · exact block empty
    · exact open_.elim encodes (fun h => h.elim later closed)
  have starts : s.lzStart = ({ s with lz := { (if j.decode = true ∨ ¬ j.first = true then s.lz.taken q
      else (s.lz.taken q).setCtx q { st := 1, hist := [], saved := none }) with run := some j } }, none) := by
    refine (if_neg goes).trans ?_
    rw [ready]
    dsimp only
    exact (if_neg fresh).trans (if_neg sound)
  rw [State.lzTake_of_start starts]
  refine ⟨rfl, ?_⟩
  dsimp only
  split <;> rfl

omit idle up ready in
/-- What SCRATCH held goes where no context is saved; the job and the contexts stay. -/
theorem State.lzFreeScratch_lz (s : State) : s.lzFreeScratch.lz.run = s.lz.run ∧ s.lzFreeScratch.lz.onDie = s.lz.onDie ∧ s.lzFreeScratch.lz.ctxs = s.lz.ctxs := by
  unfold State.lzFreeScratch
  split
  · split <;> exact ⟨rfl, rfl, rfl⟩
  · exact ⟨rfl, rfl, rfl⟩

/-- A suspended job goes on with the history that was saved. -/
theorem State.lzTake_resumes (saved : (s.lz.ctx q).st = 2) :
    s.lzTake.lz.run = some j ∧ s.lzTake.lz.onDie = false ∧
      s.lzTake.lz.ctx q = { st := if s.lzSaved q = [] then 0 else 1, hist := s.lzSaved q, saved := none } := by
  have goes : ¬ (s.lz.run.isSome = true ∨ ¬ s.basinReady = true) := by simp [idle, up]
  have held : q < (s.lz.taken q).ctxs.length := LzSt.ctx_held (l := s.lz) (by omega)
  generalize back : ({ st := if s.lzSaved q = [] then 0 else 1, hist := s.lzSaved q, saved := none } : LzCtx) = c
  have starts : s.lzStart = (State.lzFreeScratch { s with lz := { (s.lz.taken q).setCtx q c with run := some j, onDie := false } }, none) := by
    rw [← back]
    refine (if_neg goes).trans ?_
    rw [ready]
    exact if_pos saved
  obtain ⟨run, onDie, ctxs⟩ := State.lzFreeScratch_lz { s with lz := { (s.lz.taken q).setCtx q c with run := some j, onDie := false } }
  rw [State.lzTake_of_start starts]
  refine ⟨run, onDie, Eq.trans ?_ (LzSt.ctx_setCtx held c)⟩
  exact congrArg (fun l : List LzCtx => (l[q]?).getD { st := 0, hist := [], saved := none }) ctxs

end

/-! A job ends (R422): its status, its context, and what its user's taking the record leaves of them. -/

/-- The running job, the contexts, and the status of the last job. -/
def State.lzEnds (s : State) : Option LzJob × List LzCtx × Nat := (s.lz.run, s.lz.ctxs, s.rd F.LZ_LAST_STATUS)

theorem State.lzSubmit_ends (s : State) (j : LzJob) (src : List Byte) : (s.lzSubmit j src).2.lzEnds = s.lzEnds := by
  unfold State.lzSubmit
  split
  · rfl
  · have lz := s.allocs_lz (lzClass j.queue) (ceilDiv src.length moorSize + ceilDiv j.space moorSize)
    have read := s.allocs_rd (lzClass j.queue) (ceilDiv src.length moorSize + ceilDiv j.space moorSize) (f := F.LZ_LAST_STATUS) (by decide) (by decide)
    generalize s.allocs (lzClass j.queue) (ceilDiv src.length moorSize + ceilDiv j.space moorSize) = r at lz read
    obtain ⟨got, v⟩ := r
    have kept : v.lzEnds = s.lzEnds := Prod.ext (congrArg LzSt.run lz) (Prod.ext (congrArg LzSt.ctxs lz) read)
    cases got with
    | none => exact kept
    | some l =>
      have queued : (v.lzQueue j src l).lzEnds = v.lzEnds := rfl
      exact queued.trans kept

theorem State.sendDelta_ends (s : State) (kind pound : Nat) (body : List Byte) : (s.sendDelta kind pound body).2.lzEnds = s.lzEnds := by
  unfold State.sendDelta
  split
  · rfl
  · exact s.lzSubmit_ends ..

theorem State.sendSurface_ends (s : State) (j : Nat) (x : Nat × Nat) : (s.sendSurface j x).2.lzEnds = s.lzEnds := by
  unfold State.sendSurface
  split
  · rfl
  · exact s.sendDelta_ends ..

theorem State.putSurfaces_ends (j : Nat) : ∀ (l : List (Nat × Nat)) (s : State), (s.putSurfaces j l).lzEnds = s.lzEnds
  | [], _ => rfl
  | x :: r, s => by
    have sent := s.sendSurface_ends j x
    rw [State.putSurfaces]
    split
    · rename_i v taken
      rw [taken] at sent
      exact (State.putSurfaces_ends j r v).trans sent
    · rename_i v full
      rw [full] at sent
      exact sent

theorem State.moreSurfaces_ends (s : State) : s.moreSurfaces.lzEnds = s.lzEnds := by
  unfold State.moreSurfaces
  split
  · split
    · rfl
    · split
      · exact State.putSurfaces_ends ..
      · rfl
  · rfl

theorem State.logLost_ends (s : State) (n : Nat) : (s.logLost n).lzEnds = s.lzEnds := by
  have lz : (s.add F.TOP_LOG_CNT_LOST n).lz = s.lz := State.add_lz ..
  have read : (s.add F.TOP_LOG_CNT_LOST n).rd F.LZ_LAST_STATUS = s.rd F.LZ_LAST_STATUS :=
    State.rd_wr_other s F.TOP_LOG_CNT_LOST F.LZ_LAST_STATUS _ (by decide)
  unfold State.logLost
  split
  · rfl
  · generalize s.add F.TOP_LOG_CNT_LOST n = v at lz read ⊢
    exact Prod.ext (congrArg LzSt.run lz) (Prod.ext (congrArg LzSt.ctxs lz) read)

/-- The user of a job that did not come to its end makes nothing of it. -/
theorem State.lzDeliver_ends (s : State) {r : LzRec} (stopped : r.status ≠ lzDONE) : (s.lzDeliver (some r)).lzEnds = s.lzEnds := by
  unfold State.lzDeliver
  dsimp only
  split
  · rename_i kind pound tag
    unfold State.pairDeliver
    rw [tag]
    dsimp only
    rw [if_pos stopped]
    exact s.moreSurfaces_ends
  · unfold State.logEncoded
    rw [if_neg stopped]
    split
    · exact (State.logLost_ends ..).trans rfl
    · rfl

theorem State.lzFree_keeps (s : State) (j : LzJob) (f : Fld) : ((s.lzFree j).lz, (s.lzFree j).rd f) = (s.lz, s.rd f) := by
  refine State.each_proj (fun s => (s.lz, s.rd f)) _ (fun s m => ?_) _ s
  rfl

/-- How a job that stops leaves its context: OPEN where a block does not fit or is short, BROKEN where the job is abandoned. -/
inductive LzStop : Nat → Nat → Prop where
  | full : LzStop lzFULL 1
  | short : LzStop lzSHORT 1
  | abandoned : LzStop lzABANDONED 3

theorem State.lzEnd_ends {s : State} {j : LzJob} {status st : Nat} (stop : LzStop status st) :
    (s.lzEnd j status).1.lzEnds = (none, modAt s.lz.ctxs j.queue (fun _ => { s.lz.ctx j.queue with st := st }), status) := by
  unfold State.lzEnd
  extract_lets a b c lz out
  have lzKept : a.lz = s.lz := by simp only [a, State.wr_lz]
  have read : a.rd F.LZ_LAST_STATUS = status := by
    have small : status % 2 ^ (F.LZ_LAST_STATUS.hi + 1 - F.LZ_LAST_STATUS.lo) = status := by cases stop <;> rfl
    exact (State.rd_wr _ F.LZ_LAST_STATUS status (by decide) (by decide)).trans small
  clear_value a
  have counted : b.lz = a.lz ∧ b.rd F.LZ_LAST_STATUS = a.rd F.LZ_LAST_STATUS := by
    have one (g : Fld) (other : F.LZ_LAST_STATUS.addr ≠ g.addr) :
        (a.inc g).lz = a.lz ∧ (a.inc g).rd F.LZ_LAST_STATUS = a.rd F.LZ_LAST_STATUS := ⟨a.inc_lz g, a.rd_inc_other other⟩
    cases stop
    · exact one F.LZ_STOP_CNT_STOPS (by decide)
    · exact one F.LZ_STOP_CNT_STOPS (by decide)
    · exact one F.LZ_ERR_CNT_ABANDONED (by decide)
  clear_value b
  obtain ⟨lzNow, readNow⟩ := counted
  have ctxs : lz.ctxs = modAt s.lz.ctxs j.queue (fun _ => { s.lz.ctx j.queue with st := st }) := by
    simp only [lz, c, lzNow, lzKept]
    cases stop <;> rfl
  clear_value lz
  have freed := State.lzFree_keeps { b with lz := { lz with run := none } } j F.LZ_LAST_STATUS
  rw [Prod.mk.injEq] at freed
  obtain ⟨lzFreed, readFreed⟩ := freed
  refine Prod.ext ?_ (Prod.ext ?_ ?_)
  · exact congrArg LzSt.run lzFreed
  · exact (congrArg LzSt.ctxs lzFreed).trans ctxs
  · exact readFreed.trans (readNow.trans read)

theorem State.lzEnd_rec (s : State) (j : LzJob) (status : Nat) : ∃ r, (s.lzEnd j status).2 = some r ∧ r.status = status := ⟨_, rfl, rfl⟩

/-! A block boundary (R422 to R424). -/

section
variable {s : State} {j : LzJob} {fault : Nat}

theorem State.lzBlock_idle (idle : s.lz.run = none) : s.lzBlock fault = s := by
  unfold State.lzBlock State.lzBlockDone
  rw [idle]
  rfl

/-- A job that stops at a boundary leaves nothing running, its context and its status. -/
theorem State.lzBlock_stops {u : State} {status st : Nat} (stop : LzStop status st) (ends : s.lzBlockDone fault = u.lzEnd j status)
    (held : j.queue < u.lz.ctxs.length) :
    (s.lzBlock fault).lz.run = none ∧ ((s.lzBlock fault).lz.ctx j.queue).st = st ∧ (s.lzBlock fault).rd F.LZ_LAST_STATUS = status := by
  obtain ⟨r, record, is⟩ := u.lzEnd_rec j status
  have done : r.status ≠ lzDONE := by
    rw [is]
    cases stop <;> decide
  have result : (s.lzBlock fault).lzEnds = (none, modAt u.lz.ctxs j.queue (fun _ => { u.lz.ctx j.queue with st := st }), status) := by
    unfold State.lzBlock
    rw [ends, record, State.lzDeliver_ends _ done, State.lzEnd_ends stop]
  simp only [State.lzEnds, Prod.mk.injEq] at result
  obtain ⟨run, ctxs, read⟩ := result
  refine ⟨run, ?_, read⟩
  unfold LzSt.ctx
  rw [ctxs, getElem?_modAt, List.getElem?_eq_getElem held]
  rfl

/-- A job that goes on runs, or is set aside at the head of its queue (R423). -/
def State.lzGoes (s u : State) (j : LzJob) : Prop := (u.lz.run = some j ∧ u.basin.mem = s.basin.mem) ∨ j ∈ u.lz.queue j.queue

/-- The state with the job set aside. -/
def State.lzAside (s : State) (j : LzJob) : State :=
  let s := s.inc F.LZ_STOP_CNT_SUSPENDS
  { s with lz := { s.lz with run := none, queues := modAt s.lz.queues j.queue (fun l => j :: l) } }

theorem State.lzAside_queue (held : j.queue < s.lz.queues.length) : j ∈ (s.lzAside j).lz.queue j.queue := by
  unfold State.lzAside
  extract_lets v
  have counted : v.lz = s.lz := State.inc_lz ..
  clear_value v
  unfold LzSt.queue
  dsimp only
  rw [getElem?_modAt, counted, List.getElem?_eq_getElem held]
  exact List.mem_cons_self

theorem State.lzSave_queues (s : State) (q m : Nat) : (s.lzSave q m).lz.queues = s.lz.queues := rfl

/-- An allocation leaves the engine, and one that fails leaves the Basin. -/
theorem State.alloc_lz (s : State) (cls : Nat) : (s.alloc cls).2.lz = s.lz ∧ ((s.alloc cls).1 = none → (s.alloc cls).2.basin = s.basin) := by
  unfold State.alloc
  split
  · exact ⟨State.wr_lz .., fun none => nomatch none⟩
  · unfold State.allocFail
    have counted : (s.inc F.BASIN_ALLOC_FAIL_COUNT).lz = s.lz ∧ (s.inc F.BASIN_ALLOC_FAIL_COUNT).basin = s.basin := ⟨State.inc_lz .., State.inc_basin ..⟩
    generalize s.inc F.BASIN_ALLOC_FAIL_COUNT = v at counted ⊢
    obtain ⟨e, raised⟩ := v.raiseOnce_eq 0xA04 bBASIN cls cls s.pound
    obtain ⟨lz, basin⟩ := counted
    rw [raised]
    exact ⟨lz, fun _ => basin⟩

theorem State.lzContinue_goes (fits : j.stops (s.lz.ctx j.queue) (s.lzSrc j) = false) (held : j.queue < s.lz.queues.length) :
    (s.lzContinue j).2 = none ∧ s.lzGoes (s.lzContinue j).1 j := by
  unfold State.lzContinue
  extract_lets c back higher
  rw [if_neg (by simp [c, fits])]
  split
  · exact ⟨rfl, .inr (State.lzAside_queue (s := { s with lz := { s.lz.setCtx j.queue { c with st := 2 } with onDie := true } }) held)⟩
  · split
    · split
      · exact ⟨rfl, .inr (State.lzAside_queue (by rw [State.lzSave_queues]; exact held))⟩
      · obtain ⟨lz, basin⟩ := s.alloc_lz cSCRATCH
        generalize s.alloc cSCRATCH = r at lz basin
        obtain ⟨_ | m, v⟩ := r
        · exact ⟨rfl, .inl ⟨rfl, congrArg BasinSt.mem (basin rfl)⟩⟩
        · refine ⟨rfl, .inr (State.lzAside_queue ?_)⟩
          rw [State.lzSave_queues]
          exact (congrArg (fun l : LzSt => l.queues.length) lz).symm ▸ held
    · exact ⟨rfl, .inl ⟨rfl, rfl⟩⟩

/-- A block of `used` source bytes is written as `d`, the context is set, and the job ends or goes on. -/
def State.lzGoOn (s : State) (j : LzJob) (used : Nat) (d : List Byte) (c : LzCtx) : State × Option LzRec :=
  let (s, j) := s.lzPut j used d
  let s := { s with lz := s.lz.setCtx j.queue c }
  if j.used = j.len then s.lzEnd j lzDONE else s.lzContinue j

/-- The job once a block of `used` source bytes has become `d`. -/
def LzJob.advance (j : LzJob) (used : Nat) (d : List Byte) : LzJob :=
  { j with used := j.used + used, made := j.made + d.length, blocks := j.blocks + 1 }

/-- The state once block `d` of a job is in its destination range. -/
def State.lzWritten (s : State) (j : LzJob) (d : List Byte) : State := { s with basin := s.basin.writeList j.dstM d j.made }

theorem State.lzGoOn_goes {used : Nat} {d : List Byte} {c : LzCtx} (left : j.used + used ≠ j.len) (queue : j.queue < s.lz.queues.length)
    (ctx : j.queue < s.lz.ctxs.length) (fits : (j.advance used d).stops c ((s.lzWritten j d).lzSrc (j.advance used d)) = false) :
    (s.lzGoOn j used d c).2 = none ∧ (s.lzWritten j d).lzGoes (s.lzGoOn j used d c).1 (j.advance used d) := by
  have goes : s.lzGoOn j used d c = State.lzContinue { s.lzWritten j d with lz := s.lz.setCtx j.queue c } (j.advance used d) := if_neg left
  rw [goes]
  refine State.lzContinue_goes ?_ queue
  have set : LzSt.ctx (s.lz.setCtx j.queue c) j.queue = c := LzSt.ctx_setCtx ctx c
  exact (congrArg (fun c => (j.advance used d).stops c ((s.lzWritten j d).lzSrc (j.advance used d))) set).trans fits

/-- A boundary after which the job goes on. -/
theorem State.lzBlock_of_goOn {u v : State} {e : LzJob} (done : s.lzBlockDone fault = (u, none)) (goes : v.lzGoes u e) :
    v.lzGoes (s.lzBlock fault) e := by
  unfold State.lzBlock
  rw [done]
  exact goes

section
variable (runs : s.lz.run = some j)
include runs

theorem State.lzBlockDone_abandons : s.lzBlockDone 1 = (s.raise 0x121 bLZ j.queue j.blocks).lzEnd j lzABANDONED := by
  unfold State.lzBlockDone
  rw [runs]
  rfl

theorem State.lzBlockDone_encodes (encodes : j.decode = false) : s.lzBlockDone 0 = s.lzEncodeBlock j false := by
  unfold State.lzBlockDone
  rw [runs]
  dsimp only
  rw [encodes]
  rfl

theorem State.lzBlockDone_decodes (decodes : j.decode = true) : s.lzBlockDone 0 = s.lzDecodeBlock j := by
  unfold State.lzBlockDone
  rw [runs]
  dsimp only
  rw [decodes]
  rfl

end

/-! An encoded block (R419, R424). -/

/-- The state that counts an encoded block. -/
def State.lzEncoded (s : State) (raw : Bool) (inn out : Nat) : State :=
  (if raw then s.inc F.LZ_BLK_CNT_RAW else s.inc F.LZ_BLK_CNT_PACKED).lzCount inn out

theorem State.lzEncoded_keeps (s : State) (raw : Bool) (inn out : Nat) : (s.lzEncoded raw inn out).basin = s.basin ∧
    (s.lzEncoded raw inn out).lz.queues = s.lz.queues ∧ (s.lzEncoded raw inn out).lz.ctxs = s.lz.ctxs := by
  have packed : (if raw = true then s.inc F.LZ_BLK_CNT_RAW else s.inc F.LZ_BLK_CNT_PACKED).basin = s.basin ∧
      (if raw = true then s.inc F.LZ_BLK_CNT_RAW else s.inc F.LZ_BLK_CNT_PACKED).lz = s.lz := by
    split <;> exact ⟨State.inc_basin .., State.inc_lz ..⟩
  unfold State.lzEncoded State.lzCount
  generalize (if raw = true then s.inc F.LZ_BLK_CNT_RAW else s.inc F.LZ_BLK_CNT_PACKED) = v at packed ⊢
  extract_lets i o w
  simp only [State.add_basin, State.add_lz]
  obtain ⟨basin, lz⟩ := packed
  exact ⟨basin, (congrArg LzSt.queues lz :), (congrArg LzSt.ctxs lz :)⟩

section
variable {d b : List Byte} {raw : Bool} (data : (s.lzSrc j).take j.block = d) (left : j.used + d.length < j.len)
  (block : lzEncode (s.lz.ctx j.queue).hist d (j.first && j.blocks == 0) false = (b, raw))
include data left block

/-- Of a source with more to come: FULL where the block does not fit, otherwise it is written and the job goes on. -/
theorem State.lzEncodeBlock_more : s.lzEncodeBlock j false =
    if j.space - j.made < b.length then s.lzEnd j lzFULL
    else (s.lzEncoded raw d.length b.length).lzGoOn j d.length b
      { st := 1, hist := lzHist (if j.first && j.blocks == 0 then [] else (s.lz.ctx j.queue).hist) d, saved := none } := by
  have length := s.lzSrc_length j
  have differs : d.length ≠ (s.lzSrc j).length := by omega
  unfold State.lzEncodeBlock
  extract_lets c src e isLast hist after
  have same : e = d := data
  have more : isLast = false := by simp [isLast, same, src, differs]
  have opens : after = { st := 1, hist := lzHist (if j.first && j.blocks == 0 then [] else (s.lz.ctx j.queue).hist) d, saved := none } := by
    simp only [after, more, same, hist, c, Bool.false_eq_true, if_false]
  clear_value e isLast after
  rw [more, same, block, opens]
  exact if_neg (fun checks => Bool.false_ne_true checks.1)

theorem State.lzEncodeBlock_goes (queue : j.queue < s.lz.queues.length) (ctx : j.queue < s.lz.ctxs.length) (fits : b.length ≤ j.space - j.made)
    (next : (j.advance d.length b).stops
      { st := 1, hist := lzHist (if j.first && j.blocks == 0 then [] else (s.lz.ctx j.queue).hist) d, saved := none }
      ((s.lzWritten j b).lzSrc (j.advance d.length b)) = false) :
    (s.lzEncodeBlock j false).2 = none ∧ (s.lzWritten j b).lzGoes (s.lzEncodeBlock j false).1 (j.advance d.length b) := by
  rw [State.lzEncodeBlock_more data left block, if_neg (Nat.not_lt.mpr fits)]
  obtain ⟨basin, queues, ctxs⟩ := s.lzEncoded_keeps raw d.length b.length
  generalize s.lzEncoded raw d.length b.length = v at basin queues ctxs ⊢
  have written : (v.lzWritten j b).basin = (s.lzWritten j b).basin := congrArg (fun x : BasinSt => x.writeList j.dstM b j.made) basin
  have source : (v.lzWritten j b).lzSrc (j.advance d.length b) = (s.lzWritten j b).lzSrc (j.advance d.length b) := by
    unfold State.lzSrc
    rw [written]
  rw [← source] at next
  obtain ⟨quiet, goes⟩ := State.lzGoOn_goes (by omega) (queues ▸ queue) (ctxs ▸ ctx) next
  refine ⟨quiet, goes.imp_left (fun runs => ⟨runs.1, ?_⟩)⟩
  rw [runs.2, written]

end

/-! A decoded block (R418, R422, R424). -/

theorem State.lzDecodeBlock_short (short : lzDecode (s.lz.ctx j.queue) (s.lzSrc j) = .short) : s.lzDecodeBlock j = s.lzEnd j lzSHORT := by
  unfold State.lzDecodeBlock
  extract_lets c
  rw [short]

/-- A block that is not the last: FULL where it does not fit, otherwise it is written and the job goes on. -/
theorem State.lzDecodeBlock_block {used : Nat} {made hist : List Byte} (block : lzDecode (s.lz.ctx j.queue) (s.lzSrc j) = .block used made hist false) :
    s.lzDecodeBlock j = if j.space - j.made < made.length then s.lzEnd j lzFULL
      else s.lzGoOn j used made { st := 1, hist := hist, saved := none } := by
  unfold State.lzDecodeBlock
  extract_lets c
  rw [block]
  rfl

end

end Sys2Proof.Machine

namespace Sys2Proof.Proofs

open Machine

/-- Settles O43: a start takes, resumes or leaves the head job; at a boundary the job goes on, is set aside, or stops with its status. -/
theorem compressionEngine : Obligations.CompressionEngine := by
  intro s t q fault alive
  have start : exec (.lzJobStart t) s = .next (s.tick t).lzTake := State.live_alive t State.lzTake alive
  have done : exec (.lzBlockDone t fault) s = .next ((s.tick t).lzBlock fault) := State.live_alive t (fun s => s.lzBlock fault) alive
  rw [start, done]
  refine ⟨fun idle => ?_, fun j idle up ready fresh len block open_ => ⟨_, rfl, ?_⟩, fun j idle up ready saved => ⟨_, rfl, ?_⟩, fun idle => ?_,
    fun j d hist runs encodes sound was data left queue ctx => ?_, fun j used made hist runs decodes sound block queue ctx => ?_,
    fun j runs decodes sound short ctx => ⟨_, rfl, ?_⟩, fun j runs broken ctx => ⟨_, rfl, ?_⟩⟩
  · rw [State.lzTake_idle (s := s.tick t) idle]
  · exact State.lzTake_begins (s := s.tick t) idle up ready fresh len block open_
  · obtain ⟨run, onDie, resumed⟩ := State.lzTake_resumes (s := s.tick t) idle up ready saved
    refine ⟨run, onDie, ?_, ?_, ?_⟩
    · exact (congrArg LzCtx.hist resumed :)
    · exact (congrArg LzCtx.saved resumed :)
    · rw [resumed]
      dsimp only
      split <;> decide
  · rw [State.lzBlock_idle (s := s.tick t) idle]
  · subst sound was
    intro b e v
    have block : lzEncode ((s.tick t).lz.ctx j.queue).hist d (j.first && j.blocks == 0) false =
        (b, (lzEncode (s.lz.ctx j.queue).hist d (j.first && j.blocks == 0) false).2) := rfl
    have here := State.lzBlockDone_encodes (s := s.tick t) runs encodes
    clear_value b
    refine ⟨fun fits next => ⟨_, rfl, ?_⟩, fun tooLong => ⟨_, rfl, ?_⟩⟩
    · obtain ⟨quiet, goes⟩ := State.lzEncodeBlock_goes (s := s.tick t) data.symm left block queue ctx fits next
      exact State.lzBlock_of_goOn (here.trans (Prod.ext rfl quiet)) goes
    · have more := State.lzEncodeBlock_more (s := s.tick t) data.symm left block
      rw [if_pos tooLong] at more
      exact State.lzBlock_stops .full (here.trans more) ctx
  · subst sound
    intro e v
    have here := State.lzBlockDone_decodes (s := s.tick t) runs decodes
    have one := State.lzDecodeBlock_block (s := s.tick t) block
    refine ⟨fun fits left next => ⟨_, rfl, ?_⟩, fun tooLong => ⟨_, rfl, ?_⟩⟩
    · rw [if_neg (Nat.not_lt.mpr fits)] at one
      obtain ⟨quiet, goes⟩ := State.lzGoOn_goes (s := s.tick t) (by omega) queue ctx next
      exact State.lzBlock_of_goOn ((here.trans one).trans (Prod.ext rfl quiet)) goes
    · rw [if_pos tooLong] at one
      exact State.lzBlock_stops .full (here.trans one) ctx
  · subst sound
    exact State.lzBlock_stops .short ((State.lzBlockDone_decodes (s := s.tick t) runs decodes).trans (State.lzDecodeBlock_short short)) ctx
  · subst broken
    exact State.lzBlock_stops .abandoned (State.lzBlockDone_abandons (s := s.tick t) runs) ctx

end Sys2Proof.Proofs
